-- ==== Sys2Proof/Word.lean ====
section
/-! DEFINITION. The word types of the SPJ-7420: a word is 32 bits (00_scope.md, "Numbers and units"). -/

namespace Sys2Proof

/-- A word is 32 bits. -/
abbrev Word := BitVec 32

/-- A byte; memories are byte addressed and little-endian (R3). -/
abbrev Byte := BitVec 8

/-- One of the 131,072 points, 0x0_0000 to 0x1_FFFF (R63). -/
abbrev PtNum := BitVec 17

/-- A pier register number, g0 to g63 (R133). -/
abbrev Gpr := BitVec 6

/-- One of the 24 pier cores (R22). -/
abbrev CoreId := Fin 24

end Sys2Proof
end

