-- ==== Sys2Proof/Data.lean ====
section
/-! DEFINITION. The data the blocks exchange: point records and descriptors, forces, event records, mirror items, ring
updates. -/

namespace Sys2Proof

/-- The qualities of a point record (R69). -/
inductive Quality where
  | good | init | stale | subst | forced | fault | late | unbound
  deriving DecidableEq, Repr

/-- A point record without the copies R66 takes from the descriptor (FORMAT, OWNER_CLASS), which a reader of the record
forms from the descriptor in force. The default is the record of an unbound point (R81). -/
structure PtRec where
  value : Word := 0
  qual : Quality := .unbound
  chg : Bool := false
  restored : Bool := false
  held : Bool := false
  cal : Bool := false
  sat : Bool := false
  /-- the device ID of the device that stamped the value -/
  origin : Nat := 0
  frame : Nat := 0
  offset : Nat := 0
  deriving DecidableEq, Repr

/-- A point descriptor (R70); the default is an unbound point's. -/
structure Desc where
  cls : Nat := 0
  fmt : Nat := 0
  ownerId : Nat := 0
  lo : Word := 0
  hi : Word := 0
  failValue : Word := 0
  staleLimit : Nat := 0
  failPol : Nat := 0
  pubClass : Nat := 0
  clamp : Bool := false
  noForce : Bool := false
  scale : Word := 0
  off : Word := 0
  deriving DecidableEq, Repr

/-- A force: its value, the stamp of its acceptance and the device that accepted it (R87). -/
structure ForceVal where
  value : Word
  frame : Nat
  offset : Nat
  origin : Nat
  deriving DecidableEq, Repr

/-- A force or release accepted and not yet in effect (R86): `pt = none` is RELEASE_ALL, `val = none` a release; it
takes effect at the tick of frame `due`. -/
structure ForceCmd where
  pt : Option Nat
  val : Option ForceVal
  due : Nat
  deriving DecidableEq, Repr

/-- An event on its way to the record stream: the record of R425 but for its sequence number. -/
structure EvtEntry where
  code : Nat
  sev : Nat
  index : Nat
  task : Nat
  device : Nat
  frame : Nat
  offset : Nat
  kticks : Nat
  epoch : Nat
  list : Nat
  words : List Word
  supp : Nat := 0
  deferred : Bool := false
  remote : Bool := false
  summary : Bool := false
  deriving DecidableEq, Repr

/-- An item of the mirror (R368). Channel items carry what the table of R368 lists for the channel. -/
inductive MirrorItem where
  /-- point delta: point and record -/
  | point (pt : Nat) (r : PtRec)
  /-- words 1, 10 and 12 to 15 of an executed loop's record -/
  | loop (loop : Nat) (words : List Word)
  /-- loop user words, or a line of a mirror window: deck address and words -/
  | line (addr : Nat) (words : List Word)
  | desc (pt : Nat) (d : Desc)
  | force (c : ForceCmd)
  | sol (ch : Nat) (buckets : List Nat) (isOver armed : Bool) (state : Nat)
  | mot (ch : Nat) (pos : Word) (homed aligned : Bool) (alignPos : Word) (state : Nat)
  | fan (ch state attempt : Nat)
  /-- the index of a metering sample, LATCH_SEQ, and PC and R of every energy quantity at that sample -/
  | energy (sample latSeq : Nat) (acc : List (Nat × Nat × Nat))
  /-- a recorder record: its sequence number and 32 words -/
  | record (seq : Nat) (words : List Word)
  /-- a standby's own event, sent to the active (R442) -/
  | event (e : EvtEntry)
  /-- an armed swap (R379): schedule, frame, CRC of the staged image -/
  | swap (sched frame crc : Nat)
  /-- an armed span change (R61): new SEL, frame; frame 0 takes it back -/
  | spanChange (sel frame : Nat)
  /-- the complete clear of R442 -/
  | clear
  /-- of the alignment copy (R380): every descriptor; a deck region, by its address, its length and the bytes in it that are not
  0; the force plane, in effect and accepted; the recorder's HEAD and TAIL -/
  | table (descs : List (Nat × Desc))
  | area (addr len : Nat) (bytes : List (Nat × Byte))
  | plane (forces : List (Nat × ForceVal)) (cmds : List ForceCmd)
  | recorder (head tail : Nat)
  deriving DecidableEq, Repr

/-- An update of a publication frame (R392): `held` says that the stamp frame is o - 1, where `origin` is the origin frame o,
which the frame's header gives (log entry 195). -/
structure Update where
  pt : Nat
  value : Word
  qual : Quality
  flags : Nat
  fmt : Nat
  held : Bool
  offset : Nat
  seq : Nat
  origin : Nat
  deriving DecidableEq, Repr

/-- An update that was launched (on both ports), or that waits for its commit: its publisher, commit tick C and LATE. -/
structure PubUpdate where
  pub : Nat
  commit : Nat
  late : Bool
  u : Update
  deriving DecidableEq, Repr

/-- A ring member as its announce frames report it: device ID, UID, eligibility, hop delays and quota request. -/
structure Member where
  id : Nat
  uid : Nat
  elig : Bool
  /-- delay of the link at its TRE_E port in ps, 0 when that port is not UP -/
  hopE : Nat
  req : Nat
  deriving DecidableEq, Repr


/-- A master's tick marker as it arrives at a port (R389): the frame it carries, the accumulated hop delay in ps, the error
the follower measures against it in ps, and the announcements it carries: a change of D (frame A, new D), the grants (frame,
and the grant of each device by its ID), a span change (frame F, SEL), the ring's P and W. -/
structure Marker where
  master : Nat
  frame : Nat
  accPs : Nat
  errPs : Int
  p : Nat
  wNs : Nat
  d : Nat
  dChange : Option (Nat × Nat)
  grants : Option (Nat × List (Nat × Nat))
  spanChange : Option (Nat × Nat)
  closed : Bool
  deriving DecidableEq, Repr

/-- A publication frame at a port (R392): the port, the items of its header (its type is the only one of the kind), the 16 bytes
of each of its updates, and whether its CRC-32C holds. -/
structure PubFrame where
  port : Nat
  launcher : Nat
  pub : Nat
  commit : Nat
  late : Bool
  origin : Nat
  count : Nat
  hops : Nat
  body : List Byte
  crcOk : Bool
  deriving DecidableEq, Repr

/-- What the device puts on a trestle port: a tick marker, a publication frame or an announce frame with the lowest eligible ID,
each its own or forwarded. -/
inductive TreOut where
  | marker (port : Nat) (k : Marker)
  | pub (port : Nat) (f : PubFrame)
  | announce (port : Nat) (m : Member) (lowest : Option Nat)
  deriving DecidableEq, Repr

end Sys2Proof
end

