-- ==== Sys2Proof/Syntax.lean ====
section
/-! DEFINITION. The commands the block takes (spec/opcode_table.json) and the data they carry. The block has no program
of its own: a command is an event at one of its ports, a step of one of its engines, or an instruction one of its pier
cores executes. What the outside world decides (a sample, a level, a received frame, the outcome of a check the
specification leaves to the hardware) is an operand. -/

namespace Sys2Proof

/-- Who makes an access (R538). -/
inductive Initiator where
  | pier (sched : Fin 24)
  | host | net | w31 | dbg | pointEngine | pierctl | twin | trestle | netMac | field | evr | joint | sup
  deriving DecidableEq, Repr

/-- What the ECC of the words an access reads finds (R17, R21, R154). -/
inductive Ecc where
  | ok | corrected | uncorrectable
  deriving DecidableEq, Repr

/-- A deck request of a non-pier initiator: `len` bytes read, or bytes written, at an address. -/
inductive DeckReq where
  | read (addr : Word) (len : Nat)
  | write (addr : Word) (data : List Byte)
  deriving DecidableEq, Repr

/-- The clocks of R32. -/
inductive Clk where
  | pllD | pllB | pllL | pllN | lf
  deriving DecidableEq, Repr

/-- One conversion of a converter entry as the slice makes it: the uncorrected code, whether the input lay beyond the range
(R235), and COMPL of the group's excitation source at the hold (R247). -/
structure Conv where
  code : Int
  ovr : Bool
  compl : Bool
  deriving DecidableEq, Repr

/-- The commands of the host port (R478), with the operands of their frames; `bad` is any other opcode. -/
inductive HostCmd where
  | status
  | rd (a : Word)
  | wr (a d : Word)
  | rdBurst (a : Word) (n : BitVec 16)
  | wrBurst (a : Word) (ds : List Word)
  | ptRead (p : Word)
  | ptWrite (p v : Word) (q : Byte)
  | blkStart (first : Word) (count : BitVec 16)
  | blkRead (index n : BitVec 16)
  | force (p v : Word)
  | release (p : Word)
  | releaseAll
  | evrRead
  | evrAck (v : Word)
  | bad
  deriving DecidableEq, Repr

/-- A position input event (R291, R292): the Hall pattern, the encoder lines, or an index. -/
inductive PosEdge where
  | hall (code : BitVec 3)
  | enc (a b : Bool)
  deriving DecidableEq, Repr
/-- The commands: one constructor per row of spec/opcode_table.json, in its order. -/
inductive Instr where
  /-- `REGISTER_WRITE` (R5): A write to a control-block register that has no step of its own takes effect by the field access codes. -/
  | registerWrite (i : Initiator) (addr : Word) (data : Word)
  /-- `JOINT_FRAME` (R11): A joint frame of 16 beats arrives and is checked by the joint code. -/
  | jointFrame (badLanes : List (Fin 64))
  /-- `JOINT_SILENCE` (R15): After 1 µs without valid frames from the deck die, the bearing die turns every drive channel OFF and the device resets. -/
  | jointSilence
  /-- `BEARING_READ_DONE` (R13): A bearing-die register read completes 256 ns after its request left the fabric. -/
  | bearingReadDone (i : Initiator) (addr : Word)
  /-- `BEARING_WRITE_EFFECT` (R13): A posted bearing-die register write takes effect 128 ns after it left the fabric. -/
  | bearingWriteEffect
  /-- `DECK_ACCESS` (R19): A deck request from a non-pier initiator is granted by its bank and served. -/
  | deckAccess (i : Initiator) (req : DeckReq) (ecc : Ecc)
  /-- `PLL_LOCK_LOSS` (R32): A PLL loses lock or CK_LF stops; the LOST bit is set and the action for that clock is taken. -/
  | pllLockLoss (k : Clk)
  /-- `PLL_RELOCK` (R32): PLL_N relocks and the stopped network functions resume. -/
  | pllRelock (k : Clk)
  /-- `DEVICE_ID_LOCK` (R37): Setting SYS_DEVICE_ID.LOCK fixes ID against further writes. -/
  | deviceIdLock
  /-- `TICK_MARKER_SEND` (R54): 120 ns before each tick the deck die sends the tick marker into the joint. -/
  | tickMarkerSend (len : Nat)
  /-- `TICK` (R42): The span counter expires: the frame number increments and the commit window opens. -/
  | tick (meas : BitVec 32)
  /-- `BEAR_TICK` (R54): The tick marker reaches the bearing die, which starts its span at that CK_CONV edge. -/
  | bearTick (err : BitVec 8)
  /-- `BEAR_MARKER_MISS` (R57): No marker arrives at a predicted tick; the bearing die starts the span from its own counter, and a second miss turns the drives off and resets. -/
  | bearMarkerMiss
  /-- `COMMAND_SET_SEND` (R43): At tick + 2.0 µs the point engine sends the actuator command set to the joint. -/
  | commandSetSend
  /-- `APPLY_INSTANT` (R43): At tick + 3.0 µs the bearing die applies the whole command set to all drive channels at one CK_DRV edge. -/
  | applyInstant
  /-- `COMMIT_WINDOW_CLOSE` (R43): At tick + 4 µs the commit window closes and stalled accesses proceed. -/
  | commitWindowClose
  /-- `WRITE_CLOSE` (R45): At span − 20 µs write-close is reached, and later point writes are held. -/
  | writeClose
  /-- `INPUT_CLOSE` (R46): At span − 10 µs hardware results stop joining the snapshot of this span. -/
  | inputClose
  /-- `STATUS_SAMPLE` (R282): 12 µs before each tick, channel and meter status words are sampled into their points. -/
  | statusSample
  /-- `BUDGET_OVERRUN` (R52): BC of a frame-partition task reaches 0; the task traps, its writes are restored and its points go STALE. -/
  | budgetOverrun (c : CoreId)
  /-- `SPAN_ARM` (R59): CMD ARM of SPAN_CHG_CTL arms a span-length change or refuses it with a reason. -/
  | spanArm
  /-- `SPAN_CANCEL` (R60): CMD CANCEL aborts an armed change, or is ignored and sets ABORT_LATE. -/
  | spanCancel
  /-- `DESC_READ` (R70): DECK_DESC_CMD READ copies the in-force descriptor into DATA0 to DATA7. -/
  | descRead
  /-- `DESC_WRITE` (R74): DECK_DESC_CMD WRITE stages a descriptor for the next tick, or is refused. -/
  | descWrite
  /-- `DESC_LOCK_SET` (R119): Setting DECK_CTL.DESC_LOCK refuses later descriptor writes until reset. -/
  | descLockSet
  /-- `FORCE` (R85): DECK_FORCE_CMD FORCE takes a force-plane entry for a point, or is refused with a reason. -/
  | force (i : Initiator)
  /-- `RELEASE` (R86): DECK_FORCE_CMD RELEASE releases the force of one point at the next or following tick. -/
  | releaseA (i : Initiator)
  /-- `RELEASE_ALL` (R86): DECK_FORCE_CMD RELEASE_ALL releases every forced point at the same tick. -/
  | releaseAll (i : Initiator)
  /-- `DECK_BLK_START` (R94): START of a block read buffer arms a copy of the next tick's seen plane, or is refused. -/
  | deckBlkStart (n : Fin 3)
  /-- `DECK_BLK_CANCEL` (R93): CANCEL aborts a pending block read, or is ignored and sets ABORT_LATE. -/
  | deckBlkCancel (n : Fin 3)
  /-- `DECK_BLK_RELEASE` (R94): RELEASE returns a READY, ABORTED or REFUSED buffer to IDLE. -/
  | deckBlkRelease (n : Fin 3)
  /-- `BLK_COPY_DONE` (R93): A block copy completes; STATE reads READY and BLKn_FRAME gives the tick. -/
  | blkCopyDone (n : Fin 3)
  /-- `LOAD` (R115): PIERCTL LOAD starts admission of an image for a schedule. -/
  | loadSched (sched : Fin 24)
  /-- `ADMISSION_DONE` (R110): Admission finishes its checks and admits the image or reports the first failing REASON. -/
  | admissionDone
  /-- `BANK_COPY_DONE` (R115): The admitted image has been copied into the idle bank and STAGED is set. -/
  | bankCopyDone
  /-- `SWAP_ARM` (R117): PIERCTL ARM makes the staged image active at tick F, or is refused. -/
  | swapArm (sched : Fin 24)
  /-- `SWAP_CANCEL` (R118): PIERCTL CANCEL aborts an armed swap, or is ignored and sets ABORT_LATE. -/
  | swapCancel (sched : Fin 24)
  /-- `STOP` (R130): PIERCTL STOP makes the schedule STOPPED from the next tick. -/
  | stopSched (sched : Fin 24)
  /-- `BP_SLICE_EXPIRY` (R104): A background task has run BP_SLICE µs and leaves the pier, and its state is saved. -/
  | bpSliceExpiry (c : CoreId)
  /-- `BP_RESTART` (R123): A write to BP_CTL.RESTART restarts a stopped background task from its ENTRY. -/
  | bpRestart (sched : Fin 24) (mask : BitVec 4)
  /-- `OVL_START` (R120): OVL_CTL.START begins an overlay copy into the overlay window, or is refused. -/
  | ovlStart (sched : Fin 24)
  /-- `OVL_COPY_DONE` (R120): The overlay copy ends and stalled fetches from the window resume. -/
  | ovlCopyDone (sched : Fin 24)
  /-- `MIGRATION_COPY_DONE` (R127): The copy of a retired pier's images to a spare completes and the CRC check is made. -/
  | migrationCopyDone
  /-- `ADD` (R141): gd := ga + gb, with flags when S is 1. -/
  | add (c : CoreId) (gd ga gb : Gpr) (s : Bool)
  /-- `SUB` (R141): gd := ga − gb, with flags when S is 1. -/
  | sub (c : CoreId) (gd ga gb : Gpr) (s : Bool)
  /-- `ADC` (R141): gd := ga + gb + C. -/
  | adc (c : CoreId) (gd ga gb : Gpr) (s : Bool)
  /-- `SBC` (R141): gd := ga − gb − (1 − C). -/
  | sbc (c : CoreId) (gd ga gb : Gpr) (s : Bool)
  /-- `AND` (R141): Bitwise AND of ga and gb. -/
  | andA (c : CoreId) (gd ga gb : Gpr) (s : Bool)
  /-- `OR` (R141): Bitwise OR of ga and gb. -/
  | orA (c : CoreId) (gd ga gb : Gpr) (s : Bool)
  /-- `XOR` (R141): Bitwise XOR of ga and gb. -/
  | xorA (c : CoreId) (gd ga gb : Gpr) (s : Bool)
  /-- `ANDN` (R141): ga AND NOT gb. -/
  | andn (c : CoreId) (gd ga gb : Gpr) (s : Bool)
  /-- `SHL` (R141): Shift left by gb[4:0]. -/
  | shl (c : CoreId) (gd ga gb : Gpr) (s : Bool)
  /-- `SHR` (R141): Logical shift right by gb[4:0]. -/
  | shr (c : CoreId) (gd ga gb : Gpr) (s : Bool)
  /-- `SAR` (R141): Arithmetic shift right by gb[4:0]. -/
  | sar (c : CoreId) (gd ga gb : Gpr) (s : Bool)
  /-- `ROR` (R141): Rotate right by gb[4:0]. -/
  | ror (c : CoreId) (gd ga gb : Gpr) (s : Bool)
  /-- `LTS` (R141): Signed less-than comparison into gd. -/
  | lts (c : CoreId) (gd ga gb : Gpr)
  /-- `LTU` (R141): Unsigned less-than comparison into gd. -/
  | ltu (c : CoreId) (gd ga gb : Gpr)
  /-- `MIN` (R141): Signed minimum. -/
  | minA (c : CoreId) (gd ga gb : Gpr)
  /-- `MAX` (R141): Signed maximum. -/
  | maxA (c : CoreId) (gd ga gb : Gpr)
  /-- `MINU` (R141): Unsigned minimum. -/
  | minu (c : CoreId) (gd ga gb : Gpr)
  /-- `MAXU` (R141): Unsigned maximum. -/
  | maxu (c : CoreId) (gd ga gb : Gpr)
  /-- `ADDI` (R143): gd := ga + sext(imm14). -/
  | addi (c : CoreId) (gd ga : Gpr) (imm : BitVec 14)
  /-- `ANDI` (R143): gd := ga AND zext(imm14). -/
  | andi (c : CoreId) (gd ga : Gpr) (imm : BitVec 14)
  /-- `ORI` (R143): gd := ga OR zext(imm14). -/
  | ori (c : CoreId) (gd ga : Gpr) (imm : BitVec 14)
  /-- `XORI` (R143): gd := ga XOR zext(imm14). -/
  | xori (c : CoreId) (gd ga : Gpr) (imm : BitVec 14)
  /-- `SHLI` (R143): Shift left by an immediate. -/
  | shli (c : CoreId) (gd ga : Gpr) (sh : BitVec 5)
  /-- `SHRI` (R143): Logical shift right by an immediate. -/
  | shri (c : CoreId) (gd ga : Gpr) (sh : BitVec 5)
  /-- `SARI` (R143): Arithmetic shift right by an immediate. -/
  | sari (c : CoreId) (gd ga : Gpr) (sh : BitVec 5)
  /-- `LTSI` (R143): Signed compare with an immediate. -/
  | ltsi (c : CoreId) (gd ga : Gpr) (imm : BitVec 14)
  /-- `LTUI` (R143): Unsigned compare with an immediate. -/
  | ltui (c : CoreId) (gd ga : Gpr) (imm : BitVec 14)
  /-- `IML` (R143): gd := zext(imm16). -/
  | iml (c : CoreId) (gd : Gpr) (imm : BitVec 16)
  /-- `IMH` (R143): Sets the high half of gd and keeps its low half. -/
  | imh (c : CoreId) (gd : Gpr) (imm : BitVec 16)
  /-- `MUL` (R144): Low 32 bits of the product. -/
  | mulA (c : CoreId) (gd ga gb : Gpr)
  /-- `MULHS` (R144): High 32 bits of the signed product. -/
  | mulhs (c : CoreId) (gd ga gb : Gpr)
  /-- `MULHU` (R144): High 32 bits of the unsigned product. -/
  | mulhu (c : CoreId) (gd ga gb : Gpr)
  /-- `MULP` (R144): Signed 64-bit product into a register pair. -/
  | mulp (c : CoreId) (gd ga gb : Gpr)
  /-- `MULPU` (R144): Unsigned 64-bit product into a register pair. -/
  | mulpu (c : CoreId) (gd ga gb : Gpr)
  /-- `DIV` (R144): Signed quotient, saturating and never trapping. -/
  | divA (c : CoreId) (gd ga gb : Gpr)
  /-- `DIVU` (R144): Unsigned quotient, saturating. -/
  | divu (c : CoreId) (gd ga gb : Gpr)
  /-- `DIVM` (R144): Signed quotient and remainder into a pair. -/
  | divm (c : CoreId) (gd ga gb : Gpr)
  /-- `DIVMU` (R144): Unsigned quotient and remainder into a pair. -/
  | divmu (c : CoreId) (gd ga gb : Gpr)
  /-- `QADD` (R145): Saturating Q31 add. -/
  | qadd (c : CoreId) (gd ga gb : Gpr)
  /-- `QSUB` (R145): Saturating Q31 subtract. -/
  | qsub (c : CoreId) (gd ga gb : Gpr)
  /-- `QMUL` (R145): Saturating rounded Q31 product. -/
  | qmul (c : CoreId) (gd ga gb : Gpr)
  /-- `QMAC` (R145): Q31 multiply-accumulate into gd. -/
  | qmac (c : CoreId) (gd ga gb : Gpr)
  /-- `QMSU` (R145): Q31 multiply-subtract from gd. -/
  | qmsu (c : CoreId) (gd ga gb : Gpr)
  /-- `QNEG` (R145): Saturating Q31 negation. -/
  | qneg (c : CoreId) (gd ga : Gpr)
  /-- `QABS` (R145): Saturating Q31 absolute value. -/
  | qabs (c : CoreId) (gd ga : Gpr)
  /-- `QSHL` (R145): Saturating Q31 shift left. -/
  | qshl (c : CoreId) (gd ga gb : Gpr)
  /-- `FADD` (R147): Binary32 add. -/
  | fadd (c : CoreId) (gd ga gb : Gpr)
  /-- `FSUB` (R147): Binary32 subtract. -/
  | fsub (c : CoreId) (gd ga gb : Gpr)
  /-- `FMUL` (R147): Binary32 multiply. -/
  | fmul (c : CoreId) (gd ga gb : Gpr)
  /-- `FMA` (R147): Fused multiply-add into gd. -/
  | fma (c : CoreId) (gd ga gb : Gpr)
  /-- `FMS` (R147): Fused multiply-subtract from gd. -/
  | fms (c : CoreId) (gd ga gb : Gpr)
  /-- `FDIV` (R147): Binary32 divide. -/
  | fdiv (c : CoreId) (gd ga gb : Gpr)
  /-- `FSQRT` (R147): Binary32 square root. -/
  | fsqrt (c : CoreId) (gd ga : Gpr)
  /-- `FMIN` (R148): Smaller operand, with NaN propagated. -/
  | fmin (c : CoreId) (gd ga gb : Gpr)
  /-- `FMAX` (R148): Larger operand, with NaN propagated. -/
  | fmax (c : CoreId) (gd ga gb : Gpr)
  /-- `FABS` (R147): Clears the sign bit. -/
  | fabs (c : CoreId) (gd ga : Gpr)
  /-- `FNEG` (R147): Inverts the sign bit. -/
  | fneg (c : CoreId) (gd ga : Gpr)
  /-- `FCEQ` (R148): Float equality comparison. -/
  | fceq (c : CoreId) (gd ga gb : Gpr)
  /-- `FCLT` (R148): Float less-than comparison. -/
  | fclt (c : CoreId) (gd ga gb : Gpr)
  /-- `FCLE` (R148): Float less-or-equal comparison. -/
  | fcle (c : CoreId) (gd ga gb : Gpr)
  /-- `FCUN` (R148): Unordered test. -/
  | fcun (c : CoreId) (gd ga gb : Gpr)
  /-- `ITOF` (R147): Converts I32 to F32. -/
  | itof (c : CoreId) (gd ga : Gpr)
  /-- `UTOF` (R147): Converts U32 to F32. -/
  | utof (c : CoreId) (gd ga : Gpr)
  /-- `QTOF` (R147): Converts Q31 to F32. -/
  | qtof (c : CoreId) (gd ga : Gpr)
  /-- `FTOI` (R148): Converts F32 to I32, truncated and saturating. -/
  | ftoi (c : CoreId) (gd ga : Gpr)
  /-- `FTOU` (R148): Converts F32 to U32, truncated and saturating. -/
  | ftou (c : CoreId) (gd ga : Gpr)
  /-- `FTOQ` (R148): Converts F32 to Q31, rounded to nearest even. -/
  | ftoq (c : CoreId) (gd ga : Gpr)
  /-- `BEQ` (R149): Branches if ga = gb. -/
  | beq (c : CoreId) (ga gb : Gpr) (off : BitVec 14)
  /-- `BNE` (R149): Branches if ga ≠ gb. -/
  | bne (c : CoreId) (ga gb : Gpr) (off : BitVec 14)
  /-- `BLT` (R149): Branches if ga < gb, signed. -/
  | blt (c : CoreId) (ga gb : Gpr) (off : BitVec 14)
  /-- `BGE` (R149): Branches if ga ≥ gb, signed. -/
  | bge (c : CoreId) (ga gb : Gpr) (off : BitVec 14)
  /-- `BLTU` (R149): Branches if ga < gb, unsigned. -/
  | bltu (c : CoreId) (ga gb : Gpr) (off : BitVec 14)
  /-- `BGEU` (R149): Branches if ga ≥ gb, unsigned. -/
  | bgeu (c : CoreId) (ga gb : Gpr) (off : BitVec 14)
  /-- `CALL` (R150): Links and jumps, background code only. -/
  | call (c : CoreId) (gd : Gpr) (off : BitVec 14)
  /-- `JMPR` (R150): Indirect jump with link, trapping on a misaligned target. -/
  | jmpr (c : CoreId) (gd ga : Gpr)
  /-- `LOOP` (R151): Opens a counted-loop level over the following body words. -/
  | loopA (c : CoreId) (count : BitVec 10) (body : BitVec 16)
  /-- `LW` (R154): Loads a local word. -/
  | lw (c : CoreId) (gd ga : Gpr) (imm : BitVec 14) (ecc : Ecc)
  /-- `LH` (R154): Loads a local half-word, sign-extended. -/
  | lh (c : CoreId) (gd ga : Gpr) (imm : BitVec 14) (ecc : Ecc)
  /-- `LHU` (R154): Loads a local half-word, zero-extended. -/
  | lhu (c : CoreId) (gd ga : Gpr) (imm : BitVec 14) (ecc : Ecc)
  /-- `LB` (R154): Loads a local byte, sign-extended. -/
  | lb (c : CoreId) (gd ga : Gpr) (imm : BitVec 14) (ecc : Ecc)
  /-- `LBU` (R154): Loads a local byte, zero-extended. -/
  | lbu (c : CoreId) (gd ga : Gpr) (imm : BitVec 14) (ecc : Ecc)
  /-- `SW` (R154): Stores a local word. -/
  | sw (c : CoreId) (gd ga : Gpr) (imm : BitVec 14)
  /-- `SH` (R154): Stores a local half-word. -/
  | sh (c : CoreId) (gd ga : Gpr) (imm : BitVec 14)
  /-- `SB` (R154): Stores a local byte. -/
  | sb (c : CoreId) (gd ga : Gpr) (imm : BitVec 14)
  /-- `DLW` (R155): Loads a deck word. -/
  | dlw (c : CoreId) (gd ga : Gpr) (imm : BitVec 14) (ecc : Ecc)
  /-- `DLQ` (R155): Loads 16 deck bytes into a quad. -/
  | dlq (c : CoreId) (gd ga : Gpr) (imm : BitVec 14) (ecc : Ecc)
  /-- `DLL` (R155): Loads a 32-byte deck line into a register line. -/
  | dll (c : CoreId) (gd ga : Gpr) (imm : BitVec 14) (ecc : Ecc)
  /-- `DSW` (R155): Stores a deck word. -/
  | dsw (c : CoreId) (gd ga : Gpr) (imm : BitVec 14)
  /-- `DSQ` (R155): Stores a quad to the deck. -/
  | dsq (c : CoreId) (gd ga : Gpr) (imm : BitVec 14)
  /-- `DSL` (R155): Stores a line to the deck. -/
  | dsl (c : CoreId) (gd ga : Gpr) (imm : BitVec 14)
  /-- `DCAS` (R156): Compare-and-swap of a deck word in one bank access. -/
  | dcas (c : CoreId) (gd ga gb : Gpr) (ecc : Ecc)
  /-- `CLW` (R157): Reads a control-block register word. -/
  | clw (c : CoreId) (gd ga : Gpr) (imm : BitVec 14)
  /-- `CSW` (R157): Writes a control-block register word. -/
  | csw (c : CoreId) (gd ga : Gpr) (imm : BitVec 14)
  /-- `FENCE` (R158): Waits until every earlier write of the pier has taken effect. -/
  | fence (c : CoreId)
  /-- `PLD` (R160): Loads the VALUE of a seen record. -/
  | pld (c : CoreId) (g : Gpr) (p : PtNum)
  /-- `PLD_P` (R160): Loads VALUE and bytes 4 to 7 of a seen record. -/
  | pldP (c : CoreId) (g : Gpr) (p : PtNum)
  /-- `PLD_R` (R160): Loads the whole 16-byte seen record. -/
  | pldR (c : CoreId) (g : Gpr) (p : PtNum)
  /-- `PLD_X` (R160): Loads the VALUE of an indexed point. -/
  | pldX (c : CoreId) (g : Gpr) (p : PtNum)
  /-- `PLD_N` (R77): Loads the owner's next-plane value. -/
  | pldN (c : CoreId) (g : Gpr) (p : PtNum)
  /-- `PLD_NP` (R160): Loads the owner's next-plane value and bytes 4 to 7. -/
  | pldNp (c : CoreId) (g : Gpr) (p : PtNum)
  /-- `PQ` (R160): Loads byte 4 of the seen record. -/
  | pq (c : CoreId) (g : Gpr) (p : PtNum)
  /-- `PST` (R162): Writes a point with quality GOOD, checked against ownership. -/
  | pst (c : CoreId) (g : Gpr) (p : PtNum)
  /-- `PST_X` (R160): Writes an indexed point, background code only. -/
  | pstX (c : CoreId) (g : Gpr) (p : PtNum)
  /-- `PSTQ` (R76): Writes a point with an explicit quality. -/
  | pstq (c : CoreId) (g : Gpr) (p : PtNum) (q : BitVec 3)
  /-- `TGET` (R163): Reads the frame number and the stamp offset. -/
  | tget (c : CoreId) (gd : Gpr)
  /-- `KGET` (R163): Reads the keystone count copy and the epoch. -/
  | kget (c : CoreId) (gd : Gpr)
  /-- `EVT` (R164): Raises a pier event record 0xF00 + n. -/
  | evt (c : CoreId) (gd ga : Gpr) (code : Byte)
  /-- `CSRR` (R165): Reads a CSR. -/
  | csrr (c : CoreId) (g : Gpr) (csr : BitVec 14)
  /-- `CSRW` (R165): Writes a CSR, in effect only FLAGS. -/
  | csrw (c : CoreId) (g : Gpr) (csr : BitVec 14)
  /-- `YIELD` (R167): Ends a frame-partition task and dispatches the next, or yields background time. -/
  | yieldA (c : CoreId)
  /-- `TRAP` (R168): Takes a software trap, cause 6. -/
  | trapA (c : CoreId)
  /-- `PIDS` (R188): Steps a PID loop and writes its output point. -/
  | pids (c : CoreId) (gd : Gpr) (loop : BitVec 14) (mode : BitVec 6)
  /-- `BIQ` (R190): Steps a transposed direct-form II biquad. -/
  | biq (c : CoreId) (gd : Gpr) (loop : BitVec 14) (mode : BitVec 6)
  /-- `CASC` (R192): Steps the outer loop of a cascade and sets the inner setpoint. -/
  | casc (c : CoreId) (gd : Gpr) (loop : BitVec 14) (mode : BitVec 6)
  /-- `SWAPK_ARM` (R199): Arms the staged coefficient set. -/
  | swapkArm (c : CoreId) (gd : Gpr) (loop : BitVec 14) (mode : BitVec 6)
  /-- `SWAPK_CANCEL` (R199): Cancels an armed staged set. -/
  | swapkCancel (c : CoreId) (gd : Gpr) (loop : BitVec 14) (mode : BitVec 6)
  /-- `SWAPK_STATUS` (R186): SWAPK with no change returns STATUS. -/
  | swapkStatus (c : CoreId) (gd : Gpr) (loop : BitVec 14) (mode : BitVec 6)
  /-- `CLAMPW` (R195): Clamps a register into the output limits. -/
  | clampw (c : CoreId) (gd : Gpr) (loop : BitVec 14) (mode : BitVec 6)
  /-- `RATE` (R196): Rate-limits a register against U_PREV. -/
  | rate (c : CoreId) (gd : Gpr) (loop : BitVec 14) (mode : BitVec 6)
  /-- `INTG` (R197): Integrates a register into I, clamped. -/
  | intg (c : CoreId) (gd : Gpr) (loop : BitVec 14) (mode : BitVec 6)
  /-- `INTG_LOAD` (R197): Loads I from a register, clamped. -/
  | intgLoad (c : CoreId) (gd : Gpr) (loop : BitVec 14) (mode : BitVec 6)
  /-- `PRIME` (R208): Places a loop in INIT at once. -/
  | prime (c : CoreId) (gd : Gpr) (loop : BitVec 14) (mode : BitVec 6)
  /-- `PRIME_FETCH` (R208): Copies the keystone word into PRIME_VAL, then places the loop in INIT. -/
  | primeFetch (c : CoreId) (gd : Gpr) (loop : BitVec 14) (mode : BitVec 6)
  /-- `REF_ENABLE` (R214): Setting CONV_REF_CTL.EN enables REFBUF and starts the 3 ms settling count. -/
  | refEnable
  /-- `REF_READY` (R214): 384,000 CK_CONV cycles after enable, READY becomes 1. -/
  | refReady
  /-- `REF_DISABLE` (R215): Clearing CONV_REF_CTL.EN disables REFBUF, or is ignored while a sequencer is enabled. -/
  | refDisable
  /-- `SEQ_ENABLE` (R217): Setting SEQn_CTL.EN checks the configuration and enters WAIT, or refuses with a REASON. -/
  | seqEnable (n : Fin 32)
  /-- `SEQ_DISABLE` (R227): Clearing SEQn_CTL.EN aborts any run and enters OFF. -/
  | seqDisable (n : Fin 32)
  /-- `SEQ_START` (R219): A START command triggers the sequencer. -/
  | seqStart (n : Fin 32)
  /-- `SEQ_ABORT` (R226): An ABORT stops a run before its commit point, or is ignored and sets ABORT_LATE. -/
  | seqAbort (n : Fin 32)
  /-- `PHASE_TRIGGER` (R219): The PHASE instant of a DIV-th span triggers a sequencer. -/
  | phaseTrigger (n : Fin 32)
  /-- `ENTRY_START` (R221): An entry is granted its group's slice at an entry boundary and begins acquisition. -/
  | entryStart (slice : Fin 17) (t : Nat)
  /-- `ENTRY_COMPLETE` (R222): An entry completes; its result is formed and sent to the ring and the point. -/
  | entryComplete (slice : Fin 17) (convs : List Conv)
  /-- `PENDING_RUN_START` (R224): One CK_CONV cycle after a DONE commit with PENDING set, the next run starts. -/
  | pendingRunStart (n : Fin 32)
  /-- `CAL_SLOT_START` (R240): At the first entry boundary of its slot, SS takes over group k and Sk starts calibrating. -/
  | calSlotStart
  /-- `CAL_COEFF_CHECK` (R243): At T − 10 ms the new coefficients are checked against the factory values. -/
  | calCoeffCheck (coefs : List (Word × Word))
  /-- `CAL_SLOT_END` (R240): At the first entry boundary after T, Sk returns with new coefficients and SS is released. -/
  | calSlotEnd
  /-- `ROT_EN_WRITE` (R241): A write of ROT_EN stops the rotation at the end of the slot, or resumes it. -/
  | rotEnWrite (b : Bool)
  /-- `SENS_CHK_ENABLE` (R250): Setting SENS_CHKm_CFG.EN enables a check, or refuses it with a REASON. -/
  | sensChkEnable (m : Fin 128)
  /-- `SOL_ENABLE` (R270): Setting SOL_CHn_CFG.EN checks the configuration and enters IDLE armed. -/
  | solEnable (n : Fin 32)
  /-- `SOL_DISABLE` (R270): Clearing EN turns the gates low and ends a stroke ABORTED. -/
  | solDisable (n : Fin 32)
  /-- `SOL_PICK` (R266): The PICK command gives ON to a REG channel. -/
  | solPick (n : Fin 32)
  /-- `SOL_OFF` (R266): The OFF command releases the channel and re-arms it. -/
  | solOff (n : Fin 32)
  /-- `SOL_ABORT` (R272): ABORT ends a stroke before its commit point, or is ignored and sets ABORT_LATE. -/
  | solAbort (n : Fin 32)
  /-- `SOL_CLEAR` (R280): CLEAR returns a FAULT channel to IDLE, disarmed, once the current is at most IOFF. -/
  | solClear (n : Fin 32)
  /-- `SOL_PWM_PERIOD` (R263): A solenoid PWM period starts; the regulation, AVG duty update and period energy are computed. -/
  | solPwmPeriod (n : Fin 32) (samples : List Int) (vsol : BitVec 16)
  /-- `PICK_END` (R271): T_PICK expires, or POST expires after MOVED; the stroke commits to HOLD or to FAULT for NOMOVE. -/
  | pickEnd (n : Fin 32)
  /-- `SOL_RELEASE_DONE` (R270): The current stays at most IOFF for 4 samples; the channel enters IDLE and a kept ON becomes a pick request. -/
  | solReleaseDone (n : Fin 32)
  /-- `GRP_WAIT_EXPIRY` (R278): A request queued GRP_WAIT leaves the queue with GRP_TIMEOUT and returns IDLE disarmed. -/
  | grpWaitExpiry (n : Fin 32)
  /-- `I2T_UPDATE` (R274): Every 1 ms the i²t sum S is formed, and OVER is set or cleared by the limit. -/
  | i2tUpdate (n : Fin 32)
  /-- `SOL_CHANNEL_FAULT` (R280): An overcurrent, gate or clamp fault turns the low side off and enters FAULT. -/
  | solChannelFault (n : Fin 32) (reason : BitVec 4)
  /-- `NODECAY_EXPIRY` (R280): The current is still above IOFF 1.0 s after a release or fault began, giving NODECAY. -/
  | nodecayExpiry (n : Fin 32)
  /-- `MOT_ENABLE` (R299): Setting MOT_CHn_CFG.EN checks the configuration, zeroes POS and HOMED and enters IDLE armed. -/
  | motEnable (n : Fin 12)
  /-- `MOT_DISABLE` (R297): Clearing EN turns the gates low and ends a move ABORTED. -/
  | motDisable (n : Fin 12)
  /-- `MOVE` (R295): The MOVE command is a start request, refused while HOMED is 0. -/
  | moveMot (n : Fin 12)
  /-- `HOME` (R303): The HOME command starts a homing move. -/
  | homeMot (n : Fin 12)
  /-- `MOT_STOP` (R298): The STOP command is a stop request; in RUN it commits the move and enters STOPPING. -/
  | motStop (n : Fin 12)
  /-- `MOT_ABORT` (R298): ABORT before the commit point gives ABORTED and STOPPING, or is ignored and sets ABORT_LATE. -/
  | motAbort (n : Fin 12)
  /-- `MOT_CLEAR` (R301): CLEAR at standstill returns a FAULT channel to IDLE. -/
  | motClear (n : Fin 12)
  /-- `MOT_PERIOD_START` (R289): At each PWM period start the current loop steps and the obstruction, limit and state checks run. -/
  | motPeriodStart (n : Fin 12) (ia ib ic : Int) (vmot : BitVec 16)
  /-- `POSITION_EDGE` (R291): A Hall or encoder edge moves POS and the angle. -/
  | positionEdge (n : Fin 12) (e : PosEdge)
  /-- `HALL_INVALID_PERSIST` (R292): A Hall code 0b000 or 0b111 persisting for 2 µs raises a POSITION fault. -/
  | hallInvalidPersist (n : Fin 12)
  /-- `STANDSTILL` (R291): POS unchanged for STILL_T ms marks standstill and ends STOPPING, REVERSE or COAST. -/
  | standstill (n : Fin 12)
  /-- `ALIGN_END` (R294): After 100 ms of ALIGN, ALIGN_POS := POS, ALIGNED is set and RUN begins. -/
  | alignEnd (n : Fin 12)
  /-- `SL_LOCK_TIMEOUT` (R293): A sensorless start not locked within 5 s raises a POSITION fault. -/
  | slLockTimeout (n : Fin 12)
  /-- `BRAKE_TIMEOUT` (R302): BRK_TMO passes without MOVED; the brake has failed and the motor enters ENGAGE with FAULT BRAKE. -/
  | brakeTimeout (n : Fin 12)
  /-- `ENGAGE_END` (R302): BRK_ENG ms after the brake release completes, the motor leaves ENGAGE for IDLE. -/
  | engageEnd (n : Fin 12)
  /-- `HOME_FOUND` (R303): The home condition occurs; POS := HOME_POS, HOMED := 1 and the move commits to STOPPING. -/
  | homeFound (n : Fin 12)
  /-- `MOT_CHANNEL_FAULT` (R301): An overcurrent, gate or VMOT fault sends the channel to FAULT and commands the brake OFF. -/
  | motChannelFault (n : Fin 12) (reason : BitVec 4)
  /-- `FAN_ENABLE` (R314): Setting FAN_CHn_CFG.EN checks the limits and enters IDLE armed. -/
  | fanEnable (n : Fin 16)
  /-- `FAN_DISABLE` (R316): Clearing EN sets duty 0 and ends a start ABORTED. -/
  | fanDisable (n : Fin 16)
  /-- `FAN_ABORT` (R316): ABORT before the commit point ends the start ABORTED, or is ignored and sets ABORT_LATE. -/
  | fanAbort (n : Fin 16)
  /-- `FAN_RESTART` (R315): RESTART takes a LOCKED channel to KICK with attempt 1. -/
  | fanRestart (n : Fin 16)
  /-- `FAN_CLEAR` (R321): CLEAR returns a FAULT channel to IDLE, disarmed. -/
  | fanClear (n : Fin 16)
  /-- `TACH_EDGE` (R311): An accepted tachometer edge ends a pulse interval and updates TREV and RPM. -/
  | tachEdge (n : Fin 16) (interval : Nat)
  /-- `START_TIMEOUT` (R315): START_TO passes without TACH_SEEN; the attempt fails into RETRY or LOCKED. -/
  | startTimeout (n : Fin 16)
  /-- `KICK_END` (R316): KICK_T ends with TACH_SEEN; the channel commits into RUN at DSTART. -/
  | kickEnd (n : Fin 16)
  /-- `RETRY_GAP_END` (R315): The retry gap ends and the next attempt begins in KICK. -/
  | retryGapEnd (n : Fin 16)
  /-- `FAN_LOOP_STEP` (R317): Every 1 ms in RUN the speed loop sets a new duty. -/
  | fanLoopStep (n : Fin 16)
  /-- `TACH_LOSS` (R318): No edge for more than three expected intervals gives a TACH_LOST, OPEN or STALL verdict by IMEAN. -/
  | tachLoss (n : Fin 16)
  /-- `TACH_LOST_TEST` (R319): Every 1 ms in TACH_LOST, IMEAN is tested for OPEN or STALL. -/
  | tachLostTest (n : Fin 16)
  /-- `FAN_PWM_PERIOD` (R323): A fan PWM period ends and its energy goes to metering. -/
  | fanPwmPeriod (n : Fin 16) (samples : List Int) (vin : BitVec 16)
  /-- `FAN_CHANNEL_FAULT` (R321): An overcurrent or gate fault sends the fan channel to FAULT. -/
  | fanChannelFault (n : Fin 16) (reason : BitVec 4)
  /-- `DRIVING_CHANGE` (R362): DRIVING changes with OWN_OUT and the filtered OWN_IN; when it falls, every channel is forced IDLE and outputs float. -/
  | drivingChange (ownIn : Bool)
  /-- `METER_SAMPLE_READY` (R337): A metering sample becomes available; power, accumulation, no-load and clip are processed. -/
  | meterSampleReady (codes : List Int)
  /-- `LATCH_DONE` (R345): A latch completes within 40 µs, LATCH_SEQ increments and NEWEST names the bank. -/
  | latchDone
  /-- `ZERO_CROSS_MARK` (R331): A phase-locked timer marks a line zero-cross and feeds the ZC triggers and switching slots. -/
  | zeroCrossMark (line : Fin 3) (rising : Bool)
  /-- `HALF_CYCLE_END` (R335): A half cycle of the reference line ends; Urms(1/2), tracking, voltage events and the mains PFW cause are evaluated. -/
  | halfCycleEnd
  /-- `FREQ_INTERVAL` (R335): Every 10 s the frequency is computed and written. -/
  | freqInterval
  /-- `ZSW_SWITCH` (R334): DELAY µs after the chosen zero-cross, the slot changes its GPIO level. -/
  | zswSwitch (k : Fin 4)
  /-- `LATCH_NOW` (R345): LATCH_NOW latches at the next sample and restarts the cycle count. -/
  | latchNow
  /-- `LAT_OPEN` (R346): OPEN locks the bank holding the newest set. -/
  | latOpen
  /-- `LAT_CLOSE` (R346): CLOSE releases the locked bank. -/
  | latClose
  /-- `METER_LOAD` (R342): LOAD sets PC and R of a quantity while RUN is 0. -/
  | meterLoad
  /-- `SAVE_MARK` (R353): A write of METER_SAVE_MARK records save-mark PC values, or sets SAVE_REFUSED. -/
  | saveMark (v : Word)
  /-- `CONSUME` (R354): CONSUME writes 0x5A to byte 2 of the residue block. -/
  | consume
  /-- `METER_RUN` (R353): Setting RUN starts accumulation and records the current PCs as the save mark. -/
  | meterRun
  /-- `EPULSE_TIMER` (R343): A pulse output's pulse or gap time ends, and the next pulse from BACKLOG starts. -/
  | epulseTimer (k : Fin 4)
  /-- `PFW_RAISE` (R350): VIN below 17 V for 1 µs, or the mains condition, raises PFW. -/
  | pfwRaise (cause : BitVec 2)
  /-- `RESIDUE_WRITTEN` (R351): The residue block is formed and written to keystone RAM; STATE is WRITTEN and BLK_DONE is set. -/
  | residueWritten
  /-- `PFW_CLEAR` (R350): After 10 ms without a cause and with VIN at or above 17.5 V, PFW clears. -/
  | pfwClear
  /-- `TWIN_HANDSHAKE` (R365): The arbitration handshake completes and the roles are decided. -/
  | twinHandshake (id : BitVec 16) (pref : Bool) (role : BitVec 3) (crcs : List (Nat × Nat))
  /-- `ARB_TIMEOUT` (R366): No handshake within ARB_TMO; a device with OWN_IN low becomes ACTIVE alone. -/
  | arbTimeout
  /-- `CONTENTION` (R366): Both OWN_OUT lines high for 2 µs; both devices drop OWN_OUT. -/
  | contention
  /-- `CONTENTION_RECHECK` (R366): After 1 ms or 3 ms a device re-raises OWN_OUT if OWN_IN is low, else goes STANDBY. -/
  | contentionRecheck
  /-- `MIRROR_FRAME` (R368): A mirror frame of span content arrives on the twin link. -/
  | mirrorFrame (items : List MirrorItem)
  /-- `HEARTBEAT` (R369): The heartbeat of span N arrives with count and CRC, completing that span's mirror. -/
  | heartbeat (frame : BitVec 48) (count : Nat) (crcOk : Bool)
  /-- `HEARTBEAT_DEADLINE` (R372): At tick − 2 µs the standby judges the heartbeat and OWN_IN witnesses. -/
  | heartbeatDeadline
  /-- `TAKEOVER` (R373): 1 µs before the takeover tick the standby raises OWN_OUT and becomes ACTIVE. -/
  | takeover
  /-- `PLANNED_RELEASE` (R376): TWIN_CMD RELEASE arms a handover at frame R, or is refused. -/
  | plannedRelease
  /-- `RELEASE_CANCEL` (R376): TWIN_CMD CANCEL aborts a planned release, or is ignored and sets ABORT_LATE. -/
  | releaseCancel
  /-- `RELEASE_DROP` (R376): 2 µs before tick R the active device drops OWN_OUT. -/
  | releaseDrop
  /-- `REALIGN` (R380): TWIN_CMD REALIGN starts an alignment copy. -/
  | realign
  /-- `ALIGN_DONE` (R380): The alignment copy completes and TWIN_ALIGN.DONE is set. -/
  | alignDone (items : List MirrorItem)
  /-- `TWIN_LANE_DOWN` (R372): A twin lane stops passing frames, and the link is lost when no lane passes. -/
  | twinLaneDown (l : Fin 2)
  /-- `TWIN_LANE_UP` (R364): A twin lane passes frames again; LINKFAULT returns to STANDBY and aligns. -/
  | twinLaneUp (l : Fin 2)
  /-- `TWIN_RESET_ORDER` (R468): A reset order arrives from the partner and resets with cause TWIN, or is refused. -/
  | twinResetOrder
  /-- `LANE_BLOCK_LOCK` (R385): A trestle receiver gains block lock and the port enters TRAINING. -/
  | laneBlockLock (p : Fin 2)
  /-- `TRAINING_DONE` (R385): Probe exchange completes, the hop delay is measured and the port is UP.
  `rt` is the mean probe round trip less the neighbour's turnaround, in steps of 1/8 UI (R386). -/
  | trainingDone (p : Fin 2) (rt : BitVec 20) (nbr : BitVec 16)
  /-- `LANE_LOCK_LOSS` (R385): Block lock lost for 1 µs, or 64 errored blocks, takes the port DOWN. -/
  | laneLockLoss (p : Fin 2) (cause : Byte)
  /-- `RING_TRAIN_TIMEOUT` (R387): No port UP within 100 ms; the ring state becomes OFF with reason LINK. -/
  | ringTrainTimeout
  /-- `ANNOUNCE_FRAME` (R387): An election announce frame arrives and is forwarded both ways. -/
  | announceFrame (m : Member) (lowest : BitVec 16)
  /-- `ELECTION_SETTLED` (R387): The same master seen for 4 spans moves the device to JOINING. -/
  | electionSettled
  /-- `JOIN_LOCKED` (R387): Tick error within ±1 ns for 8 spans moves the device to RUN. -/
  | joinLocked
  /-- `TRE_TICK_MARKER` (R389): A master tick marker arrives; it is forwarded and the tick counter is corrected. -/
  | treTickMarker (p : Fin 2) (k : Marker)
  /-- `MASTER_MARKER_MISS` (R390): No master marker for 3 ticks enters HOLDOVER and restarts election. -/
  | masterMarkerMiss
  /-- `UPDATE_FRAME` (R392): A publication frame arrives, is checked, forwarded, deduplicated and queued for commit. -/
  | updateFrame (f : PubFrame)
  /-- `QUEUE_LAUNCH` (R398): Queued updates launch when the next span's quota opens. -/
  | queueLaunch
  /-- `SUPPLY_SWITCH` (R400): The keystone supply switches between VKI and VBAT, and BAT_SW counts switches to VBAT. -/
  | supplySwitch (toVbat : Bool)
  /-- `LOSS_LATCH` (R402): VKEEP below 1.6 V for 50 ns latches LOSS and invalidates the keystone. -/
  | lossLatch
  /-- `OSC_STOP_DETECT` (R405): No CK_LF edge for 2 ms latches OSC_STOP and clears TIME_OK. -/
  | oscStopDetect
  /-- `VALIDATE` (R406): KEEP_CMD VALIDATE is accepted only with LOSS 1 and TIME_OK 1, else sets VAL_REFUSED. -/
  | validate
  /-- `VALIDATE_EDGE` (R406): At the next CK_LF edge an accepted VALIDATE writes an empty residue block, sets MARK and KEEP_VALID and clears LOSS. -/
  | validateEdge
  /-- `COMMIT` (R413): KEEP_CMD COMMIT sets PENDING to load S into the count. -/
  | commitA (i : Initiator)
  /-- `ADJUST` (R413): KEEP_CMD ADJUST sets PENDING to add S to the count. -/
  | adjust (i : Initiator)
  /-- `COMMIT_EDGE` (R414): At the next CK_LF edge the pending set changes all 48 bits and increments the epoch. -/
  | commitEdge
  /-- `TK_LO_READ` (R411): A read of KEEP_TK_LO captures the initiator's shadows and starts the expiry timer. -/
  | tkLoRead (i : Initiator)
  /-- `TK_FLG_READ` (R411): A read of KEEP_TK_FLG returns the shadowed flags, or the live flags. -/
  | tkFlgRead (i : Initiator)
  /-- `TK_HI_READ` (R411): A read of KEEP_TK_HI returns the high count and epoch and releases the shadows. -/
  | tkHiRead (i : Initiator)
  /-- `SHADOW_EXPIRY` (R412): 1,024 µs after a capture without a HI read, the set is released and the latch is set. -/
  | shadowExpiry (i : Initiator)
  /-- `KEEP_RAM_WRITE` (R408): A write to a keystone RAM word takes effect at once, gated by BLK_EN for words 0 to 11. -/
  | keepRamWrite (w : Fin 32) (d : Word)
  /-- `TRIM_WRITE` (R417): A write of KEEP_TRIM is stored and takes effect at the next trim window. -/
  | trimWrite (d : BitVec 10)
  /-- `WAKE_PERIOD_END` (R419): A wake period ends; WAKE is set and KEEP_WAKE_N pulses low. -/
  | wakePeriodEnd
  /-- `THAW_CATCHUP` (R420): At the first CK_LF edge after thaw the count takes the frozen value plus the hidden count plus 1. -/
  | thawCatchup
  /-- `RECORD_WRITE` (R429): The recorder writes the next queued event as a record and advances HEAD. -/
  | recordWrite
  /-- `TOKEN_RETURN` (R431): At every P-th tick a token returns to a code's bucket. -/
  | tokenReturn (code : BitVec 12)
  /-- `WIN_LATCH` (R434): A read of window word 0 latches the record at POS. -/
  | winLatch (n : Fin 4)
  /-- `WIN_ADVANCE` (R434): The first read of word 31 after a latch advances POS under AUTOADV. -/
  | winAdvance (n : Fin 4)
  /-- `CUR_POS_WRITE` (R434): A write of EVR_CURn_POS moves POS, or sets BAD. -/
  | curPosWrite (n : Fin 4) (v : Word)
  /-- `CUR_ACK_WRITE` (R436): A write of EVR_CURn_ACK acknowledges records and moves TAIL, or sets ACK_REFUSED. -/
  | curAckWrite (n : Fin 4) (v : Word)
  /-- `CLR_FIRST` (R439): A write of 0x0000_0C1E to EVR_CLR starts a clear sequence. -/
  | clrFirst (i : Initiator)
  /-- `CLR_SECOND` (R439): A write of 0x0000_E1C0 completes the clear; TAIL and all cursors become HEAD. -/
  | clrSecond (i : Initiator)
  /-- `CLR_EXPIRY` (R439): A pending clear sequence ends unfinished after 1 ms. -/
  | clrExpiry
  /-- `THERMAL_COMPARATOR` (R447): A sensor crosses the SHUTDOWN threshold and sets SHUTDOWN within 20 µs. -/
  | thermalComparator (i : Fin 8)
  /-- `CALDRIFT_TIMER` (R452): PERM set for 86,400 s sets CALDRIFT. -/
  | caldriftTimer
  /-- `SELFTEST_QUEUED_START` (R455): A queued test starts when the running test of its class ends. -/
  | selftestQueuedStart (cls : Fin 5)
  /-- `SELFTEST_DONE` (R456): A test ends and the verdict TRANSIENT or LASTING is given from its result and history. -/
  | selftestDone (cls : Fin 5) (pass : Bool)
  /-- `TRACK_EXPIRY` (R456): In the expiry slots, tracking entries whose window has passed are freed. -/
  | trackExpiry
  /-- `HEALTH_RETIRE` (R458): HEALTH_RETIRE CMD from a host retires a unit as a LASTING verdict would. -/
  | healthRetire (i : Initiator) (cls : BitVec 3) (unit : BitVec 15)
  /-- `THR_WRITE` (R448): A write of HEALTH_THR lowers the thresholds, or is ignored whole. -/
  | thrWrite (d : Word)
  /-- `POR_ASSERT` (R461): A monitored supply falls below its POR threshold and reset is asserted. -/
  | porAssert
  /-- `POR_RELEASE` (R461): All monitored supplies at release level for 1 ms release reset. -/
  | porRelease (boot : BitVec 2) (rolePref : Bool)
  /-- `RST_PIN` (R463): RST_N low for at least 1 µs resets the device with cause PIN. -/
  | rstPin (boot : BitVec 2) (rolePref : Bool)
  /-- `WDOG_ENABLE` (R467): Setting SYS_WDOG_CTL.EN starts the watchdog until reset. -/
  | wdogEnable
  /-- `WDOG_KICK` (R467): 0x0000_5AFE restarts the watchdog period; any other value resets with cause WDOG. -/
  | wdogKick (v : Word)
  /-- `WDOG_EXPIRY` (R467): The watchdog period ends without a kick and resets with cause WDOG. -/
  | wdogExpiry
  /-- `SOFT_RESET` (R469): SYS_RST_CMD SOFT with the key resets the device. -/
  | softReset
  /-- `TWIN_RESET_CMD` (R468): SYS_RST_CMD TWIN with the key sends a reset order over the twin link. -/
  | twinResetCmd
  /-- `BUILD_OUT_START` (R473): 1 ms after the reset clears, the build-out starts the PLLs and reads the fuses. -/
  | buildOutStart (plls : BitVec 4) (joint : Bool)
  /-- `BUILD_PLL_TIMEOUT` (R473): A PLL not locked by 10 ms ends the build-out as DEAD. -/
  | buildPllTimeout
  /-- `BUILD_TESTS_DONE` (R473): Unit tests complete; failures are retired, spares chosen, the recorder starts and the keystone and meter checks are made. -/
  | buildTestsDone (ms : BitVec 16) (failed : List (Fin 5 × Nat))
  /-- `XSPI_ANSWER` (R473): The xSPI device first answers and the boot ROM reads both manifests. -/
  | xspiAnswer (manA manB : List Byte)
  /-- `BOOT_SLOT_LOADED` (R472): A boot slot has been copied and its digest checked; it is admitted or the other slot is tried. -/
  | bootSlotLoaded (image : List Byte)
  /-- `BOOT_GO` (R472): SYS_BOOT_CMD.GO checks and admits a host-written boot image. -/
  | bootGo
  /-- `PD_SWITCH_REQUEST` (R470): A write of SYS_PD_CTL.ON requests a domain on or off, or is refused. -/
  | pdSwitchRequest (on : BitVec 10)
  /-- `PD_SWITCH_DONE` (R470): A domain switch completes, with its return tests when switched on. -/
  | pdSwitchDone (d : Fin 10) (failed : List (Fin 5 × Nat))
  /-- `START_GO` (R475): SYS_START_CTL.GO in CONFIG starts the start-up order. -/
  | startGo
  /-- `ADMIT_DONE` (R475): 10 µs after LOADER_BUSY is 0, SPAN_CTL.RUN is set and tick 0 begins. -/
  | admitDone
  /-- `JOIN_TIMEOUT` (R475): JOIN_TMO passes and joining continues in service. -/
  | joinTimeout
  /-- `OUTPUT_STEP` (R475): 1 µs before tick P + 2, OWN_OUT rises if the role allows and outputs are enabled. -/
  | outputStep
  /-- `STATUS` (R478): Host STATUS returns the status byte. -/
  | status
  /-- `RD` (R478): Host RD reads one word. -/
  | rd (a : Word)
  /-- `WR` (R478): Host WR writes one word. -/
  | wr (a d : Word)
  /-- `RD_BURST` (R478): Host RD_BURST reads N words at ascending addresses. -/
  | rdBurst (a : Word) (n : BitVec 16)
  /-- `WR_BURST` (R478): Host WR_BURST writes N words at ascending addresses. -/
  | wrBurst (a : Word) (ds : List Word)
  /-- `PT_READ` (R478): Host PT_READ returns a point record of one tick. -/
  | ptRead (p : Word)
  /-- `PT_WRITE` (R478): Host PT_WRITE writes a HOST point with a quality. -/
  | ptWrite (p v : Word) (q : Byte)
  /-- `BLK_START` (R478): Host BLK_START starts a block read on buffer 0. -/
  | blkStart (first : Word) (count : BitVec 16)
  /-- `BLK_READ` (R478): Host BLK_READ returns records from READY buffer 0. -/
  | blkRead (index n : BitVec 16)
  /-- `HOST_FORCE` (R478): Host FORCE forces a point as DECK_FORCE_CMD does. -/
  | hostForce (p v : Word)
  /-- `HOST_RELEASE` (R478): Host RELEASE releases a forced point. -/
  | hostRelease (p : Word)
  /-- `HOST_RELEASE_ALL` (R478): Host RELEASE_ALL releases every forced point. -/
  | hostReleaseAll
  /-- `EVR_READ` (R478): Host EVR_READ returns the HOST window record, latching and advancing. -/
  | evrRead
  /-- `EVR_ACK` (R478): Host EVR_ACK acknowledges records through the HOST cursor. -/
  | evrAck (v : Word)
  /-- `HOST_FRAME_ABORT` (R479): CS_HOST_N rises early; the command completes, its data is discarded and TIMEOUTS counts it. -/
  | hostFrameAbort (cmd : Option HostCmd)
  /-- `W31_READ` (R482): A window read of an 8-bit offset returns the snapshot byte. -/
  | w31Read (a : Byte)
  /-- `W31_READ_L` (R486): A read of an _L offset returns the low byte and latches the high byte. -/
  | w31ReadL (a : Byte)
  /-- `W31_READ_H` (R486): A read of an _H offset returns the latched or current high byte. -/
  | w31ReadH (a : Byte)
  /-- `W31_WRITE` (R484): A write of an 8-bit RW field converts and commits at once. -/
  | w31Write (a d : Byte)
  /-- `W31_WRITE_L` (R486): A write of an _L offset holds the byte, abandoning any other held byte. -/
  | w31WriteL (a d : Byte)
  /-- `W31_WRITE_H` (R486): A write of an _H offset commits the held word, or counts ORPHAN. -/
  | w31WriteH (a d : Byte)
  /-- `W31_PAGE_WRITE` (R486): A write of PAGE selects a zone and clears latches and any held byte. -/
  | w31PageWrite (d : Byte)
  /-- `W31_SNAPSHOT_DONE` (R485): The window snapshot of every bound field completes by tick + 10 µs. -/
  | w31SnapshotDone
  /-- `NET_RX_FRAME` (R488): An Ethernet frame is received, filtered, checked and placed in the receive ring. -/
  | netRxFrame (m : Fin 2) (f : List Byte) (crcOk : Bool)
  /-- `SVC_REQUEST` (R492): A service-access datagram executes one host command and sends the response. -/
  | svcRequest (m : Fin 2) (f : List Byte)
  /-- `SVC_NOTIFY` (R492): Every 100 ms while the NET cursor has PEND, a NOTIFY datagram is sent. -/
  | svcNotify (m : Fin 2)
  /-- `NET_TX_KICK` (R489): Software advances the transmit SW index and the MAC sends the queued frames. -/
  | netTxKick (m : Fin 2)
  /-- `NET_TX_DONE` (R489): A frame has been sent and the device advances DEV. -/
  | netTxDone (m : Fin 2)
  /-- `MDIO_GO` (R488): MDIO GO starts a PHY management access. -/
  | mdioGo (m : Fin 2)
  /-- `MDIO_DONE` (R488): The MDIO access completes and BUSY clears. -/
  | mdioDone (m : Fin 2) (data : BitVec 16)
  /-- `FLD_ENABLE` (R495): Setting FIELD_ENGe_CTL.EN enables an engine, or is refused. -/
  | fldEnable (e : Fin 12)
  /-- `FLD_RX_FRAME` (R494): A field-bus frame is received, checked and placed in the ring or mapped to its point. -/
  | fldRxFrame (e : Fin 12) (f : List Byte) (ok : Bool)
  /-- `FLD_TX_FRAME` (R494): The engine sends the next frame from its transmit ring. -/
  | fldTxFrame (e : Fin 12)
  /-- `MSTP_TIMER` (R495): An MS/TP timer expires and the data-link state machine acts. -/
  | mstpTimer (e : Fin 12)
  /-- `REPLY_POSTPONED` (R495): No reply within 250 ms answers a Data Expecting Reply frame with Reply Postponed. -/
  | replyPostponed (e : Fin 12)
  /-- `MB_TRANSACTION` (R496): After the gap, the Modbus master starts the next mapped or queued transaction. -/
  | mbTransaction (e : Fin 12)
  /-- `MB_REPLY_TIMEOUT` (R496): No valid reply within PARAM.C ms repeats the request or counts a timeout. -/
  | mbReplyTimeout (e : Fin 12)
  /-- `KNX_REPEAT` (R498): An unacknowledged KNX frame is repeated, up to three times. -/
  | knxRepeat (e : Fin 12)
  /-- `I2C_GO` (R500): I²C GO starts a transfer, or is refused. -/
  | i2cGo (m : Fin 4)
  /-- `I2C_DONE` (R500): An I²C transfer ends with DONE or NACK. -/
  | i2cDone (m : Fin 4) (nack : BitVec 2) (data : List Byte)
  /-- `I2C_STRETCH_TIMEOUT` (R500): Clock stretching beyond 10 ms ends the transfer with TIMEOUT. -/
  | i2cStretchTimeout (m : Fin 4)
  /-- `SPI_GO` (R500): SPI GO starts a transfer, or is refused. -/
  | spiGo (m : Fin 4)
  /-- `SPI_DONE` (R500): An SPI transfer of LEN bytes completes. -/
  | spiDone (m : Fin 4) (data : List Byte)
  /-- `GPIO_EDGE` (R501): A GPIO level stable for DB ms is accepted, counting an edge and feeding triggers and homing. -/
  | gpioEdge (n : Fin 32) (level : Bool)
  /-- `FREEZE_PIN` (R502): The FREEZE pin changes, activating or releasing the PIN source. -/
  | freezePin (level : Bool)
  /-- `FRZ_X_IN_CHANGE` (R502): FRZ_X_IN changes, activating or releasing the TWIN source. -/
  | frzXInChange (level : Bool)
  /-- `FREEZE_MARKER` (R503): A ring freeze marker arrives, is forwarded and freezes the device under RING_IN. -/
  | freezeMarker (p : Fin 2)
  /-- `DBG_FREEZE` (R502): A write of DBG_FRZ_CTL.FREEZE activates the SOFT source. -/
  | dbgFreeze
  /-- `CLOCK_GATE` (R504): 2 µs after the freeze, all eight clocks are gated off. -/
  | clockGate
  /-- `RO_FREEZE` (R506): RO_CTL FREEZE over JTAG activates the SOFT source. -/
  | roFreeze
  /-- `RO_THAW` (R508): RO_CTL THAW releases the latched sources, and the device thaws if none is left. -/
  | roThaw
  /-- `EXTEST` (R506): JTAG EXTEST selects the boundary register while frozen. -/
  | extest
  /-- `SAMPLE_PRELOAD` (R506): JTAG SAMPLE/PRELOAD selects the boundary register. -/
  | samplePreload (cells : List Bool)
  /-- `IDCODE` (R506): JTAG IDCODE returns the 32-bit identity. -/
  | idcode
  /-- `RO_ADDR` (R506): JTAG RO_ADDR sets the readout address. -/
  | roAddr (a : Word)
  /-- `RO_DATA` (R507): Capture of RO_DATA reads the word at RO_ADDR and advances it by 4. -/
  | roData (idle : Nat)
  /-- `BYPASS` (R506): JTAG BYPASS selects the 1-bit register. -/
  | bypass
  /-- `CK_LF_EDGE` (R410): At each CK_LF edge the keystone count increments, or takes an added or skipped trim pulse, the KGET copy is updated and the wake and freeze counters advance. -/
  | ckLfEdge
  /-- `ILLEGAL_INSTRUCTION` (R140): Background code executes a reserved encoding, or fetches from a PC outside the code memory, and takes an illegal-instruction trap of cause 2. -/
  | illegalInstruction (c : CoreId)
  /-- `TWIN_TICK_MARKER` (R367): The standby of a pair outside a ring receives the active device's tick and frame number over the twin link and disciplines its span counter with the measured link delay. -/
  | twinTickMarker (frame : BitVec 48)
  /-- `LANE_ERRORED_BLOCKS` (R453): A lane sees 16 errored blocks within 1 ms, short of link loss, and a LANE self-test of that lane starts. -/
  | laneErroredBlocks (l : Fin 4)
  /-- `VGD_LOW` (R460): VGD falls below 10.5 V, or returns above it, and every gate driver holds its output low while it is below. -/
  | vgdLow (low : Bool)
  /-- `NOFLASH` (R473): The boot ROM's wait for the first answer of the xSPI device runs out, and the boot attempt fails with reason NOFLASH. -/
  | noflash
  /-- `ETH_LINK_CHANGE` (R488): The external PHY link of a MAC comes up or goes down, setting LINK and SPEED in NET_MACm_CTL. -/
  | ethLinkChange (m : Fin 2) (up : Bool) (speed : BitVec 2)
  deriving DecidableEq, Repr

end Sys2Proof
end

