-- ==== Sys2Proof/Machine/Flags.lean ====
section
/-! DEFINITION. The flag computations of the pier's arithmetic (R142) and the saturation of its Q31 arithmetic (R145). -/

namespace Sys2Proof.Machine

/-- Z and N of a result (R142). -/
def flagZ (r : Word) : Bool := r == 0

/-- N of a result. -/
def flagN (r : Word) : Bool := r.getLsbD 31

/-- V: the signed result does not fit in 32 bits (R142). -/
def flagV (z : Int) : Bool := decide (z < -2 ^ 31 ∨ 2 ^ 31 ≤ z)

/-- C of an addition with carry in (R142). -/
def carryAdd (a b : Word) (cin : Nat) : Bool := decide (2 ^ 32 ≤ a.toNat + b.toNat + cin)

/-- C of a subtraction with borrow in (R142): no borrow. -/
def carrySub (a b : Word) (bin : Nat) : Bool := decide (b.toNat + bin ≤ a.toNat)

/-- The Q31 saturation of R145: the result, and whether QS is set. -/
def sat31 (z : Int) : Word × Bool :=
  if 2 ^ 31 - 1 < z then (0x7FFFFFFF, true)
  else if z < -2 ^ 31 then (0x80000000, true)
  else (BitVec.ofInt 32 z, false)

/-- The rounded Q31 product of R145: (a × b + 2^30) >> 31. -/
def prod31 (a b : Word) : Int := (a.toInt * b.toInt + 2 ^ 30) / 2 ^ 31

end Sys2Proof.Machine
end

