-- ==== Sys2Proof/Machine/PierInfo.lean ====
section
/-! DEFINITION. What the timing, pairing and admission of a pier instruction need to know of it (05_pier_instruction_reference.md):
its registers, its figures C, L and W (R133), whether it may pair (R135), whether it is a listed encoding and whether
frame-partition code may hold it. -/

namespace Sys2Proof.Machine

/-- The figures of one pier instruction. -/
structure PierOp where
  core : Nat
  /-- registers read and written, g0 left out -/
  reads : List Nat
  writes : List Nat
  /-- C, and L (R133) -/
  cost : Nat
  lat : Nat
  /-- W, the loader's figure (R133) -/
  wcost : Nat
  /-- may belong to a pair (R135) -/
  pairs : Bool := false
  /-- reads the flag C; sets Z, N, C and V (R142): an instruction that reads C does not pair with one that sets it (R98) -/
  carryIn : Bool := false
  flagsOut : Bool := false
  /-- the operands are a listed encoding (R138, R140) -/
  legal : Bool := true
  /-- admitted in frame-partition code (R140), g56 to g63 apart -/
  fp : Bool := true
  deriving DecidableEq, Repr

/-- Register numbers without g0. -/
def regList (l : List Nat) : List Nat := l.filter (· ≠ 0)

/-- The `n` registers from `g`. -/
def regGroup (g : Gpr) (n : Nat) : List Nat := (List.range n).map (g.toNat + ·)

/-- `g` names a group of `n` registers (R136). -/
def groupOk (g : Gpr) (n : Nat) : Bool := g.toNat % n == 0 && g.toNat != 0

/-- An instruction that pairs, with C 1 and latency `l`. -/
def opPair (c : CoreId) (gd : Gpr) (rs : List Gpr) (l : Nat) : PierOp where
  core := c
  reads := regList (rs.map (·.toNat))
  writes := regList [gd.toNat]
  cost := 1
  lat := l
  wcost := 1
  pairs := true

/-- As `opPair` with two operands and L 1, of an instruction that writes C with `sets` (R142). -/
def opCarry (c : CoreId) (gd ga gb : Gpr) (sets : Bool) : PierOp := { opPair c gd [ga, gb] 1 with flagsOut := sets }

/-- As `opPair`, into a register pair. -/
def opWide (c : CoreId) (gd ga gb : Gpr) (l : Nat) : PierOp :=
  { opPair c gd [ga, gb] l with writes := regGroup gd 2, legal := groupOk gd 2 }

/-- A division or square root: it does not pair, and takes `k` cycles. -/
def opSlow (c : CoreId) (gd : Gpr) (rs : List Gpr) (k : Nat) : PierOp :=
  { opPair c gd rs k with cost := k, wcost := k, pairs := false }

/-- An instruction with cost `k`, latency `k` and loader figure `w` that reads `rs` and writes `ws`. -/
def opAccess (c : CoreId) (rs ws : List Nat) (k w : Nat) : PierOp where
  core := c
  reads := regList rs
  writes := regList ws
  cost := k
  lat := k
  wcost := w

/-- A load into a group of `n` registers. -/
def opLoad (c : CoreId) (gd ga : Gpr) (n k w : Nat) : PierOp :=
  { opAccess c [ga.toNat] (regGroup gd n) k w with legal := n == 1 || groupOk gd n }

/-- A store of a group of `n` registers. -/
def opStore (c : CoreId) (gd ga : Gpr) (n k w : Nat) : PierOp :=
  { opAccess c (ga.toNat :: regGroup gd n) [] k w with legal := n == 1 || groupOk gd n }

/-- A conditional branch: C 1, and one cycle more when it is taken (R149). -/
def opBranch (c : CoreId) (ga gb : Gpr) : PierOp := opAccess c [ga.toNat, gb.toNat] [] 1 1

/-- A loop-law instruction with the mode bits `bits` defined and the value `m` under `mask` required (R170, R186). -/
def opLaw (c : CoreId) (gd : Gpr) (mode : BitVec 6) (bits mask m k w : Nat) (reads : Bool) : PierOp :=
  { opAccess c (if reads then [gd.toNat] else []) [gd.toNat] k w with
    legal := mode.toNat &&& (63 - bits) == 0 && mode.toNat &&& mask == m }

/-- The figures of every pier instruction; none for a command that is no instruction. -/
def pierOp : Instr → Option PierOp
  | .add c d a b f | .sub c d a b f => some (opCarry c d a b f)
  | .andA c d a b _ | .orA c d a b _ | .xorA c d a b _ | .andn c d a b _
  | .shl c d a b _ | .shr c d a b _ | .sar c d a b _ | .ror c d a b _ => some (opPair c d [a, b] 1)
  | .adc c d a b f | .sbc c d a b f => some { opCarry c d a b f with carryIn := true }
  | .lts c d a b | .ltu c d a b | .minA c d a b | .maxA c d a b | .minu c d a b | .maxu c d a b =>
    some (opPair c d [a, b] 1)
  | .addi c d a _ | .andi c d a _ | .ori c d a _ | .xori c d a _ | .ltsi c d a _ | .ltui c d a _
  | .shli c d a _ | .shri c d a _ | .sari c d a _ => some (opPair c d [a] 1)
  | .iml c d _ => some (opPair c d [] 1)
  | .imh c d _ => some (opPair c d [d] 1)
  | .mulA c d a b | .mulhs c d a b | .mulhu c d a b => some (opPair c d [a, b] 3)
  | .mulp c d a b | .mulpu c d a b => some (opWide c d a b 3)
  | .divA c d a b | .divu c d a b => some (opSlow c d [a, b] 12)
  | .divm c d a b | .divmu c d a b =>
    some { opSlow c d [a, b] 12 with writes := regGroup d 2, legal := groupOk d 2 }
  | .qadd c d a b | .qsub c d a b | .qshl c d a b => some (opPair c d [a, b] 1)
  | .qmul c d a b => some (opPair c d [a, b] 3)
  | .qmac c d a b | .qmsu c d a b => some (opPair c d [d, a, b] 3)
  | .qneg c d a | .qabs c d a => some (opPair c d [a] 1)
  | .fadd c d a b | .fsub c d a b | .fmul c d a b => some (opPair c d [a, b] 4)
  | .fma c d a b | .fms c d a b => some (opPair c d [d, a, b] 4)
  | .fdiv c d a b => some (opSlow c d [a, b] 14)
  | .fsqrt c d a => some (opSlow c d [a] 16)
  | .fmin c d a b | .fmax c d a b => some (opPair c d [a, b] 1)
  | .fabs c d a | .fneg c d a => some (opPair c d [a] 1)
  | .fceq c d a b | .fclt c d a b | .fcle c d a b | .fcun c d a b => some (opPair c d [a, b] 2)
  | .itof c d a | .utof c d a | .qtof c d a | .ftoi c d a | .ftou c d a | .ftoq c d a => some (opPair c d [a] 4)
  | .beq c a b _ | .bne c a b _ | .blt c a b _ | .bge c a b _ | .bltu c a b _ | .bgeu c a b _ =>
    some (opBranch c a b)
  | .call c d _ => some { opAccess c [] [d.toNat] 2 2 with lat := 1, fp := false }
  | .jmpr c d a => some { opAccess c [a.toNat] [d.toNat] 3 3 with lat := 1, fp := false }
  | .loopA c _ body =>
    some { opAccess c [] [] 1 1 with legal := body != 0 }
  | .lw c d a _ _ | .lh c d a _ _ | .lhu c d a _ _ | .lb c d a _ _ | .lbu c d a _ _ =>
    some { opAccess c [a.toNat] [d.toNat] 1 1 with lat := 2 }
  | .sw c d a _ | .sh c d a _ | .sb c d a _ => some (opStore c d a 1 1 1)
  | .dlw c d a _ _ => some (opLoad c d a 1 4 62)
  | .dlq c d a _ _ => some (opLoad c d a 4 4 62)
  | .dll c d a _ _ => some (opLoad c d a 8 5 64)
  | .dsw c d a _ => some (opStore c d a 1 1 62)
  | .dsq c d a _ => some (opStore c d a 4 2 62)
  | .dsl c d a _ => some (opStore c d a 8 3 64)
  | .dcas c d a b _ => some (opAccess c [d.toNat, a.toNat, b.toNat] [d.toNat] 6 66)
  | .clw c d a _ => some (opLoad c d a 1 8 218)
  | .csw c d a _ => some (opStore c d a 1 1 62)
  | .fence c => some (opAccess c [] [] 1 80)
  | .pld c g _ | .pldN c g _ | .pq c g _ => some (opAccess c [] [g.toNat] 4 62)
  | .pldP c g _ | .pldNp c g _ => some { opAccess c [] (regGroup g 2) 4 62 with legal := groupOk g 2 }
  | .pldR c g _ => some { opAccess c [] (regGroup g 4) 5 64 with legal := groupOk g 4 }
  | .pldX c g _ => some (opAccess c [g.toNat] [g.toNat] 4 62)
  | .pst c g _ => some (opAccess c [g.toNat] [] 2 62)
  | .pstX c g _ => some { opAccess c (regGroup g 2) [] 2 62 with legal := groupOk g 2, fp := false }
  | .pstq c g _ q =>
    some { opAccess c [g.toNat] [] 2 62 with fp := q.toNat ≤ 3 || q.toNat == 5 }
  | .tget c d | .kget c d => some { opAccess c [] (regGroup d 2) 2 2 with legal := groupOk d 2 }
  | .evt c d a _ => some (opAccess c [d.toNat, a.toNat] [] 2 62)
  | .csrr c g n => some { opAccess c [] [g.toNat] 1 1 with lat := 2, legal := n.toNat ≤ 7 }
  | .csrw c g n => some { opAccess c [g.toNat] [] 1 1 with legal := n.toNat ≤ 7, fp := n == 0 }
  | .yieldA c | .trapA c => some (opAccess c [] [] 1 1)
  | .pids c d _ m => some (opLaw c d m 3 0 0 24 360 false)
  | .biq c d _ m => some (opLaw c d m 3 0 0 10 190 (m.getLsbD 0))
  | .casc c d _ m => some (opLaw c d m 2 0 0 32 420 false)
  | .swapkStatus c d _ m => some (opLaw c d m 3 3 0 6 130 false)
  | .swapkArm c d _ m => some (opLaw c d m 3 3 1 6 130 false)
  | .swapkCancel c d _ m => some (opLaw c d m 3 3 2 6 130 false)
  | .clampw c d _ m =>
    let k := opLaw c d m 1 0 0 4 70 true
    some (if m.getLsbD 0 then { k with writes := regGroup d 2, legal := k.legal && groupOk d 2 } else k)
  | .rate c d _ m => some (opLaw c d m 0 0 0 6 130 true)
  | .intg c d _ m => some (opLaw c d m 1 1 0 6 130 true)
  | .intgLoad c d _ m => some (opLaw c d m 1 1 1 6 130 true)
  | .prime c d _ m => some (opLaw c d m 1 1 0 8 250 false)
  | .primeFetch c d _ m => some (opLaw c d m 1 1 1 8 250 false)
  | _ => none

/-- Frame-partition code may hold the instruction: listed, admitted, and writing none of g56 to g63 (R137, R140). -/
def PierOp.fpOk (o : PierOp) : Bool := o.legal && o.fp && o.writes.all (· < 56)

end Sys2Proof.Machine
end

