-- ==== Sys2Proof/Config.lean ====
section
/-! DEFINITION. What the specification leaves open: constants of manufacture and the values it does not state. None has
a body, so nothing can be proved about which value it is: a statement about one holds for every value. -/

namespace Sys2Proof

/-- The manufacturing constants the registers call "Fused": kind 0 SYS_GRADE, 3 and 4 the factory offset and gain of
slice i at GAIN code j (R238), 5 and 6 the low and high MAC address words of MAC i, 7 the manufacturer identity of the test
access port (R506). -/
opaque Config.fusedRaw : Nat → Nat → Nat → Nat

/-- The unique device number less 1. -/
opaque Config.uidRaw : Nat

/-- The 64-bit unique device number, never 0 (SYS_UID). -/
def Config.uid : Nat := Config.uidRaw % (2 ^ 64 - 1) + 1

/-- The fused value of a register field; kinds 1 and 2 are the halves of the unique device number. -/
def Config.fused (kind i j : Nat) : Nat :=
  if kind = 1 then Config.uid % 2 ^ 32
  else if kind = 2 then Config.uid / 2 ^ 32
  else Config.fusedRaw kind i j

/-- Whether a fused multiply-add of a zero, an infinity and a quiet NaN counts as an invalid operation: IEEE 754 leaves
it to the implementation, and R146 does not say. -/
opaque Config.fmaNanInvalid : Bool

/-- A value the specification does not state: of the kind `k`, the `n`-th drawn. -/
opaque Config.free : Nat → Nat → Nat

/-- The deck quarters in which an ECC error arises in the span that the `n`-th tick closes, and whether each is uncorrectable
(R21): what brings errors about lies outside the specification. -/
opaque Config.upsets : Nat → List (Nat × Bool)

/-- As `Config.upsets`, of the piers' instruction memories, by word. -/
opaque Config.codeUpsets : Nat → List (Nat × Bool)

/-- The boundary-register cell of an output pin, by the model's number of the pin: R506 does not give the order of the cells. -/
opaque Config.boundaryCell : Nat → Nat

/-- Whether a quotient that the specification does not say how to round goes up to the next integer. -/
opaque Config.roundUp : Nat → Nat → Bool

/-- The error of an energy increment, in 2^-64 of a quantum, before its bound is applied (R341: relative error below
2^-40). -/
opaque Config.energyError : Nat → Int

/-- How late a standby's tick lies after its active's, in ps, as the `n`-th marker over the twin link lets it measure (R367). -/
opaque Config.tickError : Nat → Int

/-- A metering code delayed by `phase` / 4,096 samples, in 2^-16 code, from the last codes, newest first (R327). -/
opaque Config.delayed : Int → List Int → Int

/-- The integrator of a current channel (R327: a high-pass corner at 0.5 Hz, a gain of exactly 1 at NOM_F): from NOM_F, what it
holds and its input, its output and what it holds next, in 2^-16 code. Its realisation is not stated. -/
opaque Config.integrator : Nat → Int → Int → Int × Int

/-- Full-scale pulses per hour of a quantity (R355): from its index, the SCALE words and the gains of the eight channels and the
quantum. The formula is not stated. -/
opaque Config.fullScaleRate : Nat → List Nat → List Nat → Nat → Nat

/-- sin and cos of an angle in 2^-32 turns as the motor channels compute them, binary32 (R289: an error of at most 2^-20). -/
opaque Config.sine : Nat → Word

/-- The cosine beside `Config.sine`. -/
opaque Config.cosine : Nat → Word

/-- The Hilbert filter's output from the last 255 phase voltages, newest first (R337). -/
opaque Config.hilbert : List Int → Int

/-- RMS of the fundamental of a line's last cycle, and its period in CK_CONV cycles, from its samples (R330). -/
opaque Config.fundamental : List Int → Nat

/-- The period of a line's fundamental in CK_CONV cycles. -/
opaque Config.period : List Int → Nat

end Sys2Proof
end

