-- ==== Sys2Proof/Machine/Fld.lean ====
section
/-! DEFINITION. What a control-block register is: its address set, its fields, and for each field the access code (R5),
the reset value (R9) and the encodings its tables list (R8). -/

namespace Sys2Proof.Machine

/-- The access codes of R5. -/
inductive Acc where
  | rw | ro | wo | w1c | w1s | rc
  deriving DecidableEq, Repr

/-- How a field's reset value is given. -/
inductive Rst where
  /-- a number of the register table -/
  | const (n : Nat)
  /-- a value fixed in manufacture: `Config.fused` of the kind and of the two indices -/
  | fused (kind : Nat)
  /-- the register's own index (PIERn_STAT.PHYS) -/
  | index
  /-- by index, the last entry repeating -/
  | table (l : List Nat)
  /-- EVR_CODEc_A.LIST: list 0x01 for the trap codes 0x200 to 0x205 (R428) -/
  | codeList
  /-- EVR_LISTl_SELi: list 0x01 holds PC, task number, BC, flags and g1 to g20 (R427, R428) -/
  | trapList
  deriving DecidableEq, Repr

/-- A register field. Instance (i, j) of its register lies at `base + i × s1 + j × s2`; the field is bits [hi:lo];
`legal` lists the inclusive ranges of encodings a write may carry (R8), `[]` for all. -/
structure Fld where
  base : Nat
  s1 : Nat
  s2 : Nat
  hi : Nat
  lo : Nat
  acc : Acc
  rst : Rst
  legal : List (Nat × Nat)
  deriving DecidableEq, Repr

/-- A register: the address set of its instances (`c1` × `c2` of them) and its fields. -/
structure Reg where
  base : Nat
  s1 : Nat
  c1 : Nat
  s2 : Nat
  c2 : Nat
  fields : List Fld
  deriving DecidableEq, Repr

/-- The number of bits of a field. -/
def Fld.width (f : Fld) : Nat := f.hi + 1 - f.lo

/-- The key of a field's instance in the register file: its bit address. -/
def Fld.key (f : Fld) (i j : Nat) : Nat := (f.base + i * f.s1 + j * f.s2) * 32 + f.lo

/-- The trap snapshot list: PC, task number, BC, flags, g1 to g20 as PIER selectors (R427, R428). -/
def trapSelector (i : Nat) : Nat :=
  0x80000000 + (if i = 0 then 64 else if i = 1 then 67 else if i = 2 then 65 else if i = 3 then 66 else i - 3)

/-- The reset value of a field's instance. -/
def Rst.val : Rst → Nat → Nat → Nat
  | .const n, _, _ => n
  | .fused k, i, j => Config.fused k i j
  | .index, i, _ => i
  | .table l, i, _ => l.getD i 0
  | .codeList, i, _ => if 0x200 ≤ i ∧ i ≤ 0x205 then 1 else 0
  | .trapList, i, j => if i = 1 then trapSelector j else 0

/-- The reset value of a field's instance, in the field's width. -/
def Fld.reset (f : Fld) (i j : Nat) : Nat := f.rst.val i j % 2 ^ f.width

/-- Whether an encoding is listed for the field (R8). -/
def Fld.isLegal (f : Fld) (v : Nat) : Bool :=
  f.legal.isEmpty || f.legal.any fun r => decide (r.1 ≤ v) && decide (v ≤ r.2)

/-- The address of a register's instance. -/
def Reg.addr (r : Reg) (i j : Nat) : Nat := r.base + i * r.s1 + j * r.s2

/-- The index pair of the instance of `r` at address `a`. -/
def Reg.at? (r : Reg) (a : Nat) : Option (Nat × Nat) :=
  if a < r.base then none else
    let o := a - r.base
    let i := if r.s1 = 0 then 0 else o / r.s1
    let o' := if r.s1 = 0 then o else o % r.s1
    let j := if r.s2 = 0 then 0 else o' / r.s2
    let e := if r.s2 = 0 then o' else o' % r.s2
    if e = 0 ∧ i < r.c1 ∧ j < r.c2 then some (i, j) else none

end Sys2Proof.Machine
end

