-- ==== Sys2Proof/Machine/RegsBearing.lean ====
section
/-! DEFINITION. The registers of the bearing die's control blocks, written field by field from the register tables
of the chapters of spec/: `F.<register>_<field>` is a field (of a register with one field, `F.<register>`), `R.<register>`
a register (its fields in the table's order). Reserved bits have no field: they read 0 and ignore writes (R7). -/

namespace Sys2Proof.Machine

/-! ### CONV at 0x40040000 -/

namespace F

/-- `CONV_REF_CTL.EN` [0:0]. -/
def CONV_REF_CTL : Fld := ⟨0x40040000, 0x0, 0x0, 0, 0, .rw, .const 0, []⟩
/-- `CONV_REF_STAT.READY` [0:0]. -/
def CONV_REF_STAT : Fld := ⟨0x40040004, 0x0, 0x0, 0, 0, .ro, .const 0, []⟩
/-- `CONV_CAL_CTL.SLOT_MS` [15:8]. -/
def CONV_CAL_CTL_SLOT_MS : Fld := ⟨0x40040008, 0x0, 0x0, 15, 8, .rw, .const 0x3C, [(20, 255)]⟩
/-- `CONV_CAL_CTL.ROT_EN` [0:0]. -/
def CONV_CAL_CTL_ROT_EN : Fld := ⟨0x40040008, 0x0, 0x0, 0, 0, .rw, .const 1, []⟩
/-- `CONV_CAL_STAT.SS_GROUP` [31:24]. -/
def CONV_CAL_STAT_SS_GROUP : Fld := ⟨0x4004000C, 0x0, 0x0, 31, 24, .ro, .const 0xFF, []⟩
/-- `CONV_CAL_STAT.SLOT` [20:16]. -/
def CONV_CAL_STAT_SLOT : Fld := ⟨0x4004000C, 0x0, 0x0, 20, 16, .ro, .const 0x10, []⟩
/-- `CONV_CAL_STAT.PAUSED` [12:12]. -/
def CONV_CAL_STAT_PAUSED : Fld := ⟨0x4004000C, 0x0, 0x0, 12, 12, .ro, .const 0, []⟩
/-- `CONV_CAL_STAT.PERM` [11:11]. -/
def CONV_CAL_STAT_PERM : Fld := ⟨0x4004000C, 0x0, 0x0, 11, 11, .ro, .const 0, []⟩
/-- `CONV_CAL_STAT.FIRST_DONE` [8:8]. -/
def CONV_CAL_STAT_FIRST_DONE : Fld := ⟨0x4004000C, 0x0, 0x0, 8, 8, .ro, .const 0, []⟩
/-- `CONV_CAL_STAT.ROTATIONS` [7:0]. -/
def CONV_CAL_STAT_ROTATIONS : Fld := ⟨0x4004000C, 0x0, 0x0, 7, 0, .ro, .const 0, []⟩
/-- `CONV_GRP_OVR.GRP` [15:0]. -/
def CONV_GRP_OVR : Fld := ⟨0x40040010, 0x0, 0x0, 15, 0, .w1c, .const 0, []⟩
/-- `CONV_OVR_COUNT.COUNT` [31:0]. -/
def CONV_OVR_COUNT : Fld := ⟨0x40040014, 0x0, 0x0, 31, 0, .rc, .const 0, []⟩
/-- `CONV_SEQn_CTL.ENTRIES` [14:8]. -/
def CONV_SEQ_CTL_ENTRIES : Fld := ⟨0x40040100, 0x40, 0x0, 14, 8, .rw, .const 1, [(1, 64)]⟩
/-- `CONV_SEQn_CTL.PRIO` [5:4]. -/
def CONV_SEQ_CTL_PRIO : Fld := ⟨0x40040100, 0x40, 0x0, 5, 4, .rw, .const 0, []⟩
/-- `CONV_SEQn_CTL.EN` [0:0]. -/
def CONV_SEQ_CTL_EN : Fld := ⟨0x40040100, 0x40, 0x0, 0, 0, .rw, .const 0, []⟩
/-- `CONV_SEQn_TRIG.PHASE` [31:16]. -/
def CONV_SEQ_TRIG_PHASE : Fld := ⟨0x40040104, 0x40, 0x0, 31, 16, .rw, .const 0, []⟩
/-- `CONV_SEQn_TRIG.DIV_M1` [15:8]. -/
def CONV_SEQ_TRIG_DIV_M1 : Fld := ⟨0x40040104, 0x40, 0x0, 15, 8, .rw, .const 0, []⟩
/-- `CONV_SEQn_TRIG.EDGE` [7:6]. -/
def CONV_SEQ_TRIG_EDGE : Fld := ⟨0x40040104, 0x40, 0x0, 7, 6, .rw, .const 1, [(1, 3)]⟩
/-- `CONV_SEQn_TRIG.SRC` [3:0]. -/
def CONV_SEQ_TRIG_SRC : Fld := ⟨0x40040104, 0x40, 0x0, 3, 0, .rw, .const 0, [(0, 5)]⟩
/-- `CONV_SEQn_CMD.CMD` [1:0]. -/
def CONV_SEQ_CMD : Fld := ⟨0x40040108, 0x40, 0x0, 1, 0, .wo, .const 0, [(0, 2)]⟩
/-- `CONV_SEQn_STAT.DONE_COUNT` [22:16]. -/
def CONV_SEQ_STAT_DONE_COUNT : Fld := ⟨0x4004010C, 0x40, 0x0, 22, 16, .ro, .const 0, []⟩
/-- `CONV_SEQn_STAT.REASON` [11:8]. -/
def CONV_SEQ_STAT_REASON : Fld := ⟨0x4004010C, 0x40, 0x0, 11, 8, .ro, .const 0, []⟩
/-- `CONV_SEQn_STAT.ABORT_LATE` [6:6]. -/
def CONV_SEQ_STAT_ABORT_LATE : Fld := ⟨0x4004010C, 0x40, 0x0, 6, 6, .w1c, .const 0, []⟩
/-- `CONV_SEQn_STAT.OUTCOME` [5:4]. -/
def CONV_SEQ_STAT_OUTCOME : Fld := ⟨0x4004010C, 0x40, 0x0, 5, 4, .ro, .const 0, []⟩
/-- `CONV_SEQn_STAT.PENDING` [3:3]. -/
def CONV_SEQ_STAT_PENDING : Fld := ⟨0x4004010C, 0x40, 0x0, 3, 3, .ro, .const 0, []⟩
/-- `CONV_SEQn_STAT.STATE` [2:0]. -/
def CONV_SEQ_STAT_STATE : Fld := ⟨0x4004010C, 0x40, 0x0, 2, 0, .ro, .const 0, []⟩
/-- `CONV_SEQn_OVR.COUNT` [15:0]. -/
def CONV_SEQ_OVR : Fld := ⟨0x40040110, 0x40, 0x0, 15, 0, .rc, .const 0, []⟩
/-- `CONV_SEQn_RING_BASE.ADDR` [31:3]. -/
def CONV_SEQ_RING_BASE : Fld := ⟨0x40040114, 0x40, 0x0, 31, 3, .rw, .const 0x140000, []⟩
/-- `CONV_SEQn_RING_CFG.POL` [8:8]. -/
def CONV_SEQ_RING_CFG_POL : Fld := ⟨0x40040118, 0x40, 0x0, 8, 8, .rw, .const 0, []⟩
/-- `CONV_SEQn_RING_CFG.SIZE` [3:0]. -/
def CONV_SEQ_RING_CFG_SIZE : Fld := ⟨0x40040118, 0x40, 0x0, 3, 0, .rw, .const 3, [(3, 15)]⟩
/-- `CONV_SEQn_RING_WR.INDEX` [14:0]. -/
def CONV_SEQ_RING_WR : Fld := ⟨0x4004011C, 0x40, 0x0, 14, 0, .ro, .const 0, []⟩
/-- `CONV_SEQn_RING_RD.INDEX` [14:0]. -/
def CONV_SEQ_RING_RD : Fld := ⟨0x40040120, 0x40, 0x0, 14, 0, .rw, .const 0, []⟩
/-- `CONV_SEQn_RING_LOSS.COUNT` [15:0]. -/
def CONV_SEQ_RING_LOSS : Fld := ⟨0x40040124, 0x40, 0x0, 15, 0, .rc, .const 0, []⟩
/-- `CONV_SEQn_RUNS.COUNT` [31:0]. -/
def CONV_SEQ_RUNS : Fld := ⟨0x40040128, 0x40, 0x0, 31, 0, .ro, .const 0, []⟩
/-- `CONV_COEFk_OFSg.OFS` [31:0]. -/
def CONV_COEF_OFS : Fld := ⟨0x40041000, 0x40, 0x8, 31, 0, .ro, .fused 3, []⟩
/-- `CONV_FACTk_OFSg.OFS` [31:0]. -/
def CONV_FACT_OFS : Fld := ⟨0x40042000, 0x40, 0x8, 31, 0, .ro, .fused 3, []⟩
/-- `CONV_COEFk_GAINg.GAIN` [31:0]. -/
def CONV_COEF_GAIN : Fld := ⟨0x40041004, 0x40, 0x8, 31, 0, .ro, .fused 4, []⟩
/-- `CONV_FACTk_GAINg.GAIN` [31:0]. -/
def CONV_FACT_GAIN : Fld := ⟨0x40042004, 0x40, 0x8, 31, 0, .ro, .fused 4, []⟩
/-- `CONV_SEQn_ENTj_A.RFAULT` [28:28]. -/
def CONV_SEQ_ENT_A_RFAULT : Fld := ⟨0x40044000, 0x200, 0x8, 28, 28, .rw, .const 0, []⟩
/-- `CONV_SEQn_ENTj_A.DEST` [27:26]. -/
def CONV_SEQ_ENT_A_DEST : Fld := ⟨0x40044000, 0x200, 0x8, 27, 26, .rw, .const 0, [(0, 2)]⟩
/-- `CONV_SEQn_ENTj_A.SETTLE` [25:18]. -/
def CONV_SEQ_ENT_A_SETTLE : Fld := ⟨0x40044000, 0x200, 0x8, 25, 18, .rw, .const 0, []⟩
/-- `CONV_SEQn_ENTj_A.AVG` [17:14]. -/
def CONV_SEQ_ENT_A_AVG : Fld := ⟨0x40044000, 0x200, 0x8, 17, 14, .rw, .const 0, [(0, 8)]⟩
/-- `CONV_SEQn_ENTj_A.FMT` [13:12]. -/
def CONV_SEQ_ENT_A_FMT : Fld := ⟨0x40044000, 0x200, 0x8, 13, 12, .rw, .const 0, []⟩
/-- `CONV_SEQn_ENTj_A.GAIN` [11:9]. -/
def CONV_SEQ_ENT_A_GAIN : Fld := ⟨0x40044000, 0x200, 0x8, 11, 9, .rw, .const 0, [(0, 5)]⟩
/-- `CONV_SEQn_ENTj_A.DIFF` [8:8]. -/
def CONV_SEQ_ENT_A_DIFF : Fld := ⟨0x40044000, 0x200, 0x8, 8, 8, .rw, .const 0, []⟩
/-- `CONV_SEQn_ENTj_A.CHANNEL` [7:0]. -/
def CONV_SEQ_ENT_A_CHANNEL : Fld := ⟨0x40044000, 0x200, 0x8, 7, 0, .rw, .const 0, [(0, 191)]⟩
/-- `CONV_SEQn_ENTj_B.POINT` [16:0]. -/
def CONV_SEQ_ENT_B : Fld := ⟨0x40044004, 0x200, 0x8, 16, 0, .rw, .const 0, []⟩

end F

namespace R

def CONV_REF_CTL : Reg := ⟨0x40040000, 0x0, 1, 0x0, 1, [F.CONV_REF_CTL]⟩
def CONV_REF_STAT : Reg := ⟨0x40040004, 0x0, 1, 0x0, 1, [F.CONV_REF_STAT]⟩
def CONV_CAL_CTL : Reg := ⟨0x40040008, 0x0, 1, 0x0, 1, [F.CONV_CAL_CTL_SLOT_MS, F.CONV_CAL_CTL_ROT_EN]⟩
def CONV_CAL_STAT : Reg := ⟨0x4004000C, 0x0, 1, 0x0, 1, [F.CONV_CAL_STAT_SS_GROUP, F.CONV_CAL_STAT_SLOT, F.CONV_CAL_STAT_PAUSED, F.CONV_CAL_STAT_PERM, F.CONV_CAL_STAT_FIRST_DONE, F.CONV_CAL_STAT_ROTATIONS]⟩
def CONV_GRP_OVR : Reg := ⟨0x40040010, 0x0, 1, 0x0, 1, [F.CONV_GRP_OVR]⟩
def CONV_OVR_COUNT : Reg := ⟨0x40040014, 0x0, 1, 0x0, 1, [F.CONV_OVR_COUNT]⟩
def CONV_SEQ_CTL : Reg := ⟨0x40040100, 0x40, 32, 0x0, 1, [F.CONV_SEQ_CTL_ENTRIES, F.CONV_SEQ_CTL_PRIO, F.CONV_SEQ_CTL_EN]⟩
def CONV_SEQ_TRIG : Reg := ⟨0x40040104, 0x40, 32, 0x0, 1, [F.CONV_SEQ_TRIG_PHASE, F.CONV_SEQ_TRIG_DIV_M1, F.CONV_SEQ_TRIG_EDGE, F.CONV_SEQ_TRIG_SRC]⟩
def CONV_SEQ_CMD : Reg := ⟨0x40040108, 0x40, 32, 0x0, 1, [F.CONV_SEQ_CMD]⟩
def CONV_SEQ_STAT : Reg := ⟨0x4004010C, 0x40, 32, 0x0, 1, [F.CONV_SEQ_STAT_DONE_COUNT, F.CONV_SEQ_STAT_REASON, F.CONV_SEQ_STAT_ABORT_LATE, F.CONV_SEQ_STAT_OUTCOME, F.CONV_SEQ_STAT_PENDING, F.CONV_SEQ_STAT_STATE]⟩
def CONV_SEQ_OVR : Reg := ⟨0x40040110, 0x40, 32, 0x0, 1, [F.CONV_SEQ_OVR]⟩
def CONV_SEQ_RING_BASE : Reg := ⟨0x40040114, 0x40, 32, 0x0, 1, [F.CONV_SEQ_RING_BASE]⟩
def CONV_SEQ_RING_CFG : Reg := ⟨0x40040118, 0x40, 32, 0x0, 1, [F.CONV_SEQ_RING_CFG_POL, F.CONV_SEQ_RING_CFG_SIZE]⟩
def CONV_SEQ_RING_WR : Reg := ⟨0x4004011C, 0x40, 32, 0x0, 1, [F.CONV_SEQ_RING_WR]⟩
def CONV_SEQ_RING_RD : Reg := ⟨0x40040120, 0x40, 32, 0x0, 1, [F.CONV_SEQ_RING_RD]⟩
def CONV_SEQ_RING_LOSS : Reg := ⟨0x40040124, 0x40, 32, 0x0, 1, [F.CONV_SEQ_RING_LOSS]⟩
def CONV_SEQ_RUNS : Reg := ⟨0x40040128, 0x40, 32, 0x0, 1, [F.CONV_SEQ_RUNS]⟩
def CONV_COEF_OFS : Reg := ⟨0x40041000, 0x40, 17, 0x8, 6, [F.CONV_COEF_OFS]⟩
def CONV_FACT_OFS : Reg := ⟨0x40042000, 0x40, 17, 0x8, 6, [F.CONV_FACT_OFS]⟩
def CONV_COEF_GAIN : Reg := ⟨0x40041004, 0x40, 17, 0x8, 6, [F.CONV_COEF_GAIN]⟩
def CONV_FACT_GAIN : Reg := ⟨0x40042004, 0x40, 17, 0x8, 6, [F.CONV_FACT_GAIN]⟩
def CONV_SEQ_ENT_A : Reg := ⟨0x40044000, 0x200, 32, 0x8, 64, [F.CONV_SEQ_ENT_A_RFAULT, F.CONV_SEQ_ENT_A_DEST, F.CONV_SEQ_ENT_A_SETTLE, F.CONV_SEQ_ENT_A_AVG, F.CONV_SEQ_ENT_A_FMT, F.CONV_SEQ_ENT_A_GAIN, F.CONV_SEQ_ENT_A_DIFF, F.CONV_SEQ_ENT_A_CHANNEL]⟩
def CONV_SEQ_ENT_B : Reg := ⟨0x40044004, 0x200, 32, 0x8, 64, [F.CONV_SEQ_ENT_B]⟩

end R

/-- The registers of block CONV (R28). -/
def regsConv : List Reg := [
  R.CONV_REF_CTL, R.CONV_REF_STAT, R.CONV_CAL_CTL, R.CONV_CAL_STAT, R.CONV_GRP_OVR, R.CONV_OVR_COUNT,
  R.CONV_SEQ_CTL, R.CONV_SEQ_TRIG, R.CONV_SEQ_CMD, R.CONV_SEQ_STAT, R.CONV_SEQ_OVR, R.CONV_SEQ_RING_BASE,
  R.CONV_SEQ_RING_CFG, R.CONV_SEQ_RING_WR, R.CONV_SEQ_RING_RD, R.CONV_SEQ_RING_LOSS, R.CONV_SEQ_RUNS,
  R.CONV_COEF_OFS, R.CONV_FACT_OFS, R.CONV_COEF_GAIN, R.CONV_FACT_GAIN, R.CONV_SEQ_ENT_A, R.CONV_SEQ_ENT_B]

/-! ### SENS at 0x40050000 -/

namespace F

/-- `SENS_STAT.ACTIVE` [7:0]. -/
def SENS_STAT : Fld := ⟨0x40050000, 0x0, 0x0, 7, 0, .ro, .const 0, []⟩
/-- `SENS_FAULT_MAPi.MAP` [31:0]. -/
def SENS_FAULT_MAP : Fld := ⟨0x40050010, 0x4, 0x0, 31, 0, .ro, .const 0, []⟩
/-- `SENS_IEXk_CTL.LEVEL` [2:0]. -/
def SENS_IEX_CTL : Fld := ⟨0x40050100, 0x10, 0x0, 2, 0, .rw, .const 0, [(0, 5)]⟩
/-- `SENS_IEXk_STAT.LEVEL_NOW` [5:3]. -/
def SENS_IEX_STAT_LEVEL_NOW : Fld := ⟨0x40050104, 0x10, 0x0, 5, 3, .ro, .const 0, []⟩
/-- `SENS_IEXk_STAT.COMPL_SEEN` [1:1]. -/
def SENS_IEX_STAT_COMPL_SEEN : Fld := ⟨0x40050104, 0x10, 0x0, 1, 1, .w1c, .const 0, []⟩
/-- `SENS_IEXk_STAT.COMPL` [0:0]. -/
def SENS_IEX_STAT_COMPL : Fld := ⟨0x40050104, 0x10, 0x0, 0, 0, .ro, .const 0, []⟩
/-- `SENS_CHKm_CFG.EN` [31:31]. -/
def SENS_CHK_CFG_EN : Fld := ⟨0x40050400, 0x20, 0x0, 31, 31, .rw, .const 0, []⟩
/-- `SENS_CHKm_CFG.HOT` [30:30]. -/
def SENS_CHK_CFG_HOT : Fld := ⟨0x40050400, 0x20, 0x0, 30, 30, .rw, .const 0, []⟩
/-- `SENS_CHKm_CFG.KIND` [29:28]. -/
def SENS_CHK_CFG_KIND : Fld := ⟨0x40050400, 0x20, 0x0, 29, 28, .rw, .const 0, [(0, 1)]⟩
/-- `SENS_CHKm_CFG.CONFIRM` [27:24]. -/
def SENS_CHK_CFG_CONFIRM : Fld := ⟨0x40050400, 0x20, 0x0, 27, 24, .rw, .const 1, [(1, 15)]⟩
/-- `SENS_CHKm_CFG.CLEAR` [23:20]. -/
def SENS_CHK_CFG_CLEAR : Fld := ⟨0x40050400, 0x20, 0x0, 23, 20, .rw, .const 1, [(1, 15)]⟩
/-- `SENS_CHKm_CFG.SEQ` [12:8]. -/
def SENS_CHK_CFG_SEQ : Fld := ⟨0x40050400, 0x20, 0x0, 12, 8, .rw, .const 0, []⟩
/-- `SENS_CHKm_CFG.ENTRY` [5:0]. -/
def SENS_CHK_CFG_ENTRY : Fld := ⟨0x40050400, 0x20, 0x0, 5, 0, .rw, .const 0, []⟩
/-- `SENS_CHKm_THR_HI.THR` [17:0]. -/
def SENS_CHK_THR_HI : Fld := ⟨0x40050404, 0x20, 0x0, 17, 0, .rw, .const 0, []⟩
/-- `SENS_CHKm_THR_LO.THR` [17:0]. -/
def SENS_CHK_THR_LO : Fld := ⟨0x40050408, 0x20, 0x0, 17, 0, .rw, .const 0, []⟩
/-- `SENS_CHKm_HOT.EN` [31:31]. -/
def SENS_CHK_HOT_EN : Fld := ⟨0x4005040C, 0x20, 0x0, 31, 31, .rw, .const 0, []⟩
/-- `SENS_CHKm_HOT.POINT` [16:0]. -/
def SENS_CHK_HOT_POINT : Fld := ⟨0x4005040C, 0x20, 0x0, 16, 0, .rw, .const 0, []⟩
/-- `SENS_CHKm_STAT.FAULTS` [31:24]. -/
def SENS_CHK_STAT_FAULTS : Fld := ⟨0x40050410, 0x20, 0x0, 31, 24, .rc, .const 0, []⟩
/-- `SENS_CHKm_STAT.COUNT` [19:16]. -/
def SENS_CHK_STAT_COUNT : Fld := ⟨0x40050410, 0x20, 0x0, 19, 16, .ro, .const 0, []⟩
/-- `SENS_CHKm_STAT.REASON` [11:8]. -/
def SENS_CHK_STAT_REASON : Fld := ⟨0x40050410, 0x20, 0x0, 11, 8, .ro, .const 0, []⟩
/-- `SENS_CHKm_STAT.HOTCFG` [6:6]. -/
def SENS_CHK_STAT_HOTCFG : Fld := ⟨0x40050410, 0x20, 0x0, 6, 6, .w1c, .const 0, []⟩
/-- `SENS_CHKm_STAT.NOSRC` [5:5]. -/
def SENS_CHK_STAT_NOSRC : Fld := ⟨0x40050410, 0x20, 0x0, 5, 5, .ro, .const 0, []⟩
/-- `SENS_CHKm_STAT.KIND_NOW` [3:2]. -/
def SENS_CHK_STAT_KIND_NOW : Fld := ⟨0x40050410, 0x20, 0x0, 3, 2, .ro, .const 0, []⟩
/-- `SENS_CHKm_STAT.VERDICT` [0:0]. -/
def SENS_CHK_STAT_VERDICT : Fld := ⟨0x40050410, 0x20, 0x0, 0, 0, .ro, .const 0, []⟩

end F

namespace R

def SENS_STAT : Reg := ⟨0x40050000, 0x0, 1, 0x0, 1, [F.SENS_STAT]⟩
def SENS_FAULT_MAP : Reg := ⟨0x40050010, 0x4, 4, 0x0, 1, [F.SENS_FAULT_MAP]⟩
def SENS_IEX_CTL : Reg := ⟨0x40050100, 0x10, 16, 0x0, 1, [F.SENS_IEX_CTL]⟩
def SENS_IEX_STAT : Reg := ⟨0x40050104, 0x10, 16, 0x0, 1, [F.SENS_IEX_STAT_LEVEL_NOW, F.SENS_IEX_STAT_COMPL_SEEN, F.SENS_IEX_STAT_COMPL]⟩
def SENS_CHK_CFG : Reg := ⟨0x40050400, 0x20, 128, 0x0, 1, [F.SENS_CHK_CFG_EN, F.SENS_CHK_CFG_HOT, F.SENS_CHK_CFG_KIND, F.SENS_CHK_CFG_CONFIRM, F.SENS_CHK_CFG_CLEAR, F.SENS_CHK_CFG_SEQ, F.SENS_CHK_CFG_ENTRY]⟩
def SENS_CHK_THR_HI : Reg := ⟨0x40050404, 0x20, 128, 0x0, 1, [F.SENS_CHK_THR_HI]⟩
def SENS_CHK_THR_LO : Reg := ⟨0x40050408, 0x20, 128, 0x0, 1, [F.SENS_CHK_THR_LO]⟩
def SENS_CHK_HOT : Reg := ⟨0x4005040C, 0x20, 128, 0x0, 1, [F.SENS_CHK_HOT_EN, F.SENS_CHK_HOT_POINT]⟩
def SENS_CHK_STAT : Reg := ⟨0x40050410, 0x20, 128, 0x0, 1, [F.SENS_CHK_STAT_FAULTS, F.SENS_CHK_STAT_COUNT, F.SENS_CHK_STAT_REASON, F.SENS_CHK_STAT_HOTCFG, F.SENS_CHK_STAT_NOSRC, F.SENS_CHK_STAT_KIND_NOW, F.SENS_CHK_STAT_VERDICT]⟩

end R

/-- The registers of block SENS (R28). -/
def regsSens : List Reg := [
  R.SENS_STAT, R.SENS_FAULT_MAP, R.SENS_IEX_CTL, R.SENS_IEX_STAT, R.SENS_CHK_CFG, R.SENS_CHK_THR_HI,
  R.SENS_CHK_THR_LO, R.SENS_CHK_HOT, R.SENS_CHK_STAT]

/-! ### SOL at 0x40060000 -/

namespace F

/-- `SOL_VSOL.MV` [15:0]. -/
def SOL_VSOL : Fld := ⟨0x40060000, 0x0, 0x0, 15, 0, .ro, .const 0, []⟩
/-- `SOL_FAULT_MAP.MAP` [31:0]. -/
def SOL_FAULT_MAP : Fld := ⟨0x40060004, 0x0, 0x0, 31, 0, .ro, .const 0, []⟩
/-- `SOL_OVER_MAP.MAP` [31:0]. -/
def SOL_OVER_MAP : Fld := ⟨0x40060008, 0x0, 0x0, 31, 0, .ro, .const 0, []⟩
/-- `SOL_GRPk_CFG.GRP_WAIT` [23:16]. -/
def SOL_GRP_CFG_GRP_WAIT : Fld := ⟨0x40060100, 0x20, 0x0, 23, 16, .rw, .const 0x32, [(1, 255)]⟩
/-- `SOL_GRPk_CFG.IMAX` [12:0]. -/
def SOL_GRP_CFG_IMAX : Fld := ⟨0x40060100, 0x20, 0x0, 12, 0, .rw, .const 0x1FFF, []⟩
/-- `SOL_GRPk_STAT.TIMEOUTS` [31:24]. -/
def SOL_GRP_STAT_TIMEOUTS : Fld := ⟨0x40060104, 0x20, 0x0, 31, 24, .rc, .const 0, []⟩
/-- `SOL_GRPk_STAT.QUEUED` [18:16]. -/
def SOL_GRP_STAT_QUEUED : Fld := ⟨0x40060104, 0x20, 0x0, 18, 16, .ro, .const 0, []⟩
/-- `SOL_GRPk_STAT.HS_ON` [13:13]. -/
def SOL_GRP_STAT_HS_ON : Fld := ⟨0x40060104, 0x20, 0x0, 13, 13, .ro, .const 0, []⟩
/-- `SOL_GRPk_STAT.LOAD` [12:0]. -/
def SOL_GRP_STAT_LOAD : Fld := ⟨0x40060104, 0x20, 0x0, 12, 0, .ro, .const 0, []⟩
/-- `SOL_CHn_CFG.EN` [31:31]. -/
def SOL_CH_CFG_EN : Fld := ⟨0x40060400, 0x40, 0x0, 31, 31, .rw, .const 0, []⟩
/-- `SOL_CHn_CFG.SRC` [15:14]. -/
def SOL_CH_CFG_SRC : Fld := ⟨0x40060400, 0x40, 0x0, 15, 14, .rw, .const 0, [(0, 2)]⟩
/-- `SOL_CHn_CFG.RANGE` [13:12]. -/
def SOL_CH_CFG_RANGE : Fld := ⟨0x40060400, 0x40, 0x0, 13, 12, .rw, .const 0, [(0, 2)]⟩
/-- `SOL_CHn_CFG.BLANK` [8:6]. -/
def SOL_CH_CFG_BLANK : Fld := ⟨0x40060400, 0x40, 0x0, 8, 6, .rw, .const 1, []⟩
/-- `SOL_CHn_CFG.FILT` [5:4]. -/
def SOL_CH_CFG_FILT : Fld := ⟨0x40060400, 0x40, 0x0, 5, 4, .rw, .const 1, []⟩
/-- `SOL_CHn_CFG.NMFAULT` [3:3]. -/
def SOL_CH_CFG_NMFAULT : Fld := ⟨0x40060400, 0x40, 0x0, 3, 3, .rw, .const 0, []⟩
/-- `SOL_CHn_CFG.EARLY` [2:2]. -/
def SOL_CH_CFG_EARLY : Fld := ⟨0x40060400, 0x40, 0x0, 2, 2, .rw, .const 0, []⟩
/-- `SOL_CHn_CFG.REL` [1:1]. -/
def SOL_CH_CFG_REL : Fld := ⟨0x40060400, 0x40, 0x0, 1, 1, .rw, .const 0, []⟩
/-- `SOL_CHn_CFG.MODE` [0:0]. -/
def SOL_CH_CFG_MODE : Fld := ⟨0x40060400, 0x40, 0x0, 0, 0, .rw, .const 0, []⟩
/-- `SOL_CHn_CMDPT.POINT` [16:0]. -/
def SOL_CH_CMDPT : Fld := ⟨0x40060404, 0x40, 0x0, 16, 0, .rw, .const 0, []⟩
/-- `SOL_CHn_PROF.HOLD_I` [27:16]. -/
def SOL_CH_PROF_HOLD_I : Fld := ⟨0x40060408, 0x40, 0x0, 27, 16, .rw, .const 0, [(0, 2047)]⟩
/-- `SOL_CHn_PROF.PICK_I` [11:0]. -/
def SOL_CH_PROF_PICK_I : Fld := ⟨0x40060408, 0x40, 0x0, 11, 0, .rw, .const 0, [(1, 2047)]⟩
/-- `SOL_CHn_TIME.POST` [23:16]. -/
def SOL_CH_TIME_POST : Fld := ⟨0x4006040C, 0x40, 0x0, 23, 16, .rw, .const 0, []⟩
/-- `SOL_CHn_TIME.T_PICK` [15:0]. -/
def SOL_CH_TIME_T_PICK : Fld := ⟨0x4006040C, 0x40, 0x0, 15, 0, .rw, .const 0x64, [(1, 65535)]⟩
/-- `SOL_CHn_PWM.KI` [31:24]. -/
def SOL_CH_PWM_KI : Fld := ⟨0x40060410, 0x40, 0x0, 31, 24, .rw, .const 0x10, []⟩
/-- `SOL_CHn_PWM.KP` [23:16]. -/
def SOL_CH_PWM_KP : Fld := ⟨0x40060410, 0x40, 0x0, 23, 16, .rw, .const 0x40, []⟩
/-- `SOL_CHn_PWM.PER` [13:0]. -/
def SOL_CH_PWM_PER : Fld := ⟨0x40060410, 0x40, 0x0, 13, 0, .rw, .const 0x2710, []⟩
/-- `SOL_CHn_DET.DIP_WIN` [23:16]. -/
def SOL_CH_DET_DIP_WIN : Fld := ⟨0x40060414, 0x40, 0x0, 23, 16, .rw, .const 0x40, [(1, 255)]⟩
/-- `SOL_CHn_DET.DIP_MIN` [11:0]. -/
def SOL_CH_DET_DIP_MIN : Fld := ⟨0x40060414, 0x40, 0x0, 11, 0, .rw, .const 0x20, [(1, 2047)]⟩
/-- `SOL_CHn_LIM.IOFF` [27:16]. -/
def SOL_CH_LIM_IOFF : Fld := ⟨0x40060418, 0x40, 0x0, 27, 16, .rw, .const 0x14, []⟩
/-- `SOL_CHn_LIM.OC_LIM` [11:0]. -/
def SOL_CH_LIM_OC_LIM : Fld := ⟨0x40060418, 0x40, 0x0, 11, 0, .rw, .const 0x7FF, []⟩
/-- `SOL_CHn_I2T_CFG.CUT_FRAC` [15:12]. -/
def SOL_CH_I2T_CFG_CUT_FRAC : Fld := ⟨0x4006041C, 0x40, 0x0, 15, 12, .rw, .const 8, [(1, 15)]⟩
/-- `SOL_CHn_I2T_CFG.POLICY` [9:8]. -/
def SOL_CH_I2T_CFG_POLICY : Fld := ⟨0x4006041C, 0x40, 0x0, 9, 8, .rw, .const 0, [(0, 2)]⟩
/-- `SOL_CHn_I2T_CFG.WIN` [7:0]. -/
def SOL_CH_I2T_CFG_WIN : Fld := ⟨0x4006041C, 0x40, 0x0, 7, 0, .rw, .const 0x3C, [(1, 255)]⟩
/-- `SOL_CHn_I2T_LIM.VALUE` [31:0]. -/
def SOL_CH_I2T_LIM : Fld := ⟨0x40060420, 0x40, 0x0, 31, 0, .rw, .const 0xFFFFFFFF, []⟩
/-- `SOL_CHn_I2T_SUM.VALUE` [31:0]. -/
def SOL_CH_I2T_SUM : Fld := ⟨0x40060424, 0x40, 0x0, 31, 0, .ro, .const 0, []⟩
/-- `SOL_CHn_SHUNT.UOHM` [31:0]. -/
def SOL_CH_SHUNT : Fld := ⟨0x40060428, 0x40, 0x0, 31, 0, .rw, .const 0xC350, []⟩
/-- `SOL_CHn_CMD.CMD` [2:0]. -/
def SOL_CH_CMD : Fld := ⟨0x4006042C, 0x40, 0x0, 2, 0, .wo, .const 0, [(0, 4)]⟩
/-- `SOL_CHn_STAT.REASON` [31:28]. -/
def SOL_CH_STAT_REASON : Fld := ⟨0x40060430, 0x40, 0x0, 31, 28, .ro, .const 0, []⟩
/-- `SOL_CHn_STAT.FLT_REASON` [27:24]. -/
def SOL_CH_STAT_FLT_REASON : Fld := ⟨0x40060430, 0x40, 0x0, 27, 24, .ro, .const 0, []⟩
/-- `SOL_CHn_STAT.REFUSED` [23:16]. -/
def SOL_CH_STAT_REFUSED : Fld := ⟨0x40060430, 0x40, 0x0, 23, 16, .rc, .const 0, []⟩
/-- `SOL_CHn_STAT.ARMED` [15:15]. -/
def SOL_CH_STAT_ARMED : Fld := ⟨0x40060430, 0x40, 0x0, 15, 15, .ro, .const 0, []⟩
/-- `SOL_CHn_STAT.CMDBAD` [14:14]. -/
def SOL_CH_STAT_CMDBAD : Fld := ⟨0x40060430, 0x40, 0x0, 14, 14, .ro, .const 0, []⟩
/-- `SOL_CHn_STAT.OVER` [13:13]. -/
def SOL_CH_STAT_OVER : Fld := ⟨0x40060430, 0x40, 0x0, 13, 13, .ro, .const 0, []⟩
/-- `SOL_CHn_STAT.SLOWREL` [12:12]. -/
def SOL_CH_STAT_SLOWREL : Fld := ⟨0x40060430, 0x40, 0x0, 12, 12, .ro, .const 0, []⟩
/-- `SOL_CHn_STAT.ABORT_LATE` [11:11]. -/
def SOL_CH_STAT_ABORT_LATE : Fld := ⟨0x40060430, 0x40, 0x0, 11, 11, .w1c, .const 0, []⟩
/-- `SOL_CHn_STAT.MOTION` [9:8]. -/
def SOL_CH_STAT_MOTION : Fld := ⟨0x40060430, 0x40, 0x0, 9, 8, .ro, .const 0, []⟩
/-- `SOL_CHn_STAT.OUTCOME` [5:4]. -/
def SOL_CH_STAT_OUTCOME : Fld := ⟨0x40060430, 0x40, 0x0, 5, 4, .ro, .const 0, []⟩
/-- `SOL_CHn_STAT.STATE` [2:0]. -/
def SOL_CH_STAT_STATE : Fld := ⟨0x40060430, 0x40, 0x0, 2, 0, .ro, .const 0, []⟩
/-- `SOL_CHn_TMOVE.T` [23:0]. -/
def SOL_CH_TMOVE : Fld := ⟨0x40060434, 0x40, 0x0, 23, 0, .ro, .const 0, []⟩
/-- `SOL_CHn_TDET.T` [23:0]. -/
def SOL_CH_TDET : Fld := ⟨0x40060438, 0x40, 0x0, 23, 0, .ro, .const 0, []⟩
/-- `SOL_CHn_ENERGY.UJ` [31:0]. -/
def SOL_CH_ENERGY : Fld := ⟨0x4006043C, 0x40, 0x0, 31, 0, .ro, .const 0, []⟩

end F

namespace R

def SOL_VSOL : Reg := ⟨0x40060000, 0x0, 1, 0x0, 1, [F.SOL_VSOL]⟩
def SOL_FAULT_MAP : Reg := ⟨0x40060004, 0x0, 1, 0x0, 1, [F.SOL_FAULT_MAP]⟩
def SOL_OVER_MAP : Reg := ⟨0x40060008, 0x0, 1, 0x0, 1, [F.SOL_OVER_MAP]⟩
def SOL_GRP_CFG : Reg := ⟨0x40060100, 0x20, 8, 0x0, 1, [F.SOL_GRP_CFG_GRP_WAIT, F.SOL_GRP_CFG_IMAX]⟩
def SOL_GRP_STAT : Reg := ⟨0x40060104, 0x20, 8, 0x0, 1, [F.SOL_GRP_STAT_TIMEOUTS, F.SOL_GRP_STAT_QUEUED, F.SOL_GRP_STAT_HS_ON, F.SOL_GRP_STAT_LOAD]⟩
def SOL_CH_CFG : Reg := ⟨0x40060400, 0x40, 32, 0x0, 1, [F.SOL_CH_CFG_EN, F.SOL_CH_CFG_SRC, F.SOL_CH_CFG_RANGE, F.SOL_CH_CFG_BLANK, F.SOL_CH_CFG_FILT, F.SOL_CH_CFG_NMFAULT, F.SOL_CH_CFG_EARLY, F.SOL_CH_CFG_REL, F.SOL_CH_CFG_MODE]⟩
def SOL_CH_CMDPT : Reg := ⟨0x40060404, 0x40, 32, 0x0, 1, [F.SOL_CH_CMDPT]⟩
def SOL_CH_PROF : Reg := ⟨0x40060408, 0x40, 32, 0x0, 1, [F.SOL_CH_PROF_HOLD_I, F.SOL_CH_PROF_PICK_I]⟩
def SOL_CH_TIME : Reg := ⟨0x4006040C, 0x40, 32, 0x0, 1, [F.SOL_CH_TIME_POST, F.SOL_CH_TIME_T_PICK]⟩
def SOL_CH_PWM : Reg := ⟨0x40060410, 0x40, 32, 0x0, 1, [F.SOL_CH_PWM_KI, F.SOL_CH_PWM_KP, F.SOL_CH_PWM_PER]⟩
def SOL_CH_DET : Reg := ⟨0x40060414, 0x40, 32, 0x0, 1, [F.SOL_CH_DET_DIP_WIN, F.SOL_CH_DET_DIP_MIN]⟩
def SOL_CH_LIM : Reg := ⟨0x40060418, 0x40, 32, 0x0, 1, [F.SOL_CH_LIM_IOFF, F.SOL_CH_LIM_OC_LIM]⟩
def SOL_CH_I2T_CFG : Reg := ⟨0x4006041C, 0x40, 32, 0x0, 1, [F.SOL_CH_I2T_CFG_CUT_FRAC, F.SOL_CH_I2T_CFG_POLICY, F.SOL_CH_I2T_CFG_WIN]⟩
def SOL_CH_I2T_LIM : Reg := ⟨0x40060420, 0x40, 32, 0x0, 1, [F.SOL_CH_I2T_LIM]⟩
def SOL_CH_I2T_SUM : Reg := ⟨0x40060424, 0x40, 32, 0x0, 1, [F.SOL_CH_I2T_SUM]⟩
def SOL_CH_SHUNT : Reg := ⟨0x40060428, 0x40, 32, 0x0, 1, [F.SOL_CH_SHUNT]⟩
def SOL_CH_CMD : Reg := ⟨0x4006042C, 0x40, 32, 0x0, 1, [F.SOL_CH_CMD]⟩
def SOL_CH_STAT : Reg := ⟨0x40060430, 0x40, 32, 0x0, 1, [F.SOL_CH_STAT_REASON, F.SOL_CH_STAT_FLT_REASON, F.SOL_CH_STAT_REFUSED, F.SOL_CH_STAT_ARMED, F.SOL_CH_STAT_CMDBAD, F.SOL_CH_STAT_OVER, F.SOL_CH_STAT_SLOWREL, F.SOL_CH_STAT_ABORT_LATE, F.SOL_CH_STAT_MOTION, F.SOL_CH_STAT_OUTCOME, F.SOL_CH_STAT_STATE]⟩
def SOL_CH_TMOVE : Reg := ⟨0x40060434, 0x40, 32, 0x0, 1, [F.SOL_CH_TMOVE]⟩
def SOL_CH_TDET : Reg := ⟨0x40060438, 0x40, 32, 0x0, 1, [F.SOL_CH_TDET]⟩
def SOL_CH_ENERGY : Reg := ⟨0x4006043C, 0x40, 32, 0x0, 1, [F.SOL_CH_ENERGY]⟩

end R

/-- The registers of block SOL (R28). -/
def regsSol : List Reg := [
  R.SOL_VSOL, R.SOL_FAULT_MAP, R.SOL_OVER_MAP, R.SOL_GRP_CFG, R.SOL_GRP_STAT, R.SOL_CH_CFG, R.SOL_CH_CMDPT,
  R.SOL_CH_PROF, R.SOL_CH_TIME, R.SOL_CH_PWM, R.SOL_CH_DET, R.SOL_CH_LIM, R.SOL_CH_I2T_CFG, R.SOL_CH_I2T_LIM,
  R.SOL_CH_I2T_SUM, R.SOL_CH_SHUNT, R.SOL_CH_CMD, R.SOL_CH_STAT, R.SOL_CH_TMOVE, R.SOL_CH_TDET,
  R.SOL_CH_ENERGY]

/-! ### MOT at 0x40070000 -/

namespace F

/-- `MOT_VMOT.MV` [15:0]. -/
def MOT_VMOT : Fld := ⟨0x40070000, 0x0, 0x0, 15, 0, .ro, .const 0, []⟩
/-- `MOT_FAULT_MAP.MAP` [11:0]. -/
def MOT_FAULT_MAP : Fld := ⟨0x40070004, 0x0, 0x0, 11, 0, .ro, .const 0, []⟩
/-- `MOT_CHn_CFG.EN` [31:31]. -/
def MOT_CH_CFG_EN : Fld := ⟨0x40070100, 0x80, 0x0, 31, 31, .rw, .const 0, []⟩
/-- `MOT_CHn_CFG.KIND` [30:29]. -/
def MOT_CH_CFG_KIND : Fld := ⟨0x40070100, 0x80, 0x0, 30, 29, .rw, .const 0, [(0, 1)]⟩
/-- `MOT_CHn_CFG.POSSRC` [28:27]. -/
def MOT_CH_CFG_POSSRC : Fld := ⟨0x40070100, 0x80, 0x0, 28, 27, .rw, .const 0, [(0, 2)]⟩
/-- `MOT_CHn_CFG.SRC` [26:25]. -/
def MOT_CH_CFG_SRC : Fld := ⟨0x40070100, 0x80, 0x0, 26, 25, .rw, .const 0, [(0, 1)]⟩
/-- `MOT_CHn_CFG.RANGE` [24:23]. -/
def MOT_CH_CFG_RANGE : Fld := ⟨0x40070100, 0x80, 0x0, 24, 23, .rw, .const 0, [(0, 2)]⟩
/-- `MOT_CHn_CFG.OBS_ACT` [22:21]. -/
def MOT_CH_CFG_OBS_ACT : Fld := ⟨0x40070100, 0x80, 0x0, 22, 21, .rw, .const 0, [(0, 2)]⟩
/-- `MOT_CHn_CFG.POLES` [19:16]. -/
def MOT_CH_CFG_POLES : Fld := ⟨0x40070100, 0x80, 0x0, 19, 16, .rw, .const 1, [(1, 15)]⟩
/-- `MOT_CHn_CFG.DT` [8:0]. -/
def MOT_CH_CFG_DT : Fld := ⟨0x40070100, 0x80, 0x0, 8, 0, .rw, .const 0x14, []⟩
/-- `MOT_CHn_PWM.PER` [14:0]. -/
def MOT_CH_PWM : Fld := ⟨0x40070104, 0x80, 0x0, 14, 0, .rw, .const 0x2710, []⟩
/-- `MOT_CHn_CMDPT.POINT` [16:0]. -/
def MOT_CH_CMDPT : Fld := ⟨0x40070108, 0x80, 0x0, 16, 0, .rw, .const 0, []⟩
/-- `MOT_CHn_RUNPT.POINT` [16:0]. -/
def MOT_CH_RUNPT : Fld := ⟨0x4007010C, 0x80, 0x0, 16, 0, .rw, .const 0, []⟩
/-- `MOT_CHn_ILIM.IQ_MAX` [27:16]. -/
def MOT_CH_ILIM_IQ_MAX : Fld := ⟨0x40070110, 0x80, 0x0, 27, 16, .rw, .const 0, [(0, 2047)]⟩
/-- `MOT_CHn_ILIM.OC_LIM` [11:0]. -/
def MOT_CH_ILIM_OC_LIM : Fld := ⟨0x40070110, 0x80, 0x0, 11, 0, .rw, .const 0x7FF, []⟩
/-- `MOT_CHn_ITGT.ID_T` [27:16]. -/
def MOT_CH_ITGT_ID_T : Fld := ⟨0x40070114, 0x80, 0x0, 27, 16, .rw, .const 0, []⟩
/-- `MOT_CHn_ITGT.IQ_T` [11:0]. -/
def MOT_CH_ITGT_IQ_T : Fld := ⟨0x40070114, 0x80, 0x0, 11, 0, .rw, .const 0, []⟩
/-- `MOT_CHn_KP.VALUE` [31:0]. -/
def MOT_CH_KP : Fld := ⟨0x40070118, 0x80, 0x0, 31, 0, .rw, .const 0, []⟩
/-- `MOT_CHn_KI.VALUE` [31:0]. -/
def MOT_CH_KI : Fld := ⟨0x4007011C, 0x80, 0x0, 31, 0, .rw, .const 0, []⟩
/-- `MOT_CHn_VLIM.VALUE` [31:0]. -/
def MOT_CH_VLIM : Fld := ⟨0x40070120, 0x80, 0x0, 31, 0, .rw, .const 0, []⟩
/-- `MOT_CHn_SHUNT.UOHM` [31:0]. -/
def MOT_CH_SHUNT : Fld := ⟨0x40070124, 0x80, 0x0, 31, 0, .rw, .const 0x7D0, []⟩
/-- `MOT_CHn_ENC.CPR` [23:0]. -/
def MOT_CH_ENC : Fld := ⟨0x40070128, 0x80, 0x0, 23, 0, .rw, .const 0x1000, [(1, 16777215)]⟩
/-- `MOT_CHn_ANG.ANG_OFS` [15:0]. -/
def MOT_CH_ANG : Fld := ⟨0x4007012C, 0x80, 0x0, 15, 0, .rw, .const 0, []⟩
/-- `MOT_CHn_OBS.ENV_SEG` [31:16]. -/
def MOT_CH_OBS_ENV_SEG : Fld := ⟨0x40070130, 0x80, 0x0, 31, 16, .rw, .const 0x100, [(1, 65535)]⟩
/-- `MOT_CHn_OBS.T_OBS` [7:0]. -/
def MOT_CH_OBS_T_OBS : Fld := ⟨0x40070130, 0x80, 0x0, 7, 0, .rw, .const 0x32, [(1, 255)]⟩
/-- `MOT_CHn_ENV_ORG.ORG` [31:0]. -/
def MOT_CH_ENV_ORG : Fld := ⟨0x40070134, 0x80, 0x0, 31, 0, .rw, .const 0, []⟩
/-- `MOT_CHn_STOP.STOP_IQ` [27:16]. -/
def MOT_CH_STOP_STOP_IQ : Fld := ⟨0x40070138, 0x80, 0x0, 27, 16, .rw, .const 0, []⟩
/-- `MOT_CHn_STOP.REV_IQ` [11:0]. -/
def MOT_CH_STOP_REV_IQ : Fld := ⟨0x40070138, 0x80, 0x0, 11, 0, .rw, .const 0, []⟩
/-- `MOT_CHn_REV.STILL_T` [31:24]. -/
def MOT_CH_REV_STILL_T : Fld := ⟨0x4007013C, 0x80, 0x0, 31, 24, .rw, .const 0x14, [(1, 255)]⟩
/-- `MOT_CHn_REV.REV_DIST` [23:0]. -/
def MOT_CH_REV_REV_DIST : Fld := ⟨0x4007013C, 0x80, 0x0, 23, 0, .rw, .const 0, []⟩
/-- `MOT_CHn_BRAKE.BRK_EN` [31:31]. -/
def MOT_CH_BRAKE_BRK_EN : Fld := ⟨0x40070140, 0x80, 0x0, 31, 31, .rw, .const 0, []⟩
/-- `MOT_CHn_BRAKE.BRK_CH` [28:24]. -/
def MOT_CH_BRAKE_BRK_CH : Fld := ⟨0x40070140, 0x80, 0x0, 28, 24, .rw, .const 0, []⟩
/-- `MOT_CHn_BRAKE.BRK_TMO` [15:8]. -/
def MOT_CH_BRAKE_BRK_TMO : Fld := ⟨0x40070140, 0x80, 0x0, 15, 8, .rw, .const 0x14, [(1, 255)]⟩
/-- `MOT_CHn_BRAKE.BRK_ENG` [7:0]. -/
def MOT_CH_BRAKE_BRK_ENG : Fld := ⟨0x40070140, 0x80, 0x0, 7, 0, .rw, .const 0x28, []⟩
/-- `MOT_CHn_HOME.HOME_SRC` [31:30]. -/
def MOT_CH_HOME_HOME_SRC : Fld := ⟨0x40070144, 0x80, 0x0, 31, 30, .rw, .const 0, [(0, 2)]⟩
/-- `MOT_CHn_HOME.HOME_DIR` [29:29]. -/
def MOT_CH_HOME_HOME_DIR : Fld := ⟨0x40070144, 0x80, 0x0, 29, 29, .rw, .const 0, []⟩
/-- `MOT_CHn_HOME.HOME_LVL` [28:28]. -/
def MOT_CH_HOME_HOME_LVL : Fld := ⟨0x40070144, 0x80, 0x0, 28, 28, .rw, .const 0, []⟩
/-- `MOT_CHn_HOME.HOME_IQ` [27:16]. -/
def MOT_CH_HOME_HOME_IQ : Fld := ⟨0x40070144, 0x80, 0x0, 27, 16, .rw, .const 0, []⟩
/-- `MOT_CHn_HOME.HOME_GPIO` [12:8]. -/
def MOT_CH_HOME_HOME_GPIO : Fld := ⟨0x40070144, 0x80, 0x0, 12, 8, .rw, .const 0, []⟩
/-- `MOT_CHn_HOME.HOME_T` [7:0]. -/
def MOT_CH_HOME_HOME_T : Fld := ⟨0x40070144, 0x80, 0x0, 7, 0, .rw, .const 0x64, []⟩
/-- `MOT_CHn_HOME_POS.VALUE` [31:0]. -/
def MOT_CH_HOME_POS : Fld := ⟨0x40070148, 0x80, 0x0, 31, 0, .rw, .const 0, []⟩
/-- `MOT_CHn_LIM_LO.VALUE` [31:0]. -/
def MOT_CH_LIM_LO : Fld := ⟨0x4007014C, 0x80, 0x0, 31, 0, .rw, .const 0x80000000, []⟩
/-- `MOT_CHn_LIM_HI.VALUE` [31:0]. -/
def MOT_CH_LIM_HI : Fld := ⟨0x40070150, 0x80, 0x0, 31, 0, .rw, .const 0x7FFFFFFF, []⟩
/-- `MOT_CHn_SL.SL_MIN` [31:24]. -/
def MOT_CH_SL_SL_MIN : Fld := ⟨0x40070154, 0x80, 0x0, 31, 24, .rw, .const 0xA, [(1, 255)]⟩
/-- `MOT_CHn_SL.SL_RAMP` [23:16]. -/
def MOT_CH_SL_SL_RAMP : Fld := ⟨0x40070154, 0x80, 0x0, 23, 16, .rw, .const 0x14, []⟩
/-- `MOT_CHn_SL.SL_IST` [11:0]. -/
def MOT_CH_SL_SL_IST : Fld := ⟨0x40070154, 0x80, 0x0, 11, 0, .rw, .const 0, []⟩
/-- `MOT_CHn_CMD.CMD` [2:0]. -/
def MOT_CH_CMD : Fld := ⟨0x40070158, 0x80, 0x0, 2, 0, .wo, .const 0, [(0, 5)]⟩
/-- `MOT_CHn_STAT.REASON` [31:28]. -/
def MOT_CH_STAT_REASON : Fld := ⟨0x4007015C, 0x80, 0x0, 31, 28, .ro, .const 0, []⟩
/-- `MOT_CHn_STAT.FLT_REASON` [27:24]. -/
def MOT_CH_STAT_FLT_REASON : Fld := ⟨0x4007015C, 0x80, 0x0, 27, 24, .ro, .const 0, []⟩
/-- `MOT_CHn_STAT.SL_LOCK` [16:16]. -/
def MOT_CH_STAT_SL_LOCK : Fld := ⟨0x4007015C, 0x80, 0x0, 16, 16, .ro, .const 0, []⟩
/-- `MOT_CHn_STAT.NOHOME` [15:15]. -/
def MOT_CH_STAT_NOHOME : Fld := ⟨0x4007015C, 0x80, 0x0, 15, 15, .w1c, .const 0, []⟩
/-- `MOT_CHn_STAT.ARMED` [14:14]. -/
def MOT_CH_STAT_ARMED : Fld := ⟨0x4007015C, 0x80, 0x0, 14, 14, .ro, .const 0, []⟩
/-- `MOT_CHn_STAT.THROTTLED` [13:13]. -/
def MOT_CH_STAT_THROTTLED : Fld := ⟨0x4007015C, 0x80, 0x0, 13, 13, .ro, .const 0, []⟩
/-- `MOT_CHn_STAT.ABORT_LATE` [12:12]. -/
def MOT_CH_STAT_ABORT_LATE : Fld := ⟨0x4007015C, 0x80, 0x0, 12, 12, .w1c, .const 0, []⟩
/-- `MOT_CHn_STAT.CMDBAD` [11:11]. -/
def MOT_CH_STAT_CMDBAD : Fld := ⟨0x4007015C, 0x80, 0x0, 11, 11, .ro, .const 0, []⟩
/-- `MOT_CHn_STAT.ALIGNED` [10:10]. -/
def MOT_CH_STAT_ALIGNED : Fld := ⟨0x4007015C, 0x80, 0x0, 10, 10, .ro, .const 0, []⟩
/-- `MOT_CHn_STAT.HOMED` [9:9]. -/
def MOT_CH_STAT_HOMED : Fld := ⟨0x4007015C, 0x80, 0x0, 9, 9, .ro, .const 0, []⟩
/-- `MOT_CHn_STAT.OUTCOME` [6:4]. -/
def MOT_CH_STAT_OUTCOME : Fld := ⟨0x4007015C, 0x80, 0x0, 6, 4, .ro, .const 0, []⟩
/-- `MOT_CHn_STAT.STATE` [3:0]. -/
def MOT_CH_STAT_STATE : Fld := ⟨0x4007015C, 0x80, 0x0, 3, 0, .ro, .const 0, []⟩
/-- `MOT_CHn_POS.VALUE` [31:0]. -/
def MOT_CH_POS : Fld := ⟨0x40070160, 0x80, 0x0, 31, 0, .ro, .const 0, []⟩
/-- `MOT_CHn_SPEED.VALUE` [31:0]. -/
def MOT_CH_SPEED : Fld := ⟨0x40070164, 0x80, 0x0, 31, 0, .ro, .const 0, []⟩
/-- `MOT_CHn_OBS_POS.VALUE` [31:0]. -/
def MOT_CH_OBS_POS : Fld := ⟨0x40070168, 0x80, 0x0, 31, 0, .ro, .const 0, []⟩
/-- `MOT_CHn_IMEAS.ID` [27:16]. -/
def MOT_CH_IMEAS_ID : Fld := ⟨0x4007016C, 0x80, 0x0, 27, 16, .ro, .const 0, []⟩
/-- `MOT_CHn_IMEAS.IQ` [11:0]. -/
def MOT_CH_IMEAS_IQ : Fld := ⟨0x4007016C, 0x80, 0x0, 11, 0, .ro, .const 0, []⟩
/-- `MOT_CHn_ENERGY.UJ` [31:0]. -/
def MOT_CH_ENERGY : Fld := ⟨0x40070170, 0x80, 0x0, 31, 0, .ro, .const 0, []⟩
/-- `MOT_CHn_ENVj.REV` [31:16]. -/
def MOT_CH_ENV_REV : Fld := ⟨0x40071000, 0x100, 0x4, 31, 16, .rw, .const 0xFFFF, []⟩
/-- `MOT_CHn_ENVj.FWD` [15:0]. -/
def MOT_CH_ENV_FWD : Fld := ⟨0x40071000, 0x100, 0x4, 15, 0, .rw, .const 0xFFFF, []⟩

end F

namespace R

def MOT_VMOT : Reg := ⟨0x40070000, 0x0, 1, 0x0, 1, [F.MOT_VMOT]⟩
def MOT_FAULT_MAP : Reg := ⟨0x40070004, 0x0, 1, 0x0, 1, [F.MOT_FAULT_MAP]⟩
def MOT_CH_CFG : Reg := ⟨0x40070100, 0x80, 12, 0x0, 1, [F.MOT_CH_CFG_EN, F.MOT_CH_CFG_KIND, F.MOT_CH_CFG_POSSRC, F.MOT_CH_CFG_SRC, F.MOT_CH_CFG_RANGE, F.MOT_CH_CFG_OBS_ACT, F.MOT_CH_CFG_POLES, F.MOT_CH_CFG_DT]⟩
def MOT_CH_PWM : Reg := ⟨0x40070104, 0x80, 12, 0x0, 1, [F.MOT_CH_PWM]⟩
def MOT_CH_CMDPT : Reg := ⟨0x40070108, 0x80, 12, 0x0, 1, [F.MOT_CH_CMDPT]⟩
def MOT_CH_RUNPT : Reg := ⟨0x4007010C, 0x80, 12, 0x0, 1, [F.MOT_CH_RUNPT]⟩
def MOT_CH_ILIM : Reg := ⟨0x40070110, 0x80, 12, 0x0, 1, [F.MOT_CH_ILIM_IQ_MAX, F.MOT_CH_ILIM_OC_LIM]⟩
def MOT_CH_ITGT : Reg := ⟨0x40070114, 0x80, 12, 0x0, 1, [F.MOT_CH_ITGT_ID_T, F.MOT_CH_ITGT_IQ_T]⟩
def MOT_CH_KP : Reg := ⟨0x40070118, 0x80, 12, 0x0, 1, [F.MOT_CH_KP]⟩
def MOT_CH_KI : Reg := ⟨0x4007011C, 0x80, 12, 0x0, 1, [F.MOT_CH_KI]⟩
def MOT_CH_VLIM : Reg := ⟨0x40070120, 0x80, 12, 0x0, 1, [F.MOT_CH_VLIM]⟩
def MOT_CH_SHUNT : Reg := ⟨0x40070124, 0x80, 12, 0x0, 1, [F.MOT_CH_SHUNT]⟩
def MOT_CH_ENC : Reg := ⟨0x40070128, 0x80, 12, 0x0, 1, [F.MOT_CH_ENC]⟩
def MOT_CH_ANG : Reg := ⟨0x4007012C, 0x80, 12, 0x0, 1, [F.MOT_CH_ANG]⟩
def MOT_CH_OBS : Reg := ⟨0x40070130, 0x80, 12, 0x0, 1, [F.MOT_CH_OBS_ENV_SEG, F.MOT_CH_OBS_T_OBS]⟩
def MOT_CH_ENV_ORG : Reg := ⟨0x40070134, 0x80, 12, 0x0, 1, [F.MOT_CH_ENV_ORG]⟩
def MOT_CH_STOP : Reg := ⟨0x40070138, 0x80, 12, 0x0, 1, [F.MOT_CH_STOP_STOP_IQ, F.MOT_CH_STOP_REV_IQ]⟩
def MOT_CH_REV : Reg := ⟨0x4007013C, 0x80, 12, 0x0, 1, [F.MOT_CH_REV_STILL_T, F.MOT_CH_REV_REV_DIST]⟩
def MOT_CH_BRAKE : Reg := ⟨0x40070140, 0x80, 12, 0x0, 1, [F.MOT_CH_BRAKE_BRK_EN, F.MOT_CH_BRAKE_BRK_CH, F.MOT_CH_BRAKE_BRK_TMO, F.MOT_CH_BRAKE_BRK_ENG]⟩
def MOT_CH_HOME : Reg := ⟨0x40070144, 0x80, 12, 0x0, 1, [F.MOT_CH_HOME_HOME_SRC, F.MOT_CH_HOME_HOME_DIR, F.MOT_CH_HOME_HOME_LVL, F.MOT_CH_HOME_HOME_IQ, F.MOT_CH_HOME_HOME_GPIO, F.MOT_CH_HOME_HOME_T]⟩
def MOT_CH_HOME_POS : Reg := ⟨0x40070148, 0x80, 12, 0x0, 1, [F.MOT_CH_HOME_POS]⟩
def MOT_CH_LIM_LO : Reg := ⟨0x4007014C, 0x80, 12, 0x0, 1, [F.MOT_CH_LIM_LO]⟩
def MOT_CH_LIM_HI : Reg := ⟨0x40070150, 0x80, 12, 0x0, 1, [F.MOT_CH_LIM_HI]⟩
def MOT_CH_SL : Reg := ⟨0x40070154, 0x80, 12, 0x0, 1, [F.MOT_CH_SL_SL_MIN, F.MOT_CH_SL_SL_RAMP, F.MOT_CH_SL_SL_IST]⟩
def MOT_CH_CMD : Reg := ⟨0x40070158, 0x80, 12, 0x0, 1, [F.MOT_CH_CMD]⟩
def MOT_CH_STAT : Reg := ⟨0x4007015C, 0x80, 12, 0x0, 1, [F.MOT_CH_STAT_REASON, F.MOT_CH_STAT_FLT_REASON, F.MOT_CH_STAT_SL_LOCK, F.MOT_CH_STAT_NOHOME, F.MOT_CH_STAT_ARMED, F.MOT_CH_STAT_THROTTLED, F.MOT_CH_STAT_ABORT_LATE, F.MOT_CH_STAT_CMDBAD, F.MOT_CH_STAT_ALIGNED, F.MOT_CH_STAT_HOMED, F.MOT_CH_STAT_OUTCOME, F.MOT_CH_STAT_STATE]⟩
def MOT_CH_POS : Reg := ⟨0x40070160, 0x80, 12, 0x0, 1, [F.MOT_CH_POS]⟩
def MOT_CH_SPEED : Reg := ⟨0x40070164, 0x80, 12, 0x0, 1, [F.MOT_CH_SPEED]⟩
def MOT_CH_OBS_POS : Reg := ⟨0x40070168, 0x80, 12, 0x0, 1, [F.MOT_CH_OBS_POS]⟩
def MOT_CH_IMEAS : Reg := ⟨0x4007016C, 0x80, 12, 0x0, 1, [F.MOT_CH_IMEAS_ID, F.MOT_CH_IMEAS_IQ]⟩
def MOT_CH_ENERGY : Reg := ⟨0x40070170, 0x80, 12, 0x0, 1, [F.MOT_CH_ENERGY]⟩
def MOT_CH_ENV : Reg := ⟨0x40071000, 0x100, 12, 0x4, 64, [F.MOT_CH_ENV_REV, F.MOT_CH_ENV_FWD]⟩

end R

/-- The registers of block MOT (R28). -/
def regsMot : List Reg := [
  R.MOT_VMOT, R.MOT_FAULT_MAP, R.MOT_CH_CFG, R.MOT_CH_PWM, R.MOT_CH_CMDPT, R.MOT_CH_RUNPT, R.MOT_CH_ILIM,
  R.MOT_CH_ITGT, R.MOT_CH_KP, R.MOT_CH_KI, R.MOT_CH_VLIM, R.MOT_CH_SHUNT, R.MOT_CH_ENC, R.MOT_CH_ANG,
  R.MOT_CH_OBS, R.MOT_CH_ENV_ORG, R.MOT_CH_STOP, R.MOT_CH_REV, R.MOT_CH_BRAKE, R.MOT_CH_HOME,
  R.MOT_CH_HOME_POS, R.MOT_CH_LIM_LO, R.MOT_CH_LIM_HI, R.MOT_CH_SL, R.MOT_CH_CMD, R.MOT_CH_STAT,
  R.MOT_CH_POS, R.MOT_CH_SPEED, R.MOT_CH_OBS_POS, R.MOT_CH_IMEAS, R.MOT_CH_ENERGY, R.MOT_CH_ENV]

/-! ### FAN at 0x40080000 -/

namespace F

/-- `FAN_MAP.LOCKED` [31:16]. -/
def FAN_MAP_LOCKED : Fld := ⟨0x40080000, 0x0, 0x0, 31, 16, .ro, .const 0, []⟩
/-- `FAN_MAP.FAULT` [15:0]. -/
def FAN_MAP_FAULT : Fld := ⟨0x40080000, 0x0, 0x0, 15, 0, .ro, .const 0, []⟩
/-- `FAN_CHn_CFG.EN` [31:31]. -/
def FAN_CH_CFG_EN : Fld := ⟨0x40080100, 0x40, 0x0, 31, 31, .rw, .const 0, []⟩
/-- `FAN_CHn_CFG.DRIVE` [30:29]. -/
def FAN_CH_CFG_DRIVE : Fld := ⟨0x40080100, 0x40, 0x0, 30, 29, .rw, .const 0, [(0, 2)]⟩
/-- `FAN_CHn_CFG.SRC` [28:27]. -/
def FAN_CH_CFG_SRC : Fld := ⟨0x40080100, 0x40, 0x0, 28, 27, .rw, .const 0, [(0, 1)]⟩
/-- `FAN_CHn_CFG.VSRC` [26:25]. -/
def FAN_CH_CFG_VSRC : Fld := ⟨0x40080100, 0x40, 0x0, 26, 25, .rw, .const 0, [(0, 2)]⟩
/-- `FAN_CHn_CFG.FAILFULL` [24:24]. -/
def FAN_CH_CFG_FAILFULL : Fld := ⟨0x40080100, 0x40, 0x0, 24, 24, .rw, .const 1, []⟩
/-- `FAN_CHn_CFG.PPR` [23:22]. -/
def FAN_CH_CFG_PPR : Fld := ⟨0x40080100, 0x40, 0x0, 23, 22, .rw, .const 1, []⟩
/-- `FAN_CHn_TGTPT.POINT` [16:0]. -/
def FAN_CH_TGTPT : Fld := ⟨0x40080104, 0x40, 0x0, 16, 0, .rw, .const 0, []⟩
/-- `FAN_CHn_RPM.RPM_MAX` [31:16]. -/
def FAN_CH_RPM_RPM_MAX : Fld := ⟨0x40080108, 0x40, 0x0, 31, 16, .rw, .const 0x4E20, []⟩
/-- `FAN_CHn_RPM.RPM_MIN` [15:0]. -/
def FAN_CH_RPM_RPM_MIN : Fld := ⟨0x40080108, 0x40, 0x0, 15, 0, .rw, .const 0xC8, []⟩
/-- `FAN_CHn_LOOP.KI` [31:24]. -/
def FAN_CH_LOOP_KI : Fld := ⟨0x4008010C, 0x40, 0x0, 31, 24, .rw, .const 4, []⟩
/-- `FAN_CHn_LOOP.KP` [23:16]. -/
def FAN_CH_LOOP_KP : Fld := ⟨0x4008010C, 0x40, 0x0, 23, 16, .rw, .const 0x20, []⟩
/-- `FAN_CHn_LOOP.DSTART` [12:0]. -/
def FAN_CH_LOOP_DSTART : Fld := ⟨0x4008010C, 0x40, 0x0, 12, 0, .rw, .const 0xFA0, [(0, 8000)]⟩
/-- `FAN_CHn_DUTY.DMAX` [28:16]. -/
def FAN_CH_DUTY_DMAX : Fld := ⟨0x40080110, 0x40, 0x0, 28, 16, .rw, .const 0x1F40, []⟩
/-- `FAN_CHn_DUTY.DMIN` [12:0]. -/
def FAN_CH_DUTY_DMIN : Fld := ⟨0x40080110, 0x40, 0x0, 12, 0, .rw, .const 0, []⟩
/-- `FAN_CHn_START.KICK_T` [31:24]. -/
def FAN_CH_START_KICK_T : Fld := ⟨0x40080114, 0x40, 0x0, 31, 24, .rw, .const 0x14, [(1, 255)]⟩
/-- `FAN_CHn_START.START_TO` [23:16]. -/
def FAN_CH_START_START_TO : Fld := ⟨0x40080114, 0x40, 0x0, 23, 16, .rw, .const 0x14, [(1, 255)]⟩
/-- `FAN_CHn_START.RETRY_GAP` [15:8]. -/
def FAN_CH_START_RETRY_GAP : Fld := ⟨0x40080114, 0x40, 0x0, 15, 8, .rw, .const 0xA, [(1, 255)]⟩
/-- `FAN_CHn_START.RETRIES` [3:0]. -/
def FAN_CH_START_RETRIES : Fld := ⟨0x40080114, 0x40, 0x0, 3, 0, .rw, .const 3, [(0, 7)]⟩
/-- `FAN_CHn_ISENSE.I_STALL` [27:16]. -/
def FAN_CH_ISENSE_I_STALL : Fld := ⟨0x40080118, 0x40, 0x0, 27, 16, .rw, .const 0x7FF, []⟩
/-- `FAN_CHn_ISENSE.I_OPEN` [11:0]. -/
def FAN_CH_ISENSE_I_OPEN : Fld := ⟨0x40080118, 0x40, 0x0, 11, 0, .rw, .const 0x10, []⟩
/-- `FAN_CHn_OC.OC_LIM` [11:0]. -/
def FAN_CH_OC : Fld := ⟨0x4008011C, 0x40, 0x0, 11, 0, .rw, .const 0x7FF, []⟩
/-- `FAN_CHn_REGTGT.RPM` [15:0]. -/
def FAN_CH_REGTGT : Fld := ⟨0x40080120, 0x40, 0x0, 15, 0, .rw, .const 0, []⟩
/-- `FAN_CHn_CMD.CMD` [1:0]. -/
def FAN_CH_CMD : Fld := ⟨0x40080124, 0x40, 0x0, 1, 0, .wo, .const 0, []⟩
/-- `FAN_CHn_STAT.REASON` [31:28]. -/
def FAN_CH_STAT_REASON : Fld := ⟨0x40080128, 0x40, 0x0, 31, 28, .ro, .const 0, []⟩
/-- `FAN_CHn_STAT.FLT_REASON` [27:24]. -/
def FAN_CH_STAT_FLT_REASON : Fld := ⟨0x40080128, 0x40, 0x0, 27, 24, .ro, .const 0, []⟩
/-- `FAN_CHn_STAT.ATTEMPT` [19:16]. -/
def FAN_CH_STAT_ATTEMPT : Fld := ⟨0x40080128, 0x40, 0x0, 19, 16, .ro, .const 0, []⟩
/-- `FAN_CHn_STAT.ARMED` [15:15]. -/
def FAN_CH_STAT_ARMED : Fld := ⟨0x40080128, 0x40, 0x0, 15, 15, .ro, .const 0, []⟩
/-- `FAN_CHn_STAT.CMDBAD` [14:14]. -/
def FAN_CH_STAT_CMDBAD : Fld := ⟨0x40080128, 0x40, 0x0, 14, 14, .ro, .const 0, []⟩
/-- `FAN_CHn_STAT.ABORT_LATE` [13:13]. -/
def FAN_CH_STAT_ABORT_LATE : Fld := ⟨0x40080128, 0x40, 0x0, 13, 13, .w1c, .const 0, []⟩
/-- `FAN_CHn_STAT.TACH_SEEN` [12:12]. -/
def FAN_CH_STAT_TACH_SEEN : Fld := ⟨0x40080128, 0x40, 0x0, 12, 12, .ro, .const 0, []⟩
/-- `FAN_CHn_STAT.VERDICT` [9:8]. -/
def FAN_CH_STAT_VERDICT : Fld := ⟨0x40080128, 0x40, 0x0, 9, 8, .ro, .const 0, []⟩
/-- `FAN_CHn_STAT.OUTCOME` [5:4]. -/
def FAN_CH_STAT_OUTCOME : Fld := ⟨0x40080128, 0x40, 0x0, 5, 4, .ro, .const 0, []⟩
/-- `FAN_CHn_STAT.STATE` [3:0]. -/
def FAN_CH_STAT_STATE : Fld := ⟨0x40080128, 0x40, 0x0, 3, 0, .ro, .const 0, []⟩
/-- `FAN_CHn_MEAS.DUTY` [28:16]. -/
def FAN_CH_MEAS_DUTY : Fld := ⟨0x4008012C, 0x40, 0x0, 28, 16, .ro, .const 0, []⟩
/-- `FAN_CHn_MEAS.RPM` [15:0]. -/
def FAN_CH_MEAS_RPM : Fld := ⟨0x4008012C, 0x40, 0x0, 15, 0, .ro, .const 0, []⟩
/-- `FAN_CHn_TREV.TREV` [23:0]. -/
def FAN_CH_TREV : Fld := ⟨0x40080130, 0x40, 0x0, 23, 0, .ro, .const 0, []⟩
/-- `FAN_CHn_IMEAN.IMEAN` [11:0]. -/
def FAN_CH_IMEAN : Fld := ⟨0x40080134, 0x40, 0x0, 11, 0, .ro, .const 0, []⟩
/-- `FAN_CHn_SHUNT.UOHM` [31:0]. -/
def FAN_CH_SHUNT : Fld := ⟨0x40080138, 0x40, 0x0, 31, 0, .rw, .const 0xC350, []⟩

end F

namespace R

def FAN_MAP : Reg := ⟨0x40080000, 0x0, 1, 0x0, 1, [F.FAN_MAP_LOCKED, F.FAN_MAP_FAULT]⟩
def FAN_CH_CFG : Reg := ⟨0x40080100, 0x40, 16, 0x0, 1, [F.FAN_CH_CFG_EN, F.FAN_CH_CFG_DRIVE, F.FAN_CH_CFG_SRC, F.FAN_CH_CFG_VSRC, F.FAN_CH_CFG_FAILFULL, F.FAN_CH_CFG_PPR]⟩
def FAN_CH_TGTPT : Reg := ⟨0x40080104, 0x40, 16, 0x0, 1, [F.FAN_CH_TGTPT]⟩
def FAN_CH_RPM : Reg := ⟨0x40080108, 0x40, 16, 0x0, 1, [F.FAN_CH_RPM_RPM_MAX, F.FAN_CH_RPM_RPM_MIN]⟩
def FAN_CH_LOOP : Reg := ⟨0x4008010C, 0x40, 16, 0x0, 1, [F.FAN_CH_LOOP_KI, F.FAN_CH_LOOP_KP, F.FAN_CH_LOOP_DSTART]⟩
def FAN_CH_DUTY : Reg := ⟨0x40080110, 0x40, 16, 0x0, 1, [F.FAN_CH_DUTY_DMAX, F.FAN_CH_DUTY_DMIN]⟩
def FAN_CH_START : Reg := ⟨0x40080114, 0x40, 16, 0x0, 1, [F.FAN_CH_START_KICK_T, F.FAN_CH_START_START_TO, F.FAN_CH_START_RETRY_GAP, F.FAN_CH_START_RETRIES]⟩
def FAN_CH_ISENSE : Reg := ⟨0x40080118, 0x40, 16, 0x0, 1, [F.FAN_CH_ISENSE_I_STALL, F.FAN_CH_ISENSE_I_OPEN]⟩
def FAN_CH_OC : Reg := ⟨0x4008011C, 0x40, 16, 0x0, 1, [F.FAN_CH_OC]⟩
def FAN_CH_REGTGT : Reg := ⟨0x40080120, 0x40, 16, 0x0, 1, [F.FAN_CH_REGTGT]⟩
def FAN_CH_CMD : Reg := ⟨0x40080124, 0x40, 16, 0x0, 1, [F.FAN_CH_CMD]⟩
def FAN_CH_STAT : Reg := ⟨0x40080128, 0x40, 16, 0x0, 1, [F.FAN_CH_STAT_REASON, F.FAN_CH_STAT_FLT_REASON, F.FAN_CH_STAT_ATTEMPT, F.FAN_CH_STAT_ARMED, F.FAN_CH_STAT_CMDBAD, F.FAN_CH_STAT_ABORT_LATE, F.FAN_CH_STAT_TACH_SEEN, F.FAN_CH_STAT_VERDICT, F.FAN_CH_STAT_OUTCOME, F.FAN_CH_STAT_STATE]⟩
def FAN_CH_MEAS : Reg := ⟨0x4008012C, 0x40, 16, 0x0, 1, [F.FAN_CH_MEAS_DUTY, F.FAN_CH_MEAS_RPM]⟩
def FAN_CH_TREV : Reg := ⟨0x40080130, 0x40, 16, 0x0, 1, [F.FAN_CH_TREV]⟩
def FAN_CH_IMEAN : Reg := ⟨0x40080134, 0x40, 16, 0x0, 1, [F.FAN_CH_IMEAN]⟩
def FAN_CH_SHUNT : Reg := ⟨0x40080138, 0x40, 16, 0x0, 1, [F.FAN_CH_SHUNT]⟩

end R

/-- The registers of block FAN (R28). -/
def regsFan : List Reg := [
  R.FAN_MAP, R.FAN_CH_CFG, R.FAN_CH_TGTPT, R.FAN_CH_RPM, R.FAN_CH_LOOP, R.FAN_CH_DUTY, R.FAN_CH_START,
  R.FAN_CH_ISENSE, R.FAN_CH_OC, R.FAN_CH_REGTGT, R.FAN_CH_CMD, R.FAN_CH_STAT, R.FAN_CH_MEAS, R.FAN_CH_TREV,
  R.FAN_CH_IMEAN, R.FAN_CH_SHUNT]

/-! ### METER at 0x40090000 -/

namespace F

/-- `METER_CTL.FREF` [9:8]. -/
def METER_CTL_FREF : Fld := ⟨0x40090000, 0x0, 0x0, 9, 8, .rw, .const 3, []⟩
/-- `METER_CTL.WIRING` [5:4]. -/
def METER_CTL_WIRING : Fld := ⟨0x40090000, 0x0, 0x0, 5, 4, .rw, .const 0, [(0, 1)]⟩
/-- `METER_CTL.NOM_F` [1:1]. -/
def METER_CTL_NOM_F : Fld := ⟨0x40090000, 0x0, 0x0, 1, 1, .rw, .const 0, []⟩
/-- `METER_CTL.RUN` [0:0]. -/
def METER_CTL_RUN : Fld := ⟨0x40090000, 0x0, 0x0, 0, 0, .rw, .const 0, []⟩
/-- `METER_STAT.NOLOAD` [24:16]. -/
def METER_STAT_NOLOAD : Fld := ⟨0x40090004, 0x0, 0x0, 24, 16, .ro, .const 0, []⟩
/-- `METER_STAT.CLIP` [15:8]. -/
def METER_STAT_CLIP : Fld := ⟨0x40090004, 0x0, 0x0, 15, 8, .w1c, .const 0, []⟩
/-- `METER_STAT.PFW` [6:6]. -/
def METER_STAT_PFW : Fld := ⟨0x40090004, 0x0, 0x0, 6, 6, .ro, .const 0, []⟩
/-- `METER_STAT.EVT` [5:3]. -/
def METER_STAT_EVT : Fld := ⟨0x40090004, 0x0, 0x0, 5, 3, .ro, .const 0, []⟩
/-- `METER_STAT.FREF_USED` [2:1]. -/
def METER_STAT_FREF_USED : Fld := ⟨0x40090004, 0x0, 0x0, 2, 1, .ro, .const 0, []⟩
/-- `METER_STAT.TRACKING` [0:0]. -/
def METER_STAT_TRACKING : Fld := ⟨0x40090004, 0x0, 0x0, 0, 0, .ro, .const 0, []⟩
/-- `METER_UDIN.VALUE` [31:0]. -/
def METER_UDIN : Fld := ⟨0x40090008, 0x0, 0x0, 31, 0, .rw, .const 0x43660000, []⟩
/-- `METER_NOLOAD.VALUE` [31:0]. -/
def METER_NOLOAD : Fld := ⟨0x40090010, 0x0, 0x0, 31, 0, .rw, .const 0x3F000000, []⟩
/-- `METER_EVT_TH.HYST` [31:24]. -/
def METER_EVT_TH_HYST : Fld := ⟨0x4009000C, 0x0, 0x0, 31, 24, .rw, .const 4, []⟩
/-- `METER_EVT_TH.INT_TH` [23:16]. -/
def METER_EVT_TH_INT_TH : Fld := ⟨0x4009000C, 0x0, 0x0, 23, 16, .rw, .const 0xA, []⟩
/-- `METER_EVT_TH.SWELL_TH` [15:8]. -/
def METER_EVT_TH_SWELL_TH : Fld := ⟨0x4009000C, 0x0, 0x0, 15, 8, .rw, .const 0xDC, []⟩
/-- `METER_EVT_TH.SAG_TH` [7:0]. -/
def METER_EVT_TH_SAG_TH : Fld := ⟨0x4009000C, 0x0, 0x0, 7, 0, .rw, .const 0xB4, []⟩
/-- `METER_LATCH.LATCH_NOW` [16:16]. -/
def METER_LATCH_LATCH_NOW : Fld := ⟨0x40090014, 0x0, 0x0, 16, 16, .wo, .const 0, []⟩
/-- `METER_LATCH.N_M1` [11:0]. -/
def METER_LATCH_N_M1 : Fld := ⟨0x40090014, 0x0, 0x0, 11, 0, .rw, .const 0x31, []⟩
/-- `METER_QUANT_MAINS.UWH` [31:0]. -/
def METER_QUANT_MAINS : Fld := ⟨0x40090018, 0x0, 0x0, 31, 0, .rw, .const 0x3E8, [(1, 4294967295)]⟩
/-- `METER_QUANT_SUB.UWH` [31:0]. -/
def METER_QUANT_SUB : Fld := ⟨0x4009001C, 0x0, 0x0, 31, 0, .rw, .const 1, [(1, 4294967295)]⟩
/-- `METER_LAT_CMD.CMD` [1:0]. -/
def METER_LAT_CMD : Fld := ⟨0x40090030, 0x0, 0x0, 1, 0, .wo, .const 0, [(0, 2)]⟩
/-- `METER_LAT_STAT.LOCKED` [8:8]. -/
def METER_LAT_STAT_LOCKED : Fld := ⟨0x40090034, 0x0, 0x0, 8, 8, .ro, .const 0, []⟩
/-- `METER_LAT_STAT.LOCK_BANK` [4:4]. -/
def METER_LAT_STAT_LOCK_BANK : Fld := ⟨0x40090034, 0x0, 0x0, 4, 4, .ro, .const 0, []⟩
/-- `METER_LAT_STAT.NEWEST` [0:0]. -/
def METER_LAT_STAT_NEWEST : Fld := ⟨0x40090034, 0x0, 0x0, 0, 0, .ro, .const 0, []⟩
/-- `METER_LAT_SEQ.SEQ` [31:0]. -/
def METER_LAT_SEQ : Fld := ⟨0x40090038, 0x0, 0x0, 31, 0, .ro, .const 0, []⟩
/-- `METER_SAVE_MARK.SEQ` [31:0]. -/
def METER_SAVE_MARK : Fld := ⟨0x4009003C, 0x0, 0x0, 31, 0, .rw, .const 0, []⟩
/-- `METER_PF_CTL.MAINS_K` [15:8]. -/
def METER_PF_CTL_MAINS_K : Fld := ⟨0x40090044, 0x0, 0x0, 15, 8, .rw, .const 0, []⟩
/-- `METER_PF_CTL.BLK_EN` [0:0]. -/
def METER_PF_CTL_BLK_EN : Fld := ⟨0x40090044, 0x0, 0x0, 0, 0, .rw, .const 1, []⟩
/-- `METER_PF_STAT.BLK` [10:8]. -/
def METER_PF_STAT_BLK : Fld := ⟨0x40090048, 0x0, 0x0, 10, 8, .ro, .const 0, []⟩
/-- `METER_PF_STAT.CAUSE` [5:4]. -/
def METER_PF_STAT_CAUSE : Fld := ⟨0x40090048, 0x0, 0x0, 5, 4, .ro, .const 0, []⟩
/-- `METER_PF_STAT.SAVE_REFUSED` [2:2]. -/
def METER_PF_STAT_SAVE_REFUSED : Fld := ⟨0x40090048, 0x0, 0x0, 2, 2, .w1c, .const 0, []⟩
/-- `METER_PF_STAT.BLK_DONE` [1:1]. -/
def METER_PF_STAT_BLK_DONE : Fld := ⟨0x40090048, 0x0, 0x0, 1, 1, .ro, .const 0, []⟩
/-- `METER_PF_STAT.PFW` [0:0]. -/
def METER_PF_STAT_PFW : Fld := ⟨0x40090048, 0x0, 0x0, 0, 0, .ro, .const 0, []⟩
/-- `METER_PF_CMD.CONSUME` [0:0]. -/
def METER_PF_CMD : Fld := ⟨0x4009004C, 0x0, 0x0, 0, 0, .wo, .const 0, []⟩
/-- `METER_PF_SEL0.SEL` [31:0]. -/
def METER_PF_SEL0 : Fld := ⟨0x40090050, 0x0, 0x0, 31, 0, .rw, .const 0x1211100F, []⟩
/-- `METER_PF_SEL1.SEL` [31:0]. -/
def METER_PF_SEL1 : Fld := ⟨0x40090054, 0x0, 0x0, 31, 0, .rw, .const 0xFF151413, []⟩
/-- `METER_PF_FSRk.FSR` [31:0]. -/
def METER_PF_FSR : Fld := ⟨0x400900A0, 0x4, 0x0, 31, 0, .ro, .const 0, []⟩
/-- `METER_LOAD.LOAD` [31:31]. -/
def METER_LOAD_LOAD : Fld := ⟨0x40090070, 0x0, 0x0, 31, 31, .wo, .const 0, []⟩
/-- `METER_LOAD.RES` [23:16]. -/
def METER_LOAD_RES : Fld := ⟨0x40090070, 0x0, 0x0, 23, 16, .rw, .const 0, []⟩
/-- `METER_LOAD.Q` [7:0]. -/
def METER_LOAD_Q : Fld := ⟨0x40090070, 0x0, 0x0, 7, 0, .rw, .const 0, []⟩
/-- `METER_LOAD_LO.PC` [31:0]. -/
def METER_LOAD_LO : Fld := ⟨0x40090074, 0x0, 0x0, 31, 0, .rw, .const 0, []⟩
/-- `METER_LOAD_HI.PC` [31:0]. -/
def METER_LOAD_HI : Fld := ⟨0x40090078, 0x0, 0x0, 31, 0, .rw, .const 0, []⟩
/-- `METER_EPk_CFG.EN` [31:31]. -/
def METER_EP_CFG_EN : Fld := ⟨0x40090080, 0x8, 0x0, 31, 31, .rw, .const 0, []⟩
/-- `METER_EPk_CFG.POL` [30:30]. -/
def METER_EP_CFG_POL : Fld := ⟨0x40090080, 0x8, 0x0, 30, 30, .rw, .const 0, []⟩
/-- `METER_EPk_CFG.PW_MS` [23:16]. -/
def METER_EP_CFG_PW_MS : Fld := ⟨0x40090080, 0x8, 0x0, 23, 16, .rw, .const 0xA, [(1, 255)]⟩
/-- `METER_EPk_CFG.Q` [7:0]. -/
def METER_EP_CFG_Q : Fld := ⟨0x40090080, 0x8, 0x0, 7, 0, .rw, .const 0xF, []⟩
/-- `METER_EPk_STAT.OVF` [31:31]. -/
def METER_EP_STAT_OVF : Fld := ⟨0x40090084, 0x8, 0x0, 31, 31, .w1c, .const 0, []⟩
/-- `METER_EPk_STAT.BACKLOG` [15:0]. -/
def METER_EP_STAT_BACKLOG : Fld := ⟨0x40090084, 0x8, 0x0, 15, 0, .ro, .const 0, []⟩
/-- `METER_ZSWk_CFG.EN` [31:31]. -/
def METER_ZSW_CFG_EN : Fld := ⟨0x400900C0, 0x10, 0x0, 31, 31, .rw, .const 0, []⟩
/-- `METER_ZSWk_CFG.NOSYNC` [30:30]. -/
def METER_ZSW_CFG_NOSYNC : Fld := ⟨0x400900C0, 0x10, 0x0, 30, 30, .rw, .const 0, []⟩
/-- `METER_ZSWk_CFG.LINE` [29:28]. -/
def METER_ZSW_CFG_LINE : Fld := ⟨0x400900C0, 0x10, 0x0, 29, 28, .rw, .const 0, [(0, 2)]⟩
/-- `METER_ZSWk_CFG.EDGE` [27:26]. -/
def METER_ZSW_CFG_EDGE : Fld := ⟨0x400900C0, 0x10, 0x0, 27, 26, .rw, .const 1, [(1, 3)]⟩
/-- `METER_ZSWk_CFG.GPIO` [4:0]. -/
def METER_ZSW_CFG_GPIO : Fld := ⟨0x400900C0, 0x10, 0x0, 4, 0, .rw, .const 0, []⟩
/-- `METER_ZSWk_PT.POINT` [16:0]. -/
def METER_ZSW_PT : Fld := ⟨0x400900C4, 0x10, 0x0, 16, 0, .rw, .const 0, []⟩
/-- `METER_ZSWk_DLY.DELAY` [14:0]. -/
def METER_ZSW_DLY : Fld := ⟨0x400900C8, 0x10, 0x0, 14, 0, .rw, .const 0, []⟩
/-- `METER_ZSWk_STAT.CMDBAD` [8:8]. -/
def METER_ZSW_STAT_CMDBAD : Fld := ⟨0x400900CC, 0x10, 0x0, 8, 8, .ro, .const 0, []⟩
/-- `METER_ZSWk_STAT.NOSYNC_USED` [4:4]. -/
def METER_ZSW_STAT_NOSYNC_USED : Fld := ⟨0x400900CC, 0x10, 0x0, 4, 4, .w1c, .const 0, []⟩
/-- `METER_ZSWk_STAT.PENDING` [1:1]. -/
def METER_ZSW_STAT_PENDING : Fld := ⟨0x400900CC, 0x10, 0x0, 1, 1, .ro, .const 0, []⟩
/-- `METER_ZSWk_STAT.LEVEL` [0:0]. -/
def METER_ZSW_STAT_LEVEL : Fld := ⟨0x400900CC, 0x10, 0x0, 0, 0, .ro, .const 0, []⟩
/-- `METER_CHc_CFG.INTEG` [4:4]. -/
def METER_CH_CFG_INTEG : Fld := ⟨0x40090100, 0x10, 0x0, 4, 4, .rw, .const 0, []⟩
/-- `METER_CHc_CFG.GAIN` [2:0]. -/
def METER_CH_CFG_GAIN : Fld := ⟨0x40090100, 0x10, 0x0, 2, 0, .rw, .const 0, [(0, 5)]⟩
/-- `METER_CHc_SCALE.SCALE` [31:0]. -/
def METER_CH_SCALE : Fld := ⟨0x40090104, 0x10, 0x0, 31, 0, .rw, .const 0, []⟩
/-- `METER_CHc_OFS.OFS` [23:0]. -/
def METER_CH_OFS : Fld := ⟨0x40090108, 0x10, 0x0, 23, 0, .rw, .const 0, []⟩
/-- `METER_CHc_PHASE.PHASE` [12:0]. -/
def METER_CH_PHASE : Fld := ⟨0x4009010C, 0x10, 0x0, 12, 0, .rw, .const 0, []⟩
/-- `METER_MEASq.VALUE` [31:0]. -/
def METER_MEAS : Fld := ⟨0x40090200, 0x4, 0x0, 31, 0, .ro, .const 0, []⟩
/-- `METER_ACCq_PC_LO.VALUE` [31:0]. -/
def METER_ACC_PC_LO : Fld := ⟨0x40091000, 0x10, 0x0, 31, 0, .ro, .const 0, []⟩
/-- `METER_ACCq_PC_HI.VALUE` [31:0]. -/
def METER_ACC_PC_HI : Fld := ⟨0x40091004, 0x10, 0x0, 31, 0, .ro, .const 0, []⟩
/-- `METER_ACCq_RES_HI.VALUE` [31:0]. -/
def METER_ACC_RES_HI : Fld := ⟨0x40091008, 0x10, 0x0, 31, 0, .ro, .const 0, []⟩
/-- `METER_BANKb_Qq_MWH_LO.VALUE` [31:0]. -/
def METER_BANK_Q_MWH_LO : Fld := ⟨0x40092000, 0x1000, 0x10, 31, 0, .ro, .const 0, []⟩
/-- `METER_BANKb_Qq_MWH_HI.VALUE` [31:0]. -/
def METER_BANK_Q_MWH_HI : Fld := ⟨0x40092004, 0x1000, 0x10, 31, 0, .ro, .const 0, []⟩
/-- `METER_BANKb_Qq_PC_LO.VALUE` [31:0]. -/
def METER_BANK_Q_PC_LO : Fld := ⟨0x40092008, 0x1000, 0x10, 31, 0, .ro, .const 0, []⟩
/-- `METER_BANKb_Qq_PC_HI.VALUE` [31:0]. -/
def METER_BANK_Q_PC_HI : Fld := ⟨0x4009200C, 0x1000, 0x10, 31, 0, .ro, .const 0, []⟩
/-- `METER_BANKb_SEQ.VALUE` [31:0]. -/
def METER_BANK_SEQ : Fld := ⟨0x40092F00, 0x1000, 0x0, 31, 0, .ro, .const 0, []⟩
/-- `METER_BANKb_FRAME_LO.VALUE` [31:0]. -/
def METER_BANK_FRAME_LO : Fld := ⟨0x40092F04, 0x1000, 0x0, 31, 0, .ro, .const 0, []⟩
/-- `METER_BANKb_FRAME_HI.OFFSET` [31:16]. -/
def METER_BANK_FRAME_HI_OFFSET : Fld := ⟨0x40092F08, 0x1000, 0x0, 31, 16, .ro, .const 0, []⟩
/-- `METER_BANKb_FRAME_HI.FRAME_HI` [15:0]. -/
def METER_BANK_FRAME_HI_FRAME_HI : Fld := ⟨0x40092F08, 0x1000, 0x0, 15, 0, .ro, .const 0, []⟩
/-- `METER_BANKb_CYCLES.COUNT` [31:0]. -/
def METER_BANK_CYCLES : Fld := ⟨0x40092F0C, 0x1000, 0x0, 31, 0, .ro, .const 0, []⟩
/-- `METER_BANKb_SAMPLES.COUNT` [31:0]. -/
def METER_BANK_SAMPLES : Fld := ⟨0x40092F10, 0x1000, 0x0, 31, 0, .ro, .const 0, []⟩
/-- `METER_BANKb_FLAGS.CMD` [26:26]. -/
def METER_BANK_FLAGS_CMD : Fld := ⟨0x40092F14, 0x1000, 0x0, 26, 26, .ro, .const 0, []⟩
/-- `METER_BANKb_FLAGS.NOTRACK` [25:25]. -/
def METER_BANK_FLAGS_NOTRACK : Fld := ⟨0x40092F14, 0x1000, 0x0, 25, 25, .ro, .const 0, []⟩
/-- `METER_BANKb_FLAGS.NOLOAD_SEEN` [24:16]. -/
def METER_BANK_FLAGS_NOLOAD_SEEN : Fld := ⟨0x40092F14, 0x1000, 0x0, 24, 16, .ro, .const 0, []⟩
/-- `METER_BANKb_FLAGS.CLIP` [15:8]. -/
def METER_BANK_FLAGS_CLIP : Fld := ⟨0x40092F14, 0x1000, 0x0, 15, 8, .ro, .const 0, []⟩
/-- `METER_BANKb_FLAGS.REV_Q` [7:4]. -/
def METER_BANK_FLAGS_REV_Q : Fld := ⟨0x40092F14, 0x1000, 0x0, 7, 4, .ro, .const 0, []⟩
/-- `METER_BANKb_FLAGS.REV_P` [3:0]. -/
def METER_BANK_FLAGS_REV_P : Fld := ⟨0x40092F14, 0x1000, 0x0, 3, 0, .ro, .const 0, []⟩

end F

namespace R

def METER_CTL : Reg := ⟨0x40090000, 0x0, 1, 0x0, 1, [F.METER_CTL_FREF, F.METER_CTL_WIRING, F.METER_CTL_NOM_F, F.METER_CTL_RUN]⟩
def METER_STAT : Reg := ⟨0x40090004, 0x0, 1, 0x0, 1, [F.METER_STAT_NOLOAD, F.METER_STAT_CLIP, F.METER_STAT_PFW, F.METER_STAT_EVT, F.METER_STAT_FREF_USED, F.METER_STAT_TRACKING]⟩
def METER_UDIN : Reg := ⟨0x40090008, 0x0, 1, 0x0, 1, [F.METER_UDIN]⟩
def METER_NOLOAD : Reg := ⟨0x40090010, 0x0, 1, 0x0, 1, [F.METER_NOLOAD]⟩
def METER_EVT_TH : Reg := ⟨0x4009000C, 0x0, 1, 0x0, 1, [F.METER_EVT_TH_HYST, F.METER_EVT_TH_INT_TH, F.METER_EVT_TH_SWELL_TH, F.METER_EVT_TH_SAG_TH]⟩
def METER_LATCH : Reg := ⟨0x40090014, 0x0, 1, 0x0, 1, [F.METER_LATCH_LATCH_NOW, F.METER_LATCH_N_M1]⟩
def METER_QUANT_MAINS : Reg := ⟨0x40090018, 0x0, 1, 0x0, 1, [F.METER_QUANT_MAINS]⟩
def METER_QUANT_SUB : Reg := ⟨0x4009001C, 0x0, 1, 0x0, 1, [F.METER_QUANT_SUB]⟩
def METER_LAT_CMD : Reg := ⟨0x40090030, 0x0, 1, 0x0, 1, [F.METER_LAT_CMD]⟩
def METER_LAT_STAT : Reg := ⟨0x40090034, 0x0, 1, 0x0, 1, [F.METER_LAT_STAT_LOCKED, F.METER_LAT_STAT_LOCK_BANK, F.METER_LAT_STAT_NEWEST]⟩
def METER_LAT_SEQ : Reg := ⟨0x40090038, 0x0, 1, 0x0, 1, [F.METER_LAT_SEQ]⟩
def METER_SAVE_MARK : Reg := ⟨0x4009003C, 0x0, 1, 0x0, 1, [F.METER_SAVE_MARK]⟩
def METER_PF_CTL : Reg := ⟨0x40090044, 0x0, 1, 0x0, 1, [F.METER_PF_CTL_MAINS_K, F.METER_PF_CTL_BLK_EN]⟩
def METER_PF_STAT : Reg := ⟨0x40090048, 0x0, 1, 0x0, 1, [F.METER_PF_STAT_BLK, F.METER_PF_STAT_CAUSE, F.METER_PF_STAT_SAVE_REFUSED, F.METER_PF_STAT_BLK_DONE, F.METER_PF_STAT_PFW]⟩
def METER_PF_CMD : Reg := ⟨0x4009004C, 0x0, 1, 0x0, 1, [F.METER_PF_CMD]⟩
def METER_PF_SEL0 : Reg := ⟨0x40090050, 0x0, 1, 0x0, 1, [F.METER_PF_SEL0]⟩
def METER_PF_SEL1 : Reg := ⟨0x40090054, 0x0, 1, 0x0, 1, [F.METER_PF_SEL1]⟩
def METER_PF_FSR : Reg := ⟨0x400900A0, 0x4, 8, 0x0, 1, [F.METER_PF_FSR]⟩
def METER_LOAD : Reg := ⟨0x40090070, 0x0, 1, 0x0, 1, [F.METER_LOAD_LOAD, F.METER_LOAD_RES, F.METER_LOAD_Q]⟩
def METER_LOAD_LO : Reg := ⟨0x40090074, 0x0, 1, 0x0, 1, [F.METER_LOAD_LO]⟩
def METER_LOAD_HI : Reg := ⟨0x40090078, 0x0, 1, 0x0, 1, [F.METER_LOAD_HI]⟩
def METER_EP_CFG : Reg := ⟨0x40090080, 0x8, 4, 0x0, 1, [F.METER_EP_CFG_EN, F.METER_EP_CFG_POL, F.METER_EP_CFG_PW_MS, F.METER_EP_CFG_Q]⟩
def METER_EP_STAT : Reg := ⟨0x40090084, 0x8, 4, 0x0, 1, [F.METER_EP_STAT_OVF, F.METER_EP_STAT_BACKLOG]⟩
def METER_ZSW_CFG : Reg := ⟨0x400900C0, 0x10, 4, 0x0, 1, [F.METER_ZSW_CFG_EN, F.METER_ZSW_CFG_NOSYNC, F.METER_ZSW_CFG_LINE, F.METER_ZSW_CFG_EDGE, F.METER_ZSW_CFG_GPIO]⟩
def METER_ZSW_PT : Reg := ⟨0x400900C4, 0x10, 4, 0x0, 1, [F.METER_ZSW_PT]⟩
def METER_ZSW_DLY : Reg := ⟨0x400900C8, 0x10, 4, 0x0, 1, [F.METER_ZSW_DLY]⟩
def METER_ZSW_STAT : Reg := ⟨0x400900CC, 0x10, 4, 0x0, 1, [F.METER_ZSW_STAT_CMDBAD, F.METER_ZSW_STAT_NOSYNC_USED, F.METER_ZSW_STAT_PENDING, F.METER_ZSW_STAT_LEVEL]⟩
def METER_CH_CFG : Reg := ⟨0x40090100, 0x10, 8, 0x0, 1, [F.METER_CH_CFG_INTEG, F.METER_CH_CFG_GAIN]⟩
def METER_CH_SCALE : Reg := ⟨0x40090104, 0x10, 8, 0x0, 1, [F.METER_CH_SCALE]⟩
def METER_CH_OFS : Reg := ⟨0x40090108, 0x10, 8, 0x0, 1, [F.METER_CH_OFS]⟩
def METER_CH_PHASE : Reg := ⟨0x4009010C, 0x10, 8, 0x0, 1, [F.METER_CH_PHASE]⟩
def METER_MEAS : Reg := ⟨0x40090200, 0x4, 27, 0x0, 1, [F.METER_MEAS]⟩
def METER_ACC_PC_LO : Reg := ⟨0x40091000, 0x10, 192, 0x0, 1, [F.METER_ACC_PC_LO]⟩
def METER_ACC_PC_HI : Reg := ⟨0x40091004, 0x10, 192, 0x0, 1, [F.METER_ACC_PC_HI]⟩
def METER_ACC_RES_HI : Reg := ⟨0x40091008, 0x10, 192, 0x0, 1, [F.METER_ACC_RES_HI]⟩
def METER_BANK_Q_MWH_LO : Reg := ⟨0x40092000, 0x1000, 2, 0x10, 192, [F.METER_BANK_Q_MWH_LO]⟩
def METER_BANK_Q_MWH_HI : Reg := ⟨0x40092004, 0x1000, 2, 0x10, 192, [F.METER_BANK_Q_MWH_HI]⟩
def METER_BANK_Q_PC_LO : Reg := ⟨0x40092008, 0x1000, 2, 0x10, 192, [F.METER_BANK_Q_PC_LO]⟩
def METER_BANK_Q_PC_HI : Reg := ⟨0x4009200C, 0x1000, 2, 0x10, 192, [F.METER_BANK_Q_PC_HI]⟩
def METER_BANK_SEQ : Reg := ⟨0x40092F00, 0x1000, 2, 0x0, 1, [F.METER_BANK_SEQ]⟩
def METER_BANK_FRAME_LO : Reg := ⟨0x40092F04, 0x1000, 2, 0x0, 1, [F.METER_BANK_FRAME_LO]⟩
def METER_BANK_FRAME_HI : Reg := ⟨0x40092F08, 0x1000, 2, 0x0, 1, [F.METER_BANK_FRAME_HI_OFFSET, F.METER_BANK_FRAME_HI_FRAME_HI]⟩
def METER_BANK_CYCLES : Reg := ⟨0x40092F0C, 0x1000, 2, 0x0, 1, [F.METER_BANK_CYCLES]⟩
def METER_BANK_SAMPLES : Reg := ⟨0x40092F10, 0x1000, 2, 0x0, 1, [F.METER_BANK_SAMPLES]⟩
def METER_BANK_FLAGS : Reg := ⟨0x40092F14, 0x1000, 2, 0x0, 1, [F.METER_BANK_FLAGS_CMD, F.METER_BANK_FLAGS_NOTRACK, F.METER_BANK_FLAGS_NOLOAD_SEEN, F.METER_BANK_FLAGS_CLIP, F.METER_BANK_FLAGS_REV_Q, F.METER_BANK_FLAGS_REV_P]⟩

end R

/-- The registers of block METER (R28). -/
def regsMeter : List Reg := [
  R.METER_CTL, R.METER_STAT, R.METER_UDIN, R.METER_NOLOAD, R.METER_EVT_TH, R.METER_LATCH,
  R.METER_QUANT_MAINS, R.METER_QUANT_SUB, R.METER_LAT_CMD, R.METER_LAT_STAT, R.METER_LAT_SEQ,
  R.METER_SAVE_MARK, R.METER_PF_CTL, R.METER_PF_STAT, R.METER_PF_CMD, R.METER_PF_SEL0, R.METER_PF_SEL1,
  R.METER_PF_FSR, R.METER_LOAD, R.METER_LOAD_LO, R.METER_LOAD_HI, R.METER_EP_CFG, R.METER_EP_STAT,
  R.METER_ZSW_CFG, R.METER_ZSW_PT, R.METER_ZSW_DLY, R.METER_ZSW_STAT, R.METER_CH_CFG, R.METER_CH_SCALE,
  R.METER_CH_OFS, R.METER_CH_PHASE, R.METER_MEAS, R.METER_ACC_PC_LO, R.METER_ACC_PC_HI, R.METER_ACC_RES_HI,
  R.METER_BANK_Q_MWH_LO, R.METER_BANK_Q_MWH_HI, R.METER_BANK_Q_PC_LO, R.METER_BANK_Q_PC_HI, R.METER_BANK_SEQ,
  R.METER_BANK_FRAME_LO, R.METER_BANK_FRAME_HI, R.METER_BANK_CYCLES, R.METER_BANK_SAMPLES, R.METER_BANK_FLAGS]

/-! ### KEEP at 0x400C0000 -/

namespace F

/-- `KEEP_STAT.FROZEN` [9:9]. -/
def KEEP_STAT_FROZEN : Fld := ⟨0x400C0000, 0x0, 0x0, 9, 9, .ro, .const 0, []⟩
/-- `KEEP_STAT.WAKE` [8:8]. -/
def KEEP_STAT_WAKE : Fld := ⟨0x400C0000, 0x0, 0x0, 8, 8, .w1c, .const 0, []⟩
/-- `KEEP_STAT.VAL_REFUSED` [7:7]. -/
def KEEP_STAT_VAL_REFUSED : Fld := ⟨0x400C0000, 0x0, 0x0, 7, 7, .w1c, .const 0, []⟩
/-- `KEEP_STAT.SET_BUSY` [6:6]. -/
def KEEP_STAT_SET_BUSY : Fld := ⟨0x400C0000, 0x0, 0x0, 6, 6, .w1c, .const 0, []⟩
/-- `KEEP_STAT.PENDING` [5:5]. -/
def KEEP_STAT_PENDING : Fld := ⟨0x400C0000, 0x0, 0x0, 5, 5, .ro, .const 0, []⟩
/-- `KEEP_STAT.ON_VBAT` [4:4]. -/
def KEEP_STAT_ON_VBAT : Fld := ⟨0x400C0000, 0x0, 0x0, 4, 4, .ro, .const 0, []⟩
/-- `KEEP_STAT.OSC_STOP` [3:3]. -/
def KEEP_STAT_OSC_STOP : Fld := ⟨0x400C0000, 0x0, 0x0, 3, 3, .ro, .const 1, []⟩
/-- `KEEP_STAT.TIME_OK` [2:2]. -/
def KEEP_STAT_TIME_OK : Fld := ⟨0x400C0000, 0x0, 0x0, 2, 2, .ro, .const 0, []⟩
/-- `KEEP_STAT.LOSS` [1:1]. -/
def KEEP_STAT_LOSS : Fld := ⟨0x400C0000, 0x0, 0x0, 1, 1, .ro, .const 1, []⟩
/-- `KEEP_STAT.VALID` [0:0]. -/
def KEEP_STAT_VALID : Fld := ⟨0x400C0000, 0x0, 0x0, 0, 0, .ro, .const 0, []⟩
/-- `KEEP_CMD.VALIDATE` [2:2]. -/
def KEEP_CMD_VALIDATE : Fld := ⟨0x400C0004, 0x0, 0x0, 2, 2, .wo, .const 0, []⟩
/-- `KEEP_CMD.CMD` [1:0]. -/
def KEEP_CMD_CMD : Fld := ⟨0x400C0004, 0x0, 0x0, 1, 0, .wo, .const 0, [(0, 1), (3, 3)]⟩
/-- `KEEP_SET_LO.S_LO` [31:0]. -/
def KEEP_SET_LO : Fld := ⟨0x400C0008, 0x0, 0x0, 31, 0, .rw, .const 0, []⟩
/-- `KEEP_SET_HI.S_HI` [15:0]. -/
def KEEP_SET_HI : Fld := ⟨0x400C000C, 0x0, 0x0, 15, 0, .rw, .const 0, []⟩
/-- `KEEP_TK_LO.COUNT_LO` [31:0]. -/
def KEEP_TK_LO : Fld := ⟨0x400C0010, 0x0, 0x0, 31, 0, .ro, .const 0, []⟩
/-- `KEEP_TK_FLG.SHADOW_EXPIRED` [4:4]. -/
def KEEP_TK_FLG_SHADOW_EXPIRED : Fld := ⟨0x400C0014, 0x0, 0x0, 4, 4, .ro, .const 0, []⟩
/-- `KEEP_TK_FLG.OSC_STOP` [3:3]. -/
def KEEP_TK_FLG_OSC_STOP : Fld := ⟨0x400C0014, 0x0, 0x0, 3, 3, .ro, .const 1, []⟩
/-- `KEEP_TK_FLG.TIME_OK` [2:2]. -/
def KEEP_TK_FLG_TIME_OK : Fld := ⟨0x400C0014, 0x0, 0x0, 2, 2, .ro, .const 0, []⟩
/-- `KEEP_TK_FLG.LOSS` [1:1]. -/
def KEEP_TK_FLG_LOSS : Fld := ⟨0x400C0014, 0x0, 0x0, 1, 1, .ro, .const 1, []⟩
/-- `KEEP_TK_FLG.VALID` [0:0]. -/
def KEEP_TK_FLG_VALID : Fld := ⟨0x400C0014, 0x0, 0x0, 0, 0, .ro, .const 0, []⟩
/-- `KEEP_TK_HI.EPOCH` [31:16]. -/
def KEEP_TK_HI_EPOCH : Fld := ⟨0x400C0018, 0x0, 0x0, 31, 16, .ro, .const 0, []⟩
/-- `KEEP_TK_HI.COUNT_HI` [15:0]. -/
def KEEP_TK_HI_COUNT_HI : Fld := ⟨0x400C0018, 0x0, 0x0, 15, 0, .ro, .const 0, []⟩
/-- `KEEP_TRIM.TRIM` [9:0]. -/
def KEEP_TRIM : Fld := ⟨0x400C0020, 0x0, 0x0, 9, 0, .rw, .const 0, [(0, 511), (513, 1023)]⟩
/-- `KEEP_WAKE.EN` [31:31]. -/
def KEEP_WAKE_EN : Fld := ⟨0x400C0024, 0x0, 0x0, 31, 31, .rw, .const 0, []⟩
/-- `KEEP_WAKE.E` [19:16]. -/
def KEEP_WAKE_E : Fld := ⟨0x400C0024, 0x0, 0x0, 19, 16, .rw, .const 0, []⟩
/-- `KEEP_WAKE.M` [15:0]. -/
def KEEP_WAKE_M : Fld := ⟨0x400C0024, 0x0, 0x0, 15, 0, .rw, .const 0, []⟩
/-- `KEEP_BAT.BAT_SW` [15:0]. -/
def KEEP_BAT : Fld := ⟨0x400C0028, 0x0, 0x0, 15, 0, .rc, .const 0, []⟩
/-- `KEEP_RAMw.DATA` [31:0]. -/
def KEEP_RAM : Fld := ⟨0x400C0100, 0x4, 0x0, 31, 0, .rw, .const 0, []⟩

end F

namespace R

def KEEP_STAT : Reg := ⟨0x400C0000, 0x0, 1, 0x0, 1, [F.KEEP_STAT_FROZEN, F.KEEP_STAT_WAKE, F.KEEP_STAT_VAL_REFUSED, F.KEEP_STAT_SET_BUSY, F.KEEP_STAT_PENDING, F.KEEP_STAT_ON_VBAT, F.KEEP_STAT_OSC_STOP, F.KEEP_STAT_TIME_OK, F.KEEP_STAT_LOSS, F.KEEP_STAT_VALID]⟩
def KEEP_CMD : Reg := ⟨0x400C0004, 0x0, 1, 0x0, 1, [F.KEEP_CMD_VALIDATE, F.KEEP_CMD_CMD]⟩
def KEEP_SET_LO : Reg := ⟨0x400C0008, 0x0, 1, 0x0, 1, [F.KEEP_SET_LO]⟩
def KEEP_SET_HI : Reg := ⟨0x400C000C, 0x0, 1, 0x0, 1, [F.KEEP_SET_HI]⟩
def KEEP_TK_LO : Reg := ⟨0x400C0010, 0x0, 1, 0x0, 1, [F.KEEP_TK_LO]⟩
def KEEP_TK_FLG : Reg := ⟨0x400C0014, 0x0, 1, 0x0, 1, [F.KEEP_TK_FLG_SHADOW_EXPIRED, F.KEEP_TK_FLG_OSC_STOP, F.KEEP_TK_FLG_TIME_OK, F.KEEP_TK_FLG_LOSS, F.KEEP_TK_FLG_VALID]⟩
def KEEP_TK_HI : Reg := ⟨0x400C0018, 0x0, 1, 0x0, 1, [F.KEEP_TK_HI_EPOCH, F.KEEP_TK_HI_COUNT_HI]⟩
def KEEP_TRIM : Reg := ⟨0x400C0020, 0x0, 1, 0x0, 1, [F.KEEP_TRIM]⟩
def KEEP_WAKE : Reg := ⟨0x400C0024, 0x0, 1, 0x0, 1, [F.KEEP_WAKE_EN, F.KEEP_WAKE_E, F.KEEP_WAKE_M]⟩
def KEEP_BAT : Reg := ⟨0x400C0028, 0x0, 1, 0x0, 1, [F.KEEP_BAT]⟩
def KEEP_RAM : Reg := ⟨0x400C0100, 0x4, 32, 0x0, 1, [F.KEEP_RAM]⟩

end R

/-- The registers of block KEEP (R28). -/
def regsKeep : List Reg := [
  R.KEEP_STAT, R.KEEP_CMD, R.KEEP_SET_LO, R.KEEP_SET_HI, R.KEEP_TK_LO, R.KEEP_TK_FLG, R.KEEP_TK_HI,
  R.KEEP_TRIM, R.KEEP_WAKE, R.KEEP_BAT, R.KEEP_RAM]

end Sys2Proof.Machine
end

