-- ==== Sys2Proof/Machine/RegsDeck.lean ====
section
/-! DEFINITION. The registers of the deck die's control blocks, written field by field from the register tables
of the chapters of spec/: `F.<register>_<field>` is a field (of a register with one field, `F.<register>`), `R.<register>`
a register (its fields in the table's order). Reserved bits have no field: they read 0 and ignore writes (R7). -/

namespace Sys2Proof.Machine

/-! ### SYS at 0x40000000 -/

namespace F

/-- `SYS_IDENT.PART` [31:16]. -/
def SYS_IDENT_PART : Fld := ⟨0x40000000, 0x0, 0x0, 31, 16, .ro, .const 0x7420, []⟩
/-- `SYS_IDENT.FAMILY` [15:8]. -/
def SYS_IDENT_FAMILY : Fld := ⟨0x40000000, 0x0, 0x0, 15, 8, .ro, .const 0x53, []⟩
/-- `SYS_IDENT.VENDOR` [7:0]. -/
def SYS_IDENT_VENDOR : Fld := ⟨0x40000000, 0x0, 0x0, 7, 0, .ro, .const 0x2D, []⟩
/-- `SYS_REVISION.JOINT_PROTO` [23:16]. -/
def SYS_REVISION_JOINT_PROTO : Fld := ⟨0x40000004, 0x0, 0x0, 23, 16, .ro, .const 1, []⟩
/-- `SYS_REVISION.BEARING_STEP` [15:8]. -/
def SYS_REVISION_BEARING_STEP : Fld := ⟨0x40000004, 0x0, 0x0, 15, 8, .ro, .const 0, []⟩
/-- `SYS_REVISION.DECK_STEP` [7:0]. -/
def SYS_REVISION_DECK_STEP : Fld := ⟨0x40000004, 0x0, 0x0, 7, 0, .ro, .const 1, []⟩
/-- `SYS_GRADE.GRADE` [0:0]. -/
def SYS_GRADE : Fld := ⟨0x40000008, 0x0, 0x0, 0, 0, .ro, .fused 0, []⟩
/-- `SYS_UID_LO.UID` [31:0]. -/
def SYS_UID_LO : Fld := ⟨0x4000000C, 0x0, 0x0, 31, 0, .ro, .fused 1, []⟩
/-- `SYS_UID_HI.UID` [31:0]. -/
def SYS_UID_HI : Fld := ⟨0x40000010, 0x0, 0x0, 31, 0, .ro, .fused 2, []⟩
/-- `SYS_CAPS.DECK_MIB` [31:24]. -/
def SYS_CAPS_DECK_MIB : Fld := ⟨0x40000014, 0x0, 0x0, 31, 24, .ro, .const 0x20, []⟩
/-- `SYS_CAPS.LANES` [23:16]. -/
def SYS_CAPS_LANES : Fld := ⟨0x40000014, 0x0, 0x0, 23, 16, .ro, .const 4, []⟩
/-- `SYS_CAPS.SLICES` [15:8]. -/
def SYS_CAPS_SLICES : Fld := ⟨0x40000014, 0x0, 0x0, 15, 8, .ro, .const 0x11, []⟩
/-- `SYS_CAPS.PIERS` [7:0]. -/
def SYS_CAPS_PIERS : Fld := ⟨0x40000014, 0x0, 0x0, 7, 0, .ro, .const 0x18, []⟩
/-- `SYS_DEVICE_ID.LOCK` [16:16]. -/
def SYS_DEVICE_ID_LOCK : Fld := ⟨0x40000018, 0x0, 0x0, 16, 16, .w1s, .const 0, []⟩
/-- `SYS_DEVICE_ID.ID` [15:0]. -/
def SYS_DEVICE_ID_ID : Fld := ⟨0x40000018, 0x0, 0x0, 15, 0, .rw, .const 0xFFFF, []⟩
/-- `SYS_JOINT_STAT.BAD_LANE` [21:16]. -/
def SYS_JOINT_STAT_BAD_LANE : Fld := ⟨0x4000001C, 0x0, 0x0, 21, 16, .ro, .const 0, []⟩
/-- `SYS_JOINT_STAT.CORR_COUNT` [15:8]. -/
def SYS_JOINT_STAT_CORR_COUNT : Fld := ⟨0x4000001C, 0x0, 0x0, 15, 8, .rc, .const 0, []⟩
/-- `SYS_JOINT_STAT.UE` [1:1]. -/
def SYS_JOINT_STAT_UE : Fld := ⟨0x4000001C, 0x0, 0x0, 1, 1, .w1c, .const 0, []⟩
/-- `SYS_JOINT_STAT.LINK_UP` [0:0]. -/
def SYS_JOINT_STAT_LINK_UP : Fld := ⟨0x4000001C, 0x0, 0x0, 0, 0, .ro, .const 0, []⟩
/-- `SYS_PLL_STAT.LF_LOST` [12:12]. -/
def SYS_PLL_STAT_LF_LOST : Fld := ⟨0x40000020, 0x0, 0x0, 12, 12, .w1c, .const 0, []⟩
/-- `SYS_PLL_STAT.PLL_B_LOST` [11:11]. -/
def SYS_PLL_STAT_PLL_B_LOST : Fld := ⟨0x40000020, 0x0, 0x0, 11, 11, .w1c, .const 0, []⟩
/-- `SYS_PLL_STAT.PLL_N_LOST` [10:10]. -/
def SYS_PLL_STAT_PLL_N_LOST : Fld := ⟨0x40000020, 0x0, 0x0, 10, 10, .w1c, .const 0, []⟩
/-- `SYS_PLL_STAT.PLL_L_LOST` [9:9]. -/
def SYS_PLL_STAT_PLL_L_LOST : Fld := ⟨0x40000020, 0x0, 0x0, 9, 9, .w1c, .const 0, []⟩
/-- `SYS_PLL_STAT.PLL_D_LOST` [8:8]. -/
def SYS_PLL_STAT_PLL_D_LOST : Fld := ⟨0x40000020, 0x0, 0x0, 8, 8, .w1c, .const 0, []⟩
/-- `SYS_PLL_STAT.LF_RUN` [4:4]. -/
def SYS_PLL_STAT_LF_RUN : Fld := ⟨0x40000020, 0x0, 0x0, 4, 4, .ro, .const 0, []⟩
/-- `SYS_PLL_STAT.PLL_B_LOCK` [3:3]. -/
def SYS_PLL_STAT_PLL_B_LOCK : Fld := ⟨0x40000020, 0x0, 0x0, 3, 3, .ro, .const 0, []⟩
/-- `SYS_PLL_STAT.PLL_N_LOCK` [2:2]. -/
def SYS_PLL_STAT_PLL_N_LOCK : Fld := ⟨0x40000020, 0x0, 0x0, 2, 2, .ro, .const 0, []⟩
/-- `SYS_PLL_STAT.PLL_L_LOCK` [1:1]. -/
def SYS_PLL_STAT_PLL_L_LOCK : Fld := ⟨0x40000020, 0x0, 0x0, 1, 1, .ro, .const 0, []⟩
/-- `SYS_PLL_STAT.PLL_D_LOCK` [0:0]. -/
def SYS_PLL_STAT_PLL_D_LOCK : Fld := ⟨0x40000020, 0x0, 0x0, 0, 0, .ro, .const 0, []⟩
/-- `SYS_RST_CAUSE.HIST` [22:16]. -/
def SYS_RST_CAUSE_HIST : Fld := ⟨0x40000040, 0x0, 0x0, 22, 16, .w1c, .const 1, []⟩
/-- `SYS_RST_CAUSE.CAUSE` [3:0]. -/
def SYS_RST_CAUSE_CAUSE : Fld := ⟨0x40000040, 0x0, 0x0, 3, 0, .ro, .const 0, []⟩
/-- `SYS_RST_CMD.KEY` [31:16]. -/
def SYS_RST_CMD_KEY : Fld := ⟨0x40000044, 0x0, 0x0, 31, 16, .wo, .const 0, []⟩
/-- `SYS_RST_CMD.CMD` [1:0]. -/
def SYS_RST_CMD_CMD : Fld := ⟨0x40000044, 0x0, 0x0, 1, 0, .wo, .const 0, [(0, 2)]⟩
/-- `SYS_RST_CTL.TWIN_OK` [0:0]. -/
def SYS_RST_CTL : Fld := ⟨0x40000048, 0x0, 0x0, 0, 0, .rw, .const 0, []⟩
/-- `SYS_WDOG_CTL.EN` [31:31]. -/
def SYS_WDOG_CTL_EN : Fld := ⟨0x4000004C, 0x0, 0x0, 31, 31, .w1s, .const 0, []⟩
/-- `SYS_WDOG_CTL.PERIOD` [15:0]. -/
def SYS_WDOG_CTL_PERIOD : Fld := ⟨0x4000004C, 0x0, 0x0, 15, 0, .rw, .const 0x3E8, [(1, 65535)]⟩
/-- `SYS_WDOG_KICK.KEY` [31:0]. -/
def SYS_WDOG_KICK : Fld := ⟨0x40000050, 0x0, 0x0, 31, 0, .wo, .const 0, []⟩
/-- `SYS_PD_CTL.DECK_RET` [16:16]. -/
def SYS_PD_CTL_DECK_RET : Fld := ⟨0x40000054, 0x0, 0x0, 16, 16, .rw, .const 0, []⟩
/-- `SYS_PD_CTL.ON` [9:0]. -/
def SYS_PD_CTL_ON : Fld := ⟨0x40000054, 0x0, 0x0, 9, 0, .rw, .const 0x3FF, []⟩
/-- `SYS_PD_STAT.REASON` [31:28]. -/
def SYS_PD_STAT_REASON : Fld := ⟨0x40000058, 0x0, 0x0, 31, 28, .ro, .const 0, []⟩
/-- `SYS_PD_STAT.DOMAIN` [27:24]. -/
def SYS_PD_STAT_DOMAIN : Fld := ⟨0x40000058, 0x0, 0x0, 27, 24, .ro, .const 0, []⟩
/-- `SYS_PD_STAT.REFUSED` [23:23]. -/
def SYS_PD_STAT_REFUSED : Fld := ⟨0x40000058, 0x0, 0x0, 23, 23, .w1c, .const 0, []⟩
/-- `SYS_PD_STAT.RETAINED` [22:22]. -/
def SYS_PD_STAT_RETAINED : Fld := ⟨0x40000058, 0x0, 0x0, 22, 22, .ro, .const 0, []⟩
/-- `SYS_PD_STAT.BUSY` [19:10]. -/
def SYS_PD_STAT_BUSY : Fld := ⟨0x40000058, 0x0, 0x0, 19, 10, .ro, .const 0, []⟩
/-- `SYS_PD_STAT.IS_ON` [9:0]. -/
def SYS_PD_STAT_IS_ON : Fld := ⟨0x40000058, 0x0, 0x0, 9, 0, .ro, .const 0x3FF, []⟩
/-- `SYS_PWR_STAT.PFW` [8:8]. -/
def SYS_PWR_STAT_PFW : Fld := ⟨0x4000005C, 0x0, 0x0, 8, 8, .ro, .const 0, []⟩
/-- `SYS_PWR_STAT.GOOD` [4:0]. -/
def SYS_PWR_STAT_GOOD : Fld := ⟨0x4000005C, 0x0, 0x0, 4, 0, .ro, .const 0x1F, []⟩
/-- `SYS_BOOT_STAT.REASON` [31:28]. -/
def SYS_BOOT_STAT_REASON : Fld := ⟨0x40000060, 0x0, 0x0, 31, 28, .ro, .const 0, []⟩
/-- `SYS_BOOT_STAT.PINS` [27:26]. -/
def SYS_BOOT_STAT_PINS : Fld := ⟨0x40000060, 0x0, 0x0, 27, 26, .ro, .const 0, []⟩
/-- `SYS_BOOT_STAT.SOURCE` [25:24]. -/
def SYS_BOOT_STAT_SOURCE : Fld := ⟨0x40000060, 0x0, 0x0, 25, 24, .ro, .const 0, []⟩
/-- `SYS_BOOT_STAT.SLOT` [20:20]. -/
def SYS_BOOT_STAT_SLOT : Fld := ⟨0x40000060, 0x0, 0x0, 20, 20, .ro, .const 0, []⟩
/-- `SYS_BOOT_STAT.STATE` [2:0]. -/
def SYS_BOOT_STAT_STATE : Fld := ⟨0x40000060, 0x0, 0x0, 2, 0, .ro, .const 0, []⟩
/-- `SYS_BOOT_SEQ.SEQ` [31:0]. -/
def SYS_BOOT_SEQ : Fld := ⟨0x40000064, 0x0, 0x0, 31, 0, .ro, .const 0, []⟩
/-- `SYS_BOOT_CMD.GO` [0:0]. -/
def SYS_BOOT_CMD : Fld := ⟨0x40000068, 0x0, 0x0, 0, 0, .wo, .const 0, []⟩
/-- `SYS_BOOT_DIGESTk.DIGEST` [31:0]. -/
def SYS_BOOT_DIGEST : Fld := ⟨0x40000070, 0x4, 0x0, 31, 0, .ro, .const 0, []⟩
/-- `SYS_START_CTL.JOIN_TMO` [31:16]. -/
def SYS_START_CTL_JOIN_TMO : Fld := ⟨0x40000090, 0x0, 0x0, 31, 16, .rw, .const 0x3E8, [(1, 65535)]⟩
/-- `SYS_START_CTL.GO` [0:0]. -/
def SYS_START_CTL_GO : Fld := ⟨0x40000090, 0x0, 0x0, 0, 0, .wo, .const 0, []⟩
/-- `SYS_START_STAT.BUILD_MS` [31:16]. -/
def SYS_START_STAT_BUILD_MS : Fld := ⟨0x40000094, 0x0, 0x0, 31, 16, .ro, .const 0, []⟩
/-- `SYS_START_STAT.JOIN_TIMEOUT` [8:8]. -/
def SYS_START_STAT_JOIN_TIMEOUT : Fld := ⟨0x40000094, 0x0, 0x0, 8, 8, .ro, .const 0, []⟩
/-- `SYS_START_STAT.STEP` [3:0]. -/
def SYS_START_STAT_STEP : Fld := ⟨0x40000094, 0x0, 0x0, 3, 0, .ro, .const 0, []⟩

end F

namespace R

def SYS_IDENT : Reg := ⟨0x40000000, 0x0, 1, 0x0, 1, [F.SYS_IDENT_PART, F.SYS_IDENT_FAMILY, F.SYS_IDENT_VENDOR]⟩
def SYS_REVISION : Reg := ⟨0x40000004, 0x0, 1, 0x0, 1, [F.SYS_REVISION_JOINT_PROTO, F.SYS_REVISION_BEARING_STEP, F.SYS_REVISION_DECK_STEP]⟩
def SYS_GRADE : Reg := ⟨0x40000008, 0x0, 1, 0x0, 1, [F.SYS_GRADE]⟩
def SYS_UID_LO : Reg := ⟨0x4000000C, 0x0, 1, 0x0, 1, [F.SYS_UID_LO]⟩
def SYS_UID_HI : Reg := ⟨0x40000010, 0x0, 1, 0x0, 1, [F.SYS_UID_HI]⟩
def SYS_CAPS : Reg := ⟨0x40000014, 0x0, 1, 0x0, 1, [F.SYS_CAPS_DECK_MIB, F.SYS_CAPS_LANES, F.SYS_CAPS_SLICES, F.SYS_CAPS_PIERS]⟩
def SYS_DEVICE_ID : Reg := ⟨0x40000018, 0x0, 1, 0x0, 1, [F.SYS_DEVICE_ID_LOCK, F.SYS_DEVICE_ID_ID]⟩
def SYS_JOINT_STAT : Reg := ⟨0x4000001C, 0x0, 1, 0x0, 1, [F.SYS_JOINT_STAT_BAD_LANE, F.SYS_JOINT_STAT_CORR_COUNT, F.SYS_JOINT_STAT_UE, F.SYS_JOINT_STAT_LINK_UP]⟩
def SYS_PLL_STAT : Reg := ⟨0x40000020, 0x0, 1, 0x0, 1, [F.SYS_PLL_STAT_LF_LOST, F.SYS_PLL_STAT_PLL_B_LOST, F.SYS_PLL_STAT_PLL_N_LOST, F.SYS_PLL_STAT_PLL_L_LOST, F.SYS_PLL_STAT_PLL_D_LOST, F.SYS_PLL_STAT_LF_RUN, F.SYS_PLL_STAT_PLL_B_LOCK, F.SYS_PLL_STAT_PLL_N_LOCK, F.SYS_PLL_STAT_PLL_L_LOCK, F.SYS_PLL_STAT_PLL_D_LOCK]⟩
def SYS_RST_CAUSE : Reg := ⟨0x40000040, 0x0, 1, 0x0, 1, [F.SYS_RST_CAUSE_HIST, F.SYS_RST_CAUSE_CAUSE]⟩
def SYS_RST_CMD : Reg := ⟨0x40000044, 0x0, 1, 0x0, 1, [F.SYS_RST_CMD_KEY, F.SYS_RST_CMD_CMD]⟩
def SYS_RST_CTL : Reg := ⟨0x40000048, 0x0, 1, 0x0, 1, [F.SYS_RST_CTL]⟩
def SYS_WDOG_CTL : Reg := ⟨0x4000004C, 0x0, 1, 0x0, 1, [F.SYS_WDOG_CTL_EN, F.SYS_WDOG_CTL_PERIOD]⟩
def SYS_WDOG_KICK : Reg := ⟨0x40000050, 0x0, 1, 0x0, 1, [F.SYS_WDOG_KICK]⟩
def SYS_PD_CTL : Reg := ⟨0x40000054, 0x0, 1, 0x0, 1, [F.SYS_PD_CTL_DECK_RET, F.SYS_PD_CTL_ON]⟩
def SYS_PD_STAT : Reg := ⟨0x40000058, 0x0, 1, 0x0, 1, [F.SYS_PD_STAT_REASON, F.SYS_PD_STAT_DOMAIN, F.SYS_PD_STAT_REFUSED, F.SYS_PD_STAT_RETAINED, F.SYS_PD_STAT_BUSY, F.SYS_PD_STAT_IS_ON]⟩
def SYS_PWR_STAT : Reg := ⟨0x4000005C, 0x0, 1, 0x0, 1, [F.SYS_PWR_STAT_PFW, F.SYS_PWR_STAT_GOOD]⟩
def SYS_BOOT_STAT : Reg := ⟨0x40000060, 0x0, 1, 0x0, 1, [F.SYS_BOOT_STAT_REASON, F.SYS_BOOT_STAT_PINS, F.SYS_BOOT_STAT_SOURCE, F.SYS_BOOT_STAT_SLOT, F.SYS_BOOT_STAT_STATE]⟩
def SYS_BOOT_SEQ : Reg := ⟨0x40000064, 0x0, 1, 0x0, 1, [F.SYS_BOOT_SEQ]⟩
def SYS_BOOT_CMD : Reg := ⟨0x40000068, 0x0, 1, 0x0, 1, [F.SYS_BOOT_CMD]⟩
def SYS_BOOT_DIGEST : Reg := ⟨0x40000070, 0x4, 8, 0x0, 1, [F.SYS_BOOT_DIGEST]⟩
def SYS_START_CTL : Reg := ⟨0x40000090, 0x0, 1, 0x0, 1, [F.SYS_START_CTL_JOIN_TMO, F.SYS_START_CTL_GO]⟩
def SYS_START_STAT : Reg := ⟨0x40000094, 0x0, 1, 0x0, 1, [F.SYS_START_STAT_BUILD_MS, F.SYS_START_STAT_JOIN_TIMEOUT, F.SYS_START_STAT_STEP]⟩

end R

/-- The registers of block SYS (R28). -/
def regsSys : List Reg := [
  R.SYS_IDENT, R.SYS_REVISION, R.SYS_GRADE, R.SYS_UID_LO, R.SYS_UID_HI, R.SYS_CAPS, R.SYS_DEVICE_ID,
  R.SYS_JOINT_STAT, R.SYS_PLL_STAT, R.SYS_RST_CAUSE, R.SYS_RST_CMD, R.SYS_RST_CTL, R.SYS_WDOG_CTL,
  R.SYS_WDOG_KICK, R.SYS_PD_CTL, R.SYS_PD_STAT, R.SYS_PWR_STAT, R.SYS_BOOT_STAT, R.SYS_BOOT_SEQ,
  R.SYS_BOOT_CMD, R.SYS_BOOT_DIGEST, R.SYS_START_CTL, R.SYS_START_STAT]

/-! ### SPAN at 0x40010000 -/

namespace F

/-- `SPAN_CTL.SEL` [2:1]. -/
def SPAN_CTL_SEL : Fld := ⟨0x40010000, 0x0, 0x0, 2, 1, .rw, .const 1, []⟩
/-- `SPAN_CTL.RUN` [0:0]. -/
def SPAN_CTL_RUN : Fld := ⟨0x40010000, 0x0, 0x0, 0, 0, .ro, .const 0, []⟩
/-- `SPAN_STAT.CUR_SEL` [7:6]. -/
def SPAN_STAT_CUR_SEL : Fld := ⟨0x40010004, 0x0, 0x0, 7, 6, .ro, .const 1, []⟩
/-- `SPAN_STAT.SOURCE` [5:4]. -/
def SPAN_STAT_SOURCE : Fld := ⟨0x40010004, 0x0, 0x0, 5, 4, .ro, .const 0, []⟩
/-- `SPAN_STAT.WINDOW` [3:2]. -/
def SPAN_STAT_WINDOW : Fld := ⟨0x40010004, 0x0, 0x0, 3, 2, .ro, .const 1, []⟩
/-- `SPAN_STAT.RUNNING` [0:0]. -/
def SPAN_STAT_RUNNING : Fld := ⟨0x40010004, 0x0, 0x0, 0, 0, .ro, .const 0, []⟩
/-- `SPAN_FRAME_LO.FRAME_LO` [31:0]. -/
def SPAN_FRAME_LO : Fld := ⟨0x40010008, 0x0, 0x0, 31, 0, .ro, .const 0, []⟩
/-- `SPAN_FRAME_HI.FRAME_HI` [15:0]. -/
def SPAN_FRAME_HI : Fld := ⟨0x4001000C, 0x0, 0x0, 15, 0, .ro, .const 0, []⟩
/-- `SPAN_PHASE.DECK_CYC` [19:0]. -/
def SPAN_PHASE : Fld := ⟨0x40010010, 0x0, 0x0, 19, 0, .ro, .const 0, []⟩
/-- `SPAN_CHG_CTL.NEW_SEL` [5:4]. -/
def SPAN_CHG_CTL_NEW_SEL : Fld := ⟨0x40010014, 0x0, 0x0, 5, 4, .rw, .const 1, []⟩
/-- `SPAN_CHG_CTL.CMD` [1:0]. -/
def SPAN_CHG_CTL_CMD : Fld := ⟨0x40010014, 0x0, 0x0, 1, 0, .wo, .const 0, [(0, 2)]⟩
/-- `SPAN_CHG_FRAME_LO.F_LO` [31:0]. -/
def SPAN_CHG_FRAME_LO : Fld := ⟨0x40010018, 0x0, 0x0, 31, 0, .rw, .const 0, []⟩
/-- `SPAN_CHG_FRAME_HI.F_HI` [15:0]. -/
def SPAN_CHG_FRAME_HI : Fld := ⟨0x4001001C, 0x0, 0x0, 15, 0, .rw, .const 0, []⟩
/-- `SPAN_CHG_STAT.REASON` [11:8]. -/
def SPAN_CHG_STAT_REASON : Fld := ⟨0x40010020, 0x0, 0x0, 11, 8, .ro, .const 0, []⟩
/-- `SPAN_CHG_STAT.ABORT_LATE` [3:3]. -/
def SPAN_CHG_STAT_ABORT_LATE : Fld := ⟨0x40010020, 0x0, 0x0, 3, 3, .w1c, .const 0, []⟩
/-- `SPAN_CHG_STAT.STATE` [2:0]. -/
def SPAN_CHG_STAT_STATE : Fld := ⟨0x40010020, 0x0, 0x0, 2, 0, .ro, .const 0, []⟩
/-- `SPAN_BEAR_STAT.MISS_COUNT` [31:16]. -/
def SPAN_BEAR_STAT_MISS_COUNT : Fld := ⟨0x40010024, 0x0, 0x0, 31, 16, .rc, .const 0, []⟩
/-- `SPAN_BEAR_STAT.SLIP_COUNT` [15:8]. -/
def SPAN_BEAR_STAT_SLIP_COUNT : Fld := ⟨0x40010024, 0x0, 0x0, 15, 8, .rc, .const 0, []⟩
/-- `SPAN_BEAR_STAT.ALIGN_ERR` [7:0]. -/
def SPAN_BEAR_STAT_ALIGN_ERR : Fld := ⟨0x40010024, 0x0, 0x0, 7, 0, .ro, .const 0, []⟩
/-- `SPAN_HELD_WRITES.HELD_COUNT` [31:0]. -/
def SPAN_HELD_WRITES : Fld := ⟨0x40010028, 0x0, 0x0, 31, 0, .rc, .const 0, []⟩

end F

namespace R

def SPAN_CTL : Reg := ⟨0x40010000, 0x0, 1, 0x0, 1, [F.SPAN_CTL_SEL, F.SPAN_CTL_RUN]⟩
def SPAN_STAT : Reg := ⟨0x40010004, 0x0, 1, 0x0, 1, [F.SPAN_STAT_CUR_SEL, F.SPAN_STAT_SOURCE, F.SPAN_STAT_WINDOW, F.SPAN_STAT_RUNNING]⟩
def SPAN_FRAME_LO : Reg := ⟨0x40010008, 0x0, 1, 0x0, 1, [F.SPAN_FRAME_LO]⟩
def SPAN_FRAME_HI : Reg := ⟨0x4001000C, 0x0, 1, 0x0, 1, [F.SPAN_FRAME_HI]⟩
def SPAN_PHASE : Reg := ⟨0x40010010, 0x0, 1, 0x0, 1, [F.SPAN_PHASE]⟩
def SPAN_CHG_CTL : Reg := ⟨0x40010014, 0x0, 1, 0x0, 1, [F.SPAN_CHG_CTL_NEW_SEL, F.SPAN_CHG_CTL_CMD]⟩
def SPAN_CHG_FRAME_LO : Reg := ⟨0x40010018, 0x0, 1, 0x0, 1, [F.SPAN_CHG_FRAME_LO]⟩
def SPAN_CHG_FRAME_HI : Reg := ⟨0x4001001C, 0x0, 1, 0x0, 1, [F.SPAN_CHG_FRAME_HI]⟩
def SPAN_CHG_STAT : Reg := ⟨0x40010020, 0x0, 1, 0x0, 1, [F.SPAN_CHG_STAT_REASON, F.SPAN_CHG_STAT_ABORT_LATE, F.SPAN_CHG_STAT_STATE]⟩
def SPAN_BEAR_STAT : Reg := ⟨0x40010024, 0x0, 1, 0x0, 1, [F.SPAN_BEAR_STAT_MISS_COUNT, F.SPAN_BEAR_STAT_SLIP_COUNT, F.SPAN_BEAR_STAT_ALIGN_ERR]⟩
def SPAN_HELD_WRITES : Reg := ⟨0x40010028, 0x0, 1, 0x0, 1, [F.SPAN_HELD_WRITES]⟩

end R

/-- The registers of block SPAN (R28). -/
def regsSpan : List Reg := [
  R.SPAN_CTL, R.SPAN_STAT, R.SPAN_FRAME_LO, R.SPAN_FRAME_HI, R.SPAN_PHASE, R.SPAN_CHG_CTL,
  R.SPAN_CHG_FRAME_LO, R.SPAN_CHG_FRAME_HI, R.SPAN_CHG_STAT, R.SPAN_BEAR_STAT, R.SPAN_HELD_WRITES]

/-! ### DECK at 0x40020000 -/

namespace F

/-- `DECK_CTL.DESC_LOCK` [0:0]. -/
def DECK_CTL : Fld := ⟨0x40020000, 0x0, 0x0, 0, 0, .w1s, .const 0, []⟩
/-- `DECK_STAT.FORCE_COUNT` [10:0]. -/
def DECK_STAT : Fld := ⟨0x40020004, 0x0, 0x0, 10, 0, .ro, .const 0, []⟩
/-- `DECK_OWN_REFUSED.COUNT` [31:0]. -/
def DECK_OWN_REFUSED : Fld := ⟨0x40020008, 0x0, 0x0, 31, 0, .rc, .const 0, []⟩
/-- `DECK_OWN_LAST.WRITER` [23:20]. -/
def DECK_OWN_LAST_WRITER : Fld := ⟨0x4002000C, 0x0, 0x0, 23, 20, .ro, .const 0, []⟩
/-- `DECK_OWN_LAST.POINT` [16:0]. -/
def DECK_OWN_LAST_POINT : Fld := ⟨0x4002000C, 0x0, 0x0, 16, 0, .ro, .const 0, []⟩
/-- `DECK_DESC_PT.POINT` [16:0]. -/
def DECK_DESC_PT : Fld := ⟨0x40020010, 0x0, 0x0, 16, 0, .rw, .const 0, []⟩
/-- `DECK_DESC_CMD.CMD` [1:0]. -/
def DECK_DESC_CMD : Fld := ⟨0x40020014, 0x0, 0x0, 1, 0, .wo, .const 0, [(0, 2)]⟩
/-- `DECK_DESC_STAT.REFUSED` [2:2]. -/
def DECK_DESC_STAT_REFUSED : Fld := ⟨0x40020018, 0x0, 0x0, 2, 2, .w1c, .const 0, []⟩
/-- `DECK_DESC_STAT.PENDING` [1:1]. -/
def DECK_DESC_STAT_PENDING : Fld := ⟨0x40020018, 0x0, 0x0, 1, 1, .ro, .const 0, []⟩
/-- `DECK_DESC_STAT.BUSY` [0:0]. -/
def DECK_DESC_STAT_BUSY : Fld := ⟨0x40020018, 0x0, 0x0, 0, 0, .ro, .const 0, []⟩
/-- `DECK_DESC_DATAk.DATA` [31:0]. -/
def DECK_DESC_DATA : Fld := ⟨0x40020020, 0x4, 0x0, 31, 0, .rw, .const 0, []⟩
/-- `DECK_FORCE_PT.POINT` [16:0]. -/
def DECK_FORCE_PT : Fld := ⟨0x40020040, 0x0, 0x0, 16, 0, .rw, .const 0, []⟩
/-- `DECK_FORCE_VAL.VALUE` [31:0]. -/
def DECK_FORCE_VAL : Fld := ⟨0x40020044, 0x0, 0x0, 31, 0, .rw, .const 0, []⟩
/-- `DECK_FORCE_CMD.CMD` [1:0]. -/
def DECK_FORCE_CMD : Fld := ⟨0x40020048, 0x0, 0x0, 1, 0, .wo, .const 0, []⟩
/-- `DECK_FORCE_STAT.REASON` [4:2]. -/
def DECK_FORCE_STAT_REASON : Fld := ⟨0x4002004C, 0x0, 0x0, 4, 2, .ro, .const 0, []⟩
/-- `DECK_FORCE_STAT.REFUSED` [1:1]. -/
def DECK_FORCE_STAT_REFUSED : Fld := ⟨0x4002004C, 0x0, 0x0, 1, 1, .w1c, .const 0, []⟩
/-- `DECK_FORCE_STAT.HELD` [0:0]. -/
def DECK_FORCE_STAT_HELD : Fld := ⟨0x4002004C, 0x0, 0x0, 0, 0, .ro, .const 0, []⟩
/-- `DECK_BLKn_BUF.BASE` [31:16]. -/
def DECK_BLK_BUF : Fld := ⟨0x40020100, 0x20, 0x0, 31, 16, .rw, .const 0x190, []⟩
/-- `DECK_BLKn_SEL.COUNT` [28:16]. -/
def DECK_BLK_SEL : Fld := ⟨0x40020104, 0x20, 0x0, 28, 16, .rw, .const 0, []⟩
/-- `DECK_BLKn_FIRST.FIRST` [16:0]. -/
def DECK_BLK_FIRST : Fld := ⟨0x40020108, 0x20, 0x0, 16, 0, .rw, .const 0, []⟩
/-- `DECK_BLKn_CMD.CMD` [1:0]. -/
def DECK_BLK_CMD : Fld := ⟨0x4002010C, 0x20, 0x0, 1, 0, .wo, .const 0, []⟩
/-- `DECK_BLKn_STAT.REASON` [11:8]. -/
def DECK_BLK_STAT_REASON : Fld := ⟨0x40020110, 0x20, 0x0, 11, 8, .ro, .const 0, []⟩
/-- `DECK_BLKn_STAT.ABORT_LATE` [3:3]. -/
def DECK_BLK_STAT_ABORT_LATE : Fld := ⟨0x40020110, 0x20, 0x0, 3, 3, .w1c, .const 0, []⟩
/-- `DECK_BLKn_STAT.STATE` [2:0]. -/
def DECK_BLK_STAT_STATE : Fld := ⟨0x40020110, 0x20, 0x0, 2, 0, .ro, .const 0, []⟩
/-- `DECK_BLKn_FRAME_LO.FRAME_LO` [31:0]. -/
def DECK_BLK_FRAME_LO : Fld := ⟨0x40020114, 0x20, 0x0, 31, 0, .ro, .const 0, []⟩
/-- `DECK_BLKn_FRAME_HI.FRAME_HI` [15:0]. -/
def DECK_BLK_FRAME_HI : Fld := ⟨0x40020118, 0x20, 0x0, 15, 0, .ro, .const 0, []⟩

end F

namespace R

def DECK_CTL : Reg := ⟨0x40020000, 0x0, 1, 0x0, 1, [F.DECK_CTL]⟩
def DECK_STAT : Reg := ⟨0x40020004, 0x0, 1, 0x0, 1, [F.DECK_STAT]⟩
def DECK_OWN_REFUSED : Reg := ⟨0x40020008, 0x0, 1, 0x0, 1, [F.DECK_OWN_REFUSED]⟩
def DECK_OWN_LAST : Reg := ⟨0x4002000C, 0x0, 1, 0x0, 1, [F.DECK_OWN_LAST_WRITER, F.DECK_OWN_LAST_POINT]⟩
def DECK_DESC_PT : Reg := ⟨0x40020010, 0x0, 1, 0x0, 1, [F.DECK_DESC_PT]⟩
def DECK_DESC_CMD : Reg := ⟨0x40020014, 0x0, 1, 0x0, 1, [F.DECK_DESC_CMD]⟩
def DECK_DESC_STAT : Reg := ⟨0x40020018, 0x0, 1, 0x0, 1, [F.DECK_DESC_STAT_REFUSED, F.DECK_DESC_STAT_PENDING, F.DECK_DESC_STAT_BUSY]⟩
def DECK_DESC_DATA : Reg := ⟨0x40020020, 0x4, 8, 0x0, 1, [F.DECK_DESC_DATA]⟩
def DECK_FORCE_PT : Reg := ⟨0x40020040, 0x0, 1, 0x0, 1, [F.DECK_FORCE_PT]⟩
def DECK_FORCE_VAL : Reg := ⟨0x40020044, 0x0, 1, 0x0, 1, [F.DECK_FORCE_VAL]⟩
def DECK_FORCE_CMD : Reg := ⟨0x40020048, 0x0, 1, 0x0, 1, [F.DECK_FORCE_CMD]⟩
def DECK_FORCE_STAT : Reg := ⟨0x4002004C, 0x0, 1, 0x0, 1, [F.DECK_FORCE_STAT_REASON, F.DECK_FORCE_STAT_REFUSED, F.DECK_FORCE_STAT_HELD]⟩
def DECK_BLK_BUF : Reg := ⟨0x40020100, 0x20, 3, 0x0, 1, [F.DECK_BLK_BUF]⟩
def DECK_BLK_SEL : Reg := ⟨0x40020104, 0x20, 3, 0x0, 1, [F.DECK_BLK_SEL]⟩
def DECK_BLK_FIRST : Reg := ⟨0x40020108, 0x20, 3, 0x0, 1, [F.DECK_BLK_FIRST]⟩
def DECK_BLK_CMD : Reg := ⟨0x4002010C, 0x20, 3, 0x0, 1, [F.DECK_BLK_CMD]⟩
def DECK_BLK_STAT : Reg := ⟨0x40020110, 0x20, 3, 0x0, 1, [F.DECK_BLK_STAT_REASON, F.DECK_BLK_STAT_ABORT_LATE, F.DECK_BLK_STAT_STATE]⟩
def DECK_BLK_FRAME_LO : Reg := ⟨0x40020114, 0x20, 3, 0x0, 1, [F.DECK_BLK_FRAME_LO]⟩
def DECK_BLK_FRAME_HI : Reg := ⟨0x40020118, 0x20, 3, 0x0, 1, [F.DECK_BLK_FRAME_HI]⟩

end R

/-- The registers of block DECK (R28). -/
def regsDeck : List Reg := [
  R.DECK_CTL, R.DECK_STAT, R.DECK_OWN_REFUSED, R.DECK_OWN_LAST, R.DECK_DESC_PT, R.DECK_DESC_CMD,
  R.DECK_DESC_STAT, R.DECK_DESC_DATA, R.DECK_FORCE_PT, R.DECK_FORCE_VAL, R.DECK_FORCE_CMD, R.DECK_FORCE_STAT,
  R.DECK_BLK_BUF, R.DECK_BLK_SEL, R.DECK_BLK_FIRST, R.DECK_BLK_CMD, R.DECK_BLK_STAT, R.DECK_BLK_FRAME_LO,
  R.DECK_BLK_FRAME_HI]

/-! ### PIERCTL at 0x40030000 -/

namespace F

/-- `PIERCTL_CTL.LOSS_RELEASE` [4:4]. -/
def PIERCTL_CTL_LOSS_RELEASE : Fld := ⟨0x40030000, 0x0, 0x0, 4, 4, .rw, .const 1, []⟩
/-- `PIERCTL_CTL.SPARE_COUNT` [1:0]. -/
def PIERCTL_CTL_SPARE_COUNT : Fld := ⟨0x40030000, 0x0, 0x0, 1, 0, .rw, .const 1, [(0, 2)]⟩
/-- `PIERCTL_STAT.SPARES_LEFT` [9:8]. -/
def PIERCTL_STAT_SPARES_LEFT : Fld := ⟨0x40030004, 0x0, 0x0, 9, 8, .ro, .const 0, []⟩
/-- `PIERCTL_STAT.LOADER_BUSY` [0:0]. -/
def PIERCTL_STAT_LOADER_BUSY : Fld := ⟨0x40030004, 0x0, 0x0, 0, 0, .ro, .const 0, []⟩
/-- `PIERCTL_LOAD_SRC.ADDR` [31:8]. -/
def PIERCTL_LOAD_SRC : Fld := ⟨0x40030008, 0x0, 0x0, 31, 8, .rw, .const 0x11000, []⟩
/-- `PIERCTL_LOAD_CMD.CMD` [10:8]. -/
def PIERCTL_LOAD_CMD_CMD : Fld := ⟨0x4003000C, 0x0, 0x0, 10, 8, .wo, .const 0, [(0, 4)]⟩
/-- `PIERCTL_LOAD_CMD.PIER` [4:0]. -/
def PIERCTL_LOAD_CMD_PIER : Fld := ⟨0x4003000C, 0x0, 0x0, 4, 0, .rw, .const 0, [(0, 23)]⟩
/-- `PIERCTL_LOAD_STAT.REASON` [20:16]. -/
def PIERCTL_LOAD_STAT_REASON : Fld := ⟨0x40030010, 0x0, 0x0, 20, 16, .ro, .const 0, []⟩
/-- `PIERCTL_LOAD_STAT.ABORT_LATE` [3:3]. -/
def PIERCTL_LOAD_STAT_ABORT_LATE : Fld := ⟨0x40030010, 0x0, 0x0, 3, 3, .w1c, .const 0, []⟩
/-- `PIERCTL_LOAD_STAT.STATE` [2:0]. -/
def PIERCTL_LOAD_STAT_STATE : Fld := ⟨0x40030010, 0x0, 0x0, 2, 0, .ro, .const 0, []⟩
/-- `PIERCTL_LOAD_DETAIL.TASK` [31:24]. -/
def PIERCTL_LOAD_DETAIL_TASK : Fld := ⟨0x40030014, 0x0, 0x0, 31, 24, .ro, .const 0, []⟩
/-- `PIERCTL_LOAD_DETAIL.WORD` [14:0]. -/
def PIERCTL_LOAD_DETAIL_WORD : Fld := ⟨0x40030014, 0x0, 0x0, 14, 0, .ro, .const 0, []⟩
/-- `PIERCTL_LOAD_WCET.CYCLES` [20:0]. -/
def PIERCTL_LOAD_WCET : Fld := ⟨0x40030018, 0x0, 0x0, 20, 0, .ro, .const 0, []⟩
/-- `PIERCTL_SWAP_FRAME_LO.F_LO` [31:0]. -/
def PIERCTL_SWAP_FRAME_LO : Fld := ⟨0x4003001C, 0x0, 0x0, 31, 0, .rw, .const 0, []⟩
/-- `PIERCTL_SWAP_FRAME_HI.F_HI` [15:0]. -/
def PIERCTL_SWAP_FRAME_HI : Fld := ⟨0x40030020, 0x0, 0x0, 15, 0, .rw, .const 0, []⟩
/-- `PIERCTL_PIERn_STAT.PHYS` [28:24]. -/
def PIERCTL_PIER_STAT_PHYS : Fld := ⟨0x40030100, 0x40, 0x0, 28, 24, .ro, .index, []⟩
/-- `PIERCTL_PIERn_STAT.STATE` [18:16]. -/
def PIERCTL_PIER_STAT_STATE : Fld := ⟨0x40030100, 0x40, 0x0, 18, 16, .ro, .const 0, []⟩
/-- `PIERCTL_PIERn_STAT.THROTTLED` [12:12]. -/
def PIERCTL_PIER_STAT_THROTTLED : Fld := ⟨0x40030100, 0x40, 0x0, 12, 12, .ro, .const 0, []⟩
/-- `PIERCTL_PIERn_STAT.THR_SAFE` [11:11]. -/
def PIERCTL_PIER_STAT_THR_SAFE : Fld := ⟨0x40030100, 0x40, 0x0, 11, 11, .ro, .const 0, []⟩
/-- `PIERCTL_PIERn_STAT.SWAP_ARMED` [10:10]. -/
def PIERCTL_PIER_STAT_SWAP_ARMED : Fld := ⟨0x40030100, 0x40, 0x0, 10, 10, .ro, .const 0, []⟩
/-- `PIERCTL_PIERn_STAT.STAGED` [9:9]. -/
def PIERCTL_PIER_STAT_STAGED : Fld := ⟨0x40030100, 0x40, 0x0, 9, 9, .ro, .const 0, []⟩
/-- `PIERCTL_PIERn_STAT.ACTIVE_BANK` [8:8]. -/
def PIERCTL_PIER_STAT_ACTIVE_BANK : Fld := ⟨0x40030100, 0x40, 0x0, 8, 8, .ro, .const 0, []⟩
/-- `PIERCTL_PIERn_CFG.BP_SLICE` [31:16]. -/
def PIERCTL_PIER_CFG_BP_SLICE : Fld := ⟨0x40030104, 0x40, 0x0, 31, 16, .rw, .const 0x64, [(1, 65535)]⟩
/-- `PIERCTL_PIERn_CFG.BANKED` [0:0]. -/
def PIERCTL_PIER_CFG_BANKED : Fld := ⟨0x40030104, 0x40, 0x0, 0, 0, .rw, .const 1, []⟩
/-- `PIERCTL_PIERn_BUDGET.SUM` [20:0]. -/
def PIERCTL_PIER_BUDGET : Fld := ⟨0x40030108, 0x40, 0x0, 20, 0, .ro, .const 0, []⟩
/-- `PIERCTL_PIERn_WCET.SUM` [20:0]. -/
def PIERCTL_PIER_WCET : Fld := ⟨0x4003010C, 0x40, 0x0, 20, 0, .ro, .const 0, []⟩
/-- `PIERCTL_PIERn_BPSAVE.BASE` [31:6]. -/
def PIERCTL_PIER_BPSAVE : Fld := ⟨0x40030110, 0x40, 0x0, 31, 6, .rw, .const 0, []⟩
/-- `PIERCTL_PIERn_TRAP_INFO.TASK` [31:16]. -/
def PIERCTL_PIER_TRAP_INFO_TASK : Fld := ⟨0x40030114, 0x40, 0x0, 31, 16, .ro, .const 0, []⟩
/-- `PIERCTL_PIERn_TRAP_INFO.CAUSE` [10:8]. -/
def PIERCTL_PIER_TRAP_INFO_CAUSE : Fld := ⟨0x40030114, 0x40, 0x0, 10, 8, .ro, .const 0, []⟩
/-- `PIERCTL_PIERn_TRAP_INFO.VALID` [0:0]. -/
def PIERCTL_PIER_TRAP_INFO_VALID : Fld := ⟨0x40030114, 0x40, 0x0, 0, 0, .w1c, .const 0, []⟩
/-- `PIERCTL_PIERn_TRAP_PC.PC` [16:0]. -/
def PIERCTL_PIER_TRAP_PC : Fld := ⟨0x40030118, 0x40, 0x0, 16, 0, .ro, .const 0, []⟩
/-- `PIERCTL_PIERn_TRAP_COUNT.OVERRUNS` [31:16]. -/
def PIERCTL_PIER_TRAP_COUNT_OVERRUNS : Fld := ⟨0x4003011C, 0x40, 0x0, 31, 16, .rc, .const 0, []⟩
/-- `PIERCTL_PIERn_TRAP_COUNT.OTHER` [15:0]. -/
def PIERCTL_PIER_TRAP_COUNT_OTHER : Fld := ⟨0x4003011C, 0x40, 0x0, 15, 0, .rc, .const 0, []⟩
/-- `PIERCTL_PIERn_FP_END.CYCLES` [20:0]. -/
def PIERCTL_PIER_FP_END : Fld := ⟨0x40030120, 0x40, 0x0, 20, 0, .ro, .const 0, []⟩
/-- `PIERCTL_PIERn_BP_CTL.RUNNING` [19:16]. -/
def PIERCTL_PIER_BP_CTL_RUNNING : Fld := ⟨0x40030124, 0x40, 0x0, 19, 16, .ro, .const 0, []⟩
/-- `PIERCTL_PIERn_BP_CTL.RESTART` [3:0]. -/
def PIERCTL_PIER_BP_CTL_RESTART : Fld := ⟨0x40030124, 0x40, 0x0, 3, 0, .wo, .const 0, []⟩
/-- `PIERCTL_PIERn_OVL_SRC.ADDR` [31:2]. -/
def PIERCTL_PIER_OVL_SRC : Fld := ⟨0x40030128, 0x40, 0x0, 31, 2, .rw, .const 0, []⟩
/-- `PIERCTL_PIERn_OVL_DST.OFFSET` [16:2]. -/
def PIERCTL_PIER_OVL_DST : Fld := ⟨0x4003012C, 0x40, 0x0, 16, 2, .rw, .const 0, []⟩
/-- `PIERCTL_PIERn_OVL_CTL.WORDS` [31:16]. -/
def PIERCTL_PIER_OVL_CTL_WORDS : Fld := ⟨0x40030130, 0x40, 0x0, 31, 16, .rw, .const 0, []⟩
/-- `PIERCTL_PIERn_OVL_CTL.REFUSED` [2:2]. -/
def PIERCTL_PIER_OVL_CTL_REFUSED : Fld := ⟨0x40030130, 0x40, 0x0, 2, 2, .w1c, .const 0, []⟩
/-- `PIERCTL_PIERn_OVL_CTL.BUSY` [1:1]. -/
def PIERCTL_PIER_OVL_CTL_BUSY : Fld := ⟨0x40030130, 0x40, 0x0, 1, 1, .ro, .const 0, []⟩
/-- `PIERCTL_PIERn_OVL_CTL.START` [0:0]. -/
def PIERCTL_PIER_OVL_CTL_START : Fld := ⟨0x40030130, 0x40, 0x0, 0, 0, .wo, .const 0, []⟩

end F

namespace R

def PIERCTL_CTL : Reg := ⟨0x40030000, 0x0, 1, 0x0, 1, [F.PIERCTL_CTL_LOSS_RELEASE, F.PIERCTL_CTL_SPARE_COUNT]⟩
def PIERCTL_STAT : Reg := ⟨0x40030004, 0x0, 1, 0x0, 1, [F.PIERCTL_STAT_SPARES_LEFT, F.PIERCTL_STAT_LOADER_BUSY]⟩
def PIERCTL_LOAD_SRC : Reg := ⟨0x40030008, 0x0, 1, 0x0, 1, [F.PIERCTL_LOAD_SRC]⟩
def PIERCTL_LOAD_CMD : Reg := ⟨0x4003000C, 0x0, 1, 0x0, 1, [F.PIERCTL_LOAD_CMD_CMD, F.PIERCTL_LOAD_CMD_PIER]⟩
def PIERCTL_LOAD_STAT : Reg := ⟨0x40030010, 0x0, 1, 0x0, 1, [F.PIERCTL_LOAD_STAT_REASON, F.PIERCTL_LOAD_STAT_ABORT_LATE, F.PIERCTL_LOAD_STAT_STATE]⟩
def PIERCTL_LOAD_DETAIL : Reg := ⟨0x40030014, 0x0, 1, 0x0, 1, [F.PIERCTL_LOAD_DETAIL_TASK, F.PIERCTL_LOAD_DETAIL_WORD]⟩
def PIERCTL_LOAD_WCET : Reg := ⟨0x40030018, 0x0, 1, 0x0, 1, [F.PIERCTL_LOAD_WCET]⟩
def PIERCTL_SWAP_FRAME_LO : Reg := ⟨0x4003001C, 0x0, 1, 0x0, 1, [F.PIERCTL_SWAP_FRAME_LO]⟩
def PIERCTL_SWAP_FRAME_HI : Reg := ⟨0x40030020, 0x0, 1, 0x0, 1, [F.PIERCTL_SWAP_FRAME_HI]⟩
def PIERCTL_PIER_STAT : Reg := ⟨0x40030100, 0x40, 24, 0x0, 1, [F.PIERCTL_PIER_STAT_PHYS, F.PIERCTL_PIER_STAT_STATE, F.PIERCTL_PIER_STAT_THROTTLED, F.PIERCTL_PIER_STAT_THR_SAFE, F.PIERCTL_PIER_STAT_SWAP_ARMED, F.PIERCTL_PIER_STAT_STAGED, F.PIERCTL_PIER_STAT_ACTIVE_BANK]⟩
def PIERCTL_PIER_CFG : Reg := ⟨0x40030104, 0x40, 24, 0x0, 1, [F.PIERCTL_PIER_CFG_BP_SLICE, F.PIERCTL_PIER_CFG_BANKED]⟩
def PIERCTL_PIER_BUDGET : Reg := ⟨0x40030108, 0x40, 24, 0x0, 1, [F.PIERCTL_PIER_BUDGET]⟩
def PIERCTL_PIER_WCET : Reg := ⟨0x4003010C, 0x40, 24, 0x0, 1, [F.PIERCTL_PIER_WCET]⟩
def PIERCTL_PIER_BPSAVE : Reg := ⟨0x40030110, 0x40, 24, 0x0, 1, [F.PIERCTL_PIER_BPSAVE]⟩
def PIERCTL_PIER_TRAP_INFO : Reg := ⟨0x40030114, 0x40, 24, 0x0, 1, [F.PIERCTL_PIER_TRAP_INFO_TASK, F.PIERCTL_PIER_TRAP_INFO_CAUSE, F.PIERCTL_PIER_TRAP_INFO_VALID]⟩
def PIERCTL_PIER_TRAP_PC : Reg := ⟨0x40030118, 0x40, 24, 0x0, 1, [F.PIERCTL_PIER_TRAP_PC]⟩
def PIERCTL_PIER_TRAP_COUNT : Reg := ⟨0x4003011C, 0x40, 24, 0x0, 1, [F.PIERCTL_PIER_TRAP_COUNT_OVERRUNS, F.PIERCTL_PIER_TRAP_COUNT_OTHER]⟩
def PIERCTL_PIER_FP_END : Reg := ⟨0x40030120, 0x40, 24, 0x0, 1, [F.PIERCTL_PIER_FP_END]⟩
def PIERCTL_PIER_BP_CTL : Reg := ⟨0x40030124, 0x40, 24, 0x0, 1, [F.PIERCTL_PIER_BP_CTL_RUNNING, F.PIERCTL_PIER_BP_CTL_RESTART]⟩
def PIERCTL_PIER_OVL_SRC : Reg := ⟨0x40030128, 0x40, 24, 0x0, 1, [F.PIERCTL_PIER_OVL_SRC]⟩
def PIERCTL_PIER_OVL_DST : Reg := ⟨0x4003012C, 0x40, 24, 0x0, 1, [F.PIERCTL_PIER_OVL_DST]⟩
def PIERCTL_PIER_OVL_CTL : Reg := ⟨0x40030130, 0x40, 24, 0x0, 1, [F.PIERCTL_PIER_OVL_CTL_WORDS, F.PIERCTL_PIER_OVL_CTL_REFUSED, F.PIERCTL_PIER_OVL_CTL_BUSY, F.PIERCTL_PIER_OVL_CTL_START]⟩

end R

/-- The registers of block PIERCTL (R28). -/
def regsPierctl : List Reg := [
  R.PIERCTL_CTL, R.PIERCTL_STAT, R.PIERCTL_LOAD_SRC, R.PIERCTL_LOAD_CMD, R.PIERCTL_LOAD_STAT,
  R.PIERCTL_LOAD_DETAIL, R.PIERCTL_LOAD_WCET, R.PIERCTL_SWAP_FRAME_LO, R.PIERCTL_SWAP_FRAME_HI,
  R.PIERCTL_PIER_STAT, R.PIERCTL_PIER_CFG, R.PIERCTL_PIER_BUDGET, R.PIERCTL_PIER_WCET, R.PIERCTL_PIER_BPSAVE,
  R.PIERCTL_PIER_TRAP_INFO, R.PIERCTL_PIER_TRAP_PC, R.PIERCTL_PIER_TRAP_COUNT, R.PIERCTL_PIER_FP_END,
  R.PIERCTL_PIER_BP_CTL, R.PIERCTL_PIER_OVL_SRC, R.PIERCTL_PIER_OVL_DST, R.PIERCTL_PIER_OVL_CTL]

/-! ### TWIN at 0x400A0000 -/

namespace F

/-- `TWIN_CTL.ARB_TMO` [31:24]. -/
def TWIN_CTL_ARB_TMO : Fld := ⟨0x400A0000, 0x0, 0x0, 31, 24, .rw, .const 0xC8, [(1, 255)]⟩
/-- `TWIN_CTL.RESUME_FAN` [6:6]. -/
def TWIN_CTL_RESUME_FAN : Fld := ⟨0x400A0000, 0x0, 0x0, 6, 6, .rw, .const 1, []⟩
/-- `TWIN_CTL.RESUME_MOT` [5:5]. -/
def TWIN_CTL_RESUME_MOT : Fld := ⟨0x400A0000, 0x0, 0x0, 5, 5, .rw, .const 0, []⟩
/-- `TWIN_CTL.RESUME_SOL` [4:4]. -/
def TWIN_CTL_RESUME_SOL : Fld := ⟨0x400A0000, 0x0, 0x0, 4, 4, .rw, .const 1, []⟩
/-- `TWIN_CTL.EN` [0:0]. -/
def TWIN_CTL_EN : Fld := ⟨0x400A0000, 0x0, 0x0, 0, 0, .rw, .const 0, []⟩
/-- `TWIN_CMD.CMD` [1:0]. -/
def TWIN_CMD : Fld := ⟨0x400A0004, 0x0, 0x0, 1, 0, .wo, .const 0, []⟩
/-- `TWIN_REL_FRAME_LO.R_LO` [31:0]. -/
def TWIN_REL_FRAME_LO : Fld := ⟨0x400A0008, 0x0, 0x0, 31, 0, .rw, .const 0, []⟩
/-- `TWIN_REL_FRAME_HI.R_HI` [15:0]. -/
def TWIN_REL_FRAME_HI : Fld := ⟨0x400A000C, 0x0, 0x0, 15, 0, .rw, .const 0, []⟩
/-- `TWIN_STAT.UNSYNC_REASON` [31:28]. -/
def TWIN_STAT_UNSYNC_REASON : Fld := ⟨0x400A0010, 0x0, 0x0, 31, 28, .ro, .const 4, []⟩
/-- `TWIN_STAT.REL_STATE` [26:24]. -/
def TWIN_STAT_REL_STATE : Fld := ⟨0x400A0010, 0x0, 0x0, 26, 24, .ro, .const 0, []⟩
/-- `TWIN_STAT.ABORT_LATE` [23:23]. -/
def TWIN_STAT_ABORT_LATE : Fld := ⟨0x400A0010, 0x0, 0x0, 23, 23, .w1c, .const 0, []⟩
/-- `TWIN_STAT.WIN_BAD` [16:16]. -/
def TWIN_STAT_WIN_BAD : Fld := ⟨0x400A0010, 0x0, 0x0, 16, 16, .ro, .const 0, []⟩
/-- `TWIN_STAT.LANE_B_UP` [15:15]. -/
def TWIN_STAT_LANE_B_UP : Fld := ⟨0x400A0010, 0x0, 0x0, 15, 15, .ro, .const 0, []⟩
/-- `TWIN_STAT.LANE_A_UP` [14:14]. -/
def TWIN_STAT_LANE_A_UP : Fld := ⟨0x400A0010, 0x0, 0x0, 14, 14, .ro, .const 0, []⟩
/-- `TWIN_STAT.OWN_IN` [13:13]. -/
def TWIN_STAT_OWN_IN : Fld := ⟨0x400A0010, 0x0, 0x0, 13, 13, .ro, .const 0, []⟩
/-- `TWIN_STAT.OWN_OUT` [12:12]. -/
def TWIN_STAT_OWN_OUT : Fld := ⟨0x400A0010, 0x0, 0x0, 12, 12, .ro, .const 0, []⟩
/-- `TWIN_STAT.ROLE_PREF` [11:11]. -/
def TWIN_STAT_ROLE_PREF : Fld := ⟨0x400A0010, 0x0, 0x0, 11, 11, .ro, .const 0, []⟩
/-- `TWIN_STAT.DRIVING` [10:10]. -/
def TWIN_STAT_DRIVING : Fld := ⟨0x400A0010, 0x0, 0x0, 10, 10, .ro, .const 0, []⟩
/-- `TWIN_STAT.PARTNER` [9:9]. -/
def TWIN_STAT_PARTNER : Fld := ⟨0x400A0010, 0x0, 0x0, 9, 9, .ro, .const 0, []⟩
/-- `TWIN_STAT.SYNC` [8:8]. -/
def TWIN_STAT_SYNC : Fld := ⟨0x400A0010, 0x0, 0x0, 8, 8, .ro, .const 0, []⟩
/-- `TWIN_STAT.ROLE` [2:0]. -/
def TWIN_STAT_ROLE : Fld := ⟨0x400A0010, 0x0, 0x0, 2, 0, .ro, .const 0, []⟩
/-- `TWIN_PARTNER.ROLE` [18:16]. -/
def TWIN_PARTNER_ROLE : Fld := ⟨0x400A0014, 0x0, 0x0, 18, 16, .ro, .const 0, []⟩
/-- `TWIN_PARTNER.ID` [15:0]. -/
def TWIN_PARTNER_ID : Fld := ⟨0x400A0014, 0x0, 0x0, 15, 0, .ro, .const 0xFFFF, []⟩
/-- `TWIN_LOAD.BYTES` [31:0]. -/
def TWIN_LOAD : Fld := ⟨0x400A0018, 0x0, 0x0, 31, 0, .ro, .const 0, []⟩
/-- `TWIN_LOAD_MAX.BYTES` [31:0]. -/
def TWIN_LOAD_MAX : Fld := ⟨0x400A001C, 0x0, 0x0, 31, 0, .rc, .const 0, []⟩
/-- `TWIN_COUNT.TAKEOVERS` [31:24]. -/
def TWIN_COUNT_TAKEOVERS : Fld := ⟨0x400A0020, 0x0, 0x0, 31, 24, .rc, .const 0, []⟩
/-- `TWIN_COUNT.HELD` [23:16]. -/
def TWIN_COUNT_HELD : Fld := ⟨0x400A0020, 0x0, 0x0, 23, 16, .rc, .const 0, []⟩
/-- `TWIN_COUNT.MISSED` [15:0]. -/
def TWIN_COUNT_MISSED : Fld := ⟨0x400A0020, 0x0, 0x0, 15, 0, .rc, .const 0, []⟩
/-- `TWIN_TAKE_FRAME_LO.F_LO` [31:0]. -/
def TWIN_TAKE_FRAME_LO : Fld := ⟨0x400A0024, 0x0, 0x0, 31, 0, .ro, .const 0, []⟩
/-- `TWIN_TAKE_FRAME_HI.F_HI` [15:0]. -/
def TWIN_TAKE_FRAME_HI : Fld := ⟨0x400A0028, 0x0, 0x0, 15, 0, .ro, .const 0, []⟩
/-- `TWIN_ALIGN.DONE` [8:8]. -/
def TWIN_ALIGN_DONE : Fld := ⟨0x400A002C, 0x0, 0x0, 8, 8, .ro, .const 0, []⟩
/-- `TWIN_ALIGN.PERCENT` [7:0]. -/
def TWIN_ALIGN_PERCENT : Fld := ⟨0x400A002C, 0x0, 0x0, 7, 0, .ro, .const 0, []⟩
/-- `TWIN_STBY_REFUSED.COUNT` [31:0]. -/
def TWIN_STBY_REFUSED : Fld := ⟨0x400A0030, 0x0, 0x0, 31, 0, .rc, .const 0, []⟩
/-- `TWIN_WINk_BASE.BASE` [31:5]. -/
def TWIN_WIN_BASE_BASE : Fld := ⟨0x400A0100, 0x8, 0x0, 31, 5, .rw, .const 0, []⟩
/-- `TWIN_WINk_BASE.EN` [0:0]. -/
def TWIN_WIN_BASE_EN : Fld := ⟨0x400A0100, 0x8, 0x0, 0, 0, .rw, .const 0, []⟩
/-- `TWIN_WINk_LEN.LEN` [20:5]. -/
def TWIN_WIN_LEN : Fld := ⟨0x400A0104, 0x8, 0x0, 20, 5, .rw, .const 0, []⟩

end F

namespace R

def TWIN_CTL : Reg := ⟨0x400A0000, 0x0, 1, 0x0, 1, [F.TWIN_CTL_ARB_TMO, F.TWIN_CTL_RESUME_FAN, F.TWIN_CTL_RESUME_MOT, F.TWIN_CTL_RESUME_SOL, F.TWIN_CTL_EN]⟩
def TWIN_CMD : Reg := ⟨0x400A0004, 0x0, 1, 0x0, 1, [F.TWIN_CMD]⟩
def TWIN_REL_FRAME_LO : Reg := ⟨0x400A0008, 0x0, 1, 0x0, 1, [F.TWIN_REL_FRAME_LO]⟩
def TWIN_REL_FRAME_HI : Reg := ⟨0x400A000C, 0x0, 1, 0x0, 1, [F.TWIN_REL_FRAME_HI]⟩
def TWIN_STAT : Reg := ⟨0x400A0010, 0x0, 1, 0x0, 1, [F.TWIN_STAT_UNSYNC_REASON, F.TWIN_STAT_REL_STATE, F.TWIN_STAT_ABORT_LATE, F.TWIN_STAT_WIN_BAD, F.TWIN_STAT_LANE_B_UP, F.TWIN_STAT_LANE_A_UP, F.TWIN_STAT_OWN_IN, F.TWIN_STAT_OWN_OUT, F.TWIN_STAT_ROLE_PREF, F.TWIN_STAT_DRIVING, F.TWIN_STAT_PARTNER, F.TWIN_STAT_SYNC, F.TWIN_STAT_ROLE]⟩
def TWIN_PARTNER : Reg := ⟨0x400A0014, 0x0, 1, 0x0, 1, [F.TWIN_PARTNER_ROLE, F.TWIN_PARTNER_ID]⟩
def TWIN_LOAD : Reg := ⟨0x400A0018, 0x0, 1, 0x0, 1, [F.TWIN_LOAD]⟩
def TWIN_LOAD_MAX : Reg := ⟨0x400A001C, 0x0, 1, 0x0, 1, [F.TWIN_LOAD_MAX]⟩
def TWIN_COUNT : Reg := ⟨0x400A0020, 0x0, 1, 0x0, 1, [F.TWIN_COUNT_TAKEOVERS, F.TWIN_COUNT_HELD, F.TWIN_COUNT_MISSED]⟩
def TWIN_TAKE_FRAME_LO : Reg := ⟨0x400A0024, 0x0, 1, 0x0, 1, [F.TWIN_TAKE_FRAME_LO]⟩
def TWIN_TAKE_FRAME_HI : Reg := ⟨0x400A0028, 0x0, 1, 0x0, 1, [F.TWIN_TAKE_FRAME_HI]⟩
def TWIN_ALIGN : Reg := ⟨0x400A002C, 0x0, 1, 0x0, 1, [F.TWIN_ALIGN_DONE, F.TWIN_ALIGN_PERCENT]⟩
def TWIN_STBY_REFUSED : Reg := ⟨0x400A0030, 0x0, 1, 0x0, 1, [F.TWIN_STBY_REFUSED]⟩
def TWIN_WIN_BASE : Reg := ⟨0x400A0100, 0x8, 8, 0x0, 1, [F.TWIN_WIN_BASE_BASE, F.TWIN_WIN_BASE_EN]⟩
def TWIN_WIN_LEN : Reg := ⟨0x400A0104, 0x8, 8, 0x0, 1, [F.TWIN_WIN_LEN]⟩

end R

/-- The registers of block TWIN (R28). -/
def regsTwin : List Reg := [
  R.TWIN_CTL, R.TWIN_CMD, R.TWIN_REL_FRAME_LO, R.TWIN_REL_FRAME_HI, R.TWIN_STAT, R.TWIN_PARTNER, R.TWIN_LOAD,
  R.TWIN_LOAD_MAX, R.TWIN_COUNT, R.TWIN_TAKE_FRAME_LO, R.TWIN_TAKE_FRAME_HI, R.TWIN_ALIGN,
  R.TWIN_STBY_REFUSED, R.TWIN_WIN_BASE, R.TWIN_WIN_LEN]

/-! ### TRESTLE at 0x400B0000 -/

namespace F

/-- `TRESTLE_CTL.D_MIN` [5:4]. -/
def TRESTLE_CTL_D_MIN : Fld := ⟨0x400B0000, 0x0, 0x0, 5, 4, .rw, .const 0, []⟩
/-- `TRESTLE_CTL.ELIG` [1:1]. -/
def TRESTLE_CTL_ELIG : Fld := ⟨0x400B0000, 0x0, 0x0, 1, 1, .rw, .const 1, []⟩
/-- `TRESTLE_CTL.EN` [0:0]. -/
def TRESTLE_CTL_EN : Fld := ⟨0x400B0000, 0x0, 0x0, 0, 0, .rw, .const 0, []⟩
/-- `TRESTLE_PUB_ID.ID` [15:0]. -/
def TRESTLE_PUB_ID : Fld := ⟨0x400B0004, 0x0, 0x0, 15, 0, .rw, .const 0xFFFF, []⟩
/-- `TRESTLE_STAT.REASON` [11:9]. -/
def TRESTLE_STAT_REASON : Fld := ⟨0x400B0008, 0x0, 0x0, 11, 9, .ro, .const 0, []⟩
/-- `TRESTLE_STAT.D_PENDING` [8:8]. -/
def TRESTLE_STAT_D_PENDING : Fld := ⟨0x400B0008, 0x0, 0x0, 8, 8, .ro, .const 0, []⟩
/-- `TRESTLE_STAT.D` [7:6]. -/
def TRESTLE_STAT_D : Fld := ⟨0x400B0008, 0x0, 0x0, 7, 6, .ro, .const 0, []⟩
/-- `TRESTLE_STAT.CLOSED` [4:4]. -/
def TRESTLE_STAT_CLOSED : Fld := ⟨0x400B0008, 0x0, 0x0, 4, 4, .ro, .const 0, []⟩
/-- `TRESTLE_STAT.MASTER` [3:3]. -/
def TRESTLE_STAT_MASTER : Fld := ⟨0x400B0008, 0x0, 0x0, 3, 3, .ro, .const 0, []⟩
/-- `TRESTLE_STAT.STATE` [2:0]. -/
def TRESTLE_STAT_STATE : Fld := ⟨0x400B0008, 0x0, 0x0, 2, 0, .ro, .const 0, []⟩
/-- `TRESTLE_MASTER.P` [27:16]. -/
def TRESTLE_MASTER_P : Fld := ⟨0x400B000C, 0x0, 0x0, 27, 16, .ro, .const 0, []⟩
/-- `TRESTLE_MASTER.ID` [15:0]. -/
def TRESTLE_MASTER_ID : Fld := ⟨0x400B000C, 0x0, 0x0, 15, 0, .ro, .const 0xFFFF, []⟩
/-- `TRESTLE_W.NS` [21:0]. -/
def TRESTLE_W : Fld := ⟨0x400B0010, 0x0, 0x0, 21, 0, .ro, .const 0, []⟩
/-- `TRESTLE_D_FRAME_LO.A_LO` [31:0]. -/
def TRESTLE_D_FRAME_LO : Fld := ⟨0x400B0014, 0x0, 0x0, 31, 0, .ro, .const 0, []⟩
/-- `TRESTLE_D_FRAME_HI.D_NEW` [17:16]. -/
def TRESTLE_D_FRAME_HI_D_NEW : Fld := ⟨0x400B0018, 0x0, 0x0, 17, 16, .ro, .const 0, []⟩
/-- `TRESTLE_D_FRAME_HI.A_HI` [15:0]. -/
def TRESTLE_D_FRAME_HI_A_HI : Fld := ⟨0x400B0018, 0x0, 0x0, 15, 0, .ro, .const 0, []⟩
/-- `TRESTLE_QUOTA.GRANT` [31:16]. -/
def TRESTLE_QUOTA_GRANT : Fld := ⟨0x400B001C, 0x0, 0x0, 31, 16, .ro, .const 0, []⟩
/-- `TRESTLE_QUOTA.REQ` [15:0]. -/
def TRESTLE_QUOTA_REQ : Fld := ⟨0x400B001C, 0x0, 0x0, 15, 0, .rw, .const 0x400, []⟩
/-- `TRESTLE_TICK_ERR.PS` [31:0]. -/
def TRESTLE_TICK_ERR : Fld := ⟨0x400B0020, 0x0, 0x0, 31, 0, .ro, .const 0, []⟩
/-- `TRESTLE_LATE_SENT.COUNT` [31:0]. -/
def TRESTLE_LATE_SENT : Fld := ⟨0x400B0024, 0x0, 0x0, 31, 0, .rc, .const 0, []⟩
/-- `TRESTLE_LATE_RCVD.COUNT` [31:0]. -/
def TRESTLE_LATE_RCVD : Fld := ⟨0x400B0028, 0x0, 0x0, 31, 0, .rc, .const 0, []⟩
/-- `TRESTLE_QDROP.COUNT` [31:0]. -/
def TRESTLE_QDROP : Fld := ⟨0x400B002C, 0x0, 0x0, 31, 0, .rc, .const 0, []⟩
/-- `TRESTLE_REFUSED.COUNT` [31:0]. -/
def TRESTLE_REFUSED : Fld := ⟨0x400B0030, 0x0, 0x0, 31, 0, .rc, .const 0, []⟩
/-- `TRESTLE_PORTp_STAT.NEIGHBOUR` [31:16]. -/
def TRESTLE_PORT_STAT_NEIGHBOUR : Fld := ⟨0x400B0100, 0x20, 0x0, 31, 16, .ro, .const 0xFFFF, []⟩
/-- `TRESTLE_PORTp_STAT.LINK` [1:0]. -/
def TRESTLE_PORT_STAT_LINK : Fld := ⟨0x400B0100, 0x20, 0x0, 1, 0, .ro, .const 0, []⟩
/-- `TRESTLE_PORTp_HOP.PS` [19:0]. -/
def TRESTLE_PORT_HOP : Fld := ⟨0x400B0104, 0x20, 0x0, 19, 0, .ro, .const 0, []⟩
/-- `TRESTLE_PORTp_ERR.DROPS` [31:16]. -/
def TRESTLE_PORT_ERR_DROPS : Fld := ⟨0x400B0108, 0x20, 0x0, 31, 16, .rc, .const 0, []⟩
/-- `TRESTLE_PORTp_ERR.CRC` [15:0]. -/
def TRESTLE_PORT_ERR_CRC : Fld := ⟨0x400B0108, 0x20, 0x0, 15, 0, .rc, .const 0, []⟩

end F

namespace R

def TRESTLE_CTL : Reg := ⟨0x400B0000, 0x0, 1, 0x0, 1, [F.TRESTLE_CTL_D_MIN, F.TRESTLE_CTL_ELIG, F.TRESTLE_CTL_EN]⟩
def TRESTLE_PUB_ID : Reg := ⟨0x400B0004, 0x0, 1, 0x0, 1, [F.TRESTLE_PUB_ID]⟩
def TRESTLE_STAT : Reg := ⟨0x400B0008, 0x0, 1, 0x0, 1, [F.TRESTLE_STAT_REASON, F.TRESTLE_STAT_D_PENDING, F.TRESTLE_STAT_D, F.TRESTLE_STAT_CLOSED, F.TRESTLE_STAT_MASTER, F.TRESTLE_STAT_STATE]⟩
def TRESTLE_MASTER : Reg := ⟨0x400B000C, 0x0, 1, 0x0, 1, [F.TRESTLE_MASTER_P, F.TRESTLE_MASTER_ID]⟩
def TRESTLE_W : Reg := ⟨0x400B0010, 0x0, 1, 0x0, 1, [F.TRESTLE_W]⟩
def TRESTLE_D_FRAME_LO : Reg := ⟨0x400B0014, 0x0, 1, 0x0, 1, [F.TRESTLE_D_FRAME_LO]⟩
def TRESTLE_D_FRAME_HI : Reg := ⟨0x400B0018, 0x0, 1, 0x0, 1, [F.TRESTLE_D_FRAME_HI_D_NEW, F.TRESTLE_D_FRAME_HI_A_HI]⟩
def TRESTLE_QUOTA : Reg := ⟨0x400B001C, 0x0, 1, 0x0, 1, [F.TRESTLE_QUOTA_GRANT, F.TRESTLE_QUOTA_REQ]⟩
def TRESTLE_TICK_ERR : Reg := ⟨0x400B0020, 0x0, 1, 0x0, 1, [F.TRESTLE_TICK_ERR]⟩
def TRESTLE_LATE_SENT : Reg := ⟨0x400B0024, 0x0, 1, 0x0, 1, [F.TRESTLE_LATE_SENT]⟩
def TRESTLE_LATE_RCVD : Reg := ⟨0x400B0028, 0x0, 1, 0x0, 1, [F.TRESTLE_LATE_RCVD]⟩
def TRESTLE_QDROP : Reg := ⟨0x400B002C, 0x0, 1, 0x0, 1, [F.TRESTLE_QDROP]⟩
def TRESTLE_REFUSED : Reg := ⟨0x400B0030, 0x0, 1, 0x0, 1, [F.TRESTLE_REFUSED]⟩
def TRESTLE_PORT_STAT : Reg := ⟨0x400B0100, 0x20, 2, 0x0, 1, [F.TRESTLE_PORT_STAT_NEIGHBOUR, F.TRESTLE_PORT_STAT_LINK]⟩
def TRESTLE_PORT_HOP : Reg := ⟨0x400B0104, 0x20, 2, 0x0, 1, [F.TRESTLE_PORT_HOP]⟩
def TRESTLE_PORT_ERR : Reg := ⟨0x400B0108, 0x20, 2, 0x0, 1, [F.TRESTLE_PORT_ERR_DROPS, F.TRESTLE_PORT_ERR_CRC]⟩

end R

/-- The registers of block TRESTLE (R28). -/
def regsTrestle : List Reg := [
  R.TRESTLE_CTL, R.TRESTLE_PUB_ID, R.TRESTLE_STAT, R.TRESTLE_MASTER, R.TRESTLE_W, R.TRESTLE_D_FRAME_LO,
  R.TRESTLE_D_FRAME_HI, R.TRESTLE_QUOTA, R.TRESTLE_TICK_ERR, R.TRESTLE_LATE_SENT, R.TRESTLE_LATE_RCVD,
  R.TRESTLE_QDROP, R.TRESTLE_REFUSED, R.TRESTLE_PORT_STAT, R.TRESTLE_PORT_HOP, R.TRESTLE_PORT_ERR]

/-! ### EVR at 0x400D0000 -/

namespace F

/-- `EVR_CTL.PIER_ACK` [4:4]. -/
def EVR_CTL_PIER_ACK : Fld := ⟨0x400D0000, 0x0, 0x0, 4, 4, .rw, .const 0, []⟩
/-- `EVR_CTL.POLICY` [0:0]. -/
def EVR_CTL_POLICY : Fld := ⟨0x400D0000, 0x0, 0x0, 0, 0, .rw, .const 0, []⟩
/-- `EVR_STAT.FULL` [1:1]. -/
def EVR_STAT_FULL : Fld := ⟨0x400D0004, 0x0, 0x0, 1, 1, .ro, .const 0, []⟩
/-- `EVR_STAT.RUNNING` [0:0]. -/
def EVR_STAT_RUNNING : Fld := ⟨0x400D0004, 0x0, 0x0, 0, 0, .ro, .const 0, []⟩
/-- `EVR_HEAD.SEQ` [31:0]. -/
def EVR_HEAD : Fld := ⟨0x400D0008, 0x0, 0x0, 31, 0, .ro, .const 0, []⟩
/-- `EVR_TAIL.SEQ` [31:0]. -/
def EVR_TAIL : Fld := ⟨0x400D000C, 0x0, 0x0, 31, 0, .ro, .const 0, []⟩
/-- `EVR_DROPPED.COUNT` [31:0]. -/
def EVR_DROPPED : Fld := ⟨0x400D0010, 0x0, 0x0, 31, 0, .rc, .const 0, []⟩
/-- `EVR_OVERWRITTEN.COUNT` [31:0]. -/
def EVR_OVERWRITTEN : Fld := ⟨0x400D0014, 0x0, 0x0, 31, 0, .rc, .const 0, []⟩
/-- `EVR_QLOST.COUNT` [31:0]. -/
def EVR_QLOST : Fld := ⟨0x400D0018, 0x0, 0x0, 31, 0, .rc, .const 0, []⟩
/-- `EVR_CLR.KEY` [31:0]. -/
def EVR_CLR : Fld := ⟨0x400D001C, 0x0, 0x0, 31, 0, .wo, .const 0, []⟩
/-- `EVR_CURn_CFG.IRQ_SEV` [7:4]. -/
def EVR_CUR_CFG_IRQ_SEV : Fld := ⟨0x400D0100, 0x20, 0x0, 7, 4, .rw, .const 3, []⟩
/-- `EVR_CURn_CFG.IRQ_EN` [2:2]. -/
def EVR_CUR_CFG_IRQ_EN : Fld := ⟨0x400D0100, 0x20, 0x0, 2, 2, .rw, .const 0, []⟩
/-- `EVR_CURn_CFG.AUTOADV` [1:1]. -/
def EVR_CUR_CFG_AUTOADV : Fld := ⟨0x400D0100, 0x20, 0x0, 1, 1, .rw, .const 1, []⟩
/-- `EVR_CURn_CFG.EN` [0:0]. -/
def EVR_CUR_CFG_EN : Fld := ⟨0x400D0100, 0x20, 0x0, 0, 0, .rw, .const 0, []⟩
/-- `EVR_CURn_POS.SEQ` [31:0]. -/
def EVR_CUR_POS : Fld := ⟨0x400D0104, 0x20, 0x0, 31, 0, .rw, .const 0, []⟩
/-- `EVR_CURn_ACK.SEQ` [31:0]. -/
def EVR_CUR_ACK : Fld := ⟨0x400D0108, 0x20, 0x0, 31, 0, .rw, .const 0, []⟩
/-- `EVR_CURn_STAT.ACK_REFUSED` [18:18]. -/
def EVR_CUR_STAT_ACK_REFUSED : Fld := ⟨0x400D010C, 0x20, 0x0, 18, 18, .w1c, .const 0, []⟩
/-- `EVR_CURn_STAT.BAD` [17:17]. -/
def EVR_CUR_STAT_BAD : Fld := ⟨0x400D010C, 0x20, 0x0, 17, 17, .w1c, .const 0, []⟩
/-- `EVR_CURn_STAT.PEND` [16:16]. -/
def EVR_CUR_STAT_PEND : Fld := ⟨0x400D010C, 0x20, 0x0, 16, 16, .w1c, .const 0, []⟩
/-- `EVR_CURn_STAT.AVAIL` [15:0]. -/
def EVR_CUR_STAT_AVAIL : Fld := ⟨0x400D010C, 0x20, 0x0, 15, 0, .ro, .const 0, []⟩
/-- `EVR_CURn_LOSS.COUNT` [31:0]. -/
def EVR_CUR_LOSS : Fld := ⟨0x400D0110, 0x20, 0x0, 31, 0, .rc, .const 0, []⟩
/-- `EVR_WINn_w.DATA` [31:0]. -/
def EVR_WIN : Fld := ⟨0x400D1000, 0x80, 0x4, 31, 0, .ro, .const 0, []⟩
/-- `EVR_LISTl_SELi.SEL` [31:0]. -/
def EVR_LIST_SEL : Fld := ⟨0x400D2000, 0x60, 0x4, 31, 0, .rw, .trapList, []⟩
/-- `EVR_CODEc_A.EN` [31:31]. -/
def EVR_CODE_A_EN : Fld := ⟨0x400D8000, 0x8, 0x0, 31, 31, .rw, .const 1, []⟩
/-- `EVR_CODEc_A.SEV` [15:12]. -/
def EVR_CODE_A_SEV : Fld := ⟨0x400D8000, 0x8, 0x0, 15, 12, .rw, .const 1, [(0, 4)]⟩
/-- `EVR_CODEc_A.LIST` [7:0]. -/
def EVR_CODE_A_LIST : Fld := ⟨0x400D8000, 0x8, 0x0, 7, 0, .rw, .codeList, []⟩
/-- `EVR_CODEc_B.BURST` [23:16]. -/
def EVR_CODE_B_BURST : Fld := ⟨0x400D8004, 0x8, 0x0, 23, 16, .rw, .const 0x10, [(1, 255)]⟩
/-- `EVR_CODEc_B.P` [15:0]. -/
def EVR_CODE_B_P : Fld := ⟨0x400D8004, 0x8, 0x0, 15, 0, .rw, .const 0x7D0, [(1, 65535)]⟩

end F

namespace R

def EVR_CTL : Reg := ⟨0x400D0000, 0x0, 1, 0x0, 1, [F.EVR_CTL_PIER_ACK, F.EVR_CTL_POLICY]⟩
def EVR_STAT : Reg := ⟨0x400D0004, 0x0, 1, 0x0, 1, [F.EVR_STAT_FULL, F.EVR_STAT_RUNNING]⟩
def EVR_HEAD : Reg := ⟨0x400D0008, 0x0, 1, 0x0, 1, [F.EVR_HEAD]⟩
def EVR_TAIL : Reg := ⟨0x400D000C, 0x0, 1, 0x0, 1, [F.EVR_TAIL]⟩
def EVR_DROPPED : Reg := ⟨0x400D0010, 0x0, 1, 0x0, 1, [F.EVR_DROPPED]⟩
def EVR_OVERWRITTEN : Reg := ⟨0x400D0014, 0x0, 1, 0x0, 1, [F.EVR_OVERWRITTEN]⟩
def EVR_QLOST : Reg := ⟨0x400D0018, 0x0, 1, 0x0, 1, [F.EVR_QLOST]⟩
def EVR_CLR : Reg := ⟨0x400D001C, 0x0, 1, 0x0, 1, [F.EVR_CLR]⟩
def EVR_CUR_CFG : Reg := ⟨0x400D0100, 0x20, 4, 0x0, 1, [F.EVR_CUR_CFG_IRQ_SEV, F.EVR_CUR_CFG_IRQ_EN, F.EVR_CUR_CFG_AUTOADV, F.EVR_CUR_CFG_EN]⟩
def EVR_CUR_POS : Reg := ⟨0x400D0104, 0x20, 4, 0x0, 1, [F.EVR_CUR_POS]⟩
def EVR_CUR_ACK : Reg := ⟨0x400D0108, 0x20, 4, 0x0, 1, [F.EVR_CUR_ACK]⟩
def EVR_CUR_STAT : Reg := ⟨0x400D010C, 0x20, 4, 0x0, 1, [F.EVR_CUR_STAT_ACK_REFUSED, F.EVR_CUR_STAT_BAD, F.EVR_CUR_STAT_PEND, F.EVR_CUR_STAT_AVAIL]⟩
def EVR_CUR_LOSS : Reg := ⟨0x400D0110, 0x20, 4, 0x0, 1, [F.EVR_CUR_LOSS]⟩
def EVR_WIN : Reg := ⟨0x400D1000, 0x80, 4, 0x4, 32, [F.EVR_WIN]⟩
def EVR_LIST_SEL : Reg := ⟨0x400D2000, 0x60, 256, 0x4, 24, [F.EVR_LIST_SEL]⟩
def EVR_CODE_A : Reg := ⟨0x400D8000, 0x8, 4096, 0x0, 1, [F.EVR_CODE_A_EN, F.EVR_CODE_A_SEV, F.EVR_CODE_A_LIST]⟩
def EVR_CODE_B : Reg := ⟨0x400D8004, 0x8, 4096, 0x0, 1, [F.EVR_CODE_B_BURST, F.EVR_CODE_B_P]⟩

end R

/-- The registers of block EVR (R28). -/
def regsEvr : List Reg := [
  R.EVR_CTL, R.EVR_STAT, R.EVR_HEAD, R.EVR_TAIL, R.EVR_DROPPED, R.EVR_OVERWRITTEN, R.EVR_QLOST, R.EVR_CLR,
  R.EVR_CUR_CFG, R.EVR_CUR_POS, R.EVR_CUR_ACK, R.EVR_CUR_STAT, R.EVR_CUR_LOSS, R.EVR_WIN, R.EVR_LIST_SEL,
  R.EVR_CODE_A, R.EVR_CODE_B]

/-! ### HEALTH at 0x400E0000 -/

namespace F

/-- `HEALTH_THR.SHUTDOWN` [23:16]. -/
def HEALTH_THR_SHUTDOWN : Fld := ⟨0x400E0000, 0x0, 0x0, 23, 16, .rw, .const 0x7D, []⟩
/-- `HEALTH_THR.THROTTLE` [15:8]. -/
def HEALTH_THR_THROTTLE : Fld := ⟨0x400E0000, 0x0, 0x0, 15, 8, .rw, .const 0x73, []⟩
/-- `HEALTH_THR.WARN` [7:0]. -/
def HEALTH_THR_WARN : Fld := ⟨0x400E0000, 0x0, 0x0, 7, 0, .rw, .const 0x69, []⟩
/-- `HEALTH_THR_SCALE.PERCENT` [6:0]. -/
def HEALTH_THR_SCALE : Fld := ⟨0x400E0004, 0x0, 0x0, 6, 0, .rw, .const 0x4B, [(25, 100)]⟩
/-- `HEALTH_THERM_STAT.TMAX` [31:16]. -/
def HEALTH_THERM_STAT_TMAX : Fld := ⟨0x400E0008, 0x0, 0x0, 31, 16, .ro, .const 0, []⟩
/-- `HEALTH_THERM_STAT.TS_BAD` [15:8]. -/
def HEALTH_THERM_STAT_TS_BAD : Fld := ⟨0x400E0008, 0x0, 0x0, 15, 8, .ro, .const 0, []⟩
/-- `HEALTH_THERM_STAT.HOT_SENSOR` [6:4]. -/
def HEALTH_THERM_STAT_HOT_SENSOR : Fld := ⟨0x400E0008, 0x0, 0x0, 6, 4, .ro, .const 0, []⟩
/-- `HEALTH_THERM_STAT.HALT_HOT` [2:2]. -/
def HEALTH_THERM_STAT_HALT_HOT : Fld := ⟨0x400E0008, 0x0, 0x0, 2, 2, .ro, .const 0, []⟩
/-- `HEALTH_THERM_STAT.LEVEL` [1:0]. -/
def HEALTH_THERM_STAT_LEVEL : Fld := ⟨0x400E0008, 0x0, 0x0, 1, 0, .ro, .const 0, []⟩
/-- `HEALTH_TSi.TEMP` [15:0]. -/
def HEALTH_TS : Fld := ⟨0x400E0010, 0x4, 0x0, 15, 0, .ro, .const 0, []⟩
/-- `HEALTH_SUP_STAT.OUT` [8:0]. -/
def HEALTH_SUP_STAT : Fld := ⟨0x400E0030, 0x0, 0x0, 8, 0, .ro, .const 0, []⟩
/-- `HEALTH_REF.REF_BAD` [16:16]. -/
def HEALTH_REF_REF_BAD : Fld := ⟨0x400E0038, 0x0, 0x0, 16, 16, .ro, .const 0, []⟩
/-- `HEALTH_REF.DEV` [15:0]. -/
def HEALTH_REF_DEV : Fld := ⟨0x400E0038, 0x0, 0x0, 15, 0, .ro, .const 0, []⟩
/-- `HEALTH_SUPj.MV` [15:0]. -/
def HEALTH_SUP : Fld := ⟨0x400E0040, 0x4, 0x0, 15, 0, .ro, .const 0, []⟩
/-- `HEALTH_STAT.CALDRIFT` [10:10]. -/
def HEALTH_STAT_CALDRIFT : Fld := ⟨0x400E0080, 0x0, 0x0, 10, 10, .ro, .const 0, []⟩
/-- `HEALTH_STAT.DECK_NOSPARE` [9:9]. -/
def HEALTH_STAT_DECK_NOSPARE : Fld := ⟨0x400E0080, 0x0, 0x0, 9, 9, .ro, .const 0, []⟩
/-- `HEALTH_STAT.ROWS_LEFT` [8:0]. -/
def HEALTH_STAT_ROWS_LEFT : Fld := ⟨0x400E0080, 0x0, 0x0, 8, 0, .ro, .const 0x100, []⟩
/-- `HEALTH_LAST.CLASS` [31:28]. -/
def HEALTH_LAST_CLASS : Fld := ⟨0x400E0084, 0x0, 0x0, 31, 28, .ro, .const 0, []⟩
/-- `HEALTH_LAST.VERDICT` [23:23]. -/
def HEALTH_LAST_VERDICT : Fld := ⟨0x400E0084, 0x0, 0x0, 23, 23, .ro, .const 0, []⟩
/-- `HEALTH_LAST.COUNT` [22:16]. -/
def HEALTH_LAST_COUNT : Fld := ⟨0x400E0084, 0x0, 0x0, 22, 16, .ro, .const 0, []⟩
/-- `HEALTH_LAST.UNIT` [14:0]. -/
def HEALTH_LAST_UNIT : Fld := ⟨0x400E0084, 0x0, 0x0, 14, 0, .ro, .const 0, []⟩
/-- `HEALTH_RETIRE.CMD` [31:31]. -/
def HEALTH_RETIRE_CMD : Fld := ⟨0x400E0088, 0x0, 0x0, 31, 31, .wo, .const 0, []⟩
/-- `HEALTH_RETIRE.CLASS` [18:16]. -/
def HEALTH_RETIRE_CLASS : Fld := ⟨0x400E0088, 0x0, 0x0, 18, 16, .rw, .const 0, [(0, 4)]⟩
/-- `HEALTH_RETIRE.UNIT` [14:0]. -/
def HEALTH_RETIRE_UNIT : Fld := ⟨0x400E0088, 0x0, 0x0, 14, 0, .rw, .const 0, []⟩
/-- `HEALTH_CLASSc_CFG.WINDOW` [31:16]. -/
def HEALTH_CLASS_CFG_WINDOW : Fld := ⟨0x400E0100, 0x10, 0x0, 31, 16, .rw, .table [0x5A0, 0x5A0, 0x5A0, 0x3C, 0x3C], [(1, 65535)]⟩
/-- `HEALTH_CLASSc_CFG.LIMIT` [7:0]. -/
def HEALTH_CLASS_CFG_LIMIT : Fld := ⟨0x400E0100, 0x10, 0x0, 7, 0, .rw, .table [2, 2, 3, 3, 4], [(1, 255)]⟩
/-- `HEALTH_CLASSc_STAT.TRANSIENTS` [31:16]. -/
def HEALTH_CLASS_STAT_TRANSIENTS : Fld := ⟨0x400E0104, 0x10, 0x0, 31, 16, .rc, .const 0, []⟩
/-- `HEALTH_CLASSc_STAT.LASTING` [15:8]. -/
def HEALTH_CLASS_STAT_LASTING : Fld := ⟨0x400E0104, 0x10, 0x0, 15, 8, .rc, .const 0, []⟩
/-- `HEALTH_CLASSc_STAT.QFULL` [4:4]. -/
def HEALTH_CLASS_STAT_QFULL : Fld := ⟨0x400E0104, 0x10, 0x0, 4, 4, .w1c, .const 0, []⟩
/-- `HEALTH_CLASSc_STAT.QUEUED` [3:0]. -/
def HEALTH_CLASS_STAT_QUEUED : Fld := ⟨0x400E0104, 0x10, 0x0, 3, 0, .ro, .const 0, []⟩
/-- `HEALTH_RET_PIER.MAP` [31:0]. -/
def HEALTH_RET_PIER : Fld := ⟨0x400E0200, 0x0, 0x0, 31, 0, .ro, .const 0, []⟩
/-- `HEALTH_RET_SLICE.MAP` [31:0]. -/
def HEALTH_RET_SLICE : Fld := ⟨0x400E0204, 0x0, 0x0, 31, 0, .ro, .const 0, []⟩
/-- `HEALTH_RET_LANE.MAP` [31:0]. -/
def HEALTH_RET_LANE : Fld := ⟨0x400E0208, 0x0, 0x0, 31, 0, .ro, .const 0, []⟩
/-- `HEALTH_RET_SOL.MAP` [31:0]. -/
def HEALTH_RET_SOL : Fld := ⟨0x400E020C, 0x0, 0x0, 31, 0, .ro, .const 0, []⟩
/-- `HEALTH_RET_MOT.MAP` [31:0]. -/
def HEALTH_RET_MOT : Fld := ⟨0x400E0210, 0x0, 0x0, 31, 0, .ro, .const 0, []⟩
/-- `HEALTH_RET_FAN.MAP` [31:0]. -/
def HEALTH_RET_FAN : Fld := ⟨0x400E0214, 0x0, 0x0, 31, 0, .ro, .const 0, []⟩
/-- `HEALTH_RET_HSW.MAP` [31:0]. -/
def HEALTH_RET_HSW : Fld := ⟨0x400E0218, 0x0, 0x0, 31, 0, .ro, .const 0, []⟩

end F

namespace R

def HEALTH_THR : Reg := ⟨0x400E0000, 0x0, 1, 0x0, 1, [F.HEALTH_THR_SHUTDOWN, F.HEALTH_THR_THROTTLE, F.HEALTH_THR_WARN]⟩
def HEALTH_THR_SCALE : Reg := ⟨0x400E0004, 0x0, 1, 0x0, 1, [F.HEALTH_THR_SCALE]⟩
def HEALTH_THERM_STAT : Reg := ⟨0x400E0008, 0x0, 1, 0x0, 1, [F.HEALTH_THERM_STAT_TMAX, F.HEALTH_THERM_STAT_TS_BAD, F.HEALTH_THERM_STAT_HOT_SENSOR, F.HEALTH_THERM_STAT_HALT_HOT, F.HEALTH_THERM_STAT_LEVEL]⟩
def HEALTH_TS : Reg := ⟨0x400E0010, 0x4, 8, 0x0, 1, [F.HEALTH_TS]⟩
def HEALTH_SUP_STAT : Reg := ⟨0x400E0030, 0x0, 1, 0x0, 1, [F.HEALTH_SUP_STAT]⟩
def HEALTH_REF : Reg := ⟨0x400E0038, 0x0, 1, 0x0, 1, [F.HEALTH_REF_REF_BAD, F.HEALTH_REF_DEV]⟩
def HEALTH_SUP : Reg := ⟨0x400E0040, 0x4, 9, 0x0, 1, [F.HEALTH_SUP]⟩
def HEALTH_STAT : Reg := ⟨0x400E0080, 0x0, 1, 0x0, 1, [F.HEALTH_STAT_CALDRIFT, F.HEALTH_STAT_DECK_NOSPARE, F.HEALTH_STAT_ROWS_LEFT]⟩
def HEALTH_LAST : Reg := ⟨0x400E0084, 0x0, 1, 0x0, 1, [F.HEALTH_LAST_CLASS, F.HEALTH_LAST_VERDICT, F.HEALTH_LAST_COUNT, F.HEALTH_LAST_UNIT]⟩
def HEALTH_RETIRE : Reg := ⟨0x400E0088, 0x0, 1, 0x0, 1, [F.HEALTH_RETIRE_CMD, F.HEALTH_RETIRE_CLASS, F.HEALTH_RETIRE_UNIT]⟩
def HEALTH_CLASS_CFG : Reg := ⟨0x400E0100, 0x10, 5, 0x0, 1, [F.HEALTH_CLASS_CFG_WINDOW, F.HEALTH_CLASS_CFG_LIMIT]⟩
def HEALTH_CLASS_STAT : Reg := ⟨0x400E0104, 0x10, 5, 0x0, 1, [F.HEALTH_CLASS_STAT_TRANSIENTS, F.HEALTH_CLASS_STAT_LASTING, F.HEALTH_CLASS_STAT_QFULL, F.HEALTH_CLASS_STAT_QUEUED]⟩
def HEALTH_RET_PIER : Reg := ⟨0x400E0200, 0x0, 1, 0x0, 1, [F.HEALTH_RET_PIER]⟩
def HEALTH_RET_SLICE : Reg := ⟨0x400E0204, 0x0, 1, 0x0, 1, [F.HEALTH_RET_SLICE]⟩
def HEALTH_RET_LANE : Reg := ⟨0x400E0208, 0x0, 1, 0x0, 1, [F.HEALTH_RET_LANE]⟩
def HEALTH_RET_SOL : Reg := ⟨0x400E020C, 0x0, 1, 0x0, 1, [F.HEALTH_RET_SOL]⟩
def HEALTH_RET_MOT : Reg := ⟨0x400E0210, 0x0, 1, 0x0, 1, [F.HEALTH_RET_MOT]⟩
def HEALTH_RET_FAN : Reg := ⟨0x400E0214, 0x0, 1, 0x0, 1, [F.HEALTH_RET_FAN]⟩
def HEALTH_RET_HSW : Reg := ⟨0x400E0218, 0x0, 1, 0x0, 1, [F.HEALTH_RET_HSW]⟩

end R

/-- The registers of block HEALTH (R28). -/
def regsHealth : List Reg := [
  R.HEALTH_THR, R.HEALTH_THR_SCALE, R.HEALTH_THERM_STAT, R.HEALTH_TS, R.HEALTH_SUP_STAT, R.HEALTH_REF,
  R.HEALTH_SUP, R.HEALTH_STAT, R.HEALTH_LAST, R.HEALTH_RETIRE, R.HEALTH_CLASS_CFG, R.HEALTH_CLASS_STAT,
  R.HEALTH_RET_PIER, R.HEALTH_RET_SLICE, R.HEALTH_RET_LANE, R.HEALTH_RET_SOL, R.HEALTH_RET_MOT,
  R.HEALTH_RET_FAN, R.HEALTH_RET_HSW]

/-! ### HOSTP at 0x400F0000 -/

namespace F

/-- `HOSTP_STAT.TIMEOUTS` [31:24]. -/
def HOSTP_STAT_TIMEOUTS : Fld := ⟨0x400F0000, 0x0, 0x0, 31, 24, .rc, .const 0, []⟩
/-- `HOSTP_STAT.BADCMD` [23:16]. -/
def HOSTP_STAT_BADCMD : Fld := ⟨0x400F0000, 0x0, 0x0, 23, 16, .rc, .const 0, []⟩
/-- `HOSTP_STAT.PREV_FAIL` [7:7]. -/
def HOSTP_STAT_PREV_FAIL : Fld := ⟨0x400F0000, 0x0, 0x0, 7, 7, .w1c, .const 0, []⟩
/-- `HOSTP_STAT.LAST` [3:0]. -/
def HOSTP_STAT_LAST : Fld := ⟨0x400F0000, 0x0, 0x0, 3, 0, .ro, .const 0, []⟩
/-- `HOSTP_IRQ_EN.BOOT` [2:2]. -/
def HOSTP_IRQ_EN_BOOT : Fld := ⟨0x400F0004, 0x0, 0x0, 2, 2, .rw, .const 1, []⟩
/-- `HOSTP_IRQ_EN.BLK` [1:1]. -/
def HOSTP_IRQ_EN_BLK : Fld := ⟨0x400F0004, 0x0, 0x0, 1, 1, .rw, .const 0, []⟩
/-- `HOSTP_IRQ_EN.EVR` [0:0]. -/
def HOSTP_IRQ_EN_EVR : Fld := ⟨0x400F0004, 0x0, 0x0, 0, 0, .rw, .const 0, []⟩
/-- `HOSTP_W31_CTL.EN` [0:0]. -/
def HOSTP_W31_CTL : Fld := ⟨0x400F0010, 0x0, 0x0, 0, 0, .rw, .const 0, []⟩
/-- `HOSTP_W31_STAT.ABANDONED` [31:24]. -/
def HOSTP_W31_STAT_ABANDONED : Fld := ⟨0x400F0014, 0x0, 0x0, 31, 24, .rc, .const 0, []⟩
/-- `HOSTP_W31_STAT.ORPHAN` [23:16]. -/
def HOSTP_W31_STAT_ORPHAN : Fld := ⟨0x400F0014, 0x0, 0x0, 23, 16, .rc, .const 0, []⟩
/-- `HOSTP_W31_STAT.SAT` [15:8]. -/
def HOSTP_W31_STAT_SAT : Fld := ⟨0x400F0014, 0x0, 0x0, 15, 8, .rc, .const 0, []⟩
/-- `HOSTP_W31_STAT.REFUSED` [7:0]. -/
def HOSTP_W31_STAT_REFUSED : Fld := ⟨0x400F0014, 0x0, 0x0, 7, 0, .rc, .const 0, []⟩
/-- `HOSTP_W31_Zz_Ff.EN` [31:31]. -/
def HOSTP_W31_Z_F_EN : Fld := ⟨0x400F0100, 0x20, 0x4, 31, 31, .rw, .const 0, []⟩
/-- `HOSTP_W31_Zz_Ff.POINT` [16:0]. -/
def HOSTP_W31_Z_F_POINT : Fld := ⟨0x400F0100, 0x20, 0x4, 16, 0, .rw, .const 0, []⟩

end F

namespace R

def HOSTP_STAT : Reg := ⟨0x400F0000, 0x0, 1, 0x0, 1, [F.HOSTP_STAT_TIMEOUTS, F.HOSTP_STAT_BADCMD, F.HOSTP_STAT_PREV_FAIL, F.HOSTP_STAT_LAST]⟩
def HOSTP_IRQ_EN : Reg := ⟨0x400F0004, 0x0, 1, 0x0, 1, [F.HOSTP_IRQ_EN_BOOT, F.HOSTP_IRQ_EN_BLK, F.HOSTP_IRQ_EN_EVR]⟩
def HOSTP_W31_CTL : Reg := ⟨0x400F0010, 0x0, 1, 0x0, 1, [F.HOSTP_W31_CTL]⟩
def HOSTP_W31_STAT : Reg := ⟨0x400F0014, 0x0, 1, 0x0, 1, [F.HOSTP_W31_STAT_ABANDONED, F.HOSTP_W31_STAT_ORPHAN, F.HOSTP_W31_STAT_SAT, F.HOSTP_W31_STAT_REFUSED]⟩
def HOSTP_W31_Z_F : Reg := ⟨0x400F0100, 0x20, 8, 0x4, 6, [F.HOSTP_W31_Z_F_EN, F.HOSTP_W31_Z_F_POINT]⟩

end R

/-- The registers of block HOSTP (R28). -/
def regsHostp : List Reg := [
  R.HOSTP_STAT, R.HOSTP_IRQ_EN, R.HOSTP_W31_CTL, R.HOSTP_W31_STAT, R.HOSTP_W31_Z_F]

/-! ### NET at 0x40100000 -/

namespace F

/-- `NET_MACm_CTL.EN` [31:31]. -/
def NET_MAC_CTL_EN : Fld := ⟨0x40100100, 0x100, 0x0, 31, 31, .rw, .const 0, []⟩
/-- `NET_MACm_CTL.IF` [30:30]. -/
def NET_MAC_CTL_IF : Fld := ⟨0x40100100, 0x100, 0x0, 30, 30, .rw, .const 0, []⟩
/-- `NET_MACm_CTL.SPEED` [29:28]. -/
def NET_MAC_CTL_SPEED : Fld := ⟨0x40100100, 0x100, 0x0, 29, 28, .ro, .const 0, []⟩
/-- `NET_MACm_CTL.LINK` [27:27]. -/
def NET_MAC_CTL_LINK : Fld := ⟨0x40100100, 0x100, 0x0, 27, 27, .ro, .const 0, []⟩
/-- `NET_MACm_CTL.RESOLVE` [7:7]. -/
def NET_MAC_CTL_RESOLVE : Fld := ⟨0x40100100, 0x100, 0x0, 7, 7, .rw, .const 1, []⟩
/-- `NET_MACm_CTL.SVC_EN` [6:6]. -/
def NET_MAC_CTL_SVC_EN : Fld := ⟨0x40100100, 0x100, 0x0, 6, 6, .rw, .const 0, []⟩
/-- `NET_MACm_CTL.PEER_EN` [5:5]. -/
def NET_MAC_CTL_PEER_EN : Fld := ⟨0x40100100, 0x100, 0x0, 5, 5, .rw, .const 0, []⟩
/-- `NET_MACm_CTL.BVLC_EN` [4:4]. -/
def NET_MAC_CTL_BVLC_EN : Fld := ⟨0x40100100, 0x100, 0x0, 4, 4, .rw, .const 1, []⟩
/-- `NET_MACm_CTL.CSUM_EN` [3:3]. -/
def NET_MAC_CTL_CSUM_EN : Fld := ⟨0x40100100, 0x100, 0x0, 3, 3, .rw, .const 1, []⟩
/-- `NET_MACm_CTL.ALLMULTI` [2:2]. -/
def NET_MAC_CTL_ALLMULTI : Fld := ⟨0x40100100, 0x100, 0x0, 2, 2, .rw, .const 0, []⟩
/-- `NET_MACm_CTL.BCAST` [1:1]. -/
def NET_MAC_CTL_BCAST : Fld := ⟨0x40100100, 0x100, 0x0, 1, 1, .rw, .const 1, []⟩
/-- `NET_MACm_CTL.PROMISC` [0:0]. -/
def NET_MAC_CTL_PROMISC : Fld := ⟨0x40100100, 0x100, 0x0, 0, 0, .rw, .const 0, []⟩
/-- `NET_MACm_ADDR_LO.VALUE` [31:0]. -/
def NET_MAC_ADDR_LO : Fld := ⟨0x40100104, 0x100, 0x0, 31, 0, .rw, .fused 5, []⟩
/-- `NET_MACm_ADDR_HI.VALUE` [31:0]. -/
def NET_MAC_ADDR_HI : Fld := ⟨0x40100108, 0x100, 0x0, 31, 0, .rw, .fused 6, []⟩
/-- `NET_MACm_IP4.VALUE` [31:0]. -/
def NET_MAC_IP4 : Fld := ⟨0x4010010C, 0x100, 0x0, 31, 0, .rw, .const 0, []⟩
/-- `NET_MACm_PORTS.SVC_PORT` [31:16]. -/
def NET_MAC_PORTS_SVC_PORT : Fld := ⟨0x40100110, 0x100, 0x0, 31, 16, .rw, .const 0x5A17, []⟩
/-- `NET_MACm_PORTS.BVLC_PORT` [15:0]. -/
def NET_MAC_PORTS_BVLC_PORT : Fld := ⟨0x40100110, 0x100, 0x0, 15, 0, .rw, .const 0xBAC0, []⟩
/-- `NET_MACm_PEERk.ADDR` [31:0]. -/
def NET_MAC_PEER : Fld := ⟨0x40100114, 0x100, 0x4, 31, 0, .rw, .const 0, []⟩
/-- `NET_MACm_RXRING.BASE` [31:7]. -/
def NET_MAC_RXRING_BASE : Fld := ⟨0x40100130, 0x100, 0x0, 31, 7, .rw, .const 0, []⟩
/-- `NET_MACm_RXRING.SIZE` [3:0]. -/
def NET_MAC_RXRING_SIZE : Fld := ⟨0x40100130, 0x100, 0x0, 3, 0, .rw, .const 3, [(3, 12)]⟩
/-- `NET_MACm_TXRING.BASE` [31:7]. -/
def NET_MAC_TXRING_BASE : Fld := ⟨0x40100134, 0x100, 0x0, 31, 7, .rw, .const 0, []⟩
/-- `NET_MACm_TXRING.SIZE` [3:0]. -/
def NET_MAC_TXRING_SIZE : Fld := ⟨0x40100134, 0x100, 0x0, 3, 0, .rw, .const 3, [(3, 12)]⟩
/-- `NET_MACm_RXIDX.DEV` [27:16]. -/
def NET_MAC_RXIDX_DEV : Fld := ⟨0x40100138, 0x100, 0x0, 27, 16, .ro, .const 0, []⟩
/-- `NET_MACm_RXIDX.SW` [11:0]. -/
def NET_MAC_RXIDX_SW : Fld := ⟨0x40100138, 0x100, 0x0, 11, 0, .rw, .const 0, []⟩
/-- `NET_MACm_TXIDX.DEV` [27:16]. -/
def NET_MAC_TXIDX_DEV : Fld := ⟨0x4010013C, 0x100, 0x0, 27, 16, .ro, .const 0, []⟩
/-- `NET_MACm_TXIDX.SW` [11:0]. -/
def NET_MAC_TXIDX_SW : Fld := ⟨0x4010013C, 0x100, 0x0, 11, 0, .rw, .const 0, []⟩
/-- `NET_MACm_MDIO.GO` [31:31]. -/
def NET_MAC_MDIO_GO : Fld := ⟨0x40100140, 0x100, 0x0, 31, 31, .wo, .const 0, []⟩
/-- `NET_MACm_MDIO.BUSY` [30:30]. -/
def NET_MAC_MDIO_BUSY : Fld := ⟨0x40100140, 0x100, 0x0, 30, 30, .ro, .const 0, []⟩
/-- `NET_MACm_MDIO.OP` [29:28]. -/
def NET_MAC_MDIO_OP : Fld := ⟨0x40100140, 0x100, 0x0, 29, 28, .rw, .const 2, [(0, 2)]⟩
/-- `NET_MACm_MDIO.C45` [27:27]. -/
def NET_MAC_MDIO_C45 : Fld := ⟨0x40100140, 0x100, 0x0, 27, 27, .rw, .const 0, []⟩
/-- `NET_MACm_MDIO.PHYAD` [26:22]. -/
def NET_MAC_MDIO_PHYAD : Fld := ⟨0x40100140, 0x100, 0x0, 26, 22, .rw, .const 0, []⟩
/-- `NET_MACm_MDIO.REG` [20:16]; bit 21 is reserved. -/
def NET_MAC_MDIO_REG : Fld := ⟨0x40100140, 0x100, 0x0, 20, 16, .rw, .const 0, []⟩
/-- `NET_MACm_MDIO.DATA` [15:0]. -/
def NET_MAC_MDIO_DATA : Fld := ⟨0x40100140, 0x100, 0x0, 15, 0, .rw, .const 0, []⟩
/-- `NET_MACm_CNT.RX_DROP` [31:24]. -/
def NET_MAC_CNT_RX_DROP : Fld := ⟨0x40100144, 0x100, 0x0, 31, 24, .rc, .const 0, []⟩
/-- `NET_MACm_CNT.CSUM_BAD` [23:16]. -/
def NET_MAC_CNT_CSUM_BAD : Fld := ⟨0x40100144, 0x100, 0x0, 23, 16, .rc, .const 0, []⟩
/-- `NET_MACm_CNT.BVLC_BAD` [15:8]. -/
def NET_MAC_CNT_BVLC_BAD : Fld := ⟨0x40100144, 0x100, 0x0, 15, 8, .rc, .const 0, []⟩
/-- `NET_MACm_CNT.SVC_REFUSED` [7:0]. -/
def NET_MAC_CNT_SVC_REFUSED : Fld := ⟨0x40100144, 0x100, 0x0, 7, 0, .rc, .const 0, []⟩

end F

namespace R

def NET_MAC_CTL : Reg := ⟨0x40100100, 0x100, 2, 0x0, 1, [F.NET_MAC_CTL_EN, F.NET_MAC_CTL_IF, F.NET_MAC_CTL_SPEED, F.NET_MAC_CTL_LINK, F.NET_MAC_CTL_RESOLVE, F.NET_MAC_CTL_SVC_EN, F.NET_MAC_CTL_PEER_EN, F.NET_MAC_CTL_BVLC_EN, F.NET_MAC_CTL_CSUM_EN, F.NET_MAC_CTL_ALLMULTI, F.NET_MAC_CTL_BCAST, F.NET_MAC_CTL_PROMISC]⟩
def NET_MAC_ADDR_LO : Reg := ⟨0x40100104, 0x100, 2, 0x0, 1, [F.NET_MAC_ADDR_LO]⟩
def NET_MAC_ADDR_HI : Reg := ⟨0x40100108, 0x100, 2, 0x0, 1, [F.NET_MAC_ADDR_HI]⟩
def NET_MAC_IP4 : Reg := ⟨0x4010010C, 0x100, 2, 0x0, 1, [F.NET_MAC_IP4]⟩
def NET_MAC_PORTS : Reg := ⟨0x40100110, 0x100, 2, 0x0, 1, [F.NET_MAC_PORTS_SVC_PORT, F.NET_MAC_PORTS_BVLC_PORT]⟩
def NET_MAC_PEER : Reg := ⟨0x40100114, 0x100, 2, 0x4, 4, [F.NET_MAC_PEER]⟩
def NET_MAC_RXRING : Reg := ⟨0x40100130, 0x100, 2, 0x0, 1, [F.NET_MAC_RXRING_BASE, F.NET_MAC_RXRING_SIZE]⟩
def NET_MAC_TXRING : Reg := ⟨0x40100134, 0x100, 2, 0x0, 1, [F.NET_MAC_TXRING_BASE, F.NET_MAC_TXRING_SIZE]⟩
def NET_MAC_RXIDX : Reg := ⟨0x40100138, 0x100, 2, 0x0, 1, [F.NET_MAC_RXIDX_DEV, F.NET_MAC_RXIDX_SW]⟩
def NET_MAC_TXIDX : Reg := ⟨0x4010013C, 0x100, 2, 0x0, 1, [F.NET_MAC_TXIDX_DEV, F.NET_MAC_TXIDX_SW]⟩
def NET_MAC_MDIO : Reg := ⟨0x40100140, 0x100, 2, 0x0, 1, [F.NET_MAC_MDIO_GO, F.NET_MAC_MDIO_BUSY, F.NET_MAC_MDIO_OP, F.NET_MAC_MDIO_C45, F.NET_MAC_MDIO_PHYAD, F.NET_MAC_MDIO_REG, F.NET_MAC_MDIO_DATA]⟩
def NET_MAC_CNT : Reg := ⟨0x40100144, 0x100, 2, 0x0, 1, [F.NET_MAC_CNT_RX_DROP, F.NET_MAC_CNT_CSUM_BAD, F.NET_MAC_CNT_BVLC_BAD, F.NET_MAC_CNT_SVC_REFUSED]⟩

end R

/-- The registers of block NET (R28). -/
def regsNet : List Reg := [
  R.NET_MAC_CTL, R.NET_MAC_ADDR_LO, R.NET_MAC_ADDR_HI, R.NET_MAC_IP4, R.NET_MAC_PORTS, R.NET_MAC_PEER,
  R.NET_MAC_RXRING, R.NET_MAC_TXRING, R.NET_MAC_RXIDX, R.NET_MAC_TXIDX, R.NET_MAC_MDIO, R.NET_MAC_CNT]

/-! ### FIELD at 0x40110000 -/

namespace F

/-- `FIELD_ENGe_CTL.EN` [31:31]. -/
def FIELD_ENG_CTL_EN : Fld := ⟨0x40110100, 0x40, 0x0, 31, 31, .rw, .const 0, []⟩
/-- `FIELD_ENGe_CTL.MODE` [30:28]. -/
def FIELD_ENG_CTL_MODE : Fld := ⟨0x40110100, 0x40, 0x0, 30, 28, .rw, .const 0, [(0, 4)]⟩
/-- `FIELD_ENGe_CTL.BAUD` [27:25]. -/
def FIELD_ENG_CTL_BAUD : Fld := ⟨0x40110100, 0x40, 0x0, 27, 25, .rw, .const 1, [(0, 5)]⟩
/-- `FIELD_ENGe_CTL.PARITY` [24:23]. -/
def FIELD_ENG_CTL_PARITY : Fld := ⟨0x40110100, 0x40, 0x0, 24, 23, .rw, .const 0, [(0, 2)]⟩
/-- `FIELD_ENGe_CTL.STOP2` [22:22]. -/
def FIELD_ENG_CTL_STOP2 : Fld := ⟨0x40110100, 0x40, 0x0, 22, 22, .rw, .const 0, []⟩
/-- `FIELD_ENGe_CTL.ADDR` [7:0]. -/
def FIELD_ENG_CTL_ADDR : Fld := ⟨0x40110100, 0x40, 0x0, 7, 0, .rw, .const 0, []⟩
/-- `FIELD_ENGe_PARAM.A` [31:24]. -/
def FIELD_ENG_PARAM_A : Fld := ⟨0x40110104, 0x40, 0x0, 31, 24, .rw, .const 0x7F, []⟩
/-- `FIELD_ENGe_PARAM.B` [23:16]. -/
def FIELD_ENG_PARAM_B : Fld := ⟨0x40110104, 0x40, 0x0, 23, 16, .rw, .const 1, []⟩
/-- `FIELD_ENGe_PARAM.C` [15:0]. -/
def FIELD_ENG_PARAM_C : Fld := ⟨0x40110104, 0x40, 0x0, 15, 0, .rw, .const 0x3E8, []⟩
/-- `FIELD_ENGe_RING.BASE` [31:10]. -/
def FIELD_ENG_RING_BASE : Fld := ⟨0x40110108, 0x40, 0x0, 31, 10, .rw, .const 0, []⟩
/-- `FIELD_ENGe_RING.TX_SIZE` [7:4]. -/
def FIELD_ENG_RING_TX_SIZE : Fld := ⟨0x40110108, 0x40, 0x0, 7, 4, .rw, .const 2, [(0, 6)]⟩
/-- `FIELD_ENGe_RING.RX_SIZE` [3:0]. -/
def FIELD_ENG_RING_RX_SIZE : Fld := ⟨0x40110108, 0x40, 0x0, 3, 0, .rw, .const 2, [(0, 6)]⟩
/-- `FIELD_ENGe_IDX.TX_RD` [31:24]. -/
def FIELD_ENG_IDX_TX_RD : Fld := ⟨0x4011010C, 0x40, 0x0, 31, 24, .ro, .const 0, []⟩
/-- `FIELD_ENGe_IDX.TX_WR` [23:16]. -/
def FIELD_ENG_IDX_TX_WR : Fld := ⟨0x4011010C, 0x40, 0x0, 23, 16, .rw, .const 0, []⟩
/-- `FIELD_ENGe_IDX.RX_RD` [15:8]. -/
def FIELD_ENG_IDX_RX_RD : Fld := ⟨0x4011010C, 0x40, 0x0, 15, 8, .rw, .const 0, []⟩
/-- `FIELD_ENGe_IDX.RX_WR` [7:0]. -/
def FIELD_ENG_IDX_RX_WR : Fld := ⟨0x4011010C, 0x40, 0x0, 7, 0, .ro, .const 0, []⟩
/-- `FIELD_ENGe_MAP.BASE` [31:12]. -/
def FIELD_ENG_MAP_BASE : Fld := ⟨0x40110110, 0x40, 0x0, 31, 12, .rw, .const 0, []⟩
/-- `FIELD_ENGe_MAP.COUNT` [8:0]. -/
def FIELD_ENG_MAP_COUNT : Fld := ⟨0x40110110, 0x40, 0x0, 8, 0, .rw, .const 0, [(0, 256)]⟩
/-- `FIELD_ENGe_STAT.FRAME_ERR` [31:24]. -/
def FIELD_ENG_STAT_FRAME_ERR : Fld := ⟨0x40110114, 0x40, 0x0, 31, 24, .rc, .const 0, []⟩
/-- `FIELD_ENGe_STAT.TIMEOUT` [23:16]. -/
def FIELD_ENG_STAT_TIMEOUT : Fld := ⟨0x40110114, 0x40, 0x0, 23, 16, .rc, .const 0, []⟩
/-- `FIELD_ENGe_STAT.EXCEPT` [15:8]. -/
def FIELD_ENG_STAT_EXCEPT : Fld := ⟨0x40110114, 0x40, 0x0, 15, 8, .rc, .const 0, []⟩
/-- `FIELD_ENGe_STAT.TOKEN` [3:3]. -/
def FIELD_ENG_STAT_TOKEN : Fld := ⟨0x40110114, 0x40, 0x0, 3, 3, .ro, .const 0, []⟩
/-- `FIELD_ENGe_STAT.RXOVF` [2:2]. -/
def FIELD_ENG_STAT_RXOVF : Fld := ⟨0x40110114, 0x40, 0x0, 2, 2, .w1c, .const 0, []⟩
/-- `FIELD_I2Cm_CTL.SPEED` [31:30]. -/
def FIELD_I2C_CTL_SPEED : Fld := ⟨0x40110800, 0x10, 0x0, 31, 30, .rw, .const 0, [(0, 2)]⟩
/-- `FIELD_I2Cm_CTL.ADDR` [22:16]. -/
def FIELD_I2C_CTL_ADDR : Fld := ⟨0x40110800, 0x10, 0x0, 22, 16, .rw, .const 0, []⟩
/-- `FIELD_I2Cm_CTL.RLEN` [15:8]. -/
def FIELD_I2C_CTL_RLEN : Fld := ⟨0x40110800, 0x10, 0x0, 15, 8, .rw, .const 0, []⟩
/-- `FIELD_I2Cm_CTL.WLEN` [7:0]. -/
def FIELD_I2C_CTL_WLEN : Fld := ⟨0x40110800, 0x10, 0x0, 7, 0, .rw, .const 0, []⟩
/-- `FIELD_SPIm_CTL.DIV` [31:24]. -/
def FIELD_SPI_CTL_DIV : Fld := ⟨0x40110900, 0x10, 0x0, 31, 24, .rw, .const 0, []⟩
/-- `FIELD_SPIm_CTL.MODE` [23:22]. -/
def FIELD_SPI_CTL_MODE : Fld := ⟨0x40110900, 0x10, 0x0, 23, 22, .rw, .const 0, []⟩
/-- `FIELD_SPIm_CTL.CS` [21:20]. -/
def FIELD_SPI_CTL_CS : Fld := ⟨0x40110900, 0x10, 0x0, 21, 20, .rw, .const 0, []⟩
/-- `FIELD_SPIm_CTL.LEN` [12:0]. -/
def FIELD_SPI_CTL_LEN : Fld := ⟨0x40110900, 0x10, 0x0, 12, 0, .rw, .const 1, [(1, 4096)]⟩
/-- `FIELD_I2Cm_BUF.ADDR` [31:0]. -/
def FIELD_I2C_BUF : Fld := ⟨0x40110804, 0x10, 0x0, 31, 0, .rw, .const 0, []⟩
/-- `FIELD_SPIm_TXBUF.ADDR` [31:0]. -/
def FIELD_SPI_TXBUF : Fld := ⟨0x40110904, 0x10, 0x0, 31, 0, .rw, .const 0, []⟩
/-- `FIELD_SPIm_RXBUF.ADDR` [31:0]. -/
def FIELD_SPI_RXBUF : Fld := ⟨0x40110908, 0x10, 0x0, 31, 0, .rw, .const 0, []⟩
/-- `FIELD_I2Cm_CMD.GO` [31:31]. -/
def FIELD_I2C_CMD_GO : Fld := ⟨0x40110808, 0x10, 0x0, 31, 31, .wo, .const 0, []⟩
/-- `FIELD_I2Cm_CMD.STATE` [2:0]. -/
def FIELD_I2C_CMD_STATE : Fld := ⟨0x40110808, 0x10, 0x0, 2, 0, .ro, .const 0, []⟩
/-- `FIELD_SPIm_CMD.GO` [31:31]. -/
def FIELD_SPI_CMD_GO : Fld := ⟨0x4011090C, 0x10, 0x0, 31, 31, .wo, .const 0, []⟩
/-- `FIELD_SPIm_CMD.STATE` [2:0]. -/
def FIELD_SPI_CMD_STATE : Fld := ⟨0x4011090C, 0x10, 0x0, 2, 0, .ro, .const 0, []⟩

end F

namespace R

def FIELD_ENG_CTL : Reg := ⟨0x40110100, 0x40, 12, 0x0, 1, [F.FIELD_ENG_CTL_EN, F.FIELD_ENG_CTL_MODE, F.FIELD_ENG_CTL_BAUD, F.FIELD_ENG_CTL_PARITY, F.FIELD_ENG_CTL_STOP2, F.FIELD_ENG_CTL_ADDR]⟩
def FIELD_ENG_PARAM : Reg := ⟨0x40110104, 0x40, 12, 0x0, 1, [F.FIELD_ENG_PARAM_A, F.FIELD_ENG_PARAM_B, F.FIELD_ENG_PARAM_C]⟩
def FIELD_ENG_RING : Reg := ⟨0x40110108, 0x40, 12, 0x0, 1, [F.FIELD_ENG_RING_BASE, F.FIELD_ENG_RING_TX_SIZE, F.FIELD_ENG_RING_RX_SIZE]⟩
def FIELD_ENG_IDX : Reg := ⟨0x4011010C, 0x40, 12, 0x0, 1, [F.FIELD_ENG_IDX_TX_RD, F.FIELD_ENG_IDX_TX_WR, F.FIELD_ENG_IDX_RX_RD, F.FIELD_ENG_IDX_RX_WR]⟩
def FIELD_ENG_MAP : Reg := ⟨0x40110110, 0x40, 12, 0x0, 1, [F.FIELD_ENG_MAP_BASE, F.FIELD_ENG_MAP_COUNT]⟩
def FIELD_ENG_STAT : Reg := ⟨0x40110114, 0x40, 12, 0x0, 1, [F.FIELD_ENG_STAT_FRAME_ERR, F.FIELD_ENG_STAT_TIMEOUT, F.FIELD_ENG_STAT_EXCEPT, F.FIELD_ENG_STAT_TOKEN, F.FIELD_ENG_STAT_RXOVF]⟩
def FIELD_I2C_CTL : Reg := ⟨0x40110800, 0x10, 4, 0x0, 1, [F.FIELD_I2C_CTL_SPEED, F.FIELD_I2C_CTL_ADDR, F.FIELD_I2C_CTL_RLEN, F.FIELD_I2C_CTL_WLEN]⟩
def FIELD_SPI_CTL : Reg := ⟨0x40110900, 0x10, 4, 0x0, 1, [F.FIELD_SPI_CTL_DIV, F.FIELD_SPI_CTL_MODE, F.FIELD_SPI_CTL_CS, F.FIELD_SPI_CTL_LEN]⟩
def FIELD_I2C_BUF : Reg := ⟨0x40110804, 0x10, 4, 0x0, 1, [F.FIELD_I2C_BUF]⟩
def FIELD_SPI_TXBUF : Reg := ⟨0x40110904, 0x10, 4, 0x0, 1, [F.FIELD_SPI_TXBUF]⟩
def FIELD_SPI_RXBUF : Reg := ⟨0x40110908, 0x10, 4, 0x0, 1, [F.FIELD_SPI_RXBUF]⟩
def FIELD_I2C_CMD : Reg := ⟨0x40110808, 0x10, 4, 0x0, 1, [F.FIELD_I2C_CMD_GO, F.FIELD_I2C_CMD_STATE]⟩
def FIELD_SPI_CMD : Reg := ⟨0x4011090C, 0x10, 4, 0x0, 1, [F.FIELD_SPI_CMD_GO, F.FIELD_SPI_CMD_STATE]⟩

end R

/-- The registers of block FIELD (R28). -/
def regsField : List Reg := [
  R.FIELD_ENG_CTL, R.FIELD_ENG_PARAM, R.FIELD_ENG_RING, R.FIELD_ENG_IDX, R.FIELD_ENG_MAP, R.FIELD_ENG_STAT,
  R.FIELD_I2C_CTL, R.FIELD_SPI_CTL, R.FIELD_I2C_BUF, R.FIELD_SPI_TXBUF, R.FIELD_SPI_RXBUF, R.FIELD_I2C_CMD,
  R.FIELD_SPI_CMD]

/-! ### GPIO at 0x40120000 -/

namespace F

/-- `GPIO_DIR.MAP` [31:0]. -/
def GPIO_DIR : Fld := ⟨0x40120000, 0x0, 0x0, 31, 0, .rw, .const 0, []⟩
/-- `GPIO_OD.MAP` [31:0]. -/
def GPIO_OD : Fld := ⟨0x40120004, 0x0, 0x0, 31, 0, .rw, .const 0, []⟩
/-- `GPIO_OUT.MAP` [31:0]. -/
def GPIO_OUT : Fld := ⟨0x40120008, 0x0, 0x0, 31, 0, .rw, .const 0, []⟩
/-- `GPIO_IN.MAP` [31:0]. -/
def GPIO_IN : Fld := ⟨0x4012000C, 0x0, 0x0, 31, 0, .ro, .const 0, []⟩
/-- `GPIO_SNAP.MAP` [31:0]. -/
def GPIO_SNAP : Fld := ⟨0x40120010, 0x0, 0x0, 31, 0, .ro, .const 0, []⟩
/-- `GPIO_CTL.APPLY` [0:0]. -/
def GPIO_CTL : Fld := ⟨0x40120014, 0x0, 0x0, 0, 0, .rw, .const 0, []⟩
/-- `GPIO_PINn.EDGES` [31:16]. -/
def GPIO_PIN_EDGES : Fld := ⟨0x40120100, 0x4, 0x0, 31, 16, .ro, .const 0, []⟩
/-- `GPIO_PINn.DB` [7:0]. -/
def GPIO_PIN_DB : Fld := ⟨0x40120100, 0x4, 0x0, 7, 0, .rw, .const 0, []⟩

end F

namespace R

def GPIO_DIR : Reg := ⟨0x40120000, 0x0, 1, 0x0, 1, [F.GPIO_DIR]⟩
def GPIO_OD : Reg := ⟨0x40120004, 0x0, 1, 0x0, 1, [F.GPIO_OD]⟩
def GPIO_OUT : Reg := ⟨0x40120008, 0x0, 1, 0x0, 1, [F.GPIO_OUT]⟩
def GPIO_IN : Reg := ⟨0x4012000C, 0x0, 1, 0x0, 1, [F.GPIO_IN]⟩
def GPIO_SNAP : Reg := ⟨0x40120010, 0x0, 1, 0x0, 1, [F.GPIO_SNAP]⟩
def GPIO_CTL : Reg := ⟨0x40120014, 0x0, 1, 0x0, 1, [F.GPIO_CTL]⟩
def GPIO_PIN : Reg := ⟨0x40120100, 0x4, 32, 0x0, 1, [F.GPIO_PIN_EDGES, F.GPIO_PIN_DB]⟩

end R

/-- The registers of block GPIO (R28). -/
def regsGpio : List Reg := [
  R.GPIO_DIR, R.GPIO_OD, R.GPIO_OUT, R.GPIO_IN, R.GPIO_SNAP, R.GPIO_CTL, R.GPIO_PIN]

/-! ### DBG at 0x40130000 -/

namespace F

/-- `DBG_FRZ_CTL.RING_IN` [9:9]. -/
def DBG_FRZ_CTL_RING_IN : Fld := ⟨0x40130000, 0x0, 0x0, 9, 9, .rw, .const 0, []⟩
/-- `DBG_FRZ_CTL.RING_OUT` [8:8]. -/
def DBG_FRZ_CTL_RING_OUT : Fld := ⟨0x40130000, 0x0, 0x0, 8, 8, .rw, .const 0, []⟩
/-- `DBG_FRZ_CTL.FREEZE` [0:0]. -/
def DBG_FRZ_CTL_FREEZE : Fld := ⟨0x40130000, 0x0, 0x0, 0, 0, .w1s, .const 0, []⟩
/-- `DBG_FRZ_STAT.OFFSET` [31:16]. -/
def DBG_FRZ_STAT_OFFSET : Fld := ⟨0x40130004, 0x0, 0x0, 31, 16, .ro, .const 0, []⟩
/-- `DBG_FRZ_STAT.SOURCES` [3:0]. -/
def DBG_FRZ_STAT_SOURCES : Fld := ⟨0x40130004, 0x0, 0x0, 3, 0, .ro, .const 0, []⟩
/-- `DBG_FRZ_FRAME_LO.F_LO` [31:0]. -/
def DBG_FRZ_FRAME_LO : Fld := ⟨0x40130008, 0x0, 0x0, 31, 0, .ro, .const 0, []⟩
/-- `DBG_FRZ_FRAME_HI.F_HI` [15:0]. -/
def DBG_FRZ_FRAME_HI : Fld := ⟨0x4013000C, 0x0, 0x0, 15, 0, .ro, .const 0, []⟩
/-- `DBG_LATCH_MOT.MAP` [31:0]. -/
def DBG_LATCH_MOT : Fld := ⟨0x40130010, 0x0, 0x0, 31, 0, .rw, .const 0, []⟩
/-- `DBG_LATCH_FAN.MAP` [31:0]. -/
def DBG_LATCH_FAN : Fld := ⟨0x40130014, 0x0, 0x0, 31, 0, .rw, .const 0, []⟩

end F

namespace R

def DBG_FRZ_CTL : Reg := ⟨0x40130000, 0x0, 1, 0x0, 1, [F.DBG_FRZ_CTL_RING_IN, F.DBG_FRZ_CTL_RING_OUT, F.DBG_FRZ_CTL_FREEZE]⟩
def DBG_FRZ_STAT : Reg := ⟨0x40130004, 0x0, 1, 0x0, 1, [F.DBG_FRZ_STAT_OFFSET, F.DBG_FRZ_STAT_SOURCES]⟩
def DBG_FRZ_FRAME_LO : Reg := ⟨0x40130008, 0x0, 1, 0x0, 1, [F.DBG_FRZ_FRAME_LO]⟩
def DBG_FRZ_FRAME_HI : Reg := ⟨0x4013000C, 0x0, 1, 0x0, 1, [F.DBG_FRZ_FRAME_HI]⟩
def DBG_LATCH_MOT : Reg := ⟨0x40130010, 0x0, 1, 0x0, 1, [F.DBG_LATCH_MOT]⟩
def DBG_LATCH_FAN : Reg := ⟨0x40130014, 0x0, 1, 0x0, 1, [F.DBG_LATCH_FAN]⟩

end R

/-- The registers of block DBG (R28). -/
def regsDbg : List Reg := [
  R.DBG_FRZ_CTL, R.DBG_FRZ_STAT, R.DBG_FRZ_FRAME_LO, R.DBG_FRZ_FRAME_HI, R.DBG_LATCH_MOT, R.DBG_LATCH_FAN]

end Sys2Proof.Machine
end

