-- ==== Sys2Proof/Machine/Sparse.lean ====
section
/-! DEFINITION. Sparse maps: every memory, register file and table of the device is a list of (key, value) pairs. A key
that is not listed holds a value the reader names (the reset or empty value). `set` keeps the one canonical form:
keys strictly rising and no listed value equal to what an unlisted key holds. -/

namespace Sys2Proof.Machine

/-- A table by number; unlisted keys hold the reader's default. A byte memory is a `Sparse (BitVec 8)`, a list of
`Host.Cell`. -/
abbrev Sparse (α : Type) := List (Nat × α)

variable {α : Type}

/-- The value listed at `k`. -/
def Sparse.find? : Sparse α → Nat → Option α
  | [], _ => none
  | (k', v) :: m, k => if k' = k then some v else Sparse.find? m k

/-- The value at `k`, `d` when none is listed. -/
def Sparse.get (m : Sparse α) (d : α) (k : Nat) : α := (Sparse.find? m k).getD d

/-- List `v` at `k`, keeping the keys rising. -/
def Sparse.put : Sparse α → Nat → α → Sparse α
  | [], k, v => [(k, v)]
  | (k', v') :: m, k, v =>
    if k < k' then (k, v) :: (k', v') :: m
    else if k = k' then (k, v) :: m
    else (k', v') :: Sparse.put m k v

/-- List nothing at `k`. -/
def Sparse.del : Sparse α → Nat → Sparse α
  | [], _ => []
  | (k', v') :: m, k => if k' = k then Sparse.del m k else (k', v') :: Sparse.del m k

/-- Make `k` hold `v` where an unlisted key holds `d`. -/
def Sparse.set [DecidableEq α] (m : Sparse α) (d : α) (k : Nat) (v : α) : Sparse α :=
  if v = d then Sparse.del m k else Sparse.put m k v

/-- The keys listed. -/
def Sparse.keys (m : Sparse α) : List Nat := m.map (·.1)

/-- Keys strictly rising, starting at `lo`. -/
def Sparse.risingFrom : Nat → Sparse α → Bool
  | _, [] => true
  | lo, (k, _) :: m => decide (lo ≤ k) && Sparse.risingFrom (k + 1) m

/-- The canonical form: keys strictly rising, no listed value equal to the default `d`. -/
def Sparse.wf [DecidableEq α] (d : α) (m : Sparse α) : Bool :=
  Sparse.risingFrom 0 m && m.all fun c => decide (c.2 ≠ d)

/-- Put a key into a rising list that may hold it already. -/
def insertKey (k : Nat) : List Nat → List Nat
  | [] => [k]
  | x :: xs => if k < x then k :: x :: xs else if k = x then x :: xs else x :: insertKey k xs

/-- The union of a rising key list and another, rising and without repeats. -/
def mergeKeys (xs ys : List Nat) : List Nat := ys.foldl (fun l y => insertKey y l) xs

end Sys2Proof.Machine
end

