-- ==== Sys2Proof/Machine/State.lean ====
section
/-! DEFINITION. The state of the device: every register field (`State.rf`), and the state the chapters give the blocks
beside their registers, one structure per chapter. Plain data; the state after reset; how an instruction can stop. -/

namespace Sys2Proof.Machine

/-! ### Span and joint (01_architecture.md, 02_span_timing.md) -/

/-- A point value of the command set (R43): the seen record of a point bound to a drive channel, its format and class. -/
structure CmdVal where
  pt : Nat
  value : Word
  qual : Quality
  fmt : Nat
  deriving DecidableEq, Repr

/-- A span as the bearing die counts it (R54, R55): the CK_CONV cycle from reset at which it starts, its frame number and its
length code. -/
structure BearSpan where
  start : Nat
  frame : Nat
  sel : Nat
  deriving DecidableEq, Repr

structure SpanSt where
  /-- the 48-bit number of the span in progress (R41) -/
  frame : Nat := 0
  /-- CK_DECK cycles since the last tick (SPAN_PHASE) -/
  phase : Nat := 0
  /-- CK_DECK cycles from reset to the last tick, and ps by which that tick lies later -/
  tickCyc : Nat := 0
  frac : Nat := 0
  /-- ps that a follower adds to every span, and to the span in progress only: the rate and the phase by which markers
  corrected its counter (R42, R389) -/
  rate : Int := 0
  extra : Int := 0
  /-- the command set on its way to the bearing die, and the one in force there (R43, R57) -/
  sent : Option (List CmdVal) := none
  inForce : List CmdVal := []
  /-- the length of the span, in CK_DECK cycles, that the tick marker in the joint carries: before its tick, and once the
  tick has come; and the one by which the bearing die predicts its next tick (R54, R56, R389) -/
  marker : Option Nat := none
  due : Option Nat := none
  bearLen : Nat := 0
  /-- the bearing die's last spans, newest first -/
  bear : List BearSpan := []
  /-- consecutive predicted ticks without a marker (R57) -/
  misses : Nat := 0
  /-- span code in force at the last apply instant, from which the drive channels count their PWM periods (R263, R285) -/
  applySel : Option Nat := none
  /-- frame F of the span change that is armed, and its new SEL (R58) -/
  armed : Option (Nat × Nat) := none
  deriving DecidableEq, Repr

/-- A write to a bearing-die register that has left the fabric and has not taken effect (R13): initiator code, address,
data. -/
structure Posted where
  initiator : Nat
  addr : Nat
  data : Word
  deriving DecidableEq, Repr

/-- What an initiator's interface holds of its last completed access (R4, R89): address, the bytes a read brought, and whether
it was refused. -/
structure ReadResp where
  addr : Nat
  data : List Byte
  refused : Bool
  deriving DecidableEq, Repr

/-- A deck access of an initiator other than a pier: the request, and what its ECC finds when it is served. -/
structure BusAccess where
  initiator : Initiator
  req : DeckReq
  ecc : Ecc
  deriving DecidableEq, Repr

/-! ### Points (03_point_deck.md) -/

/-- A point write the point engine has accepted and holds: after write-close (R45), or a hardware result that completed
at input-close or later (R46). -/
structure HeldWrite where
  pt : Nat
  r : PtRec
  deriving DecidableEq, Repr

/-- A block read from its START to its completion (R92, R93): the points, the buffer's address, and the frame of the tick
that is copied once that tick has come. -/
structure BlkJob where
  first : Nat
  count : Nat
  base : Nat
  tick : Option Nat := none
  deriving DecidableEq, Repr

/-- The record tables and the force plane of the point engine. `own` is what each record shows beneath a force (R65,
R88); `seen` is the seen plane; `next` the records written in the span in progress (the written marks of R80). -/
structure PointSt where
  seen : Sparse PtRec := []
  own : Sparse PtRec := []
  next : Sparse PtRec := []
  desc : Sparse Desc := []
  /-- descriptors staged through DECK_DESC for the next tick (R74) -/
  staged : Sparse Desc := []
  /-- descriptors staged by a bank swap at input-close (R119), which always take effect -/
  swapStaged : Sparse Desc := []
  forces : Sparse ForceVal := []
  forceCmds : List ForceCmd := []
  /-- writes held past write-close (R45), oldest first -/
  heldWrites : List HeldWrite := []
  /-- hardware results that belong to the following span (R46), oldest first -/
  lateResults : List HeldWrite := []
  /-- task numbers whose budget ran out in the span in progress (R52) -/
  overran : List Nat := []
  /-- block reads in progress, by buffer (R92) -/
  blk : Sparse BlkJob := []
  deriving DecidableEq, Repr
/-! ### Piers (04_pier_programming_model.md) -/

/-- A task entry of an image (R108). -/
structure TaskEntry where
  taskNo : Nat
  background : Bool
  order : Nat
  entry : Nat
  budget : Nat
  wcet : Nat
  ctxBase : Nat
  deriving DecidableEq, Repr

/-- A claim entry of an image (R109): the point, its descriptor. -/
structure Claim where
  pt : Nat
  desc : Desc
  deriving DecidableEq, Repr

/-- What PIERCTL keeps of an admitted image (R107 to R114). -/
structure Image where
  src : Nat
  len : Nat
  crc : Nat
  banked : Bool
  codeLen : Nat
  dataLen : Nat
  ovlOff : Nat
  ovlLen : Nat
  tasks : List TaskEntry
  claims : List Claim
  /-- (loop, task number) pairs of the loop table -/
  loops : List (Nat × Nat)
  budgetSum : Nat
  wcetSum : Nat
  thrSafe : Bool
  deriving DecidableEq, Repr

/-- The task a core runs: a frame-partition task or a background task, by its entry. -/
structure RunTask where
  background : Bool
  order : Nat
  taskNo : Nat
  deriving DecidableEq, Repr

/-- The architectural state of a pier core beside its registers (R99), and where its schedule stands in the span. -/
structure CoreSt where
  z : Bool := false
  n : Bool := false
  c : Bool := false
  v : Bool := false
  qs : Bool := false
  fx : Bool := false
  pc : Nat := 0
  bc : Nat := 0
  task : Option RunTask := none
  /-- next-plane values, at the running task's dispatch, of the points it has written since (R52) -/
  wrote : List (Nat × Option PtRec) := []
  /-- slice remainder of the running background task, in CK_PIER cycles (R104, R105) -/
  slice : Nat := 0
  /-- the order number after the background task that ran last (round robin, R104) -/
  bpNext : Nat := 0
  /-- the frame-partition part of the span in progress is over, or has not begun (R42) -/
  fpDone : Bool := true
  /-- CK_PIER cycles of this core since the tick (CSR CYCLE) -/
  clk : Nat := 0
  /-- the clock is halved (R449) -/
  half : Bool := false
  /-- cycle of the core's clock at which a register's last result can be used (R133) -/
  ready : Sparse Nat := []
  /-- the last instruction can be the first of a pair: the registers it writes, and 64 when it writes C (R98, R135) -/
  pair : Option (List Nat) := none
  /-- stopped by an uncorrectable memory error (R122) or retired (R127) -/
  stopped : Bool := false
  /-- a background access waits for the end of the commit window (R18, R45); the instruction that makes it then, if it has not
  taken effect yet (R18) -/
  stall : Bool := false
  held : Option Instr := none
  deriving DecidableEq, Repr

/-- A background task's saved state (R105). `started = false` before its first run. -/
structure BpShadow where
  started : Bool := false
  regs : List Word := []
  pc : Nat := 0
  flags : Nat := 0
  slice : Nat := 0
  deriving DecidableEq, Repr

/-- What the loader of PIERCTL is doing (R113: one admission in the device; R127: a migration). -/
inductive Loader where
  | admitting (sched src : Nat) (banked : Bool)
  | copying (sched : Nat) (img : Image) (install : Bool)
  | migrating (sched : Nat) (fromCore toCore : Nat)
  deriving DecidableEq, Repr

/-- One schedule (R126). -/
structure Sched where
  active : Option Image := none
  staged : Option Image := none
  /-- an armed swap: its frame F (R117); the swap last armed has completed (R118) -/
  swapAt : Option Nat := none
  swapDone : Bool := false
  /-- a copied image that starts at the next tick, or at the first coherent span when it was loaded before RUN (R116) -/
  startDue : Bool := false
  early : Bool := false
  /-- a STOP accepted, effective at the next tick (R130) -/
  stopDue : Bool := false
  /-- the schedule resumes at the next tick (R122, R127) -/
  resumeDue : Bool := false
  deriving DecidableEq, Repr

/-- The piers and PIERCTL. -/
structure PierSt where
  /-- general registers by core × 64 + number; g0 is never listed (R99) -/
  gpr : Sparse Word := []
  core : Sparse CoreSt := []
  /-- instruction and data memories by core × 0x4_0000 + window offset (R23) -/
  tcm : Sparse Byte := []
  sched : Sparse Sched := []
  /-- background shadows by schedule × 4 + order -/
  shadow : Sparse BpShadow := []
  loader : Option Loader := none
  /-- LOADs that wait for the loader: (schedule, source, banked) (R113) -/
  loadQueue : List (Nat × Nat × Bool) := []
  /-- migrations that wait for the loader: (schedule, core) (R127) -/
  migrateQueue : List (Nat × Nat) := []
  /-- overlay copies in progress: (schedule, source, window offset, words) (R120) -/
  overlay : List (Nat × Nat × Nat × Nat) := []
  /-- loops that recorded event 0x234 since they entered INIT (R205), and loops whose last copy from keystone RAM could not be
  made (R204, R208) -/
  fbSeen : List Nat := []
  keepMissed : List Nat := []
  /-- cores kept as spares (R125) -/
  spares : List Nat := []
  deriving DecidableEq, Repr
/-! ### Converter (07_converter_array.md) -/

/-- An entry that converts: its sequencer and entry, whether its run was aborted (its result is discarded), its group,
whether SS serves it, whether no slice does (R244); the CK_CONV cycle from reset of its first hold. -/
structure ConvJob where
  seq : Nat
  entry : Nat
  dropped : Bool
  group : Nat
  spare : Bool
  unserved : Bool
  hold : Nat
  refnr : Bool
  calsw : Bool
  deriving DecidableEq, Repr

/-- A result formed: value, channel, flags, offset (R229). -/
structure ConvResult where
  value : Nat
  channel : Nat
  flags : Nat
  offset : Nat
  deriving DecidableEq, Repr

/-- A run in progress (R221, R231): entries started, entries delivered, next entry the ring takes, and results that wait
for an earlier entry. -/
structure SeqRun where
  started : Nat := 0
  delivered : Nat := 0
  ringNext : Nat := 0
  waiting : Sparse ConvResult := []
  deriving DecidableEq, Repr

structure ConvSt where
  /-- CK_CONV time of the last setting of CONV_REF_CTL.EN (R214) -/
  refAt : Nat := 0
  /-- runs in progress, by sequencer (R221) -/
  runs : Sparse SeqRun := []
  /-- a sequencer's own commit triggers it while its pending run waits to start (R219, R224) -/
  selfTrig : List Nat := []
  /-- CK_CONV cycle from reset in which a sequencer's last trigger reached it (R220) -/
  trigAt : Sparse Nat := []
  /-- what each slice converts -/
  jobs : Sparse ConvJob := []
  /-- by group: hold time of the last over-range conversion, and conversions since (R236) -/
  lastOvr : Sparse (Nat × Nat) := []
  /-- (sequencer, entry) that gave OVR, sequencers that dropped a trigger, that lost a record, in the span in progress -/
  ovrSeen : List (Nat × Nat) := []
  dropSeen : List Nat := []
  lossSeen : List Nat := []
  /-- a calibration slot is in progress; the coefficients it formed, once checked (R240) -/
  inSlot : Bool := false
  formed : Option (List (Word × Word)) := none
  /-- µs from reset at which the rotation in progress began, and rotations ended -/
  rotStart : Nat := 0
  rotations : Nat := 0
  /-- the group SS is to serve from the next entry boundary on, after a retirement; 0xFF none (R211, R244) -/
  ssNext : Option Nat := none
  deriving DecidableEq, Repr
/-! ### Sensors (08_sensor_inputs.md) -/

/-- What a sensor check keeps beside its registers: the ticks since its FAULT verdict; whether the last result that reached
its entry's point was faulted, for the snapshot of the span in progress and of the next one (none: it sent no result);
whether a faulted result was seen there at the last tick and at the two before (R254); HOTCFG done for this verdict. -/
structure ChkSt where
  spans : Nat := 0
  now : Option Bool := none
  late : Option Bool := none
  seen : Bool := false
  seen1 : Bool := false
  seen2 : Bool := false
  hotDone : Bool := false
  /-- the entry was differential when the check was enabled (R250) -/
  diff : Bool := false
  deriving DecidableEq, Repr

structure SensSt where
  /-- by check (R250) -/
  chk : Sparse ChkSt := []
  /-- CK_CONV time of each source's last change of level -/
  levelAt : Sparse Nat := []
  deriving DecidableEq, Repr
/-! ### Solenoids (09_solenoid_channels.md) -/

/-- What a solenoid channel keeps beside its registers. -/
structure SolCh where
  /-- an ON kept during RELEASE: the single pending request (R268) -/
  kept : Bool := false
  /-- a pick request that THROTTLE defers to the apply instant of the following tick (R279); true once that tick has come -/
  deferred : Option Bool := none
  /-- the period in progress: its number since the apply instant and the index of its next sample; its samples so far (R262) -/
  idx : Nat := 0
  pos : Nat := 0
  nowSum : Int := 0
  nowCount : Nat := 0
  /-- the low side is on, and samples since its on-edge (R262) -/
  isOn : Bool := false
  sinceOn : Nat := 0
  /-- the target and the AVG on-time of the period in progress, in codes and CK_DRV cycles; regulation ran from its start
  (R265) -/
  target : Nat := 0
  onFor : Nat := 0
  regFrom : Bool := false
  /-- the stroke ended FAULT, GRP_TIMEOUT included, or reported MOVED, since the brake was last commanded ON (R302) -/
  failed : Bool := false
  moved : Bool := false
  /-- samples since the stroke start (the index t of R273), and their largest -/
  t : Nat := 0
  peak : Int := 0
  /-- the rise of a PICK is over, so regulation runs (R265) -/
  regulating : Bool := false
  /-- AVG: on-time of the next period and the last error (R265) -/
  duty : Nat := 0
  err : Int := 0
  /-- the detector (R273): it has stopped for this stroke, the samples of the on-interval kept for the mean (newest first),
  its maximum and the index of that -/
  detDone : Bool := false
  detLast : List Int := []
  detMax : Option (Int × Nat) := none
  /-- consecutive samples at most IOFF in RELEASE (R270), and at least OC_LIM (R280) -/
  low : Nat := 0
  overs : Nat := 0
  /-- the CK_DRV cycle of the last ABORT before a commit point (R272) -/
  abortAt : Option Nat := none
  /-- last sample, and sum and number of samples of the last complete period -/
  last : Int := 0
  sum : Int := 0
  count : Nat := 0
  /-- stroke energy in 2^-64 µJ (R281) -/
  energy : Int := 0
  /-- completed buckets, newest first; the second the running one belongs to, and its sum (R274) -/
  buckets : List Nat := []
  sec : Nat := 0
  runSum : Nat := 0
  deriving DecidableEq, Repr

structure SolSt where
  /-- by channel (R258) -/
  ch : Sparse SolCh := []
  /-- requests in WAIT, oldest first (R277) -/
  queue : List Nat := []
  deriving DecidableEq, Repr
/-! ### Motors (10_motor_channels.md) -/

/-- What a motor channel keeps beside its registers. -/
structure MotCh where
  /-- a state change due at the next period start, by its code (R297) -/
  next : Option Nat := none
  /-- the move is a homing move; a stop request waits for its period start (R295, R298) -/
  homing : Bool := false
  stopReq : Bool := false
  /-- RUN_PT bit as last given -/
  target : Int := 0
  /-- direction of the last position count, and at the entry to REVERSE or STOPPING; a count against it was seen (R297) -/
  forward : Bool := true
  entryForward : Bool := true
  against : Bool := false
  /-- POS has not changed for STILL_T ms (R291) -/
  still : Bool := false
  /-- ALIGN_POS (R294) -/
  alignPos : Int := 0
  /-- integrator states of the current loop, binary32 (R289) -/
  sd : Word := 0
  sq : Word := 0
  /-- the loop drives the gates; compare values in force, and those computed for the next period; samples of the period;
  its length in CK_DRV cycles -/
  driven : Bool := false
  cmp : List Nat := []
  cmpNext : List Nat := []
  samples : List Int := []
  len : Nat := 0
  /-- CK_DRV cycles since the first period start of the unbroken run over the envelope (R300) -/
  overFor : Option Nat := none
  /-- the level of HA, HB and HC (bits 2 to 0) as last given; none before any edge and before the channel first reads them -/
  lines : Option (BitVec 3) := none
  /-- last Hall sector, the CK_DECK time it was entered, the time the sector before took (R291) -/
  sector : Option Nat := none
  sectorAt : Nat := 0
  sectorTook : Option Nat := none
  /-- the CK_DECK time of the last position count, or of enable (R303) -/
  posAt : Nat := 0
  /-- the CK_DRV cycle and the rank of the event that set the outcome (R298) -/
  outAt : Option (Nat × Nat) := none
  /-- a period start has come since (R298) -/
  outSeen : Bool := false
  /-- consecutive periods with a phase sample at or beyond OC_LIM (R301) -/
  ocRun : Nat := 0
  /-- iq as the loop last measured it, in codes (R289, R303) -/
  iqNow : Word := 0
  /-- the observer's angle at the last period start in 2^-32 turns (R291) -/
  obs : Nat := 0
  /-- CK_DRV cycles since a sensorless move entered RUN; the observer's sector; the drive has ended (R293) -/
  slTime : Nat := 0
  slSector : Option Nat := none
  slEnded : Bool := false
  /-- TQ_PT or RUN_PT was unusable at the last apply instant (R296) -/
  badTq : Bool := false
  badRun : Bool := false
  /-- POS at the last tick; iq and id summed over the span in 2^-149 codes, with their number; those of the last span -/
  posAtTick : Int := 0
  iqSum : Int := 0
  idSum : Int := 0
  sums : Nat := 0
  iqLast : Int × Nat := (0, 0)
  idLast : Int × Nat := (0, 0)
  /-- move energy in 2^-64 µJ (R306) -/
  energy : Int := 0
  deriving DecidableEq, Repr
/-! ### Fans (11_fan_channels.md) -/

/-- What a fan channel keeps beside its registers. -/
structure FanCh where
  /-- the target as last given: RPM or duty by its mode (R312) -/
  target : Nat := 0
  /-- pulse intervals since the channel began to drive, newest first, at most four (R311) -/
  intervals : List Nat := []
  /-- edges accepted in this attempt, or since TACH_LOST was entered (R315, R319) -/
  edges : Nat := 0
  /-- attempts this start may make (R315) -/
  attempts : Nat := 0
  /-- ACC of the speed loop (R317) -/
  acc : Int := 0
  /-- duty from the next period start on (R308) -/
  duty : Nat := 0
  /-- the running millisecond's samples, and the last sample (R310) -/
  msSum : Int := 0
  msCount : Nat := 0
  last : Int := 0
  /-- consecutive samples at or above OC_LIM (R310) -/
  overs : Nat := 0
  /-- the CK_DRV cycle in which an ABORT, a target of 0 or a fault last ended a start, and whether an ABORT did (R316) -/
  abortAt : Option Nat := none
  byAbort : Bool := false
  deriving DecidableEq, Repr
/-! ### Metering (12_metering.md) -/

/-- What a latch copies from its sample (R345, R347): PC and R of every quantity that is not zero, the stamp, cycles and
samples since the previous latch, and the flag words of the header. -/
structure LatchSet where
  acc : Sparse (Nat × Nat)
  frame : Nat
  offset : Nat
  cycles : Nat
  samples : Nat
  clip : Nat
  noloadSeen : Nat
  notrack : Bool
  cmd : Bool
  revP : Nat
  revQ : Nat
  deriving DecidableEq, Repr

/-- One processed metering sample of a phase: p, q, v² and i² in units of 2^-330 (R337). -/
structure PhasePower where
  p : Int
  q : Int
  vv : Nat
  ii : Nat
  deriving DecidableEq, Repr, Inhabited

/-- A voltage event in progress (R336): start stamp, half cycles so far, the extreme Urms(1/2), phases involved. -/
structure VoltEvent where
  frame : Nat
  offset : Nat
  halves : Nat
  extreme : Nat
  phases : Nat
  deriving DecidableEq, Repr

structure MeterSt where
  /-- (PC, R) of each energy quantity (R341) -/
  acc : Sparse (Nat × Nat) := []
  /-- line values of the eight channels, in units of 2^-165 V or A, newest sample first (R327) -/
  lines : List (List Int) := []
  /-- raw codes of the last samples, newest first: the fractional delay's memory (R327) -/
  codes : List (List Int) := []
  /-- what each current channel's integrator holds (R327) -/
  integ : Sparse Int := []
  /-- powers of L1 to L3, newest sample first (R337) -/
  powers : List (List PhasePower) := []
  /-- samples each phase and kind has stayed below NOLOAD_P, by phase + 3 × kind (R344) -/
  lowFor : Sparse Nat := []
  /-- the current line cycle as the reference line's period: CK_CONV cycles (R330, R335) -/
  period : Nat := 0
  /-- consecutive qualifying cycles by line, consecutive failing half cycles of the reference line (R330) -/
  goodCycles : Sparse Nat := []
  badHalves : Nat := 0
  /-- samples since the last half-cycle end, and in the half cycle before -/
  halfSamples : Nat := 0
  prevHalf : Nat := 0
  evenHalf : Bool := true
  /-- samples since the last cycle counted by nominal length, while TRACKING is 0 (R332) -/
  cycleSamples : Nat := 0
  /-- the 10- or 12-cycle window: cycles and samples so far, whether an event was in progress, channels clipped -/
  winCycles : Nat := 0
  winSamples : Nat := 0
  winFlagged : Bool := false
  winClip : Nat := 0
  /-- sums over the window: squares of the eight channels, and of the phases' powers (R335) -/
  winSq : List Nat := []
  winPow : List PhasePower := []
  /-- the 10 s frequency interval: whole cycles and their CK_CONV cycles (R335) -/
  freqCycles : Nat := 0
  freqTime : Nat := 0
  /-- channels clipped in the line cycle in progress, and in the 10 s interval -/
  cycClip : Nat := 0
  freqClip : Nat := 0
  /-- the sag, the swell and the interruption in progress (R336) -/
  sag : Option VoltEvent := none
  swell : Option VoltEvent := none
  interrupt : Option VoltEvent := none
  /-- consecutive half cycles with every active phase below INT_TH (R350) -/
  mainsHalves : Nat := 0
  /-- channels clipped in the span in progress, and in the last one (R328, R349) -/
  clipSpan : Nat := 0
  clipLast : Nat := 0
  /-- since the previous latch (R347) -/
  latCycles : Nat := 0
  latSamples : Nat := 0
  latClip : Nat := 0
  latNoload : Nat := 0
  latNotrack : Bool := false
  /-- quantities that received energy since the previous latch -/
  latFed : List Nat := []
  /-- metering samples taken since PD_METER came on: the index of the next one (R368) -/
  sampleNo : Nat := 0
  /-- a latch is due at the first sample with this input instant or a later one, in CK_CONV cycles from reset -/
  latchDue : Option Nat := none
  /-- LATCH_NOW waits for the next sample (R345) -/
  latchNow : Bool := false
  /-- a latch taken and not complete (R345) -/
  capture : Option LatchSet := none
  /-- PC of each quantity at the save mark (R353) -/
  saved : Sparse Nat := []
  /-- the entries METER_PF_SEL named at the last accepted mark, at first its reset value; no mark since RUN (R353) -/
  selInForce : List Nat := [0x0F, 0x10, 0x11, 0x12, 0x13, 0x14, 0x15, 0xFF]
  nosave : Bool := false
  /-- the last accepted save mark -/
  mark : Nat := 0
  /-- residue snapshot (R351): cause, frame, (PC, R) of each entry -/
  snap : Option (Nat × Nat × List (Nat × Nat)) := none
  /-- ms from reset at which PFW was raised -/
  pfwSince : Nat := 0
  /-- pulse outputs that give a pulse, and those in the gap after one (R343) -/
  pulsing : List Nat := []
  gaps : List Nat := []
  /-- switching slots: commanded levels, targets of armed changes, slots whose zero-cross has come (R334) -/
  zswCmd : Sparse Bool := []
  zswTarget : Sparse Bool := []
  zswTimed : List Nat := []
  /-- the _HI words as the last read of their _LO word latched them, by field key -/
  hi : Sparse Nat := []
  deriving DecidableEq, Repr
/-! ### Twin (13_twin_operation.md) -/

/-- A heartbeat (R368, R376): its frame, the number of items and the CRC-32C of that span's content, and frame R of a planned
release it announces. -/
structure Beat where
  frame : Nat
  count : Nat
  crc : Nat
  release : Option Nat
  deriving DecidableEq, Repr

structure TwinSt where
  /-- the active's items of the span in progress, and those produced after write-close (R368) -/
  outbox : List MirrorItem := []
  outboxNext : List MirrorItem := []
  /-- the heartbeat the active sent after the last item of the span in progress -/
  beat : Option Beat := none
  /-- the standby's received items of the span in progress -/
  inbox : List MirrorItem := []
  /-- frame of the last heartbeat, and whether its count and CRC matched (R369) -/
  heartbeatFrame : Option Nat := none
  mirrorComplete : Bool := false
  /-- the takeover tick, and HELD (R373) -/
  takeoverAt : Option Nat := none
  heldTakeover : Bool := false
  /-- own frame R of a planned release, armed (R376) -/
  releaseAt : Option Nat := none
  /-- contention seen; waiting for the re-check (R366) -/
  contending : Bool := false
  /-- arbitration in service: OWN_OUT is to rise at the next tick (R366) -/
  raiseDue : Bool := false
  /-- points restored from the mirror whose owner has not written since (R373) -/
  restored : List Nat := []
  /-- an alignment copy runs, or has completed; µs from reset at which it began (R380) -/
  aligning : Bool := false
  alignDone : Bool := false
  alignFrom : Nat := 0
  /-- what the alignment copy brought, applied at the tick that sets TWIN_SYNC (R380) -/
  alignItems : List MirrorItem := []
  /-- CRC of the partner's active image by schedule, as its handshake gave it (R378) -/
  partnerCrcs : List (Nat × Nat) := []
  /-- the active's armed swaps that have no matching image here: frame, schedule, CRC (R379) -/
  drops : List (Nat × Nat × Nat) := []
  /-- channels whose mirrored state was active at the last applied mirror: (kind, channel) -/
  mirroredActive : List (Nat × Nat) := []
  /-- mirrored POS at write-close less own POS is added at the tick (R369): own POS at write-close by channel -/
  posAtClose : Sparse Word := []
  /-- content bytes of the span in progress, with framing -/
  bytes : Nat := 0
  /-- the standby's received items of the next span: those after the heartbeat (R368) -/
  inboxNext : List MirrorItem := []
  /-- reset orders sent to the partner over the twin link (R468) -/
  ordersOut : Nat := 0
  deriving DecidableEq, Repr
/-! ### Trestle ring (14_trestle_ring.md) -/

structure TreSt where
  /-- updates that wait for a later span's quota (R398), oldest first -/
  waiting : List Update := []
  /-- updates launched in the span in progress, oldest first -/
  launched : List PubUpdate := []
  /-- what the ports sent in the span in progress beside those updates, oldest first (R387, R389, R391) -/
  sent : List TreOut := []
  /-- the first frame of publication: the one after RUN was entered; 2^48 from JOINING up to then (R387) -/
  runFrom : Nat := 0
  /-- (origin frame, updates launched with it so far) -/
  seqs : List (Nat × Nat) := []
  /-- (frame, updates launched against its quota) (R398) -/
  used : List (Nat × Nat) := []
  /-- updates received and not yet committed, oldest first -/
  inbox : List PubUpdate := []
  /-- (launching device, origin frame, sequence) received lately (R391) -/
  known : List (Nat × Nat × Nat) := []
  /-- first LATE label, first over-quota write of the span (R395, R398) -/
  lateRaised : Bool := false
  quotaRaised : Bool := false
  /-- what the member frames told of the other devices of the ring (R387) -/
  members : List Member := []
  /-- the lowest eligible ID seen in the election in progress, and the spans it has been the same (R387) -/
  candidate : Option Nat := none
  sameSpans : Nat := 0
  /-- spans with the tick error within ±1 ns (R387) -/
  lockedSpans : Nat := 0
  /-- consecutive spans without a master marker (R390) -/
  markerMisses : Nat := 0
  /-- announced changes: (frame A, new D), (frame, grant) (R398) -/
  dChange : Option (Nat × Nat) := none
  grantChange : Option (Nat × Nat) := none
  /-- the grants the master announces with that change, by device ID (R398) -/
  grants : List (Nat × Nat) := []
  /-- the span change the master announces: (frame F, SEL) (R61) -/
  spanChange : Option (Nat × Nat) := none
  /-- the commit delays in force before frame A, kept for updates with an earlier origin frame: (A, D before A) -/
  dBefore : Option (Nat × Nat) := none
  /-- the span's first tick marker has arrived -/
  markerSeen : Bool := false
  deriving DecidableEq, Repr
/-! ### Keystone (15_keystone_timekeeping.md) -/

/-- A captured set of shadows (R411). -/
structure Shadow where
  count : Nat
  epoch : Nat
  flags : Nat
  deriving DecidableEq, Repr

/-- A COMMIT or ADJUST that waits for its edge (R414). -/
structure KeepCmd where
  adjust : Bool
  s : Nat
  initiator : Nat
  deriving DecidableEq, Repr

structure KeepSt where
  /-- the visible 48-bit count (R410) and the epoch (R415) -/
  count : Nat := 0
  epoch : Nat := 0
  /-- trimmed ticks hidden by a freeze, while the count is frozen (R420) -/
  frozen : Bool := false
  hidden : Nat := 0
  /-- those of them that an earlier freeze hid, still due when this one began (R420, R508) -/
  hiddenOld : Nat := 0
  /-- the hidden ticks are due at the next edge (R420) -/
  catchUp : Bool := false
  /-- position in the trim window of 2^20 edges, and the trim in force, as its 10-bit field (R417) -/
  edge : Nat := 0
  trim : Nat := 0
  /-- the COMMIT or ADJUST that waits (R414), and VALIDATE waiting (R416) -/
  cmd : Option KeepCmd := none
  validate : Bool := false
  /-- LOSS was latched since the last CK_LF edge (R416) -/
  lossCycle : Bool := false
  /-- shadows by initiator code, and the initiators whose SHADOW_EXPIRED latch is set (R411, R412) -/
  shadows : Sparse Shadow := []
  expired : List Nat := []
  /-- trimmed ticks left of the wake period in progress; `none` when the timer waits for its first edge or is off -/
  wakeLeft : Option Nat := none
  wakeStart : Bool := false
  /-- KEEP_WAKE_N driven low (R419) -/
  wakePin : Bool := false
  /-- the deck die's KGET copy (R163) -/
  copyCount : Nat := 0
  copyEpoch : Nat := 0
  deriving DecidableEq, Repr
/-! ### Event recorder (16_event_recorder.md) -/

/-- A code's token bucket and its suppressed count (R431, R432); the default is a full bucket. -/
structure Bucket where
  /-- tokens taken: BURST less the tokens held -/
  missing : Nat := 0
  /-- ticks since the bucket fell below BURST, less those that returned a token -/
  refill : Nat := 0
  supp : Nat := 0
  first : Nat × Nat := (0, 0)
  last : Nat × Nat := (0, 0)
  /-- a summary dropped under HOLD or discarded by a clear is due again at the next tick (R437, R439) -/
  again : Bool := false
  deriving DecidableEq, Repr

structure EvrSt where
  /-- the queue of R429, oldest first -/
  queue : List EvtEntry := []
  /-- events raised before the recorder runs (R441), oldest first -/
  early : List EvtEntry := []
  /-- token buckets, by code (R431) -/
  buckets : Sparse Bucket := []
  /-- values in force of EVR_CODE and EVR_LIST fields written since the last tick (R430), by field key -/
  inForce : Sparse Nat := []
  /-- a pending clear sequence: the initiator code of its first write (R439) -/
  clr : Option Nat := none
  /-- event 0x003 has been raised in the span in progress (R435) -/
  lossRaised : Bool := false
  /-- cursors whose window is latched and whose word 31 has not been read since (R434) -/
  winArmed : List Nat := []
  /-- a standby's own events that no mirrored record shows yet (R442) -/
  unsent : List EvtEntry := []
  deriving DecidableEq, Repr
/-! ### Health (17_health_and_repair.md) -/

/-- An entry of the tracking table (R456): class, unit, transients counted, the time of the first in µs. -/
structure TrackEntry where
  cls : Nat
  unit : Nat
  count : Nat
  start : Nat
  deriving DecidableEq, Repr

structure HealthSt where
  /-- (class, unit) of the tests in progress, and of those waiting, oldest first (R455) -/
  running : List (Nat × Nat) := []
  queued : List (Nat × Nat) := []
  /-- a gate test abandoned because DRIVING fell, to run again (R455) -/
  again : List (Nat × Nat) := []
  /-- the tracking table (R456) -/
  track : List TrackEntry := []
  /-- units a LASTING verdict retires, with the source, on the way to their retirement (R457) -/
  due : List (Nat × Nat × Nat) := []
  /-- deck rows retired (their spare in use), and spare rows used by bank (R454, R457) -/
  retiredRows : List Nat := []
  spareUsed : Sparse Nat := []
  /-- 64-bit ECC quarters of the deck known uncorrectable, by deck address / 8: reading one is a deck address fault until it
  is written (R453) -/
  poisoned : List Nat := []
  /-- deck quarters that hold an ECC error no read has found yet, and whether it is uncorrectable (R21): the model's own
  field, log entry 194 -/
  upsets : List (Nat × Bool) := []
  /-- as `upsets`, of instruction memory words, by key / 4 as `PierSt.tcm` counts: log entry 194 -/
  codeUpsets : List (Nat × Bool) := []
  /-- consecutive reference checks within the limit (R451) -/
  refGood : Nat := 0
  /-- rotations ended (`ConvSt.rotations`) when each slice was last visited (R452) -/
  visited : Sparse Nat := []
  /-- supplies whose last crossing was of the upper limit (R451) -/
  supHigh : List Nat := []
  /-- the level was THROTTLE or above at the last tick: the actions of R449 hold -/
  throttled : Bool := false
  /-- SHUTDOWN came during the span, and dispatch goes on to the next tick (R450) -/
  runOn : Bool := false
  /-- ticks until OWN_OUT rises after HALT_HOT cleared on a standalone device; dispatch is back one tick before (R450) -/
  resumeStep : Nat := 0
  deriving DecidableEq, Repr

/-! ### Power, reset, start-up (18_power_reset_boot.md) -/

/-- Where a reset stands (R464). -/
inductive RstPhase where
  /-- reset is asserted (POR, or RST_N held low) -/
  | asserted
  /-- cleared; the build-out has not begun -/
  | cleared
  /-- the build-out or anything later -/
  | running
  deriving DecidableEq, Repr

structure PowerSt where
  rst : RstPhase := .cleared
  /-- domains switching, with the level asked for: (domain, on) -/
  switching : List (Nat × Bool) := []
  /-- flash manifests read (slot A, slot B), the slots already tried, and the REASON of a failed attempt (R472) -/
  manifests : List (List Byte) := []
  tried : List Nat := []
  /-- the joint trains once every PLL has locked (R473); CK_LF is stopped (R32) -/
  jointOk : Bool := false
  lfDead : Bool := false
  failReason : Nat := 0
  /-- frame of the PRIME step's span P (R475) -/
  primeFrame : Option Nat := none
  /-- the level of the BOOT strap pins (R471) and of the ROLE pin (R365), as last given -/
  bootPins : BitVec 2 := 0
  rolePin : Bool := false
  /-- VGD below 10.5 V: gate drivers hold their outputs low (R460) -/
  vgdLow : Bool := false
  /-- PD_DECK came back: the bound points start again at the next tick (R470) -/
  deckBack : Bool := false
  deriving DecidableEq, Repr

/-! ### Host and field interfaces (19_host_and_field_interfaces.md) -/

/-- Where an MS/TP station stands (ASHRAE 135 Clause 9, R495). -/
inductive Mstp where
  | idle | useToken | waitReply | passToken | noToken | pollMaster | answer
  deriving DecidableEq, Repr

/-- What a field engine keeps beside its registers. -/
structure EngSt where
  /-- frames put on the bus by the last step of the engine that sent any -/
  sent : List (List Byte) := []
  /-- MS/TP: state, next station, polled station, token and frame counts, retries, sole master, station that waits for a
  reply -/
  st : Mstp := .idle
  ns : Nat := 0
  ps : Nat := 0
  tokens : Nat := 0
  frames : Nat := 0
  retries : Nat := 0
  sole : Bool := false
  asker : Nat := 0
  /-- Modbus master: next entry, whether the transmit ring comes next, the transaction in progress (`some none` a queued
  request), its request without CRC, repeats made, frame each entry last ran in -/
  mbNext : Nat := 0
  mbRing : Bool := false
  mbNow : Option (Option Nat) := none
  mbReq : List Byte := []
  mbTries : Nat := 0
  mbRan : Sparse Nat := []
  /-- KNX: frames on their way, the first on the bus and not acknowledged; repeats made; value each entry last sent -/
  knxQueue : List (List Byte) := []
  knxTries : Nat := 0
  knxSent : Sparse Word := []
  deriving DecidableEq, Repr

/-- What a MAC keeps beside its registers. -/
structure MacSt where
  /-- frames put on the link by its last step that sent any -/
  sent : List (List Byte) := []
  /-- a frame of the transmit ring is being sent -/
  sending : Bool := false
  /-- µs from reset until which a received pause frame holds transmission, and the MAC's own frames that wait for its end -/
  pausedTo : Nat := 0
  held : List (List Byte) := []
  deriving DecidableEq, Repr

/-- The service endpoint, by peer (R492): address, UDP port and MAC address, last sequence number, its response and the
time it was served, in µs, and the MAC it came by. -/
structure SvcPeer where
  addr : List Byte
  port : Nat
  mac : List Byte
  seq : Nat
  response : List Byte
  atUs : Nat
  via : Nat
  deriving DecidableEq, Repr

/-- A window commit that waits for the commit window of the next tick (R487): zone × 8 + field, point, value. -/
structure W31Commit where
  field : Nat
  pt : Nat
  value : Word
  deriving DecidableEq, Repr

/-- A request of the host port or of Ethernet service access that waits for the commit window to close (R18, R179): a frame, and
whether it was cut short; a service request with its MAC, its peer and its payload. -/
inductive PortReq where
  | frame (c : HostCmd) (cut : Bool)
  | request (mac : Nat) (who : SvcPeer) (d : List Byte)
  deriving DecidableEq, Repr

structure PortSt where
  /-- field engines (R494), MACs (R488), service peers (R492) -/
  eng : Sparse EngSt := []
  mac : Sparse MacSt := []
  peers : List SvcPeer := []
  /-- bytes the I²C and SPI masters sent in their last transfer -/
  i2cOut : Sparse (List Byte) := []
  spiOut : Sparse (List Byte) := []
  /-- GPIO levels accepted at input-close, and an OUT value held for the apply instant (R501) -/
  levels : Nat := 0
  outHeld : Option Nat := none
  /-- host port: status byte and read data of the last answer (R480); LENGTH is owed to the next STATUS (R479) -/
  status : Nat := 0
  data : List Byte := []
  lengthOwed : Bool := false
  /-- requests that wait for the commit window to close, oldest first -/
  waiting : List PortReq := []
  /-- window: PAGE, last byte read, high-byte latch and held byte with their field, snapshot of the fields' bytes and
  words and of their STATUS bits by zone × 8 + field, the snapshot this tick began, commits accepted in the span in
  progress and in the last one (R482 to R487) -/
  page : Nat := 0
  w31Byte : Nat := 0
  latch : Option (Nat × Nat) := none
  held : Option (Nat × Nat) := none
  snap : Sparse Nat := []
  bad : Sparse Bool := []
  snapNext : Option (List (Nat × Nat) × List (Nat × Bool)) := none
  commits : List W31Commit := []
  due : List W31Commit := []
  deriving DecidableEq, Repr
/-! ### Freeze and readout (20_freeze_and_readout.md) -/

/-- The test access port's instructions (R506). -/
inductive TapIr where
  | extest | sample | idcode | roAddr | roData | roCtl | bypass
  deriving DecidableEq, Repr

structure DbgSt where
  /-- the sources: FREEZE pin, FRZ_X_IN, marker latched, SOFT latched (R502) -/
  pin : Bool := false
  xIn : Bool := false
  ring : Bool := false
  soft : Bool := false
  /-- the device is frozen (R504) -/
  frozen : Bool := false
  /-- the clocks are gated off (R504) -/
  gated : Bool := false
  /-- FRZ_X_OUT (R503) -/
  xOut : Bool := false
  /-- DRIVING and the role ACTIVE at the freeze instant (R505, R509), OWN_OUT then -/
  drove : Bool := false
  wasActive : Bool := false
  hadOut : Bool := false
  /-- the span in progress was abandoned; the next tick is the first after thaw (R508) -/
  thawed : Bool := false
  /-- the twin lanes train again after a thaw (R509) -/
  relink : Bool := false
  /-- keystone ticks of the last freeze (event 0xE01) -/
  ticks : Nat := 0
  /-- a freeze marker launched or forwarded on the trestle ports -/
  markerOut : Nat := 0
  /-- the instruction register, RO_ADDR, and the last RO_ADDR named nothing (R506, R507) -/
  ir : TapIr := .idcode
  roAddr : Nat := 0
  roBad : Bool := false
  /-- data register of the last capture, and its VALID bit -/
  dr : Nat := 0
  drValid : Bool := false
  /-- the boundary-scan cells as last shifted (R506) -/
  boundary : List Bool := []
  deriving DecidableEq, Repr

/-! ### The machine -/

/-- The whole state. Registers first: `rf` holds every register field by its key (`Fld.key`), an unlisted one at its
reset value. Then one structure per chapter for what the chapter gives the block beside its registers. -/
structure State where
  /-- commands that wait, first in first out -/
  pending : List Instr := []
  rf : Sparse Nat := []
  /-- deck SRAM bytes from the loop area up, by deck address; an unlisted byte reads 0 (cleared, R465) -/
  deck : Sparse Byte := []
  span : SpanSt := {}
  pts : PointSt := {}
  pier : PierSt := {}
  conv : ConvSt := {}
  sens : SensSt := {}
  sol : SolSt := {}
  mot : Sparse MotCh := []
  fan : Sparse FanCh := []
  meter : MeterSt := {}
  twin : TwinSt := {}
  tre : TreSt := {}
  keep : KeepSt := {}
  evr : EvrSt := {}
  health : HealthSt := {}
  power : PowerSt := {}
  port : PortSt := {}
  /-- posted bearing-die writes, oldest first, and completed bearing-die reads by initiator code (R13) -/
  posted : List Posted := []
  resp : Sparse ReadResp := []
  /-- deck accesses of initiators other than piers that wait for the end of the commit window, oldest first (R18, R65) -/
  busHeld : List BusAccess := []
  dbg : DbgSt := {}
  /-- how many free values have been drawn: the argument that makes the next one fresh (the model's own field) -/
  freeCtr : Nat := 0
  deriving DecidableEq, Repr

/-- The device right after power-on reset: every field at its register table's reset value, memories cleared, nothing
waiting, the build-out not begun (R464, R465). -/
def State.reset : State := {}

/-- How a command can stop the model with a fault. No command of this specification does: an access that is refused, an
illegal instruction or a lost clock has an effect the specification gives. The constructor is for an access the
specification says cannot be made at all; nothing raises it (safe). -/
inductive Fault where
  | unreachable
  deriving DecidableEq, Repr

/-- How the model can refuse a command. `notModelled`: the command has no meaning yet (safe; raised by an arm of
`exec` only). -/
inductive Refusal where
  | notModelled (mnemonic : String)
  deriving DecidableEq, Repr

/-- What a command answers. -/
abbrev Out := Host.Outcome State Fault Refusal

end Sys2Proof.Machine
end

