-- ==== Sys2Proof/Machine/Ops.lean ====
section
/-! DEFINITION. The named operations every meaning is built from: register fields, time and stamps, deck bytes, power
and clock guards. -/

namespace Sys2Proof.Machine

/-! ### Register fields -/

/-- What field `f` of instance (i, j) holds. -/
def State.rd (s : State) (f : Fld) (i : Nat := 0) (j : Nat := 0) : Nat :=
  Sparse.get s.rf (f.reset i j) (f.key i j)

/-- Make field `f` of instance (i, j) hold `v`, cut to the field's width. -/
def State.wr (s : State) (f : Fld) (v : Nat) (i : Nat := 0) (j : Nat := 0) : State :=
  { s with rf := Sparse.set s.rf (f.reset i j) (f.key i j) (v % 2 ^ f.width) }

/-- A one-bit field as a truth value. -/
def State.bit (s : State) (f : Fld) (i : Nat := 0) (j : Nat := 0) : Bool := s.rd f i j != 0

/-- Set or clear a one-bit field. -/
def State.wrB (s : State) (f : Fld) (b : Bool) (i : Nat := 0) (j : Nat := 0) : State := s.wr f b.toNat i j

/-- Add to a saturating counter. -/
def State.addSat (s : State) (f : Fld) (k : Nat) (i : Nat := 0) (j : Nat := 0) : State :=
  s.wr f (min (2 ^ f.width - 1) (s.rd f i j + k)) i j

/-- Count once in a saturating counter. -/
def State.incSat (s : State) (f : Fld) (i : Nat := 0) (j : Nat := 0) : State := s.addSat f 1 i j

/-- A `w`-bit number read as two's complement. -/
def signed (w n : Nat) : Int := if n % 2 ^ w < 2 ^ (w - 1) then (n % 2 ^ w : Nat) else (n % 2 ^ w : Nat) - 2 ^ w

/-- An integer as a `w`-bit two's complement number. -/
def unsigned (w : Nat) (z : Int) : Nat := (z % 2 ^ w).toNat

/-- A signed field's value. -/
def State.rdS (s : State) (f : Fld) (i : Nat := 0) (j : Nat := 0) : Int := signed f.width (s.rd f i j)

/-- Write a signed field. -/
def State.wrS (s : State) (f : Fld) (z : Int) (i : Nat := 0) (j : Nat := 0) : State := s.wr f (unsigned f.width z) i j

/-- The bit `k` of a bit map field. -/
def State.mapBit (s : State) (f : Fld) (k : Nat) (i : Nat := 0) (j : Nat := 0) : Bool := (s.rd f i j).testBit k

/-- Set the bit `k` of a bit map field. -/
def State.setMap (s : State) (f : Fld) (k : Nat) (i : Nat := 0) (j : Nat := 0) : State :=
  s.wr f (s.rd f i j ||| 2 ^ k) i j

/-- Clear the bit `k` of a bit map field. -/
def State.clrMap (s : State) (f : Fld) (k : Nat) (i : Nat := 0) (j : Nat := 0) : State :=
  if s.mapBit f k i j then s.wr f (s.rd f i j - 2 ^ k) i j else s

/-- A 48-bit number held in two registers, low word and high half. -/
def State.rd48 (s : State) (lo hi : Fld) (i : Nat := 0) : Nat := s.rd lo i + 2 ^ 32 * (s.rd hi i % 2 ^ 16)

/-- Write a 48-bit number into two registers. -/
def State.wr48 (s : State) (lo hi : Fld) (v : Nat) (i : Nat := 0) : State :=
  (s.wr lo (v % 2 ^ 32) i).wr hi (v / 2 ^ 32 % 2 ^ 16) i

/-- Apply `f` once for every element of a list. -/
def State.each {α : Type} (s : State) (l : List α) (f : State → α → State) : State := l.foldl f s

/-- Draw a fresh argument for a free value. -/
def State.fresh (s : State) : Nat × State := (s.freeCtr, { s with freeCtr := s.freeCtr + 1 })

/-! ### Power, reset, freeze -/

/-- The switched power domains, by their bit in SYS_PD_CTL.ON (R470). -/
inductive Dom where
  | pierA | pierB | deck | link | net | conv | meter | sol | mot | fan
  deriving DecidableEq, Repr

/-- A domain's bit number (R470). -/
def Dom.bit : Dom → Nat
  | .pierA => 0 | .pierB => 1 | .deck => 2 | .link => 3 | .net => 4
  | .conv => 5 | .meter => 6 | .sol => 7 | .mot => 8 | .fan => 9

/-- The domain is on, and its clock runs: PD_LINK and PD_NET stop with PLL_L and PLL_N (R32). A register access to a block of
PD_NET while PLL_N has no lock ends as with the domain off: log entry 204. -/
def State.domOn (s : State) (d : Dom) : Bool :=
  s.mapBit F.SYS_PD_STAT_IS_ON d.bit && (match d with
    | .link => s.bit F.SYS_PLL_STAT_PLL_L_LOCK
    | .net => s.bit F.SYS_PLL_STAT_PLL_N_LOCK
    | _ => true)

/-- Neither in reset nor with its clocks gated by a freeze (R461, R504): the device can act on a command. -/
def State.alive (s : State) : Bool := s.power.rst != .asserted && !s.dbg.gated

/-- The joint is trained (R12), so that the bearing die can be reached. -/
def State.joint (s : State) : Bool := s.bit F.SYS_JOINT_STAT_LINK_UP

/-- Run `f` when the device can act and the domains it needs are on; otherwise the command has no effect. -/
def State.act (s : State) (ds : List Dom) (f : State → State) : Out :=
  if s.alive && ds.all s.domOn then .next (f s) else .next s

/-- Run `f` when an access can reach the bearing die (R12, R13) and the domains it needs are on; otherwise it is refused and
nothing changes. -/
def State.reach (s : State) (ds : List Dom) (f : State → State) : Out :=
  s.act ds fun s => if s.joint then f s else s

/-! ### Time and stamps -/

/-- CK_DECK cycles of a span of length code `sel` (R39). -/
def deckCycles (sel : Nat) : Nat := 100000 * 2 ^ sel

/-- CK_CONV cycles of a span (R39). -/
def convCycles (sel : Nat) : Nat := 32000 * 2 ^ sel

/-- CK_PIER cycles of a span (R39). -/
def pierCycles (sel : Nat) : Nat := 150000 * 2 ^ sel

/-- Span length in µs (R39). -/
def spanUs (sel : Nat) : Nat := 250 * 2 ^ sel

/-- The length code now in force. -/
def State.sel (s : State) : Nat := s.rd F.SPAN_STAT_CUR_SEL

/-- Ticks are being generated. -/
def State.running (s : State) : Bool := s.bit F.SPAN_CTL_RUN

/-- The frame number: 0 before tick 0 (R541). -/
def State.frame (s : State) : Nat := s.span.frame

/-- The stamp offset now: floor(DECK_CYC × 65,536 / cycles per span) (R95); in a span that a correction made longer, its last
cycles keep the last offset. -/
def State.offset (s : State) : Nat := min 65535 (s.span.phase * 65536 / deckCycles s.sel)

/-- The span in progress in ps, with what is left of a CK_DECK cycle from the spans before: its length (R39) and a follower's
corrections (R389). -/
def State.spanPs (s : State) : Nat := ((deckCycles s.sel * 2500 + s.span.frac : Nat) + s.span.rate + s.span.extra).toNat

/-- CK_DECK cycles of the span in progress. -/
def State.spanCyc (s : State) : Nat := s.spanPs / 2500

/-! ### Time on the bearing die -/

/-- CK_CONV cycles from reset to now. -/
def State.convAbs (s : State) : Nat := (s.span.tickCyc + s.span.phase) * 8 / 25

/-- The bearing die's span that CK_CONV cycle `t` from reset lies in: the newest that has begun by then. -/
def State.bearAt (s : State) (t : Nat) : Option BearSpan :=
  (s.span.bear.find? fun b => decide (b.start ≤ t)).or s.span.bear.getLast?

/-- The stamp of CK_CONV cycle `t` from reset: the frame of its span, and the CK_CONV cycles since the bearing tick scaled by
65,536 over the cycles per span (R55). Before the first tick the frame is the frame number and the offset 0 (R541). -/
def State.stampAt (s : State) (t : Nat) : Nat × Nat :=
  match s.bearAt t with
  | some b => (b.frame, min 65535 ((t - b.start) * 65536 / convCycles b.sel))
  | none => (s.frame, 0)

/-- The stamp of now on the bearing die. -/
def State.stamp (s : State) : Nat × Nat := s.stampAt s.convAbs

/-- CK_CONV cycle from reset at which the bearing die's span in progress began. -/
def State.bearStart (s : State) : Nat := (s.span.bear.head?.map (·.start)).getD 0

/-- CK_DECK cycles after the tick at which the bearing die stands `cc` CK_CONV cycles after its own tick (R55). -/
def State.bearPhase (s : State) (cc : Nat) : Nat :=
  match s.span.bear.head? with
  | some b => ((b.start + cc) * 25 + 7) / 8 - s.span.tickCyc
  | none => (cc * 25 + 7) / 8

/-- The device's own ID (R37): 0xFFFF until it is locked. -/
def State.devId (s : State) : Nat := if s.bit F.SYS_DEVICE_ID_LOCK then s.rd F.SYS_DEVICE_ID_ID else 0xFFFF

/-- µs from reset to now. -/
def State.nowUs (s : State) : Nat := (s.span.tickCyc + s.span.phase) / 400

/-- The steps of the start-up order (SYS_START_STAT.STEP). -/
inductive Step where
  | build | boot | config | admission | role | join | prime | coherent | output | dead
  deriving DecidableEq, Repr

/-- The code of a start-up step. -/
def Step.code : Step → Nat
  | .build => 0 | .boot => 1 | .config => 2 | .admission => 3 | .role => 4
  | .join => 5 | .prime => 6 | .coherent => 7 | .output => 8 | .dead => 15

/-- The start-up order stands at step `k`. -/
def State.atStep (s : State) (k : Step) : Bool := s.rd F.SYS_START_STAT_STEP == k.code

/-- The span in progress is coherent (R475): tick P + 1 has passed. -/
def State.coherent (s : State) : Bool := s.running && (s.atStep .coherent || s.atStep .output)

/-- SPAN_STAT.WINDOW codes (SPAN registers). -/
inductive Win where
  | commit | opened | writeClosed | inputClosed
  deriving DecidableEq, Repr

/-- The code of a window. -/
def Win.code : Win → Nat
  | .commit => 0 | .opened => 1 | .writeClosed => 2 | .inputClosed => 3

/-- The span stands in window `w`. -/
def State.inWin (s : State) (w : Win) : Bool := s.rd F.SPAN_STAT_WINDOW == w.code

/-- At write-close or later in the span (R45); never before RUN (R541). -/
def State.writeClosed (s : State) : Bool := s.running && (s.inWin .writeClosed || s.inWin .inputClosed)

/-- At input-close or later in the span (R46); never before RUN (R541). -/
def State.inputClosed (s : State) : Bool := s.running && s.inWin .inputClosed

/-! ### Deck SRAM bytes (loop area and above) -/

/-- The bytes of the deck above the point regions start here (R27). -/
def deckRamBase : Nat := 0x00800000

/-- The last deck address plus one (R22). -/
def deckEnd : Nat := 0x02000000

/-- A byte of deck SRAM above the point regions. -/
def State.dByte (s : State) (a : Nat) : Byte := Sparse.get s.deck 0 a

/-- Write a byte of deck SRAM above the point regions. -/
def State.setDByte (s : State) (a : Nat) (b : Byte) : State := { s with deck := Sparse.set s.deck 0 a b }

/-- `n` bytes from `a` as a little-endian number (R3). -/
def leBytes (f : Nat → Byte) (a : Nat) : Nat → Nat
  | 0 => 0
  | n + 1 => (f a).toNat + 256 * leBytes f (a + 1) n

/-- `n` bytes of a number, lowest first (R3). -/
def toBytes (v : Nat) : Nat → List Byte
  | 0 => []
  | n + 1 => BitVec.ofNat 8 v :: toBytes (v / 256) n

/-- A deck SRAM word above the point regions. -/
def State.dWord (s : State) (a : Nat) : Nat := leBytes s.dByte a 4

/-- Write bytes of deck SRAM above the point regions from address `a`. -/
def State.setDBytes (s : State) (a : Nat) : List Byte → State
  | [] => s
  | b :: bs => (s.setDByte a b).setDBytes (a + 1) bs

/-- Write a deck SRAM word above the point regions. -/
def State.setDWord (s : State) (a v : Nat) : State := s.setDBytes a (toBytes v 4)

/-- `n` bytes of deck SRAM. -/
def State.dBytes (s : State) (a n : Nat) : List Byte := (List.range n).map fun k => s.dByte (a + k)

/-- A range touches the region from `lo` up to `hi`. -/
def touches (a len lo hi : Nat) : Bool := a < hi && lo < a + len

/-- The ECC errors of the quarters a write covers are gone (R453). -/
def State.eccClear (s : State) (a len : Nat) : State :=
  let keep (q : Nat) : Bool := !touches a len (8 * q) (8 * q + 8)
  { s with health := { s.health with
    poisoned := s.health.poisoned.filter keep, upsets := s.health.upsets.filter fun u => keep u.1 } }

/-- An address range lies wholly in the general-use region (R27). -/
def inGeneral (a len : Nat) : Bool := 0x01900000 ≤ a && a + len ≤ 0x02000000

/-- An address range lies wholly in the program overlay store (R27). -/
def inOverlay (a len : Nat) : Bool := 0x01100000 ≤ a && a + len ≤ 0x01900000

end Sys2Proof.Machine
end

