-- ==== Sys2Proof/Machine/View.lean ====
section
/-! DEFINITION. What reading shows, without side effects: point records and descriptors as deck words (R66, R70), register
words (R5 to R7), and the register fields that show other state. -/

namespace Sys2Proof

/-- The code of a quality (R69). -/
def Quality.code : Quality → Nat
  | .good => 0 | .init => 1 | .stale => 2 | .subst => 3
  | .forced => 4 | .fault => 5 | .late => 6 | .unbound => 7

/-- The quality of a 3-bit code (R69). -/
def Quality.ofCode : Nat → Quality
  | 0 => .good | 1 => .init | 2 => .stale | 3 => .subst
  | 4 => .forced | 5 => .fault | 6 => .late | _ => .unbound

/-- FLAGS of a record (R67). -/
def PtRec.flags (r : PtRec) : Nat :=
  r.sat.toNat + 2 * r.cal.toNat + 4 * r.held.toNat + 8 * r.restored.toNat + 16 * r.chg.toNat

/-- Byte 4 of a record: QUALITY and FLAGS (R66). -/
def PtRec.byte4 (r : PtRec) : Nat := r.qual.code + 8 * r.flags

/-- Word `w` (0 to 3) of a record of a point with descriptor `d` (R66). -/
def PtRec.word (r : PtRec) (d : Desc) : Nat → Nat
  | 0 => r.value.toNat
  | 1 => r.byte4 + 2 ^ 8 * (d.fmt + 16 * d.cls) + 2 ^ 16 * r.origin
  | 2 => r.frame % 2 ^ 32
  | _ => r.frame / 2 ^ 32 % 2 ^ 16 + 2 ^ 16 * r.offset

/-- Word `w` (0 to 7) of a descriptor (R70). -/
def Desc.word (d : Desc) : Nat → Nat
  | 0 => d.ownerId + 2 ^ 24 * d.fmt + 2 ^ 28 * d.cls
  | 1 => d.lo.toNat
  | 2 => d.hi.toNat
  | 3 => d.failValue.toNat
  | 4 => d.staleLimit + 2 ^ 16 * (d.failPol + 4 * d.pubClass + 16 * d.clamp.toNat + 32 * d.noForce.toNat)
  | 5 => d.scale.toNat
  | 6 => d.off.toNat
  | _ => 0

/-- A descriptor from its eight words (R70). -/
def Desc.ofWords (w : Nat → Nat) : Desc where
  ownerId := w 0 % 2 ^ 24
  fmt := w 0 / 2 ^ 24 % 16
  cls := w 0 / 2 ^ 28 % 16
  lo := BitVec.ofNat 32 (w 1)
  hi := BitVec.ofNat 32 (w 2)
  failValue := BitVec.ofNat 32 (w 3)
  staleLimit := w 4 % 2 ^ 16
  failPol := w 4 / 2 ^ 16 % 4
  pubClass := w 4 / 2 ^ 18 % 4
  clamp := (w 4).testBit 20
  noForce := (w 4).testBit 21
  scale := BitVec.ofNat 32 (w 5)
  off := BitVec.ofNat 32 (w 6)

/-- A descriptor holds only the encodings R70 lists. -/
def Desc.listed (d : Desc) : Bool := d.cls ≤ 7 && d.fmt ≤ 5 && d.failPol ≤ 2 && d.pubClass ≤ 2

end Sys2Proof

namespace Sys2Proof.Machine

/-! ### Point records and descriptors -/

/-- The descriptor in force of point `p`. -/
def State.desc (s : State) (p : Nat) : Desc := Sparse.get s.pts.desc {} p

/-- The seen record of point `p`. -/
def State.seen (s : State) (p : Nat) : PtRec := Sparse.get s.pts.seen {} p

/-- What the record of `p` shows beneath a force (R65). -/
def State.own (s : State) (p : Nat) : PtRec := Sparse.get s.pts.own {} p

/-- The next-plane record as TWIN, DBG and the owner see it (R65, R77). -/
def State.nextRec (s : State) (p : Nat) : PtRec := (Sparse.find? s.pts.next p).getD (s.own p)

/-- A word of the deck at an aligned address: seen plane, next plane, descriptors, or SRAM (R63). -/
def State.deckWord (s : State) (a : Nat) : Nat :=
  if a < 0x00200000 then (s.seen (a / 16)).word (s.desc (a / 16)) (a / 4 % 4)
  else if a < 0x00400000 then
    let p := (a - 0x00200000) / 16
    (s.nextRec p).word (s.desc p) (a / 4 % 4)
  else if a < 0x00800000 then (s.desc ((a - 0x00400000) / 32)).word (a / 4 % 8)
  else s.dWord a

/-- A byte of the deck. -/
def State.deckByte (s : State) (a : Nat) : Byte :=
  if a < deckRamBase then BitVec.ofNat 8 (s.deckWord (a / 4 * 4) / 2 ^ (8 * (a % 4))) else s.dByte a

/-- Points that hold a force-plane entry: forced, or with an accepted force not yet in effect (R85). -/
def State.forceHolders (s : State) : List Nat :=
  s.pts.forceCmds.foldl
    (fun l c => match c.pt, c.val with
      | some p, some _ => if l.contains p then l else l ++ [p]
      | _, _ => l)
    (Sparse.keys s.pts.forces)

/-! ### Register words -/

/-- Two fields are the same field of the register map. -/
def Fld.same (f g : Fld) : Bool := f.base == g.base && f.lo == g.lo

/-- A bit map formed from a predicate on its bit numbers. -/
def mapOf (n : Nat) (p : Nat → Bool) : Nat :=
  (List.range n).foldl (fun m k => if p k then m + 2 ^ k else m) 0

/-- Words 12 to 15 of keystone RAM show the keystone's own state (R407). -/
def State.keepWord (s : State) (w : Nat) : Nat :=
  if w = 12 then
    s.keep.epoch + 2 ^ 16 * (if s.bit F.KEEP_STAT_VALID then 0xA5 else 0)
      + 2 ^ 24 * (s.rd F.KEEP_STAT_LOSS + 2 * s.rd F.KEEP_STAT_TIME_OK + 4 * s.rd F.KEEP_STAT_OSC_STOP
          + 8 * s.rd F.KEEP_WAKE_EN)
  else if w = 13 then s.rd F.KEEP_TRIM + 2 ^ 16 * s.rd F.KEEP_WAKE_M
  else if w = 14 then s.rd F.KEEP_WAKE_E + 2 ^ 16 * s.rd F.KEEP_BAT
  else if w = 15 then 0
  else s.rd F.KEEP_RAM w

/-- PC and R of a quantity (R341). -/
def State.accOf (s : State) (q : Nat) : Nat × Nat := Sparse.get s.meter.acc (0, 0) q

/-- Fields of the deck-die blocks that show state kept elsewhere. -/
def State.viewDeck (s : State) (f : Fld) (i : Nat) : Option Nat :=
  if f.same F.SPAN_PHASE then some s.span.phase
  else if f.same F.SPAN_FRAME_LO then some s.span.frame
  else if f.same F.SYS_PWR_STAT_PFW then some (s.rd F.METER_PF_STAT_PFW)
  else if f.same F.DECK_STAT then some s.forceHolders.length
  else if f.same F.DECK_DESC_STAT_PENDING then
    some (Sparse.find? s.pts.staged (s.rd F.DECK_DESC_PT)).isSome.toNat
  else if f.same F.EVR_STAT_FULL then
    some (decide ((s.rd F.EVR_HEAD + 2 ^ 32 - s.rd F.EVR_TAIL) % 2 ^ 32 = 32768)).toNat
  else if f.same F.EVR_CUR_STAT_AVAIL then
    some (min 0xFFFF ((s.rd F.EVR_HEAD + 2 ^ 32 - s.rd F.EVR_CUR_POS i) % 2 ^ 32))
  else none

/-- The METER fields a read of an _LO word latches. -/
def latchedFlds : List Fld :=
  [F.METER_ACC_PC_HI, F.METER_ACC_RES_HI, F.METER_BANK_Q_MWH_HI, F.METER_BANK_Q_PC_HI,
   F.METER_BANK_FRAME_HI_OFFSET, F.METER_BANK_FRAME_HI_FRAME_HI]

/-- Fields of the bearing-die blocks that show state kept elsewhere. -/
def State.viewBearing (s : State) (f : Fld) (i j : Nat) : Option Nat :=
  if f.same F.SENS_FAULT_MAP then some (mapOf 32 fun k => s.bit F.SENS_CHK_STAT_VERDICT (32 * i + k))
  else if f.same F.SENS_STAT then
    some ((List.range 128).countP fun k => s.bit F.SENS_CHK_STAT_VERDICT k)
  else if f.same F.SOL_FAULT_MAP then some (mapOf 32 fun k => s.rd F.SOL_CH_STAT_STATE k == 6)
  else if f.same F.SOL_OVER_MAP then some (mapOf 32 fun k => s.bit F.SOL_CH_STAT_OVER k)
  else if f.same F.MOT_FAULT_MAP then some (mapOf 12 fun k => s.rd F.MOT_CH_STAT_STATE k == 9)
  else if f.same F.FAN_MAP_LOCKED then some (mapOf 16 fun k => s.rd F.FAN_CH_STAT_STATE k == 6)
  else if f.same F.FAN_MAP_FAULT then some (mapOf 16 fun k => s.rd F.FAN_CH_STAT_STATE k == 7)
  else if f.same F.KEEP_TK_LO then some s.keep.count
  else if f.same F.KEEP_TK_HI_COUNT_HI then some (s.keep.count / 2 ^ 32)
  else if f.same F.KEEP_TK_HI_EPOCH then some s.keep.epoch
  else if f.same F.KEEP_TK_FLG_VALID then some (s.rd F.KEEP_STAT_VALID)
  else if f.same F.KEEP_TK_FLG_LOSS then some (s.rd F.KEEP_STAT_LOSS)
  else if f.same F.KEEP_TK_FLG_TIME_OK then some (s.rd F.KEEP_STAT_TIME_OK)
  else if f.same F.KEEP_TK_FLG_OSC_STOP then some (s.rd F.KEEP_STAT_OSC_STOP)
  else if f.same F.KEEP_RAM then some (s.keepWord i)
  else if f.same F.METER_ACC_PC_LO then some (s.accOf i).1
  else if latchedFlds.any f.same then some (Sparse.get s.meter.hi 0 (f.key i j))
  else none

/-- The value field `f` of instance (i, j) shows, a read-clear field as it stands (R6). -/
def State.view (s : State) (f : Fld) (i j : Nat) : Nat :=
  let v := if f.base < 0x40040000 || (0x400A0000 ≤ f.base && f.base < 0x400C0000) || 0x400D0000 ≤ f.base
    then s.viewDeck f i else s.viewBearing f i j
  (v.getD (s.rd f i j)) % 2 ^ f.width

/-- The registers of the block that address `a` lies in (R28). -/
def blockRegs (a : Nat) : List Reg :=
  match (a - 0x40000000) / 0x10000 with
  | 0 => regsSys | 1 => regsSpan | 2 => regsDeck | 3 => regsPierctl | 4 => regsConv
  | 5 => regsSens | 6 => regsSol | 7 => regsMot | 8 => regsFan | 9 => regsMeter
  | 10 => regsTwin | 11 => regsTrestle | 12 => regsKeep | 13 => regsEvr | 14 => regsHealth
  | 15 => regsHostp | 16 => regsNet | 17 => regsField | 18 => regsGpio | _ => regsDbg

/-- The register at an aligned control-block address, with its index pair; none where the offset holds no register
(R26). -/
def findReg (a : Nat) : Option (Reg × Nat × Nat) :=
  (blockRegs a).findSome? fun r => (r.at? a).map fun ij => (r, ij)

/-- An address lies in the control blocks (R22). -/
def inControl (a : Nat) : Bool := 0x40000000 ≤ a && a < 0x40140000

/-- An address lies in a bearing-die control block (R28): CONV to METER, and KEEP. -/
def onBearing (a : Nat) : Bool :=
  (0x40040000 ≤ a && a < 0x400A0000) || (0x400C0000 ≤ a && a < 0x400D0000)

/-- The power domain of the control block at `a`; none where it is never switched (R540). -/
def blockDom (a : Nat) : Option Dom :=
  match (a - 0x40000000) / 0x10000 with
  | 2 | 3 | 10 | 11 | 13 => some .deck
  | 15 | 16 | 17 | 18 => some .net
  | 4 | 5 => some .conv
  | 6 => some .sol
  | 7 => some .mot
  | 8 => some .fan
  | 9 => some .meter
  | _ => none

/-- The word of register `r`, instance (i, j), as a read shows it and without any effect: a write-only field reads 0
(R5), reserved bits read 0 (R7). -/
def State.peekReg (s : State) (r : Reg) (i j : Nat) : Nat :=
  r.fields.foldl (fun w f => if f.acc = .wo then w else w + 2 ^ f.lo * s.view f i j) 0

/-- The register word at a control-block address, without effects (R6). -/
def State.peek (s : State) (a : Nat) : Nat :=
  match findReg a with
  | some (r, i, j) => s.peekReg r i j
  | none => 0

/-- As the readout chain shows it: write-only fields as last written (R507). -/
def State.peekAll (s : State) (a : Nat) : Nat :=
  match findReg a with
  | some (r, i, j) => r.fields.foldl (fun w f => w + 2 ^ f.lo * s.view f i j) 0
  | none => 0

end Sys2Proof.Machine
end

