-- ==== Sys2Proof/Machine/Events.lean ====
section
/-! DEFINITION. The event recorder's operations (16_event_recorder.md): raising an event, writing a record, moving TAIL,
acknowledging, clearing; and the mirror outbox every chapter fills (R368). -/

namespace Sys2Proof

/-- Bytes an item takes on the link (R368). -/
def MirrorItem.bytes : MirrorItem → Nat
  | .point .. => 20 | .loop .. => 28 | .record .. => 128 | .event .. => 128
  | .area _ len _ => len / 32 * 40 | .table l => l.length * 40
  | .sol .. => 64 | .mot .. => 64 | .fan .. => 64 | .energy .. => 2464
  | _ => 40

/-- The 32 words of a record (R425). -/
def EvtEntry.recordWords (e : EvtEntry) (seq : Nat) : List Nat :=
  [e.code + 2 ^ 12 * e.sev + 2 ^ 16 * (e.code / 256 % 16) + 2 ^ 24 * (e.index % 256),
   e.task % 2 ^ 16 + 2 ^ 16 * (e.device % 2 ^ 16),
   e.frame % 2 ^ 32,
   e.frame / 2 ^ 32 % 2 ^ 16 + 2 ^ 16 * (e.offset % 2 ^ 16),
   e.kticks % 2 ^ 32,
   e.kticks / 2 ^ 32 % 2 ^ 16 + 2 ^ 16 * (e.epoch % 2 ^ 16),
   seq % 2 ^ 32,
   e.supp + 2 ^ 16 * (e.list % 256)
     + 2 ^ 24 * (e.words.length + 32 * e.deferred.toNat + 64 * e.remote.toNat + 128 * e.summary.toNat)]
  ++ e.words.map (·.toNat) ++ List.replicate (24 - e.words.length) 0

end Sys2Proof

namespace Sys2Proof.Machine

/-! ### Piers as the snapshots see them -/

/-- The state of core `c`. -/
def State.core (s : State) (c : Nat) : CoreSt := Sparse.get s.pier.core {} c

/-- Set the state of core `c`. -/
def State.setCore (s : State) (c : Nat) (k : CoreSt) : State :=
  { s with pier := { s.pier with core := Sparse.set s.pier.core {} c k } }

/-- Register `g` of core `c`: g0 reads as 0 (R99). -/
def State.gpr (s : State) (c : Nat) (g : Nat) : Word := if g = 0 then 0 else Sparse.get s.pier.gpr 0 (c * 64 + g)

/-- Write register `g` of core `c`: g0 ignores writes (R99). The reserved bits of g56 to g63 keep what is written (R152): log
entry 166. -/
def State.setGpr (s : State) (c : Nat) (g : Nat) (v : Word) : State :=
  if g = 0 then s else { s with pier := { s.pier with gpr := Sparse.set s.pier.gpr 0 (c * 64 + g) v } }

/-- The flags of a core, laid out as in R105. -/
def CoreSt.flags (k : CoreSt) : Nat :=
  k.z.toNat + 2 * k.n.toNat + 4 * k.c.toNat + 8 * k.v.toNat + 16 * k.qs.toNat + 32 * k.fx.toNat

/-- Schedule `n`. -/
def State.sch (s : State) (n : Nat) : Sched := Sparse.get s.pier.sched {} n

/-- Set schedule `n`. -/
def State.setSch (s : State) (n : Nat) (k : Sched) : State :=
  { s with pier := { s.pier with sched := Sparse.set s.pier.sched {} n k } }

/-- The schedule a core runs (R126): the one whose PHYS names the core and that has an image; the core's own otherwise. -/
def State.schedOf (s : State) (c : Nat) : Nat :=
  ((List.range 24).find? fun n => s.rd F.PIERCTL_PIER_STAT_PHYS n == c && (s.sch n).active.isSome).getD c

/-! ### Initiators -/

/-- The code of an initiator (R538). -/
def initCode : Initiator → Nat
  | .pier n => n.val
  | .host => 0x100 | .net => 0x101 | .w31 => 0x102 | .dbg => 0x103 | .pointEngine => 0x104 | .pierctl => 0x105
  | .twin => 0x106 | .trestle => 0x107 | .netMac => 0x108 | .field => 0x109 | .evr => 0x10A | .joint => 0x10B
  | .sup => 0x10C

/-! ### Twin roles and the mirror outbox -/

/-- TWIN_STAT.ROLE codes (R364). -/
inductive Role where
  | off | arbitrate | active | standby | linkfault | halted
  deriving DecidableEq, Repr

/-- The code of a role. -/
def Role.code : Role → Nat
  | .off => 0 | .arbitrate => 1 | .active => 2 | .standby => 3 | .linkfault => 4 | .halted => 5

/-- The device's role is `r`. -/
def State.roleIs (s : State) (r : Role) : Bool := s.rd F.TWIN_STAT_ROLE == r.code

/-- The device may join a pair or a ring (R37). -/
def State.joinable (s : State) : Bool := s.bit F.SYS_DEVICE_ID_LOCK && s.devId != 0xFFFF

/-- The device is one of a pair: twin operation is enabled, and its ID lets it join (R37). -/
def State.paired (s : State) : Bool := s.bit F.TWIN_CTL_EN && s.joinable

/-- The device stands by: STANDBY of a pair, or LINKFAULT, which is as STANDBY without a mirror (R364, R369). -/
def State.standingBy (s : State) : Bool := s.paired && (s.roleIs .standby || s.roleIs .linkfault)

/-- Put an item into the mirror of the span in progress, or of the next one after write-close (R368). Only an active
device of a pair sends. -/
def State.mirror (s : State) (m : MirrorItem) : State :=
  if s.paired && s.roleIs .active then
    if s.writeClosed then { s with twin := { s.twin with outboxNext := s.twin.outboxNext ++ [m] } }
    else { s with twin := { s.twin with outbox := s.twin.outbox ++ [m], bytes := s.twin.bytes + m.bytes } }
  else s

/-! ### Words of an event (R539) -/

/-- A 48-bit item: two words. -/
def w48 (v : Nat) : List Nat := [v % 2 ^ 32, v / 2 ^ 32 % 2 ^ 16]

/-- A 64-bit item: two words. -/
def w64 (v : Nat) : List Nat := [v % 2 ^ 32, v / 2 ^ 32 % 2 ^ 32]

/-- A stamp: two words. -/
def wStamp (fo : Nat × Nat) : List Nat := [fo.1 % 2 ^ 32, fo.2 % 2 ^ 16 * 2 ^ 16 + fo.1 / 2 ^ 32 % 2 ^ 16]

/-- A signed item: one word. -/
def wInt (z : Int) : Nat := unsigned 32 z

/-! ### Snapshots (R427, R428) -/

/-- The value in force of an EVR_CODE or EVR_LIST field: writes take effect at the next tick (R430). -/
def State.evrField (s : State) (f : Fld) (i : Nat) (j : Nat := 0) : Nat :=
  (Sparse.find? s.evr.inForce (f.key i j)).getD (s.rd f i j)

/-- The word a PIER selector captures from core `c` (R427). -/
def State.pierWord (s : State) (c n : Nat) : Nat :=
  if n < 64 then (s.gpr c n).toNat
  else if n = 64 then (s.core c).pc
  else if n = 65 then (s.core c).bc
  else if n = 66 then (s.core c).flags
  else if n = 67 then ((s.core c).task.map (·.taskNo)).getD 0xFFFF
  else 0

/-- The word a snapshot selector captures; none for NONE (R427). -/
def State.snapWord (s : State) (pier : Option Nat) (sel : Nat) : Option Nat :=
  match sel / 2 ^ 29 with
  | 1 => some (s.peek (0x40000000 + sel / 4 % 2 ^ 19 * 4))
  | 2 =>
    let p := sel % 2 ^ 17
    some (if sel.testBit 20 then (s.seen p).byte4 else (s.seen p).value.toNat)
  | 3 => some (s.deckWord (sel / 4 % 2 ^ 23 * 4))
  | 4 => some (match pier with | some c => s.pierWord c (sel % 128) | none => 0)
  | _ => none

/-- The snapshot of an event: the source words (at most 8), then the list's words, 24 in all (R427). -/
def State.snapshot (s : State) (pier : Option Nat) (list : Nat) (words : List Nat) : List Word :=
  let sels := (List.range 24).map fun k => s.evrField F.EVR_LIST_SEL list k
  ((words.take 8 ++ sels.filterMap (s.snapWord pier)).take 24).map fun n => BitVec.ofNat 32 n

/-! ### Raising an event -/

/-- The bucket of a code. -/
def State.bucket (s : State) (code : Nat) : Bucket := Sparse.get s.evr.buckets {} code

/-- Set the bucket of a code. -/
def State.setBucket (s : State) (code : Nat) (b : Bucket) : State :=
  { s with evr := { s.evr with buckets := Sparse.set s.evr.buckets {} code b } }

/-- Count one suppressed event of a bucket (R431). -/
def Bucket.suppress (b : Bucket) (stamp : Nat × Nat) : Bucket :=
  { b with supp := min 0xFFFF (b.supp + 1), first := if b.supp = 0 then stamp else b.first, last := stamp }

/-- An event enters the queue, or is lost to a full one (R429); a standby sends it to the active instead (R442). -/
def State.enqueue (s : State) (e : EvtEntry) : State :=
  if s.roleIs .standby && !e.remote then
    { s with evr := { s.evr with unsent := s.evr.unsent ++ [e] }
             twin := { s.twin with outbox := s.twin.outbox ++ [.event e] } }
  else if 256 ≤ s.evr.queue.length then s.incSat F.EVR_QLOST
  else { s with evr := { s.evr with queue := s.evr.queue ++ [e] } }

/-- The block that emits events of `code` stands on the bearing die: CONV, SENS, SOL, MOT, FAN, METER or KEEP (R425). -/
def bearingCode (code : Nat) : Bool := (3 ≤ code / 256 && code / 256 ≤ 8) || code / 256 == 0xB

/-- The entry of an event that occurs now; its stamp is the bearing die's for a block there (R55, R95, R425). -/
def State.entry (s : State) (code index : Nat) (words : List Nat) (pier : Option Nat) : EvtEntry :=
  let list := s.evrField F.EVR_CODE_A_LIST code
  let st := if bearingCode code then s.stamp else (s.frame, s.offset)
  { code := code, sev := s.evrField F.EVR_CODE_A_SEV code, index := index
    task := match pier with
      | some c => ((s.core c).task.map (·.taskNo)).getD 0xFFFF
      | none => 0xFFFF
    device := s.devId, frame := st.1, offset := st.2
    kticks := s.keep.copyCount, epoch := s.keep.copyEpoch
    list := list, words := s.snapshot pier list words }

/-- The SUPPRESSED summary of a code, stamped at the tick (R432): it takes no token, and clears the count. -/
def State.summarize (s : State) (code : Nat) : State :=
  let b := s.bucket code
  if b.supp = 0 then s else
    let e := s.entry 1 0xFF ([code] ++ wStamp b.first ++ wStamp b.last) none
    let e := { e with frame := s.frame, offset := 0, supp := b.supp, summary := true }
    (s.setBucket code { b with supp := 0, first := (0, 0), last := (0, 0), again := false }).enqueue e

/-- A token that is due returns to a code's bucket (R431), and the code's summary is written (R432). -/
def State.tokenReturn (s : State) (c : Nat) : State :=
  let b := s.bucket c
  let p := s.evrField F.EVR_CODE_B_P c
  if b.missing = 0 ∨ b.refill < max 1 p then s
  else
    let s := s.setBucket c { b with missing := b.missing - 1, refill := if b.missing = 1 then 0 else b.refill - p }
    s.summarize c

/-- An entry passes its code's enable and token bucket (R430, R431), which takes a token that is due first: its summary precedes
every record of the code from the span (R432). Code 0x001 ignores both. -/
def State.admitEvent (s : State) (e : EvtEntry) : State :=
  if e.code = 1 then s.enqueue e
  else if s.evrField F.EVR_CODE_A_EN e.code = 0 then s
  else
    let s := s.tokenReturn e.code
    let b := s.bucket e.code
    if b.missing < s.evrField F.EVR_CODE_B_BURST e.code then
      (s.setBucket e.code
        { b with missing := b.missing + 1, refill := if b.missing = 0 then 0 else b.refill }).enqueue e
    else s.setBucket e.code (b.suppress (e.frame, e.offset))

/-- An event goes to its code's bucket (R430). Before the recorder runs it is held, up to 64 of them, deferred and stamped 0
(R441). -/
def State.takeEvent (s : State) (e : EvtEntry) : State :=
  if s.bit F.EVR_STAT_RUNNING then s.admitEvent e
  else if 64 ≤ s.evr.early.length then s.incSat F.EVR_QLOST
  else
    { s with evr := { s.evr with early := s.evr.early ++ [{ e with
      deferred := true, frame := 0, offset := 0
      kticks := if s.joint then e.kticks else 0, epoch := if s.joint then e.epoch else 0 }] } }

/-- Event `code` occurs (R427 to R431). -/
def State.raise (s : State) (code index : Nat) (words : List Nat) (pier : Option Nat := none) : State :=
  s.takeEvent (s.entry code index words pier)

/-- An event of this instant that a higher-ranked one of the same cycle undoes: it leaves the queue, and its token returns. -/
def State.unraise (s : State) (code index : Nat) : State :=
  let now := s.entry code index [] none
  let mine (e : EvtEntry) : Bool :=
    e.code == code && e.index == index && e.frame == now.frame && e.offset == now.offset && !e.remote
  if !s.evr.queue.any mine then s
  else
    let b := s.bucket code
    { s with evr := { s.evr with queue := s.evr.queue.filter fun e => !mine e } }.setBucket code
      { b with missing := b.missing - 1 }

/-- `raise` with no index (R425: 0xFF when none). -/
def State.event (s : State) (code : Nat) (words : List Nat) : State := s.raise code 0xFF words

/-- An event raised about an earlier instant: it carries that stamp (R509). -/
def State.eventAt (s : State) (code : Nat) (words : List Nat) (stamp : Nat × Nat) : State :=
  s.takeEvent { s.entry code 0xFF words none with frame := stamp.1, offset := stamp.2 }

/-- Entries of one CK_DECK cycle enter in ascending code order, among equal codes in ascending INDEX (R429). -/
def insertEvt (e : EvtEntry) : List EvtEntry → List EvtEntry
  | [] => [e]
  | x :: xs => if e.code < x.code ∨ (e.code = x.code ∧ e.index < x.index) then e :: x :: xs else x :: insertEvt e xs

/-- Put the entries queued since the queue was `n` long into the order of R429: they occurred in one cycle. -/
def State.sortEvents (s : State) (n : Nat) : State :=
  let q := s.evr.queue
  { s with evr := { s.evr with queue := q.take n ++ (q.drop n).foldl (fun l e => insertEvt e l) [] } }

/-- Events that `f` raises occur in one CK_DECK cycle (R429). -/
def State.inCycle (s : State) (f : State → State) : State := (f s).sortEvents s.evr.queue.length

/-! ### Records, HEAD, TAIL, cursors -/

/-- Distance from sequence number `a` up to `b`, modulo 2^32 (R423). -/
def seqDist (a b : Nat) : Nat := (b + 2 ^ 32 - a) % 2 ^ 32

/-- `a` lies below `b` (R423). -/
def seqBelow (a b : Nat) : Bool := 0 < seqDist a b && seqDist a b < 2 ^ 31

/-- The deck address of the record of sequence number `n` (R423). -/
def recordAddr (n : Nat) : Nat := 0x00B00000 + n % 32768 * 128

/-- TAIL moves to `t`: POS and ACK of every cursor below it are raised to it, and what POS skipped is counted; the first
loss of a span records event 0x003 (R435). -/
def State.moveTail (s : State) (t : Nat) : State :=
  (s.wr F.EVR_TAIL t).each [0, 1, 2, 3] fun s n =>
    let s := if seqBelow (s.rd F.EVR_CUR_ACK n) t then s.wr F.EVR_CUR_ACK t n else s
    let pos := s.rd F.EVR_CUR_POS n
    if seqBelow pos t then
      let k := seqDist pos t
      let s := (s.wr F.EVR_CUR_POS t n).addSat F.EVR_CUR_LOSS k n
      if s.evr.lossRaised then s
      else { s with evr := { s.evr with lossRaised := true } }.raise 0x003 n [n, k]
    else s

/-- TAIL is the lowest ACK among enabled cursors that may acknowledge; with none it stays (R436). -/
def State.tailFromAcks (s : State) : State :=
  let tail := s.rd F.EVR_TAIL
  let cs := [0, 1, 2].filter fun n => s.bit F.EVR_CUR_CFG_EN n && (n != 2 || s.bit F.EVR_CTL_PIER_ACK)
  match (cs.map fun n => seqDist tail (s.rd F.EVR_CUR_ACK n)).min? with
  | none => s
  | some d => if d = 0 then s else s.moveTail ((tail + d) % 2 ^ 32)

/-- A summary record that is not kept returns its count and stamps to its code, to be written again at the next tick
(R437, R439). Its source words name the code and the stamps (R432). -/
def State.returnSummary (s : State) (e : EvtEntry) : State :=
  if !e.summary then s else
    let w (k : Nat) : Nat := (e.words.getD k 0).toNat
    let stamp (k : Nat) : Nat × Nat := (w k + 2 ^ 32 * (w (k + 1) % 2 ^ 16), w (k + 1) / 2 ^ 16)
    let code := w 0
    let b := s.bucket code
    let (f, l) := (stamp 1, stamp 3)
    let before (a b : Nat × Nat) : Bool := a.1 < b.1 || (a.1 == b.1 && a.2 ≤ b.2)
    s.setBucket code
      { b with supp := min 0xFFFF (b.supp + e.supp)
               first := if b.supp = 0 || before f b.first then f else b.first
               last := if b.supp = 0 || before b.last l then l else b.last
               again := true }

/-- PEND of the enabled cursors the record's severity reaches (R440). -/
def State.pendCursors (s : State) (sev : Nat) : State :=
  s.each [0, 1, 2, 3] fun s n =>
    if s.bit F.EVR_CUR_CFG_EN n && s.bit F.EVR_CUR_CFG_IRQ_EN n && s.rd F.EVR_CUR_CFG_IRQ_SEV n ≤ sev
    then s.wrB F.EVR_CUR_STAT_PEND true n else s

/-- The stream is full (R437). -/
def State.evrFull (s : State) : Bool := seqDist (s.rd F.EVR_TAIL) (s.rd F.EVR_HEAD) == 32768

/-- A record goes into the slot of its sequence number, HEAD passes it, and the cursors its severity reaches are told (R423, R429,
R440); over a full stream the oldest record goes (R437). -/
def State.storeRecord (s : State) (seq sev : Nat) (ws : List Nat) : State :=
  let s := if s.evrFull then (s.incSat F.EVR_OVERWRITTEN).moveTail ((s.rd F.EVR_TAIL + 1) % 2 ^ 32) else s
  ((s.setDBytes (recordAddr seq) (ws.flatMap fun w => toBytes w 4)).wr F.EVR_HEAD ((seq + 1) % 2 ^ 32)).pendCursors sev

/-- Write an entry as the record at HEAD (R423, R425), after the full policy (R437). -/
def State.writeRecord (s : State) (e : EvtEntry) : State :=
  if s.evrFull && s.bit F.EVR_CTL_POLICY && !s.roleIs .standby then (s.incSat F.EVR_DROPPED).returnSummary e
  else
    let h := s.rd F.EVR_HEAD
    let ws := e.recordWords h
    let s := s.storeRecord h e.sev ws
    if s.paired && s.roleIs .active then
      (s.mirror (.record h (ws.map fun w => BitVec.ofNat 32 w))).wr F.EVR_CUR_POS ((h + 1) % 2 ^ 32) 3
    else s

/-- The recorder writes the event at the front of its queue (R429). -/
def State.recordNext (s : State) : State :=
  match s.evr.queue with
  | [] => s
  | e :: q => { s with evr := { s.evr with queue := q } }.writeRecord e

/-- The code whose EVR_CODEc_B.BURST field has the key `k`. -/
def burstCode (k : Nat) : Option Nat :=
  let a := F.EVR_CODE_B_BURST.key 0 0
  if a ≤ k ∧ (k - a) % 256 = 0 ∧ (k - a) / 256 < 0x1000 then some ((k - a) / 256) else none

/-- What the recorder does at a tick: writes to codes and lists take effect and token counts are cut to a new BURST
(R430), refill counts advance (R431), summaries dropped under HOLD are written again (R437), and a new span may record
its first cursor loss (R435). -/
def State.evrTick (s : State) : State :=
  let old (c : Nat) : Nat := s.evrField F.EVR_CODE_B_BURST c
  let cs := mergeKeys (Sparse.keys s.evr.buckets) (s.evr.inForce.filterMap fun kv => burstCode kv.1)
  let upd (c : Nat) : Bucket :=
    let b := s.bucket c
    let new := s.rd F.EVR_CODE_B_BURST c
    let missing := new - min (old c - b.missing) new
    { b with missing := missing, refill := if missing = 0 ∨ b.missing = 0 then 0 else b.refill + 1 }
  let bs := cs.foldl (fun m c => Sparse.set m {} c (upd c)) s.evr.buckets
  let s := { s with evr := { s.evr with buckets := bs, inForce := [], lossRaised := false } }
  s.each (cs.filter fun c => (s.bucket c).again) fun s c => s.summarize c

end Sys2Proof.Machine
end

