-- ==== Sys2Proof/Machine/Float.lean ====
section
/-! DEFINITION. IEEE 754 binary32 arithmetic as R146 to R148 have it: exact on significands and exponents, one rounding to
nearest even, the one quiet NaN 0x7FC0_0000. Each operation answers its result and whether it sets FX. -/

namespace Sys2Proof.Machine

/-- A binary32 operand taken apart: `num neg m e` is (−1)^neg × m × 2^e. -/
inductive F32 where
  | nan (signalling : Bool)
  | inf (neg : Bool)
  | num (neg : Bool) (m : Nat) (e : Int)
  deriving DecidableEq, Repr

/-- Take a word apart. -/
def F32.dec (w : Word) : F32 :=
  let n := w.toNat
  let neg := n.testBit 31
  let ex : Nat := n / 2 ^ 23 % 2 ^ 8
  let f := n % 2 ^ 23
  if ex = 255 then (if f = 0 then .inf neg else .nan (!f.testBit 22))
  else if ex = 0 then .num neg f (-149)
  else .num neg (f + 2 ^ 23) ((ex : Int) - 150)

/-- The quiet NaN of every NaN result (R146). -/
def fNaN : Word := 0x7FC00000

/-- A signed infinity. -/
def fInf (neg : Bool) : Word := if neg then 0xFF800000 else 0x7F800000

/-- A signed zero. -/
def fZero (neg : Bool) : Word := if neg then 0x80000000 else 0

/-- Shift a natural number left by an integer amount; a negative amount shifts right and drops bits. -/
def shiftZ (m : Nat) (k : Int) : Nat := if 0 ≤ k then m * 2 ^ k.toNat else m / 2 ^ (-k).toNat

/-- Round (−1)^neg × (m + a fraction that is not 0 when `sticky`) × 2^e to nearest even. The second answer is whether
the result overflowed. A sticky `m` must have at least 26 bits. -/
def roundF (neg : Bool) (m : Nat) (e : Int) (sticky : Bool := false) : Word × Bool :=
  if m = 0 then (fZero neg, false) else
    let lsb : Int := max (e + m.log2 - 23) (-149)
    let sh := lsb - e
    let q := shiftZ m (-sh)
    let up : Bool :=
      if sh ≤ 0 then false else
        let r := m % 2 ^ sh.toNat
        let half := 2 ^ (sh.toNat - 1)
        decide (half < r) || (decide (r = half) && (sticky || q % 2 = 1))
    let q := if up then q + 1 else q
    let (q, lsb) := if q = 2 ^ 24 then (2 ^ 23, lsb + 1) else (q, lsb)
    let top : Nat := if neg then 2 ^ 31 else 0
    if q < 2 ^ 23 then (BitVec.ofNat 32 (top + q), false)
    else if 255 ≤ lsb + 150 then (fInf neg, true)
    else (BitVec.ofNat 32 (top + (lsb + 150).toNat * 2 ^ 23 + (q - 2 ^ 23)), false)

/-- The sum of two exact numbers as sign, significand and exponent; an exact zero is +0 unless both are −0. -/
def sumExact (n1 : Bool) (m1 : Nat) (e1 : Int) (n2 : Bool) (m2 : Nat) (e2 : Int) : Bool × Nat × Int :=
  let e := min e1 e2
  let z (n : Bool) (m : Nat) (x : Int) : Int := (if n then -1 else 1) * (shiftZ m (x - e) : Nat)
  let t := z n1 m1 e1 + z n2 m2 e2
  if t = 0 then (n1 && n2 , 0, e) else (decide (t < 0), t.natAbs, e)

/-- An operand is a signalling NaN. -/
def F32.isSig : F32 → Bool
  | .nan s => s
  | _ => false

/-- An operand is a NaN. -/
def F32.isNan : F32 → Bool
  | .nan _ => true
  | _ => false

/-- Product plus addend with one rounding: a × b + c (R147). -/
def fFma (a b c : Word) (negProd : Bool := false) : Word × Bool :=
  let (x, y, z) := (F32.dec a, F32.dec b, F32.dec c)
  if x.isNan || y.isNan || z.isNan then
    let inv := match x, y with
      | .inf _, .num _ 0 _ => Config.fmaNanInvalid
      | .num _ 0 _, .inf _ => Config.fmaNanInvalid
      | _, _ => false
    (fNaN, x.isSig || y.isSig || z.isSig || inv)
  else
    let prod : Option F32 := match x, y with
      | .inf _, .num _ 0 _ => none
      | .num _ 0 _, .inf _ => none
      | .inf n, .inf k => some (.inf (xor (xor n k) negProd))
      | .inf n, .num k _ _ => some (.inf (xor (xor n k) negProd))
      | .num n _ _, .inf k => some (.inf (xor (xor n k) negProd))
      | .num n m e, .num k m' e' => some (.num (xor (xor n k) negProd) (m * m') (e + e'))
      | _, _ => none
    match prod, z with
    | none, _ => (fNaN, true)
    | some (.inf n), .inf k => if n = k then (fInf n, false) else (fNaN, true)
    | some (.inf n), _ => (fInf n, false)
    | some _, .inf k => (fInf k, false)
    | some (.num n m e), .num k m' e' =>
      let (neg, t, ex) := sumExact n m e k m' e'
      roundF neg t ex
    | _, _ => (fNaN, true)

/-- a + b, or a − b when `sub` (R147). -/
def fAdd (a b : Word) (sub : Bool := false) : Word × Bool :=
  match F32.dec a, F32.dec b with
  | .nan s, .nan t => (fNaN, s || t)
  | .nan s, _ => (fNaN, s)
  | _, .nan s => (fNaN, s)
  | .inf n, .inf k => if n = xor k sub then (fInf n, false) else (fNaN, true)
  | .inf n, .num .. => (fInf n, false)
  | .num .., .inf k => (fInf (xor k sub), false)
  | .num n m e, .num k m' e' =>
    let (neg, t, ex) := sumExact n m e (xor k sub) m' e'
    roundF neg t ex

/-- a × b (R147). -/
def fMul (a b : Word) : Word × Bool :=
  match F32.dec a, F32.dec b with
  | .nan s, .nan t => (fNaN, s || t)
  | .nan s, _ => (fNaN, s)
  | _, .nan s => (fNaN, s)
  | .inf n, .inf k => (fInf (xor n k), false)
  | .inf n, .num k m _ => if m = 0 then (fNaN, true) else (fInf (xor n k), false)
  | .num n m _, .inf k => if m = 0 then (fNaN, true) else (fInf (xor n k), false)
  | .num n m e, .num k m' e' => roundF (xor n k) (m * m') (e + e')

/-- a / b (R147). -/
def fDiv (a b : Word) : Word × Bool :=
  match F32.dec a, F32.dec b with
  | .nan s, .nan t => (fNaN, s || t)
  | .nan s, _ => (fNaN, s)
  | _, .nan s => (fNaN, s)
  | .inf _, .inf _ => (fNaN, true)
  | .inf n, .num k _ _ => (fInf (xor n k), false)
  | .num n _ _, .inf k => (fZero (xor n k), false)
  | .num n m e, .num k m' e' =>
    if m' = 0 then (if m = 0 then (fNaN, true) else (fInf (xor n k), true))
    else
      let t := m * 2 ^ 64
      roundF (xor n k) (t / m') (e - e' - 64) (decide (t % m' ≠ 0))

/-- Digit-by-digit integer square root: the largest r with r² ≤ n, given that r < 2^k. -/
def isqrtBits (n : Nat) : Nat → Nat → Nat
  | 0, r => r
  | k + 1, r => isqrtBits n k (if (r + 2 ^ k) * (r + 2 ^ k) ≤ n then r + 2 ^ k else r)

/-- The integer square root. -/
def isqrt (n : Nat) : Nat := isqrtBits n (n.log2 / 2 + 1) 0

/-- sqrt(a) (R147, R148: −0 gives −0). -/
def fSqrt (a : Word) : Word × Bool :=
  match F32.dec a with
  | .nan s => (fNaN, s)
  | .inf n => if n then (fNaN, true) else (fInf false, false)
  | .num n m e =>
    if m = 0 then (fZero n, false)
    else if n then (fNaN, true)
    else
      let (m, e) := if e % 2 = 0 then (m, e) else (2 * m, e - 1)
      let t := m * 2 ^ 64
      let r := isqrt t
      roundF false r (e / 2 - 32) (decide (r * r ≠ t))

/-- The sign of a − b on numbers and infinities: negative, zero or positive. -/
def fCmp : F32 → F32 → Int
  | .inf n, .inf k => if n = k then 0 else if n then -1 else 1
  | .inf n, _ => if n then -1 else 1
  | _, .inf k => if k then 1 else -1
  | .num n m e, .num k m' e' =>
    let x := min e e'
    (if n then -1 else 1) * (shiftZ m (e - x) : Nat) - (if k then -1 else 1) * (shiftZ m' (e' - x) : Nat)
  | _, _ => 0

/-- Smaller (or larger) operand; a NaN operand propagates; −0 is smaller than +0 (R148). -/
def fMinMax (mx : Bool) (a b : Word) : Word × Bool :=
  let (x, y) := (F32.dec a, F32.dec b)
  if x.isNan || y.isNan then (fNaN, x.isSig || y.isSig)
  else
    let d := fCmp x y
    if d = 0 then
      (if mx then (if a.msb then b else a) else (if a.msb then a else b), false)
    else ((if xor (decide (d < 0)) mx then a else b), false)

/-- a = b; FX only for a signalling NaN (R148). -/
def fEq (a b : Word) : Bool × Bool :=
  let (x, y) := (F32.dec a, F32.dec b)
  if x.isNan || y.isNan then (false, x.isSig || y.isSig) else (decide (fCmp x y = 0), false)

/-- a < b, or a ≤ b; FX for any NaN (R148). -/
def fLess (orEq : Bool) (a b : Word) : Bool × Bool :=
  let (x, y) := (F32.dec a, F32.dec b)
  if x.isNan || y.isNan then (false, true)
  else (decide (fCmp x y < 0) || (orEq && decide (fCmp x y = 0)), false)

/-- The binary32 number nearest to the integer `z` × 2^e. -/
def fOfInt (z : Int) (e : Int := 0) : Word := (roundF (decide (z < 0)) z.natAbs e).1

/-- Round an exact number to an integer: towards zero. -/
def truncNum (neg : Bool) (m : Nat) (e : Int) : Int := (if neg then -1 else 1) * (shiftZ m e : Nat)

/-- Round an exact number to the nearest integer, ties to even. -/
def nearNum (neg : Bool) (m : Nat) (e : Int) : Int :=
  let q := shiftZ m e
  let up : Bool := if 0 ≤ e then false else
    let k := (-e).toNat
    let r := m % 2 ^ k
    decide (2 ^ (k - 1) < r) || (decide (r = 2 ^ (k - 1)) && q % 2 = 1)
  (if neg then -1 else 1) * (if up then q + 1 else q : Nat)

/-- a as an integer from `lo` to `hi`, rounded towards zero; out of range saturates, a NaN gives 0, both with FX (R148). -/
def fToInt (lo hi : Int) (a : Word) : Int × Bool :=
  match F32.dec a with
  | .nan _ => (0, true)
  | .inf n => (if n then lo else hi, true)
  | .num n m e =>
    let t := truncNum n m e
    if t < lo then (lo, true) else if hi < t then (hi, true) else (t, false)

/-- a × 2^31 as Q31, rounded to nearest even: the value, QS, FX (R148). -/
def fToQ (a : Word) : Int × Bool × Bool :=
  match F32.dec a with
  | .nan _ => (0, false, true)
  | .inf n => (if n then -2 ^ 31 else 2 ^ 31 - 1, true, false)
  | .num n m e =>
    let t := nearNum n m (e + 31)
    if t < -2 ^ 31 then (-2 ^ 31, true, false)
    else if 2 ^ 31 - 1 < t then (2 ^ 31 - 1, true, false)
    else (t, false, false)

/-- a is a NaN. -/
def fIsNaN (a : Word) : Bool := (F32.dec a).isNan

/-- a < b on words that are not NaN. -/
def fLt (a b : Word) : Bool := (fLess false a b).1

/-- The nearest integer to a word that is a number, ties to even; 0 for a NaN, far out for an infinity. -/
def fRound (a : Word) : Int :=
  match F32.dec a with
  | .nan _ => 0
  | .inf n => if n then -2 ^ 200 else 2 ^ 200
  | .num n m e => nearNum n m e

end Sys2Proof.Machine
end

