-- ==== Sys2Proof/Machine/Points.lean ====
section
/-! DEFINITION. The point engine (03_point_deck.md): accepting writes and results, publishing and mirroring them, forces,
descriptors, and the flip at the tick. -/

namespace Sys2Proof

open Machine

/-- Clamp a value that the engine stores in a record (R79): the value, and SAT. -/
def Desc.clampVal (d : Desc) (v : Word) : Word × Bool :=
  if d.clamp && d.fmt == 0 then
    if fIsNaN v then (d.lo, true)
    else if fLt v d.lo then (d.lo, true)
    else if fLt d.hi v then (d.hi, true)
    else (v, false)
  else (v, false)

/-- The value of a raw hardware result (R78): three rounded operations for F32, the raw result otherwise. -/
def Desc.scaleRaw (d : Desc) (raw : Int) : Word :=
  if d.fmt = 0 then (fAdd (fMul (fOfInt raw) d.scale).1 d.off).1 else BitVec.ofInt 32 raw

end Sys2Proof

namespace Sys2Proof.Machine

/-! ### Publication (R395, R398) -/

/-- The commit delay that applies to origin frame `o` (R394): that of an announced change from its frame on, that before the last
change up to its frame, else the one in force. -/
def State.dFor (s : State) (o : Nat) : Nat :=
  match s.tre.dChange.filter (·.1 ≤ o), s.tre.dBefore.filter (o < ·.1) with
  | some (_, d), _ => d
  | none, some (_, d) => d
  | none, none => s.rd F.TRESTLE_STAT_D + 1

/-- ps of a whole span of length code `sel` on this device's counter: the length of R39 and the rate a follower has learned for
that length (R389). -/
def State.lenPs (s : State) (sel : Nat) : Int := (deckCycles sel * 2500 : Nat) + s.span.rate * spanUs sel / spanUs s.sel

/-- ps from the tick of the frame in progress to tick `c`: spans from frame F of an armed change on have its length (R58). -/
def State.psToTick (s : State) (c : Nat) : Int :=
  let n : Int := (c : Int) - s.frame
  if n ≤ 0 then n * s.lenPs s.sel
  else match s.span.armed with
    | none => s.spanPs + (n - 1) * s.lenPs s.sel
    | some (f, sel) =>
      let k : Int := min (n - 1) (max 0 ((f : Int) - s.frame - 1))
      s.spanPs + k * s.lenPs s.sel + (n - 1 - k) * s.lenPs sel

/-- Time now is past the launch deadline of commit tick `c`: tick c − 2 µs − W (R395). -/
def State.pastDeadline (s : State) (c : Nat) : Bool :=
  s.psToTick c - 2000000 - 1000 * (s.rd F.TRESTLE_W : Int) < (s.span.phase * 2500 : Nat)

/-- The ID this device publishes under (R384). -/
def State.pubId (s : State) : Nat :=
  if s.rd F.TRESTLE_PUB_ID = 0xFFFF then s.devId else s.rd F.TRESTLE_PUB_ID

/-- How many updates with origin frame `o` have been launched. -/
def State.launchedWith (s : State) (o : Nat) : Nat := ((s.tre.seqs.find? fun x => x.1 == o).map (·.2)).getD 0

/-- Launches counted against the quota of frame `f` (R398). -/
def State.quotaUsed (s : State) (f : Nat) : Nat := ((s.tre.used.find? fun x => x.1 == f).map (·.2)).getD 0

/-- One more launch counts against the quota of frame `f`. -/
def State.useQuota (s : State) (f : Nat) : State :=
  { s with tre := { s.tre with used := (f, s.quotaUsed f + 1) :: s.tre.used.filter fun x => x.1 != f } }

/-- What a publication frame carries of an update (R392): its 16 bytes. -/
def updateBytes (u : Update) : List Byte :=
  toBytes (u.pt % 2 ^ 17) 4 ++ toBytes u.value.toNat 4 ++
    [BitVec.ofNat 8 (u.qual.code + 8 * (u.flags % 32)), BitVec.ofNat 8 (u.fmt % 16 + 16 * u.held.toNat)] ++
    toBytes u.offset 2 ++ toBytes (u.seq % 2 ^ 17) 4

/-- The update that 16 bytes of a frame with origin frame `o` spell (R392). -/
def updateOf (o : Nat) (bs : List Byte) : Update :=
  let n (k len : Nat) := leBytes (fun j => bs.getD j 0) k len
  { pt := n 0 4 % 2 ^ 17, value := BitVec.ofNat 32 (n 4 4), qual := Quality.ofCode (n 8 1 % 8), flags := n 8 1 / 8
    fmt := n 9 1 % 16, held := (n 9 1).testBit 4, offset := n 10 2, seq := n 12 4 % 2 ^ 17, origin := o }

/-- Put something on port `p` of the ring, where it is UP. -/
def State.treSend (s : State) (p : Nat) (x : Nat → TreOut) : State :=
  if s.rd F.TRESTLE_PORT_STAT_LINK p == 2 then { s with tre := { s.tre with sent := s.tre.sent ++ [x p] } } else s

/-- Put something on both ports. -/
def State.treSendBoth (s : State) (x : Nat → TreOut) : State := (s.treSend 0 x).treSend 1 x

/-- Two launched updates can travel in one frame (R392): its header holds for both. -/
def sameHeader (a b : PubUpdate) : Bool :=
  a.pub == b.pub && a.commit == b.commit && a.late == b.late && a.u.origin == b.u.origin

/-- The launched updates as frames: neighbours that share a header go into one, up to 64 (R392). -/
def frameGroups : List PubUpdate → List (List PubUpdate)
  | [] => []
  | p :: ps =>
    match frameGroups ps with
    | [] => [[p]]
    | g :: gs => if g.length < 64 && g.all (sameHeader p) then (p :: g) :: gs else [p] :: g :: gs

/-- The frames of updates launched now go out on both ports (R391, R392). -/
def State.sendFrames (s : State) (ps : List PubUpdate) : State :=
  s.each (frameGroups ps) fun s g =>
    match g with
    | [] => s
    | p :: _ => s.treSendBoth fun q => .pub q
        { port := q, launcher := s.devId, pub := p.pub, commit := p.commit, late := p.late, origin := p.u.origin
          count := g.length, hops := 0, body := g.flatMap fun x => updateBytes x.u, crcOk := true }

/-- Launch an update on both ports against the quota of frame `f`, labelled with its commit tick, or drop it (R395). -/
def State.launch (s : State) (f : Nat) (u : Update) : State :=
  let n := s.launchedWith u.origin
  let c := u.origin + s.dFor u.origin
  if s.pastDeadline (c + 1) then s.incSat F.TRESTLE_QDROP
  else
    let s := s.useQuota f
    let late := s.pastDeadline c
    let p : PubUpdate := { pub := s.pubId, commit := if late then c + 1 else c, late := late, u := { u with seq := n } }
    let s := { s with tre := { s.tre with
      launched := s.tre.launched ++ [p]
      seqs := (u.origin, n + 1) :: s.tre.seqs.filter fun x => x.1 != u.origin } }
    if !late then s
    else
      let s := s.incSat F.TRESTLE_LATE_SENT
      if s.tre.lateRaised then s
      else { s with tre := { s.tre with lateRaised := true } }.event 0xA04 ([u.pt] ++ w48 u.origin ++ w48 (c + 1))

/-- The record of a forced point (R87). -/
def forcedRecord (v : ForceVal) : PtRec :=
  { value := v.value, qual := .forced, origin := v.origin, frame := v.frame, offset := v.offset }

/-- What the commands due at the tick of frame `f` leave of a point's force: `none` for no command; `some none` for a
release. The later command wins (R86). -/
def dueForce (cmds : List ForceCmd) (f p : Nat) : Option (Option ForceVal) :=
  cmds.foldl (fun r c =>
    if f < c.due then r
    else match c.pt with
      | some q => if q = p then some c.val else r
      | none => some none) none

/-- What ring publication shows of a record `r` of point `p` that becomes seen at the tick after frame `o`: where the point is
forced then, the forced value (R87). -/
def State.published (s : State) (o p : Nat) (r : PtRec) : PtRec :=
  match (dueForce s.pts.forceCmds (o + 1) p).getD (Sparse.find? s.pts.forces p) with
  | some v => forcedRecord v
  | none => r

/-- The device publishes on the ring: in RUN or HOLDOVER, from its first frame of publication on, and of a pair the ACTIVE
device only (R384, R387, R390). -/
def State.publishes (s : State) : Bool :=
  (s.rd F.TRESTLE_STAT_STATE == 4 || s.rd F.TRESTLE_STAT_STATE == 5) && decide (s.tre.runFrom ≤ s.frame) &&
    (!s.paired || s.roleIs .active)

/-- Publish a record of a RING point with origin frame `o`, forced or not as it is: launch it within the quota, else queue it, else
drop it (R391, R395, R398). HELD says that the stamp frame is earlier than o (R392): log entry 195. -/
def State.publishAs (s : State) (o p : Nat) (r : PtRec) : State :=
  let d := s.desc p
  if !(s.publishes && d.pubClass == 2 && d.cls != 7) then s
  else
    let u : Update := { pt := p, value := r.value, qual := r.qual, flags := r.flags, fmt := d.fmt, held := decide (r.frame < o)
                        offset := r.offset, seq := 0, origin := o }
    if s.quotaUsed o < s.rd F.TRESTLE_QUOTA_GRANT then
      let t := s.launch o u
      t.sendFrames (t.tre.launched.drop s.tre.launched.length)
    else if s.tre.waiting.length < 4096 then { s with tre := { s.tre with waiting := s.tre.waiting ++ [u] } }
    else
      let s := s.incSat F.TRESTLE_QDROP
      if s.tre.quotaRaised then s
      else { s with tre := { s.tre with quotaRaised := true } }.event 0xA07
        [s.rd F.TRESTLE_QUOTA_GRANT, s.tre.waiting.length]

/-- Publish an accepted write of point `p` that enters the next plane of span `o` (R391). -/
def State.publish (s : State) (o p : Nat) (r : PtRec) : State := s.publishAs o p (s.published o p r)

/-! ### Storing a value (R79, R95) -/

/-- The record of a value this device accepts, stamped as given (R79, R95). -/
def State.record (s : State) (d : Desc) (v : Word) (q : Quality) (stamp : Nat × Nat) : PtRec :=
  let (v, sat) := d.clampVal v
  { value := v, qual := q, sat := sat, origin := s.devId, frame := stamp.1, offset := stamp.2 }

/-- The record of a point at start-up, or newly bound (R82): FAIL_VALUE, INIT, stamp 0 and 0, this device. -/
def State.initRecord (s : State) (d : Desc) : PtRec := s.record d d.failValue .init (0, 0)

/-- A record enters the next plane: its written mark is set (R80), and its ECC errors are gone (R453). -/
def State.enterNext (s : State) (p : Nat) (r : PtRec) : State :=
  { s with pts := { s.pts with next := Sparse.put s.pts.next p r }
           twin := { s.twin with restored := s.twin.restored.filter (· != p) } }.eccClear (0x00200000 + 16 * p) 16

/-- Mirror and publish a write that enters the next plane of span `o` (R368, R391). -/
def State.announce (s : State) (o p : Nat) (r : PtRec) : State :=
  let s := if 1 ≤ (s.desc p).pubClass then s.mirror (.point p r) else s
  s.publish o p r

/-- An accepted write: held when it arrives at write-close or later (R45), else into the next plane (R44). -/
def State.acceptWrite (s : State) (p : Nat) (r : PtRec) : State :=
  if s.writeClosed then
    let r := { r with held := true }
    ({ s with pts := { s.pts with heldWrites := s.pts.heldWrites ++ [HeldWrite.mk p r] } }.incSat F.SPAN_HELD_WRITES).announce (s.frame + 1) p r
  else if s.running && s.inWin .commit then
    { s with pts := { s.pts with heldWrites := s.pts.heldWrites ++ [HeldWrite.mk p r] } }.announce s.frame p r
  else (s.enterNext p r).announce s.frame p r

/-- The event every refusal for ownership produces (R75): the class `w` of the writer, and the point. -/
def State.ownEvent (s : State) (p w : Nat) : State := s.event 0x222 [w * 2 ^ 20 + p]

/-- A write refused for ownership: counted, remembered, recorded (R75). `w` is the class of the writer. -/
def State.ownRefused (s : State) (p w : Nat) : State :=
  (((s.incSat F.DECK_OWN_REFUSED).wr F.DECK_OWN_LAST_WRITER w).wr F.DECK_OWN_LAST_POINT p).ownEvent p w

/-- A standby ignores and counts writes and forces to TWIN and RING points (R369). -/
def State.standbyIgnores (s : State) (p : Nat) : Bool :=
  s.standingBy && 1 ≤ (s.desc p).pubClass

/-- The outcome of a point write or force. -/
inductive PtRes where
  | ok | notCoherent | standby | refused
  deriving DecidableEq, Repr

/-- A point write by a pier, the host or a field mapping with class `w` and ID `id` (R75): refused before the coherent
span (R475, R541), ignored on a standby (R369), refused to a non-owner. Nothing is counted here: what a refusal does
depends on the writer. -/
def State.softWrite (s : State) (p w id : Nat) (v : Word) (q : Quality) : PtRes × State :=
  if !s.coherent then (.notCoherent, s)
  else if s.standbyIgnores p then (.standby, s.incSat F.TWIN_STBY_REFUSED)
  else
    let d := s.desc p
    if d.cls = w ∧ d.ownerId = id then (.ok, s.acceptWrite p (s.record d v q (s.frame, s.offset)))
    else (.refused, s)

/-! ### Hardware results (R73, R78) -/

/-- The point engine takes hardware results: in a coherent span (R475), while it has power (R470). -/
def State.takesResults (s : State) : Bool := s.coherent && s.domOn .deck

/-- A hardware result of the source (class, ID) reaches point `p`, from its owner (R75). -/
def State.hwReaches (s : State) (p cls id : Nat) : Bool :=
  s.takesResults && (s.desc p).cls == cls && (s.desc p).ownerId == id

/-- A hardware result is part of the span in progress, or from input-close on of the next (R46). -/
def State.enterResult (s : State) (p : Nat) (r : PtRec) : State :=
  if s.inputClosed then
    { s with pts := { s.pts with lateResults := s.pts.lateResults ++ [HeldWrite.mk p r] } }.announce (s.frame + 1) p r
  else (s.enterNext p r).announce s.frame p r

/-- A hardware result `v` for point `p` by the source (class, ID): refused to a non-owner (R75), turned by the fail policy
on a source fault (R73), clamped (R79), and part of the span in progress or, from input-close on, of the next (R46). -/
def State.hwWrite (s : State) (p cls id : Nat) (v : Word) (fault cal : Bool) (stamp : Nat × Nat) : State :=
  if !s.takesResults then s
  else
    let d := s.desc p
    if ¬(d.cls = cls ∧ d.ownerId = id) then s.ownRefused p cls
    else
      let r := if fault then
          (if d.failPol = 0 then s.record d v .fault stamp else s.record d d.failValue .subst stamp)
        else s.record d v .good stamp
      let r := { r with cal := cal }
      s.enterResult p r

/-- As `hwWrite`, of a raw integer result (R78). -/
def State.hwRaw (s : State) (p cls id : Nat) (raw : Int) (fault cal : Bool) (stamp : Nat × Nat) : State :=
  s.hwWrite p cls id ((s.desc p).scaleRaw raw) fault cal stamp

/-! ### Descriptors (R70, R74) -/

/-- Stage a descriptor for the next tick (R74). -/
def State.stageDesc (s : State) (p : Nat) (d : Desc) : State :=
  { s with pts := { s.pts with staged := Sparse.put s.pts.staged p d } }.mirror (.desc p d)

/-! ### Forces (R85, R86) -/

/-- The frame at whose tick a force or release accepted now takes effect (R86). -/
def State.forceDue (s : State) : Nat := if s.writeClosed then s.frame + 2 else s.frame + 1

/-- Add a force or release to those accepted. The ring sees a force from its acceptance on, as it sees a write (R87). -/
def State.queueForce (s : State) (p : Option Nat) (v : Option Word) : State :=
  let c : ForceCmd := { pt := p, due := s.forceDue
                        val := v.map fun v => { value := v, frame := s.frame, offset := s.offset, origin := s.devId } }
  let s := { s with pts := { s.pts with forceCmds := s.pts.forceCmds ++ [c] } }.mirror (.force c)
  match p, c.val with
  | some q, some v => s.publishAs (c.due - 1) q (forcedRecord v)
  | _, _ => s

/-- Why a force of `p` is refused: 0 for no reason; the conditions in the table's order (R85). -/
def State.forceReason (s : State) (p : Nat) : Nat :=
  if !s.coherent then 4
  else if (s.desc p).cls = 0 then 1
  else if (s.desc p).noForce then 2
  else if 1024 ≤ s.forceHolders.length && !s.forceHolders.contains p then 3
  else 0

/-- A FORCE of `p` with value `v` from a host (R85, R86): the state, and whether it was accepted. On a standby one of a TWIN or RING
point is ignored, whatever else would refuse it (R369). -/
def State.force (s : State) (p : Nat) (v : Word) : PtRes × State :=
  let k := s.forceReason p
  if s.standbyIgnores p then (.standby, s.incSat F.TWIN_STBY_REFUSED)
  else if k ≠ 0 then
    (.refused, ((s.wr F.DECK_FORCE_STAT_REASON k).wrB F.DECK_FORCE_STAT_REFUSED true).event 0x224 [k])
  else (.ok, (s.wrB F.DECK_FORCE_STAT_HELD s.writeClosed).queueForce (some p) (some v))

/-- RELEASE_ALL (R86). On a standby it releases the LOCAL points; the others it names are ignored, and counted (R369). -/
def State.releaseAll (s : State) : State :=
  if !s.standingBy then s.queueForce none none
  else
    let held := s.forceHolders
    let t := s.each (held.filter fun p => !s.standbyIgnores p) fun s p => s.queueForce (some p) none
    if held.any s.standbyIgnores then t.incSat F.TWIN_STBY_REFUSED else t

/-- A RELEASE of `p`, or RELEASE_ALL for none (R86): without effect before the coherent span. -/
def State.release (s : State) (p : Option Nat) : PtRes × State :=
  let s := s.wrB F.DECK_FORCE_STAT_HELD s.writeClosed
  if !s.coherent then (.ok, s)
  else match p with
    | some q => if s.standbyIgnores q then (.standby, s.incSat F.TWIN_STBY_REFUSED) else (.ok, s.queueForce p none)
    | none => (.ok, s.releaseAll)

/-! ### Remote commits (R396) -/

/-- Among updates with one commit tick, `b` wins over `a`: a higher origin frame, then a higher sequence (R396). -/
def updateWins (a b : Update) : Bool := a.origin < b.origin || (a.origin == b.origin && a.seq < b.seq)

/-- Choose one update per point. -/
def pickUpdate (l : List PubUpdate) (u : PubUpdate) : List PubUpdate :=
  match l.find? fun x => x.u.pt == u.u.pt with
  | none => l ++ [u]
  | some x => if updateWins x.u u.u then (l.filter fun y => y.u.pt != u.u.pt) ++ [u] else l

/-- The record a remote update commits (R396): VALUE, FLAGS and stamp from the update, ORIGIN the publisher, quality LATE
if it carries LATE; CLAMP applies (R79). -/
def State.remoteRecord (s : State) (d : Desc) (u : PubUpdate) : PtRec :=
  let r := s.record d u.u.value (if u.late then .late else u.u.qual)
    (if u.u.held then u.u.origin - 1 else u.u.origin, u.u.offset)
  { r with origin := u.pub, sat := r.sat || u.u.flags.testBit 0, cal := u.u.flags.testBit 1
           held := u.u.flags.testBit 2, restored := u.u.flags.testBit 3 }

/-! ### The flip (R80 to R84) -/

/-- R83: the record is older than the descriptor's staleness limit at the tick of frame `t`. -/
def tooOld (d : Desc) (r : PtRec) (t : Nat) : Bool :=
  0 < d.staleLimit && r.qual != .init && r.qual != .unbound && r.frame + d.staleLimit < t

/-- The staleness outcome of R83 under the fail policy (R73). -/
def ageRecord (d : Desc) (r : PtRec) : PtRec :=
  if d.failPol = 2 then
    let (v, sat) := d.clampVal d.failValue
    { r with value := v, sat := sat, qual := .subst }
  else { r with qual := .stale }

/-- A record under a source fault, as the fail policy leaves it (R73): for a point that a sensor check guards (R254). -/
def faultRecord (d : Desc) (r : PtRec) : PtRec :=
  if d.failPol = 0 then { r with qual := .fault }
  else
    let (v, sat) := d.clampVal d.failValue
    { r with value := v, sat := sat, qual := .subst }

/-- The record a point has beneath a force at the tick of frame `t` (R80 to R83): `d0`, `d1` its descriptors before and
from this tick, `w` its write of the span, `rem` the remote update committed at this tick, `stale` whether its owning
task overran, `hot` whether a sensor check gives it a source fault (R254). A remote update with LATE keeps LATE (R81, entry 3)
and one in time is aged at its own commit (R84): log entry 34. STALE of an overrun comes before INIT and applies beneath a
force (R81, entry 4): log entry 159. -/
def State.tickRecord (s : State) (t : Nat) (d0 d1 : Desc) (prev : PtRec) (w : Option PtRec) (rem : Option PtRec)
    (stale forced hot : Bool) : PtRec :=
  if d1.cls = 0 then {}
  else
    let r := rem.getD (if d0.cls = 0 then s.initRecord d1 else w.getD prev)
    if hot then faultRecord d1 r
    else match rem, w with
      | some r, _ => if !forced && r.qual != .late && tooOld d1 r t then ageRecord d1 r else r
      | none, some r => if d0.cls = 0 then s.initRecord d1 else r
      | none, none =>
        if d0.cls = 0 then s.initRecord d1
        else if stale then { prev with qual := .stale }
        else if !forced && tooOld d1 prev t then ageRecord d1 prev
        else prev

/-- The updates due at this tick that the descriptors from this tick accept, one per point, and the points of those refused
(R396). Before the coherent span none is committed (R475). -/
def State.remoteDue (s : State) (t : Nat) (desc : Nat → Desc) : List PubUpdate × List Nat :=
  let due := s.tre.inbox.filter fun u => s.coherent && u.commit == t
  let ok (u : PubUpdate) : Bool :=
    let d := desc u.u.pt
    d.cls == 7 && d.ownerId == u.pub && d.fmt == u.u.fmt
  ((due.filter ok).foldl pickUpdate [], (due.filter fun u => !ok u).map (·.u.pt))

/-- The events of one point at the tick: its descriptor's owner changed (R74), a force or release took effect (R88). -/
def State.flipEvents (s : State) (p : Nat) (d0 d1 : Desc) (f0 f1 : Option ForceVal) (cmd : Option (Option ForceVal))
    (shown : PtRec) : State :=
  let s := if d0.cls ≠ d1.cls ∨ d0.ownerId ≠ d1.ownerId then
      s.event 0x223 [p, d0.cls, d0.ownerId, d1.cls, d1.ownerId] else s
  match f1 with
  | some v => if (cmd.bind id).isSome then s.event 0x220 ([p, v.value.toNat] ++ w48 s.frame) else s
  | none =>
    if f0.isSome || (d1.cls = 0 && (cmd.bind id).isSome) then s.event 0x221 ([p, shown.value.toNat] ++ w48 s.frame)
    else s

/-- The point engine's work of one tick for one point, read from the state `s0` of the tick's beginning. -/
def State.flipPoint (s0 : State) (desc : Nat → Desc) (rem : List PubUpdate) (hot : List Nat) (s : State) (p : Nat) :
    State :=
  let t := s0.frame
  let (d0, d1) := (s0.desc p, desc p)
  let f0 := Sparse.find? s0.pts.forces p
  let cmd := dueForce s0.pts.forceCmds t p
  let f1 := if d1.cls = 0 then none else (cmd.getD f0)
  let u := (rem.find? fun u => u.u.pt == p).map (s0.remoteRecord d1)
  let stale := d1.cls = 1 && s0.pts.overran.contains d1.ownerId
  let own := s0.tickRecord t d0 d1 (s0.own p) (Sparse.find? s0.pts.next p) u stale f1.isSome (hot.contains p)
  let old := (s0.seen p).value
  let seen := match f1 with
    | some v => forcedRecord v
    | none => own
  let seen := { seen with chg := decide (seen.value ≠ old) }
  let own := { own with chg := if f1.isSome then own.chg else seen.chg }
  let s := { s with pts := { s.pts with
    seen := Sparse.set s.pts.seen {} p seen
    own := Sparse.set s.pts.own {} p own
    desc := Sparse.set s.pts.desc {} p d1
    forces := match f1 with
      | some v => Sparse.put s.pts.forces p v
      | none => Sparse.del s.pts.forces p } }
  s.flipEvents p d0 d1 f0 f1 cmd seen

/-- Every point something is known of, in rising order: simultaneous events list the lower point first (R96). -/
def State.knownPoints (s : State) : List Nat :=
  [Sparse.keys s.pts.staged, Sparse.keys s.pts.swapStaged, Sparse.keys s.pts.own, Sparse.keys s.pts.seen].foldl mergeKeys
    (Sparse.keys s.pts.desc)

/-- A force of point `p` was released between `old` and `s`: the ring sees what the point now shows, with the frame in progress
as its origin frame (R87, R88): log entry 195. -/
def State.publishRelease (old s : State) (p : Nat) : State :=
  if (Sparse.find? s.pts.forces p).isSome || (Sparse.find? old.pts.forces p).isNone then s
  else s.publishAs s.frame p (s.seen p)

/-- Where an ECC error of quarter `q` stands after the planes swapped (R21, R453): in the seen plane it stays until its record
is written; one of a next-plane record that the span wrote becomes seen with it; a descriptor that is written loses it. -/
def State.flipQuarter (old new : State) (staged : List Nat) (q : Nat) : Option Nat :=
  let a := 8 * q
  let wrote (p : Nat) : Bool := (Sparse.find? old.pts.next p).isSome
  if a < 0x00200000 then
    (if wrote (a / 16) || decide (new.seen (a / 16) ≠ old.seen (a / 16)) then none else some q)
  else if a < 0x00400000 then (if wrote ((a - 0x00200000) / 16) then some (q - 0x00040000) else none)
  else if a < 0x00800000 && staged.contains ((a - 0x00400000) / 32) then none
  else some q

/-- A sorted list with one more point. -/
def insertPt (p : Nat) : List Nat → List Nat
  | [] => [p]
  | x :: xs => if p < x then p :: x :: xs else x :: insertPt p xs

/-- The flip (R80), in the commit window of the tick whose frame number `s` already has. Force commands of points that
become unbound are freed (R86); results held back at input-close enter the new next plane (R46). `hot` lists the points a
sensor check guards at this tick (R254). -/
def State.flip (s : State) (hot : List Nat) : State :=
  let desc (p : Nat) : Desc := (Sparse.find? s.pts.swapStaged p).getD ((Sparse.find? s.pts.staged p).getD (s.desc p))
  let (rem, refused) := s.remoteDue s.frame desc
  let staged := Sparse.keys s.pts.staged ++ Sparse.keys s.pts.swapStaged
  let s1 := s.knownPoints.foldl (s.flipPoint desc rem hot) s
  let s2 := { s1 with
    pts := { s1.pts with
      staged := [], swapStaged := [], next := [], overran := [], lateResults := []
      forceCmds := s1.pts.forceCmds.filter fun c => s.frame < c.due &&
        (match c.pt with | some p => (desc p).cls != 0 | none => true) }
    tre := { s1.tre with inbox := s1.tre.inbox.filter fun u => s.frame < u.commit }
    health := { s1.health with
      poisoned := (s1.health.poisoned.filterMap (State.flipQuarter s s1 staged)).dedup
      upsets := s1.health.upsets.filterMap fun (u : Nat × Bool) => (State.flipQuarter s s1 staged u.1).map fun (q : Nat) => (q, u.2) } }
  let s3 := (s2.addSat F.TRESTLE_REFUSED refused.length).each (refused.foldl (fun l p => insertPt p l) []) fun s p =>
    s.ownEvent p 7
  let s4 := s3.each (Sparse.keys s.pts.forces) (State.publishRelease s)
  s.pts.lateResults.foldl (fun s w => s.enterNext w.pt w.r) s4

/-- Every bound point at its start-up value (R82, R475); `old` is the state of the tick's beginning, whose values CHG compares
with (R67). -/
def State.startValues (old s : State) : State :=
  s.each ((Sparse.keys s.pts.desc).filter fun p => (s.desc p).cls != 0) fun s p =>
    let r := s.initRecord (s.desc p)
    let r := { r with chg := decide (r.value ≠ (old.seen p).value) }
    { s with pts := { s.pts with own := Sparse.set s.pts.own {} p r, seen := Sparse.set s.pts.seen {} p r } }.eccClear (16 * p) 16

/-- The writes held past write-close enter the next plane when the commit window closes (R45). -/
def State.applyHeld (s : State) : State :=
  s.pts.heldWrites.foldl (fun s w => s.enterNext w.pt w.r) { s with pts := { s.pts with heldWrites := [] } }

end Sys2Proof.Machine
end

