-- ==== Sys2Proof/Machine/Common.lean ====
section
/-! DEFINITION. Operations several blocks share: free values, CRC-32C, results to points by owner, ownership of the
outputs, and starting a unit test with its verdict (17_health_and_repair.md). -/

namespace Sys2Proof.Machine

/-! ### Free values -/

/-- A value the specification does not state, of kind `k`; each draw is a new one. -/
def State.free (s : State) (k : Nat) : Nat × State := (Config.free k s.freeCtr, { s with freeCtr := s.freeCtr + 1 })

/-- A quotient of naturals whose rounding the specification does not state: one of its two neighbours. -/
def divFree (n d : Nat) : Nat := if n % d = 0 then n / d else n / d + (Config.roundUp n d).toNat

/-- `divFree` of an integer by a natural number. -/
def divFreeZ (n : Int) (d : Nat) : Int := if n < 0 then -(divFree n.natAbs d : Int) else (divFree n.natAbs d : Int)

/-! ### CRC-32C -/

/-- One step of the reflected CRC-32C register. -/
def crcStep (c : Nat) : Nat := if c % 2 = 1 then c / 2 ^^^ 0x82F63B78 else c / 2

/-- Take one byte into the CRC-32C register. -/
def crcByte (c : Nat) (b : Byte) : Nat := (List.range 8).foldl (fun c _ => crcStep c) (c ^^^ b.toNat)

/-- CRC-32C of bytes. -/
def crc32c (bs : List Byte) : Nat := bs.foldl crcByte 0xFFFFFFFF ^^^ 0xFFFFFFFF

/-! ### Results to points -/

/-- The points whose descriptor in force names the source (class, ID). -/
def State.pointsOf (s : State) (cls id : Nat) : List Nat :=
  (s.pts.desc.filter fun kv => kv.2.cls == cls && kv.2.ownerId == id).map (·.1)

/-- A raw result of the source (class, ID) to every point it owns (R71, R78). -/
def State.feed (s : State) (cls id : Nat) (raw : Int) (fault : Bool) (stamp : Nat × Nat) : State :=
  s.each (s.pointsOf cls id) fun s p => s.hwRaw p cls id raw fault false stamp

/-- As `feed`, with quality SUBST and the delivered value whatever the fail policy (R335). -/
def State.feedSubst (s : State) (cls id : Nat) (raw : Int) (stamp : Nat × Nat) : State :=
  if !s.takesResults then s else
    s.each (s.pointsOf cls id) fun s p =>
      let d := s.desc p
      let r := s.record d (d.scaleRaw raw) .subst stamp
      s.enterResult p r

/-! ### Mirrored lines (R368) -/

/-- Window `k` as a range: base and length. -/
def State.mirrorWin (s : State) (k : Nat) : Nat × Nat :=
  (s.rd F.TWIN_WIN_BASE_BASE k * 32, s.rd F.TWIN_WIN_LEN k * 32)

/-- A window that is enabled and lies in the general-use region (R368). -/
def State.winMirrored (s : State) (k : Nat) : Bool :=
  let (b, l) := s.mirrorWin k
  s.bit F.TWIN_WIN_BASE_EN k && inGeneral b l

/-- The eight words of a 32-byte line. -/
def State.lineWords (s : State) (a : Nat) : List Word := (List.range 8).map fun k => BitVec.ofNat 32 (s.dWord (a + 4 * k))

/-- The line at `a` changed: it is mirrored when it lies in a mirror window, or holds loop user words (R368). -/
def State.mirrorLine (s : State) (a : Nat) : State :=
  let a := a / 32 * 32
  let loop := 0x00800000 ≤ a && a < 0x00A00000
  let win := (List.range 8).any fun k =>
    let (b, l) := s.mirrorWin k
    s.winMirrored k && b ≤ a && a < b + l
  if loop || win then s.mirror (.line a (s.lineWords a)) else s

/-- Every line that `len` bytes from `a` touch is mirrored when it is to be. -/
def State.mirrorRange (s : State) (a len : Nat) : State :=
  if len = 0 then s
  else s.each ((List.range ((a + len - 1) / 32 - a / 32 + 1)).map fun k => (a / 32 + k) * 32) State.mirrorLine

/-! ### Ownership and thermal state -/

/-- The device drives its outputs (R361, R362). -/
def State.driving (s : State) : Bool := s.bit F.TWIN_STAT_DRIVING

/-- The drive channels drive: the device owns the outputs and no freeze holds them (R269, R505). -/
def State.drives (s : State) : Bool := s.driving && !s.dbg.frozen

/-- Commands reach the drive channels: they drive, and the start-up order has come to OUTPUT (R475). -/
def State.takesCommands (s : State) : Bool := s.drives && s.atStep .output

/-- HEALTH holds the device in THROTTLE (R449). -/
def State.throttling (s : State) : Bool := s.health.throttled

/-! ### Unit tests and verdicts (R453 to R457) -/

/-- The test classes of R453. -/
inductive TestCls where
  | deckRow | tcm | slice | gate | lane
  deriving DecidableEq, Repr

/-- The code of a test class. -/
def TestCls.code : TestCls → Nat
  | .deckRow => 0 | .tcm => 1 | .slice => 2 | .gate => 3 | .lane => 4

/-- The unit index of a gate: kind (0 SOL, 1 MOT, 2 FAN, 3 HSW) and channel or group (R453). -/
def gateUnit (kind ch : Nat) : Nat := kind * 64 + ch

/-- The retired-map field of a gate kind. -/
def retGate : Nat → Fld
  | 0 => F.HEALTH_RET_SOL | 1 => F.HEALTH_RET_MOT | 2 => F.HEALTH_RET_FAN | _ => F.HEALTH_RET_HSW

/-- A unit is retired (R457). -/
def State.isRetired (s : State) (cls unit : Nat) : Bool :=
  match cls with
  | 0 => s.health.retiredRows.contains unit
  | 1 => s.mapBit F.HEALTH_RET_PIER (unit / 2)
  | 2 => s.mapBit F.HEALTH_RET_SLICE unit
  | 3 => s.mapBit (retGate (unit / 64)) (unit % 64)
  | _ => s.mapBit F.HEALTH_RET_LANE unit

/-- The tracking entry of a unit. -/
def State.trackOf (s : State) (cls unit : Nat) : Option TrackEntry :=
  s.health.track.find? fun e => e.cls == cls && e.unit == unit

/-- The entry with the oldest start. -/
def oldest : List TrackEntry → Option TrackEntry
  | [] => none
  | e :: es => match oldest es with
    | none => some e
    | some x => if x.start < e.start then some x else some e

/-- Count one transient of a unit in the tracking table (R456). -/
def State.countTransient (s : State) (cls unit : Nat) : State :=
  match s.trackOf cls unit with
  | some e =>
    let t := s.health.track.map fun x => if x = e then { x with count := x.count + 1 } else x
    { s with health := { s.health with track := t } }
  | none =>
    let e : TrackEntry := ⟨cls, unit, 1, s.nowUs⟩
    if s.health.track.length < 64 then { s with health := { s.health with track := s.health.track ++ [e] } }
    else match oldest s.health.track with
      | none => s
      | some o =>
        let t := s.health.track.filter (· ≠ o) ++ [e]
        { s with health := { s.health with track := t } }.event 0xC0B [o.unit]

/-- The verdict on a unit: LASTING or TRANSIENT, its event and HEALTH_LAST (R456). A LASTING verdict makes the unit's
retirement due, which the command carries out before it ends (`State.retireDue`). -/
def State.verdict (s : State) (cls unit : Nat) (pass : Bool) : State :=
  let s := if pass then s.countTransient cls unit else s
  let count := ((s.trackOf cls unit).map (·.count)).getD 0
  let lasting := !pass || decide (s.rd F.HEALTH_CLASS_CFG_LIMIT cls < count)
  let s := (((s.wr F.HEALTH_LAST_CLASS cls).wr F.HEALTH_LAST_UNIT unit).wr F.HEALTH_LAST_COUNT (min 127 count)).wrB
    F.HEALTH_LAST_VERDICT lasting
  let s := if lasting then s.incSat F.HEALTH_CLASS_STAT_LASTING cls else s.incSat F.HEALTH_CLASS_STAT_TRANSIENTS cls
  let s := s.event 0xC07 [cls, unit, lasting.toNat, count]
  if lasting then { s with health := { s.health with due := s.health.due ++ [(cls, unit, 0)] } } else s

/-- A deck row moves to a spare row of its bank, or stays for want of one (R454, R457). -/
def State.retireRow (s : State) (row source : Nat) : State :=
  let b := row / 2048
  let used := Sparse.get s.health.spareUsed 0 b
  if 16 ≤ used then (s.wrB F.HEALTH_STAT_DECK_NOSPARE true).event 0xC09 [b, row % 2048]
  else
    let s := { s with health := { s.health with
      retiredRows := s.health.retiredRows ++ [row], spareUsed := Sparse.set s.health.spareUsed 0 b (used + 1) } }
    (s.wr F.HEALTH_STAT_ROWS_LEFT (s.rd F.HEALTH_STAT_ROWS_LEFT - 1)).event 0xC08 [0, row, source]

/-- Take the retirements of class `cls` that are due, and carry them out by `f` (R457). -/
def State.retireClass (s : State) (cls : Nat) (f : State → Nat → Nat → State) : State :=
  let mine := s.health.due.filter fun u => u.1 == cls
  ({ s with health := { s.health with due := s.health.due.filter fun u => u.1 != cls } }).each mine fun s u =>
    if s.isRetired cls u.2.1 then s else f s u.2.1 u.2.2

/-- The tests of a class that run, and that wait. -/
def testsOf (l : List (Nat × Nat)) (cls : Nat) : List (Nat × Nat) := l.filter fun t => t.1 == cls

/-- Lane `l` is under test (R453). -/
def State.laneTested (s : State) (l : Nat) : Bool := s.health.running.contains (4, l)

/-- Write QUEUED of a class. -/
def State.showQueue (s : State) (cls : Nat) : State :=
  s.wr F.HEALTH_CLASS_STAT_QUEUED (testsOf s.health.queued cls).length cls

/-- The test of a unit runs, waits its turn, or waits for DRIVING to run again (R455). -/
def State.testPending (s : State) (cls unit : Nat) : Bool :=
  (s.health.running ++ s.health.queued ++ s.health.again).contains (cls, unit)

/-- The test of a class that runs, or that DRIVING's fall abandoned and that runs again first (R455). -/
def State.testsBusy (s : State) (cls : Nat) : Bool :=
  !(testsOf s.health.running cls).isEmpty || !(testsOf s.health.again cls).isEmpty

/-- An error of a class on a unit starts its test, is absorbed, waits behind the tests that wait, or is counted untested
(R455). -/
def State.startTest (s : State) (cls unit : Nat) : State :=
  if s.isRetired cls unit then s
  else if s.testPending cls unit then s
  else if !s.testsBusy cls && (testsOf s.health.queued cls).isEmpty then
    { s with health := { s.health with running := s.health.running ++ [(cls, unit)] } }
  else if (testsOf s.health.queued cls).length < 8 then
    { s with health := { s.health with queued := s.health.queued ++ [(cls, unit)] } }.showQueue cls
  else (s.wrB F.HEALTH_CLASS_STAT_QFULL true cls).verdict cls unit true

end Sys2Proof.Machine
end

