-- ==== Sys2Proof/Machine/Meter.lean ====
section
/-! DEFINITION. Energy metering and the mains (12_metering.md). Line values are exact: integers in units of 2^-165 V or A,
powers in units of 2^-330 W. -/

namespace Sys2Proof.Machine

/-! ### Quantities (R340) -/

/-- The index names an energy quantity. -/
def isEnergy (q : Nat) : Bool :=
  q < 0x16 || (0x40 ≤ q && q < 0x8C) || (0x90 ≤ q && q < 0x9C) || (0xA0 ≤ q && q < 0xC0)

/-- Every energy quantity. -/
def energyQuantities : List Nat := (List.range 0xC0).filter isEnergy

/-- The quantum of a quantity in µWh (R341). -/
def State.quantum (s : State) (q : Nat) : Nat :=
  if q < 0x14 then s.rd F.METER_QUANT_MAINS else s.rd F.METER_QUANT_SUB

/-- The active phases (R329). -/
def State.phases (s : State) : List Nat := if s.rd F.METER_CTL_WIRING = 1 then [0] else [0, 1, 2]

/-- The channels a quantity uses, as a bit map: its phase voltage, the neutral and its current; a frequency uses the reference
line's voltage (R348). -/
def State.channelsOf (s : State) (q : Nat) : Nat :=
  let phase (x : Nat) : Nat := 2 ^ x + 2 ^ 3 + 2 ^ (4 + x)
  let all : Nat := mapOf 8 fun c => s.phases.any fun x => (phase x).testBit c
  if q < 15 then phase (q / 5)
  else if q < 20 then all
  else if q < 0xC0 then 0
  else if q < 0xC8 then 2 ^ (q - 0xC0)
  else if q < 0xD8 then (if q % 4 = 3 then all else phase (q % 4))
  else if q < 0xDA then 2 ^ s.rd F.METER_STAT_FREF_USED + 2 ^ 3
  else 0

/-- Phases 2 and 3 of a SINGLE wiring are never written to points (R329). -/
def State.quantityLive (s : State) (q : Nat) : Bool :=
  if q < 15 then s.phases.contains (q / 5)
  else if 0xC8 ≤ q && q < 0xD8 && q % 4 ≠ 3 then s.phases.contains (q % 4)
  else true

/-! ### Stamps -/

/-- The input instant, in CK_CONV cycles from reset, of the newest available sample: samples are taken every 4,000 cycles from
the bearing tick on and become available 8 samples later (R326). -/
def State.sampleInput (s : State) : Nat :=
  let t := s.convAbs
  match s.span.bear with
  | [] => t - 32000
  | b :: bs =>
    let j := (t - b.start) / 4000
    if 8 ≤ j then b.start + (j - 8) * 4000
    else match bs with
      | p :: _ => p.start + (convCycles p.sel / 4000 + j - 8) * 4000
      | [] => t - 32000

/-- The stamp of the newest available sample. -/
def State.sampleStamp (s : State) : Nat × Nat := s.stampAt s.sampleInput

/-! ### Pulse outputs (R343) -/

/-- The level of the pin EPULSE`k`: active, as POL has it, while a pulse is given, and inactive with EN 0; `none` is high-impedance
(R343, R361, METER_EPk_CFG). -/
def State.epulsePin (s : State) (k : Nat) : Option Bool :=
  if s.driving then some ((s.bit F.METER_EP_CFG_EN k && s.meter.pulsing.contains k) != s.bit F.METER_EP_CFG_POL k)
  else none

/-- Start a pulse on output `k` when one is due: it takes one from BACKLOG. A pin that is not driven gives none (R361). -/
def State.epulseKick (s : State) (k : Nat) : State :=
  if s.driving && s.bit F.METER_EP_CFG_EN k && !s.meter.pulsing.contains k && !s.meter.gaps.contains k
      && s.rd F.METER_EP_STAT_BACKLOG k != 0 then
    { s.wr F.METER_EP_STAT_BACKLOG (s.rd F.METER_EP_STAT_BACKLOG k - 1) k with
      meter := { s.meter with pulsing := k :: s.meter.pulsing } }
  else s

/-- PC of quantity `q` grew by `n`. -/
def State.epulseCount (s : State) (q n : Nat) : State :=
  if n = 0 then s else
    s.each [0, 1, 2, 3] fun s k =>
      if s.rd F.METER_EP_CFG_Q k ≠ q then s
      else
        let b := s.rd F.METER_EP_STAT_BACKLOG k + n
        let s' := s.wr F.METER_EP_STAT_BACKLOG (min b 65535) k
        let s' := if 65535 < b then (s'.wrB F.METER_EP_STAT_OVF true k).raise 0x808 k [k, q] else s'
        s'.epulseKick k

/-! ### Accumulation (R341) -/

/-- Accumulation runs: RUN is 1 and the device is no standby, nor in LINKFAULT, which is as STANDBY (R341, R364, R369). -/
def State.accumulating (s : State) : Bool := s.bit F.METER_CTL_RUN && !s.standingBy

/-- An increment of `num / den` µWh in quanta of quantity `q`: whole quanta, and the fraction in 2^-64 quantum (R341). The
fraction's last bits are free within the bound the rule gives. -/
def State.increment (s : State) (q num den : Nat) : Nat × Nat :=
  let total := num * 2 ^ 64 / (den * s.quantum q)
  let f := total % 2 ^ 64
  let bound : Int := (f / 2 ^ 40 : Nat)
  let err := max (-bound) (min bound (Config.energyError s.freeCtr))
  (total / 2 ^ 64, ((f : Int) + err).toNat)

/-- Add `n` quanta and the fraction `f` to quantity `q` (R341). -/
def State.addTo (s : State) (q n f : Nat) : State :=
  let (pc, r) := s.accOf q
  let carry := (r + f) / 2 ^ 64
  let pc' := (pc + n + carry) % 2 ^ 64
  { s with meter := { s.meter with
      acc := Sparse.set s.meter.acc (0, 0) q (pc', (r + f) % 2 ^ 64)
      latFed := if s.meter.latFed.contains q || (n = 0 && f = 0) then s.meter.latFed else q :: s.meter.latFed }
    }.epulseCount q (n + carry)

/-- Add the same `num / den` µWh to every quantity of `qs`, which share a quantum. -/
def State.addEnergy (s : State) (qs : List Nat) (num den : Nat) : State :=
  let (n, f) := s.increment (qs.headD 0) num den
  ({ s with freeCtr := s.freeCtr + 1 }).each qs fun s q => s.addTo q n f

/-- The energy of a channel's PWM period, `num / den` µWh: to its import or export quantity and to ACT_IMP or ACT_EXP
(R339). -/
def State.subEnergy (s : State) (imp exp : Nat) (num : Int) (den : Nat) : State :=
  if !(s.accumulating && s.domOn .meter) then s
  else if 0 < num then s.addEnergy [imp, 0x14] num.toNat den
  else if num < 0 then s.addEnergy [exp, 0x15] num.natAbs den
  else s

/-! ### Samples (R325 to R337) -/

/-- A binary32 number in units of 2^-149, when it is a number. -/
def f149 (w : Word) : Option Int :=
  match F32.dec w with
  | .num n m e => some ((if n then -1 else 1) * (shiftZ m (e + 149) : Nat))
  | _ => none

/-- A code as the front end delivers it: an input at or beyond full scale gives the end code of its direction (R328). -/
def endCode (z : Int) : Int := max (-8388607) (min 8388607 z)

/-- A code clips (R328). -/
def clips (z : Int) : Bool := z ≤ -8388607 || 8388607 ≤ z

/-- The integrator of current channel `c` takes `c1` (R327). -/
def State.integrate (s : State) (c : Nat) (c1 : Int) : Int × State :=
  let (y, h) := Config.integrator (s.rd F.METER_CTL_NOM_F) (Sparse.get s.meter.integ 0 c) c1
  (y, { s with meter := { s.meter with integ := Sparse.set s.meter.integ 0 c h } })

/-- The line value of channel `c` (R327): delay, integrator, offset, scale. A SCALE that is no number gives no stated
value. -/
def State.lineValue (s : State) (c : Nat) (hist : List Int) : Int × State :=
  let ph := s.rdS F.METER_CH_PHASE c
  let c1 := if ph = 0 then hist.headD 0 * 65536 else Config.delayed ph hist
  let (c2, s) := if s.bit F.METER_CH_CFG_INTEG c then s.integrate c c1 else (c1, s)
  match f149 (BitVec.ofNat 32 (s.rd F.METER_CH_SCALE c)) with
  | some k => ((c2 - s.rdS F.METER_CH_OFS c * 65536) * k, s)
  | none =>
    let (v, s) := s.free 11
    (signed 256 v, s)

/-- The line values of all channels, given the code history (newest first). -/
def State.lineValues (s : State) (codes : List (List Int)) : List Int × State :=
  (List.range 8).foldl (fun (xs, s) c =>
    let (x, s) := s.lineValue c (codes.map fun l => l.getD c 0)
    (xs ++ [x], s)) ([], s)

/-- The voltage of phase `x` in one sample's line values: Vx − VN (R329). -/
def phaseV (x : Nat) (l : List Int) : Int := l.getD x 0 - l.getD 3 0

/-- The current of phase `x`. -/
def phaseI (x : Nat) (l : List Int) : Int := l.getD (4 + x) 0

/-- The powers of phase `x` at the sample 127 before the newest (R337). -/
def phasePower (lines : List (List Int)) (x : Nat) : PhasePower :=
  let l := lines.getD 127 []
  let v := phaseV x l
  let i := phaseI x l
  let v90 := Config.hilbert ((lines.take 255).map (phaseV x))
  { p := v * i, q := v90 * i, vv := (v * v).toNat, ii := (i * i).toNat }

/-- The sum of two powers. -/
def PhasePower.add (a b : PhasePower) : PhasePower := ⟨a.p + b.p, a.q + b.q, a.vv + b.vv, a.ii + b.ii⟩

/-- The sum of a phase's powers over the last `w` samples. -/
def sumPower (powers : List (List PhasePower)) (w x : Nat) : PhasePower :=
  ((powers.take w).map fun l => l.getD x ⟨0, 0, 0, 0⟩).foldl PhasePower.add ⟨0, 0, 0, 0⟩

/-- Samples of a nominal line cycle (R332). -/
def State.nominalCycle (s : State) : Nat := if s.bit F.METER_CTL_NOM_F then 533 else 640

/-- Samples in one line cycle: round(32,000 / f) while tracking, else the nominal count (R337). -/
def State.cycleLen (s : State) : Nat :=
  if s.bit F.METER_STAT_TRACKING && 0 < s.meter.period then (s.meter.period + 2000) / 4000 else s.nominalCycle

/-- A mean of magnitude `sum / w` (2^-330) lies below NOLOAD_P (R344). -/
def State.belowNoload (s : State) (sum w : Nat) : Bool :=
  match F32.dec (BitVec.ofNat 32 (s.rd F.METER_NOLOAD)) with
  | .num neg m e => !neg && decide (sum < shiftZ m (e + 149) * w * 2 ^ 181)
  | .inf neg => !neg
  | .nan _ => false

/-- The no-load state of phase `x` and kind `k` at this sample, and whether the sample accumulates (R344). -/
def State.noload (s : State) (x k sum w : Nat) : Bool × State :=
  let key := x + 3 * k
  let was := s.mapBit F.METER_STAT_NOLOAD key
  if s.belowNoload sum w then
    let n := min w (Sparse.get s.meter.lowFor 0 key + 1)
    let s := { s with meter := { s.meter with lowFor := Sparse.set s.meter.lowFor 0 key n } }
    (!was, if w ≤ n then s.setMap F.METER_STAT_NOLOAD key else s)
  else
    let s := { s with meter := { s.meter with lowFor := Sparse.del s.meter.lowFor key } }
    (true, s.clrMap F.METER_STAT_NOLOAD key)

/-- Route an energy of sum `z` (w samples' powers, 2^-330) to the import or export quantities (R338); `z × 31.25 µs / w` as
µWh. -/
def State.route (s : State) (qp qm : List Nat) (z : Int) (w : Nat) : State :=
  if !s.accumulating || z = 0 || w = 0 then s
  else s.addEnergy (if 0 < z then qp else qm) (z.natAbs * 1000000) (2 ^ 330 * w * 115200000)

/-- The quantities that take the energy of kind `k` of phase `x`: its own, and in SINGLE wiring, where the totals equal phase 1,
the total's (R329). -/
def State.takers (s : State) (x k : Nat) : List Nat :=
  if s.rd F.METER_CTL_WIRING = 1 then [5 * x + k, 15 + k] else [5 * x + k]

/-- Accumulate phase `x` (R337, R338, R344). Answers what it adds to the totals. -/
def State.accumulatePhase (s : State) (w x : Nat) : (Int × Int × Nat) × State :=
  let t := sumPower s.meter.powers w x
  let sb := isqrt (t.vv * t.ii)
  let (okP, s) := s.noload x 0 t.p.natAbs w
  let (okQ, s) := s.noload x 1 t.q.natAbs w
  let (okS, s) := s.noload x 2 sb w
  let s := if okP then s.route (s.takers x 0) (s.takers x 1) t.p w else s
  let s := if okQ then s.route (s.takers x 2) (s.takers x 3) t.q w else s
  let s := if okS then s.route (s.takers x 4) (s.takers x 4) sb w else s
  ((if okP then t.p else 0, if okQ then t.q else 0, if okS then sb else 0), s)

/-- Accumulate every phase and the totals. -/
def State.accumulateAll (s : State) : State :=
  let w := s.cycleLen
  let ((p, q, a), s) := s.phases.foldl (fun ((p, q, a), s) x =>
    let ((p', q', a'), s) := s.accumulatePhase w x
    ((p + p', q + q', a + a'), s)) (((0, 0, 0) : Int × Int × Nat), s)
  if s.rd F.METER_CTL_WIRING = 1 then s
  else ((s.route [15] [16] p w).route [17] [18] q w).route [19] [19] a w

/-! ### Latching (R345 to R347) -/

/-- REV: the phases whose import and export both received energy since the previous latch (R347). -/
def revMap (fed : List Nat) (kind : Nat) : Nat :=
  mapOf 4 fun x => fed.contains (5 * x + kind) && fed.contains (5 * x + kind + 1)

/-- Take a latch from the sample that is being processed. -/
def State.takeLatch (s : State) : State :=
  let m := s.meter
  let (f, o) := s.sampleStamp
  let c : LatchSet :=
    { acc := m.acc, frame := f, offset := o, cycles := m.latCycles, samples := m.latSamples, clip := m.latClip
      noloadSeen := m.latNoload, notrack := m.latNotrack, cmd := m.latchNow, revP := revMap m.latFed 0
      revQ := revMap m.latFed 2 }
  { s with meter := { m with
    capture := some c, latchDue := none, latchNow := false, latCycles := 0, latSamples := 0, latClip := 0
    latNoload := 0, latNotrack := false, latFed := [] } }

/-- A line cycle that ends at CK_CONV cycle `t` from reset counts towards the latch (R345). -/
def State.countCycle (s : State) (t : Nat) : State :=
  let n := s.meter.latCycles + 1
  let due := s.meter.latchDue.or (if s.rd F.METER_LATCH_N_M1 + 1 ≤ n then some t else none)
  { s with meter := { s.meter with latCycles := n, latchDue := due } }

/-- Energy in mWh of a quantity's pair (R345). -/
def mwhOf (qt pc r : Nat) : Nat := min (2 ^ 64 - 1) ((pc * qt + r * qt / 2 ^ 64) / 1000)

/-- The bank a latch writes (R346). -/
def State.latchBank (s : State) : Nat :=
  if s.bit F.METER_LAT_STAT_LOCKED then 1 - s.rd F.METER_LAT_STAT_LOCK_BANK else 1 - s.rd F.METER_LAT_STAT_NEWEST

/-- Write one quantity of a latched set into bank `b`, and to its points (R345, R348). -/
def State.latchQuantity (s : State) (b : Nat) (c : LatchSet) (q : Nat) : State :=
  let (pc, r) := Sparse.get c.acc (0, 0) q
  let mwh := mwhOf (s.quantum q) pc r
  let s := ((s.wr F.METER_BANK_Q_MWH_LO (mwh % 2 ^ 32) b q).wr F.METER_BANK_Q_MWH_HI (mwh / 2 ^ 32) b q).wr
    F.METER_BANK_Q_PC_LO (pc % 2 ^ 32) b q
  let s := s.wr F.METER_BANK_Q_PC_HI (pc / 2 ^ 32) b q
  if s.quantityLive q then s.feed 3 q mwh (decide (c.clip &&& s.channelsOf q ≠ 0)) (c.frame, c.offset) else s

/-- The latch completes: bank, header, LATCH_SEQ, NEWEST (R345 to R347). -/
def State.latchComplete (s : State) : State :=
  match s.meter.capture with
  | none => s
  | some c =>
    let b := s.latchBank
    let seq := (s.rd F.METER_LAT_SEQ + 1) % 2 ^ 32
    let s := { s with meter := { s.meter with capture := none } }
    let s := s.each energyQuantities fun s q => s.latchQuantity b c q
    let s := (s.wr F.METER_BANK_SEQ seq b).wr F.METER_BANK_FRAME_LO (c.frame % 2 ^ 32) b
    let s := (s.wr F.METER_BANK_FRAME_HI_FRAME_HI (c.frame / 2 ^ 32) b).wr F.METER_BANK_FRAME_HI_OFFSET c.offset b
    let s := (s.wr F.METER_BANK_CYCLES c.cycles b).wr F.METER_BANK_SAMPLES c.samples b
    let s := (s.wrB F.METER_BANK_FLAGS_CMD c.cmd b).wrB F.METER_BANK_FLAGS_NOTRACK c.notrack b
    let s := (s.wr F.METER_BANK_FLAGS_NOLOAD_SEEN c.noloadSeen b).wr F.METER_BANK_FLAGS_CLIP c.clip b
    let s := (s.wr F.METER_BANK_FLAGS_REV_Q c.revQ b).wr F.METER_BANK_FLAGS_REV_P c.revP b
    (s.wr F.METER_LAT_SEQ seq).wr F.METER_LAT_STAT_NEWEST b

/-! ### One sample -/

/-- CLIP of the channels of one sample; the first of a channel in a span is recorded (R328). -/
def State.noteClips (s : State) (codes : List Int) : State :=
  s.each (List.range 8) fun s c =>
    if !clips (codes.getD c 0) then s
    else
      let s := s.setMap F.METER_STAT_CLIP c
      let first := !s.meter.clipSpan.testBit c
      let s := { s with meter := { s.meter with
        clipSpan := s.meter.clipSpan ||| 2 ^ c, latClip := s.meter.latClip ||| 2 ^ c
        winClip := s.meter.winClip ||| 2 ^ c, cycClip := s.meter.cycClip ||| 2 ^ c
        freqClip := s.meter.freqClip ||| 2 ^ c } }
      if first then s.raise 0x807 c [c] else s

/-! ### RMS, tracking and voltage events (R330, R335, R336) -/

/-- The RMS of `n` squares of sum `sq` (2^-330), in mV or mA. -/
def rmsMilli (sq n : Nat) : Nat :=
  let x := sq * 1000000 / (n * 2 ^ 330)
  let r := isqrt x
  if r * r = x then r else r + (Config.roundUp sq n).toNat

/-- UDIN in units of 2^-149 V; a UDIN that is no number gives no stated value. -/
def State.udin (s : State) : Int × State :=
  match f149 (BitVec.ofNat 32 (s.rd F.METER_UDIN)) with
  | some u => (u, s)
  | none => let (v, s) := s.free 12; ((v : Nat), s)

/-- RMS of `n` squares of sum `sq` compared with `th` × 0.5 % of `u`: below it. -/
def rmsBelow (sq n : Nat) (th : Nat) (u : Int) : Bool := decide ((sq : Int) * 40000 < (th * u * 65536) * (th * u * 65536) * n)

/-- RMS of `n` squares of sum `sq` lies above `th` × 0.5 % of `u`. -/
def rmsAbove (sq n : Nat) (th : Nat) (u : Int) : Bool := decide ((th * u * 65536) * (th * u * 65536) * n < (sq : Int) * 40000)

/-- Sum of squares of phase `x`'s voltage over the last `n` samples. -/
def State.sumV (s : State) (n x : Nat) : Nat :=
  ((s.meter.lines.take n).map fun l => (phaseV x l * phaseV x l).toNat).sum

/-- Cycle frequency in mHz from a period in CK_CONV cycles. -/
def mHz (period : Nat) : Nat := if period = 0 then 0 else divFree 128000000000 period

/-- The phases whose test holds, as a bit map. -/
def phaseMap (l : List Nat) (p : Nat → Bool) : Nat := mapOf 3 fun x => l.contains x && p x

/-- Step one voltage event (R336): `start` the phases that start it, `ends` whether it ends, `ext` the extreme of this half
cycle, `low` whether the extreme is the lowest. Answers the event in progress, and the one that ended. -/
def stepVolt (e : Option VoltEvent) (stamp : Nat × Nat) (start : Nat) (ends : Bool) (ext : Nat) (low : Bool) :
    Option VoltEvent × Option VoltEvent :=
  match e with
  | none => if start ≠ 0 then (some ⟨stamp.1, stamp.2, 1, ext, start⟩, none) else (none, none)
  | some e =>
    if ends then (none, some e)
    else (some { e with halves := e.halves + 1, phases := e.phases ||| start
                        extreme := if low then min e.extreme ext else max e.extreme ext }, none)

/-- The voltage events of a half cycle (R336). -/
def State.voltEvents (s : State) : State :=
  let n := s.meter.halfSamples + s.meter.prevHalf
  if n = 0 then s else
  let (u, s) := s.udin
  let sag := s.rd F.METER_EVT_TH_SAG_TH
  let swell := s.rd F.METER_EVT_TH_SWELL_TH
  let int := s.rd F.METER_EVT_TH_INT_TH
  let hy := s.rd F.METER_EVT_TH_HYST
  let ph := s.phases
  let sq (x : Nat) : Nat := s.sumV n x
  let lowest := ((ph.map fun x => rmsMilli (sq x) n).min?).getD 0
  let highest := ((ph.map fun x => rmsMilli (sq x) n).max?).getD 0
  let st := s.sampleStamp
  let (e0, d0) := stepVolt s.meter.sag st (phaseMap ph fun x => rmsBelow (sq x) n sag u)
    (ph.all fun x => !rmsBelow (sq x) n (sag + hy) u) lowest true
  let (e1, d1) := stepVolt s.meter.swell st (phaseMap ph fun x => rmsAbove (sq x) n swell u)
    (decide (hy ≤ swell) && ph.all fun x => !rmsAbove (sq x) n (swell - hy) u) highest false
  let allLow := ph.all fun x => rmsBelow (sq x) n int u
  let (e2, d2) := stepVolt s.meter.interrupt st (if allLow then phaseMap ph (fun _ => true) else 0)
    (ph.any fun x => !rmsBelow (sq x) n (int + hy) u) lowest true
  let s := { s with meter := { s.meter with
    sag := e0, swell := e1, interrupt := e2
    winFlagged := s.meter.winFlagged || e0.isSome || e1.isSome || e2.isSome || d0.isSome || d1.isSome || d2.isSome
    mainsHalves := if allLow then s.meter.mainsHalves + 1 else 0 } }
  let s := s.wr F.METER_STAT_EVT (e0.isSome.toNat + 2 * e1.isSome.toNat + 4 * e2.isSome.toNat)
  let words (e : VoltEvent) : List Nat := wStamp (e.frame, e.offset) ++ [e.halves, e.extreme]
  let s := match d0 with | some e => s.event 0x800 (words e ++ [e.phases]) | none => s
  let s := match d1 with | some e => s.event 0x801 (words e ++ [e.phases]) | none => s
  match d2 with | some e => s.event 0x802 (words e) | none => s

/-- A line's last cycle qualifies it as a reference (R330): fundamental at least 20 % of UDIN, 45 Hz to 66 Hz. -/
def State.lineCycle (s : State) (u : Int) (x : Nat) : Bool × Nat :=
  let v := (s.meter.lines.take (s.meter.halfSamples + s.meter.prevHalf)).map (phaseV x)
  let per := Config.period v
  (decide (u * 65536 ≤ (Config.fundamental v : Int) * 5) && decide (128000000 ≤ 66 * per)
    && decide (45 * per ≤ 128000000), per)

/-- Line tracking at the end of a half cycle (R330). -/
def State.trackLine (s : State) : State :=
  let (u, s) := s.udin
  let s := if s.meter.evenHalf then
      s.each [0, 1, 2] fun s x =>
        let n := if (s.lineCycle u x).1 then min 8 (Sparse.get s.meter.goodCycles 0 x + 1) else 0
        { s with meter := { s.meter with goodCycles := Sparse.set s.meter.goodCycles 0 x n } }
    else s
  let fref := s.rd F.METER_CTL_FREF
  if s.bit F.METER_STAT_TRACKING then
    let x := s.rd F.METER_STAT_FREF_USED
    let (ok, per) := s.lineCycle u x
    let last := s.meter.period
    let s := { s with meter := { s.meter with period := per } }
    if ok then { s with meter := { s.meter with badHalves := 0 } }
    else if s.meter.badHalves + 1 < 2 then
      { s with meter := { s.meter with badHalves := s.meter.badHalves + 1 } }
    else
      ({ s with meter := { s.meter with badHalves := 0 } }.wrB F.METER_STAT_TRACKING false).event 0x803 [x, mHz last]
  else
    let ls := if fref = 3 then s.phases else [fref]
    match ls.find? fun x => 8 ≤ Sparse.get s.meter.goodCycles 0 x with
    | none => s
    | some x =>
      let per := (s.lineCycle u x).2
      let s := (s.wrB F.METER_STAT_TRACKING true).wr F.METER_STAT_FREF_USED x
      { s with meter := { s.meter with badHalves := 0, period := per } }.event 0x804 [x, mHz per]

/-- FREF was written: the reference line is the one it names, and with AUTO the lowest-numbered active phase that qualifies
(R330). -/
def State.frefWritten (s : State) : State :=
  if !s.bit F.METER_STAT_TRACKING then s
  else
    let fref := s.rd F.METER_CTL_FREF
    let used := s.rd F.METER_STAT_FREF_USED
    let x := if fref ≠ 3 then fref
      else (s.phases.find? fun x => 8 ≤ Sparse.get s.meter.goodCycles 0 x).getD used
    if x = used then s
    else { s.wr F.METER_STAT_FREF_USED x with meter := { s.meter with badHalves := 0 } }

/-- Write a measured quantity: its register and its points (R340, R348). -/
def State.putMeas (s : State) (q : Nat) (v : Int) (fault flagged : Bool) : State :=
  let s := s.wr F.METER_MEAS (unsigned 32 v) (q - 0xC0)
  if !s.quantityLive q then s
  else if flagged then s.feedSubst 3 q v s.sampleStamp
  else s.feed 3 q v fault s.sampleStamp

/-- A power of sum `z` over `n` samples, in units of 0.1. -/
def tenths (z : Int) (n : Nat) : Int := divFreeZ (z * 10) (n * 2 ^ 330)

/-- The end of a 10- or 12-cycle window (R335). -/
def State.windowEnd (s : State) : State :=
  let m := s.meter
  let n := m.winSamples
  let s := { s with meter := { m with
    winCycles := 0, winSamples := 0, winSq := [], winPow := [], winClip := 0
    winFlagged := m.sag.isSome || m.swell.isSome || m.interrupt.isSome } }
  if n = 0 then s else
  let bad (q : Nat) : Bool := decide (m.winClip &&& s.channelsOf q ≠ 0)
  let put (s : State) (q : Nat) (v : Int) : State := s.putMeas q v (bad q) m.winFlagged
  let pw (x : Nat) : PhasePower := m.winPow.getD x ⟨0, 0, 0, 0⟩
  let ap (x : Nat) : Nat := isqrt ((pw x).vv * (pw x).ii)
  let tot (f : Nat → Int) : Int := (s.phases.map f).foldl (· + ·) 0
  let val (f : Nat → Int) (x : Nat) : Int := if x = 3 then tot f else f x
  let s := s.each (List.range 8) fun s c => put s (0xC0 + c) (rmsMilli (m.winSq.getD c 0) n)
  let s := s.each [0, 1, 2, 3] fun s x => put s (0xC8 + x) (tenths (val (fun x => (pw x).p) x) n)
  let s := s.each [0, 1, 2, 3] fun s x => put s (0xCC + x) (tenths (val (fun x => (pw x).q) x) n)
  let s := s.each [0, 1, 2, 3] fun s x => put s (0xD0 + x) (tenths (val (fun x => (ap x : Int)) x) n)
  s.each [0, 1, 2, 3] fun s x =>
    let a := val (fun x => (ap x : Int)) x
    put s (0xD4 + x) (if a = 0 then 0 else divFreeZ (val (fun x => (pw x).p) x * 1000000) a.toNat)

/-- A cycle of the reference line ends: cycle frequency, and the aggregation window (R335). -/
def State.cycleEnd (s : State) : State :=
  let tracking := s.bit F.METER_STAT_TRACKING
  let clipped := s.meter.cycClip &&& s.channelsOf 0xD9 != 0
  let s := s.putMeas 0xD9 (mHz s.meter.period) (!tracking || clipped) false
  let s := { s with meter := { s.meter with
    cycClip := 0
    winCycles := s.meter.winCycles + 1
    freqCycles := if tracking then s.meter.freqCycles + 1 else s.meter.freqCycles
    freqTime := if tracking then s.meter.freqTime + s.meter.period else s.meter.freqTime } }
  if s.meter.winCycles < (if s.bit F.METER_CTL_NOM_F then 12 else 10) then s else s.windowEnd

/-! ### Power-fail warning and the residue block (R350 to R355) -/

/-- The snapshot of the eight selected quantities (R351). -/
def State.residueSnap (s : State) (cause : Nat) : State :=
  let es := s.meter.selInForce.map fun q => if q = 0xFF then (0, 0) else s.accOf q
  { s with meter := { s.meter with snap := some (cause, s.frame, es) } }

/-- The residue block of a snapshot (R352), with its CRC. -/
def State.residueBytes (s : State) (cause frame : Nat) (es : List (Nat × Nat)) : List Byte :=
  let sels := s.meter.selInForce
  let entry (k : Nat) : Nat × Nat × Bool :=
    let q := sels.getD k 0xFF
    if q = 0xFF then (0, 0, false) else
      let (pc, r) := es.getD k (0, 0)
      let d := (pc + 2 ^ 64 - Sparse.get s.meter.saved 0 q) % 2 ^ 64
      (min d 0xFFFF, r / 2 ^ 56, decide (0xFFFF < d))
  let sat := (List.range 8).any fun k => (entry k).2.2
  let flags := cause + 4 * sat.toNat + 8 * s.meter.nosave.toNat
  let pre := toBytes 0x4D45 2
  let post := [BitVec.ofNat 8 flags] ++ toBytes (s.meter.mark % 2 ^ 16) 2 ++ toBytes frame 6
    ++ (List.range 8).flatMap (fun k => toBytes (entry k).1 2 ++ [BitVec.ofNat 8 (entry k).2.1])
    ++ (List.range 8).map fun k => BitVec.ofNat 8 (sels.getD k 0xFF)
  pre ++ [0xA5] ++ post ++ toBytes (crc32c (pre ++ [0] ++ post)) 4

/-- Write bytes 0 to 47 of keystone RAM. -/
def State.setResidue (s : State) (bs : List Byte) : State :=
  s.each (List.range 12) fun s w => s.wr F.KEEP_RAM (leBytes (fun k => bs.getD k 0) (4 * w) 4) w

/-- Bytes 0 to 47 of keystone RAM. -/
def State.residue (s : State) : List Byte := (List.range 12).flatMap fun w => toBytes (s.rd F.KEEP_RAM w) 4

/-- The block is formed and written; STATE is WRITTEN and BLK_DONE is set (R351). -/
def State.writeResidue (s : State) : State :=
  match s.meter.snap with
  | none => s
  | some (cause, frame, es) =>
    let s := { s with meter := { s.meter with snap := none } }
    if s.bit F.METER_PF_CTL_BLK_EN then
      ((s.setResidue (s.residueBytes cause frame es)).wrB F.METER_PF_STAT_BLK_DONE true).wr F.METER_PF_STAT_CAUSE cause
    else s

/-- Set STATE of the residue block: byte 2 of keystone RAM. -/
def State.setResidueState (s : State) (b : Nat) : State :=
  let w := s.rd F.KEEP_RAM 0
  s.wr F.KEEP_RAM (w - w / 2 ^ 16 % 256 * 2 ^ 16 + b * 2 ^ 16) 0

/-- The mains cause of PFW holds (R350). -/
def State.mainsLow (s : State) : Bool :=
  let k := s.rd F.METER_PF_CTL_MAINS_K
  k != 0 && decide (k ≤ s.meter.mainsHalves)

/-- PFW is raised (R350, R351). -/
def State.raisePfw (s : State) (cause : Nat) : State :=
  if s.bit F.METER_PF_STAT_PFW then s
  else
    let s := (((s.wrB F.METER_PF_STAT_PFW true).wrB F.METER_STAT_PFW true).wrB F.METER_PF_STAT_BLK_DONE false).event
      0x805 [cause, s.rd F.HEALTH_SUP 0]
    let s := { s with meter := { s.meter with pfwSince := s.nowUs / 1000 } }
    if s.bit F.METER_PF_CTL_BLK_EN then s.residueSnap cause else s

/-- PFW clears (R350, R351), unless the mains cause holds. -/
def State.clearPfw (s : State) : State :=
  if !s.bit F.METER_PF_STAT_PFW || s.mainsLow then s
  else
    let s := ((s.wrB F.METER_PF_STAT_PFW false).wrB F.METER_STAT_PFW false).event 0x806
      [s.nowUs / 1000 - s.meter.pfwSince]
    if s.bit F.METER_PF_CTL_BLK_EN then s.setResidueState 0 else s

/-! ### Half cycles (R332, R335) -/

/-- A half cycle of the line ends: voltage events, the mains cause of PFW, tracking, and at every second one the cycle's
values. -/
def State.halfCycle (s : State) : State :=
  let s := s.voltEvents
  let s := if s.mainsLow then s.raisePfw 1 else s
  let s := { s with meter := { s.meter with evenHalf := !s.meter.evenHalf } }
  let s := s.trackLine
  let s := if s.meter.evenHalf then s.cycleEnd else s
  { s with meter := { s.meter with prevHalf := s.meter.halfSamples, halfSamples := 0 } }

/-- While TRACKING is 0 the samples time the line cycle (R332): half of it after half its nominal count, and the whole, which
counts towards the latch, after all of it. -/
def State.nominalCount (s : State) : State :=
  if s.bit F.METER_STAT_TRACKING then { s with meter := { s.meter with cycleSamples := 0 } }
  else
    let n := s.meter.cycleSamples + 1
    if n < s.nominalCycle then
      let s := { s with meter := { s.meter with cycleSamples := n } }
      if n = s.nominalCycle / 2 then s.halfCycle else s
    else ({ s with meter := { s.meter with cycleSamples := 0 } }.halfCycle).countCycle 0

/-- A metering sample becomes available. -/
def State.meterSample (s : State) (raw : List Int) : State :=
  let s := s.noteClips raw
  let codes := (((List.range 8).map fun c => endCode (raw.getD c 0)) :: s.meter.codes).take 64
  let s := { s with meter := { s.meter with codes := codes } }
  let (xs, s) := s.lineValues codes
  let lines := (xs :: s.meter.lines).take 1024
  let pw := (List.range 3).map fun x => if s.phases.contains x then phasePower lines x else ⟨0, 0, 0, 0⟩
  let sq := (List.range 8).map fun c => s.meter.winSq.getD c 0 + (xs.getD c 0 * xs.getD c 0).toNat
  let wp := (List.range 3).map fun x => (s.meter.winPow.getD x ⟨0, 0, 0, 0⟩).add (pw.getD x ⟨0, 0, 0, 0⟩)
  let s := { s with meter := { s.meter with
    lines := lines, powers := (pw :: s.meter.powers).take 1024, winSq := sq, winPow := wp
    winSamples := s.meter.winSamples + 1, halfSamples := s.meter.halfSamples + 1 } }
  let s := s.accumulateAll
  let s := { s with meter := { s.meter with
    sampleNo := s.meter.sampleNo + 1
    latSamples := s.meter.latSamples + 1
    latNoload := s.meter.latNoload ||| s.rd F.METER_STAT_NOLOAD
    latNotrack := s.meter.latNotrack || !s.bit F.METER_STAT_TRACKING } }
  let s := s.nominalCount
  if s.meter.latchNow || s.meter.latchDue.any (· ≤ s.sampleInput) then s.takeLatch else s

/-- The check of keystone RAM at the start-up of PD_METER: BLK and event 0x809 (R354). -/
def State.checkBlock (s : State) : State :=
  let b := s.residue
  let at' (k : Nat) : Nat := (b.getD k 0).toNat
  let magic := at' 0 + 256 * at' 1 = 0x4D45
  let st := at' 2
  let crcOk := crc32c ((b.take 2) ++ [0] ++ (b.drop 3).take 41) = leBytes (fun k => b.getD k 0) 44 4
  let blk :=
    if !s.bit F.KEEP_STAT_VALID then 4
    else if !s.bit F.METER_PF_CTL_BLK_EN || (decide magic && (st == 0 || st == 0x5A)) then 0
    else if !decide magic || !decide crcOk || !(st == 0 || st == 0xA5 || st == 0x5A) then 3
    else if (at' 3).testBit 2 then 2 else 1
  (s.wr F.METER_PF_STAT_BLK blk).event 0x809 ([blk, at' 3 % 4] ++ w48 (leBytes (fun k => b.getD k 0) 6 6))

/-! ### Registers with an effect -/

/-- Setting RUN (R353, R355): the save-mark values, NOSAVE, the full-scale rates. -/
def State.startRun (s : State) : State :=
  let s := { s.wrB F.METER_CTL_RUN true with
    meter := { s.meter with saved := (s.meter.acc.map fun (kv : Nat × Nat × Nat) => (kv.1, kv.2.1)), nosave := true } }
  let scales := (List.range 8).map fun c => s.rd F.METER_CH_SCALE c
  let gains := (List.range 8).map fun c => s.rd F.METER_CH_CFG_GAIN c
  s.each (List.range 8) fun s k =>
    let q := s.meter.selInForce.getD k 0xFF
    if q = 0xFF then s.wr F.METER_PF_FSR 0 k
    else s.wr F.METER_PF_FSR (min (Config.fullScaleRate q scales gains (s.quantum q)) 0xFFFFFFFF) k

/-- The quantity indices METER_PF_SEL names. -/
def State.pfSel (s : State) : List Nat :=
  (toBytes (s.rd F.METER_PF_SEL0) 4 ++ toBytes (s.rd F.METER_PF_SEL1) 4).map (·.toNat)

/-- A write of METER_SAVE_MARK (R353). -/
def State.writeSaveMark (s : State) (v : Nat) : State :=
  let b := s.rd F.METER_LAT_STAT_LOCK_BANK
  if s.bit F.METER_LAT_STAT_LOCKED && s.rd F.METER_BANK_SEQ b == v then
    let sel := s.pfSel
    let pc (q : Nat) : Nat := s.rd F.METER_BANK_Q_PC_LO b q + 2 ^ 32 * s.rd F.METER_BANK_Q_PC_HI b q
    let saved := (sel.filter (· ≠ 0xFF)).foldl (fun m q => Sparse.put m q (pc q)) ([] : Sparse Nat)
    { s.wr F.METER_SAVE_MARK v with
      meter := { s.meter with selInForce := sel, saved := saved, nosave := false, mark := v } }
  else s.wrB F.METER_PF_STAT_SAVE_REFUSED true

/-- LOAD sets PC and R of a quantity while RUN is 0 (R342). -/
def State.loadQuantity (s : State) : State :=
  let q := s.rd F.METER_LOAD_Q
  if s.bit F.METER_CTL_RUN || !isEnergy q then s
  else
    let pc := s.rd F.METER_LOAD_LO + 2 ^ 32 * s.rd F.METER_LOAD_HI
    { s with meter := { s.meter with acc := Sparse.set s.meter.acc (0, 0) q (pc, s.rd F.METER_LOAD_RES * 2 ^ 56) } }

/-- OPEN locks the newest bank (R346). -/
def State.openBank (s : State) : State :=
  if s.bit F.METER_LAT_STAT_LOCKED then s
  else (s.wrB F.METER_LAT_STAT_LOCKED true).wr F.METER_LAT_STAT_LOCK_BANK (s.rd F.METER_LAT_STAT_NEWEST)

/-- CLOSE releases the locked bank (R346). -/
def State.closeBank (s : State) : State := s.wrB F.METER_LAT_STAT_LOCKED false

/-- LATCH_NOW: latch at the next sample, and restart the cycle count (R345). -/
def State.latchAtOnce (s : State) : State :=
  { s with meter := { s.meter with latchNow := true, latchDue := none } }

/-- CONSUME (R354). -/
def State.consumeBlock (s : State) : State :=
  if s.bit F.METER_PF_CTL_BLK_EN then s.setResidueState 0x5A else s

/-! ### Zero-cross switching (R333, R334) -/

/-- What a command point of the set in force gives (R267): a value, the command as it was, or an unusable point. -/
inductive CmdIn where
  | val (v : Word)
  | keep
  | bad (qual fmt : Nat)
  deriving DecidableEq, Repr

/-- The command a point gives when formats `fmts` are usable (R267, R296, R313). -/
def State.cmdIn (s : State) (p : Nat) (fmts : List Nat) : CmdIn :=
  match s.span.inForce.find? fun c => c.pt == p with
  | none => .bad Quality.unbound.code 0
  | some c =>
    if c.qual = .stale then .keep
    else if c.qual != .fault && c.qual != .unbound && fmts.contains c.fmt then .val c.value
    else .bad c.qual.code c.fmt

/-- The formats of an on/off command: I32, U32, BITS (R267). -/
def onOffFormats : List Nat := [2, 3, 4]

/-- Make the change of a slot now. -/
def State.zswSet (s : State) (k : Nat) (b : Bool) : State :=
  { (s.wrB F.METER_ZSW_STAT_LEVEL b k).wrB F.METER_ZSW_STAT_PENDING false k with
    meter := { s.meter with zswTarget := Sparse.del s.meter.zswTarget k
                            zswTimed := s.meter.zswTimed.filter (· ≠ k) } }

/-- Cancel the armed change of a slot. -/
def State.zswCancel (s : State) (k : Nat) : State :=
  s.zswSet k (s.bit F.METER_ZSW_STAT_LEVEL k)

/-- A slot at an apply instant (R333, R334). -/
def State.zswApply (s : State) (k : Nat) : State :=
  if !s.bit F.METER_ZSW_CFG_EN k then s
  else
    let (cmd, bad) := match s.cmdIn (s.rd F.METER_ZSW_PT k) onOffFormats with
      | .val v => (v.getLsbD 0, false)
      | .keep => (Sparse.get s.meter.zswCmd false k, false)
      | .bad .. => (false, true)
    let s := s.wrB F.METER_ZSW_STAT_CMDBAD bad k
    let s := { s with meter := { s.meter with zswCmd := Sparse.set s.meter.zswCmd false k cmd } }
    if cmd = s.bit F.METER_ZSW_STAT_LEVEL k then s.zswCancel k
    else if !s.bit F.METER_STAT_TRACKING && !s.bit F.METER_ZSW_CFG_NOSYNC k then
      (s.zswSet k cmd).wrB F.METER_ZSW_STAT_NOSYNC_USED true k
    else if Sparse.find? s.meter.zswTarget k = some cmd then s
    else
      { s.wrB F.METER_ZSW_STAT_PENDING true k with
        meter := { s.meter with zswTarget := Sparse.put s.meter.zswTarget k cmd
                                zswTimed := s.meter.zswTimed.filter (· ≠ k) } }

/-- The zero-cross a slot's armed change waits for: its delay begins (R334). -/
def State.zswMark (s : State) (line : Nat) (rising : Bool) : State :=
  s.each [0, 1, 2, 3] fun s k =>
    let edge := s.rd F.METER_ZSW_CFG_EDGE k
    if s.bit F.METER_ZSW_CFG_EN k && s.bit F.METER_ZSW_STAT_PENDING k && s.rd F.METER_ZSW_CFG_LINE k == line
        && edge.testBit (if rising then 0 else 1) && !s.meter.zswTimed.contains k then
      { s with meter := { s.meter with zswTimed := k :: s.meter.zswTimed } }
    else s

/-- The status word of the block (R349). -/
def State.meterStatus (s : State) : Nat :=
  s.rd F.METER_STAT_TRACKING + 2 * s.rd F.METER_STAT_PFW + 4 * s.rd F.METER_STAT_EVT + 2 ^ 8 * s.meter.clipLast
    + 2 ^ 16 * s.rd F.METER_STAT_NOLOAD

/-- The status word is sampled: its register and its points take it (R340, R349). -/
def State.meterStatusSample (s : State) : State :=
  (s.wr F.METER_MEAS s.meterStatus (0xDA - 0xC0)).feed 3 0xDA s.meterStatus false s.stamp

/-! ### Commands -/

/-- METER_SAMPLE_READY (R337). -/
def execMeterSampleReady (codes : List Int) (s : State) : Out := s.act [.meter] fun s => s.inCycle fun s => s.meterSample codes

/-- LATCH_DONE (R345). -/
def execLatchDone (s : State) : Out := s.act [.meter] fun s => s.latchComplete

/-- HALF_CYCLE_END (R335): at a zero-cross of the reference line, so only while TRACKING is 1; else the samples time the half
cycles (R332). -/
def execHalfCycleEnd (s : State) : Out :=
  s.act [.meter] fun s => if s.bit F.METER_STAT_TRACKING then s.inCycle State.halfCycle else s

/-- FREQ_INTERVAL (R335). -/
def execFreqInterval (s : State) : Out :=
  s.act [.meter] fun s =>
    let (v, s) := if s.meter.freqTime = 0 then s.free 14
      else (divFree (s.meter.freqCycles * 128000000000) s.meter.freqTime, s)
    let clipped := s.meter.freqClip &&& s.channelsOf 0xD8 != 0
    let s := { s with meter := { s.meter with freqCycles := 0, freqTime := 0, freqClip := 0 } }
    s.putMeas 0xD8 v (!s.bit F.METER_STAT_TRACKING || clipped) false

/-- ZSW_SWITCH (R334). -/
def execZswSwitch (k : Fin 4) (s : State) : Out :=
  s.act [.meter] fun s =>
    match Sparse.find? s.meter.zswTarget k with
    | some b => if s.meter.zswTimed.contains k.val && s.drives then s.zswSet k b else s
    | none => s

/-- LATCH_NOW (R345). -/
def execLatchNow (s : State) : Out := s.reach [.meter] fun s => s.latchAtOnce

/-- LAT_OPEN (R346). -/
def execLatOpen (s : State) : Out := s.reach [.meter] fun s => s.openBank

/-- LAT_CLOSE (R346). -/
def execLatClose (s : State) : Out := s.reach [.meter] fun s => s.closeBank

/-- METER_LOAD (R342). -/
def execMeterLoad (s : State) : Out := s.reach [.meter] fun s => s.loadQuantity

/-- SAVE_MARK (R353). -/
def execSaveMark (v : Word) (s : State) : Out := s.reach [.meter] fun s => s.writeSaveMark v.toNat

/-- CONSUME (R354). -/
def execConsume (s : State) : Out := s.reach [.meter] fun s => s.consumeBlock

/-- METER_RUN (R353). -/
def execMeterRun (s : State) : Out := s.reach [.meter] fun s => if s.bit F.METER_CTL_RUN then s else s.startRun

/-- EPULSE_TIMER (R343): a pulse ends and its gap begins, or a gap ends. -/
def execEpulseTimer (k : Fin 4) (s : State) : Out :=
  s.act [.meter] fun s =>
    if s.meter.pulsing.contains k.val then
      { s with meter := { s.meter with pulsing := s.meter.pulsing.filter (· ≠ k.val), gaps := k.val :: s.meter.gaps } }
    else { s with meter := { s.meter with gaps := s.meter.gaps.filter (· ≠ k.val) } }.epulseKick k

/-- PFW_RAISE (R350): cause 0, VIN has been below 17 V for 1 µs, which is below its release level (R460); cause 1, when the mains
condition holds. There is no other cause. The supply monitor is the supervisor's own; PFW is the meter's. -/
def execPfwRaise (cause : BitVec 2) (s : State) : Out :=
  s.act [] fun s =>
    let s := if cause = 0 then s.wr F.SYS_PWR_STAT_GOOD 0x1E else s
    if s.domOn .meter && (cause = 0 || (cause = 1 && s.mainsLow)) then s.raisePfw cause.toNat else s

/-- RESIDUE_WRITTEN (R351). -/
def execResidueWritten (s : State) : Out := s.act [.meter] fun s => s.writeResidue

/-- PFW_CLEAR (R350): VIN is at or above its release level again (R460). -/
def execPfwClear (s : State) : Out :=
  s.act [] fun s =>
    if !s.domOn .meter then s.wr F.SYS_PWR_STAT_GOOD 0x1F
    else if s.mainsLow then s
    else (s.wr F.SYS_PWR_STAT_GOOD 0x1F).clearPfw

end Sys2Proof.Machine
end

