-- ==== Sys2Proof/Machine/Sol.lean ====
section
/-! DEFINITION. The solenoid channels (09_solenoid_channels.md). -/

namespace Sys2Proof.Machine

/-! ### Drive pins -/

/-- What a drive pin does: high-impedance; held low; held on or, open-drain, released; on or released for `d` CK_DRV cycles
from each period start; low and on as the channel's PWM has it. -/
inductive Pin where
  | free | low | on | pulse (d : Nat) | pwm
  deriving DecidableEq, Repr

/-- Output pins of the drive channels and pulse outputs, by channel: SOLn_G, HSWk_G, a high-side or low-side gate of a motor phase,
FANn_PWM, FANn_G, EPULSEk. -/
inductive Pad where
  | sol (n : Nat) | hsw (k : Nat) | mot (n phase : Nat) (high : Bool) | fanPwm (n : Nat) | fanG (n : Nat) | epulse (k : Nat)
  deriving DecidableEq, Repr

/-- The model's number of a pin. -/
def Pad.code : Pad → Nat
  | .sol n => n | .hsw k => 64 + k | .mot n p h => 128 + 6 * n + 2 * p + h.toNat
  | .fanPwm n => 256 + n | .fanG n => 320 + n | .epulse k => 384 + k

/-- The level that EXTEST drives onto a pin from the boundary register (R506); none while the device's own function does. -/
def State.extestLevel (s : State) (p : Pad) : Option Bool :=
  if s.dbg.ir = .extest then s.dbg.boundary[Config.boundaryCell p.code]? else none

/-- A pin to which its block gives `v`: under EXTEST its cell has it (R506). -/
def State.pad (s : State) (p : Pad) (v : Pin) : Pin :=
  match s.extestLevel p with
  | some true => .on
  | some false => .low
  | none => v

/-- What a gate pin does, where its channel gives it `p` (R361, R460, R505): nothing while the outputs are not driven, low
while VGD is. -/
def State.gatePin (s : State) (p : Pin) : Pin :=
  if !s.drives then .free else if s.power.vgdLow then .low else p

/-- The test of gate unit `u` runs or is to run (R455): its channel stays in FAULT. -/
def State.gateTested (s : State) (u : Nat) : Bool :=
  s.testPending 3 u

/-- The level of the pin EPULSE`k`, none where it is high-impedance (R343, R361); under EXTEST its cell's (R506). -/
def State.epulseLevel (s : State) (k : Nat) : Option Bool :=
  match s.extestLevel (.epulse k) with
  | some b => some b
  | none => s.epulsePin k

/-! ### States and groups -/

/-- SOL_CHn_STAT.STATE codes (R270). -/
inductive SolState where
  | off | idle | wait | pick | hold | release | fault
  deriving DecidableEq, Repr

/-- The code of a channel state. -/
def SolState.code : SolState → Nat
  | .off => 0 | .idle => 1 | .wait => 2 | .pick => 3 | .hold => 4 | .release => 5 | .fault => 6

/-- OUTCOME codes of the drive channels: NONE, DONE, ABORTED, FAULT. -/
inductive Outc where
  | none | done | aborted | fault
  deriving DecidableEq, Repr

/-- The code of an outcome. -/
def Outc.code : Outc → Nat
  | .none => 0 | .done => 1 | .aborted => 2 | .fault => 3

/-- What channel `n` keeps beside its registers. -/
def State.solCh (s : State) (n : Nat) : SolCh := Sparse.get s.sol.ch {} n

/-- Change what channel `n` keeps. -/
def State.solMod (s : State) (n : Nat) (f : SolCh → SolCh) : State :=
  { s with sol := { s.sol with ch := Sparse.set s.sol.ch {} n (f (s.solCh n)) } }

/-- Channel `n` stands in state `k`. -/
def State.solIs (s : State) (n : Nat) (k : SolState) : Bool := s.rd F.SOL_CH_STAT_STATE n == k.code

/-- Put channel `n` into state `k`. -/
def State.solTo (s : State) (n : Nat) (k : SolState) : State := s.wr F.SOL_CH_STAT_STATE k.code n

/-- Set OUTCOME of channel `n`. -/
def State.solOutcome (s : State) (n : Nat) (o : Outc) : State := s.wr F.SOL_CH_STAT_OUTCOME o.code n

/-- The channels of group `k` (R258). -/
def groupOf (k : Nat) : List Nat := [4 * k, 4 * k + 1, 4 * k + 2, 4 * k + 3]

/-- Channel `n` holds its group's high side on (R260). -/
def State.solHolds (s : State) (n : Nat) : Bool :=
  s.solIs n .pick || s.solIs n .hold || (s.solIs n .release && !s.bit F.SOL_CH_CFG_REL n)

/-- The load of group `k` (R277). -/
def State.solLoad (s : State) (k : Nat) : Nat :=
  ((groupOf k).map fun n =>
    if s.solIs n .pick then s.rd F.SOL_CH_PROF_PICK_I n
    else if s.solIs n .hold then s.rd F.SOL_CH_PROF_HOLD_I n else 0).sum

/-- The requests of group `k` in its queue, oldest first. -/
def State.solQueue (s : State) (k : Nat) : List Nat := s.sol.queue.filter fun n => n / 4 == k

/-- Take channel `n` out of the queue. -/
def State.solUnqueue (s : State) (n : Nat) : State :=
  { s with sol := { s.sol with queue := s.sol.queue.filter (· ≠ n) } }

/-- The CK_DRV cycle of this instant. -/
def State.drvNow (s : State) : Nat := (s.span.tickCyc + s.span.phase) / 2

/-- CK_DRV cycles from one apply instant to the next (R264). -/
def State.solSpan (s : State) : Nat := 50000 * 2 ^ s.span.applySel.getD s.sel

/-- Samples of period `idx` of channel `n` after an apply instant, and how many periods there are to the next (R264). -/
def State.solLen (s : State) (n idx : Nat) : Nat × Nat :=
  let per := s.rd F.SOL_CH_PWM_PER n
  let k := s.solSpan / per
  ((if idx + 1 < k then per else per + s.solSpan % per) / 100, k)

/-- The period in progress at this instant, by number, and the index of the next sample in it (R262 to R264). -/
def State.solPosition (s : State) (n : Nat) : Nat × Nat :=
  let per := s.rd F.SOL_CH_PWM_PER n
  let len := s.solSpan
  let x := (s.span.phase / 2 + len - 600) % len
  let idx := min (x / per) (len / per - 1)
  let i := (x - idx * per + 99) / 100
  if i < (s.solLen n idx).1 then (idx, i) else ((idx + 1) % (s.solLen n idx).2, 0)

/-- A stroke starts: channel `n` enters PICK, and its low side turns on for the rise (R265, R270, R272). -/
def State.solEnterPick (s : State) (n : Nat) : State :=
  let s := ((s.solTo n .pick).solOutcome n .none).wr F.SOL_CH_STAT_MOTION 0 n
  let s := s.wrB F.SOL_CH_STAT_SLOWREL false n
  let len := (s.solLen n (s.solCh n).idx).1
  let target := s.rd F.SOL_CH_PROF_PICK_I n
  s.solMod n fun c => { c with t := 0, peak := -2048, regulating := false, detDone := false, detLast := []
                               detMax := none, energy := 0, isOn := true, sinceOn := 0, target := target
                               onFor := len * 100, regFrom := false, abortAt := none, moved := false }

/-- The load of channel `n` fits beside the group's (R277). -/
def State.solFits (s : State) (n : Nat) : Bool :=
  decide (s.solLoad (n / 4) + s.rd F.SOL_CH_PROF_PICK_I n ≤ s.rd F.SOL_GRP_CFG_IMAX (n / 4))

/-- Test the head of group `k`'s queue, and the next as long as one is let in (R278). -/
def State.solServe (s : State) (k : Nat) : Nat → State
  | 0 => s
  | fuel + 1 =>
    match s.solQueue k with
    | [] => s
    | n :: _ => if s.solFits n then ((s.solUnqueue n).solEnterPick n).solServe k fuel else s

/-- A FAST release that another channel's high side makes slow (R276). -/
def State.solSlowCheck (s : State) (k : Nat) : State :=
  s.each (groupOf k) fun s n =>
    if s.solIs n .release && s.bit F.SOL_CH_CFG_REL n && !s.bit F.SOL_CH_STAT_SLOWREL n then
      match (groupOf k).find? fun m => m ≠ n && s.solHolds m with
      | some m => (s.wrB F.SOL_CH_STAT_SLOWREL true n).raise 0x502 n [n, m]
      | none => s
    else s

/-- What follows a state change in group `k`: the queue (R278), slow releases (R276), the group's status. -/
def State.solGroup (s : State) (k : Nat) : State :=
  let s := (s.solServe k 4).solSlowCheck k
  ((s.wr F.SOL_GRP_STAT_LOAD (s.solLoad k) k).wr F.SOL_GRP_STAT_QUEUED (s.solQueue k).length k).wrB
    F.SOL_GRP_STAT_HS_ON ((groupOf k).any s.solHolds) k

/-- SOLn_G (R265, R269, R270): with PWM in PICK and HOLD, low in every other state. -/
def State.solPin (s : State) (n : Nat) : Pin :=
  s.pad (.sol n) (s.gatePin (if s.solIs n .pick || s.solIs n .hold then .pwm else .low))

/-- HSWk_G (R260, R269). -/
def State.hswPin (s : State) (k : Nat) : Pin := s.pad (.hsw k) (s.gatePin (if (groupOf k).any s.solHolds then .on else .low))

/-! ### Strokes -/

/-- Channel `n` enters RELEASE (R276): its low side is off from here on. -/
def State.solEnterRelease (s : State) (n : Nat) : State :=
  ((s.solTo n .release).solMod n fun c => { c with isOn := false, low := 0 }).solGroup (n / 4)

/-- An ABORT, or an OFF, before the commit point (R272). -/
def State.solAborted (s : State) (n : Nat) : State :=
  let was := s.rd F.SOL_CH_STAT_STATE n
  let now := s.drvNow
  let s := ((s.solOutcome n .aborted).raise 0x506 n [n, was]).solMod n fun c => { c with abortAt := some now }
  if was = SolState.wait.code then ((s.solUnqueue n).solTo n .idle).solGroup (n / 4) else s.solEnterRelease n

/-- A pick request (R268, R275, R277): refused under OVER with POLICY REFUSE, let into PICK, or queued in WAIT. The
channel is disarmed until OFF is seen again, so that a held ON never retries. -/
def State.solRequest (s : State) (n : Nat) : State :=
  let s := s.wrB F.SOL_CH_STAT_ARMED false n
  if s.bit F.SOL_CH_STAT_OVER n && s.rd F.SOL_CH_I2T_CFG_POLICY n == 0 then
    (s.incSat F.SOL_CH_STAT_REFUSED n).raise 0x508 n [n, s.rd F.SOL_CH_I2T_SUM n]
  else if (s.solQueue (n / 4)).isEmpty && s.solFits n then (s.solEnterPick n).solGroup (n / 4)
  else
    let s := s.solTo n .wait
    { s with sol := { s.sol with queue := s.sol.queue ++ [n] } }.solGroup (n / 4)

/-- A pick request, or under THROTTLE its deferral to the apply instant of the following tick (R279). -/
def State.solAsk (s : State) (n : Nat) : State :=
  if s.throttling then s.solMod n fun c => { c with deferred := some false } else s.solRequest n

/-- ON is commanded (R268). -/
def State.solOn (s : State) (n : Nat) : State :=
  if s.solIs n .idle then
    if s.bit F.SOL_CH_STAT_ARMED n && (s.solCh n).deferred.isNone then s.solAsk n else s
  else if s.solIs n .release then s.solMod n fun c => { c with kept := true }
  else s

/-- OFF is commanded (R268, R270, R272). -/
def State.solOff (s : State) (n : Nat) : State :=
  if s.solIs n .off then s
  else
    let s := (s.wrB F.SOL_CH_STAT_ARMED true n).solMod n fun c => { c with kept := false, deferred := none }
    if s.solIs n .wait || s.solIs n .pick then s.solAborted n
    else if s.solIs n .hold then s.solEnterRelease n
    else s

/-- The motor that binds channel `n` as its brake commands it ON or OFF (R266, R302). -/
def State.brakeCmd (s : State) (n : Nat) (on : Bool) : State :=
  if s.bit F.SOL_CH_CFG_EN n && s.rd F.SOL_CH_CFG_SRC n == 2 && s.drives && s.domOn .sol then
    if on then (s.solMod n fun c => { c with failed := false, moved := false }).solOn n else s.solOff n
  else s

/-- An ABORT ended the stroke of channel `n` in this very CK_DRV cycle (R272). -/
def State.solJustAborted (s : State) (n : Nat) : Bool :=
  s.running && (s.solCh n).abortAt == some s.drvNow && s.rd F.SOL_CH_STAT_OUTCOME n == Outc.aborted.code

/-- A fault of channel `n` is recorded with its reason and the last sample (R280, R283). -/
def State.solRecord (s : State) (n reason : Nat) : State :=
  (s.wr F.SOL_CH_STAT_FLT_REASON reason n).raise 0x505 n [n, reason, wInt (s.solCh n).last]

/-- Channel `n` enters FAULT (R272, R280): OUTCOME only before the commit point, where a fault wins over an ABORT of the same
cycle. While the outputs are off, which forces every channel to IDLE (R269), the fault is recorded only. The group is not
looked at yet. -/
def State.solFaultIn (s : State) (n reason : Nat) : State :=
  if s.solIs n .off then s
  else if !s.drives then s.solRecord n reason
  else
    let pre := s.solIs n .wait || s.solIs n .pick || s.solJustAborted n
    let s := (if s.solJustAborted n then s.unraise 0x506 n else s).solRecord n reason
    let s := if pre then s.solOutcome n .fault else s
    let s := (s.solUnqueue n).solMod n fun c => { c with kept := false, deferred := none, isOn := false
                                                         failed := c.failed || pre }
    s.solTo n .fault

/-- Channel `n` enters FAULT, and its group follows (R278, R280). -/
def State.solFault (s : State) (n reason : Nat) : State := (s.solFaultIn n reason).solGroup (n / 4)

/-- The stroke commits: outcome DONE, HOLD. Its target and duty take effect at the next period start (R265, R271). -/
def State.solCommit (s : State) (n : Nat) : State :=
  ((s.solOutcome n .done).solTo n .hold).solMod n (fun c => { c with
    duty := s.rd F.SOL_CH_PWM_PER n * s.rd F.SOL_CH_PROF_HOLD_I n / s.rd F.SOL_CH_PROF_PICK_I n, err := 0
    regulating := true, regFrom := false }) |>.solGroup (n / 4)

/-- The end of PICK: the commit point (R271, R273). -/
def State.solPickEnd (s : State) (n : Nat) : State :=
  if !s.solIs n .pick then s
  else if s.rd F.SOL_CH_STAT_MOTION n = 1 then s.solCommit n
  else
    let s := (s.wr F.SOL_CH_STAT_MOTION 2 n).raise 0x500 n
      [n, s.rd F.SOL_CH_TIME_T_PICK n, wInt (s.solCh n).peak]
    if s.bit F.SOL_CH_CFG_NMFAULT n then s.solFault n 4 else s.solCommit n

/-- A release completes, once four samples in a row were at most IOFF (R270, R268): the stroke's energy is reported, and a
kept ON becomes a request. -/
def State.solReleaseDone (s : State) (n : Nat) : State :=
  if !(s.solIs n .release && decide (4 ≤ (s.solCh n).low)) then s
  else
    let c := s.solCh n
    let s := (s.wrS F.SOL_CH_ENERGY (divFreeZ c.energy (2 ^ 64)) n).solTo n .idle
    let s := (s.solMod n fun c => { c with kept := false, low := 0 }).solGroup (n / 4)
    if c.kept && s.bit F.SOL_CH_STAT_ARMED n then s.solAsk n else s

/-- A queued request has waited GRP_WAIT (R278): outcome FAULT, GRP_TIMEOUT, IDLE, disarmed. -/
def State.solGroupTimeout (s : State) (n : Nat) : State :=
  if !s.solIs n .wait then s
  else
    let k := n / 4
    let s := ((s.solUnqueue n).solTo n .idle).solOutcome n .fault
    let s := (s.wr F.SOL_CH_STAT_FLT_REASON 8 n).wrB F.SOL_CH_STAT_ARMED false n
    let s := (s.solMod n fun c => { c with failed := true }).incSat F.SOL_GRP_STAT_TIMEOUTS k
    (s.raise 0x501 n [n, k, s.solLoad k]).solGroup k

/-- The gate of channel `n` or the high side of its group is under test, or is to be: the channel stays in FAULT (R453). -/
def State.solTested (s : State) (n : Nat) : Bool := s.gateTested (gateUnit 0 n) || s.gateTested (gateUnit 3 (n / 4))

/-- CLEAR (R280): ignored while the current is above IOFF, and while the gate is under test (R453). -/
def State.solClear (s : State) (n : Nat) : State :=
  if s.solIs n .fault && decide ((s.solCh n).last ≤ s.rd F.SOL_CH_LIM_IOFF n) && !s.solTested n then
    ((s.solTo n .idle).wrB F.SOL_CH_STAT_ARMED false n).solGroup (n / 4)
  else s

/-- ABORT (R272). A pick request that THROTTLE deferred is dropped with no outcome and no event: log entry 208. -/
def State.solAbort (s : State) (n : Nat) : State :=
  if s.solIs n .wait || s.solIs n .pick then s.solAborted n
  else if s.solIs n .hold || s.solIs n .release || s.solIs n .fault then s.wrB F.SOL_CH_STAT_ABORT_LATE true n
  else if (s.solCh n).deferred.isSome then s.solMod n fun c => { c with deferred := none }
  else if s.rd F.SOL_CH_STAT_OUTCOME n ≠ 0 then s.wrB F.SOL_CH_STAT_ABORT_LATE true n
  else s

/-- Why enabling channel `n` is refused, 0 for no reason; the first of the register's list. -/
def State.solRefusal (s : State) (n : Nat) : Nat :=
  let pick := s.rd F.SOL_CH_PROF_PICK_I n
  let per := s.rd F.SOL_CH_PWM_PER n
  if pick < s.rd F.SOL_CH_PROF_HOLD_I n ∨ pick = 0 then 1
  else if s.rd F.SOL_GRP_CFG_IMAX (n / 4) < pick then 2
  else if per < 4000 ∨ 10000 < per ∨ per % 100 ≠ 0 then 3
  else if s.isRetired 3 (gateUnit 0 n) || s.isRetired 3 (gateUnit 3 (n / 4)) then 4
  else 0

/-- Setting EN (R270). -/
def State.solEnable (s : State) (n : Nat) : State :=
  if s.bit F.SOL_CH_CFG_EN n then s
  else
    let r := s.solRefusal n
    let s := s.wr F.SOL_CH_STAT_REASON r n
    if r ≠ 0 then s
    else
      let s := ((s.wrB F.SOL_CH_CFG_EN true n).solTo n .idle).wrB F.SOL_CH_STAT_ARMED true n
      let s := s.wr F.SOL_CH_STAT_FLT_REASON 0 n
      let p := s.solPosition n
      (s.solMod n fun c => { buckets := c.buckets, runSum := c.runSum, sec := c.sec, idx := p.1, pos := p.2 }).solGroup (n / 4)

/-- A stroke that has no outcome yet ends ABORTED (R269, R270). -/
def State.solEndStroke (s : State) (n : Nat) : State :=
  if s.solIs n .wait || s.solIs n .pick then s.solOutcome n .aborted else s

/-- Clearing EN (R270). -/
def State.solDisable (s : State) (n : Nat) : State :=
  if s.solIs n .off then s.wrB F.SOL_CH_CFG_EN false n
  else
    let s := ((s.solEndStroke n).solUnqueue n).wrB F.SOL_CH_CFG_EN false n
    let s := (s.solTo n .off).wrB F.SOL_CH_STAT_ARMED false n
    (s.solMod n fun c => { c with kept := false, deferred := none, isOn := false }).solGroup (n / 4)

/-- The outputs are not owned or held off (R269): an enabled channel is forced to IDLE, its stroke ends ABORTED. No request
is served. A channel in FAULT whose gate is under test stays there (R455). That this end raises no event 0x506, and that it takes
a channel out of a NODECAY fault too, is the model's reading: log entry 208. -/
def State.solForceIdle (s : State) (n : Nat) : State :=
  if s.solIs n .off || (s.solIs n .fault && s.solTested n) then s
  else
    let s := ((s.solEndStroke n).solUnqueue n).solTo n .idle
    s.solMod n fun c => { c with kept := false, deferred := none, isOn := false }

/-! ### Samples (R262 to R265, R273, R281) -/

/-- The regulation target of channel `n` (R263, R275). -/
def State.solTarget (s : State) (n : Nat) : Nat :=
  if s.solIs n .pick then s.rd F.SOL_CH_PROF_PICK_I n
  else
    let h := s.rd F.SOL_CH_PROF_HOLD_I n
    if s.bit F.SOL_CH_STAT_OVER n && s.rd F.SOL_CH_I2T_CFG_POLICY n == 1
    then h * s.rd F.SOL_CH_I2T_CFG_CUT_FRAC n / 16 else h

/-- What one sample is judged by. -/
structure SolPer where
  pick : Bool
  avg : Bool
  blank : Nat
  filt : Nat
  dipMin : Int
  dipWin : Nat
  /-- the PWM period in CK_DRV cycles, the AVG duty after the rise -/
  per : Nat
  deriving DecidableEq, Repr

/-- What the detector finds at one sample (R273): T_MOVE and T_DETECT. Means are held times 8 so that they stay exact for
1, 2, 4 or 8 samples, and a mean of 3, 5, 6 or 7 is free in its last place. -/
def detect (p : SolPer) (c : SolCh) (x : Int) : SolCh × Option (Nat × Nat) :=
  let last := (x :: c.detLast).take (2 ^ p.filt)
  let f := divFreeZ (last.foldl (· + ·) 0 * 8) last.length
  let c := { c with detLast := last }
  match c.detMax with
  | none => ({ c with detMax := some (f, c.t) }, none)
  | some (m, tm) =>
    if m < f then ({ c with detMax := some (f, c.t) }, none)
    else if p.dipMin * 8 ≤ m - f ∧ c.t - tm ≤ p.dipWin then ({ c with detDone := true }, some (tm, c.t))
    else (c, none)

/-- One sample of a channel in PICK or HOLD: detection, the end of the rise, the PEAK turn-off (R262, R265, R273). In AVG
mode the low side is on for `onFor` cycles of the period, and the sample that ends the rise turns nothing off. -/
def solSample (p : SolPer) (c : SolCh) (x : Int) : SolCh × Option (Nat × Nat) :=
  let on := c.isOn && (!p.avg || decide (c.pos * 100 < c.onFor))
  let c := { c with isOn := on, peak := max c.peak x }
  if !on then ({ c with t := c.t + 1 }, none)
  else
    let blanked := decide (c.sinceOn < p.blank + 1)
    let (c, moved) := if p.pick && !blanked && !c.detDone then detect p c x else (c, none)
    let c := { c with sinceOn := c.sinceOn + 1, t := c.t + 1 }
    if blanked || x < c.target then (c, moved)
    else if p.avg then
      (if c.regulating then c else { c with regulating := true, duty := p.per, err := 0 }, moved)
    else ({ c with regulating := true, isOn := false }, moved)

/-- The AVG duty update at the end of a period (R265): it runs from the first period after the rise. -/
def avgUpdate (kp ki dmin per : Nat) (target mean : Int) (c : SolCh) : SolCh :=
  let e := target - mean
  let d := (c.duty : Int) + ((kp : Int) * (e - c.err) + (ki : Int) * e) / 256
  { c with duty := (max (dmin : Int) (min (per : Int) d)).toNat, err := e }

/-- The buckets at second `sec`: every second boundary passed closes one (R274). -/
def bucketRoll (sec : Nat) (c : SolCh) : SolCh :=
  if sec ≤ c.sec then c
  else { c with sec := sec, runSum := 0
                buckets := (List.replicate (min 254 (sec - c.sec - 1)) 0 ++ c.runSum / 2000000 :: c.buckets).take 254 }

/-- One sample in the running bucket (R274). -/
def bucketAdd (sec : Nat) (c : SolCh) (x : Int) : SolCh :=
  let c := bucketRoll sec c
  { c with runSum := c.runSum + (x * x).toNat }

/-- The sum S of channel `n` (R274). -/
def State.i2tSum (s : State) (n : Nat) : Nat :=
  let c := s.solCh n
  (c.buckets.take (s.rd F.SOL_CH_I2T_CFG_WIN n - 1)).sum + c.runSum / 2000000

/-- A sense code (R261). -/
def senseCode (x : Int) : Int := max (-2048) (min 2047 x)

/-- The energy of a period (R281), to the meter and to the stroke, from the sum of its samples and VSOL. Num / den is in
µWh. The state at the period's end gives the sign of the whole period: log entry 209. -/
def State.solEnergy (s : State) (n : Nat) (sum : Int) : State :=
  let off := s.solIs n .release && !(groupOf (n / 4)).any s.solHolds
  let shunt := s.rd F.SOL_CH_SHUNT n
  let z : Int := (if off then -1 else 1) * sum * s.rd F.SOL_VSOL * 100
  let den := 2 ^ s.rd F.SOL_CH_CFG_RANGE n * 2048 * shunt * 7200
  if shunt = 0 then
    let (v, s) := s.free 20
    (s.subEnergy (0x40 + n) (0x60 + n) (signed 64 v) 1).solMod n fun c => { c with energy := c.energy + signed 64 v }
  else
    (s.subEnergy (0x40 + n) (0x60 + n) z den).solMod n fun c =>
      { c with energy := c.energy + z * 3600 * 2 ^ 64 / den }

/-- Channel `n` drives its coil. -/
def State.solDrives (s : State) (n : Nat) : Bool := s.solIs n .pick || s.solIs n .hold

/-- A PWM period of channel `n` begins, with its first sample: the target in force, the on-time, and the on-edge where the
low side is off (R263 to R265). -/
def State.solPeriodStart (s : State) (n : Nat) : State :=
  let per := s.rd F.SOL_CH_PWM_PER n
  let avg := s.bit F.SOL_CH_CFG_MODE n
  let target := s.solTarget n
  let len := (s.solLen n (s.solCh n).idx).1 * 100
  s.solMod n fun c =>
    let c := { c with target := target, regFrom := c.regulating
                      onFor := if avg && c.regulating then c.duty * len / per else len }
    if c.isOn then c else { c with isOn := true, sinceOn := 0, detLast := [], detMax := none }

/-- The PWM period in progress of channel `n` ends: its mean, the AVG update where it was regulated from its start, and its
energy (R264, R265, R281). An on-time shorter than the period has ended, though no sample showed it. -/
def State.solPeriodEnd (s : State) (n : Nat) : State :=
  let avg := s.bit F.SOL_CH_CFG_MODE n
  let drives := s.solDrives n
  let per := s.rd F.SOL_CH_PWM_PER n
  let k := (s.solLen n 0).2
  let sum := (s.solCh n).nowSum
  let s := s.solMod n fun c =>
    let c := { c with sum := c.nowSum, count := c.nowCount, nowSum := 0, nowCount := 0, pos := 0, idx := (c.idx + 1) % k
                      isOn := c.isOn && !(avg && decide (c.onFor < c.pos * 100)) }
    if drives && avg && c.regFrom && c.count != 0 then
      avgUpdate (s.rd F.SOL_CH_PWM_KP n) (s.rd F.SOL_CH_PWM_KI n) ((s.rd F.SOL_CH_CFG_BLANK n + 1) * 100) per c.target
        (divFreeZ c.sum c.count) c
    else c
  s.solEnergy n sum

/-- One sample of channel `n` (R261): the start of its period where it is the first, the bucket, regulation and motion, the
tests of R270 and R280, and the period's end where it is the last. While the outputs are off, an overcurrent that lasts is
recorded once. -/
def State.solTake (s : State) (n : Nat) (x : Int) : State :=
  let s := if (s.solCh n).pos = 0 && s.solDrives n then s.solPeriodStart n else s
  let sec := s.nowUs / 1000000
  let p : SolPer :=
    { pick := s.solIs n .pick, avg := s.bit F.SOL_CH_CFG_MODE n, blank := s.rd F.SOL_CH_CFG_BLANK n
      filt := s.rd F.SOL_CH_CFG_FILT n, dipMin := s.rd F.SOL_CH_DET_DIP_MIN n, dipWin := s.rd F.SOL_CH_DET_DIP_WIN n
      per := s.rd F.SOL_CH_PWM_PER n }
  let r := if s.solDrives n then solSample p (s.solCh n) x else (s.solCh n, none)
  let rel := s.solIs n .release
  let ioff : Int := s.rd F.SOL_CH_LIM_IOFF n
  let oc : Int := s.rd F.SOL_CH_LIM_OC_LIM n
  let driven := s.drives
  let s := s.solMod n fun _ =>
    let c := bucketAdd sec r.1 x
    { c with last := x, nowSum := c.nowSum + x, nowCount := c.nowCount + 1, pos := c.pos + 1
             low := if rel && decide (x ≤ ioff) then c.low + 1 else 0
             overs := if oc ≤ x then (if driven then min 2 (c.overs + 1) else c.overs + 1) else 0 }
  let s := match r.2 with
    | some (tm, td) =>
      (((s.wr F.SOL_CH_STAT_MOTION 1 n).wr F.SOL_CH_TMOVE (min tm 0xFFFFFF) n).wr F.SOL_CH_TDET (min td 0xFFFFFF) n).solMod n
        fun c => { c with moved := true }
    | none => s
  let s := if (s.solCh n).overs == 2 && !s.solIs n .fault then s.solFault n 1 else s
  let s := s.solMod n fun c => { c with abortAt := none }
  if (s.solLen n (s.solCh n).idx).1 ≤ (s.solCh n).pos then s.solPeriodEnd n else s

/-- The next samples of channel `n`, and what the VSOL monitor holds: one PWM period of them where nothing happens within
it (R261 to R265). -/
def State.solPeriod (s : State) (n : Nat) (raw : List Int) (vsol : Nat) : State :=
  let s := s.wr F.SOL_VSOL vsol
  if s.solIs n .off then s else s.each (raw.map senseCode) fun s x => s.inCycle fun s => s.solTake n x

/-- An apply instant begins a period of every enabled channel (R263, R264). -/
def State.solRestart (s : State) : State :=
  s.each ((List.range 32).filter fun n => !s.solIs n .off) fun s n =>
    let s := if (s.solCh n).pos = 0 then s else s.solPeriodEnd n
    s.solMod n fun c => { c with idx := 0 }

/-- The i²t sum is formed, and OVER acts (R274, R275). While the outputs are off, a DUTY fault is recorded as OVER is set. -/
def State.solI2t (s : State) (n : Nat) : State :=
  let s := s.solMod n (bucketRoll (s.nowUs / 1000000))
  let sum := s.i2tSum n
  let lim := s.rd F.SOL_CH_I2T_LIM n
  let s := s.wr F.SOL_CH_I2T_SUM (min sum 0xFFFFFFFF) n
  let was := s.bit F.SOL_CH_STAT_OVER n
  let s :=
    if !was && decide (lim < sum) then
      (s.wrB F.SOL_CH_STAT_OVER true n).raise 0x503 n [n, min sum 0xFFFFFFFF, s.rd F.SOL_CH_I2T_CFG_POLICY n]
    else if was && decide (sum ≤ lim - lim / 8) then
      (s.wrB F.SOL_CH_STAT_OVER false n).raise 0x504 n [n, min sum 0xFFFFFFFF]
    else s
  if s.bit F.SOL_CH_STAT_OVER n && s.rd F.SOL_CH_I2T_CFG_POLICY n == 2 && !s.solIs n .fault &&
    (!was || s.drives) then s.solFault n 5 else s

/-! ### The apply instant and the status words -/

/-- Channel `n` at an apply instant: a deferred request (R279), then the command point (R266, R267). -/
def State.solApply (s : State) (n : Nat) : State :=
  if !s.bit F.SOL_CH_CFG_EN n then s
  else
    let late := (s.solCh n).deferred == some true
    let s := if late then s.solMod n fun c => { c with deferred := none } else s
    let off := s.rd F.SOL_CH_CFG_SRC n == 0 && (match s.cmdIn (s.rd F.SOL_CH_CMDPT n) onOffFormats with
      | .val v => !v.getLsbD 0
      | .keep => false
      | .bad .. => true)
    let s := if late && !off && s.solIs n .idle then s.solRequest n else s
    if s.rd F.SOL_CH_CFG_SRC n ≠ 0 then s
    else match s.cmdIn (s.rd F.SOL_CH_CMDPT n) onOffFormats with
      | .val v =>
        let s := s.wrB F.SOL_CH_STAT_CMDBAD false n
        if v.getLsbD 0 then s.solOn n else s.solOff n
      | .keep => s.wrB F.SOL_CH_STAT_CMDBAD false n
      | .bad q f =>
        let s := if s.bit F.SOL_CH_STAT_CMDBAD n then s
          else (s.wrB F.SOL_CH_STAT_CMDBAD true n).raise 0x507 n [n, s.rd F.SOL_CH_CMDPT n, q, f]
        s.solOff n

/-- Status word `w` of channel `n` (R282). -/
def State.solWord (s : State) (n w : Nat) : Int × State :=
  match w with
  | 0 => (s.rd F.SOL_CH_STAT_STATE n + 2 ^ 4 * s.rd F.SOL_CH_STAT_OUTCOME n + 2 ^ 6 * s.rd F.SOL_CH_STAT_MOTION n
      + 2 ^ 8 * s.rd F.SOL_CH_STAT_SLOWREL n + 2 ^ 9 * s.rd F.SOL_CH_STAT_OVER n
      + 2 ^ 10 * s.rd F.SOL_CH_STAT_CMDBAD n + 2 ^ 12 * s.rd F.SOL_CH_STAT_FLT_REASON n, s)
  | 1 => let c := s.solCh n; (if c.count = 0 then 0 else divFreeZ c.sum c.count, s)
  | 2 => (s.rd F.SOL_CH_TMOVE n, s)
  | 3 => (s.rd F.SOL_CH_ENERGY n, s)
  | _ =>
    let lim := s.rd F.SOL_CH_I2T_LIM n
    if lim = 0 then (let (v, s) := s.free 21; ((v : Int), s))
    else (min 0xFFFFFFFF (divFree (s.rd F.SOL_CH_I2T_SUM n * 65536) lim) , s)

/-- The status words of channel `n` go to their points (R282); a channel in FAULT is a source fault. -/
def State.solStatus (s : State) (n : Nat) : State :=
  s.each [0, 1, 2, 3, 4] fun s w =>
    if (s.pointsOf 4 (w * 256 + n)).isEmpty then s
    else
      let (v, s) := s.solWord n w
      s.feed 4 (w * 256 + n) v (s.solIs n .fault) s.stamp

/-! ### Commands -/

/-- A REG command is taken (R266, R269). -/
def State.solReg (s : State) (n : Nat) : Bool :=
  s.bit F.SOL_CH_CFG_EN n && s.rd F.SOL_CH_CFG_SRC n == 1 && s.takesCommands

/-- PICK (R266). -/
def State.solPickCmd (s : State) (n : Nat) : State := if s.solReg n then s.solOn n else s

/-- OFF (R266). -/
def State.solOffCmd (s : State) (n : Nat) : State := if s.solReg n then s.solOff n else s

/-- ABORT, from every source (R266, R269). -/
def State.solAbortCmd (s : State) (n : Nat) : State := if s.takesCommands then s.solAbort n else s

/-- CLEAR, from every source (R266). -/
def State.solClearCmd (s : State) (n : Nat) : State := if s.takesCommands then s.solClear n else s

/-- SOL_ENABLE (R270). -/
def execSolEnable (n : Fin 32) (s : State) : Out := s.reach [.sol] fun s => s.inCycle fun s => s.solEnable n

/-- SOL_DISABLE (R270). -/
def execSolDisable (n : Fin 32) (s : State) : Out := s.reach [.sol] fun s => s.inCycle fun s => s.solDisable n

/-- SOL_PICK (R266). -/
def execSolPick (n : Fin 32) (s : State) : Out := s.reach [.sol] fun s => s.inCycle fun s => s.solPickCmd n

/-- SOL_OFF (R266). -/
def execSolOff (n : Fin 32) (s : State) : Out := s.reach [.sol] fun s => s.inCycle fun s => s.solOffCmd n

/-- SOL_ABORT (R272). -/
def execSolAbort (n : Fin 32) (s : State) : Out := s.reach [.sol] fun s => s.inCycle fun s => s.solAbortCmd n

/-- SOL_CLEAR (R280). -/
def execSolClear (n : Fin 32) (s : State) : Out := s.reach [.sol] fun s => s.inCycle fun s => s.solClearCmd n

/-- SOL_PWM_PERIOD (R263): the channel's samples since the last ones given. -/
def execSolPwmPeriod (n : Fin 32) (samples : List Int) (vsol : BitVec 16) (s : State) : Out :=
  s.act [.sol] fun s => s.solPeriod n samples vsol.toNat

/-- PICK_END (R271). -/
def execPickEnd (n : Fin 32) (s : State) : Out := s.act [.sol] fun s => s.inCycle fun s => s.solPickEnd n

/-- SOL_RELEASE_DONE (R270). -/
def execSolReleaseDone (n : Fin 32) (s : State) : Out := s.act [.sol] fun s => s.inCycle fun s => s.solReleaseDone n

/-- GRP_WAIT_EXPIRY (R278). -/
def execGrpWaitExpiry (n : Fin 32) (s : State) : Out := s.act [.sol] fun s => s.inCycle fun s => s.solGroupTimeout n

/-- I2T_UPDATE (R274). -/
def execI2tUpdate (n : Fin 32) (s : State) : Out := s.act [.sol] fun s => s.inCycle fun s => s.solI2t n

/-- NODECAY_EXPIRY (R280). -/
def execNodecayExpiry (n : Fin 32) (s : State) : Out :=
  s.act [.sol] fun s => s.inCycle fun s =>
    if (s.solIs n .release || s.solIs n .fault) && decide (s.rd F.SOL_CH_LIM_IOFF n < (s.solCh n).last) then s.solFault n 6
    else s

end Sys2Proof.Machine
end

