-- ==== Sys2Proof/Machine/Mot.lean ====
section
/-! DEFINITION. The motor channels (10_motor_channels.md). -/

namespace Sys2Proof.Machine

/-! ### States -/

/-- MOT_CHn_STAT.STATE codes (R297). -/
inductive MotState where
  | off | idle | brakeWait | align | run | reverse | stopping | engage | coast | fault
  deriving DecidableEq, Repr

/-- The code of a motor state. -/
def MotState.code : MotState → Nat
  | .off => 0 | .idle => 1 | .brakeWait => 2 | .align => 3 | .run => 4 | .reverse => 5
  | .stopping => 6 | .engage => 7 | .coast => 8 | .fault => 9

/-- What channel `n` keeps beside its registers. -/
def State.motCh (s : State) (n : Nat) : MotCh := Sparse.get s.mot {} n

/-- Change what channel `n` keeps. -/
def State.motMod (s : State) (n : Nat) (f : MotCh → MotCh) : State :=
  { s with mot := Sparse.set s.mot {} n (f (s.motCh n)) }

/-- Channel `n` stands in state `k`. -/
def State.motIs (s : State) (n : Nat) (k : MotState) : Bool := s.rd F.MOT_CH_STAT_STATE n == k.code

/-- POS of channel `n` (R291). -/
def State.motPos (s : State) (n : Nat) : Int := s.rdS F.MOT_CH_POS n

/-- The channel's current loop runs (R297). -/
def State.motLoop (s : State) (n : Nat) : Bool :=
  s.motIs n .align || s.motIs n .run || s.motIs n .reverse || s.motIs n .stopping

/-- A move is in progress: from its start request until IDLE (R297). -/
def State.motMoving (s : State) (n : Nat) : Bool :=
  (2 ≤ s.rd F.MOT_CH_STAT_STATE n && s.rd F.MOT_CH_STAT_STATE n ≤ 8) || (s.motIs n .idle && (s.motCh n).next.isSome)

/-- The move has no outcome yet (R298). -/
def State.motOpen (s : State) (n : Nat) : Bool := s.motMoving n && s.rd F.MOT_CH_STAT_OUTCOME n == 0

/-- Command the bound brake (R302). -/
def State.motBrake (s : State) (n : Nat) (on : Bool) : State :=
  if s.bit F.MOT_CH_BRAKE_BRK_EN n then s.brakeCmd (s.rd F.MOT_CH_BRAKE_BRK_CH n) on else s

/-- A loop state is entered, or the gates stop being driven by the loop: the integrators are 0 (R289). The compare values in
force and the next ones stay while the loop goes on driving the gates. -/
def MotCh.loopReset (c : MotCh) (driven : Bool) : MotCh :=
  let c := { c with sd := 0, sq := 0, driven := driven }
  if driven then c else { c with cmp := [], cmpNext := [] }

/-- Enter IDLE: the move is over and its energy is reported (R306). -/
def State.motEnterIdle (s : State) (n : Nat) : State :=
  let e := divFreeZ (s.motCh n).energy (2 ^ 64)
  ((s.wr F.MOT_CH_STAT_STATE MotState.idle.code n).wrS F.MOT_CH_ENERGY e n).motMod n fun c =>
    { c.loopReset false with next := none, homing := false, stopReq := false, overFor := none }

/-- Enter state `k` (R297, R302). -/
def State.motEnter (s : State) (n : Nat) (k : MotState) : State :=
  match k with
  | .idle => s.motEnterIdle n
  | _ =>
    let s := (s.wr F.MOT_CH_STAT_STATE k.code n).motMod n fun c =>
      let c := if c.driven && !(k == .run) then c else { c with slTime := 0, slSector := none }
      { c.loopReset (k == .align || k == .run || k == .reverse || k == .stopping) with
        next := none, overFor := none, slEnded := false, entryForward := c.forward, against := false }
    let s := if k = .run || k = .align then s.wrB F.MOT_CH_STAT_SL_LOCK false n else s
    match k with
    | .brakeWait => s.motBrake n true
    | .engage | .coast | .fault => s.motBrake n false
    | _ => s

/-- State `k` is entered at the next period start. -/
def State.motNext (s : State) (n : Nat) (k : MotState) : State := s.motMod n fun c => { c with next := some k.code }

/-- An event of rank `r` may set the outcome (R298): none is set, or an event of a lower rank set it in this CK_DRV cycle. -/
def State.motTakes (s : State) (n r : Nat) : Bool :=
  s.motOpen n || (s.motMoving n && s.running && match (s.motCh n).outAt with
    | some (t, r') => t == s.drvNow && decide (r' < r)
    | none => false)

/-- An event sets the outcome of a move with its reason, and leaves the channel disarmed (R297, R298). `r` is the row of
R298's table, ABORT 1 to a fault of R301 7; 8 is the commit. -/
def State.motOutcome (s : State) (n out reason r : Nat) : State :=
  let s := if reason = 0 then s else s.wr F.MOT_CH_STAT_FLT_REASON reason n
  let now := s.drvNow
  (if s.motTakes n r then
    let s := if !s.motOpen n && (s.motCh n).outAt == some (now, 1) then s.unraise 0x604 n else s
    (s.wr F.MOT_CH_STAT_OUTCOME out n).motMod n fun c => { c with outAt := some (now, r), outSeen := false }
  else s).wrB F.MOT_CH_STAT_ARMED false n

/-- A fault of R301 (1 to 4): outcome, FAULT at once, the brake OFF; a POSITION fault clears HOMED and ALIGNED. While the
outputs are off, which forces every channel to IDLE (R304), the fault is recorded only. -/
def State.motFault (s : State) (n reason : Nat) : State :=
  if s.motIs n .off then s
  else
    let c := s.motCh n
    let w (k : Nat) : Nat := wInt (c.samples.getD k 0)
    let s := s.raise 0x601 n [n, reason, s.rd F.MOT_CH_POS n, w 0, w 1, w 2]
    let s := if reason = 4 then (s.wrB F.MOT_CH_STAT_HOMED false n).wrB F.MOT_CH_STAT_ALIGNED false n else s
    if s.drives then (s.motOutcome n 3 reason 7).motEnter n .fault else s.wr F.MOT_CH_STAT_FLT_REASON reason n

/-! ### Requests (R295 to R299) -/

/-- The state a start request leads to after the brake: ALIGN or RUN (R294, R297). -/
def State.motFirst (s : State) (n : Nat) : MotState :=
  if s.rd F.MOT_CH_CFG_KIND n == 0 && s.rd F.MOT_CH_CFG_POSSRC n == 1 && !s.bit F.MOT_CH_STAT_ALIGNED n
  then .align else .run

/-- A start request in IDLE (R295, R297, R299). It takes the arming with it. -/
def State.motStart (s : State) (n : Nat) (home : Bool) : State :=
  if !s.motIs n .idle || (s.motCh n).next.isSome then s
  else
    let s := s.wrB F.MOT_CH_STAT_ARMED false n
    if !home && !s.bit F.MOT_CH_STAT_HOMED n then (s.wrB F.MOT_CH_STAT_NOHOME true n).raise 0x605 n [n]
    else
      let k := if s.bit F.MOT_CH_BRAKE_BRK_EN n then MotState.brakeWait else s.motFirst n
      let s := s.wr F.MOT_CH_STAT_OUTCOME 0 n
      (s.motMod n fun c => { c with homing := home, energy := 0, stopReq := false, outAt := none }).motNext n k

/-- A stop request (R295, R298): in a homing move it aborts; else it waits for a period start in RUN. -/
def State.motStop (s : State) (n : Nat) : State :=
  if !s.motOpen n then s
  else if (s.motCh n).homing then (s.motOutcome n 2 0 2).motNext n .stopping
  else s.motMod n fun c => { c with stopReq := true }

/-- ABORT (R298). -/
def State.motAbort (s : State) (n : Nat) : State :=
  if s.motOpen n then
    let was := s.rd F.MOT_CH_STAT_STATE n
    ((s.motOutcome n 2 0 1).raise 0x604 n [n, was]).motNext n .stopping
  else if s.motMoving n || s.rd F.MOT_CH_STAT_OUTCOME n != 0 then s.wrB F.MOT_CH_STAT_ABORT_LATE true n
  else s

/-- CLEAR: ignored until standstill (R297, R301), and while the gate is under test (R453). -/
def State.motClear (s : State) (n : Nat) : State :=
  if s.motIs n .fault && (s.motCh n).still && !s.gateTested (gateUnit 1 n) then s.motEnterIdle n else s

/-- Why enabling channel `n` is refused, 0 for no reason. -/
def State.motRefusal (s : State) (n : Nat) : Nat :=
  let per := s.rd F.MOT_CH_PWM n
  let dt := s.rd F.MOT_CH_CFG_DT n
  let b := s.rd F.MOT_CH_BRAKE_BRK_CH n
  if per % 2 = 1 ∨ per < 5000 ∨ 25000 < per ∨ dt < 10 ∨ 400 < dt then 1
  else if s.bit F.MOT_CH_BRAKE_BRK_EN n && (s.rd F.SOL_CH_CFG_SRC b != 2 || ((List.range 12).any fun m =>
      m != n && s.bit F.MOT_CH_CFG_EN m && s.bit F.MOT_CH_BRAKE_BRK_EN m && s.rd F.MOT_CH_BRAKE_BRK_CH m == b)) then 2
  else if s.rd F.MOT_CH_CFG_POSSRC n == 2 && s.rd F.MOT_CH_CFG_KIND n == 1 then 3
  else if s.isRetired 3 (gateUnit 1 n) then 4
  else 0

/-- CK_DECK cycles from reset to now. -/
def State.deckNow (s : State) : Nat := s.span.tickCyc + s.span.phase

/-- The sector of a Hall code, none for 0b000 and 0b111 (R291). -/
def hallSector (h : BitVec 3) : Option Nat :=
  match h.toNat with
  | 1 => some 0 | 3 => some 1 | 2 => some 2 | 6 => some 3 | 4 => some 4 | 5 => some 5 | _ => none

/-- Setting EN (R291, R297, R299). -/
def State.motEnable (s : State) (n : Nat) : State :=
  if s.bit F.MOT_CH_CFG_EN n then s
  else
    let r := s.motRefusal n
    let s := s.wr F.MOT_CH_STAT_REASON r n
    if r ≠ 0 then s
    else
      let s := ((s.wrB F.MOT_CH_CFG_EN true n).wr F.MOT_CH_STAT_STATE MotState.idle.code n).wrB F.MOT_CH_STAT_ARMED s.drives n
      let s := ((s.wr F.MOT_CH_POS 0 n).wrB F.MOT_CH_STAT_HOMED false n).wrB F.MOT_CH_STAT_ALIGNED false n
      let s := s.wr F.MOT_CH_STAT_FLT_REASON 0 n
      let (x, s) := match (s.motCh n).lines with
        | some x => (x, s)
        | none => let (v, s) := s.free 35; (BitVec.ofNat 3 v, s)
      let now := s.deckNow
      s.motMod n fun c =>
        { badTq := c.badTq, badRun := c.badRun, lines := some x, sector := hallSector x, sectorAt := now, posAt := now }

/-- Clearing EN (R294, R297): the gates go low and a move ends ABORTED. -/
def State.motDisable (s : State) (n : Nat) : State :=
  let s := if s.motOpen n then s.wr F.MOT_CH_STAT_OUTCOME 2 n else s
  let s := if s.motMoving n then s.motBrake n false else s
  let s := ((s.wrB F.MOT_CH_CFG_EN false n).wr F.MOT_CH_STAT_STATE 0 n).wrB F.MOT_CH_STAT_ARMED false n
  (s.wrB F.MOT_CH_STAT_ALIGNED false n).motMod n fun c => { c.loopReset false with next := none }

/-- The outputs are not owned or held off (R304): IDLE, disarmed, a move ABORTED. A channel in FAULT whose gate is under test
stays there (R455). -/
def State.motForceIdle (s : State) (n : Nat) : State :=
  if s.motIs n .off || (s.motIs n .fault && s.gateTested (gateUnit 1 n)) then s
  else
    let s := if s.motOpen n then s.wr F.MOT_CH_STAT_OUTCOME 2 n else s
    (if s.motIs n .idle then s.motMod n fun c => { c with next := none } else s.motEnterIdle n).wrB
      F.MOT_CH_STAT_ARMED false n

/-! ### Position (R291, R292) -/

/-- One position count, up or down. -/
def State.motCount (s : State) (n : Nat) (up : Bool) : State :=
  let now := s.deckNow
  (s.wrS F.MOT_CH_POS (s.motPos n + if up then 1 else -1) n).motMod n fun c =>
    { c with forward := up, still := false, posAt := now, against := c.against || (up != c.entryForward) }

/-- A Hall step (R291, R292): a step to a sector that is not adjacent is a POSITION fault. -/
def State.hallStep (s : State) (n : Nat) (h : BitVec 3) : State :=
  match hallSector h with
  | none => s
  | some x =>
    let c := s.motCh n
    match c.sector with
    | none => s.motMod n fun c => { c with sector := some x, sectorAt := s.deckNow, sectorTook := none }
    | some y =>
      if x = y then s
      else if x = (y + 1) % 6 ∨ y = (x + 1) % 6 then
        (s.motCount n (decide (x = (y + 1) % 6))).motMod n fun c =>
          { c with sector := some x, sectorAt := s.deckNow, sectorTook := some (s.deckNow - c.sectorAt) }
      else (s.motMod n fun c => { c with sector := some x }).motFault n 4

/-- An encoder step: the lines' Gray code position, A leading B counting up (R291). -/
def encPhase (a b : Bool) : Nat :=
  match a, b with
  | false, false => 0 | true, false => 1 | true, true => 2 | false, true => 3

/-- The encoder's lines go from the levels `x` to `a`, `b` (R291, R292): both at once is a POSITION fault. -/
def State.encStep (s : State) (n : Nat) (x : BitVec 3) (a b : Bool) : State :=
  match (encPhase a b + 4 - encPhase (x.getLsbD 2) (x.getLsbD 1)) % 4 with
  | 0 => s
  | 1 => s.motCount n true
  | 3 => s.motCount n false
  | _ => s.motFault n 4

/-! ### The current loop (R285 to R294) -/

/-- A quotient in units of 2^-32 turns. -/
def turns (num den : Nat) : Nat := if den = 0 then 0 else num * 2 ^ 32 / den

/-- The electrical angle θ of channel `n` before ANG_OFS, in 2^-32 turns (R291, R293). -/
def State.motAngle (s : State) (n : Nat) : Nat :=
  let c := s.motCh n
  match s.rd F.MOT_CH_CFG_POSSRC n with
  | 0 =>
    match c.sector with
    | none => 0
    | some x =>
      match c.sectorTook with
      | some tp =>
        if 40000000 < tp ∨ tp = 0 then turns (2 * x + 1) 12
        else
          let t := min ((s.deckNow - c.sectorAt) * 2 ^ 32 / (6 * tp)) (59 * 2 ^ 32 / 360)
          if c.forward then turns x 6 + t else turns (x + 1) 6 - t
      | none => turns (2 * x + 1) 12
  | 1 =>
    let cpr := s.rd F.MOT_CH_ENC n
    if cpr = 0 then 0
    else turns (s.rd F.MOT_CH_CFG_POLES n * ((s.motPos n - c.alignPos) % cpr).toNat) cpr
  | _ => if s.bit F.MOT_CH_STAT_SL_LOCK n then c.obs
    else s.rd F.MOT_CH_SL_SL_RAMP n * c.slTime * c.slTime * 2 ^ 32 / (2 * 200000000 * 200000000)

/-- θ of channel `n` at this period start (R291, R294), in 2^-32 turns. -/
def State.motTheta (s : State) (n : Nat) : Nat :=
  ((if s.motIs n .align then 0 else s.motAngle n) + s.rd F.MOT_CH_ANG n * 65536) % 2 ^ 32

/-- A limit in codes under THROTTLE (R290). -/
def State.motLimit (s : State) (v : Nat) : Nat :=
  if s.throttling then divFree (v * s.rd F.HEALTH_THR_SCALE) 100 else v

/-- iq target and id target of channel `n` in its state, in codes (R289, R293, R294, R297, R303). -/
def State.motTargets (s : State) (n : Nat) : Int × Int :=
  let c := s.motCh n
  let stop : Int := s.motLimit (s.rd F.MOT_CH_STOP_STOP_IQ n)
  let rev : Int := s.motLimit (s.rd F.MOT_CH_STOP_REV_IQ n)
  let home : Int := s.motLimit (s.rd F.MOT_CH_HOME_HOME_IQ n)
  let lim : Int := s.motLimit (s.rd F.MOT_CH_ILIM_IQ_MAX n)
  let d : Int := if c.entryForward then 1 else -1
  let idt := s.rdS F.MOT_CH_ITGT_ID_T n
  let clampT (z : Int) : Int := max (-lim) (min lim z)
  if s.motIs n .align then (0, stop)
  else if s.motIs n .reverse then (clampT (-rev * d), idt)
  else if s.motIs n .stopping then (if c.against then 0 else clampT (-stop * d), idt)
  else if s.rd F.MOT_CH_CFG_POSSRC n == 2 && !s.bit F.MOT_CH_STAT_SL_LOCK n then
    (clampT (s.rd F.MOT_CH_SL_SL_IST n), 0)
  else if c.homing then (clampT (if s.bit F.MOT_CH_HOME_HOME_DIR n then -home else home), idt)
  else if s.rd F.MOT_CH_CFG_SRC n == 1 then (clampT (s.rdS F.MOT_CH_ITGT_IQ_T n), idt)
  else (clampT c.target, idt)

/-- A binary32 sum. -/
def fPlus (a b : Word) : Word := (fAdd a b).1

/-- A binary32 difference. -/
def fMinus (a b : Word) : Word := (fAdd a b true).1

/-- A binary32 product. -/
def fTimes (a b : Word) : Word := (fMul a b).1

/-- −a. -/
def fNegate (a : Word) : Word := a ^^^ 0x80000000

/-- clamp(a, −lim, lim). -/
def fClampSym (a lim : Word) : Word :=
  if fLt lim a then lim else if fLt a (fNegate lim) then fNegate lim else a

/-- The larger of two numbers. -/
def fMaxOf (a b : Word) : Word := (fMinMax true a b).1

/-- The smaller of two numbers. -/
def fMinOf (a b : Word) : Word := (fMinMax false a b).1

/-- pi(k, e, lim) of R289: the output and the new integrator. -/
def motPi (kp ki st e lim : Word) : Word × Word :=
  let v := fPlus (fTimes kp e) st
  let wind := (fLt lim v && fLt 0 e) || (fLt v (fNegate lim) && fLt e 0)
  let st := if wind then st else fPlus st (fTimes ki e)
  (fClampSym (fPlus (fTimes kp e) st) lim, st)

/-- What one step of the current loop gives: duties δ of the three phases, iq, id, integrators. -/
structure MotStep where
  duty : List Word
  iq : Word
  id : Word
  sd : Word
  sq : Word
  deriving DecidableEq, Repr

/-- The binary32 constants of R289: 0.5, 0.57735027, 0.8660254. -/
def fHalf : Word := 0x3F000000

/-- 0.57735027 as binary32: 9,686,330 × 2^-24. -/
def fInvSqrt3 : Word := fOfInt 9686330 (-24)

/-- 0.8660254 as binary32: 14,529,495 × 2^-24. -/
def fSqrt3Half : Word := fOfInt 14529495 (-24)

/-- One step of the FOC loop (R289). -/
def focStep (kp ki vlim sd sq : Word) (iu iv iqT idT : Int) (th : Nat) : MotStep :=
  let (sn, cs) := (Config.sine th, Config.cosine th)
  let ia := fOfInt iu
  let ib := fTimes (fPlus (fOfInt iu) (fTimes (fOfInt 2) (fOfInt iv))) fInvSqrt3
  let id := fPlus (fTimes ia cs) (fTimes ib sn)
  let iq := fMinus (fTimes ib cs) (fTimes ia sn)
  let (vd, sd) := motPi kp ki sd (fMinus (fOfInt idT) id) vlim
  let (vq, sq) := motPi kp ki sq (fMinus (fOfInt iqT) iq) (fSqrt (fMinus (fTimes vlim vlim) (fTimes vd vd))).1
  let va := fMinus (fTimes vd cs) (fTimes vq sn)
  let vb := fPlus (fTimes vd sn) (fTimes vq cs)
  let h := fNegate (fTimes fHalf va)
  let x := fTimes fSqrt3Half vb
  let vv := fPlus h x
  let vw := fMinus h x
  let off := fTimes (fNegate (fPlus (fMaxOf (fMaxOf va vv) vw) (fMinOf (fMinOf va vv) vw))) fHalf
  let dx (v : Word) : Word := fPlus (fPlus fHalf v) off
  { duty := [dx va, dx vv, dx vw], iq := iq, id := id, sd := sd, sq := sq }

/-- One step of the DC loop (R289). -/
def dcStep (kp ki vlim sq : Word) (iu iv iqT : Int) : MotStep :=
  let iq := fTimes (fMinus (fOfInt iu) (fOfInt iv)) fHalf
  let (vq, sq) := motPi kp ki sq (fMinus (fOfInt iqT) iq) vlim
  let x := fTimes vq fHalf
  { duty := [fPlus fHalf x, fMinus fHalf x], iq := iq, id := 0, sd := 0, sq := sq }

/-- A compare value from a duty (R289). -/
def compareOf (h cmax : Nat) (duty : Word) : Nat :=
  (max 0 (min (cmax : Int) (fRound (fTimes duty (fOfInt h))))).toNat

/-- The length of the PWM period that begins now: PER, or PER + rem before an apply instant (R286). -/
def State.motPeriodLen (s : State) (n : Nat) : Nat :=
  let per := s.rd F.MOT_CH_PWM n
  let len := s.solSpan
  let x := (s.span.phase / 2 + len - 600) % len
  if per = 0 then 0 else if (len / per - 1) * per ≤ x then per + len % per else per

/-- Compare values as they stand in a period of length `len` (R286). -/
def scaleCompare (per dt len c : Nat) : Nat :=
  if len = per ∨ per = 0 then c
  else
    let h := per / 2
    let hl := len / 2
    let q := c * hl / h
    let r := c * hl % h
    min (if h < 2 * r ∨ (2 * r = h ∧ q % 2 = 1) then q + 1 else q) (hl - dt - 60)

/-- The current loop steps at a period start (R289); what it computes takes effect at the next. -/
def State.motLoopStep (s : State) (n : Nat) : State :=
  let c := s.motCh n
  let th := s.motTheta n
  let (iqT, idT) := s.motTargets n
  let w (f : Fld) : Word := BitVec.ofNat 32 (s.rd f n)
  let (iu, iv) := (c.samples.getD 0 0, c.samples.getD 1 0)
  let st := if s.rd F.MOT_CH_CFG_KIND n = 0
    then focStep (w F.MOT_CH_KP) (w F.MOT_CH_KI) (w F.MOT_CH_VLIM) c.sd c.sq iu iv iqT idT th
    else dcStep (w F.MOT_CH_KP) (w F.MOT_CH_KI) (w F.MOT_CH_VLIM) c.sq iu iv iqT
  let h := s.rd F.MOT_CH_PWM n / 2
  let cmax := h - s.rd F.MOT_CH_CFG_DT n - 60
  let s := (s.wrS F.MOT_CH_IMEAS_IQ (fRound st.iq) n).wrS F.MOT_CH_IMEAS_ID (fRound st.id) n
  s.motMod n fun c => { c with
    sd := st.sd, sq := st.sq, iqNow := st.iq, cmpNext := st.duty.map (compareOf h cmax)
    iqSum := c.iqSum + (f149 st.iq).getD 0, idSum := c.idSum + (f149 st.id).getD 0, sums := c.sums + 1 }

/-- iq measured at this period start, in codes, from the samples and the angle taken at it (R289). -/
def State.motIqNow (s : State) (n : Nat) : Word :=
  let c := s.motCh n
  let (iu, iv) := (c.samples.getD 0 0, c.samples.getD 1 0)
  (if s.rd F.MOT_CH_CFG_KIND n = 0 then focStep 0 0 0 0 0 iu iv 0 0 (s.motTheta n) else dcStep 0 0 0 0 iu iv 0).iq

/-- What the gates of a motor channel do (R297): all low; all low sides on; driven by the current loop; all off; and
high-impedance (R361). -/
inductive Gates where
  | low | lowSides | loop | off | free
  deriving DecidableEq, Repr

/-- The gates of channel `n` (R293, R297, R304, R361, R460); frozen, all low, or all low sides on for a latch-safe channel of a
device that drove (R505). -/
def State.motGates (s : State) (n : Nat) : Gates :=
  if s.dbg.frozen then
    if s.dbg.drove && (s.rd F.DBG_LATCH_MOT).testBit n && !s.power.vgdLow then .lowSides else .low
  else if !s.drives then .free
  else if s.power.vgdLow || s.motIs n .off || s.motIs n .idle then .low
  else if s.motIs n .brakeWait || s.motIs n .engage then .lowSides
  else if s.motLoop n && !(s.motCh n).slEnded then .loop
  else .off

/-- The gates of phase `x` of channel `n`, U, V, W being 0 to 2: a brushed motor has no W phase, whose gates stay low (R284). -/
def State.motPhaseGates (s : State) (n x : Nat) : Gates :=
  if x = 2 && s.rd F.MOT_CH_CFG_KIND n == 1 && s.motGates n != .free then .low else s.motGates n

/-- A gate pin of phase `x` of channel `n`, of the high or the low side (R284, R297). -/
def State.motPin (s : State) (n x : Nat) (high : Bool) : Pin :=
  s.pad (.mot n x high) (match s.motPhaseGates n x with
    | .free => .free
    | .lowSides => if high then .low else .on
    | .loop => .pwm
    | .low | .off => .low)

/-! ### Checks of a period start -/

/-- The envelope limit at POS (R300); none where the check is off. -/
def State.envelope (s : State) (n : Nat) : Option Nat :=
  let seg := s.rd F.MOT_CH_OBS_ENV_SEG n
  let z := (s.motPos n - s.rdS F.MOT_CH_ENV_ORG n) / seg
  let j := (max 0 (min 63 z)).toNat
  let lim := if (s.motCh n).forward then s.rd F.MOT_CH_ENV_FWD n j else s.rd F.MOT_CH_ENV_REV n j
  if lim = 0xFFFF then none else some lim

/-- The obstruction check (R300). `len` is the time since the last period start. The reaction's state begins at the
declaration, so that what the loop computes for it is in force at the next period start. -/
def State.obstruction (s : State) (n len : Nat) : State :=
  if !(s.motIs n .run && s.bit F.MOT_CH_STAT_HOMED n && !(s.motCh n).homing) then
    s.motMod n fun c => { c with overFor := none }
  else match s.envelope n with
    | none => s.motMod n fun c => { c with overFor := none }
    | some lim =>
      let iq := s.motIqNow n
      if ((f149 iq).getD 0).natAbs ≤ lim * 2 ^ 149 then s.motMod n fun c => { c with overFor := none }
      else
        let t := match (s.motCh n).overFor with
          | none => 0
          | some t => t + len
        let s := s.motMod n fun c => { c with overFor := some t }
        if t < s.rd F.MOT_CH_OBS_T_OBS n * 20000 || !s.motTakes n 3 then s
        else
          let pos := s.rd F.MOT_CH_POS n
          let s := (s.wr F.MOT_CH_OBS_POS pos n).raise 0x600 n [n, pos, wInt (fRound iq), lim]
          let s := s.motOutcome n 4 0 3
          match s.rd F.MOT_CH_CFG_OBS_ACT n with
          | 1 => s.motEnter n .reverse
          | 2 => s.motEnter n .coast
          | _ => s.motEnter n .stopping

/-- The travel check (R298). -/
def State.travel (s : State) (n : Nat) : State :=
  if !(s.motIs n .run && s.bit F.MOT_CH_STAT_HOMED n && s.motTakes n 4) then s
  else
    let pos := s.motPos n
    let lo := s.rdS F.MOT_CH_LIM_LO n
    let hi := s.rdS F.MOT_CH_LIM_HI n
    if lo ≤ pos ∧ pos ≤ hi then s
    else
      let lim := if pos < lo then s.rd F.MOT_CH_LIM_LO n else s.rd F.MOT_CH_LIM_HI n
      ((s.raise 0x607 n [n, s.rd F.MOT_CH_POS n, lim]).motOutcome n 3 6 4).motEnter n .stopping

/-- The brake has failed (R302): ENGAGE, outcome FAULT, reason BRAKE. -/
def State.brakeFailed (s : State) (n : Nat) : State :=
  let b := s.rd F.MOT_CH_BRAKE_BRK_CH n
  ((s.raise 0x602 n [n, b, s.rd F.SOL_CH_STAT_OUTCOME b, s.rd F.SOL_CH_STAT_MOTION b]).motOutcome n 3 5 6).motEnter n
    .engage

/-- BRAKE_WAIT at a period start (R302): the brake's stroke reports MOVED, or has failed. MOVED starts nothing where an event
of this cycle ends the move (R298). -/
def State.brakePoll (s : State) (n : Nat) : State :=
  if !s.motIs n .brakeWait then s
  else
    let b := s.rd F.MOT_CH_BRAKE_BRK_CH n
    if (s.solCh b).moved then (if (s.motCh n).next.isSome then s else s.motEnter n (s.motFirst n))
    else if (s.solCh b).failed || (s.solIs b .hold && s.rd F.SOL_CH_STAT_MOTION b == 2) then s.brakeFailed n
    else s

/-- Standstill ends STOPPING, REVERSE or COAST (R297). -/
def State.motStill (s : State) (n : Nat) : State :=
  if s.motIs n .stopping then
    (if s.bit F.MOT_CH_BRAKE_BRK_EN n then s.motEnter n .engage else s.motEnterIdle n)
  else if s.motIs n .reverse then s.motEnter n .stopping
  else if s.motIs n .coast then s.motEnterIdle n
  else s

/-- REVERSE ends REV_DIST back from OBS_POS (R297). -/
def State.reversed (s : State) (n : Nat) : State :=
  if !s.motIs n .reverse then s
  else
    let d : Int := if (s.motCh n).entryForward then 1 else -1
    if (s.rd F.MOT_CH_REV_REV_DIST n : Int) ≤ (s.rdS F.MOT_CH_OBS_POS n - s.motPos n) * d
    then s.motEnter n .stopping else s

/-- The observer's sector counts (R291): one count for each 60° of its angle since the last period start, the shorter way
round; at half a turn the way is not known and nothing counts. -/
def State.observerCount (s : State) (n x : Nat) : State :=
  let s := match (s.motCh n).slSector with
    | none => s
    | some y => match (x + 6 - y) % 6 with
      | 1 => s.motCount n true
      | 2 => (s.motCount n true).motCount n true
      | 4 => (s.motCount n false).motCount n false
      | 5 => s.motCount n false
      | _ => s
  s.motMod n fun c => { c with slSector := some x }

/-- The sensorless observer at a period start (R291 to R293): its angle counts, its frequency locks the start or ends the
drive, and it may lose its lock while the loop drives the motor; the observer itself is not specified. `len` is the time the
loop has run since the last period start. -/
def State.observer (s : State) (n len : Nat) : State :=
  if !(s.rd F.MOT_CH_CFG_POSSRC n == 2 && s.motLoop n) then s
  else
    let (a, s) := s.free 30
    let (f, s) := s.free 32
    let (lost, s) := s.free 33
    let obs := a % 2 ^ 32
    let s := (s.observerCount n (obs * 6 / 2 ^ 32)).motMod n fun c => { c with obs := obs, slTime := c.slTime + len }
    let ramp := s.rd F.MOT_CH_SL_SL_RAMP n * (s.motCh n).slTime
    let hz := 200000000
    if s.motIs n .run && !s.bit F.MOT_CH_STAT_SL_LOCK n then
      if decide (s.rd F.MOT_CH_SL_SL_MIN n * hz < f) && decide (9 * ramp ≤ 10 * f) && decide (10 * f ≤ 11 * ramp)
      then s.wrB F.MOT_CH_STAT_SL_LOCK true n else s
    else if s.motIs n .stopping && decide (f * 2 < s.rd F.MOT_CH_SL_SL_MIN n * hz) then
      s.motMod n fun c => { c.loopReset false with slEnded := true }
    else if s.bit F.MOT_CH_STAT_SL_LOCK n && !(s.motCh n).slEnded && lost % 2 == 1 then s.motFault n 4
    else s

/-- A state from its code. -/
def motStateOf (k : Nat) : MotState :=
  match k with
  | 0 => .off | 1 => .idle | 2 => .brakeWait | 3 => .align | 4 => .run | 5 => .reverse
  | 6 => .stopping | 7 => .engage | 8 => .coast | _ => .fault

/-- The energy of the period that ended (R306). -/
def State.motEnergy (s : State) (n : Nat) : State :=
  let c := s.motCh n
  let h := c.len / 2
  let shunt := s.rd F.MOT_CH_SHUNT n
  if !c.driven || c.cmp.isEmpty || h = 0 then s
  else if shunt = 0 then
    let (v, s) := s.free 34
    (s.subEnergy (0x80 + n) (0x90 + n) (signed 64 v) 1).motMod n fun c => { c with energy := c.energy + signed 64 v }
  else
    let dot := ((c.cmp.zip c.samples).map fun (a, b) => (a : Int) * b).foldl (· + ·) (0 : Int)
    let z := dot * s.rd F.MOT_VMOT * c.len
    let den := h * 2 ^ s.rd F.MOT_CH_CFG_RANGE n * 2048 * shunt * 3600
    (s.subEnergy (0x80 + n) (0x90 + n) z den).motMod n fun c =>
      { c with energy := c.energy + z * 3600 * 2 ^ 64 / den }

/-- The home is found (R303): the commit point of a homing move. -/
def State.motHomeFound (s : State) (n : Nat) : State :=
  if !((s.motCh n).homing && s.motIs n .run && s.motOpen n) then s
  else
    let s := s.raise 0x603 n [n, s.rd F.MOT_CH_POS n, s.rd F.MOT_CH_HOME_HOME_SRC n]
    let s := (s.wr F.MOT_CH_POS (s.rd F.MOT_CH_HOME_POS n) n).wrB F.MOT_CH_STAT_HOMED true n
    (s.motOutcome n 1 0 8).motNext n .stopping

/-- The hard stop (R303): |iq| is at least 0.9 × HOME_IQ, and POS has not changed for HOME_T ms. -/
def State.hardStop (s : State) (n : Nat) (iq : Word) : Bool :=
  decide (9 * s.motLimit (s.rd F.MOT_CH_HOME_HOME_IQ n) * 2 ^ 149 ≤ 10 * ((f149 iq).getD 0).natAbs) &&
    decide (s.rd F.MOT_CH_HOME_HOME_T n * 400000 ≤ s.deckNow - (s.motCh n).posAt)

/-- What HOME_SRC selects allows a home now (R303): the level of the GPIO, an index of the encoder, the hard stop at the iq of
the last period. -/
def State.homeAllowed (s : State) (n : Nat) : Bool :=
  match s.rd F.MOT_CH_HOME_HOME_SRC n with
  | 0 => (s.rd F.GPIO_IN).testBit (s.rd F.MOT_CH_HOME_HOME_GPIO n) == s.bit F.MOT_CH_HOME_HOME_LVL n
  | 1 => s.rd F.MOT_CH_CFG_POSSRC n == 1
  | _ => s.hardStop n (s.motCh n).iqNow

/-- The current and supply faults of R301 at a period start: a sample at or beyond ±OC_LIM in this period and in the last one
(while the outputs are off, one that lasts is recorded once), VMOT outside 10.5 V to 62 V while the gates are driven. -/
def State.motTests (s : State) (n : Nat) (vmot : Nat) : State :=
  if s.motIs n .fault then s
  else if (s.motCh n).ocRun == 2 then s.motFault n 1
  else if (vmot < 10500 || 62000 < vmot) && (s.motGates n == .loop || s.motGates n == .lowSides) then s.motFault n 3
  else s

/-- The state changes that wait for a period start (R297, R298). -/
def State.motTurn (s : State) (n : Nat) : State :=
  match (s.motCh n).next with
  | some k => s.motEnter n (motStateOf k)
  | none =>
    if s.motIs n .run && (s.motCh n).stopReq && s.motOpen n then (s.wr F.MOT_CH_STAT_OUTCOME 1 n).motEnter n .stopping
    else s

/-- An event of this CK_DRV cycle has set the outcome, and takes effect at this period start: what a period start finds meets it
(R298). -/
def State.motMeets (s : State) (n : Nat) : Bool :=
  s.running && (s.motCh n).next.isSome && match (s.motCh n).outAt with
    | some (t, _) => t == s.drvNow
    | none => false

/-- VGD falls below its limit (R460): the loop drives no gate from here on, and its integrators are 0 (R289). -/
def State.motVgdLow (s : State) : State :=
  { s with mot := s.mot.map fun kv => (kv.1, { kv.2 with sd := 0, sq := 0, cmp := [], cmpNext := [] }) }

/-- A period start of channel `n` (R289, R297 to R303). -/
def State.motPeriod (s : State) (n : Nat) (xs : List Int) (vmot : Nat) : State :=
  let s := s.wr F.MOT_VMOT vmot
  if s.motIs n .off then s
  else
    let took := (s.motCh n).len
    let driven := s.drives
    let s := if (s.motCh n).outSeen then s.motMod n fun c => { c with outAt := none, outSeen := false } else s
    let s := s.motEnergy n
    let len := s.motPeriodLen n
    let per := s.rd F.MOT_CH_PWM n
    let oc := s.rd F.MOT_CH_ILIM_OC_LIM n
    let s := (s.wrB F.MOT_CH_STAT_THROTTLED s.throttling n).motMod n fun c =>
      { c with samples := xs.map senseCode, len := len
               ocRun := if xs.any fun x => decide (oc ≤ (senseCode x).natAbs) then
                 (if driven then min 2 (c.ocRun + 1) else c.ocRun + 1) else 0
               cmp := c.cmpNext.map (scaleCompare per (s.rd F.MOT_CH_CFG_DT n) len) }
    let s := s.motTests n vmot
    let ran := s.motIs n .run || s.motIs n .reverse || s.motIs n .stopping
    let s := if s.motMeets n then ((s.brakePoll n).travel n).obstruction n took else s
    let s := (s.motTurn n).brakePoll n
    let s := (s.observer n (if ran then took else 0)).travel n
    let s := (s.obstruction n took).reversed n
    let s := if s.rd F.MOT_CH_HOME_HOME_SRC n = 2 && s.hardStop n (s.motIqNow n) then s.motHomeFound n else s
    let s := if (s.motCh n).still then s.motStill n else s
    let s := if s.motLoop n && !(s.motCh n).slEnded && !s.power.vgdLow then s.motLoopStep n else s
    s.motMod n fun c => { c with outSeen := c.outAt.isSome }

/-- A debounced GPIO level is accepted: homing motors that wait for it (R303). -/
def State.motGpio (s : State) (g : Nat) (level : Bool) : State :=
  if !s.domOn .mot then s else
    s.each (List.range 12) fun s n =>
      if s.rd F.MOT_CH_HOME_HOME_SRC n == 0 && s.rd F.MOT_CH_HOME_HOME_GPIO n == g
          && s.bit F.MOT_CH_HOME_HOME_LVL n == level then s.motHomeFound n else s

/-! ### The apply instant, the tick and the status words -/

/-- The torque target in codes of a command in amperes (R295): A × SHUNT × 10^-6 / LSB, to nearest even. -/
def State.motAmps (s : State) (n : Nat) (a : Word) : Int :=
  match F32.dec a with
  | .nan _ => 0
  | .inf neg => if neg then -2 ^ 40 else 2 ^ 40
  | .num neg m e =>
    let num := shiftZ m (e + 149) * (s.rd F.MOT_CH_SHUNT n * 2 ^ s.rd F.MOT_CH_CFG_RANGE n * 2048)
    let den := 200000 * 2 ^ 149
    let q := num / den
    let r := num % den
    let q := if den < 2 * r ∨ (2 * r = den ∧ q % 2 = 1) then q + 1 else q
    if neg then -(q : Int) else q

/-- A command point of channel `n` is unusable, or no longer: event 0x606 where it becomes so (R296). -/
def State.motPointBad (s : State) (n p : Nat) (was : Bool) (cmd : CmdIn) : State :=
  match cmd with
  | .bad q f => if was then s else s.raise 0x606 n [n, p, q, f]
  | _ => s

/-- A command that cannot be used. -/
def CmdIn.isBad : CmdIn → Bool
  | .bad .. => true
  | _ => false

/-- RUN_PT of channel `n` gives RUN and HOME (R295). -/
def State.motRun (s : State) (n : Nat) (v : Word) : State :=
  if v.getLsbD 0 then
    let s := s.motMod n fun c => { c with stopReq := false }
    if s.bit F.MOT_CH_STAT_ARMED n then s.motStart n (v.getLsbD 1) else s
  else (s.wrB F.MOT_CH_STAT_ARMED true n).motStop n

/-- Channel `n` at an apply instant (R295 to R297): an unusable point ends a move, and outside a move has no other effect. -/
def State.motApply (s : State) (n : Nat) : State :=
  if !s.bit F.MOT_CH_CFG_EN n || s.rd F.MOT_CH_CFG_SRC n != 0 then s
  else if !(s.motIs n .idle || s.motIs n .brakeWait || s.motIs n .align || s.motIs n .run) then s
  else
    let (tp, rp) := (s.rd F.MOT_CH_CMDPT n, s.rd F.MOT_CH_RUNPT n)
    let tq := match s.cmdIn tp [0] with
      | .val v => if fIsNaN v then CmdIn.bad ((s.seen tp).qual.code) 0 else .val v
      | x => x
    let run := s.cmdIn rp onOffFormats
    let c := s.motCh n
    let s := (s.motPointBad n tp c.badTq tq).motPointBad n rp c.badRun run
    let bad := tq.isBad || run.isBad
    let s := (s.wrB F.MOT_CH_STAT_CMDBAD bad n).motMod n fun c => { c with badTq := tq.isBad, badRun := run.isBad }
    if bad && s.motTakes n 5 then (s.motOutcome n 3 7 5).motNext n .stopping
    else
      let s := match tq with
        | .val v => s.motMod n fun c => { c with target := s.motAmps n v }
        | _ => s
      match run with
      | .val v => s.motRun n v
      | _ => s

/-- The length code of the bearing die's span before the one in progress. -/
def State.endedSel (s : State) : Nat :=
  match s.span.bear with
  | _ :: b :: _ => b.sel
  | _ => s.sel

/-- Channel `n` at the start of a span: SPEED and the means of the span that ended (R291, R305). -/
def State.motTick (s : State) (n : Nat) : State :=
  if s.motIs n .off then s
  else
    let c := s.motCh n
    let pos := s.motPos n
    let d := signed 32 (unsigned 32 (pos - c.posAtTick))
    let v := (d * 1000000).tdiv (spanUs s.endedSel)
    (s.wrS F.MOT_CH_SPEED v n).motMod n fun c =>
      { c with posAtTick := pos, iqLast := (c.iqSum, c.sums), idLast := (c.idSum, c.sums)
               iqSum := 0, idSum := 0, sums := 0 }

/-- The binary32 number nearest to num / den. -/
def fOfRatio (z : Int) (den : Nat) : Word :=
  if den = 0 then 0 else
    let t := z.natAbs * 2 ^ 200
    (roundF (decide (z < 0)) (t / den) (-200) (decide (t % den ≠ 0))).1

/-- A mean current of a span in amperes (R305); with SHUNT 0, or where the loop measured nothing in the span, a free value. -/
def State.motMean (s : State) (n : Nat) (m : Int × Nat) : Word × State :=
  let den := m.2 * 2 ^ s.rd F.MOT_CH_CFG_RANGE n * 2048 * s.rd F.MOT_CH_SHUNT n * 2 ^ 149
  if den = 0 then (let (v, s) := s.free 36; (BitVec.ofNat 32 v, s)) else (fOfRatio (m.1 * 200000) den, s)

/-- A binary32 result to the points of a source: SCALE and OFFSET apply to a point of format F32 as in R78. -/
def State.feedF (s : State) (cls id : Nat) (v : Word) (fault : Bool) (stamp : Nat × Nat) : State :=
  s.each (s.pointsOf cls id) fun s p =>
    let d := s.desc p
    let x := if d.fmt = 0 then fPlus (fTimes v d.scale) d.off else v
    s.hwWrite p cls id x fault false stamp

/-- Such a mean to the points of a status word (R305). -/
def State.feedMean (s : State) (n id : Nat) (m : Int × Nat) (fault : Bool) : State :=
  if (s.pointsOf 4 id).isEmpty then s
  else
    let (v, s) := s.motMean n m
    s.feedF 4 id v fault s.stamp

/-- Status word 0 of channel `n` (R305). -/
def State.motWord0 (s : State) (n : Nat) : Nat :=
  s.rd F.MOT_CH_STAT_STATE n + 2 ^ 4 * s.rd F.MOT_CH_STAT_OUTCOME n + 2 ^ 7 * s.rd F.MOT_CH_STAT_HOMED n
    + 2 ^ 8 * s.rd F.MOT_CH_STAT_ALIGNED n + 2 ^ 9 * s.rd F.MOT_CH_STAT_CMDBAD n
    + 2 ^ 10 * s.rd F.MOT_CH_STAT_THROTTLED n + 2 ^ 11 * (!s.motIs n .run && !s.motIs n .idle).toNat
    + 2 ^ 12 * s.rd F.MOT_CH_STAT_FLT_REASON n

/-- The status words of channel `n` go to their points (R305). -/
def State.motStatus (s : State) (n : Nat) : State :=
  let id (w : Nat) : Nat := 2 ^ 12 + w * 256 + n
  let fl := s.motIs n .fault
  let c := s.motCh n
  let s := s.feed 4 (id 0) (s.motWord0 n) fl s.stamp
  let s := s.feed 4 (id 1) (s.motPos n) fl s.stamp
  let s := s.feed 4 (id 2) (s.rdS F.MOT_CH_SPEED n) fl s.stamp
  let s := s.feedMean n (id 3) c.iqLast fl
  let s := s.feedMean n (id 4) c.idLast fl
  s.feed 4 (id 5) (s.rd F.MOT_CH_ENERGY n) fl s.stamp

/-! ### Commands -/

/-- A REG command is taken (R295, R304). -/
def State.motReg (s : State) (n : Nat) : Bool :=
  s.bit F.MOT_CH_CFG_EN n && s.rd F.MOT_CH_CFG_SRC n == 1 && s.takesCommands

/-- MOVE or HOME (R295). -/
def State.motStartCmd (s : State) (n : Nat) (home : Bool) : State := if s.motReg n then s.motStart n home else s

/-- STOP (R295). -/
def State.motStopCmd (s : State) (n : Nat) : State := if s.motReg n then s.motStop n else s

/-- ABORT (R295). -/
def State.motAbortCmd (s : State) (n : Nat) : State := if s.takesCommands then s.motAbort n else s

/-- CLEAR (R295). -/
def State.motClearCmd (s : State) (n : Nat) : State := if s.takesCommands then s.motClear n else s

/-- MOT_ENABLE (R299). -/
def execMotEnable (n : Fin 12) (s : State) : Out := s.reach [.mot] fun s => s.inCycle fun s => s.motEnable n

/-- MOT_DISABLE (R297). -/
def execMotDisable (n : Fin 12) (s : State) : Out := s.reach [.mot] fun s => s.inCycle fun s => s.motDisable n

/-- MOVE (R295). -/
def execMoveMot (n : Fin 12) (s : State) : Out := s.reach [.mot] fun s => s.inCycle fun s => s.motStartCmd n false

/-- HOME (R303). -/
def execHomeMot (n : Fin 12) (s : State) : Out := s.reach [.mot] fun s => s.inCycle fun s => s.motStartCmd n true

/-- STOP (R298). -/
def execMotStop (n : Fin 12) (s : State) : Out := s.reach [.mot] fun s => s.inCycle fun s => s.motStopCmd n

/-- ABORT (R298). -/
def execMotAbort (n : Fin 12) (s : State) : Out := s.reach [.mot] fun s => s.inCycle fun s => s.motAbortCmd n

/-- CLEAR (R301). -/
def execMotClear (n : Fin 12) (s : State) : Out := s.reach [.mot] fun s => s.inCycle fun s => s.motClearCmd n

/-- MOT_PERIOD_START (R289). -/
def execMotPeriodStart (n : Fin 12) (ia ib ic : Int) (vmot : BitVec 16) (s : State) : Out :=
  s.act [.mot] fun s => s.inCycle fun s => s.motPeriod n [ia, ib, ic] vmot.toNat

/-- The lines of channel `n` take new levels (R291): its position source counts, in every state but OFF. -/
def State.motEdge (s : State) (n : Nat) (e : PosEdge) : State :=
  let x := (s.motCh n).lines.getD 0
  let y := match e with
    | .hall h => h
    | .enc a b => BitVec.ofNat 3 (4 * a.toNat + 2 * b.toNat + (x.getLsbD 0).toNat)
  let s := s.motMod n fun c => { c with lines := some y }
  if s.motIs n .off then s
  else match e with
    | .hall h => if s.rd F.MOT_CH_CFG_POSSRC n == 0 then s.hallStep n h else s
    | .enc a b => if s.rd F.MOT_CH_CFG_POSSRC n == 1 then s.encStep n x a b else s

/-- POSITION_EDGE (R291). -/
def execPositionEdge (n : Fin 12) (e : PosEdge) (s : State) : Out := s.act [.mot] fun s => s.inCycle fun s => s.motEdge n e

/-- HALL_INVALID_PERSIST (R292): the code of the lines is 0b000 or 0b111. -/
def execHallInvalidPersist (n : Fin 12) (s : State) : Out :=
  s.act [.mot] fun s => s.inCycle fun s =>
    if s.rd F.MOT_CH_CFG_POSSRC n == 0 && (hallSector ((s.motCh n).lines.getD 0)).isNone then s.motFault n 4 else s

/-- STANDSTILL (R291): what it ends, it ends at the next period start (R297). -/
def execStandstill (n : Fin 12) (s : State) : Out :=
  s.act [.mot] fun s => s.inCycle fun s => if s.motIs n .off then s else s.motMod n fun c => { c with still := true }

/-- ALIGN_END (R294): RUN begins at the next period start, unless an event ends the move there (R297, R298). -/
def execAlignEnd (n : Fin 12) (s : State) : Out :=
  s.act [.mot] fun s => s.inCycle fun s =>
    if !s.motIs n .align then s
    else (s.motMod n fun c => { c with alignPos := s.motPos n, next := c.next.orElse fun _ => some MotState.run.code }).wrB
      F.MOT_CH_STAT_ALIGNED true n

/-- SL_LOCK_TIMEOUT (R293). -/
def execSlLockTimeout (n : Fin 12) (s : State) : Out :=
  s.act [.mot] fun s => s.inCycle fun s =>
    if s.motIs n .run && s.rd F.MOT_CH_CFG_POSSRC n == 2 && !s.bit F.MOT_CH_STAT_SL_LOCK n then s.motFault n 4 else s

/-- BRAKE_TIMEOUT (R302): before the stroke reports MOVED. -/
def execBrakeTimeout (n : Fin 12) (s : State) : Out :=
  s.act [.mot] fun s => s.inCycle fun s =>
    if s.motIs n .brakeWait && !(s.solCh (s.rd F.MOT_CH_BRAKE_BRK_CH n)).moved then s.brakeFailed n else s

/-- ENGAGE_END (R302): not before the brake's release completes. -/
def execEngageEnd (n : Fin 12) (s : State) : Out :=
  s.act [.mot] fun s => s.inCycle fun s =>
    if s.motIs n .engage && !s.solIs (s.rd F.MOT_CH_BRAKE_BRK_CH n) .release then s.motEnterIdle n else s

/-- HOME_FOUND (R303). -/
def execHomeFound (n : Fin 12) (s : State) : Out :=
  s.act [.mot] fun s => s.inCycle fun s => if s.homeAllowed n then s.motHomeFound n else s

end Sys2Proof.Machine
end

