-- ==== Sys2Proof/Machine/Fan.lean ====
section
/-! DEFINITION. The fan and pump channels (11_fan_channels.md). -/

namespace Sys2Proof.Machine

/-- FAN_CHn_STAT.STATE codes (R315). -/
inductive FanState where
  | off | idle | kick | retry | run | tachLost | locked | fault
  deriving DecidableEq, Repr

/-- The code of a fan state. -/
def FanState.code : FanState → Nat
  | .off => 0 | .idle => 1 | .kick => 2 | .retry => 3 | .run => 4 | .tachLost => 5 | .locked => 6 | .fault => 7

/-- What channel `n` keeps beside its registers. -/
def State.fanCh (s : State) (n : Nat) : FanCh := Sparse.get s.fan {} n

/-- Change what channel `n` keeps. -/
def State.fanMod (s : State) (n : Nat) (f : FanCh → FanCh) : State :=
  { s with fan := Sparse.set s.fan {} n (f (s.fanCh n)) }

/-- Channel `n` stands in state `k`. -/
def State.fanIs (s : State) (n : Nat) (k : FanState) : Bool := s.rd F.FAN_CH_STAT_STATE n == k.code

/-- Put channel `n` into state `k`: RPM reads 0 outside KICK and RUN (R311), duty 0 outside KICK, RUN and TACH_LOST
(R309). -/
def State.fanTo (s : State) (n : Nat) (k : FanState) : State :=
  let s := s.wr F.FAN_CH_STAT_STATE k.code n
  let s := if k = .kick ∨ k = .run then s else s.wr F.FAN_CH_MEAS_RPM 0 n
  if k = .kick ∨ k = .run ∨ k = .tachLost then s else s.fanMod n fun c => { c with duty := 0 }

/-- The channel drives (R309). -/
def State.fanDrives (s : State) (n : Nat) : Bool := s.fanIs n .kick || s.fanIs n .run || s.fanIs n .tachLost

/-- The channel is held latched by a freeze (R505). -/
def State.fanLatched (s : State) (n : Nat) : Bool := s.dbg.frozen && s.dbg.drove && (s.rd F.DBG_LATCH_FAN).testBit n

/-- FANn_PWM (R308, R309, R320, R505): released for the duty in force, or low under LOWSIDE. -/
def State.fanPwmPin (s : State) (n : Nat) : Pin :=
  s.pad (.fanPwm n) (if s.fanLatched n then .on
    else if !s.drives then .free
    else if s.rd F.FAN_CH_CFG_DRIVE n = 1 then .low
    else .pulse (s.rd F.FAN_CH_MEAS_DUTY n))

/-- FANn_G (R308, R309, R320, R505): low under PWM, on for the duty in force under LOWSIDE, on without pause under PWM_SW; low
while the channel does not drive. -/
def State.fanGPin (s : State) (n : Nat) : Pin :=
  let drive := s.rd F.FAN_CH_CFG_DRIVE n
  s.pad (.fanG n) (if s.fanLatched n then (if drive = 0 || s.power.vgdLow then .low else .on)
    else s.gatePin (if drive = 0 || !s.fanDrives n then .low
      else if drive = 1 then .pulse (s.rd F.FAN_CH_MEAS_DUTY n) else .on))

/-- A start is in progress: KICK or RETRY (R315). -/
def State.fanStarting (s : State) (n : Nat) : Bool := s.fanIs n .kick || s.fanIs n .retry

/-- The next attempt begins in KICK (R315). -/
def State.fanKick (s : State) (n : Nat) : State :=
  let s := (s.wr F.FAN_CH_STAT_ATTEMPT (s.rd F.FAN_CH_STAT_ATTEMPT n + 1) n).wrB F.FAN_CH_STAT_TACH_SEEN false n
  (s.fanTo n .kick).fanMod n fun c => { c with duty := 8000, edges := 0, intervals := [] }

/-- A new start: OUTCOME and ATTEMPT are cleared, `k` attempts may be made (R315, R316). -/
def State.fanNewStart (s : State) (n k : Nat) : State :=
  ((s.wr F.FAN_CH_STAT_OUTCOME 0 n).wr F.FAN_CH_STAT_ATTEMPT 0 n).fanMod n fun c => { c with attempts := k }

/-- A start by request or RESTART: the first attempt at once, then RETRIES more (R315). -/
def State.fanStart (s : State) (n : Nat) : State :=
  let s := (s.wrB F.FAN_CH_STAT_ARMED false n).wr F.FAN_CH_STAT_VERDICT 0 n
  (s.fanNewStart n (1 + s.rd F.FAN_CH_START_RETRIES n)).fanKick n

/-- The last attempt has failed: LOCKED (R315). -/
def State.fanLock (s : State) (n : Nat) : State :=
  ((s.fanTo n .locked).wr F.FAN_CH_STAT_OUTCOME 3 n).raise 0x700 n [n, s.rd F.FAN_CH_STAT_ATTEMPT n]

/-- A start of channel `n` ended in this very CK_DRV cycle (R316). -/
def State.fanEndedNow (s : State) (n : Nat) : Bool := s.running && (s.fanCh n).abortAt == some s.drvNow

/-- It ended ABORTED. -/
def State.fanAbortedNow (s : State) (n : Nat) : Bool := s.fanEndedNow n && s.rd F.FAN_CH_STAT_OUTCOME n == 2

/-- The start ends ABORTED, by an ABORT or by a target of 0 (R316). -/
def State.fanAborted (s : State) (n : Nat) (abort : Bool) : State :=
  let was := s.rd F.FAN_CH_STAT_STATE n
  let now := s.drvNow
  ((((s.wr F.FAN_CH_STAT_OUTCOME 2 n).fanTo n .idle).wrB F.FAN_CH_STAT_ARMED false n).raise 0x705 n [n, was]).fanMod n
    fun c => { c with abortAt := some now, byAbort := abort }

/-- Channel `n` sees a target (R312 to R316). A target of 0 in the cycle of an ABORT gives way to it. -/
def State.fanSee (s : State) (n t : Nat) : State :=
  let t := if t = 0 then 0 else max (s.rd F.FAN_CH_RPM_RPM_MIN n) (min t (s.rd F.FAN_CH_RPM_RPM_MAX n))
  let s := s.fanMod n fun c => { c with target := t }
  if t = 0 then
    if s.fanStarting n then s.fanAborted n false
    else if s.fanAbortedNow n && (s.fanCh n).byAbort then s
    else if s.fanIs n .run || s.fanIs n .tachLost || s.fanIs n .locked || s.fanIs n .idle then
      (s.fanTo n .idle).wrB F.FAN_CH_STAT_ARMED true n
    else s.wrB F.FAN_CH_STAT_ARMED true n
  else if s.fanIs n .idle && s.bit F.FAN_CH_STAT_ARMED n then s.fanStart n
  else s

/-- The target of channel `n` at an apply instant (R312, R313). -/
def State.fanApply (s : State) (n : Nat) : State :=
  if !s.bit F.FAN_CH_CFG_EN n then s
  else if s.rd F.FAN_CH_CFG_SRC n ≠ 0 then s.fanSee n (s.rd F.FAN_CH_REGTGT n)
  else
    let p := s.rd F.FAN_CH_TGTPT n
    let fmt := ((s.span.inForce.find? fun c => c.pt == p).map (·.fmt)).getD 0
    let cmd := match s.cmdIn p [0, 3] with
      | .val v => if fmt = 0 && fIsNaN v then CmdIn.bad ((s.seen p).qual.code) 0 else .val v
      | x => x
    match cmd with
    | .keep => s.wrB F.FAN_CH_STAT_CMDBAD false n
    | .val v =>
      let t : Nat := if fmt = 0 then (fRound v).toNat else v.toNat
      (s.wrB F.FAN_CH_STAT_CMDBAD false n).fanSee n t
    | .bad q f =>
      let s := if s.bit F.FAN_CH_STAT_CMDBAD n then s
        else (s.wrB F.FAN_CH_STAT_CMDBAD true n).raise 0x706 n [n, p, q, f]
      s.fanSee n (if s.bit F.FAN_CH_CFG_FAILFULL n then s.rd F.FAN_CH_RPM_RPM_MAX n else 0)

/-- A write of FAN_CHn_REGTGT has reached the channel (R312). -/
def State.fanRegTarget (s : State) (n : Nat) : State :=
  if s.bit F.FAN_CH_CFG_EN n && s.rd F.FAN_CH_CFG_SRC n == 1 && s.takesCommands
  then s.fanSee n (s.rd F.FAN_CH_REGTGT n) else s

/-- Why enabling channel `n` is refused, 0 for no reason. -/
def State.fanRefusal (s : State) (n : Nat) : Nat :=
  let (lo, hi) := (s.rd F.FAN_CH_RPM_RPM_MIN n, s.rd F.FAN_CH_RPM_RPM_MAX n)
  let (dl, dh) := (s.rd F.FAN_CH_DUTY_DMIN n, s.rd F.FAN_CH_DUTY_DMAX n)
  if lo < 200 ∨ 20000 < hi ∨ hi < lo ∨ 8000 < dh ∨ dh < dl ∨ s.rd F.FAN_CH_START_KICK_T n < s.rd F.FAN_CH_START_START_TO n
  then 1
  else if s.isRetired 3 (gateUnit 2 n) then 2 else 0

/-- Setting EN (R314, R315). -/
def State.fanEnable (s : State) (n : Nat) : State :=
  if s.bit F.FAN_CH_CFG_EN n then s
  else
    let r := s.fanRefusal n
    let s := s.wr F.FAN_CH_STAT_REASON r n
    if r ≠ 0 then s
    else
      let s := ((s.wrB F.FAN_CH_CFG_EN true n).fanTo n .idle).wrB F.FAN_CH_STAT_ARMED s.drives n
      let s := (s.wr F.FAN_CH_STAT_FLT_REASON 0 n).wr F.FAN_CH_STAT_VERDICT 0 n
      (s.fanMod n fun _ => {}).fanRegTarget n

/-- Clearing EN: duty 0, a start ends ABORTED (R316). -/
def State.fanDisable (s : State) (n : Nat) : State :=
  let s := if s.fanStarting n then s.fanAborted n true else s
  let s := ((s.wrB F.FAN_CH_CFG_EN false n).fanTo n .off).wrB F.FAN_CH_STAT_ARMED false n
  s.wr F.FAN_CH_MEAS_DUTY 0 n

/-- The outputs are not owned or held off (R320): IDLE, disarmed, a start ends ABORTED. A channel in FAULT whose gate is under
test stays there (R455). -/
def State.fanForceIdle (s : State) (n : Nat) : State :=
  if s.fanIs n .off || (s.fanIs n .fault && s.gateTested (gateUnit 2 n)) then s
  else
    let s := if s.fanStarting n then s.wr F.FAN_CH_STAT_OUTCOME 2 n else s
    ((s.fanTo n .idle).wrB F.FAN_CH_STAT_ARMED false n).wr F.FAN_CH_MEAS_DUTY 0 n

/-- ABORT (R316): of a start that a fault or a target of 0 ended in this cycle, it comes in time; over the target of 0 it takes
precedence, so that the channel is disarmed. -/
def State.fanAbort (s : State) (n : Nat) : State :=
  if s.fanStarting n then s.fanAborted n true
  else if s.fanEndedNow n then
    (if s.fanAbortedNow n then (s.wrB F.FAN_CH_STAT_ARMED false n).fanMod n fun c => { c with byAbort := true } else s)
  else if s.fanIs n .off || (s.fanIs n .idle && s.rd F.FAN_CH_STAT_OUTCOME n == 0) then s
  else s.wrB F.FAN_CH_STAT_ABORT_LATE true n

/-- RESTART (R315). -/
def State.fanRestart (s : State) (n : Nat) : State := if s.fanIs n .locked then s.fanStart n else s

/-- CLEAR (R319, R321): in FAULT the channel goes to IDLE disarmed, unless its gate is under test (R453); the verdict is cleared in
every state. -/
def State.fanClear (s : State) (n : Nat) : State :=
  let done := s.fanIs n .fault && !s.gateTested (gateUnit 2 n)
  (if done then (s.fanTo n .idle).wrB F.FAN_CH_STAT_ARMED false n else s).wr F.FAN_CH_STAT_VERDICT 0 n

/-- IMEAN of channel `n`, signed (R310). -/
def State.fanImean (s : State) (n : Nat) : Int := s.rdS F.FAN_CH_IMEAN n

/-- A fault of R321: duty 0; OPEN records 0x703, the others 0x704. It wins over an ABORT of the same cycle (R316). While the
outputs are off, which forces every channel to IDLE (R320), the fault is recorded only. -/
def State.fanFault (s : State) (n reason : Nat) : State :=
  if s.fanIs n .off then s
  else
    let undo := s.fanAbortedNow n
    let now := s.drvNow
    let s := if !s.drives then s
      else if undo then ((s.unraise 0x705 n).wr F.FAN_CH_STAT_OUTCOME 0 n).fanTo n .fault
      else if s.fanStarting n then (s.fanTo n .fault).fanMod n fun c => { c with abortAt := some now, byAbort := false }
      else s.fanTo n .fault
    let s := s.wr F.FAN_CH_STAT_FLT_REASON reason n
    if reason = 3 then s.raise 0x703 n [n, wInt (s.fanImean n)]
    else s.raise 0x704 n [n, reason, wInt (s.fanCh n).last]

/-! ### Tachometer and verdicts (R311, R317 to R319) -/

/-- An accepted edge after an interval of `t` × 0.1 µs (R311, R315, R319): TREV in every state, RPM in KICK and RUN. -/
def State.tachEdge (s : State) (n t : Nat) : State :=
  let ppr := s.rd F.FAN_CH_CFG_PPR n + 1
  let is := (t :: (s.fanCh n).intervals).take ppr
  let trev := if is.length < ppr then t * ppr else is.sum
  let s := (s.fanMod n fun c => { c with intervals := is, edges := min 2 (c.edges + 1) }).wr F.FAN_CH_TREV
    (min 0xFFFFFF trev) n
  let s := if s.fanIs n .tachLost then
      (if (s.fanCh n).edges = 2 then s.fanTo n .run else s)
    else if s.fanIs n .kick && (s.fanCh n).edges == 2 then s.wrB F.FAN_CH_STAT_TACH_SEEN true n
    else s
  if s.fanIs n .kick || s.fanIs n .run then
    let rpm := 600000000 / trev
    let (rpm, s) := if trev = 0 ∨ 0xFFFF < rpm then s.free 40 else (rpm, s)
    s.wr F.FAN_CH_MEAS_RPM rpm n
  else s

/-- STALL (R318): duty 0 and RETRY, a start of up to RETRIES attempts. -/
def State.fanStall (s : State) (n : Nat) : State :=
  let s := (s.wr F.FAN_CH_STAT_VERDICT 2 n).raise 0x702 n [n, wInt (s.fanImean n)]
  (s.fanNewStart n (s.rd F.FAN_CH_START_RETRIES n)).fanTo n .retry

/-- OPEN (R318, R321). -/
def State.fanOpen (s : State) (n : Nat) : State := (s.wr F.FAN_CH_STAT_VERDICT 3 n).fanFault n 3

/-- Tachometer loss is declared in RUN (R318). -/
def State.tachLoss (s : State) (n : Nat) : State :=
  if !s.fanIs n .run then s
  else
    let i := s.fanImean n
    let (lo, hi) := ((s.rd F.FAN_CH_ISENSE_I_OPEN n : Int), (s.rd F.FAN_CH_ISENSE_I_STALL n : Int))
    if s.rd F.FAN_CH_CFG_DRIVE n = 0 then s.fanStall n
    else if lo < i ∧ i < hi then
      let s := (s.wr F.FAN_CH_STAT_VERDICT 1 n).raise 0x701 n
        [n, s.rd F.FAN_CH_TREV n, wInt i, (s.fanCh n).duty]
      (s.fanTo n .tachLost).fanMod n fun c => { c with edges := 0 }
    else if i ≤ lo then s.fanOpen n
    else s.fanStall n

/-- The test of every millisecond in TACH_LOST (R319). -/
def State.tachLostTest (s : State) (n : Nat) : State :=
  if !s.fanIs n .tachLost then s
  else
    let i := s.fanImean n
    if i ≤ s.rd F.FAN_CH_ISENSE_I_OPEN n then s.fanOpen n
    else if (s.rd F.FAN_CH_ISENSE_I_STALL n : Int) ≤ i then s.fanStall n
    else s

/-- The speed loop's step in RUN (R317). -/
def State.fanLoop (s : State) (n : Nat) : State :=
  if !s.fanIs n .run then s
  else
    let c := s.fanCh n
    let e : Int := (c.target : Int) - s.rd F.FAN_CH_MEAS_RPM n
    let p := (s.rd F.FAN_CH_LOOP_KP n * e) / 256
    let (dl, dh) := ((s.rd F.FAN_CH_DUTY_DMIN n : Int), (s.rd F.FAN_CH_DUTY_DMAX n : Int))
    let u := p + c.acc / 256
    let acc := if (dh ≤ u ∧ 0 < e) ∨ (u ≤ dl ∧ e < 0) then c.acc
      else max (dl * 256) (min (dh * 256) (c.acc + s.rd F.FAN_CH_LOOP_KI n * e))
    let d := max dl (min dh (p + acc / 256))
    s.fanMod n fun c => { c with acc := acc, duty := d.toNat }

/-- One current sample (R310): the running millisecond, with its mean after 500 samples, and the samples at or above the
overcurrent threshold `oc`. The last component says that two in a row were; while the outputs are off, an overcurrent that
lasts counts once. -/
def fanSample (oc : Int) (driven : Bool) (a : FanCh × Option Int × Bool) (x : Int) : FanCh × Option Int × Bool :=
  let (c, m, hit) := a
  let overs := if oc ≤ x then (if driven then min 2 (c.overs + 1) else c.overs + 1) else 0
  let sum := c.msSum + x
  let c := { c with last := x, overs := overs }
  let hit := hit || overs == 2
  if c.msCount + 1 < 500 then ({ c with msSum := sum, msCount := c.msCount + 1 }, m, hit)
  else ({ c with msSum := 0, msCount := 0 }, some (divFreeZ sum 500), hit)

/-- The monitor value of the supply that VSRC names, in mV (R323); `vin` is VIN's. -/
def State.fanSupply (s : State) (n vin : Nat) : Nat :=
  match s.rd F.FAN_CH_CFG_VSRC n with
  | 1 => s.rd F.SOL_VSOL
  | 2 => s.rd F.MOT_VMOT
  | _ => vin

/-- The energy of a PWM period with these samples (R323). -/
def State.fanEnergy (s : State) (n : Nat) (xs : List Int) (vin : Nat) : State :=
  let shunt := s.rd F.FAN_CH_SHUNT n
  if shunt = 0 then
    let (v, s) := s.free 41
    s.subEnergy (0xA0 + n) (0xB0 + n) (signed 64 v) 1
  else
    s.subEnergy (0xA0 + n) (0xB0 + n) (xs.foldl (· + ·) 0 * s.fanSupply n vin * 10) (xs.length * 2048 * shunt * 9)

/-- A PWM period ends with its samples; the duty set before takes effect (R308, R310, R323). -/
def State.fanPeriod (s : State) (n : Nat) (raw : List Int) (vin : Nat) : State :=
  let s := s.wr F.FAN_CH_MEAS_DUTY (s.fanCh n).duty n
  if s.fanIs n .off || s.rd F.FAN_CH_CFG_DRIVE n == 0 || raw.isEmpty then s
  else
    let xs := raw.map senseCode
    let (c, m, hit) := xs.foldl (fanSample (s.rd F.FAN_CH_OC n) s.drives) (s.fanCh n, none, false)
    let s := s.fanMod n fun _ => c
    let s := match m with
      | some v => s.wrS F.FAN_CH_IMEAN v n
      | none => s
    let s := s.fanEnergy n xs vin
    if hit && !s.fanIs n .fault then s.fanFault n 1 else s

/-- Status words of channel `n` to their points (R322). -/
def State.fanStatus (s : State) (n : Nat) : State :=
  let id (w : Nat) : Nat := 2 * 2 ^ 12 + w * 256 + n
  let fl := s.fanIs n .fault || s.fanIs n .locked
  let w0 : Nat := s.rd F.FAN_CH_STAT_STATE n + 2 ^ 4 * s.rd F.FAN_CH_STAT_OUTCOME n + 2 ^ 6 * s.rd F.FAN_CH_STAT_VERDICT n
    + 2 ^ 8 * s.rd F.FAN_CH_STAT_CMDBAD n + 2 ^ 12 * s.rd F.FAN_CH_STAT_FLT_REASON n
    + 2 ^ 16 * s.rd F.FAN_CH_STAT_ATTEMPT n
  let s := s.feed 4 (id 0) w0 fl s.stamp
  let s := s.feed 4 (id 1) (s.rd F.FAN_CH_MEAS_RPM n) (fl || s.fanIs n .tachLost) s.stamp
  let s := s.feed 4 (id 2) (s.rd F.FAN_CH_MEAS_DUTY n) fl s.stamp
  s.feed 4 (id 3) (s.fanImean n) fl s.stamp

/-! ### Commands -/

/-- A command of FAN_CHn_CMD is taken (R314, R320). -/
def State.fanCmd (s : State) (f : State → State) : State := if s.takesCommands then f s else s

/-- FAN_ENABLE (R314). -/
def execFanEnable (n : Fin 16) (s : State) : Out := s.reach [.fan] fun s => s.inCycle fun s => s.fanEnable n

/-- FAN_DISABLE (R316). -/
def execFanDisable (n : Fin 16) (s : State) : Out := s.reach [.fan] fun s => s.inCycle fun s => s.fanDisable n

/-- FAN_ABORT (R316). -/
def execFanAbort (n : Fin 16) (s : State) : Out := s.reach [.fan] fun s => s.inCycle fun s => s.fanCmd fun s => s.fanAbort n

/-- FAN_RESTART (R315). -/
def execFanRestart (n : Fin 16) (s : State) : Out := s.reach [.fan] fun s => s.inCycle fun s => s.fanCmd fun s => s.fanRestart n

/-- FAN_CLEAR (R321). -/
def execFanClear (n : Fin 16) (s : State) : Out := s.reach [.fan] fun s => s.inCycle fun s => s.fanCmd fun s => s.fanClear n

/-- TACH_EDGE (R311). -/
def execTachEdge (n : Fin 16) (interval : Nat) (s : State) : Out :=
  s.act [.fan] fun s => s.inCycle fun s => s.tachEdge n interval

/-- START_TIMEOUT (R315). -/
def execStartTimeout (n : Fin 16) (s : State) : Out :=
  s.act [.fan] fun s => s.inCycle fun s =>
    if s.fanIs n .kick && !s.bit F.FAN_CH_STAT_TACH_SEEN n then
      (if s.rd F.FAN_CH_STAT_ATTEMPT n < (s.fanCh n).attempts then s.fanTo n .retry else s.fanLock n)
    else s

/-- KICK_END (R316): the commit point of a start. -/
def execKickEnd (n : Fin 16) (s : State) : Out :=
  s.act [.fan] fun s => s.inCycle fun s =>
    if s.fanIs n .kick && s.bit F.FAN_CH_STAT_TACH_SEEN n then
      let d := s.rd F.FAN_CH_LOOP_DSTART n
      ((s.fanTo n .run).wr F.FAN_CH_STAT_OUTCOME 1 n).fanMod n fun c => { c with acc := (d * 256 : Nat), duty := d }
    else s

/-- RETRY_GAP_END (R315): the next attempt, or LOCKED when the start may make none. -/
def execRetryGapEnd (n : Fin 16) (s : State) : Out :=
  s.act [.fan] fun s => s.inCycle fun s =>
    if s.fanIs n .retry then
      (if s.rd F.FAN_CH_STAT_ATTEMPT n < (s.fanCh n).attempts then s.fanKick n else s.fanLock n)
    else s

/-- FAN_LOOP_STEP (R317). -/
def execFanLoopStep (n : Fin 16) (s : State) : Out := s.act [.fan] fun s => s.inCycle fun s => s.fanLoop n

/-- TACH_LOSS (R318). -/
def execTachLoss (n : Fin 16) (s : State) : Out := s.act [.fan] fun s => s.inCycle fun s => s.tachLoss n

/-- TACH_LOST_TEST (R319). -/
def execTachLostTest (n : Fin 16) (s : State) : Out := s.act [.fan] fun s => s.inCycle fun s => s.tachLostTest n

/-- FAN_PWM_PERIOD (R323). -/
def execFanPwmPeriod (n : Fin 16) (samples : List Int) (vin : BitVec 16) (s : State) : Out :=
  s.act [.fan] fun s => s.fanPeriod n samples vin.toNat

end Sys2Proof.Machine
end

