-- ==== Sys2Proof/Machine/DriveOff.lean ====
section
/-! DEFINITION. Ownership of the outputs (13_twin_operation.md, R361 to R363): DRIVING, and what every channel does when it
falls. -/

namespace Sys2Proof.Machine

/-- Every drive channel is forced to IDLE (R269, R304, R320), and armed zero-cross changes are cancelled (R334). -/
def State.outputsOff (s : State) : State :=
  let s := (s.each (List.range 32) State.solForceIdle).each (List.range 8) State.solGroup
  let s := s.each (List.range 12) State.motForceIdle
  let s := s.each (List.range 16) State.fanForceIdle
  s.each [0, 1, 2, 3] State.zswCancel

/-- Gate tests are abandoned when DRIVING falls (R455). -/
def State.gatesAbandon (s : State) : State :=
  { s with health := { s.health with
    running := s.health.running.filter fun t => t.1 != 3
    again := s.health.again ++ testsOf s.health.running 3 } }

/-- Abandoned gate tests run again when DRIVING is 1 (R455). -/
def State.gatesResume (s : State) : State :=
  { s with health := { s.health with again := [], running := s.health.running ++ s.health.again } }

/-- DRIVING follows OWN_OUT and OWN_IN (R362); EPULSE outputs that are driven again give the pulses that are due (R343, R361). -/
def State.drivingUpdate (s : State) : State :=
  let d := s.bit F.TWIN_STAT_OWN_OUT && !s.bit F.TWIN_STAT_OWN_IN
  if d = s.driving then s
  else if d then (s.wrB F.TWIN_STAT_DRIVING true).gatesResume.each [0, 1, 2, 3] State.epulseKick
  else s.inCycle fun s => (s.wrB F.TWIN_STAT_DRIVING false).outputsOff.gatesAbandon

/-- Raise OWN_OUT (R364, R373, R475). -/
def State.ownRaise (s : State) : State := (s.wrB F.TWIN_STAT_OWN_OUT true).drivingUpdate

/-- A drop of OWN_OUT is recorded with its cause (R363). The causes have no codes in the specification. -/
def State.releaseEvent (s : State) : State :=
  let (c, s) := s.free 70
  s.event 0x905 [c % 2 ^ 32]

/-- The supervisor drops OWN_OUT and records why (R363). -/
def State.ownDrop (s : State) : State :=
  if !s.bit F.TWIN_STAT_OWN_OUT then s
  else (s.wrB F.TWIN_STAT_OWN_OUT false).drivingUpdate.releaseEvent

/-- DRIVING_CHANGE (R362): the filtered level of OWN_IN. The level is the partner's, whatever this device does; a device in reset or
with its clocks gated off drives nothing. -/
def execDrivingChange (ownIn : Bool) (s : State) : Out :=
  .next (let s := s.wrB F.TWIN_STAT_OWN_IN ownIn; if s.alive then s.drivingUpdate else s)

end Sys2Proof.Machine
end

