-- ==== Sys2Proof/Machine/Start.lean ====
section
/-! DEFINITION. The order of start-up after ADMIT (18_power_reset_boot.md, R475): the twin-role, ring-join and prime
steps. -/

namespace Sys2Proof.Machine

/-- The start-up order stands at step `k` now. -/
def State.toStep (s : State) (k : Step) : State := s.wr F.SYS_START_STAT_STEP k.code

/-- The device runs on its own tick counter (R367, R390): SPAN_STAT.SOURCE is LOCAL again where it was `src`. -/
def State.localTick (s : State) (src : Nat) : State :=
  if s.rd F.SPAN_STAT_SOURCE = src then s.wr F.SPAN_STAT_SOURCE 0 else s

/-- Set the twin role: only a standby takes its tick from its twin (R367). -/
def State.setRole (s : State) (r : Role) : State :=
  let s := s.wr F.TWIN_STAT_ROLE r.code
  if r = .standby then s else s.localTick 2

/-- The ring-join step is over, or not enabled: the next tick opens span P (R475). -/
def State.joinDone (s : State) : State := s.toStep .prime

/-- TRESTLE_STAT.STATE codes (R387). -/
inductive TreState where
  | off | training | elect | joining | run | holdover | refused
  deriving DecidableEq, Repr

/-- The code of a ring state. -/
def TreState.code : TreState → Nat
  | .off => 0 | .training => 1 | .elect => 2 | .joining => 3 | .run => 4 | .holdover => 5 | .refused => 6

/-- The ring state is `k`. -/
def State.treIs (s : State) (k : TreState) : Bool := s.rd F.TRESTLE_STAT_STATE == k.code

/-- The ring state changes; a step of start-up that waits for it goes on (R387, R475). -/
def State.treTo (s : State) (k : TreState) : State :=
  let never := 2 ^ 48
  let s := if k = .joining then { s with tre := { s.tre with runFrom := never } }
    else if k = .run && !(s.treIs .holdover && decide (s.tre.runFrom < never)) then
      { s with tre := { s.tre with runFrom := s.frame + 1 } }
    else s
  let s := s.wr F.TRESTLE_STAT_STATE k.code
  if s.atStep .join && (k == .run || k == .off || k == .refused) then s.joinDone else s

/-- The twin-role step is over, or not enabled (R475): the ring-join step follows if the ring is enabled (R387). -/
def State.roleDone (s : State) : State :=
  if s.bit F.TRESTLE_CTL_EN && s.joinable then (s.toStep .join).treTo .training
  else (if s.bit F.TRESTLE_CTL_EN then s.wr F.TRESTLE_STAT_REASON 4 else s).joinDone

/-- The ADMIT step is over (R475): arbitration follows in a pair (R365). -/
def State.admitOver (s : State) : State :=
  if s.paired then (s.toStep .role).setRole .arbitrate else s.roleDone

end Sys2Proof.Machine
end

