-- ==== Sys2Proof/Machine/Twin.lean ====
section
/-! DEFINITION. Twin operation (13_twin_operation.md): arbitration, the mirror and its application, takeover, planned
release, alignment. -/

namespace Sys2Proof.Machine

/-! ### The tick from outside (R42, R367, R389) -/

/-- The device takes `f` as the number of the span in progress, on both dies (R41). -/
def State.setFrame (s : State) (f : Nat) : State :=
  let bear := match s.span.bear with
    | [] => []
    | b :: bs => { b with frame := f } :: bs
  { s with span := { s.span with frame := f, bear := bear } }

/-- A marker found the tick `err` ps late: the counter's phase is corrected in the span in progress, which ends that much
earlier, and its rate in every later one (R389). -/
def State.discipline (s : State) (err : Int) : State :=
  { s with span := { s.span with extra := s.span.extra - err, rate := s.span.rate - err } }

/-! ### Link and alignment -/

/-- The twin link is alive while at least one lane passes frames (R372). -/
def State.twinAlive (s : State) : Bool := s.bit F.TWIN_STAT_LANE_A_UP || s.bit F.TWIN_STAT_LANE_B_UP

/-- The CRC of the active image of schedule `n` (R107), 0 with none. -/
def State.activeCrc (s : State) (n : Nat) : Nat := ((s.sch n).active.map (·.crc)).getD 0

/-- The CRC of the partner's active image of schedule `n`. -/
def State.partnerCrc (s : State) (n : Nat) : Nat :=
  ((s.twin.partnerCrcs.find? fun x => x.1 == n).map (·.2)).getD 0

/-- UNSYNC_REASON codes. -/
inductive Unsync where
  | none | link | deadline | image | aligning
  deriving DecidableEq, Repr

/-- The code of a reason. -/
def Unsync.code : Unsync → Nat
  | .none => 0 | .link => 1 | .deadline => 2 | .image => 3 | .aligning => 4

/-- TWIN_SYNC drops for a reason (R371): event 0x903, once. -/
def State.syncLost (s : State) (r : Unsync) : State :=
  if !s.bit F.TWIN_STAT_SYNC then s
  else ((s.wrB F.TWIN_STAT_SYNC false).wr F.TWIN_STAT_UNSYNC_REASON r.code).event 0x903
    ([r.code] ++ w48 s.frame ++ [s.twin.bytes])

/-- The active images of both devices agree (R378). -/
def State.imagesMatch (s : State) : Bool := (List.range 24).all fun n => s.activeCrc n == s.partnerCrc n

/-- The partner's active image of schedule `n` changes (R379). -/
def State.setPartnerCrc (s : State) (n crc : Nat) : State :=
  { s with twin := { s.twin with partnerCrcs := (s.twin.partnerCrcs.filter fun x => x.1 != n) ++ [(n, crc)] } }

/-- An alignment is due: TWIN_SYNC is 0, the link is alive and none runs (R371); one refused for its images waits until they
agree (R378). -/
def State.alignDue (s : State) : Bool :=
  !s.bit F.TWIN_STAT_SYNC && s.twinAlive && !s.twin.aligning &&
    (s.rd F.TWIN_STAT_UNSYNC_REASON != Unsync.image.code || s.imagesMatch)

/-- Alignment begins (R378, R380): refused when an active image differs from the partner's. -/
def State.startAlign (s : State) : State :=
  let s := s.wrB F.TWIN_ALIGN_DONE false |>.wr F.TWIN_ALIGN_PERCENT 0
  let s := { s with twin := { s.twin with aligning := false, alignDone := false, alignItems := [] } }
  match (List.range 24).find? fun n => s.activeCrc n != s.partnerCrc n with
  | some n =>
    (s.wr F.TWIN_STAT_UNSYNC_REASON Unsync.image.code).event 0x907 [n, s.activeCrc n, s.partnerCrc n]
  | none =>
    { s.wr F.TWIN_STAT_UNSYNC_REASON Unsync.aligning.code with
      twin := { s.twin with aligning := true, alignFrom := s.nowUs } }

/-- The device joins as STANDBY with TWIN_SYNC 0 (R378), and aligns as soon as the link is alive. One that was in sync, as a former
ACTIVE can be, reports that it no longer is (R371). -/
def State.enterStandby (s : State) : State :=
  let s := ((s.setRole .standby).syncLost (if s.twinAlive then .aligning else .link)).wrB F.TWIN_STAT_SYNC false
  if s.twinAlive then s.startAlign else s.wr F.TWIN_STAT_UNSYNC_REASON Unsync.link.code

/-- The cause of a HALTED that no thermal SHUTDOWN gave is over (R363, R364): a planned release ends with its drop, a lost
schedule is a cause while LOSS_RELEASE asks and the schedule is RETIRED. -/
def State.haltOver (s : State) : Bool :=
  !s.bit F.HEALTH_THERM_STAT_HALT_HOT &&
    !(s.bit F.PIERCTL_CTL_LOSS_RELEASE && (List.range 24).any fun n => s.rd F.PIERCTL_PIER_STAT_STATE n == 5)

/-- The role after an active device lost OWN_OUT for a cause of R363 other than thermal SHUTDOWN (R364). -/
def State.dropRole (s : State) : State :=
  if !s.paired || !s.roleIs .active then s
  else if s.twinAlive then s.enterStandby else s.setRole .halted

/-! ### Arbitration -/

/-- The role this device takes, and the deciding rule of R365. -/
def State.arbitrate (s : State) (id : Nat) (pref : Bool) (role : Nat) : Role × Nat :=
  if role = Role.active.code then (.standby, 1)
  else if s.bit F.TWIN_STAT_ROLE_PREF != pref then (if pref then .standby else .active, 2)
  else (if s.devId < id then .active else .standby, 3)

/-- TWIN_HANDSHAKE (R365): the partner's ID, ROLE_PREF, role and active image CRCs. -/
def execTwinHandshake (id : BitVec 16) (pref : Bool) (role : BitVec 3) (crcs : List (Nat × Nat)) (s : State) : Out :=
  s.act [.deck, .link] fun s =>
    if !s.paired then s
    else
      let s := ((s.wrB F.TWIN_STAT_PARTNER true).wr F.TWIN_PARTNER_ID id.toNat).wr F.TWIN_PARTNER_ROLE role.toNat
      let s := { s with twin := { s.twin with partnerCrcs := crcs } }
      if s.roleIs .active then
        s.event 0x900 [Role.active.code, 1, id.toNat]
      else if !s.roleIs .arbitrate then s
      else
        let (r, rule) := s.arbitrate id.toNat pref role.toNat
        let s := s.event 0x900 [r.code, rule, id.toNat]
        let service := !s.atStep .role
        let s := if r = .active then
            let s := s.setRole .active
            if service then { s with twin := { s.twin with raiseDue := true } } else s
          else s.enterStandby
        if service then s else s.roleDone

/-- ARB_TIMEOUT (R366): no handshake; a device with OWN_IN low becomes ACTIVE alone, one that finds it high STANDBY, or LINKFAULT
without a link. The link's domain and clock may be off. -/
def execArbTimeout (s : State) : Out :=
  s.act [] fun s =>
    if !s.roleIs .arbitrate then s
    else
      let service := !s.atStep .role
      let s := if s.bit F.TWIN_STAT_OWN_IN then (if s.twinAlive then s.enterStandby else s.setRole .linkfault)
        else
          let s := s.setRole .active
          if service then { s with twin := { s.twin with raiseDue := true } } else s
      if service then s else s.roleDone

/-- CONTENTION (R366): both OWN_OUT lines have been high for 2 µs. -/
def execContention (s : State) : Out :=
  s.act [] fun s =>
    if !(s.paired && s.bit F.TWIN_STAT_OWN_OUT && s.bit F.TWIN_STAT_OWN_IN) then s
    else
      let s := s.ownDrop.event 0x906 [s.rd F.TWIN_PARTNER_ID]
      { s with twin := { s.twin with contending := true } }

/-- CONTENTION_RECHECK (R366): 1 ms or 3 ms later, by the lower ID, the device raises OWN_OUT if its OWN_IN is low; else
it becomes STANDBY, or LINKFAULT without a link. -/
def execContentionRecheck (s : State) : Out :=
  s.act [] fun s =>
    if !s.twin.contending then s
    else
      let s := { s with twin := { s.twin with contending := false } }
      if !s.bit F.TWIN_STAT_OWN_IN then s.ownRaise
      else if s.twinAlive then s.enterStandby
      else s.setRole .linkfault

/-! ### The mirror, sent -/

/-- The address of a loop's record (R171). -/
def loopAddr (n : Nat) : Nat := 0x00800000 + n * 128

/-- WIN_BAD follows the windows (R368). -/
def State.winBad (s : State) : State :=
  s.wrB F.TWIN_STAT_WIN_BAD ((List.range 8).any fun k => s.bit F.TWIN_WIN_BASE_EN k && !s.winMirrored k)

/-- The loop state of an executed loop is mirrored: words 1, 10 and 12 to 15 (R368). -/
def State.mirrorLoop (s : State) (n : Nat) : State :=
  s.mirror (.loop n ([1, 10, 12, 13, 14, 15].map fun k => BitVec.ofNat 32 (s.dWord (loopAddr n + 4 * k))))

/-- What the active adds at write-close (R368): channel state, energy quantities, LATCH_SEQ. -/
def State.channelItems (s : State) : List MirrorItem :=
  (List.range 32).map (fun n => .sol n (s.solCh n).buckets (s.bit F.SOL_CH_STAT_OVER n) (s.bit F.SOL_CH_STAT_ARMED n)
    (s.rd F.SOL_CH_STAT_STATE n))
  ++ (List.range 12).map (fun n => .mot n (BitVec.ofNat 32 (s.rd F.MOT_CH_POS n)) (s.bit F.MOT_CH_STAT_HOMED n)
    (s.bit F.MOT_CH_STAT_ALIGNED n) (BitVec.ofInt 32 (s.motCh n).alignPos) (s.rd F.MOT_CH_STAT_STATE n))
  ++ (List.range 16).map (fun n => .fan n (s.rd F.FAN_CH_STAT_STATE n) (s.rd F.FAN_CH_STAT_ATTEMPT n))
  ++ [.energy (s.meter.sampleNo - 1) (s.rd F.METER_LAT_SEQ)
    (energyQuantities.map fun q => (q, Sparse.get s.meter.acc (0, 0) q))]

/-- The heartbeat after the last item of the span (R368, R376). How an item is laid out in bytes, and so the CRC of the content,
the specification does not give: that word is a free value. -/
def State.sendBeat (s : State) : State :=
  let (crc, s) := s.free 71
  { s with twin := { s.twin with
    beat := some ⟨s.frame, s.twin.outbox.length, crc % 2 ^ 32, s.twin.releaseAt⟩ } }

/-- Write-close in a pair, at the edge itself: the active sends its channel and energy state and the heartbeat (R368); the
standby keeps its own POS (R369). -/
def State.mirrorClose (s : State) : State :=
  if !s.paired then s
  else if s.roleIs .active then (s.channelItems.foldl State.mirror s).sendBeat
  else
    { s with twin := { s.twin with
      posAtClose := (List.range 12).foldl
        (fun m n => Sparse.put m n (BitVec.ofNat 32 (s.rd F.MOT_CH_POS n))) [] } }

/-- Mirror bytes with framing: frames of 1,024 bytes carry 1,008 (R368); the heartbeat takes 32. -/
def framedBytes (b : Nat) : Nat := (b + 32 + 1007) / 1008 * 1024

/-- Bytes of mirror that the link carries in a span of length code `sel`: 10 Mbit in 500 µs (R370, R62). -/
def mirrorCapacity (sel : Nat) : Nat := 625000 * 2 ^ sel

/-- The capacity with the lanes in service: a retired twin lane halves it (R457). -/
def State.mirrorRoom (s : State) : Nat :=
  if s.isRetired 4 2 || s.isRetired 4 3 then mirrorCapacity s.sel / 2 else mirrorCapacity s.sel

/-! ### The mirror, received -/

/-- An event of the standby reaches the active (R442). TWIN_SYNC_LOST tells it that the standby's mirror was incomplete, or an image
missing there (R371, R379), and TWIN_ALIGN_REFUSED which image (R378). -/
def State.partnerEvent (s : State) (e : EvtEntry) : State :=
  let w (k : Nat) : Nat := (e.words.getD k 0).toNat
  let s := s.enqueue { e with remote := true }
  if e.code = 0x903 then
    s.syncLost (if w 0 = 1 then .link else if w 0 = 3 then .image else if w 0 = 4 then .aligning else .deadline)
  else if e.code = 0x907 then s.setPartnerCrc (w 0) (w 1)
  else s

/-- The heartbeat of the span in progress has arrived. -/
def State.heartbeatSeen (s : State) : Bool := s.twin.heartbeatFrame == some s.frame

/-- MIRROR_FRAME (R368): content arrives. A standby keeps it for the tick that ends its span, which is the next span for what comes
after the heartbeat; an active takes the standby's own events (R442). -/
def execMirrorFrame (items : List MirrorItem) (s : State) : Out :=
  s.act [.deck, .link] fun s =>
    if !(s.paired && s.twinAlive) then s
    else if s.roleIs .standby then
      (if s.heartbeatSeen then { s with twin := { s.twin with inboxNext := s.twin.inboxNext ++ items } }
      else
        { s with twin := { s.twin with
          inbox := s.twin.inbox ++ items, bytes := s.twin.bytes + (items.map MirrorItem.bytes).sum } })
    else if s.roleIs .active then
      s.each items fun s i => match i with
        | .event e => s.partnerEvent e
        | _ => s
    else s

/-- The deadline of the span's heartbeat has not passed: tick − 2 µs (R369). -/
def State.beforeDeadline (s : State) : Bool := s.span.phase + 800 < s.spanCyc

/-- HEARTBEAT (R369): the heartbeat of the span in progress arrives; the mirror is complete when its count and CRC match
before the deadline. -/
def execHeartbeat (frame : BitVec 48) (count : Nat) (crcOk : Bool) (s : State) : Out :=
  s.act [.deck, .link] fun s =>
    if !(s.paired && (s.roleIs .standby || s.roleIs .linkfault) && s.twinAlive && s.beforeDeadline) then s
    else
      { s with twin := { s.twin with
        heartbeatFrame := some frame.toNat
        mirrorComplete := s.roleIs .standby && frame.toNat == s.frame && crcOk && count == s.twin.inbox.length &&
          decide (framedBytes s.twin.bytes ≤ s.mirrorRoom) } }

/-- The mirror of the span in progress is complete. -/
def State.spanComplete (s : State) : Bool := s.heartbeatSeen && s.twin.mirrorComplete

/-- A mirror that is not complete: counted, and TWIN_SYNC drops (R371). -/
def State.spanMissed (s : State) : State :=
  (s.incSat F.TWIN_COUNT_MISSED).syncLost (if s.twinAlive then .deadline else .link)

/-- R372: 2 µs before tick N+1 the standby judges the heartbeat of span N and OWN_IN. Before its first tick after a thaw it judges
nothing, and while its lanes train again after one a lost link is no LINKFAULT: it stays STANDBY (R509; log entry 203). -/
def State.judge (s : State) : State :=
  if !(s.paired && (s.roleIs .standby || s.roleIs .linkfault)) || s.dbg.thawed then s
  else
    let complete := s.spanComplete
    let low := !s.bit F.TWIN_STAT_OWN_IN
    let lostSync := !s.bit F.TWIN_STAT_SYNC
    let s := if s.roleIs .standby && !complete then s.spanMissed else s
    if low then
      { s with twin := { s.twin with takeoverAt := some (s.frame + 1), heldTakeover := lostSync || !complete } }
    else if !s.heartbeatSeen && !s.twinAlive && !s.dbg.relink && s.roleIs .standby then
      (s.setRole .linkfault).event 0x902 [0, 1]
    else s

/-- R373: 1 µs before the takeover tick, the standby raises OWN_OUT and becomes ACTIVE. -/
def State.takeover (s : State) : State :=
  if s.twin.takeoverAt != some (s.frame + 1) || s.roleIs .active then s
  else
    let t := s.frame + 1
    let held := s.twin.heldTakeover
    let beat := s.heartbeatSeen
    let ownIn := s.bit F.TWIN_STAT_OWN_IN
    let s := (s.setRole .active).ownRaise
    let s := s.incSat F.TWIN_COUNT_TAKEOVERS
    let s := if held then s.incSat F.TWIN_COUNT_HELD else s
    let s := s.wr48 F.TWIN_TAKE_FRAME_LO F.TWIN_TAKE_FRAME_HI t
    s.event 0x901 (w48 t ++ [beat.toNat, ownIn.toNat, held.toNat])

/-! ### The mirror, applied -/

/-- Write mirrored words into the deck. -/
def State.putWords (s : State) (a : Nat) (ws : List Word) : State :=
  s.setDBytes a (ws.flatMap fun w => toBytes w.toNat 4)

/-- An armed swap the active announced (R379): armed here too when the staged image has the same CRC; otherwise TWIN_SYNC
drops at its frame. Frame 0 announces that the swap was cancelled. -/
def State.mirrorSwap (s : State) (n f crc : Nat) : State :=
  if f = 0 then
    { (s.setSch n { s.sch n with swapAt := none }).wrB F.PIERCTL_PIER_STAT_SWAP_ARMED false n with
      twin := { s.twin with drops := s.twin.drops.filter fun d => d.2.1 != n } }
  else if (s.sch n).staged.map (·.crc) == some crc then
    (s.setSch n { s.sch n with swapAt := some f }).wrB F.PIERCTL_PIER_STAT_SWAP_ARMED true n
  else { s with twin := { s.twin with drops := s.twin.drops ++ [(f, n, crc)] } }

/-- A motor channel takes the mirrored position by its difference at write-close, HOMED and ALIGNED (R369). From then on its own POS
at write-close is the mirrored one. -/
def State.mirrorMot (s : State) (n : Nat) (pos : Word) (homed aligned : Bool) (alignPos : Word) : State :=
  let own := Sparse.get s.twin.posAtClose (BitVec.ofNat 32 (s.rd F.MOT_CH_POS n)) n
  let s := s.wr F.MOT_CH_POS (s.rd F.MOT_CH_POS n + (pos - own).toNat) n
  let s := (s.wrB F.MOT_CH_STAT_HOMED homed n).wrB F.MOT_CH_STAT_ALIGNED aligned n
  let s := { s with twin := { s.twin with posAtClose := Sparse.put s.twin.posAtClose n pos } }
  s.motMod n fun c => { c with alignPos := alignPos.toInt }

/-- Remember whether a channel's mirrored state was active (R374). -/
def State.mirrorActive (s : State) (kind n : Nat) (on : Bool) : State :=
  let rest := s.twin.mirroredActive.filter fun x => x != (kind, n)
  { s with twin := { s.twin with mirroredActive := if on then rest ++ [(kind, n)] else rest } }

/-- A mirrored record goes into the slot of its SEQ (R442); the own event it shows is no longer unsent. -/
def State.mirrorRecord (s : State) (seq : Nat) (ws : List Word) : State :=
  let s := s.storeRecord seq ((ws.getD 0 0).toNat / 2 ^ 12 % 16) (ws.map (·.toNat))
  let body (l : List Nat) : List Nat := (l.take 6) ++ l.drop 8
  let same (e : EvtEntry) : Bool := body (e.recordWords seq) == body (ws.map (·.toNat))
  match s.evr.unsent.findIdx? same with
  | none => s
  | some k => { s with evr := { s.evr with unsent := s.evr.unsent.eraseIdx k } }

/-- A region of the active's deck is copied (R380). -/
def State.putArea (s : State) (a len : Nat) (bytes : List (Nat × Byte)) : State :=
  let rest := s.deck.filter fun (kv : Nat × Byte) => !(a ≤ kv.1 && kv.1 < a + len)
  { s with deck := bytes.foldl (fun m (kv : Nat × Byte) => Sparse.set m 0 kv.1 kv.2) rest }.eccClear a len

/-- Every descriptor is as the active's (R380). -/
def State.putTable (s : State) (l : List (Nat × Desc)) : State :=
  let of (p : Nat) : Desc := ((l.find? fun x => x.1 == p).map (·.2)).getD {}
  s.each (Sparse.keys s.pts.desc ++ l.map (·.1)) fun s p =>
    { s with pts := { s.pts with staged := Sparse.put s.pts.staged p (of p) } }

/-- The points whose forces the mirror carries: TWIN and RING points. The other forces are the standby's own (R369). -/
def State.mirrorsForce (s : State) (p : Nat) : Bool := 1 ≤ (s.desc p).pubClass

/-- A mirrored force or release; RELEASE_ALL releases what the mirror forced. -/
def State.mirrorForce (s : State) (c : ForceCmd) : State :=
  let cs := match c.pt with
    | some _ => [c]
    | none => (s.forceHolders.filter s.mirrorsForce).map fun p => { c with pt := some p }
  { s with pts := { s.pts with forceCmds := s.pts.forceCmds ++ cs } }

/-- The active's force plane (R380). -/
def State.putPlane (s : State) (fs : List (Nat × ForceVal)) (cs : List ForceCmd) : State :=
  let kept := s.pts.forces.filter fun (kv : Nat × ForceVal) => !s.mirrorsForce kv.1
  let own := s.pts.forceCmds.filter fun c => !((c.pt.map s.mirrorsForce).getD false)
  { s with pts := { s.pts with
    forces := fs.foldl (fun m (kv : Nat × ForceVal) => Sparse.put m kv.1 kv.2) kept
    forceCmds := own ++ cs } }

/-- One item of a complete mirror takes effect (R369). -/
def State.mirrorApply (s : State) : MirrorItem → State
  | .point p r =>
    { s with pts := { s.pts with next := Sparse.put s.pts.next p r }
             twin := { s.twin with restored := if s.twin.restored.contains p then s.twin.restored else s.twin.restored ++ [p] } }
  | .loop n ws =>
    ([1, 10, 12, 13, 14, 15].zip ws).foldl (fun s kw => s.setDWord (loopAddr n + 4 * kw.1) kw.2.toNat) s
  | .line a ws => s.putWords a ws
  | .desc p d => { s with pts := { s.pts with staged := Sparse.put s.pts.staged p d } }
  | .force c => s.mirrorForce c
  | .sol n b ov armed st =>
    let s := (s.wrB F.SOL_CH_STAT_OVER ov n).wrB F.SOL_CH_STAT_ARMED armed n
    (s.solMod n fun c => { c with buckets := b, sec := s.nowUs / 1000000 }).mirrorActive 0 n (2 ≤ st && st ≤ 4)
  | .mot n pos h al ap st => (s.mirrorMot n pos h al ap).mirrorActive 1 n (2 ≤ st && st ≤ 8)
  | .fan n st att => (s.wr F.FAN_CH_STAT_ATTEMPT att n).mirrorActive 2 n (2 ≤ st && st ≤ 5)
  | .energy _ seq l =>
    { s with meter := { s.meter with
      acc := l.foldl (fun m (x : Nat × Nat × Nat) => Sparse.set m (0, 0) x.1 x.2) s.meter.acc } }.wr F.METER_LAT_SEQ seq
  | .record seq ws => s.mirrorRecord seq ws
  | .event _ => s
  | .swap n f crc => s.mirrorSwap n f crc
  | .spanChange sel f => { s with span := { s.span with armed := if f = 0 then none else some (f, sel) } }
  | .clear => s.moveTail (s.rd F.EVR_HEAD)
  | .table l => s.putTable l
  | .area a len bytes => s.putArea a len bytes
  | .plane fs cs => s.putPlane fs cs
  | .recorder head tail => (s.wr F.EVR_HEAD head).wr F.EVR_TAIL tail

/-- What is armed on a channel at a takeover (R374): only channels whose mirrored state was active change. -/
def State.resumeChannel (s : State) (kn : Nat × Nat) : State :=
  match kn.1 with
  | 0 => s.wrB F.SOL_CH_STAT_ARMED (s.bit F.TWIN_CTL_RESUME_SOL) kn.2
  | 1 => s.wrB F.MOT_CH_STAT_ARMED (s.bit F.TWIN_CTL_RESUME_MOT) kn.2
  | _ => s.wrB F.FAN_CH_STAT_ARMED (s.bit F.TWIN_CTL_RESUME_FAN) kn.2

/-- A record carries RESTORED (R373). -/
def markRestored (r : PtRec) : PtRec := { r with restored := true }

/-- A restored point's record carries RESTORED, wherever the tick will take it from. -/
def State.restorePoint (s : State) (p : Nat) : State :=
  match Sparse.find? s.pts.next p with
  | some r => { s with pts := { s.pts with next := Sparse.put s.pts.next p (markRestored r) } }
  | none => { s with pts := { s.pts with own := Sparse.set s.pts.own {} p (markRestored (s.own p)) } }

/-- What the alignment copy carries of this device (R380), each line as it was last sent: a line that changed after it was copied was
sent again. The records are those beneath a force, which the force plane then shows. -/
def State.copySet (s : State) : List MirrorItem :=
  let area (b l : Nat) : MirrorItem := .area b l (s.deck.filter fun (kv : Nat × Byte) => b ≤ kv.1 && kv.1 < b + l)
  ((s.knownPoints.filter fun p => 1 ≤ (s.desc p).pubClass).map fun p => .point p (s.own p)) ++
    [.table s.pts.desc, area 0x00800000 0x00200000] ++
    (((List.range 8).filter s.winMirrored).map fun k => area (s.mirrorWin k).1 (s.mirrorWin k).2) ++
    [.plane (s.pts.forces.filter fun (kv : Nat × ForceVal) => s.mirrorsForce kv.1)
      (s.pts.forceCmds.filter fun c => (c.pt.map s.mirrorsForce).getD true),
      area 0x00B00000 0x00400000, .recorder (s.rd F.EVR_HEAD) (s.rd F.EVR_TAIL)] ++ s.channelItems

/-- TWIN_ALIGN.PERCENT while a copy runs: a full set takes about 40 ms (R380; log entry 200). -/
def State.alignProgress (s : State) : State :=
  if s.twin.aligning && !s.twin.alignDone then s.wr F.TWIN_ALIGN_PERCENT (min 99 ((s.nowUs - s.twin.alignFrom) / 400)) else s

/-- The takeover tick (R373, R374, R442): restored records, armed channels, own events the old active never wrote. -/
def State.takeoverFinish (s : State) : State :=
  let s := s.twin.restored.foldl State.restorePoint s
  let s := s.twin.mirroredActive.foldl State.resumeChannel s
  let es := s.evr.unsent
  let s := { s with evr := { s.evr with unsent := [] }
                    twin := { s.twin with takeoverAt := none, mirroredActive := [], aligning := false
                                          alignDone := false, alignItems := [], outbox := [], outboxNext := []
                                          inbox := [], inboxNext := [], bytes := 0 } }
  let s := es.foldl State.enqueue s
  if s.twinAlive then s else s.syncLost .link

/-- TWIN_SYNC is set at the first tick after the copy at which the mirror is complete (R380): event 0x904. -/
def State.syncSet (s : State) : State :=
  let ms := (s.nowUs - s.twin.alignFrom) / 1000
  let s := { s with twin := { s.twin with aligning := false, alignDone := false, alignItems := [] } }
  ((s.wrB F.TWIN_STAT_SYNC true).wr F.TWIN_STAT_UNSYNC_REASON 0).event 0x904 (w48 s.frame ++ [ms])

/-- The mirror of the last span, on the standby at the tick (R369, R371, R379, R380). A standby whose TWIN_SYNC is 0 aligns
again (R371). -/
def State.standbyTick (s : State) (take : Bool) : State :=
  let complete := s.twin.heartbeatFrame == some (s.frame - 1) && s.twin.mirrorComplete
  let aligned := complete && s.twin.alignDone && !s.bit F.TWIN_STAT_SYNC
  let s := if aligned then s.twin.alignItems.foldl State.mirrorApply s else s
  let s := if complete then s.twin.inbox.foldl State.mirrorApply s else s
  let next := s.twin.inboxNext
  let s := { s with twin := { s.twin with
    inbox := next, inboxNext := [], mirrorComplete := false, heartbeatFrame := none
    bytes := (next.map MirrorItem.bytes).sum } }
  if take then s.takeoverFinish
  else
    let s := if aligned then s.syncSet else s
    let now := s.twin.drops.filter fun d => d.1 ≤ s.frame
    let s := { s with twin := { s.twin with drops := s.twin.drops.filter fun d => s.frame < d.1 } }
    let s := if now.isEmpty then s
      else (s.each now fun s d => s.setPartnerCrc d.2.1 d.2.2).syncLost .image
    if s.alignDue then s.startAlign else s

/-- The active at the tick: the span's mirror bytes (TWIN_LOAD), which no standby takes whole beyond the capacity (R370, R371),
realignment while TWIN_SYNC is 0 (R371), and OWN_OUT after an arbitration in service (R366). -/
def State.activeTick (s : State) : State :=
  let b := framedBytes s.twin.bytes
  let s := (s.wr F.TWIN_LOAD b).wr F.TWIN_LOAD_MAX (max b (s.rd F.TWIN_LOAD_MAX))
  let s := if s.mirrorRoom < b then s.syncLost .deadline else s
  let next := s.twin.outboxNext
  let s := { s with twin := { s.twin with
    outbox := next, outboxNext := [], beat := none, bytes := (next.map MirrorItem.bytes).sum } }
  let s := if s.twin.alignDone && s.twinAlive && !s.bit F.TWIN_STAT_SYNC then s.syncSet
    else if s.alignDue && s.bit F.TWIN_STAT_PARTNER then s.startAlign
    else s
  if s.twin.raiseDue then
    { s with twin := { s.twin with raiseDue := false } }.ownRaise
  else s

/-- The swaps of this tick: both devices of a pair make them (R379). -/
def State.pairSwaps (s : State) : State :=
  s.each (List.range 24) fun s n => match (s.sch n).swapAt, (s.sch n).staged with
    | some f, some i => if f ≤ s.frame then s.setPartnerCrc n i.crc else s
    | _, _ => s

/-- TWIN's work in the commit window of a tick, before the flip (R80, R369). -/
def State.mirrorTick (s : State) : State :=
  if !s.paired then s
  else
  let s := s.pairSwaps.alignProgress
  if s.twin.takeoverAt == some s.frame then s.standbyTick true
  else if s.roleIs .standby then s.standbyTick false
  else if s.roleIs .active then s.activeTick
  else if s.roleIs .halted && s.haltOver then s.enterStandby
  else s

/-! ### Planned release -/

/-- REL_STATE codes. -/
inductive RelState where
  | idle | armed | done | aborted | refused
  deriving DecidableEq, Repr

/-- The code of a release state. -/
def RelState.code : RelState → Nat
  | .idle => 0 | .armed => 1 | .done => 2 | .aborted => 3 | .refused => 4

/-- PLANNED_RELEASE (R376): CMD RELEASE on the active device. -/
def State.relArm (s : State) : State :=
  let r := s.rd48 F.TWIN_REL_FRAME_LO F.TWIN_REL_FRAME_HI
  if !(s.paired && s.roleIs .active) then s
  else if !s.bit F.TWIN_STAT_SYNC || r < s.frame + 4 then
    s.wr F.TWIN_STAT_REL_STATE RelState.refused.code
  else
    { s.wr F.TWIN_STAT_REL_STATE RelState.armed.code with twin := { s.twin with releaseAt := some r } }

/-- RELEASE_CANCEL (R376): before tick R − 1 the release is aborted; later the cancel only sets ABORT_LATE. -/
def State.relCancel (s : State) : State :=
  match s.twin.releaseAt with
  | some r =>
    if s.frame + 1 < r then
      { s.wr F.TWIN_STAT_REL_STATE RelState.aborted.code with twin := { s.twin with releaseAt := none } }
    else s.wrB F.TWIN_STAT_ABORT_LATE true
  | none =>
    if s.rd F.TWIN_STAT_REL_STATE = RelState.done.code then s.wrB F.TWIN_STAT_ABORT_LATE true else s

/-- R376: 2 µs before tick R the active drops OWN_OUT and becomes STANDBY. -/
def State.relDrop (s : State) : State :=
  if s.twin.releaseAt != some (s.frame + 1) then s
  else
    let s := { s with twin := { s.twin with releaseAt := none } }
    (s.ownDrop.wr F.TWIN_STAT_REL_STATE RelState.done.code).dropRole

/-- REALIGN (R380): a new alignment copy. -/
def State.realign (s : State) : State :=
  if s.paired && s.twinAlive && (s.roleIs .active || s.roleIs .standby) then
    (s.wrB F.TWIN_STAT_SYNC false).startAlign
  else s

/-- ALIGN_DONE (R380): the alignment copy completes; on the standby it brought `items`, and the active has sent its set. -/
def execAlignDone (items : List MirrorItem) (s : State) : Out :=
  s.act [.deck, .link] fun s =>
    if !s.twin.aligning then s
    else
      let s := { s with twin := { s.twin with alignDone := true, alignItems := if s.roleIs .standby then items else s.copySet } }
      (s.wrB F.TWIN_ALIGN_DONE true).wr F.TWIN_ALIGN_PERCENT 100

/-! ### Lanes -/

/-- The status field of twin lane `l`: TWN_A, TWN_B. -/
def laneFld (l : Nat) : Fld := if l = 0 then F.TWIN_STAT_LANE_A_UP else F.TWIN_STAT_LANE_B_UP

/-- A twin lane stops passing frames. -/
def State.twinLaneDown (s : State) (l : Nat) : State :=
  let was := s.twinAlive
  let s := s.wrB (laneFld l) false
  if !(was && !s.twinAlive && s.paired) then s
  else
    let s := { s with twin := { s.twin with aligning := false, alignDone := false } }
    if s.roleIs .active then s.syncLost .link else s

/-- TWIN_LANE_DOWN (R372). -/
def execTwinLaneDown (l : Fin 2) (s : State) : Out := s.act [.link] fun s => s.twinLaneDown l.val

/-- TWIN_LANE_UP (R364): a device in LINKFAULT joins as STANDBY again, and a STANDBY without TWIN_SYNC aligns (R509). A lane that is retired or under test stays down (R453,
R457). -/
def execTwinLaneUp (l : Fin 2) (s : State) : Out :=
  s.act [.link] fun s =>
    if s.isRetired 4 (2 + l.val) || s.laneTested (2 + l.val) then s
    else
      let was := s.twinAlive
      let s := { s.wrB (laneFld l.val) true with dbg := { s.dbg with relink := false } }
      if s.paired && s.roleIs .linkfault then s.enterStandby
      else if s.paired && s.roleIs .standby && !was && !s.bit F.TWIN_STAT_SYNC && !s.twin.aligning then s.startAlign
      else s

/-! ### Commands -/

/-- PLANNED_RELEASE. -/
def execPlannedRelease (s : State) : Out := s.act [.deck] State.relArm

/-- RELEASE_CANCEL. -/
def execReleaseCancel (s : State) : Out := s.act [.deck] State.relCancel

/-- REALIGN. -/
def execRealign (s : State) : Out := s.act [.deck, .link] State.realign

/-- TWIN_TICK_MARKER (R367): the standby of a pair outside a ring adopts the active's frame number, and its tick; how
late its own tick lies is what the link's delay lets it measure, a free value. -/
def execTwinTickMarker (frame : BitVec 48) (s : State) : Out :=
  s.act [.deck, .link] fun s =>
    if s.paired && s.roleIs .standby && s.twinAlive && (s.treIs .off || s.treIs .refused) then
      let (k, s) := s.fresh
      ((s.wr F.SPAN_STAT_SOURCE 2).setFrame frame.toNat).discipline (Config.tickError k)
    else s

end Sys2Proof.Machine
end

