-- ==== Sys2Proof/Machine/Trestle.lean ====
section
/-! DEFINITION. The trestle ring (14_trestle_ring.md): ports, election and joining, the master's tick marker and its
announcements, publication frames, commit delay and quotas. -/

namespace Sys2Proof.Machine

/-! ### Ports and state -/

/-- TRESTLE_PORTp_STAT.LINK codes (R385). -/
inductive PortLink where
  | down | training | up
  deriving DecidableEq, Repr

/-- The code of a link state. -/
def PortLink.code : PortLink → Nat
  | .down => 0 | .training => 1 | .up => 2

/-- Port `p` is UP. -/
def State.portUp (s : State) (p : Nat) : Bool := s.rd F.TRESTLE_PORT_STAT_LINK p == PortLink.up.code

/-- TRESTLE_STAT.REASON codes. -/
inductive TreReason where
  | none | link | dupId | size | id
  deriving DecidableEq, Repr

/-- The code of a reason. -/
def TreReason.code : TreReason → Nat
  | .none => 0 | .link => 1 | .dupId => 2 | .size => 3 | .id => 4

/-- The ring is entered: not OFF and not REFUSED. -/
def State.inRing (s : State) : Bool := !s.treIs .off && !s.treIs .refused

/-- Both ports are held DOWN (R387). -/
def State.portsDown (s : State) : State :=
  s.each [0, 1] fun s p => s.wr F.TRESTLE_PORT_STAT_LINK 0 p

/-- The ring state becomes OFF or REFUSED with a reason; the ports are DOWN (R387). -/
def State.leaveRing (s : State) (k : TreState) (r : TreReason) : State :=
  let s := (((s.wr F.TRESTLE_STAT_REASON r.code).portsDown).wrB F.TRESTLE_STAT_MASTER false).wrB F.TRESTLE_STAT_CLOSED false
  (s.localTick 1).treTo k

/-- TRESTLE_CTL.EN was cleared (R387): OFF, with no reason. -/
def State.treDisable (s : State) : State := s.leaveRing .off .none

/-- This device is eligible as master (R388). -/
def State.eligible (s : State) : Bool := s.bit F.TRESTLE_CTL_ELIG && s.joinable

/-- The largest number of devices of a ring at span code `sel` (R393). -/
def nMax (sel : Nat) : Nat := (spanUs sel - 100) * 10 / 8

/-- The ring's publication capacity per span (R393). -/
def ringCapacity (sel : Nat) : Nat := 16384 * 2 ^ sel

/-- The devices known in the ring, this one included. -/
def State.ringSize (s : State) : Nat := s.tre.members.length + 1

/-! ### What the master sets (R393, R394, R398) -/

/-- The hop delays of all links, in ps: each device's link at its TRE_E port, when UP. -/
def State.ringHops (s : State) : List Nat :=
  (if s.portUp 0 then [s.rd F.TRESTLE_PORT_HOP 0] else []) ++ (s.tre.members.map (·.hopE)).filter (0 < ·)

/-- The worst path W in ps (R393). -/
def State.worstPath (s : State) : Nat :=
  let hops := s.ringHops
  800000 + (hops.sum - (if s.bit F.TRESTLE_STAT_CLOSED then hops.min?.getD 0 else 0))

/-- The commit delay that follows from W and the span, the announced one when a change of it is armed (R394). -/
def State.delayFor (s : State) : Nat :=
  let w := s.worstPath
  let dMin := s.rd F.TRESTLE_CTL_D_MIN + 1
  let span := spanUs ((s.tre.spanChange.map (·.2)).getD s.sel) * 1000000
  if w ≤ 18000000 then dMin else max dMin (1 + (w - 18000000 + span - 1) / span)

/-- Insert by ascending device ID. -/
def insertReq (x : Nat × Nat) : List (Nat × Nat) → List (Nat × Nat)
  | [] => [x]
  | y :: ys => if x.1 < y.1 then x :: y :: ys else y :: insertReq x ys

/-- Hand the remainder out in ascending ID order, up to each request (R398): (ID, request, grant) in that order. -/
def giveRest (rest : Nat) : List (Nat × Nat × Nat) → List (Nat × Nat)
  | [] => []
  | (id, req, g) :: l =>
    let more := min rest (req - g)
    (id, g + more) :: giveRest (rest - more) l

/-- The grants of R398 for requests in ascending ID order. -/
def grants (cap : Nat) (reqs : List (Nat × Nat)) : List (Nat × Nat) :=
  if (reqs.map (·.2)).sum ≤ cap then reqs
  else
    let share := cap / reqs.length
    let first := reqs.map fun r => (r.1, r.2, min r.2 share)
    giveRest (cap - (first.map (·.2.2)).sum) first

/-- The grants that the master makes, by ascending device ID (R398). -/
def State.allGrants (s : State) : List (Nat × Nat) :=
  grants (ringCapacity s.sel) ((s.tre.members.map fun m => (m.id, m.req)).foldl (fun l x => insertReq x l)
    [(s.devId, s.rd F.TRESTLE_QUOTA_REQ)])

/-- This device's own grant as master. -/
def State.ownGrant (s : State) : Nat := ((s.allGrants.find? fun x => x.1 == s.devId).map (·.2)).getD 0

/-- A frame the master chooses, at least the current frame + 4 (R394, R398): which one is open. -/
def State.masterFrame (s : State) : Nat × State :=
  let (x, s) := s.free 71
  (s.frame + 4 + x, s)

/-- Announce a change of D at frame `a` (R394). -/
def State.announceD (s : State) (a d : Nat) : State :=
  let s := { s with tre := { s.tre with dChange := some (a, d) } }
  let s := (s.wr48 F.TRESTLE_D_FRAME_LO F.TRESTLE_D_FRAME_HI_A_HI a).wr F.TRESTLE_D_FRAME_HI_D_NEW (d - 1)
  s.wrB F.TRESTLE_STAT_D_PENDING true

/-- The master recomputes W, D and the grants (R393, R394, R398). -/
def State.masterUpdate (s : State) : State :=
  if !(s.bit F.TRESTLE_STAT_MASTER && s.inRing) then s
  else
    let s := (s.wr F.TRESTLE_W (divFree s.worstPath 1000)).wr F.TRESTLE_MASTER_P s.ringSize
    let d := s.delayFor
    let s := if (s.tre.dChange.map (·.2)).getD (s.rd F.TRESTLE_STAT_D + 1) = d then s
      else
        let (a, s) := s.masterFrame
        s.announceD (match s.tre.spanChange with | some (f, _) => f | none => a) d
    let l := s.allGrants
    if s.tre.grants = l then s
    else
      let (a, s) := s.masterFrame
      { s with tre := { s.tre with grantChange := some (a, s.ownGrant), grants := l } }

/-! ### What the ports send (R387, R389, R391) -/

/-- The master's tick marker: the frame, no delay yet, and the pending announcements (R389): those of the grants with the frame at
which they take effect (R398). -/
def State.ownMarker (s : State) : Marker :=
  { master := s.devId, frame := s.frame, accPs := 0, errPs := 0, p := s.ringSize, wNs := s.rd F.TRESTLE_W
    d := s.rd F.TRESTLE_STAT_D + 1, dChange := s.tre.dChange
    grants := s.tre.grantChange.map fun g => (g.1, s.tre.grants), spanChange := s.tre.spanChange
    closed := s.bit F.TRESTLE_STAT_CLOSED }

/-- What a device announces of itself (R387, R388, R393, R398). -/
def State.ownMember (s : State) : Member :=
  { id := s.devId, uid := Config.uid, elig := s.eligible, req := s.rd F.TRESTLE_QUOTA_REQ
    hopE := if s.portUp 0 then s.rd F.TRESTLE_PORT_HOP 0 else 0 }

/-- A device beyond ELECT tells the ring of its hop delays when one of its links changes (R393). -/
def State.reportHops (s : State) : State :=
  if s.treIs .joining || s.treIs .run then s.treSendBoth fun q => .announce q s.ownMember none else s

/-! ### Links -/

/-- LANE_BLOCK_LOCK (R385): a DOWN port of a device in the ring enters TRAINING; a lane that is retired or under test stays
down (R453, R457). -/
def execLaneBlockLock (p : Fin 2) (s : State) : Out :=
  s.act [.deck, .link] fun s =>
    if s.inRing && s.rd F.TRESTLE_PORT_STAT_LINK p == 0 && !s.isRetired 4 p && !s.laneTested p then
      s.wr F.TRESTLE_PORT_STAT_LINK PortLink.training.code p
    else s

/-- The hop delay in ps: half of the mean probe round trip less the neighbour's turnaround, `rt` steps of 1/8 UI (R386), at 33 UI
in 3,200 ps. How a part of a ps is rounded is open. -/
def hopPs (rt : Nat) : Nat := min (2 ^ 20 - 1) (divFree (rt * 200) 33)

/-- TRAINING_DONE (R385 to R387): the hop delay and the neighbour are known and the port is UP; a device in TRAINING enters
ELECT. -/
def execTrainingDone (p : Fin 2) (rt : BitVec 20) (nbr : BitVec 16) (s : State) : Out :=
  s.act [.deck, .link] fun s =>
    if s.rd F.TRESTLE_PORT_STAT_LINK p != PortLink.training.code then s
    else
      let hop := hopPs rt.toNat
      let s := ((s.wr F.TRESTLE_PORT_STAT_LINK PortLink.up.code p).wr F.TRESTLE_PORT_HOP hop p).wr
        F.TRESTLE_PORT_STAT_NEIGHBOUR nbr.toNat p
      let s := (s.raise 0xA01 p [p, hop, nbr.toNat]).reportHops
      if s.treIs .training then
        let c := if s.eligible then some s.devId else none
        { s with tre := { s.tre with candidate := c, sameSpans := 0, members := [] } }.treTo .elect
      else s

/-- Port `p` goes DOWN with a cause (R385); the ring is no longer closed. -/
def State.portDown (s : State) (p cause : Nat) : State :=
  if s.rd F.TRESTLE_PORT_STAT_LINK p = 0 then s
  else
    let s := (s.wr F.TRESTLE_PORT_STAT_LINK 0 p).incSat F.TRESTLE_PORT_ERR_DROPS p
    let s := s.wrB F.TRESTLE_STAT_CLOSED false
    (s.raise 0xA00 p [p, cause]).reportHops.masterUpdate

/-- LANE_LOCK_LOSS (R385). -/
def execLaneLockLoss (p : Fin 2) (cause : Byte) (s : State) : Out :=
  s.act [.link] fun s => s.portDown p cause.toNat

/-- RING_TRAIN_TIMEOUT (R387): no port came UP. -/
def execRingTrainTimeout (s : State) : Out :=
  s.act [.deck, .link] fun s =>
    if s.treIs .training && !s.portUp 0 && !s.portUp 1 then s.leaveRing .off .link else s

/-! ### Election -/

/-- The lower of two candidates. -/
def lowerId (a : Option Nat) (b : Nat) : Option Nat :=
  if b = 0xFFFF then a else match a with
    | none => some b
    | some x => some (min x b)

/-- The lowest eligible ID seen (R388). -/
def State.lowestSeen (s : State) (heard : Nat) : Option Nat :=
  let own := if s.eligible then some s.devId else none
  lowerId ((s.tre.members.filter (·.elig)).foldl (fun c m => lowerId c m.id) own) heard

/-- ANNOUNCE_FRAME (R387, R388): a member's announce frame, with the lowest eligible ID its sender has seen. A member whose TRE_E
link is down leaves the ring open (R393). -/
def execAnnounceFrame (m : Member) (lowest : BitVec 16) (s : State) : Out :=
  s.act [.deck, .link] fun s =>
    if !(s.inRing && (s.portUp 0 || s.portUp 1)) then s
    else
    let s := if m.id == s.devId then s
      else s.treSendBoth fun q => .announce q m (s.lowestSeen lowest.toNat)
    if m.id == s.devId then
      if m.uid != Config.uid then
        (s.leaveRing .refused .dupId).event 0xA08 ([m.id] ++ w64 Config.uid ++ w64 m.uid)
      else (s.wrB F.TRESTLE_STAT_CLOSED (s.portUp 0 && s.portUp 1)).masterUpdate
    else
      let s := { s with tre := { s.tre with members := (s.tre.members.filter fun (x : Member) => x.id != m.id) ++ [m] } }
      let s := if m.hopE = 0 then s.wrB F.TRESTLE_STAT_CLOSED false else s
      if (s.treIs .elect || s.treIs .joining) && nMax s.sel < s.ringSize then
        let p := s.ringSize
        (s.leaveRing .refused .size).event 0xA06 [TreReason.size.code, p]
      else
        let c := s.lowestSeen lowest.toNat
        let s := if c = s.tre.candidate then s
          else { s with tre := { s.tre with candidate := c, sameSpans := 0 } }
        s.masterUpdate

/-- ELECTION_SETTLED (R387, R388): the same master seen for 4 spans; ELECT goes to JOINING, HOLDOVER to RUN, and a device that
has joined keeps its state when a lower eligible ID becomes master: log entry 196. -/
def execElectionSettled (s : State) : Out :=
  s.act [.deck, .link] fun s =>
    match s.tre.candidate with
    | none => s
    | some c =>
      let joined := s.treIs .joining || s.treIs .run
      if !((s.treIs .elect || s.treIs .holdover || (joined && s.rd F.TRESTLE_MASTER_ID != c)) && 4 ≤ s.tre.sameSpans) then s
      else
        let changed := s.rd F.TRESTLE_MASTER_ID != c
        let s := (s.wr F.TRESTLE_MASTER_ID c).wrB F.TRESTLE_STAT_MASTER (c == s.devId)
        let s := if c = s.devId then s.localTick 1 else s
        let s := s.wr F.TRESTLE_MASTER_P s.ringSize
        let s := { s with tre := { s.tre with lockedSpans := 0, markerMisses := 0, grants := [] } }
        let s := if changed then s.event 0xA02 [c, s.ringSize] else s
        let s := if s.treIs .elect then s.treTo .joining else if s.treIs .holdover then s.treTo .run else s
        s.masterUpdate

/-- JOIN_LOCKED (R387): the tick error stayed within ±1 ns for 8 spans; the master itself has none. -/
def execJoinLocked (s : State) : Out :=
  s.act [.deck, .link] fun s =>
    if s.treIs .joining && (s.bit F.TRESTLE_STAT_MASTER || 8 ≤ s.tre.lockedSpans) then s.treTo .run else s

/-! ### Tick markers (R389, R390) -/

/-- The announcements a marker carries (R389, R394, R398, R61). SPAN_CHG_STAT.STATE of a follower stays as it was until the
announced change is made: log entry 197. -/
def State.takeAnnouncements (s : State) (k : Marker) : State :=
  let s := ((s.wr F.TRESTLE_MASTER_P k.p).wr F.TRESTLE_W k.wNs).wrB F.TRESTLE_STAT_CLOSED k.closed
  let s := match k.dChange with
    | some (a, d) => if s.frame < a then s.announceD a d else s
    | none => if s.tre.dChange.isSome || k.d = 0 then s else s.wr F.TRESTLE_STAT_D (k.d - 1)
  let s := match k.grants.bind fun g => (g.2.find? fun x => x.1 == s.devId).map fun x => (g.1, x.2) with
    | some g => { s with tre := { s.tre with grantChange := some g } }
    | none => s
  match k.spanChange with
  | some (f, sel) =>
    if s.frame < f then
      { s with span := { s.span with armed := some (f, sel) }, tre := { s.tre with spanChange := some (f, sel) } }
    else s
  | none =>
    if s.tre.spanChange.isSome then
      { s with span := { s.span with armed := none }, tre := { s.tre with spanChange := none } }
    else s

/-- The device adopts the master's frame number (R387). -/
def State.adoptFrame (s : State) (f : Nat) : State :=
  if s.frame = f then s
  else
    let old := s.frame
    (s.setFrame f).event 0xA0A (w48 old ++ w48 f)

/-- TRE_TICK_MARKER (R389): a marker is forwarded with the hop delay of its receive port added; the first one of the master in
a span corrects the tick counter. A thawed master knows no master yet, and takes the one whose marker comes (R508). -/
def execTreTickMarker (p : Fin 2) (k : Marker) (s : State) : Out :=
  s.act [.deck, .link] fun s =>
    let hop := s.rd F.TRESTLE_PORT_HOP p
    let s := if s.portUp p && s.inRing && !s.bit F.TRESTLE_STAT_MASTER then
        s.treSend (1 - p.val) fun q => .marker q { k with accPs := k.accPs + hop, errPs := 0 }
      else s
    let follows := s.treIs .joining || s.treIs .run || s.treIs .holdover
    let known := s.rd F.TRESTLE_MASTER_ID
    let adopts := s.treIs .joining && known == 0xFFFF
    if !(s.portUp p && follows && !s.bit F.TRESTLE_STAT_MASTER && (adopts || k.master == known)
        && !s.tre.markerSeen) then s
    else
      let s := if adopts then (s.wr F.TRESTLE_MASTER_ID k.master).event 0xA02 [k.master, s.ringSize] else s
      let s := s.adoptFrame k.frame
      let s := ((s.wrS F.TRESTLE_TICK_ERR k.errPs).wr F.SPAN_STAT_SOURCE 1).discipline k.errPs
      let locked := if k.errPs.natAbs ≤ 1000 then s.tre.lockedSpans + 1 else 0
      let s := { s with tre := { s.tre with markerSeen := true, markerMisses := 0, lockedSpans := locked } }
      s.takeAnnouncements k

/-- MASTER_MARKER_MISS (R390): no marker for 3 ticks; each follower enters HOLDOVER, and election restarts among the devices that
announce themselves from now on, in a half of a broken ring those of that half (R382). -/
def execMasterMarkerMiss (s : State) : Out :=
  s.act [.deck, .link] fun s =>
    if !((s.treIs .joining || s.treIs .run) && !s.bit F.TRESTLE_STAT_MASTER && 3 ≤ s.tre.markerMisses) then s
    else
      let m := s.rd F.TRESTLE_MASTER_ID
      let s := ((s.localTick 1).treTo .holdover).event 0xA09 ([m] ++ w48 s.frame)
      let s := { s with tre := { s.tre with members := [], sameSpans := 0 } }
      { s with tre := { s.tre with candidate := s.lowestSeen 0xFFFF } }

/-! ### Publications -/

/-- The updates of a frame, at most 64 (R392). -/
def frameUpdates (f : PubFrame) : List Update :=
  (List.range (min 64 f.count)).map fun k => updateOf f.origin (f.body.drop (16 * k))

/-- One update of a frame that was not received before (R391, R396, R397). -/
def State.takeUpdate (s : State) (f : PubFrame) (u : Update) : State :=
  let key := (f.launcher, u.origin, u.seq)
  if s.tre.known.contains key then s
  else
    let s := { s with tre := { s.tre with known := s.tre.known ++ [key] } }
    let by2 := s.span.phase + 800 ≤ s.spanCyc
    let before2 := s.span.phase + 800 < s.spanCyc
    let put (s : State) (c : Nat) (late : Bool) : State :=
      { s with tre := { s.tre with inbox := s.tre.inbox ++ [⟨f.pub, c, late, u⟩] } }
    if s.frame + 1 < f.commit || (s.frame + 1 == f.commit && by2) then put s f.commit f.late
    else if s.frame + 1 == f.commit || (s.frame == f.commit && before2) then
      let s := (s.incSat F.TRESTLE_LATE_RCVD).event 0xA05 ([f.pub, u.pt] ++ w48 f.commit ++ [s.offset])
      put s (f.commit + 1) true
    else s

/-- UPDATE_FRAME (R391, R392): a publication frame arrives at a port. With a bad CRC it is discarded; one that this device
launched is removed; any other goes on by the other port, one hop further, and its updates are taken. -/
def execUpdateFrame (f : PubFrame) (s : State) : Out :=
  s.act [.deck, .link] fun s =>
    let takes := s.treIs .joining || s.treIs .run || s.treIs .holdover
    if !(s.portUp f.port && s.inRing) then s
    else if !f.crcOk then s.incSat F.TRESTLE_PORT_ERR_CRC f.port
    else if f.launcher == s.devId then s
    else
      let s := s.treSend (1 - f.port) fun q => .pub q { f with port := q, hops := (f.hops + 1) % 2 ^ 12 }
      if takes then s.each (frameUpdates f) fun s u => s.takeUpdate f u else s

/-- Launch waiting updates while the quota of the span in progress lasts (R398). -/
def State.launchWaiting (s : State) : List Update → State
  | [] => { s with tre := { s.tre with waiting := [] } }
  | u :: us =>
    if s.quotaUsed s.frame < s.rd F.TRESTLE_QUOTA_GRANT then (s.launch s.frame u).launchWaiting us
    else { s with tre := { s.tre with waiting := u :: us } }

/-- QUEUE_LAUNCH (R398): queued updates launch as the span's quota opens, packed into frames (R392), on a device that publishes
(R384). -/
def execQueueLaunch (s : State) : Out :=
  s.act [.deck, .link] fun s =>
    if s.running && s.publishes then
      let t := s.launchWaiting s.tre.waiting
      t.sendFrames (t.tre.launched.drop s.tre.launched.length)
    else s

/-! ### The tick -/

/-- A change of D takes effect at frame A (R394); its event carries D as the field D of TRESTLE_STAT encodes it (R539). -/
def State.changeD (s : State) : State :=
  match s.tre.dChange with
  | some (a, d) =>
    if a ≤ s.frame then
      let old := s.rd F.TRESTLE_STAT_D + 1
      let s := { s with tre := { s.tre with dChange := none, dBefore := some (a, old) } }
      let s := (s.wr F.TRESTLE_STAT_D (d - 1)).wrB F.TRESTLE_STAT_D_PENDING false
      s.event 0xA03 (w48 a ++ [old - 1, d - 1, s.rd F.TRESTLE_W])
    else s
  | none => s

/-- A grant takes effect at its frame (R398). -/
def State.changeGrant (s : State) : State :=
  match s.tre.grantChange with
  | some (a, g) =>
    if a ≤ s.frame then { s.wr F.TRESTLE_QUOTA_GRANT g with tre := { s.tre with grantChange := none } } else s
  | none => s

/-- The ring's work at a tick, before the flip. -/
def State.treTick (s : State) : State :=
  let misses := if s.bit F.TRESTLE_STAT_MASTER || s.tre.markerSeen then 0 else s.tre.markerMisses + 1
  let s := { s with tre := { s.tre with
    launched := [], sent := []
    seqs := s.tre.seqs.filter fun (x : Nat × Nat) => s.frame ≤ x.1 + 8
    used := s.tre.used.filter fun (x : Nat × Nat) => s.frame ≤ x.1
    known := s.tre.known.filter fun (x : Nat × Nat × Nat) => s.frame ≤ x.2.1 + 8
    lateRaised := false, quotaRaised := false, markerSeen := false, markerMisses := misses
    lockedSpans := if s.bit F.TRESTLE_STAT_MASTER || s.tre.markerSeen then s.tre.lockedSpans else 0
    sameSpans := s.tre.sameSpans + 1 } }
  let s := s.changeD.changeGrant.masterUpdate
  let s := if s.treIs .elect || s.treIs .holdover then
      s.treSendBoth fun q => .announce q s.ownMember (s.lowestSeen 0xFFFF)
    else s
  if s.bit F.TRESTLE_STAT_MASTER && s.inRing then s.treSendBoth fun q => .marker q s.ownMarker else s

end Sys2Proof.Machine
end

