-- ==== Sys2Proof/Machine/Keep.lean ====
section
/-! DEFINITION. The keystone (15_keystone_timekeeping.md): supply and retention, the CK_LF edge with commit, trim, wake and
freeze, shadows, keystone RAM. -/

namespace Sys2Proof.Machine

/-! ### Supply, retention, oscillator -/

/-- SUPPLY_SWITCH (R400): the keystone supply changes; each switch to VBAT counts. -/
def execSupplySwitch (toVbat : Bool) (s : State) : Out :=
  if s.bit F.KEEP_STAT_ON_VBAT = toVbat then .next s
  else
    let s := s.wrB F.KEEP_STAT_ON_VBAT toVbat
    .next (if toVbat then s.incSat F.KEEP_BAT else s)

/-- LOSS is latched (R402, R404). -/
def State.lossLatch (s : State) : State :=
  let s := ((s.wrB F.KEEP_STAT_LOSS true).wrB F.KEEP_STAT_VALID false).wrB F.KEEP_STAT_TIME_OK false
  let s := (s.wr F.KEEP_TRIM 0).wrB F.KEEP_WAKE_EN false
  { s with keep := { s.keep with
    trim := 0, wakeLeft := none, wakeStart := false, validate := false, lossCycle := true } }

/-- LOSS_LATCH (R402). -/
def execLossLatch (s : State) : Out := .next s.lossLatch

/-- OSC_STOP_DETECT (R405): no CK_LF edge for 2 ms. -/
def execOscStopDetect (s : State) : Out :=
  .next ((s.wrB F.KEEP_STAT_OSC_STOP true).wrB F.KEEP_STAT_TIME_OK false)

/-! ### Commands -/

/-- VALIDATE reaches the keystone (R406). -/
def State.keepValidate (s : State) : State :=
  if s.bit F.KEEP_STAT_LOSS && s.bit F.KEEP_STAT_TIME_OK then { s with keep := { s.keep with validate := true } }
  else s.wrB F.KEEP_STAT_VAL_REFUSED true

/-- S as KEEP_SET_LO and KEEP_SET_HI hold it (R413). -/
def State.keepSet (s : State) : Nat := s.rd48 F.KEEP_SET_LO F.KEEP_SET_HI

/-- COMMIT or ADJUST by the initiator with code `i` (R413, R414). -/
def State.keepCommit (s : State) (adjust : Bool) (i : Nat) : State :=
  if s.bit F.KEEP_STAT_PENDING then s.wrB F.KEEP_STAT_SET_BUSY true
  else
    { s.wrB F.KEEP_STAT_PENDING true with keep := { s.keep with cmd := some ⟨adjust, s.keepSet, i⟩ } }

/-- VALIDATE. -/
def execValidate (s : State) : Out := s.reach [] State.keepValidate

/-! ### The CK_LF edge -/

/-- A trim pulse falls at edge `e` of a window for the trim magnitude `t` (R417): e is floor(j × 2^20 / t) for a j below t. -/
def trimPulse (t e : Nat) : Bool :=
  let j := (e * t + 2 ^ 20 - 1) / 2 ^ 20
  decide (j < t) && j * 2 ^ 20 / t == e

/-- Trimmed ticks at edge `e` of the window, for the trim field `f` (R417). -/
def trimTicks (f e : Nat) : Nat :=
  let t := signed 10 f
  if 0 < t then (if trimPulse t.natAbs e then 2 else 1)
  else if t < 0 then (if trimPulse t.natAbs e then 0 else 1)
  else 1

/-- A wake period in trimmed ticks (R418). -/
def State.wakePeriod (s : State) : Nat := (s.rd F.KEEP_WAKE_M + 1) * 2 ^ s.rd F.KEEP_WAKE_E

/-- A wake period ends (R419): WAKE, the pin low for a tick, and the next period. -/
def State.wakeEnd (s : State) : State :=
  { s.wrB F.KEEP_STAT_WAKE true with keep := { s.keep with wakePin := true, wakeLeft := some s.wakePeriod } }

/-- The wake timer at an edge of `n` trimmed ticks (R418, R419); a tick beyond the end of a period is one of the next, which it can
end in turn. An edge without a tick ends none. -/
def State.wakeEdge (s : State) (n : Nat) : State :=
  let s := if n = 0 then s else { s with keep := { s.keep with wakePin := false } }
  if s.keep.wakeStart then
    { s with keep := { s.keep with wakeStart := false, wakeLeft := some s.wakePeriod } }
  else match s.keep.wakeLeft with
    | none => s
    | some k =>
      if 0 < n && k ≤ n then
        let s := s.wakeEnd
        { s with keep := { s.keep with wakeLeft := s.keep.wakeLeft.map fun p => p - (n - k) % p } }
      else { s with keep := { s.keep with wakeLeft := some (k - n) } }

/-- The deck die's KGET copy follows the visible count (R163). -/
def State.keepCopy (s : State) : State :=
  { s with keep := { s.keep with copyCount := s.keep.count, copyEpoch := s.keep.epoch } }

/-- The pending set at its commit edge (R414 to R416): `base` is the count the edge gives without it, and `old` the count
before the edge. -/
def State.commitEdge (s : State) (c : KeepCmd) (base old : Nat) : State :=
  let new := if c.adjust then (base + c.s) % 2 ^ 48 else c.s
  let oldEpoch := s.keep.epoch
  let lost := s.keep.lossCycle
  let s := { s with keep := { s.keep with count := new, epoch := (oldEpoch + 1) % 2 ^ 16, cmd := none } }
  let s := s.wrB F.KEEP_STAT_PENDING false
  let s := if c.adjust then s else (s.wrB F.KEEP_STAT_TIME_OK (!lost)).wrB F.KEEP_STAT_OSC_STOP false
  s.keepCopy.event 0xB00 (w48 old ++ [oldEpoch] ++ w48 new ++ [if c.adjust then 3 else 1, c.initiator])

/-- An accepted VALIDATE at its edge (R406): the empty residue block, MARK, LOSS cleared, KEEP_VALID. -/
def State.validateEdge (s : State) : State :=
  if !s.keep.validate then s
  else
    let s := { s with keep := { s.keep with validate := false } }
    let s := (s.wr F.KEEP_RAM 0x4D45 0).each (List.range 11) fun s w => s.wr F.KEEP_RAM 0 (w + 1)
    let s := (s.wrB F.KEEP_STAT_LOSS false).wrB F.KEEP_STAT_VALID true
    s.event 0xB03 (w48 s.keep.count ++ [s.keep.epoch])

/-- The visible count at an edge of `n` trimmed ticks that it takes part in (R410, R414, R420). -/
def State.countEdge (s : State) (n : Nat) : State :=
  let c := s.keep.count
  if s.keep.catchUp then
    let caught := (c + s.keep.hidden + 1) % 2 ^ 48
    let s := { s with keep := { s.keep with catchUp := false, hidden := 0 } }
    match s.keep.cmd with
    | some k => s.commitEdge k caught caught
    | none => { s with keep := { s.keep with count := caught } }.keepCopy
  else match s.keep.cmd with
    | some k => s.commitEdge k ((c + 1) % 2 ^ 48) c
    | none => { s with keep := { s.keep with count := (c + n) % 2 ^ 48 } }.keepCopy

/-- One CK_LF edge (R410, R414, R417 to R420). -/
def State.keepEdge (s : State) : State :=
  let e := s.keep.edge
  let s := { s with keep := { s.keep with
    edge := (e + 1) % 2 ^ 20, trim := if e = 0 then s.rd F.KEEP_TRIM else s.keep.trim } }
  let n := trimTicks s.keep.trim e
  let s := if s.keep.frozen then { s with keep := { s.keep with hidden := s.keep.hidden + n } }
    else
      let wakeTicks := if s.keep.cmd.isSome || s.keep.catchUp then 1 else n
      ((s.countEdge n).validateEdge).wakeEdge wakeTicks
  let s := if s.keep.frozen then s.wakeEdge n else s
  { s with keep := { s.keep with lossCycle := false } }

/-- CK_LF_EDGE (R410). -/
def execCkLfEdge (s : State) : Out := .next s.keepEdge

/-- COMMIT_EDGE (R414): the edge at which a pending set acts. -/
def execCommitEdge (s : State) : Out :=
  .next (if s.bit F.KEEP_STAT_PENDING && !s.keep.frozen then s.keepEdge else s)

/-- VALIDATE_EDGE (R406): the edge at which an accepted VALIDATE acts. -/
def execValidateEdge (s : State) : Out := .next (if s.keep.validate && !s.keep.frozen then s.keepEdge else s)

/-- THAW_CATCHUP (R420): the first edge after thaw. -/
def execThawCatchup (s : State) : Out := .next (if s.keep.catchUp && !s.keep.frozen then s.keepEdge else s)

/-- WAKE_PERIOD_END (R419): the running wake period ends. -/
def execWakePeriodEnd (s : State) : Out := .next (if s.keep.wakeLeft.isSome then s.wakeEnd else s)

/-- EN of the wake timer was written: setting it starts the first period at the next edge, clearing it stops the timer at
once (R418). -/
def State.wakeEnWritten (s : State) (was : Bool) : State :=
  let now := s.bit F.KEEP_WAKE_EN
  if now && !was then { s with keep := { s.keep with wakeStart := true } }
  else if !now then { s with keep := { s.keep with wakeStart := false, wakeLeft := none } }
  else s

/-! ### Shadows (R411, R412) -/

/-- Initiators that have shadows: the piers, the host port and Ethernet service access. -/
def hasShadow (i : Nat) : Bool := i < 24 || i = 0x100 || i = 0x101

/-- The live flags, as KEEP_TK_FLG lays them out. -/
def State.keepFlags (s : State) : Nat :=
  s.rd F.KEEP_STAT_VALID + 2 * s.rd F.KEEP_STAT_LOSS + 4 * s.rd F.KEEP_STAT_TIME_OK + 8 * s.rd F.KEEP_STAT_OSC_STOP

/-- A read of KEEP_TK_LO by initiator `i`. -/
def State.tkLo (s : State) (i : Nat) : Nat × State :=
  let c := s.keep.count
  if !hasShadow i then (c % 2 ^ 32, s)
  else
    let late := s.keep.expired.contains i
    let sh : Shadow := ⟨c, s.keep.epoch, s.keepFlags + 16 * late.toNat⟩
    (c % 2 ^ 32, { s with keep := { s.keep with
      shadows := Sparse.put s.keep.shadows i sh, expired := s.keep.expired.filter (· != i) } })

/-- A read of KEEP_TK_FLG by initiator `i`. -/
def State.tkFlg (s : State) (i : Nat) : Nat × State :=
  match Sparse.find? s.keep.shadows i with
  | some sh => (sh.flags, s)
  | none => (s.keepFlags, s)

/-- A read of KEEP_TK_HI by initiator `i`. -/
def State.tkHi (s : State) (i : Nat) : Nat × State :=
  let word (c e : Nat) : Nat := c / 2 ^ 32 % 2 ^ 16 + 2 ^ 16 * e
  match Sparse.find? s.keep.shadows i with
  | some sh => (word sh.count sh.epoch, { s with keep := { s.keep with shadows := Sparse.del s.keep.shadows i } })
  | none => (word s.keep.count s.keep.epoch, s)

/-- SHADOW_EXPIRY (R412): the set is released, the latch set, event 0xB04. The shadows live in PD_KEEP, which no reset touches
(R409), though the recorder is in reset then; while the device is frozen they do not change (R420). -/
def execShadowExpiry (i : Initiator) (s : State) : Out :=
  let c := initCode i
  .next (if (Sparse.find? s.keep.shadows c).isNone || s.dbg.gated then s
    else
      let s := { s with keep := { s.keep with
        shadows := Sparse.del s.keep.shadows c
        expired := if s.keep.expired.contains c then s.keep.expired else s.keep.expired ++ [c] } }
      if s.alive then s.event 0xB04 [c] else s)

/-! ### Keystone RAM and trim -/

/-- A write of keystone RAM word `w` (R408). -/
def State.keepRam (s : State) (w d : Nat) : State :=
  if w < 12 then
    if s.domOn .meter && !s.bit F.METER_PF_CTL_BLK_EN then s.wr F.KEEP_RAM d w else s
  else if w < 16 then s
  else s.wr F.KEEP_RAM d w

/-- KEEP_RAM_WRITE (R408). -/
def execKeepRamWrite (w : Fin 32) (d : Word) (s : State) : Out := s.reach [] fun s => s.keepRam w d.toNat

/-- A write of KEEP_TRIM (R417): 0x200 is reserved. -/
def State.keepTrim (s : State) (d : Nat) : State := if d % 2 ^ 10 = 0x200 then s else s.wr F.KEEP_TRIM d

/-- TRIM_WRITE (R417). -/
def execTrimWrite (d : BitVec 10) (s : State) : Out := s.reach [] fun s => s.keepTrim d.toNat

end Sys2Proof.Machine
end

