-- ==== Sys2Proof/Machine/Recorder.lean ====
section
/-! DEFINITION. The event recorder's commands (16_event_recorder.md): records, tokens, cursor windows, acknowledging and
clearing. -/

namespace Sys2Proof.Machine

/-- Run `f` while the recorder runs (R441). -/
def State.evrAct (s : State) (f : State → State) : Out :=
  s.act [.deck] fun s => if s.bit F.EVR_STAT_RUNNING then f s else s

/-- The recorder starts (R441): the events held before it runs are written first. -/
def State.evrStart (s : State) : State :=
  if s.bit F.EVR_STAT_RUNNING then s
  else
    { s.wrB F.EVR_STAT_RUNNING true with evr := { s.evr with queue := s.evr.early ++ s.evr.queue, early := [] } }

/-- RECORD_WRITE (R429). -/
def execRecordWrite (s : State) : Out := s.evrAct State.recordNext

/-- TOKEN_RETURN (R431). -/
def execTokenReturn (code : BitVec 12) (s : State) : Out := s.evrAct fun s => s.tokenReturn code.toNat

/-! ### Cursors -/

/-- The 32 words the window of cursor `n` latches: the record at POS, zeros at HEAD (R434). -/
def State.winRecord (s : State) (n : Nat) : List Nat :=
  let pos := s.rd F.EVR_CUR_POS n
  (List.range 32).map fun w => if pos = s.rd F.EVR_HEAD then 0 else s.dWord (recordAddr pos + 4 * w)

/-- A read of word 0 latches the window (R434). -/
def State.winLatch (s : State) (n : Nat) : State :=
  let ws := s.winRecord n
  let s := s.each (List.range 32) fun s w => s.wr F.EVR_WIN (ws.getD w 0) n w
  { s with evr := { s.evr with winArmed := if s.evr.winArmed.contains n then s.evr.winArmed else s.evr.winArmed ++ [n] } }

/-- The first read of word 31 after a latch advances POS under AUTOADV (R434). -/
def State.winAdvance (s : State) (n : Nat) : State :=
  if !s.evr.winArmed.contains n then s
  else
    let s := { s with evr := { s.evr with winArmed := s.evr.winArmed.filter (· != n) } }
    let pos := s.rd F.EVR_CUR_POS n
    if s.bit F.EVR_CUR_CFG_AUTOADV n && pos != s.rd F.EVR_HEAD then s.wr F.EVR_CUR_POS ((pos + 1) % 2 ^ 32) n else s

/-- WIN_LATCH (R434). -/
def execWinLatch (n : Fin 4) (s : State) : Out := s.act [.deck] fun s => s.winLatch n

/-- WIN_ADVANCE (R434). -/
def execWinAdvance (n : Fin 4) (s : State) : Out := s.act [.deck] fun s => s.winAdvance n

/-- A write of POS: any value from TAIL to HEAD; else BAD (R434). -/
def State.curPos (s : State) (n v : Nat) : State :=
  let t := s.rd F.EVR_TAIL
  if seqDist t v ≤ seqDist t (s.rd F.EVR_HEAD) then s.wr F.EVR_CUR_POS v n else s.wrB F.EVR_CUR_STAT_BAD true n

/-- Cursor `n` may acknowledge (R436). -/
def State.mayAck (s : State) (n : Nat) : Bool := n < 2 || (n == 2 && s.bit F.EVR_CTL_PIER_ACK)

/-- A write of ACK: from the cursor's ACK to HEAD; else ACK_REFUSED (R436). -/
def State.curAck (s : State) (n v : Nat) : Bool × State :=
  let a := s.rd F.EVR_CUR_ACK n
  if s.mayAck n && seqDist a v ≤ seqDist a (s.rd F.EVR_HEAD) then (true, (s.wr F.EVR_CUR_ACK v n).tailFromAcks)
  else (false, s.wrB F.EVR_CUR_STAT_ACK_REFUSED true n)

/-- CUR_POS_WRITE (R434). -/
def execCurPosWrite (n : Fin 4) (v : Word) (s : State) : Out := s.act [.deck] fun s => s.curPos n v.toNat

/-- CUR_ACK_WRITE (R436). -/
def execCurAckWrite (n : Fin 4) (v : Word) (s : State) : Out := s.act [.deck] fun s => (s.curAck n v.toNat).2

/-! ### Clearing -/

/-- The complete clear by initiator `i` (R439). -/
def State.evrClear (s : State) (i : Nat) : State :=
  let dropped := s.evr.queue
  let s := { s with evr := { s.evr with queue := [] } }
  let s := dropped.foldl State.returnSummary s
  let s := (s.mirror .clear).moveTail (s.rd F.EVR_HEAD)
  let raised := s.evr.queue
  let s := ({ s with evr := { s.evr with queue := [] } }.event 0x002 [i]).recordNext
  { s with evr := { s.evr with queue := raised } }

/-- A write of `v` to EVR_CLR by initiator `i` (R439): only the host port and Ethernet service access start or complete a
sequence, any initiator's write of another value abandons it; a standby refuses the clear (R442). -/
def State.evrClr (s : State) (i v : Nat) : State :=
  if i != 0x100 && i != 0x101 then
    if v = 0xE1C0 then s else { s with evr := { s.evr with clr := none } }
  else match s.evr.clr with
    | none => if v = 0x0C1E then { s with evr := { s.evr with clr := some i } } else s
    | some j =>
      let s := { s with evr := { s.evr with clr := none } }
      if v = 0xE1C0 ∧ i = j ∧ !s.roleIs .standby then s.evrClear i else s

/-- CLR_FIRST (R439). -/
def execClrFirst (i : Initiator) (s : State) : Out := s.act [.deck] fun s => s.evrClr (initCode i) 0x0C1E

/-- CLR_SECOND (R439). -/
def execClrSecond (i : Initiator) (s : State) : Out := s.act [.deck] fun s => s.evrClr (initCode i) 0xE1C0

/-- CLR_EXPIRY (R439). -/
def execClrExpiry (s : State) : Out := s.act [.deck] fun s => { s with evr := { s.evr with clr := none } }

end Sys2Proof.Machine
end

