-- ==== Sys2Proof/Machine/PierCore.lean ====
section
/-! DEFINITION. How a pier core runs its schedule (04_pier_programming_model.md): dispatch, background turns and their save
area, ends of tasks, traps; issue, interlocks and pairing of one instruction, and the counted-loop levels
(05_pier_instruction_reference.md). -/

namespace Sys2Proof.Machine

/-! ### Cores and schedules -/

/-- The power domain of core `c` (R33). -/
def coreDom (c : Nat) : Dom := if c < 12 then .pierA else .pierB

/-- PIERCTL_PIERn_STAT.STATE codes. -/
inductive SchedState where
  | off | idle | running | stopped | spare | retired
  deriving DecidableEq, Repr

/-- The code of a schedule state. -/
def SchedState.code : SchedState → Nat
  | .off => 0 | .idle => 1 | .running => 2 | .stopped => 3 | .spare => 4 | .retired => 5

/-- Schedule `n` stands in state `k`. -/
def State.schIs (s : State) (n : Nat) (k : SchedState) : Bool := s.rd F.PIERCTL_PIER_STAT_STATE n == k.code

/-- Put schedule `n` into state `k`. -/
def State.schTo (s : State) (n : Nat) (k : SchedState) : State := s.wr F.PIERCTL_PIER_STAT_STATE k.code n

/-- The core that runs schedule `n` (R126). -/
def State.physOf (s : State) (n : Nat) : Nat := s.rd F.PIERCTL_PIER_STAT_PHYS n

/-- Change the state of core `c`. -/
def State.modCore (s : State) (c : Nat) (f : CoreSt → CoreSt) : State := s.setCore c (f (s.core c))

/-- Change schedule `n`. -/
def State.modSch (s : State) (n : Nat) (f : Sched → Sched) : State := s.setSch n (f (s.sch n))

/-- The tasks of one kind, of an image. -/
def Image.kind (i : Image) (background : Bool) : List TaskEntry := i.tasks.filter fun t => t.background == background

/-- The entry with the lowest order number at or above `lo`. -/
def nextTask (l : List TaskEntry) (lo : Nat) : Option TaskEntry :=
  (List.range 64).findSome? fun k => if k < lo then none else l.find? fun t => t.order == k

/-- The background task whose turn follows order `lo - 1`, round robin among the orders in `ready` (R104). -/
def turnTask (l : List TaskEntry) (lo ready : Nat) : Option TaskEntry :=
  let r := l.filter fun t => ready.testBit t.order
  (nextTask r lo).or (nextTask r 0)

/-- CK_PIER cycles of a core from the tick to `phase` CK_DECK cycles after it: 600 MHz, or 300 MHz when halved. -/
def coreCycles (half : Bool) (phase : Nat) : Nat := if half then 3 * phase / 4 else 3 * phase / 2

/-- All general registers of core `c` read 0 (R102, R106). -/
def State.clearGprs (s : State) (c : Nat) : State :=
  { s with pier := { s.pier with gpr := s.pier.gpr.filter fun (kv : Nat × Word) => kv.1 / 64 != c } }

/-- The device dispatches frame-partition tasks: coherent (R475), not held by SHUTDOWN (R450), and ACTIVE in a pair (R364,
R369). -/
def State.dispatches (s : State) : Bool :=
  s.coherent && (s.health.runOn ||
    (s.health.resumeStep < 2 && !s.bit F.HEALTH_THERM_STAT_HALT_HOT && (!s.paired || s.roleIs .active)))

/-! ### Background tasks (R104 to R106) -/

/-- The save slot of background task `order` of schedule `n`. -/
def State.slotAddr (s : State) (n order : Nat) : Nat := s.rd F.PIERCTL_PIER_BPSAVE n * 64 + order * 288

/-- The shadow of background task `order` of schedule `n`. -/
def State.shadowOf (s : State) (n order : Nat) : BpShadow := Sparse.get s.pier.shadow {} (n * 4 + order)

/-- Keep a shadow and write its slot (R105), whose lines are mirrored in a mirror window (R368). -/
def State.saveShadow (s : State) (n order : Nat) (b : BpShadow) : State :=
  let s := { s with pier := { s.pier with shadow := Sparse.put s.pier.shadow (n * 4 + order) b } }
  let a := s.slotAddr n order
  if inGeneral a 288 then
    (s.setDBytes a ((b.regs.flatMap fun w => toBytes w.toNat 4) ++ toBytes b.pc 4 ++ toBytes b.flags 4 ++
      toBytes b.slice 4)).mirrorRange a 264
  else s

/-- The background task leaves core `c` with slice remainder `slice`: its state is saved, and the turn after it begins at
order `next`. -/
def State.bpSave (s : State) (c slice next : Nat) : State :=
  let k := s.core c
  match k.task with
  | none => s
  | some t =>
    let b : BpShadow :=
      { started := true, regs := (List.range 63).map fun g => s.gpr c (g + 1), pc := k.pc, flags := k.flags, slice := slice }
    (s.saveShadow (s.schedOf c) t.order b).modCore c fun k => { k with task := none, slice := 0, bpNext := next, pair := none }

/-- The flags a shadow restores. -/
def CoreSt.withFlags (k : CoreSt) (f : Nat) : CoreSt :=
  { k with z := f.testBit 0, n := f.testBit 1, c := f.testBit 2, v := f.testBit 3, qs := f.testBit 4, fx := f.testBit 5 }

/-- A background slice in CK_PIER cycles at full clock (R104). -/
def State.sliceCycles (s : State) (n : Nat) : Nat := s.rd F.PIERCTL_PIER_CFG_BP_SLICE n * 600

/-- Background task `t` of schedule `n` runs on core `c`: from its shadow, or from its ENTRY (R106). The clock of a core that
was idle has reached the present. -/
def State.bpStart (s : State) (c n : Nat) (t : TaskEntry) : State :=
  let b := s.shadowOf n t.order
  let s := s.clearGprs c
  let s := if b.started then s.each b.regs.zipIdx fun s wg => s.setGpr c (wg.2 + 1) wg.1
    else s.setGpr c 2 (BitVec.ofNat 32 t.taskNo)
  s.modCore c fun k =>
    { k.withFlags b.flags with
      clk := max k.clk (coreCycles k.half s.span.phase)
      pc := if b.started then b.pc else t.entry
      bc := 0
      task := some ⟨true, t.order, t.taskNo⟩
      slice := if b.slice = 0 then s.sliceCycles n else b.slice
      ready := [], pair := none, wrote := [] }

/-- A test of a memory of core `c` runs: background code is suspended for it (R453). -/
def State.tcmTested (s : State) (c : Nat) : Bool := s.health.running.any fun u => u.1 == 1 && u.2 / 2 == c

/-- The next ready background task of core `c` runs, if background code may run there now (R104, R449, R453). -/
def State.bpTurn (s : State) (c : Nat) : State :=
  let n := s.schedOf c
  let k := s.core c
  if !(k.task.isNone && k.fpDone && !k.stopped && s.schIs n .running && !s.throttling && !s.tcmTested c &&
    !(s.sch n).resumeDue) then s
  else match (s.sch n).active with
    | none => s
    | some img => match turnTask (img.kind true) k.bpNext (s.rd F.PIERCTL_PIER_BP_CTL_RUNNING n) with
      | none => s
      | some t => s.bpStart c n t

/-- Background code is preempted: its slice goes on at its next turn (R105). -/
def State.bpPreempt (s : State) (c : Nat) : State :=
  let k := s.core c
  match k.task with
  | some t => if t.background then s.bpSave c k.slice t.order else s
  | none => s

/-- The background task gives up the core (R104): YIELD, or the slice is over. -/
def State.bpLeave (s : State) (c : Nat) : State :=
  match (s.core c).task with
  | some t => if t.background then (s.bpSave c 0 (t.order + 1)).bpTurn c else s
  | none => s

/-! ### Frame-partition tasks (R42, R102) -/

/-- Task `t` is dispatched on core `c`. -/
def State.fpStart (s : State) (c : Nat) (t : TaskEntry) : State :=
  let s := s.clearGprs c
  let s := ((s.setGpr c 1 (BitVec.ofNat 32 t.ctxBase)).setGpr c 2 (BitVec.ofNat 32 t.taskNo)).setGpr c 3
    (BitVec.ofNat 32 s.frame)
  s.modCore c fun k =>
    { k.withFlags 0 with
      pc := t.entry, bc := t.budget, task := some ⟨false, t.order, t.taskNo⟩, wrote := [], ready := [], pair := none }

/-- The task of lowest order at or above `lo` is dispatched; after the last one the pier turns to background work, and
FP_END takes the cycles from tick + 4 µs when a task ended. -/
def State.fpNext (s : State) (c lo : Nat) : State :=
  let n := s.schedOf c
  let none' (s : State) : State :=
    let k := s.core c
    let s := if lo = 0 then s else s.wr F.PIERCTL_PIER_FP_END (k.clk - coreCycles k.half 1600) n
    (s.modCore c fun k => { k with fpDone := true, task := none, pair := none }).bpTurn c
  match (s.sch n).active with
  | none => none' s
  | some img => match nextTask (img.kind false) lo with
    | none => none' s
    | some t => s.fpStart c t

/-- The tasks of schedule `n`, background tasks too, do not run in this span: their points take STALE at the next tick (R127,
R129, R130, R450). -/
def State.markIdle (s : State) (n : Nat) : State :=
  if !(s.coherent && (!s.paired || s.roleIs .active || s.roleIs .halted) &&
      (s.schIs n .running || s.schIs n .stopped || s.schIs n .retired)) then s
  else
    let l := ((s.sch n).active.map fun i => i.tasks.map (·.taskNo)).getD []
    { s with pts := { s.pts with overran := s.pts.overran ++ l.filter fun t => !s.pts.overran.contains t } }

/-- At tick + 4 µs core `c` preempts background code and dispatches its first frame-partition task (R42). -/
def State.dispatchCore (s : State) (c : Nat) : State :=
  let n := s.schedOf c
  let s := s.modCore c fun k => { k with clk := coreCycles k.half 1600, ready := [], pair := none, stall := false, held := none }
  if !(s.schIs n .running && s.dispatches && !(s.core c).stopped && !(s.sch n).resumeDue && s.domOn (coreDom c)) then
    s.markIdle n
  else if ((s.sch n).active.map fun i => (i.kind false).isEmpty).getD true then s.bpTurn c
  else ((s.bpPreempt c).modCore c fun k => { k with fpDone := false }).fpNext c 0

/-- The running task and every frame-partition task of the span after it count as having overrun (R122, R127). -/
def State.overrunRest (s : State) (c : Nat) : State :=
  let k := s.core c
  let from' := (k.task.map (·.order)).getD 0
  let rest (i : Image) : List Nat := ((i.kind false).filter fun t => from' ≤ t.order).map (·.taskNo)
  let l := if k.fpDone then (k.task.map (·.taskNo)).toList else ((s.sch (s.schedOf c)).active.map rest).getD []
  { s with pts := { s.pts with overran := s.pts.overran ++ l.filter fun t => !s.pts.overran.contains t } }

/-- Each point the running task wrote in this span takes back the next-plane value it had at dispatch (R52). -/
def State.undoWrites (s : State) (c : Nat) : State :=
  s.each (s.core c).wrote fun s w =>
    { s with pts := { s.pts with next := match w.2 with
      | some r => Sparse.put s.pts.next w.1 r
      | none => Sparse.del s.pts.next w.1 } }

/-- The points task `no` owns show STALE at the next tick (R52). -/
def State.markOverran (s : State) (no : Nat) : State :=
  if s.pts.overran.contains no then s else { s with pts := { s.pts with overran := s.pts.overran ++ [no] } }

/-- A core stops at once, in the middle of its span (R122 cause 5, R127). -/
def State.coreStop (s : State) (c : Nat) : State :=
  let s := match (s.core c).task with
    | some t => if t.background then s else s.undoWrites c
    | none => s
  (s.overrunRest c).modCore c fun k =>
    { k with task := none, fpDone := true, stopped := true, pair := none, stall := false, held := none }

/-! ### Retirement (R127 to R129, R457) -/

/-- Show the spares: SPARES_LEFT, and SPARE or OFF for every schedule without an image. -/
def State.showSpares (s : State) : State :=
  let s := s.wr F.PIERCTL_STAT_SPARES_LEFT s.pier.spares.length
  s.each (List.range 24) fun s n =>
    if s.schIs n .off || s.schIs n .spare then s.schTo n (if s.pier.spares.contains n then .spare else .off) else s

/-- A schedule is lost: RETIRED, the event, and the outputs released when LOSS_RELEASE asks (R128, R129). -/
def State.loseSched (s : State) (n code : Nat) (words : List Nat) : State :=
  let s := (s.schTo n .retired).raise code n words
  if s.bit F.PIERCTL_CTL_LOSS_RELEASE then s.ownDrop.dropRole else s

/-- HEALTH retires core `c` (R127, R129): it stops at once, and its schedule migrates to a spare or is lost. Which of two spares
is taken the specification does not say. -/
def State.retireCore (s : State) (c : Nat) : State :=
  let n := s.schedOf c
  let s := s.coreStop c
  if s.pier.spares.contains c then { s with pier := { s.pier with spares := s.pier.spares.filter (· != c) } }.showSpares
  else if (s.sch n).active.isNone || s.physOf n != c || s.schIs n .retired then s
  else
    let l := s.pier.spares
    if l.isEmpty then s.loseSched n 0x214 []
    else
      let (k, s) := s.free 90
      let core := l.getD (k % l.length) 0
      let s := { s with pier := { s.pier with spares := l.filter (· != core) } }.showSpares
      if s.pier.loader.isSome then
        { s with pier := { s.pier with migrateQueue := s.pier.migrateQueue ++ [(n, core)] } }
      else ({ s with pier := { s.pier with loader := some (.migrating n c core) } }).wrB F.PIERCTL_STAT_LOADER_BUSY true

/-- A pier that a verdict on one of its memories retires (R457). -/
def State.retireTcm (s : State) (unit source : Nat) : State :=
  ((s.setMap F.HEALTH_RET_PIER (unit / 2)).event 0xC08 [1, unit, source]).retireCore (unit / 2)

/-- An error in a memory of a core is passed to HEALTH (R453); a LASTING verdict without a test retires the pier at once (R455,
R457). -/
def State.tcmError (s : State) (unit : Nat) : State := (s.startTest 1 unit).retireClass 1 State.retireTcm

/-! ### Traps (R121 to R124) -/

/-- Record a trap of core `c` (R124). -/
def State.trapRecord (s : State) (c cause : Nat) : State :=
  let n := s.schedOf c
  let k := s.core c
  let task := (k.task.map (·.taskNo)).getD 0xFFFF
  let s := ((s.wr F.PIERCTL_PIER_TRAP_INFO_TASK task n).wr F.PIERCTL_PIER_TRAP_INFO_CAUSE cause n).wrB
    F.PIERCTL_PIER_TRAP_INFO_VALID true n
  let s := s.wr F.PIERCTL_PIER_TRAP_PC k.pc n
  let s := if cause = 1 then s.incSat F.PIERCTL_PIER_TRAP_COUNT_OVERRUNS n
    else s.incSat F.PIERCTL_PIER_TRAP_COUNT_OTHER n
  s.raise (0x1FF + cause) n [] (some c)

/-- A memory of core `c` whose error found the queue of tests full is TRANSIENT untested (R455): the schedule resumes at the
next tick (R122). -/
def State.untestedReturn (s : State) (c unit : Nat) : State :=
  if s.testPending 1 unit || s.isRetired 1 unit || s.health.due.any (fun u => u.1 == 1 && u.2.1 == unit) then s
  else s.modSch (s.schedOf c) fun k => { k with resumeDue := true }

/-- Core `c` takes a trap (R121 to R123): PC names the trapping instruction. For cause 5, `mem` is the memory, 0
instruction, 1 data. -/
def State.trap (s : State) (c cause : Nat) (mem : Nat := 0) : State :=
  match (s.core c).task with
  | none => s
  | some t =>
    let s := s.trapRecord c cause
    let n := s.schedOf c
    let s := if t.background then s.clrMap F.PIERCTL_PIER_BP_CTL_RUNNING t.order n else s
    if cause = 5 then ((s.coreStop c).tcmError (2 * c + mem)).untestedReturn c (2 * c + mem)
    else if t.background then
      (s.modCore c fun k => { k with task := none, bpNext := t.order + 1, pair := none }).bpTurn c
    else ((s.undoWrites c).markOverran t.taskNo).fpNext c (t.order + 1)

/-! ### Time -/

/-- BC of a running frame-partition task, or the slice of a background task, falls by `d` cycles (R50, R104). -/
def CoreSt.spend (k : CoreSt) (d : Nat) : CoreSt :=
  match k.task with
  | some t => if t.background then { k with clk := k.clk + d, slice := k.slice - d }
    else { k with clk := k.clk + d, bc := k.bc - d }
  | none => { k with clk := k.clk + d }

/-- The core's clock reaches `t` cycles: a budget that ends on the way traps in that cycle (R52, R169), a slice that ends gives
the core up (R104), and the task that follows spends the rest. While an access waits for the commit window, the slice does not
count (log entry 52). `n` bounds the tasks that can end on the way. -/
def State.coreRun (s : State) (c t : Nat) : Nat → State
  | 0 => s.modCore c fun k => { k with clk := max t k.clk }
  | n + 1 =>
    let k := s.core c
    let left := t - k.clk
    if left = 0 then s
    else match k.task with
      | none => s.setCore c { k with clk := t }
      | some r =>
        if k.stall then s.setCore c { k with clk := t }
        else
          let own := if r.background then k.slice else k.bc
          let s := s.setCore c { k.spend (min left own) with pair := none }
          if left < own then s
          else if r.background then (s.bpLeave c).coreRun c t n
          else (s.trap c 1).coreRun c t n

/-- Core `c` runs on to `t` cycles of its clock: at most 64 frame-partition tasks and 2,000 slices of 600 cycles end in a span. -/
def State.coreTo (s : State) (c t : Nat) : State := s.coreRun c t 2100

/-- The cores that run a task. -/
def State.busyCores (s : State) : List Nat :=
  (s.pier.core.filter fun (kv : Nat × CoreSt) => kv.2.task.isSome).map (·.1)

/-- Time passes to `p` CK_DECK cycles after the tick; the phase never goes back. -/
def State.toPhase (s : State) (p : Nat) : State :=
  let p := max p s.span.phase
  let s := { s with span := { s.span with phase := p } }
  s.each s.busyCores fun s c => s.coreTo c (coreCycles (s.core c).half p)

/-! ### One instruction -/

/-- What an instruction's own effect comes to. -/
inductive PierRes where
  /-- it is done; the next word follows -/
  | next (s : State)
  /-- it is done, and code goes on at a byte offset -/
  | jump (s : State) (pc : Nat)
  /-- it traps, with nothing of it done -/
  | trap (cause : Nat)
  /-- as `trap` of cause 5, in the data memory -/
  | memUe
  /-- a deck address fault after an ECC error was reported (R21) -/
  | deckUe (s : State)
  /-- an ownership violation, with its event (R75) -/
  | owner (s : State)
  /-- it ends the task or its turn -/
  | yield (s : State)
  /-- its access waits for the end of the commit window, with nothing of it done (R18) -/
  | wait
  deriving DecidableEq, Repr

/-- Bytes of code, or of data, a core's active program reaches (R100, R131). -/
def State.pierSpace (s : State) (c : Nat) : Nat :=
  if s.bit F.PIERCTL_PIER_CFG_BANKED (s.schedOf c) then 0x10000 else 0x20000

/-- Loop level `k` is active (R152). -/
def State.levelOn (s : State) (c k : Nat) : Bool := (s.gpr c (56 + 2 * k)).getLsbD 31

/-- First byte of the body of level `k`, and the byte after it. -/
def State.levelBody (s : State) (c k : Nat) : Nat × Nat :=
  let w := (s.gpr c (57 + 2 * k)).toNat
  (4 * (w % 2 ^ 15), 4 * (w % 2 ^ 15 + w / 2 ^ 16))

/-- Clear a loop level. -/
def State.clearLevel (s : State) (c k : Nat) : State := (s.setGpr c (56 + 2 * k) 0).setGpr c (57 + 2 * k) 0

/-- A loop register with INDEX one up; no other field changes (R151, R152). -/
def nextPass (w : Word) : Word := (w &&& ~~~0x3FF#32) ||| ((w + 1) &&& 0x3FF#32)

/-- The end-of-body step of R151 at `pc`, for the levels below `k`: the state and the PC. -/
def State.endOfBody (s : State) (c pc : Nat) : Nat → State × Nat
  | 0 => (s, pc)
  | k + 1 =>
    if !s.levelOn c k then s.endOfBody c pc k
    else if pc ≠ (s.levelBody c k).2 then (s, pc)
    else
      let w := s.gpr c (56 + 2 * k)
      let (last, index) := (w.toNat / 2 ^ 10 % 2 ^ 10, w.toNat % 2 ^ 10)
      if index = last then (s.clearLevel c k).endOfBody c pc k
      else (s.setGpr c (56 + 2 * k) (nextPass w), (s.levelBody c k).1)

/-- A taken branch or jump to `pc` that lands outside the body of an active level clears that level and every level inside
it (R153). The word just after the body still belongs to it. -/
def State.leaveLevels (s : State) (c pc : Nat) : State :=
  match (List.range 4).find? fun k => s.levelOn c k && !((s.levelBody c k).1 ≤ pc && pc ≤ (s.levelBody c k).2) with
  | none => s
  | some k => s.each ((List.range 4).filter (k ≤ ·)) fun s j => s.clearLevel c j

/-- A fetch at `pc` from an overlay window that is being copied stalls until the copy ends (R120). -/
def State.fetchStalled (s : State) (c pc : Nat) : Bool :=
  let n := s.schedOf c
  (s.pier.overlay.any fun x => x.1 == n) &&
    ((s.sch n).active.map fun i => i.ovlOff ≤ pc && pc < i.ovlOff + i.ovlLen).getD false

/-- The instruction at `pc` is the last word of an active level's body (R135). -/
def State.lastOfBody (s : State) (c pc : Nat) : Bool :=
  (List.range 4).any fun k => s.levelOn c k && pc + 4 == (s.levelBody c k).2

/-- The first cycle at which every register of `rs` can be used. -/
def CoreSt.readyAt (k : CoreSt) (rs : List Nat) : Nat := rs.foldl (fun m r => max m (Sparse.get k.ready 0 r)) 0

/-- The instruction issues together with the one before it, on which it does not depend, by a register or by C (R98, R135). -/
def CoreSt.joins (k : CoreSt) (o : PierOp) : Bool :=
  match k.pair with
  | none => false
  | some ws => o.pairs && k.readyAt o.reads < k.clk && !(o.carryIn && ws.contains 64) &&
      ws.all fun w => !(o.reads.contains w || o.writes.contains w)

/-- What the next instruction may not depend on to pair with this one: the registers it writes, and 64 for C. -/
def PierOp.sets (o : PierOp) : List Nat := o.writes ++ if o.flagsOut then [64] else []

/-- The registers an instruction writes are ready `L` cycles after its issue at `t` (R133). -/
def CoreSt.setReady (k : CoreSt) (o : PierOp) (t : Nat) : CoreSt :=
  { k with ready := o.writes.foldl (fun m r => Sparse.put m r (t + o.lat)) k.ready }

/-- An instruction that is done: its cost, the loop step at the next PC, and the end of a background slice. -/
def State.pierDone (s : State) (o : PierOp) (cost issue : Nat) (joined : Bool) (npc : Nat) : State :=
  let c := o.core
  let k := s.core c
  match k.task with
  | none => s
  | some t =>
    let pairable := o.pairs && !joined && !s.lastOfBody c k.pc
    let (s, pc) := s.endOfBody c npc 4
    let s := s.modCore c fun k =>
      { (k.spend cost).setReady o issue with pc := pc, pair := if pairable then some o.sets else none }
    if t.background && (s.core c).slice == 0 then s.bpLeave c else if s.tcmTested c then s.bpPreempt c else s

/-- The active program of core `c` runs in bank B. -/
def State.bankB (s : State) (c : Nat) : Bool :=
  s.bit F.PIERCTL_PIER_CFG_BANKED (s.schedOf c) && s.bit F.PIERCTL_PIER_STAT_ACTIVE_BANK (s.schedOf c)

/-- The instruction memory word that core `c` fetches at `pc`, by its key / 4 (R115). -/
def State.codeWord (s : State) (c pc : Nat) : Nat := (c * 0x40000 + (if s.bankB c then 0x10000 else 0) + pc) / 4

/-- The error, if any, that a fetch of core `c` finds in its instruction memory: whether it is uncorrectable (R122, R453). -/
def State.codeError (s : State) (c pc : Nat) : Option Bool :=
  (s.health.codeUpsets.find? fun u => u.1 == s.codeWord c pc).map (·.2)

/-- A fetch has found the error at its word. -/
def State.codeFound (s : State) (c pc : Nat) : State :=
  { s with health := { s.health with codeUpsets := s.health.codeUpsets.filter fun u => u.1 != s.codeWord c pc } }

/-- A fetch of core `c` that finds a correctable error reports it: the memory is to be tested (R453). -/
def State.fetched (s : State) (c pc : Nat) : State :=
  if s.codeError c pc == some false then (s.codeFound c pc).tcmError (2 * c) else s

/-- Core `o.core` executes one instruction with figures `o` and the effect `body`; `extra` cycles are added to its cost (a
branch that is taken, a control block on the bearing die). A core that runs no task executes nothing. A PC outside the
code (R132), a reserved encoding (R140), or an instruction frame-partition code may not hold, is an
illegal-instruction trap; an uncorrectable error of its word is trap 5 (R122); a budget that ends before the instruction does is
an overrun, and the instruction has no effect (R52, R169). A trap of its own is taken in its last cycle, where it makes its accesses (R169). -/
def State.pierRun (s : State) (o : PierOp) (extra : Nat) (body : State → PierRes) (isYield : Bool := false) : State :=
  let c := o.core
  let k := s.core c
  match k.task with
  | none => s
  | some t =>
    if k.stopped || k.stall || s.fetchStalled c k.pc then s
    else if s.pierSpace c ≤ k.pc || k.pc % 4 != 0 then s.trap c 2
    else if s.codeError c k.pc == some true then (s.codeFound c k.pc).trap c 5
    else if !(if t.background then o.legal else o.fpOk) then s.trap c 2
    else
      let joined := k.joins o
      let stall := if joined then 0 else k.readyAt o.reads - k.clk
      let cost := if joined then 0 else o.cost + extra
      if !t.background && (k.bc < stall + cost || (k.bc == stall + cost && !isYield)) then
        (s.setCore c (k.spend k.bc)).trap c 1
      else
        let s := (s.setCore c (k.spend stall)).fetched c k.pc
        let k := s.core c
        let issue := if joined then k.clk - 1 else k.clk
        match body s with
        | .trap cause => (s.modCore c fun k => k.spend cost).trap c cause
        | .memUe => (s.modCore c fun k => k.spend cost).trap c 5 1
        | .deckUe s => (s.modCore c fun k => k.spend cost).trap c 4
        | .owner s => (s.modCore c fun k => k.spend cost).trap c 3
        | .wait => s.modCore c fun k => { k with stall := true }
        | .next s => s.pierDone o cost issue joined (k.pc + 4)
        | .jump s pc => (if t.background then s.leaveLevels c pc else s).pierDone o cost issue joined pc
        | .yield s =>
          let (s, pc) := s.endOfBody c (k.pc + 4) 4
          let s := s.modCore c fun k => { k.spend cost with pc := pc, pair := none }
          if t.background then s.bpLeave c else s.fpNext c (t.order + 1)

/-- An instruction whose access has begun to wait (R18) is kept until the commit window closes. -/
def State.keepHeld (was s : State) (c : Nat) (i : Instr) (waits : Bool) : State :=
  if waits && !(was.core c).stall && (s.core c).stall then s.modCore c fun k => { k with held := some i } else s

/-- As a command: the core's power domain must be on. -/
def State.pierAct (s : State) (i : Instr) (extra : Nat) (body : State → PierRes) (isYield : Bool := false) : Out :=
  match pierOp i with
  | none => .next s
  | some o => s.act [coreDom o.core] fun s => s.pierRun o extra body isYield

/-- An instruction that reaches a plane, the descriptors or the loop area: in the commit window it waits (R18). `wait` says
whether its access would. -/
def State.deckAct (s : State) (i : Instr) (body : State → PierRes) : Out :=
  match pierOp i with
  | none => .next s
  | some o => s.act [coreDom o.core] fun s =>
    State.keepHeld s (s.pierRun o 0 body) o.core i (s.running && s.inWin .commit)

end Sys2Proof.Machine
end

