-- ==== Sys2Proof/Machine/Operands.lean ====
section
/-! DEFINITION. The operand forms of the pier's instructions: registers and register groups (R136), shift amounts, local
addresses and local data memory (R131, R154), and the flags an instruction writes (R142, R145, R146). -/

namespace Sys2Proof.Machine

/-- The value of a register operand. -/
def State.ra (s : State) (c : CoreId) (g : Gpr) : Word := s.gpr c g.toNat

/-- Write a register operand. -/
def State.put (s : State) (c : CoreId) (g : Gpr) (v : Word) : State := s.setGpr c g.toNat v

/-- Write a register group from `g` (R136). -/
def State.putGroup (s : State) (c : CoreId) (g : Gpr) (vs : List Word) : State :=
  s.each vs.zipIdx fun s vk => s.setGpr c (g.toNat + vk.2) vk.1

/-- The values of the group of `n` registers from `g` (R136). -/
def State.raGroup (s : State) (c : CoreId) (g : Gpr) (n : Nat) : List Word :=
  (List.range n).map fun k => s.gpr c (g.toNat + k)

/-- A truth value as a register value. -/
def bool32 (b : Bool) : Word := if b then 1 else 0

/-- A shift amount in a register: bits [4:0]. -/
def shiftOf (w : Word) : Nat := w.toNat % 32

/-- The address ga + sext(imm14) of a load or store (R154, R155, R157). -/
def State.addrOf (s : State) (c : CoreId) (ga : Gpr) (imm : BitVec 14) : Nat := (s.ra c ga + imm.signExtend 32).toNat

/-! ### Flags -/

/-- Z and N from a result (R142). -/
def State.setZN (s : State) (c : CoreId) (r : Word) : State :=
  s.modCore c fun k => { k with z := flagZ r, n := flagN r }

/-- Z and N from a result, C and V as given (R142). -/
def State.setZNCV (s : State) (c : CoreId) (r : Word) (carry over' : Bool) : State :=
  s.modCore c fun k => { k with z := flagZ r, n := flagN r, c := carry, v := over' }

/-- QS is sticky (R145). -/
def State.stickyQs (s : State) (c : CoreId) (b : Bool) : State :=
  if b then s.modCore c fun k => { k with qs := true } else s

/-- FX is sticky (R146). -/
def State.stickyFx (s : State) (c : CoreId) (b : Bool) : State :=
  if b then s.modCore c fun k => { k with fx := true } else s

/-! ### Local data memory (R100, R131, R154) -/

/-- A byte of a core's memories, by its key. -/
def State.tcmByte (s : State) (a : Nat) : Byte := Sparse.get s.pier.tcm 0 a

/-- Write a byte of a core's memories. -/
def State.setTcmByte (s : State) (a : Nat) (b : Byte) : State :=
  { s with pier := { s.pier with tcm := Sparse.set s.pier.tcm 0 a b } }

/-- Write bytes of a core's memories. -/
def State.setTcmBytes (s : State) (a : Nat) (bs : List Byte) : State :=
  s.each bs.zipIdx fun s bk => s.setTcmByte (a + bk.2) bk.1

/-- Where byte `a` of the active data memory of core `c` lies. -/
def State.dataKey (s : State) (c a : Nat) : Nat := c * 0x40000 + 0x20000 + (if s.bankB c then 0x10000 else 0) + a

/-- A local address of `size` bytes is within its space and aligned (R132). -/
def State.localOk (s : State) (c a size : Nat) : Bool := a < s.pierSpace c && a % size == 0

/-- A local load of `size` bytes, extended by `ext` (R154). -/
def State.localLoad (s : State) (c : CoreId) (gd ga : Gpr) (imm : BitVec 14) (ecc : Ecc) (size : Nat)
    (ext : Nat → Word) : PierRes :=
  let a := s.addrOf c ga imm
  if !s.localOk c a size then .trap 4
  else
    let r := s.put c gd (ext (leBytes (fun b => s.tcmByte (s.dataKey c b)) a size))
    match ecc with
    | .ok => .next r
    | .corrected => .next (r.tcmError (2 * c.val + 1))
    | .uncorrectable => .memUe

/-- A local store of the low `size` bytes of gd (R154). -/
def State.localStore (s : State) (c : CoreId) (gd ga : Gpr) (imm : BitVec 14) (size : Nat) : PierRes :=
  let a := s.addrOf c ga imm
  if !s.localOk c a size then .trap 4
  else .next (s.setTcmBytes (s.dataKey c a) (toBytes (s.ra c gd).toNat size))

end Sys2Proof.Machine
end

