-- ==== Sys2Proof/Machine/Sens.lean ====
section
/-! DEFINITION. Excitation sources and sensor checks (08_sensor_inputs.md). -/

namespace Sys2Proof.Machine

/-! ### Excitation (R246 to R248) -/

/-- The LEVEL of source `k` takes effect: at an entry boundary of group `k` (R248). COMPL goes with a current that ends. -/
def State.iexApply (s : State) (k : Nat) : State :=
  let l := s.rd F.SENS_IEX_CTL k
  if l = s.rd F.SENS_IEX_STAT_LEVEL_NOW k then s
  else
    let s := if l = 0 then s.wrB F.SENS_IEX_STAT_COMPL false k else s
    { s.wr F.SENS_IEX_STAT_LEVEL_NOW l k with
      sens := { s.sens with levelAt := Sparse.put s.sens.levelAt k s.convAbs } }

/-- What the holds of an entry on group `k`, an aborted one too, show of its source (R247); one that is off has no current to
hold. -/
def State.iexSample (s : State) (k : Nat) (compl : List Bool) : State :=
  let on := s.rd F.SENS_IEX_STAT_LEVEL_NOW k != 0
  let s := s.wrB F.SENS_IEX_STAT_COMPL (on && compl.getLastD false) k
  if on && compl.contains true then s.wrB F.SENS_IEX_STAT_COMPL_SEEN true k else s

/-! ### Checks (R249 to R256) -/

/-- What check `m` keeps beside its registers. -/
def State.chkSt (s : State) (m : Nat) : ChkSt := Sparse.get s.sens.chk {} m

/-- Change what check `m` keeps. -/
def State.chkMod (s : State) (m : Nat) (f : ChkSt → ChkSt) : State :=
  { s with sens := { s.sens with chk := Sparse.set s.sens.chk {} m (f (s.chkSt m)) } }

/-- Check `m` names entry `j` of sequencer `n`. -/
def State.chkNames (s : State) (m n j : Nat) : Bool :=
  s.rd F.SENS_CHK_CFG_SEQ m == n && s.rd F.SENS_CHK_CFG_ENTRY m == j

/-- A threshold as check `m` reads it (R250). -/
def State.threshold (s : State) (diff : Bool) (f : Fld) (m : Nat) : Int :=
  if diff then signed 18 (s.rd f m) else s.rd f m

/-- Why check `m` cannot be enabled: the REASON of R250, 0 for none. -/
def State.chkRefusal (s : State) (m : Nat) : Nat :=
  let (n, j) := (s.rd F.SENS_CHK_CFG_SEQ m, s.rd F.SENS_CHK_CFG_ENTRY m)
  let diff := s.bit F.CONV_SEQ_ENT_A_DIFF n j
  if s.threshold diff F.SENS_CHK_THR_HI m ≤ s.threshold diff F.SENS_CHK_THR_LO m then 1
  else if (List.range 128).any fun k => k != m && s.bit F.SENS_CHK_CFG_EN k && s.chkNames k n j then 2
  else 0

/-- Setting SENS_CHKm_CFG.EN (R250). A check starts with verdict OK, an empty count and NOSRC 0: log entry 84. -/
def State.chkEnable (s : State) (m : Nat) : State :=
  if s.bit F.SENS_CHK_CFG_EN m then s
  else
    let r := s.chkRefusal m
    let s := s.wr F.SENS_CHK_STAT_REASON r m
    if r ≠ 0 then s
    else
      let diff := s.bit F.CONV_SEQ_ENT_A_DIFF (s.rd F.SENS_CHK_CFG_SEQ m) (s.rd F.SENS_CHK_CFG_ENTRY m)
      let s := ((s.wrB F.SENS_CHK_CFG_EN true m).wr F.SENS_CHK_STAT_COUNT 0 m).wrB F.SENS_CHK_STAT_VERDICT false m
      let s := (s.wr F.SENS_CHK_STAT_KIND_NOW 0 m).wrB F.SENS_CHK_STAT_NOSRC false m
      s.chkMod m fun c => { c with diff := diff }

/-- The class of a result (R251). -/
inductive ChkClass where
  | skipped | opened | shorted | clean
  deriving DecidableEq, Repr

/-- The class check `m` gives a result of group `k`: mean code `c`, first hold at CK_CONV time `hold`, COMPL at some hold
(R251). With OWN_IN high the sources are off and only the lines on the code apply (R360). -/
def State.chkClass (s : State) (m k hold : Nat) (c : Int) (compl : Bool) : ChkClass :=
  let excited := s.rd F.SENS_CHK_CFG_KIND m == 0 && !s.bit F.TWIN_STAT_OWN_IN
  let off := s.rd F.SENS_IEX_STAT_LEVEL_NOW k == 0
  let fresh := match Sparse.find? s.sens.levelAt k with
    | some a => hold ≤ a + 1280
    | none => false
  let diff := (s.chkSt m).diff
  if excited && (off || fresh) then .skipped
  else if excited && compl then .opened
  else if s.threshold diff F.SENS_CHK_THR_HI m ≤ c then .opened
  else if c ≤ s.threshold diff F.SENS_CHK_THR_LO m then .shorted
  else .clean

/-- KIND_NOW takes a class and its event is recorded (R252, R257). -/
def State.chkKind (s : State) (m n j : Nat) (opened : Bool) (c : Int) (compl : Bool) : State :=
  let s := s.wr F.SENS_CHK_STAT_KIND_NOW (if opened then 1 else 2) m
  if opened then s.raise 0x400 m [m, n, j, wInt c, compl.toNat] else s.raise 0x401 m [m, n, j, wInt c]

/-- A faulty result at check `m` (R252). -/
def State.chkFaulty (s : State) (m n j : Nat) (opened : Bool) (c : Int) (compl : Bool) : State :=
  if s.bit F.SENS_CHK_STAT_VERDICT m then
    let s := s.wr F.SENS_CHK_STAT_COUNT 0 m
    if s.rd F.SENS_CHK_STAT_KIND_NOW m = (if opened then 1 else 2) then s else s.chkKind m n j opened c compl
  else
    let k := s.rd F.SENS_CHK_STAT_COUNT m + 1
    if k < s.rd F.SENS_CHK_CFG_CONFIRM m then s.wr F.SENS_CHK_STAT_COUNT k m
    else
      let s := ((s.wrB F.SENS_CHK_STAT_VERDICT true m).wr F.SENS_CHK_STAT_COUNT 0 m).incSat F.SENS_CHK_STAT_FAULTS m
      (s.chkKind m n j opened c compl).chkMod m fun x => { x with spans := 0, hotDone := false }

/-- A clean result at check `m` (R252). -/
def State.chkClean (s : State) (m : Nat) : State :=
  if !s.bit F.SENS_CHK_STAT_VERDICT m then s.wr F.SENS_CHK_STAT_COUNT 0 m
  else
    let k := s.rd F.SENS_CHK_STAT_COUNT m + 1
    if k < s.rd F.SENS_CHK_CFG_CLEAR m then s.wr F.SENS_CHK_STAT_COUNT k m
    else
      let s := (s.wrB F.SENS_CHK_STAT_VERDICT false m).wr F.SENS_CHK_STAT_COUNT 0 m
      s.raise 0x402 m [m, min 0xFFFF (s.chkSt m).spans]

/-- Check `m` evaluates a result of entry `j` of sequencer `n`, on group `k` (R251, R252). -/
def State.chkEvaluate (s : State) (m n j k hold : Nat) (c : Int) (compl : Bool) : State :=
  match s.chkClass m k hold c compl with
  | .skipped => s.wrB F.SENS_CHK_STAT_NOSRC (s.rd F.SENS_IEX_STAT_LEVEL_NOW k == 0) m
  | .opened => (s.wrB F.SENS_CHK_STAT_NOSRC false m).chkFaulty m n j true c compl
  | .shorted => (s.wrB F.SENS_CHK_STAT_NOSRC false m).chkFaulty m n j false c compl
  | .clean => (s.wrB F.SENS_CHK_STAT_NOSRC false m).chkClean m

/-- The checks that follow entry `j` of sequencer `n`: enabled, or not yet done with a faulted result (R254). -/
def State.chksOf (s : State) (n j : Nat) : List Nat :=
  (List.range 128).filter fun m => s.chkNames m n j &&
    (s.bit F.SENS_CHK_CFG_EN m || (s.chkSt m).seen || (s.chkSt m).now == some true || (s.chkSt m).late == some true)

/-- A result of entry `j` of sequencer `n` passes its check before it reaches its point: the state, and whether it is a
source fault (R252, R253). `reaches`: its point takes it. -/
def State.sensResult (s : State) (n j k hold : Nat) (c : Int) (compl reaches : Bool) : State × Bool :=
  (s.chksOf n j).foldl (fun (s, bad) m =>
    let en := s.bit F.SENS_CHK_CFG_EN m
    let s := if en then s.chkEvaluate m n j k hold c compl else s
    let f := en && s.bit F.SENS_CHK_STAT_VERDICT m
    let s := if !reaches then s else s.chkMod m fun x =>
      if s.inputClosed then { x with late := some f } else { x with now := some f }
    (s, bad || f)) (s, false)

/-- The results of the span in progress are dropped: no tick makes them visible. -/
def State.sensDrop (s : State) : State :=
  s.each (Sparse.keys s.sens.chk) fun s m => s.chkMod m fun c => { c with now := none, late := none }

/-- The points lose what they showed (R470): no result is seen, and none waits for a tick (R254). -/
def State.sensForget (s : State) : State :=
  s.each (Sparse.keys s.sens.chk) fun s m => s.chkMod m fun c =>
    { c with now := none, late := none, seen := false, seen1 := false, seen2 := false }

/-- A FAULT verdict has lasted one span more (R257). -/
def State.sensSpans (s : State) : State :=
  s.each ((List.range 128).filter fun m => s.bit F.SENS_CHK_STAT_VERDICT m) fun s m =>
    s.chkMod m fun c => { c with spans := c.spans + 1 }

/-- The verdicts a tick makes visible (R254): what was seen moves on, results held back at input-close become the new
span's. -/
def State.sensTick (s : State) : State :=
  s.each (Sparse.keys s.sens.chk) fun s m => s.chkMod m fun c =>
    { c with seen2 := c.seen1, seen1 := c.seen, seen := c.now.getD c.seen, now := c.late, late := none }

/-- Check `m` guards its HOT_PT at the tick whose verdicts `sensTick` just made visible: from tick A to B + 1 (R254). -/
def State.hotGuards (s : State) (m : Nat) : Bool :=
  s.bit F.SENS_CHK_HOT_EN m && ((s.chkSt m).seen || (s.chkSt m).seen1 || (s.chkSt m).seen2)

/-- The points guarded at this tick (R254). -/
def State.hotPoints (s : State) : List Nat :=
  ((Sparse.keys s.sens.chk).filter s.hotGuards).map fun m => s.rd F.SENS_CHK_HOT_POINT m

/-- A descriptor that makes a point fail-hot (R255). -/
def isFailHot (d : Desc) : Bool := d.fmt == 0 && (d.failPol == 1 || d.failPol == 2) && (fEq d.failValue d.hi).1

/-- Check `m` tests point `p` at a tick at which it applies a source fault to it (R256). -/
def State.hotTest (s : State) (m p : Nat) : State :=
  if isFailHot (s.desc p) || (s.chkSt m).hotDone then s
  else ((s.wrB F.SENS_CHK_STAT_HOTCFG true m).raise 0x403 m [m, p]).chkMod m fun c => { c with hotDone := true }

/-- The tests of R256 at a tick, with the descriptors in force from it; `faulted` lists the checks whose last result of the
span before was faulted. -/
def State.hotTests (s : State) (faulted : List Nat) : State :=
  s.each ((Sparse.keys s.sens.chk).filter fun m => s.bit F.SENS_CHK_CFG_HOT m) fun s m =>
    if s.bit F.SENS_CHK_HOT_EN m then (if s.hotGuards m then s.hotTest m (s.rd F.SENS_CHK_HOT_POINT m) else s)
    else if faulted.contains m then
      s.hotTest m (s.rd F.CONV_SEQ_ENT_B (s.rd F.SENS_CHK_CFG_SEQ m) (s.rd F.SENS_CHK_CFG_ENTRY m))
    else s

/-- SENS_CHK_ENABLE (R250). -/
def execSensChkEnable (m : Fin 128) (s : State) : Out := s.reach [.conv] fun s => s.chkEnable m

end Sys2Proof.Machine
end

