-- ==== Sys2Proof/Machine/Conv.lean ====
section
/-! DEFINITION. The converter array (07_converter_array.md). -/

namespace Sys2Proof.Machine

/-! ### Results (R213, R228, R235, R238) -/

/-- The nearest integer to n / d; which of two equally near ones the specification does not state. -/
def nearFree (n : Int) (d : Nat) : Int :=
  let q := n / d
  let r := n % d
  if 2 * r < d then q else if (d : Int) < 2 * r then q + 1 else q + (Config.roundUp n.natAbs d).toNat

/-- A code held to the 18-bit range of its kind (R213). -/
def clampCode (diff : Bool) (z : Int) : Int :=
  if diff then max (-131072) (min 131071 z) else max 0 (min 262143 z)

/-- The end code of an over-range conversion, in the direction of its uncorrected code (R235). -/
def overCode (diff : Bool) (raw : Int) : Int :=
  if diff then (if 0 ≤ raw then 131071 else -131072) else (if 131072 ≤ raw then 262143 else 0)

/-- The correction of slice `x` at gain code `g` (R238). -/
def State.correct (s : State) (x g : Nat) (diff : Bool) (raw : Int) : Int :=
  clampCode diff (nearFree ((raw * 256 - s.rdS F.CONV_COEF_OFS x g) * s.rd F.CONV_COEF_GAIN x g) (2 ^ 38))

/-- The mean in right-aligned form: (sum + 2^(k−1)) >> k (R228). -/
def rightMean (sum : Int) (k : Nat) : Int := if k = 0 then sum else (sum + 2 ^ (k - 1)) / 2 ^ k

/-- The 32-bit VALUE of a result in format `fmt` (R228). -/
def resultValue (fmt : Nat) (sum : Int) (k : Nat) : Nat :=
  if fmt % 2 = 0 then unsigned 32 (rightMean sum k) else unsigned 32 (sum * 2 ^ (14 - k))

/-! ### Who serves a group (R211, R244) -/

/-- The group slice `x` serves: SS the group of SS_GROUP, another slice its own unless SS stands in for it. -/
def State.groupServed (s : State) (x : Nat) : Option Nat :=
  let ss := s.rd F.CONV_CAL_STAT_SS_GROUP
  if x = 16 then (if ss < 16 then some ss else none) else if ss = x then none else some x

/-- Slice `x` converts: an aborted entry too, up to its conversion boundary (R226). -/
def State.sliceBusy (s : State) (x : Nat) : Bool := (Sparse.find? s.conv.jobs x).isSome

/-- An entry converts on group `g`, an aborted one included. -/
def State.groupBusy (s : State) (g : Nat) : Bool := s.conv.jobs.any fun kv => kv.2.group == g

/-- What happens at an entry boundary of group `g`: its excitation level changes (R248), and the cross-switch moves after
a retirement (R211); SS then serves the group of the retired slice for good (R244). -/
def State.boundary (s : State) (g : Nat) : State :=
  let s := s.iexApply g
  match s.conv.ssNext with
  | none => s
  | some t =>
    if s.groupBusy (s.rd F.CONV_CAL_STAT_SS_GROUP) || s.groupBusy t then s
    else ({ s with conv := { s.conv with ssNext := none } }.wr F.CONV_CAL_STAT_SS_GROUP t).wrB F.CONV_CAL_STAT_PERM (decide (t < 16))

/-! ### Rings (R229 to R232) -/

/-- Sequencer `n` has a ring: some entry has DEST RING or BOTH. -/
def State.hasRing (s : State) (n : Nat) : Bool :=
  (List.range (s.rd F.CONV_SEQ_CTL_ENTRIES n)).any fun j => s.rd F.CONV_SEQ_ENT_A_DEST n j != 1

/-- First address of the ring of `n`, and its bytes. -/
def State.ringRange (s : State) (n : Nat) : Nat × Nat :=
  (s.rd F.CONV_SEQ_RING_BASE n * 8, 8 * 2 ^ s.rd F.CONV_SEQ_RING_CFG_SIZE n)

/-- A record goes to the ring of `n`, or the ring is full (R231, R232). -/
def State.ringPut (s : State) (n : Nat) (r : ConvResult) : State :=
  let (base, bytes) := s.ringRange n
  let size := bytes / 8
  let w := s.rd F.CONV_SEQ_RING_WR n % size
  let d := s.rd F.CONV_SEQ_RING_RD n % size
  let full := (w + 1) % size = d
  let s :=
    if full then
      let s := s.incSat F.CONV_SEQ_RING_LOSS n
      if s.conv.lossSeen.contains n then s
      else { s with conv := { s.conv with lossSeen := n :: s.conv.lossSeen } }.raise 0x305 n
        [n, s.rd F.CONV_SEQ_RING_LOSS n]
    else s
  if full ∧ ¬ s.bit F.CONV_SEQ_RING_CFG_POL n then s
  else
    let s := if full then s.wr F.CONV_SEQ_RING_RD ((d + 1) % size) n else s
    let s := if s.domOn .deck then
        s.setDBytes (base + 8 * w) (toBytes r.value 4 ++ toBytes r.channel 1 ++ toBytes r.flags 1 ++ toBytes r.offset 2)
      else s
    s.wr F.CONV_SEQ_RING_WR ((w + 1) % size) n

/-! ### Runs (R217 to R227) -/

/-- Set the run of `n`. -/
def State.setRun (s : State) (n : Nat) (r : SeqRun) : State :=
  { s with conv := { s.conv with runs := Sparse.put s.conv.runs n r } }

/-- A run of `n` starts at CK_CONV cycle `t` from reset (R220, R231). -/
def State.runStart (s : State) (n t : Nat) : State :=
  let s := ((s.wr F.CONV_SEQ_STAT_STATE 2 n).wrB F.CONV_SEQ_STAT_PENDING false n).setRun n {}
  if s.hasRing n then
    let st := s.stampAt t
    s.ringPut n { value := st.1 % 2 ^ 32, channel := 0xFF, flags := 0, offset := st.2 }
  else s

/-- What triggers a sequencer (R219): a START, or the source of SEQn_TRIG.SRC with the same code. -/
inductive TrigSrc where
  | start | tick | phase | zc | gpio | seq
  deriving DecidableEq, Repr

/-- The SRC code of a trigger, 0 for START. -/
def TrigSrc.code : TrigSrc → Nat
  | .start => 0 | .tick => 1 | .phase => 2 | .zc => 3 | .gpio => 4 | .seq => 5

/-- CK_CONV cycles from a trigger to its sequencer (R219); a GPIO edge takes at most 200 ns, here none. -/
def TrigSrc.latency : TrigSrc → Nat
  | .start | .zc => 2
  | .seq => 1
  | .tick | .phase | .gpio => 0

/-- A trigger reached sequencer `n` in CK_CONV cycle `t` before: the two count as one (R220). Before ticks no time passes that
could tell cycles apart: log entry 173. -/
def State.sameCycle (s : State) (n t : Nat) : Bool := s.running && Sparse.find? s.conv.trigAt n == some t

/-- The CK_CONV cycle from reset in which a trigger given now reaches its sequencer (R219); a bearing tick lies where the bearing
die's span begins (R55). -/
def State.trigCycle (s : State) (k : TrigSrc) : Nat := (if k = .tick then s.bearStart else s.convAbs) + k.latency

/-- A trigger reaches sequencer `n` (R220, R224). -/
def State.trigger (s : State) (k : TrigSrc) (n : Nat) : State :=
  let t := s.trigCycle k
  let st := s.rd F.CONV_SEQ_STAT_STATE n
  let one := s.sameCycle n t
  let s := if st = 0 then s else { s with conv := { s.conv with trigAt := Sparse.put s.conv.trigAt n t } }
  if one then s
  else if st = 1 then s.runStart n t
  else if st ≠ 2 then s
  else if !s.bit F.CONV_SEQ_STAT_PENDING n then s.wrB F.CONV_SEQ_STAT_PENDING true n
  else
    let s := s.incSat F.CONV_SEQ_OVR n
    if s.conv.dropSeen.contains n then s
    else { s with conv := { s.conv with dropSeen := n :: s.conv.dropSeen } }.raise 0x300 n [n, s.rd F.CONV_SEQ_OVR n]

/-- Trigger every sequencer that `p` selects. -/
def State.triggerAll (s : State) (k : TrigSrc) (p : Nat → Bool) : State :=
  s.each ((List.range 32).filter p) fun s n => s.trigger k n

/-- The span in progress is a DIV-th span of sequencer `n` (R219). -/
def State.divSpan (s : State) (n : Nat) : Bool := s.frame % (s.rd F.CONV_SEQ_TRIG_DIV_M1 n + 1) == 0

/-- The TICK triggers at a bearing tick (R219). -/
def State.tickTriggers (s : State) : State :=
  s.triggerAll .tick fun n => s.rd F.CONV_SEQ_TRIG_SRC n == 1 && s.divSpan n

/-- EDGE of sequencer `n` takes an edge of this direction (R219). -/
def State.edgeOk (s : State) (n : Nat) (rising : Bool) : Bool :=
  let e := s.rd F.CONV_SEQ_TRIG_EDGE n
  e == 3 || e == (if rising then 1 else 2)

/-- The ZC triggers (R219). -/
def State.zcTriggers (s : State) (line : Nat) (rising : Bool) : State :=
  s.triggerAll .zc fun n =>
    s.rd F.CONV_SEQ_TRIG_SRC n == 3 && s.rd F.CONV_SEQ_TRIG_DIV_M1 n == line && s.edgeOk n rising

/-- The GPIO triggers (R219). -/
def State.gpioTriggers (s : State) (g : Nat) (rising : Bool) : State :=
  s.triggerAll .gpio fun n =>
    s.rd F.CONV_SEQ_TRIG_SRC n == 4 && s.rd F.CONV_SEQ_TRIG_DIV_M1 n == g && s.edgeOk n rising

/-- The commit point of a run of `n` (R225): a pending run follows one cycle later, and chained sequencers are triggered
(R219, R224). A chain from `n` to itself finds the pending run started, and becomes pending. -/
def State.runCommit (s : State) (n : Nat) : State :=
  let s := (s.wr F.CONV_SEQ_STAT_OUTCOME 1 n).wr F.CONV_SEQ_STAT_DONE_COUNT (s.rd F.CONV_SEQ_CTL_ENTRIES n) n
  let s := s.wr F.CONV_SEQ_RUNS (s.rd F.CONV_SEQ_RUNS n + 1) n
  let s := { s with conv := { s.conv with runs := Sparse.del s.conv.runs n } }
  let again := s.bit F.CONV_SEQ_STAT_PENDING n
  let s := if again then s else s.wr F.CONV_SEQ_STAT_STATE 1 n
  let chained (m : Nat) : Bool := s.rd F.CONV_SEQ_TRIG_SRC m == 5 && s.rd F.CONV_SEQ_TRIG_DIV_M1 m == n
  let s' := s.triggerAll .seq fun m => chained m && !(m == n && again)
  if again && chained n then { s' with conv := { s'.conv with selfTrig := n :: s'.conv.selfTrig } } else s'

/-- Results the ring of `n` takes now: in entry order, each once every earlier entry has completed; with `all`, every
completed one (R231). -/
def State.ringFlush (s : State) (n : Nat) (all : Bool) : Nat → State
  | 0 => s
  | k + 1 =>
    match Sparse.find? s.conv.runs n with
    | none => s
    | some r =>
      match (if all then (Sparse.keys r.waiting).head? else some r.ringNext).bind fun j =>
          (Sparse.find? r.waiting j).map (j, ·) with
      | none => s
      | some (j, x) =>
        let s := s.setRun n { r with ringNext := j + 1, waiting := Sparse.del r.waiting j }
        let s := if s.rd F.CONV_SEQ_ENT_A_DEST n j = 1 then s else s.ringPut n x
        s.ringFlush n all k

/-- The result of entry `j` of sequencer `n` leaves for its destinations (R225, R231). -/
def State.deliver (s : State) (n j : Nat) (x : ConvResult) : State :=
  match Sparse.find? s.conv.runs n with
  | none => s
  | some r =>
    let s := s.setRun n { r with delivered := r.delivered + 1, waiting := Sparse.put r.waiting j x }
    let s := s.ringFlush n false 64
    if r.delivered + 1 = s.rd F.CONV_SEQ_CTL_ENTRIES n then s.runCommit n else s

/-- A run of `n` stops before its commit point (R226). Results in the sequencer leave for the ring; a conversion in progress
goes on to its boundary, where its group is free. -/
def State.runAbort (s : State) (n : Nat) : State :=
  match Sparse.find? s.conv.runs n with
  | none => s
  | some r =>
    let s := s.ringFlush n true 64
    let s := { s with conv := { s.conv with
      runs := Sparse.del s.conv.runs n
      jobs := s.conv.jobs.map fun (kv : Nat × ConvJob) => if kv.2.seq = n then (kv.1, { kv.2 with dropped := true }) else kv } }
    let s := ((s.wr F.CONV_SEQ_STAT_OUTCOME 2 n).wr F.CONV_SEQ_STAT_DONE_COUNT r.delivered n).wrB
      F.CONV_SEQ_STAT_PENDING false n
    (s.wr F.CONV_SEQ_STAT_STATE 1 n).raise 0x301 n [n, r.delivered]

/-- ABORT in SEQn_CMD (R226). -/
def State.seqAbort (s : State) (n : Nat) : State :=
  if (Sparse.find? s.conv.runs n).isSome then s.runAbort n else s.wrB F.CONV_SEQ_STAT_ABORT_LATE true n

/-- The ring of `n` breaks R217: outside the ring region, not aligned to its size, or over another enabled ring. -/
def State.ringBad (s : State) (n : Nat) : Bool :=
  let (a, len) := s.ringRange n
  s.hasRing n &&
    (a < 0x00A00000 || 0x00B00000 < a + len || a % len != 0 ||
      (List.range 32).any fun m =>
        let (b, l) := s.ringRange m
        m != n && s.bit F.CONV_SEQ_CTL_EN m && s.hasRing m && a < b + l && b < a + len)

/-- Why sequencer `n` cannot be enabled: the REASON of R217, 0 for none. -/
def State.seqRefusal (s : State) (n : Nat) : Nat :=
  let bad (j : Nat) : Bool :=
    let f := s.rd F.CONV_SEQ_ENT_A_FMT n j
    if s.bit F.CONV_SEQ_ENT_A_DIFF n j then s.rd F.CONV_SEQ_ENT_A_CHANNEL n j % 2 != 0 || f < 2 else 2 ≤ f
  if !s.bit F.CONV_REF_CTL then 1
  else if (List.range (s.rd F.CONV_SEQ_CTL_ENTRIES n)).any bad then 2
  else if s.ringBad n then 3
  else 0

/-- Setting SEQn_CTL.EN (R217). -/
def State.seqEnable (s : State) (n : Nat) : State :=
  if s.bit F.CONV_SEQ_CTL_EN n then s
  else
    let r := s.seqRefusal n
    let s := s.wr F.CONV_SEQ_STAT_REASON r n
    if r ≠ 0 then s
    else
      let s := ((s.wrB F.CONV_SEQ_CTL_EN true n).wr F.CONV_SEQ_STAT_STATE 1 n)
      (s.wr F.CONV_SEQ_RING_WR 0 n).wr F.CONV_SEQ_RING_RD 0 n

/-- Clearing SEQn_CTL.EN (R227). -/
def State.seqDisable (s : State) (n : Nat) : State :=
  let s := (s.runAbort n).wrB F.CONV_SEQ_CTL_EN false n
  let s := (s.wr F.CONV_SEQ_STAT_STATE 0 n).wrB F.CONV_SEQ_STAT_PENDING false n
  { s with conv := { s.conv with selfTrig := s.conv.selfTrig.filter (· ≠ n), trigAt := Sparse.del s.conv.trigAt n } }

/-! ### Entries (R221 to R223, R228 to R236) -/

/-- The sequencer whose waiting entry slice serving group `g` grants: the highest PRIO, then the lowest number (R223). -/
def State.granted (s : State) (g : Nat) : Option (Nat × Nat) :=
  let waits := (s.conv.runs.filter fun kv =>
    kv.2.started < s.rd F.CONV_SEQ_CTL_ENTRIES kv.1 &&
      s.rd F.CONV_SEQ_ENT_A_CHANNEL kv.1 kv.2.started / 12 == g).map fun kv => (kv.1, kv.2.started)
  let best (p : Nat) : Option (Nat × Nat) := waits.find? fun w => s.rd F.CONV_SEQ_CTL_PRIO w.1 == p
  (best 3).or ((best 2).or ((best 1).or (best 0)))

/-- A conversion held at absolute CK_CONV time `hold` precedes REF_READY (R214). -/
def State.beforeReady (s : State) (hold : Nat) : Bool :=
  !s.bit F.CONV_REF_STAT && (!s.bit F.CONV_REF_CTL || hold < s.conv.refAt + 384000)

/-- Slice `x` grants an entry at CK_CONV cycle `t` of the span (R221, R222). A retired slice whose group SS has yet to take
grants none. -/
def State.entryStart (s : State) (x t : Nat) : State :=
  match s.groupServed x with
  | none => s
  | some g =>
    if s.groupBusy g || s.sliceBusy x || (s.isRetired 2 x && s.conv.ssNext == some x) then s
    else match s.granted g with
      | none => s
      | some (n, j) =>
        let unserved := decide (x < 16) && s.isRetired 2 x
        let h := t + 24 + (if unserved then 0 else 8 * s.rd F.CONV_SEQ_ENT_A_SETTLE n j)
        let abs := s.bearStart + h
        let job : ConvJob :=
          { seq := n, entry := j, dropped := false, group := g, spare := x == 16, unserved := unserved, hold := abs
            refnr := s.beforeReady abs, calsw := !s.bit F.CONV_CAL_STAT_FIRST_DONE }
        let s := { s with conv := { s.conv with jobs := Sparse.put s.conv.jobs x job } }
        match Sparse.find? s.conv.runs n with
        | some r => s.setRun n { r with started := j + 1 }
        | none => s

/-- Walk the conversions of an entry on a group (R236): the group's last over-range conversion, and whether any carries
RECOV. `hold` is the hold time of the first of `cs`. -/
def recovery : Option (Nat × Nat) → Nat → List Conv → Option (Nat × Nat) × Bool
  | last, _, [] => (last, false)
  | last, hold, c :: cs =>
    if c.ovr then recovery (some (hold, 0)) (hold + 64) cs
    else match last with
      | none => recovery none (hold + 64) cs
      | some (h, k) =>
        let r := recovery (some (h, k + 1)) (hold + 64) cs
        (r.1, r.2 || (k < 2 && hold ≤ h + 153))

/-- An OVR result of entry `j` of sequencer `n` is counted and recorded (R235). -/
def State.overRange (s : State) (g n j : Nat) (code : Int) : State :=
  let s := (s.incSat F.CONV_OVR_COUNT).setMap F.CONV_GRP_OVR g
  if s.conv.ovrSeen.contains (n, j) then s
  else { s with conv := { s.conv with ovrSeen := (n, j) :: s.conv.ovrSeen } }.raise 0x302 n
    [n, j, s.rd F.CONV_SEQ_ENT_A_CHANNEL n j, unsigned 18 code]

/-- The result of an entry that completed with conversions `cs`: its code sum and the AVG it is placed with, OVR, and
RECOV (R228, R235, R236, R244). -/
def State.entryResult (s : State) (j : ConvJob) (cs : List Conv) (recov : Bool) : Int × Nat × Bool × Bool :=
  let diff := s.bit F.CONV_SEQ_ENT_A_DIFF j.seq j.entry
  if j.unserved then ((if diff then -131072 else 0), 0, true, false)
  else match cs.find? (·.ovr) with
    | some c => (overCode diff c.code, 0, true, recov)
    | none =>
      let g := s.rd F.CONV_SEQ_ENT_A_GAIN j.seq j.entry
      let x := if j.spare then 16 else j.group
      ((cs.map fun c => s.correct x g diff c.code).sum, s.rd F.CONV_SEQ_ENT_A_AVG j.seq j.entry, false, recov)

/-- An entry whose first hold is at CK_CONV cycle `hold` and that made `count` conversions completed at or after the
input-close of the span that holds that hold (R230). -/
def State.entryLate (s : State) (hold count : Nat) : Bool :=
  match s.bearAt hold with
  | some b => decide (b.start + convCycles b.sel ≤ hold + 64 * count - 24 + 1280)
  | none => false

/-- An entry completes: its result is formed, checked, written to its point and delivered (R222, R228 to R236, R252). -/
def State.entryFinish (s : State) (b : ConvJob) (cs : List Conv) (recov : Bool) : State :=
  let (n, j) := (b.seq, b.entry)
  let (sum, k, ovr, recov) := s.entryResult b cs recov
  let fmt := s.rd F.CONV_SEQ_ENT_A_FMT n j
  let count := if b.unserved then 1 else 2 ^ s.rd F.CONV_SEQ_ENT_A_AVG n j
  let late := s.entryLate b.hold count
  let st := s.stampAt b.hold
  let value := resultValue fmt sum k
  let flags := ovr.toNat + 2 * recov.toNat + 4 * b.refnr.toNat + 8 * late.toNat + 16 * b.calsw.toNat
    + 32 * b.spare.toNat
  let x : ConvResult := { value := value, channel := s.rd F.CONV_SEQ_ENT_A_CHANNEL n j, flags := flags
                          offset := st.2 }
  let s := if ovr then s.overRange b.group n j sum else s
  let toPoint := 1 ≤ s.rd F.CONV_SEQ_ENT_A_DEST n j
  let compl := cs.any (·.compl)
  let reaches := toPoint && s.hwReaches (s.rd F.CONV_SEQ_ENT_B n j) 2 (n * 256 + j)
  let (s, bad) := s.sensResult n j b.group b.hold (rightMean sum k) compl reaches
  let fault := ovr || (recov && s.bit F.CONV_SEQ_ENT_A_RFAULT n j) || bad
  let s := if toPoint then
      s.hwRaw (s.rd F.CONV_SEQ_ENT_B n j) 2 (n * 256 + j) (if 2 ≤ fmt then signed 32 value else value) fault
        (b.refnr || b.calsw) st
    else s
  s.deliver n j x

/-- Slice `x` completes its entry with conversions `cs`, one for each hold (R222). -/
def State.entryComplete (s : State) (x : Nat) (cs : List Conv) : State :=
  match Sparse.find? s.conv.jobs x with
  | none => s
  | some b =>
    if !b.dropped && !b.unserved && cs.length ≠ 2 ^ s.rd F.CONV_SEQ_ENT_A_AVG b.seq b.entry then s
    else
      let (last, recov) := recovery (Sparse.find? s.conv.lastOvr b.group) b.hold (if b.unserved then [] else cs)
      let s := { s with conv := { s.conv with
        jobs := Sparse.del s.conv.jobs x
        lastOvr := match last with
          | some h => Sparse.put s.conv.lastOvr b.group h
          | none => s.conv.lastOvr } }
      let s := if b.unserved then s else s.iexSample b.group (cs.map (·.compl))
      (if b.dropped then s else s.entryFinish b cs recov).boundary b.group

/-! ### Calibration (R239 to R244) -/

/-- The slice after `k` in the rotation: SS (16), S0 to S15, SS again (R240). -/
def nextSlice (k : Nat) : Nat := if k = 15 then 16 else if k = 16 then 0 else k + 1

/-- The rotation may begin the slot of slice `k` (R240, R241, R243, R244). -/
def State.slotReady (s : State) (k : Nat) : Bool :=
  s.bit F.CONV_CAL_CTL_ROT_EN && s.bit F.CONV_REF_STAT && !s.conv.inSlot && !s.bit F.CONV_CAL_STAT_PAUSED &&
    !s.bit F.CONV_CAL_STAT_PERM && !s.isRetired 2 16 && s.conv.ssNext.isNone &&
    (k == 16 || (!s.groupBusy k && !s.sliceBusy 16))

/-- The slot of the slice SLOT names begins (R240). -/
def State.slotStart (s : State) : State :=
  let k := s.rd F.CONV_CAL_STAT_SLOT
  if !s.slotReady k then s
  else
    let s := { s with conv := { s.conv with
      inSlot := true, formed := none, rotStart := if k = 16 then s.nowUs else s.conv.rotStart } }
    if k = 16 then s else s.wr F.CONV_CAL_STAT_SS_GROUP k

/-- New coefficients of slice `k` at gain code `g` are out of bounds (R243). -/
def State.coefBad (s : State) (k g : Nat) (c : Word × Word) : Bool :=
  let f : Nat := s.rd F.CONV_FACT_GAIN k g
  16384 < (c.1.toInt - s.rdS F.CONV_FACT_OFS k g).natAbs || f < ((c.2.toNat : Int) - f).natAbs * 2000

/-- The slot ends: its slice returns with its new coefficients, SS is released, and the rotation goes on (R240, R242). -/
def State.slotEnd (s : State) : State :=
  let k := s.rd F.CONV_CAL_STAT_SLOT
  match s.conv.formed with
  | none => s
  | some cs =>
    if !s.conv.inSlot || (k != 16 && s.groupBusy k) then s
    else
      let s := s.each cs.zipIdx fun s c => (s.wr F.CONV_COEF_OFS c.1.1.toNat k c.2).wr F.CONV_COEF_GAIN c.1.2.toNat k c.2
      let s := (s.wr F.CONV_CAL_STAT_SS_GROUP 0xFF).wr F.CONV_CAL_STAT_SLOT (nextSlice k)
      let s := { s with
        conv := { s.conv with inSlot := false, formed := none
                              rotations := if k = 15 then s.conv.rotations + 1 else s.conv.rotations }
        health := { s.health with visited := Sparse.put s.health.visited k s.conv.rotations } }
      if k ≠ 15 then s
      else
        let s := s.incSat F.CONV_CAL_STAT_ROTATIONS
        if s.bit F.CONV_CAL_STAT_FIRST_DONE then s
        else (s.wrB F.CONV_CAL_STAT_FIRST_DONE true).event 0x303 [(s.nowUs - s.conv.rotStart) / 1000]

/-- The test of slice `k` gave a TRANSIENT verdict: the rotation repeats its slot (R243). -/
def State.sliceCleared (s : State) (k : Nat) : State :=
  if s.bit F.CONV_CAL_STAT_PAUSED && s.rd F.CONV_CAL_STAT_SLOT == k then s.wrB F.CONV_CAL_STAT_PAUSED false else s

/-- Slice `k` has been retired: SS serves its group for good if it is free to, and the rotation stops (R244). -/
def State.sliceRetired (s : State) (k : Nat) : State :=
  let s := { s with conv := { s.conv with inSlot := false, formed := none } }.wrB F.CONV_CAL_STAT_PAUSED false
  let s :=
    if k = 16 then { s with conv := { s.conv with ssNext := some 0xFF } }.wrB F.CONV_CAL_STAT_PERM false
    else if s.bit F.CONV_CAL_STAT_PERM || s.conv.ssNext.isSome || s.isRetired 2 16 then s
    else { s with conv := { s.conv with ssNext := some k } }
  if s.groupBusy k then s else s.boundary k

/-- A slice that a verdict retires (R457). -/
def State.retireSlice (s : State) (k source : Nat) : State :=
  ((s.setMap F.HEALTH_RET_SLICE k).event 0xC08 [2, k, source]).sliceRetired k

/-- A CAL_BOUNDS error of slice `k` is passed to HEALTH (R453); a LASTING verdict without a test retires the slice at once (R455,
R457). -/
def State.sliceError (s : State) (k : Nat) : State := (s.startTest 2 k).retireClass 2 State.retireSlice

/-- The check at T − 10 ms (R243). `cs` holds the new (offset, gain) at each of the six gains. -/
def State.slotCheck (s : State) (cs : List (Word × Word)) : State :=
  let k := s.rd F.CONV_CAL_STAT_SLOT
  if !s.conv.inSlot || s.conv.formed.isSome || cs.length ≠ 6 then s
  else match cs.zipIdx.find? fun c => s.coefBad k c.2 c.1 with
    | none => { s with conv := { s.conv with formed := some cs } }
    | some (c, g) =>
      let s := { s with conv := { s.conv with inSlot := false } }.wrB F.CONV_CAL_STAT_PAUSED true
      (s.raise 0x304 k [k, g, wInt (c.1.toInt - s.rdS F.CONV_FACT_OFS k g),
        wInt ((c.2.toNat : Int) - s.rd F.CONV_FACT_GAIN k g)]).sliceError k

/-! ### The reference (R214, R215) -/

/-- Setting CONV_REF_CTL.EN (R214). -/
def State.refEnable (s : State) : State :=
  if s.bit F.CONV_REF_CTL then s
  else { s.wrB F.CONV_REF_CTL true with conv := { s.conv with refAt := s.convAbs } }

/-- Clearing CONV_REF_CTL.EN (R215). -/
def State.refDisable (s : State) : State :=
  if (List.range 32).any fun n => s.bit F.CONV_SEQ_CTL_EN n then s
  else ((s.wrB F.CONV_REF_CTL false).wrB F.CONV_REF_STAT false).wr F.HEALTH_REF_DEV 0

/-! ### Commands -/

/-- REF_ENABLE (R214). -/
def execRefEnable (s : State) : Out := s.reach [.conv] State.refEnable

/-- REF_READY (R214). -/
def execRefReady (s : State) : Out :=
  s.act [.conv] fun s => if s.bit F.CONV_REF_CTL then s.wrB F.CONV_REF_STAT true else s

/-- REF_DISABLE (R215). -/
def execRefDisable (s : State) : Out := s.reach [.conv] State.refDisable

/-- SEQ_ENABLE (R217). -/
def execSeqEnable (n : Fin 32) (s : State) : Out := s.reach [.conv] fun s => s.seqEnable n

/-- SEQ_DISABLE (R227). -/
def execSeqDisable (n : Fin 32) (s : State) : Out := s.reach [.conv] fun s => s.seqDisable n

/-- SEQ_START (R219). -/
def execSeqStart (n : Fin 32) (s : State) : Out := s.reach [.conv] fun s => s.trigger .start n

/-- SEQ_ABORT (R226). -/
def execSeqAbort (n : Fin 32) (s : State) : Out := s.reach [.conv] fun s => s.seqAbort n

/-- PHASE_TRIGGER (R219): PHASE × span / 65,536 after the bearing tick (R55) of a DIV-th span. -/
def execPhaseTrigger (n : Fin 32) (s : State) : Out :=
  s.act [.conv] fun s =>
    let p := s.bearPhase (s.rd F.CONV_SEQ_TRIG_PHASE n * convCycles s.sel / 65536)
    if s.running && s.rd F.CONV_SEQ_TRIG_SRC n == 2 && s.divSpan n && s.span.phase ≤ p && p < s.spanCyc then
      (s.toPhase p).trigger .phase n
    else s

/-- ENTRY_START (R221, R222, R223). -/
def execEntryStart (slice : Fin 17) (t : Nat) (s : State) : Out := s.act [.conv] fun s => s.entryStart slice t

/-- ENTRY_COMPLETE (R222, R228 to R236). -/
def execEntryComplete (slice : Fin 17) (convs : List Conv) (s : State) : Out :=
  s.act [.conv] fun s => s.entryComplete slice convs

/-- PENDING_RUN_START (R224): the run a DONE commit left pending starts. -/
def execPendingRunStart (n : Fin 32) (s : State) : Out :=
  s.act [.conv] fun s =>
    if s.rd F.CONV_SEQ_STAT_STATE n = 2 ∧ (Sparse.find? s.conv.runs n).isNone then
      let s' := s.runStart n (s.convAbs + 1)
      if s.conv.selfTrig.contains n then
        { s' with conv := { s'.conv with selfTrig := s'.conv.selfTrig.filter (· ≠ n.val) } }.trigger .seq n
      else s'
    else s

/-- CAL_SLOT_START (R240). -/
def execCalSlotStart (s : State) : Out := s.act [.conv] State.slotStart

/-- CAL_COEFF_CHECK (R243). -/
def execCalCoeffCheck (coefs : List (Word × Word)) (s : State) : Out := s.act [.conv] fun s => s.slotCheck coefs

/-- CAL_SLOT_END (R240, R242). -/
def execCalSlotEnd (s : State) : Out := s.act [.conv] State.slotEnd

/-- ROT_EN_WRITE (R241): the rotation ends with the slot in progress, or goes on with the next slice. -/
def execRotEnWrite (b : Bool) (s : State) : Out := s.reach [.conv] fun s => s.wrB F.CONV_CAL_CTL_ROT_EN b

end Sys2Proof.Machine
end

