-- ==== Sys2Proof/Machine/Deck.lean ====
section
/-! DEFINITION. Direct accesses to the deck: the rules of its regions (R65, R179, R424), its rows and their ECC (R17, R21,
R453, R454), and DECK_ACCESS. -/

namespace Sys2Proof

/-- A record from its four words (R66); FORMAT and OWNER_CLASS are the descriptor's. -/
def PtRec.ofWords (w : Nat → Nat) : PtRec where
  value := BitVec.ofNat 32 (w 0)
  qual := Quality.ofCode (w 1 % 8)
  sat := (w 1).testBit 3
  cal := (w 1).testBit 4
  held := (w 1).testBit 5
  restored := (w 1).testBit 6
  chg := (w 1).testBit 7
  origin := w 1 / 2 ^ 16 % 2 ^ 16
  frame := w 2 % 2 ^ 32 + 2 ^ 32 * (w 3 % 2 ^ 16)
  offset := w 3 / 2 ^ 16 % 2 ^ 16

end Sys2Proof

namespace Sys2Proof.Machine

/-- The row of a deck address, as a unit of class DECK_ROW (R454). -/
def rowOf (a : Nat) : Nat := a / 32 % 16 * 2048 + a / 2 ^ 14 % 2048

/-- A range lies in the deck (R22). -/
def inDeck (a len : Nat) : Bool := a + len ≤ deckEnd

/-- Initiator `i` may read `len` bytes from `a` (R65). -/
def State.deckReadOk (s : State) (i : Initiator) (a len : Nat) : Bool :=
  inDeck a len && s.domOn .deck &&
    (!touches a len 0x00200000 0x00400000 || i == .pointEngine || i == .twin || i == .dbg)

/-- A store to the loop area covers no word that instructions write, nor a staged set that is locked (R172, R179). -/
def State.loopStoreOk (s : State) (a len : Nat) : Bool :=
  ((List.range ((len + 3) / 4 + 1)).map fun k => a / 4 + k).all fun w =>
    let a' := 4 * w
    if !(touches a len a' (a' + 4) && 0x00800000 ≤ a' && a' < 0x00A00000) then true
    else
      let k := w % 32
      if k = 1 ∨ k = 10 ∨ (12 ≤ k ∧ k < 24) then false
      else k < 24 || !(s.dWord (a' - 4 * k + 4)).testBit 7

/-- Initiator `i` may write `len` bytes from `a` (R65, R179, R424). -/
def State.deckWriteOk (s : State) (i : Initiator) (a len : Nat) : Bool :=
  inDeck a len && s.domOn .deck &&
    !touches a len 0 0x00200000 &&
    (!touches a len 0x00200000 0x00800000 || i == .pointEngine) &&
    (i == .twin || s.loopStoreOk a len) &&
    (!touches a len 0x00B00000 0x00F00000 || i == .evr)

/-- `len` bytes of the deck as a read shows them. -/
def State.deckBytes (s : State) (a len : Nat) : List Byte := (List.range len).map fun k => s.deckByte (a + k)

/-- The word at the aligned address `a` once `bs` are written from `base`. -/
def State.mergedWord (s : State) (base : Nat) (bs : List Byte) (a : Nat) : Nat :=
  leBytes (fun b => if base ≤ b && b < base + bs.length then bs.getD (b - base) 0 else s.deckByte b) a 4

/-- DESC_WRITE is refused: by DESC_LOCK, by a bank swap in progress at the point, or for an unlisted encoding (R70, R119). -/
def State.descRefused (s : State) (p : Nat) (d : Desc) : Bool :=
  s.bit F.DECK_CTL || (Sparse.find? s.pts.swapStaged p).isSome || !d.listed

/-- The point engine's own writes to next-plane records and descriptors; a descriptor passes the checks of DECK_DESC (R65). -/
def State.enginePut (s : State) (a : Nat) (bs : List Byte) : State :=
  let rows (size : Nat) := (List.range (bs.length / size + 2)).map fun k => (a / size + k) * size
  let live (size r : Nat) : Bool := touches a bs.length r (r + size)
  if a < 0x00400000 then
    s.each ((rows 16).filter (live 16)) fun s' r =>
      let w (k : Nat) := s.mergedWord a bs (r + 4 * k)
      { s' with pts := { s'.pts with next := Sparse.put s'.pts.next ((r - 0x00200000) / 16) (PtRec.ofWords w) } }
  else
    s.each ((rows 32).filter (live 32)) fun s' r =>
      let (p, d) := ((r - 0x00400000) / 32, Desc.ofWords fun k => s.mergedWord a bs (r + 4 * k))
      if s'.descRefused p d then s'.wrB F.DECK_DESC_STAT_REFUSED true else s'.stageDesc p d

/-- An accepted write takes effect: bytes stored, ECC errors of the quarters written gone (R453), loop lines and mirror
windows mirrored (R368). -/
def State.deckPut (s : State) (a : Nat) (bs : List Byte) : State :=
  if a < deckRamBase then (s.enginePut a bs).eccClear a bs.length
  else ((s.setDBytes a bs).eccClear a bs.length).mirrorRange a bs.length

/-- A range holds a poisoned ECC quarter (R453). -/
def State.poisonHit (s : State) (a len : Nat) : Bool :=
  s.health.poisoned.any fun q => touches a len (8 * q) (8 * q + 8)

/-- The errors in a range that no read has found yet. -/
def State.upsetsIn (s : State) (a len : Nat) : List (Nat × Bool) :=
  s.health.upsets.filter fun u => touches a len (8 * u.1) (8 * u.1 + 8)

/-- A quarter is known uncorrectable from now on (R453). -/
def State.poison (s : State) (q : Nat) : State :=
  if s.health.poisoned.contains q then s
  else { s with health := { s.health with poisoned := s.health.poisoned ++ [q] } }

/-- An error in the row of `a` is passed to HEALTH (R453); a LASTING verdict without a test retires the row at once (R455,
R457). -/
def State.rowError (s : State) (a : Nat) : State := (s.startTest 0 (rowOf a)).retireClass 0 State.retireRow

/-- An ECC error on reading `a`: its row is tested, and an uncorrectable quarter stays poisoned (R21, R453). -/
def State.eccError (s : State) (a : Nat) (ecc : Ecc) : State :=
  match ecc with
  | .ok => s
  | .corrected => s.rowError a
  | .uncorrectable => (s.rowError a).poison (a / 8)

/-- A read of a range finds the error of its first word that the command gives, and those the deck holds (R21): log entry
194. -/
def State.eccFound (s : State) (a len : Nat) (ecc : Ecc) : State :=
  let found := s.upsetsIn a len
  let s := s.eccError a ecc
  ({ s with health := { s.health with upsets := s.health.upsets.filter fun u => !found.contains u } }).each found
    fun s u => s.eccError (8 * u.1) (if u.2 then .uncorrectable else .corrected)

/-- A read that finds an uncorrectable error is a deck address fault (R21). -/
def State.eccBad (s : State) (a len : Nat) (ecc : Ecc) : Bool :=
  ecc == .uncorrectable || s.poisonHit a len || (s.upsetsIn a len).any (·.2)

/-- The deck holds no ECC error in a range. -/
def State.eccClean (s : State) (a len : Nat) : Bool := !s.poisonHit a len && (s.upsetsIn a len).isEmpty

/-- What an initiator's interface holds of its last completed access: R4's report, and every byte read (R89). -/
def State.answer (s : State) (i : Initiator) (a : Nat) (data : List Byte) (refused : Bool) : State :=
  { s with resp := Sparse.put s.resp (initCode i) ⟨a, data, refused⟩ }

/-- A deck read by a non-pier initiator: the bytes, or a refusal. -/
def State.deckRead (s : State) (i : Initiator) (a len : Nat) (ecc : Ecc := .ok) : Option (List Byte) × State :=
  if !s.deckReadOk i a len then (none, s)
  else (if s.eccBad a len ecc then none else some (s.deckBytes a len), s.eccFound a len ecc)

/-- The quarters a write covers in part, by their address: each is read before it is written (R17). -/
def partQuarters (a len : Nat) : List Nat :=
  let (lo, hi) := (a / 8 * 8, (a + len) / 8 * 8)
  (if a % 8 = 0 then [] else [lo]) ++ (if (a + len) % 8 = 0 ∨ (lo = hi ∧ a % 8 ≠ 0) then [] else [hi])

/-- The reads of a write that covers quarters in part (R17): whether one finds an uncorrectable error, and what they find. -/
def State.partRead (s : State) (a len : Nat) (ecc : Ecc) : Bool × State :=
  (partQuarters a len).foldl (fun (bs : Bool × State) q => (bs.1 || bs.2.eccBad q 8 ecc, bs.2.eccFound q 8 ecc)) (false, s)

/-- A deck write by a non-pier initiator: whether it was made. -/
def State.deckWrite (s : State) (i : Initiator) (a : Nat) (bs : List Byte) (ecc : Ecc := .ok) : Bool × State :=
  if !s.deckWriteOk i a bs.length then (false, s)
  else
    let (bad, s) := s.partRead a bs.length ecc
    if bad then (false, s) else (true, s.deckPut a bs)

/-- Initiators other than pier code. -/
def notPier : Initiator → Bool
  | .pier _ => false
  | _ => true

/-- An access to a plane, the descriptors or the loop area in the commit window waits for its end (R18, R65, R179). -/
def State.windowWait (s : State) (a len : Nat) : Bool := s.running && s.inWin .commit && touches a len 0 0x00A00000

/-- A bank serves a request of a non-pier initiator. -/
def State.busServe (s : State) (x : BusAccess) : State :=
  match x.req with
  | .read a len =>
    let (r, s) := s.deckRead x.initiator a.toNat len x.ecc
    s.answer x.initiator a.toNat (r.getD []) r.isNone
  | .write a bs =>
    let (ok, s) := s.deckWrite x.initiator a.toNat bs x.ecc
    s.answer x.initiator a.toNat [] !ok

/-- A request reaches a region that the commit window closes, and the point engine did not make it (R18). -/
def State.busWaits (s : State) (i : Initiator) (req : DeckReq) : Bool :=
  i != .pointEngine && match req with
  | .read a len => s.windowWait a.toNat len
  | .write a bs => s.windowWait a.toNat bs.length

/-- DECK_ACCESS (R18 to R20): a bank serves a request of a non-pier initiator, or the request waits for the commit window to
close. A pier's requests are its instructions. -/
def execDeckAccess (i : Initiator) (req : DeckReq) (ecc : Ecc) (s : State) : Out :=
  s.act [] fun s =>
    if !notPier i then s
    else if s.busWaits i req then { s with busHeld := s.busHeld ++ [⟨i, req, ecc⟩] }
    else s.busServe ⟨i, req, ecc⟩

end Sys2Proof.Machine
end

