-- ==== Sys2Proof/Machine/PierFlow.lean ====
section
/-! DEFINITION. The pier's branches, counted loops, local memory, time, events, CSRs, YIELD and TRAP
(05_pier_instruction_reference.md, R149 to R154, R163 to R168). -/

namespace Sys2Proof.Machine

/-! ### Branches and jumps (R149, R150) -/

/-- Core `c` runs background code. -/
def State.inBackground (s : State) (c : Nat) : Bool := ((s.core c).task.map (·.background)).getD false

/-- pc + 4 × off, with off14 unsigned in frame-partition code and signed in background code (R149). -/
def State.target (s : State) (c : CoreId) (off : BitVec 14) : Nat :=
  let o : Word := if s.inBackground c then off.signExtend 32 else off.zeroExtend 32
  (BitVec.ofNat 32 (s.core c).pc + 4 * o).toNat

/-- A conditional branch: one cycle more when taken (R149). -/
def State.branch (s : State) (i : Instr) (c : CoreId) (off : BitVec 14) (taken : Bool) : Out :=
  s.pierAct i taken.toNat fun s => if taken then .jump s (s.target c off) else .next s

/-- BEQ (R149). -/
def execBeq (c : CoreId) (ga gb : Gpr) (off : BitVec 14) (s : State) : Out :=
  s.branch (.beq c ga gb off) c off ((s.ra c ga) == (s.ra c gb))

/-- BNE (R149). -/
def execBne (c : CoreId) (ga gb : Gpr) (off : BitVec 14) (s : State) : Out :=
  s.branch (.bne c ga gb off) c off ((s.ra c ga) != (s.ra c gb))

/-- BLT (R149). -/
def execBlt (c : CoreId) (ga gb : Gpr) (off : BitVec 14) (s : State) : Out :=
  s.branch (.blt c ga gb off) c off ((s.ra c ga).slt (s.ra c gb))

/-- BGE (R149). -/
def execBge (c : CoreId) (ga gb : Gpr) (off : BitVec 14) (s : State) : Out :=
  s.branch (.bge c ga gb off) c off (!(s.ra c ga).slt (s.ra c gb))

/-- BLTU (R149). -/
def execBltu (c : CoreId) (ga gb : Gpr) (off : BitVec 14) (s : State) : Out :=
  s.branch (.bltu c ga gb off) c off ((s.ra c ga).ult (s.ra c gb))

/-- BGEU (R149). -/
def execBgeu (c : CoreId) (ga gb : Gpr) (off : BitVec 14) (s : State) : Out :=
  s.branch (.bgeu c ga gb off) c off (!(s.ra c ga).ult (s.ra c gb))

/-- The address after the instruction, as a link. -/
def State.link (s : State) (c : CoreId) : Word := BitVec.ofNat 32 ((s.core c).pc + 4)

/-- CALL (R150). -/
def execCall (c : CoreId) (gd : Gpr) (off : BitVec 14) (s : State) : Out :=
  s.pierAct (.call c gd off) 0 fun s => .jump (s.put c gd (s.link c)) (s.target c off)

/-- JMPR (R150): a target that is not word-aligned traps at the JMPR itself. -/
def execJmpr (c : CoreId) (gd ga : Gpr) (s : State) : Out :=
  s.pierAct (.jmpr c gd ga) 0 fun s =>
    let t := (s.ra c ga).toNat
    if t % 4 ≠ 0 then .trap 2 else .jump (s.put c gd (s.link c)) t

/-! ### Counted loops (R151, R152) -/

/-- LOOP (R151): the first level that is not active takes the loop; with four active it is an illegal instruction. -/
def execLoopA (c : CoreId) (count : BitVec 10) (body : BitVec 16) (s : State) : Out :=
  s.pierAct (.loopA c count body) 0 fun s =>
    let d := (List.range 4).countP fun k => s.levelOn c k
    if d = 4 then .trap 2
    else
      let s := s.setGpr c (56 + 2 * d) (BitVec.ofNat 32 (2 ^ 31 + (count - 1).toNat * 2 ^ 10))
      .next (s.setGpr c (57 + 2 * d) (BitVec.ofNat 32 (body.toNat * 2 ^ 16 + ((s.core c).pc + 4) / 4 % 2 ^ 15)))

/-! ### Local data memory (R154) -/

/-- LW (R154). -/
def execLw (c : CoreId) (gd ga : Gpr) (imm : BitVec 14) (ecc : Ecc) (s : State) : Out :=
  s.pierAct (.lw c gd ga imm ecc) 0 fun s => s.localLoad c gd ga imm ecc 4 (BitVec.ofNat 32)

/-- LH (R154). -/
def execLh (c : CoreId) (gd ga : Gpr) (imm : BitVec 14) (ecc : Ecc) (s : State) : Out :=
  s.pierAct (.lh c gd ga imm ecc) 0 fun s => s.localLoad c gd ga imm ecc 2 (fun v => BitVec.ofInt 32 (signed 16 v))

/-- LHU (R154). -/
def execLhu (c : CoreId) (gd ga : Gpr) (imm : BitVec 14) (ecc : Ecc) (s : State) : Out :=
  s.pierAct (.lhu c gd ga imm ecc) 0 fun s => s.localLoad c gd ga imm ecc 2 (BitVec.ofNat 32)

/-- LB (R154). -/
def execLb (c : CoreId) (gd ga : Gpr) (imm : BitVec 14) (ecc : Ecc) (s : State) : Out :=
  s.pierAct (.lb c gd ga imm ecc) 0 fun s => s.localLoad c gd ga imm ecc 1 (fun v => BitVec.ofInt 32 (signed 8 v))

/-- LBU (R154). -/
def execLbu (c : CoreId) (gd ga : Gpr) (imm : BitVec 14) (ecc : Ecc) (s : State) : Out :=
  s.pierAct (.lbu c gd ga imm ecc) 0 fun s => s.localLoad c gd ga imm ecc 1 (BitVec.ofNat 32)

/-- SW (R154). -/
def execSw (c : CoreId) (gd ga : Gpr) (imm : BitVec 14) (s : State) : Out :=
  s.pierAct (.sw c gd ga imm) 0 fun s => s.localStore c gd ga imm 4

/-- SH (R154). -/
def execSh (c : CoreId) (gd ga : Gpr) (imm : BitVec 14) (s : State) : Out :=
  s.pierAct (.sh c gd ga imm) 0 fun s => s.localStore c gd ga imm 2

/-- SB (R154). -/
def execSb (c : CoreId) (gd ga : Gpr) (imm : BitVec 14) (s : State) : Out :=
  s.pierAct (.sb c gd ga imm) 0 fun s => s.localStore c gd ga imm 1

/-! ### Time, events, CSRs (R163 to R166) -/

/-- A 48-bit number and a 16-bit one as the pair of R163. -/
def timePair (n : Nat) (top : Nat) : List Word :=
  [BitVec.ofNat 32 n, BitVec.ofNat 32 (top % 2 ^ 16 * 2 ^ 16 + n / 2 ^ 32 % 2 ^ 16)]

/-- TGET (R163): frame number and stamp offset. -/
def execTget (c : CoreId) (gd : Gpr) (s : State) : Out :=
  s.pierAct (.tget c gd) 0 fun s => .next (s.putGroup c gd (timePair s.frame s.offset))

/-- KGET (R163): the deck die's copy of the keystone count and epoch. -/
def execKget (c : CoreId) (gd : Gpr) (s : State) : Out :=
  s.pierAct (.kget c gd) 0 fun s => .next (s.putGroup c gd (timePair s.keep.copyCount s.keep.copyEpoch))

/-- EVT (R164): a record with code 0xF00 + imm14[7:0], whose first snapshot words are gd and ga. -/
def execEvt (c : CoreId) (gd ga : Gpr) (code : Byte) (s : State) : Out :=
  s.pierAct (.evt c gd ga code) 0 fun s =>
    .next (s.raise (0xF00 + code.toNat) (s.schedOf c) [(s.ra c gd).toNat, (s.ra c ga).toNat] (some c.val))

/-- What a CSR holds (R165). -/
def State.csr (s : State) (c : CoreId) (n : Nat) : Nat :=
  let k := s.core c
  match n with
  | 0 => k.flags
  | 1 => k.bc
  | 2 => (k.task.map (·.taskNo)).getD 0xFFFF
  | 3 => s.schedOf c
  | 4 => c
  | 5 => (s.inBackground c).toNat
  | 6 => k.clk
  | _ => (s.bankB c).toNat

/-- CSRR (R165). -/
def execCsrr (c : CoreId) (g : Gpr) (csr : BitVec 14) (s : State) : Out :=
  s.pierAct (.csrr c g csr) 0 fun s => .next (s.put c g (BitVec.ofNat 32 (s.csr c csr.toNat)))

/-- CSRW (R165, R166): FLAGS takes ga[5:0]; a write to a read-only CSR is ignored. -/
def execCsrw (c : CoreId) (g : Gpr) (csr : BitVec 14) (s : State) : Out :=
  s.pierAct (.csrw c g csr) 0 fun s =>
    .next (if csr = 0 then s.modCore c (·.withFlags (s.ra c g).toNat) else s)

/-! ### Ending and trapping (R167, R168) -/

/-- YIELD (R167). -/
def execYieldA (c : CoreId) (s : State) : Out := s.pierAct (.yieldA c) 0 .yield true

/-- TRAP (R168): cause 6. -/
def execTrapA (c : CoreId) (s : State) : Out := s.pierAct (.trapA c) 0 fun _ => .trap 6

end Sys2Proof.Machine
end

