-- ==== Sys2Proof/Machine/PierDeck.lean ====
section
/-! DEFINITION. The pier's deck and point instructions (05_pier_instruction_reference.md, R155, R156, R159 to R162). -/

namespace Sys2Proof.Machine

/-- Core `c` as the initiator of its accesses (R538). -/
def State.pierInit (s : State) (c : Nat) : Initiator := .pier (Fin.ofNat 24 (s.schedOf c))

/-- The number of the task core `c` runs. -/
def State.taskOf (s : State) (c : Nat) : Nat := ((s.core c).task.map (·.taskNo)).getD 0xFFFF

/-! ### Deck loads and stores (R155, R156) -/

/-- A deck load of `n` words into the group gd (R155). -/
def State.deckLoad (s : State) (c : CoreId) (gd ga : Gpr) (imm : BitVec 14) (ecc : Ecc) (n : Nat) : PierRes :=
  let a := s.addrOf c ga imm
  if !(a % (4 * n) == 0 && s.deckReadOk (s.pierInit c) a (4 * n)) then .trap 4
  else if s.windowWait a (4 * n) then .wait
  else
    let bad := s.eccBad a (4 * n) ecc
    let ws := (List.range n).map fun k => BitVec.ofNat 32 (s.deckWord (a + 4 * k))
    let s := s.eccFound a (4 * n) ecc
    if bad then .deckUe s else .next (s.putGroup c gd ws)

/-- A deck store of the group gd, `n` words (R155); one of a single word reads its quarter first (R17). -/
def State.deckStore (s : State) (c : CoreId) (gd ga : Gpr) (imm : BitVec 14) (n : Nat) : PierRes :=
  let a := s.addrOf c ga imm
  if !(a % (4 * n) == 0 && s.deckWriteOk (s.pierInit c) a (4 * n)) then .trap 4
  else if s.windowWait a (4 * n) then .wait
  else
    let bs := (s.raGroup c gd n).flatMap fun w => toBytes w.toNat 4
    let (bad, s) := s.partRead a (4 * n) .ok
    if bad then .deckUe s else .next (s.deckPut a bs)

/-- DLW (R155). -/
def execDlw (c : CoreId) (gd ga : Gpr) (imm : BitVec 14) (ecc : Ecc) (s : State) : Out :=
  s.deckAct (.dlw c gd ga imm ecc) fun s => s.deckLoad c gd ga imm ecc 1

/-- DLQ (R155). -/
def execDlq (c : CoreId) (gd ga : Gpr) (imm : BitVec 14) (ecc : Ecc) (s : State) : Out :=
  s.deckAct (.dlq c gd ga imm ecc) fun s => s.deckLoad c gd ga imm ecc 4

/-- DLL (R155). -/
def execDll (c : CoreId) (gd ga : Gpr) (imm : BitVec 14) (ecc : Ecc) (s : State) : Out :=
  s.deckAct (.dll c gd ga imm ecc) fun s => s.deckLoad c gd ga imm ecc 8

/-- DSW (R155). -/
def execDsw (c : CoreId) (gd ga : Gpr) (imm : BitVec 14) (s : State) : Out :=
  s.deckAct (.dsw c gd ga imm) fun s => s.deckStore c gd ga imm 1

/-- DSQ (R155). -/
def execDsq (c : CoreId) (gd ga : Gpr) (imm : BitVec 14) (s : State) : Out :=
  s.deckAct (.dsq c gd ga imm) fun s => s.deckStore c gd ga imm 4

/-- DSL (R155). -/
def execDsl (c : CoreId) (gd ga : Gpr) (imm : BitVec 14) (s : State) : Out :=
  s.deckAct (.dsl c gd ga imm) fun s => s.deckStore c gd ga imm 8

/-- DCAS (R156): a write access, whether or not the comparison succeeds. -/
def execDcas (c : CoreId) (gd ga gb : Gpr) (ecc : Ecc) (s : State) : Out :=
  s.deckAct (.dcas c gd ga gb ecc) fun s =>
    let a := (s.ra c ga).toNat
    if !(a % 4 == 0 && s.deckReadOk (s.pierInit c) a 4 && s.deckWriteOk (s.pierInit c) a 4) then .trap 4
    else if s.windowWait a 4 then .wait
    else
      let bad := s.eccBad a 4 ecc
      let old := BitVec.ofNat 32 (s.deckWord a)
      let s := s.eccFound a 4 ecc
      if bad then .deckUe s
      else
        let s := if old = s.ra c gd then s.deckPut a (toBytes (s.ra c gb).toNat 4) else s
        .next (s.put c gd old)

/-! ### Point reads (R160 to R162) -/

/-- A word of the seen record of point `p`. -/
def State.seenWord (s : State) (p w : Nat) : Word := BitVec.ofNat 32 ((s.seen p).word (s.desc p) w)

/-- A read of `len` bytes of a plane from deck address `a`, into g: an uncorrectable error is a deck address fault (R21). -/
def State.planeRead (s : State) (c : CoreId) (g : Gpr) (a len : Nat) (ws : List Word) : PierRes :=
  if s.windowWait 0 1 then .wait
  else
    let bad := s.eccBad a len .ok
    let s := s.eccFound a len .ok
    if bad then .deckUe s else .next (s.putGroup c g ws)

/-- A point read of words from word `lo`, `n` of them, into g (R160, R161). -/
def State.pointRead (s : State) (c : CoreId) (g : Gpr) (p lo n : Nat) : PierRes :=
  s.planeRead c g (16 * p + 4 * lo) (4 * n) ((List.range n).map fun k => s.seenWord p (lo + k))

/-- PLD (R160). -/
def execPld (c : CoreId) (g : Gpr) (p : PtNum) (s : State) : Out :=
  s.deckAct (.pld c g p) fun s => s.pointRead c g p.toNat 0 1

/-- PLD.P (R160). -/
def execPldP (c : CoreId) (g : Gpr) (p : PtNum) (s : State) : Out :=
  s.deckAct (.pldP c g p) fun s => s.pointRead c g p.toNat 0 2

/-- PLD.R (R160). -/
def execPldR (c : CoreId) (g : Gpr) (p : PtNum) (s : State) : Out :=
  s.deckAct (.pldR c g p) fun s => s.pointRead c g p.toNat 0 4

/-- PLD.X (R160): an indexed point beyond the last is a deck address fault. -/
def execPldX (c : CoreId) (g : Gpr) (p : PtNum) (s : State) : Out :=
  s.deckAct (.pldX c g p) fun s =>
    let q := p.toNat + (s.ra c g).toNat % 2 ^ 17
    if 2 ^ 17 ≤ q then .trap 4 else s.pointRead c g q 0 1

/-- PLD.N and PLD.NP: the owner sees the next-plane record (R77); another task traps, or in background code sees the
seen record (R162). -/
def State.nextRead (s : State) (c : CoreId) (g : Gpr) (p n : Nat) : PierRes :=
  let d := s.desc p
  if s.windowWait 0 1 then .wait
  else if d.cls = 1 ∧ d.ownerId = s.taskOf c then
    s.planeRead c g (0x00200000 + 16 * p) (4 * n) ((List.range n).map fun k => BitVec.ofNat 32 ((s.nextRec p).word d k))
  else if s.inBackground c then s.pointRead c g p 0 n
  else .trap 3

/-- PLD.N (R160). -/
def execPldN (c : CoreId) (g : Gpr) (p : PtNum) (s : State) : Out :=
  s.deckAct (.pldN c g p) fun s => s.nextRead c g p.toNat 1

/-- PLD.NP (R160). -/
def execPldNp (c : CoreId) (g : Gpr) (p : PtNum) (s : State) : Out :=
  s.deckAct (.pldNp c g p) fun s => s.nextRead c g p.toNat 2

/-- PQ (R160): byte 4 of the seen record. -/
def execPq (c : CoreId) (g : Gpr) (p : PtNum) (s : State) : Out :=
  s.deckAct (.pq c g p) fun s =>
    s.planeRead c g (16 * p.toNat + 4) 1 [s.seenWord p.toNat 1 &&& 0xFF]

/-! ### Point writes (R75, R76, R162) -/

/-- Frame-partition code remembers the next-plane value a point had at dispatch (R52). -/
def State.noteWrite (s : State) (c p : Nat) : State :=
  if s.inBackground c || ((s.core c).wrote.any fun (kv : Nat × Option PtRec) => kv.1 == p) then s
  else
    let old := Sparse.find? s.pts.next p
    s.modCore c fun k => { k with wrote := k.wrote ++ [(p, old)] }

/-- A point write of core `c`: a quality PSTQ may not carry is refused as a non-owner's write (R76); background code whose
write is held stalls until the commit window of the next span closes (R45). A point write in a commit window has waited for
its end before (R18). -/
def State.pierWrite (s : State) (c : CoreId) (p : Nat) (v : Word) (q : Quality) : PtRes × State :=
  let bad := q == .forced || q == .late || q == .unbound
  let id := s.taskOf c
  match s.softWrite p 1 id v q with
  | (.ok, t) =>
    if bad then (.refused, s)
    else
      let t := { t with pier := (s.noteWrite c p).pier }
      (.ok, if s.writeClosed then t.modCore c fun k => { k with stall := true } else t)
  | r => r

/-- A point write as an instruction: refused to a non-owner by an ownership trap in frame-partition code, counted in
background code (R162); each refusal produces event 0x222 (R75). -/
def State.pointWrite (s : State) (c : CoreId) (p : Nat) (v : Word) (q : Quality) : PierRes :=
  if s.windowWait 0 1 then .wait
  else match s.pierWrite c p v q with
    | (.refused, s) => if s.inBackground c then .next (s.ownRefused p 1) else .owner (s.ownEvent p 1)
    | (_, s) => .next s

/-- PST (R160). -/
def execPst (c : CoreId) (g : Gpr) (p : PtNum) (s : State) : Out :=
  s.deckAct (.pst c g p) fun s => s.pointWrite c p.toNat (s.ra c g) .good

/-- PST.X (R160). -/
def execPstX (c : CoreId) (g : Gpr) (p : PtNum) (s : State) : Out :=
  s.deckAct (.pstX c g p) fun s =>
    let q := p.toNat + (s.gpr c (g.toNat + 1)).toNat % 2 ^ 17
    if 2 ^ 17 ≤ q then .trap 4 else s.pointWrite c q (s.ra c g) .good

/-- PSTQ (R160). -/
def execPstq (c : CoreId) (g : Gpr) (p : PtNum) (q : BitVec 3) (s : State) : Out :=
  s.deckAct (.pstq c g p q) fun s => s.pointWrite c p.toNat (s.ra c g) (Quality.ofCode q.toNat)

end Sys2Proof.Machine
end

