-- ==== Sys2Proof/Machine/LoopRec.lean ====
section
/-! DEFINITION. The loop record (R171 to R178) and the arithmetic of the loop laws on it (R187 to R198, R202, R203, R206).
Every operation is one binary32 operation, rounded on its own (R187). -/

namespace Sys2Proof.Machine

/-- The 32 words of a loop record (R172). -/
structure LoopRec where
  w : List Word
  deriving DecidableEq, Repr

/-- Word `k`. -/
def LoopRec.at (r : LoopRec) (k : Nat) : Word := r.w.getD k 0

/-- Set word `k`. -/
def LoopRec.put (r : LoopRec) (k : Nat) (v : Word) : LoopRec := ⟨r.w.set k v⟩

/-- A bit of STATUS (R176). -/
def LoopRec.flag (r : LoopRec) (b : Nat) : Bool := (r.at 1).getLsbD b

/-- Set the bits of STATUS from `lo`, `n` of them, to `v`. -/
def LoopRec.field (r : LoopRec) (lo n v : Nat) : LoopRec :=
  let st := (r.at 1).toNat
  r.put 1 (BitVec.ofNat 32 (st - st / 2 ^ lo % 2 ^ n * 2 ^ lo + v % 2 ^ n * 2 ^ lo))

/-- Set a bit of STATUS. -/
def LoopRec.setFlag (r : LoopRec) (b : Nat) (v : Bool) : LoopRec := r.field b 1 v.toNat

/-- The bits of STATUS (R176). -/
inductive LoopFlag where
  | windup | esign | satHi | satLo | rlim | staged | jump | primeFb | cfgErr | hold | setOk
  deriving DecidableEq, Repr

/-- The place of a STATUS bit. -/
def LoopFlag.bit : LoopFlag → Nat
  | .windup => 2 | .esign => 3 | .satHi => 4 | .satLo => 5 | .rlim => 6 | .staged => 7
  | .jump => 8 | .primeFb => 9 | .cfgErr => 10 | .hold => 11 | .setOk => 12

/-- A STATUS bit. -/
def LoopRec.is (r : LoopRec) (f : LoopFlag) : Bool := r.flag f.bit

/-- Set a STATUS bit. -/
def LoopRec.mark (r : LoopRec) (f : LoopFlag) (v : Bool) : LoopRec := r.setFlag f.bit v

/-- STATE: 0 INIT, 1 RUN, 2 TRACK. -/
def LoopRec.state (r : LoopRec) : Nat := (r.at 1).toNat % 4

/-- The loop is in INIT. -/
def LoopRec.isInit (r : LoopRec) : Bool := r.state == 0

/-- Set STATE. -/
def LoopRec.toState (r : LoopRec) (k : Nat) : LoopRec := r.field 0 2 k

/-- KIND of the record (R173): 0 PID, 1 BIQ, 2 GEN. -/
def LoopRec.kind (r : LoopRec) : Nat := (r.at 0).toNat % 4

/-- A binding: the point, if present (R174). -/
def LoopRec.binding (r : LoopRec) (k : Nat) : Option Nat :=
  if (r.at k).getLsbD 31 then some ((r.at k).toNat % 2 ^ 17) else none

/-- Word `k` of the active set (R172). -/
def LoopRec.coef (r : LoopRec) (k : Nat) : Word := r.at (16 + k)

/-! ### Coefficient sets (R177, R178, R200, R201) -/

/-- A word is finite. -/
def fFinite (a : Word) : Bool := a &&& 0x7F800000 != 0x7F800000

/-- a ≥ 0, of a number. -/
def fNonNeg (a : Word) : Bool := !fLt a 0

/-- The staged set is valid for the record's KIND (R178). -/
def LoopRec.stagedOk (r : LoopRec) : Bool :=
  let k (n : Nat) : Word := r.at (24 + n)
  let finite (l : List Nat) : Bool := l.all fun n => fFinite (k n)
  let nonNeg (l : List Nat) : Bool := l.all fun n => fNonNeg (k n)
  ((List.range 8).all fun n => !fIsNaN (k n)) && !fLt (k 5) (k 4) &&
    (match r.kind with
    | 0 => finite [0, 1, 2] && nonNeg [0, 1, 2, 6] && fNonNeg (k 3) && !fLt 0x3F800000 (k 3) && (k 7) &&& 0xFFFFFFFC == 0
    | 1 => finite [0, 1, 2, 3, 6] && k 7 == 0
    | 2 => finite [1, 6] && nonNeg [1, 6] && k 7 == 0
    | _ => false)

/-- The staged set becomes the active set (R200, R202). -/
def LoopRec.takeStaged (r : LoopRec) : LoopRec :=
  (((List.range 8).foldl (fun q k => q.put (16 + k) (r.at (24 + k))) r).mark .staged false |>.mark .setOk true).mark .jump false

/-! ### Arithmetic (R187) -/

/-- Rounded sum. -/
def rAdd (a b : Word) : Word := (fAdd a b).1

/-- Rounded difference. -/
def rSub (a b : Word) : Word := (fAdd a b true).1

/-- Rounded product. -/
def rMul (a b : Word) : Word := (fMul a b).1

/-- min(max(x, a), b) (R187). -/
def rClamp (x a b : Word) : Word := (fMinMax false (fMinMax true x a).1 b).1

/-- The sign inverted. -/
def rNeg (a : Word) : Word := a ^^^ 0x80000000

/-- Two numbers differ. -/
def rNe (a b : Word) : Bool := !(fEq a b).1

/-! ### PID (R188, R189, R202, R206) -/

/-- The inputs of a PID step. -/
structure PidIn where
  /-- a needed binding is absent (cause 2) -/
  absent : Bool
  usable : Bool
  pv : Word
  sp : Word
  ff : Word
  /-- the track value, when tracking is requested (R189) -/
  trk : Option Word
  deriving DecidableEq, Repr

/-- The terms of R188 that every PID step shares. -/
structure PidTerms where
  e : Word
  dfn : Word
  d : Word
  p : Word
  deriving DecidableEq, Repr

/-- e, dfn, d and p with the active set (R188). -/
def LoopRec.pidTerms (r : LoopRec) (i : PidIn) : PidTerms :=
  let s : Word := if (r.coef 7).getLsbD 0 then 0xBF800000 else 0x3F800000
  let e := rMul s (rSub i.sp i.pv)
  let df := r.at 13
  let dfn := rAdd df (rMul (r.coef 3) (rSub i.pv df))
  let d := rMul (rNeg (rMul (r.coef 2) s)) (rSub dfn df)
  let p := if (r.coef 7).getLsbD 1 then rMul (rNeg (rMul (r.coef 0) s)) i.pv else rMul (r.coef 0) e
  { e, dfn, d, p }

/-- The integrator that gives exactly the output `u` (R188, R202, R206). -/
def backI (u p d ff : Word) : Word := rSub u (rAdd (rAdd p d) ff)

/-- The state words after a PID step: I, DF, U_PREV. -/
def LoopRec.pidState (r : LoopRec) (i df u : Word) : LoopRec := ((r.put 12 i).put 13 df).put 14 u

/-- A track step (R188): `t` is the track value. -/
def LoopRec.pidTrack (r : LoopRec) (i : PidIn) (t : Word) : LoopRec × Word :=
  let k := r.pidTerms i
  let u := rClamp t (r.coef 4) (r.coef 5)
  let r := r.pidState (backI u k.p k.d i.ff) k.dfn u
  (((r.mark .satHi (fLt (r.coef 5) t)).mark .satLo (fLt t (r.coef 4))).mark .rlim false |>.toState 2, u)

/-- A normal step (R188); with `stop`, the outer step takes no integration step (R193). None when the unclamped output is
a NaN (R182). -/
def LoopRec.pidRun (r : LoopRec) (i : PidIn) (stop : Bool) : Option (LoopRec × Word) :=
  let k := r.pidTerms i
  let (lo, hi, rate, up) := (r.coef 4, r.coef 5, r.coef 6, r.at 14)
  let (loE, hiE) : Word × Word :=
    if fLt 0 rate then ((fMinMax true lo (rSub up rate)).1, (fMinMax false hi (rAdd up rate)).1) else (lo, hi)
  let di := rMul (r.coef 1) k.e
  let v := rAdd (rAdd (rAdd k.p (rAdd (r.at 12) di)) k.d) i.ff
  let held := stop || (fLt hiE v && fLt 0 di) || (fLt v loE && fLt di 0)
  let int := if held then r.at 12 else rAdd (r.at 12) di
  let ur := rAdd (rAdd (rAdd k.p int) k.d) i.ff
  if fIsNaN ur then none
  else
    let u := rClamp ur loE hiE
    let r := if held then (r.mark .windup true).mark .esign (fLt k.e 0) else r
    let r := r.pidState int k.dfn u
    some (((r.mark .satHi (fLt hi ur)).mark .satLo (fLt ur lo)).mark .rlim (rNe u (rClamp ur lo hi)) |>.toState 1, u)

/-- WINDUP is cleared by a change of error sign (R188). -/
def LoopRec.unwind (r : LoopRec) (i : PidIn) : LoopRec :=
  let e := (r.pidTerms i).e
  if r.is .windup && ((fEq e 0).1 || fLt e 0 != r.is .esign) then r.mark .windup false else r

/-- A PID step without commit, priming or unusable inputs (R188). -/
def LoopRec.pidStep (r : LoopRec) (i : PidIn) (stop : Bool) : Option (LoopRec × Word) :=
  let r := if stop then r else r.unwind i
  match i.trk with
  | some t => some (r.pidTrack i t)
  | none => r.pidRun i stop

/-- The steps that replace a normal step at a commit (R202); the set is already taken. -/
def LoopRec.pidCommit (r : LoopRec) (i : PidIn) : LoopRec × Word :=
  let k := r.pidTerms i
  let (lo, hi, up) := (r.coef 4, r.coef 5, r.at 14)
  let u := rClamp up lo hi
  let r := r.pidState (backI u k.p k.d i.ff) k.dfn u
  let r := ((r.mark .jump (rNe u up)).mark .satHi (fLt hi up)).mark .satLo (fLt up lo)
  ((r.mark .rlim false).toState 1, u)

/-- What priming clears (R206, step 4). -/
def LoopRec.primed (r : LoopRec) (k : Nat) : LoopRec :=
  ([LoopFlag.windup, .esign, .satHi, .satLo, .rlim].foldl (fun q f => q.mark f false) r).toState k

/-- Priming a PID loop with the value `u0`, the prime value or the track value (R206, steps 2 and 4). None when its
unclamped output is a NaN. -/
def LoopRec.pidPrime (r : LoopRec) (i : PidIn) (u0 : Word) : Option (LoopRec × Word) :=
  if fIsNaN u0 then none
  else
    let k := r.pidTerms i
    let u := rClamp u0 (r.coef 4) (r.coef 5)
    some ((r.pidState (backI u k.p 0 i.ff) i.pv u).primed (if i.trk.isSome then 2 else 1), u)

/-! ### BIQ (R190, R203, R206) -/

/-- B2 × x − A2 × y. -/
def LoopRec.biqS2 (r : LoopRec) (x y : Word) : Word := rSub (rMul (r.coef 2) x) (rMul (r.coef 6) y)

/-- A BIQ step (R190). None when its output is a NaN. -/
def LoopRec.biqStep (r : LoopRec) (x : Word) : Option (LoopRec × Word) :=
  let y := rAdd (rMul (r.coef 0) x) (r.at 12)
  if fIsNaN y then none
  else
    let s1 := rAdd (rSub (rMul (r.coef 1) x) (rMul (r.coef 3) y)) (r.at 13)
    let (lo, hi) := (r.coef 4, r.coef 5)
    let r := (((r.pidState s1 (r.biqS2 x y) y).mark .windup false).mark .rlim false).toState 1
    some ((r.mark .satHi (fLt hi y)).mark .satLo (fLt y lo), rClamp y lo hi)

/-- The states a commit sets first (R203); the set is already taken. -/
def LoopRec.biqCommit (r : LoopRec) (x : Word) : LoopRec :=
  let up := r.at 14
  (r.put 12 (rSub up (rMul (r.coef 0) x))).put 13 (r.biqS2 x up)

/-- DC gain of the active set (R206, step 3). -/
def LoopRec.biqGain (r : LoopRec) : Word :=
  (fDiv (rAdd (rAdd (r.coef 0) (r.coef 1)) (r.coef 2)) (rAdd (rAdd 0x3F800000 (r.coef 3)) (r.coef 6))).1

/-- Priming a BIQ loop with output `y` (R206). None when it is a NaN. -/
def LoopRec.biqPrime (r : LoopRec) (x y : Word) : Option (LoopRec × Word) :=
  if fIsNaN y then none
  else
    let r := r.pidState (rSub y (rMul (r.coef 0) x)) (r.biqS2 x y) y
    some (r.primed 1, rClamp y (r.coef 4) (r.coef 5))

/-! ### Cascade (R191, R192) -/

/-- The setpoint a CASC execution forms (R192). -/
def LoopRec.cascSp (r : LoopRec) (j m : Nat) : Word :=
  let (old, now) := (r.at 15, r.at 14)
  if !(r.at 11).getLsbD 30 || j + 1 = m then now
  else rAdd old (rMul (rSub now old) (fDiv (fOfInt (j + 1 : Nat)) (fOfInt m)).1)

end Sys2Proof.Machine
end

