-- ==== Sys2Proof/Machine/LoopLaw.lean ====
section
/-! DEFINITION. The loop-law instructions (06_control_law_instructions.md): ownership, usable inputs, hold steps,
configuration errors, commits, priming, and the eight instructions (R179 to R209). -/

namespace Sys2Proof.Machine

/-! ### Records and ownership -/

/-- The record of loop `n` (R171). -/
def State.loopRec (s : State) (n : Nat) : LoopRec :=
  ⟨(List.range 32).map fun k => BitVec.ofNat 32 (s.dWord (loopAddr n + 4 * k))⟩

/-- Write a word of a loop record. -/
def State.setLoopWord (s : State) (n k : Nat) (v : Word) : State := s.setDWord (loopAddr n + 4 * k) v.toNat

/-- Write back the words that instructions write (R172, R180), and mirror the executed loop (R368). -/
def State.saveLoop (s : State) (n : Nat) (r : LoopRec) : State :=
  (s.each [1, 9, 12, 13, 14, 15, 16, 17, 18, 19, 20, 21, 22, 23] fun s k => s.setLoopWord n k (r.at k)).mirrorLoop n

/-- The task that core `c` runs holds loop `n` (R111). -/
def State.holdsLoop (s : State) (c n : Nat) : Bool :=
  ((s.sch (s.schedOf c)).active.map fun i => i.loops.contains (n, s.taskOf c)).getD false

/-- Loop `n` is in INIT from now on (R204). -/
def State.enterInit (s : State) (n : Nat) : State :=
  let s := { s with pier := { s.pier with fbSeen := s.pier.fbSeen.filter (· != n) } }
  s.setLoopWord n 1 ((s.loopRec n).toState 0 |>.at 1)

/-- Copy the keystone word that PRIME_SRC names into PRIME_VAL; without KEEP_VALID, PRIME_FB is set instead (R204, R208). -/
def State.keepFetch (s : State) (n : Nat) : State :=
  let r := s.loopRec n
  let src := (r.at 8).toNat
  let rest := s.pier.keepMissed.filter (· != n)
  if src / 2 ^ 30 ≠ 2 then { s with pier := { s.pier with keepMissed := rest } }
  else
    if s.bit F.KEEP_STAT_VALID then
      (({ s with pier := { s.pier with keepMissed := rest } }).setLoopWord n 9
        (BitVec.ofNat 32 (s.keepWord (16 + src / 2 ^ 24 % 16)))).mirrorLine (loopAddr n + 36)
    else ({ s with pier := { s.pier with keepMissed := rest ++ [n] } }).setLoopWord n 1 ((r.mark .primeFb true).at 1)

/-- PIERCTL gives loop `n` to a task for the first time (R181). -/
def State.giveLoop (s : State) (n : Nat) : State :=
  let s := s.each ([1, 12, 13, 14, 15] ++ (List.range 8).map (16 + ·)) fun s k => s.setLoopWord n k 0
  (s.enterInit n).mirrorRange (loopAddr n) 128

/-! ### Inputs (R182, R189) -/

/-- A quality with which an input is usable. -/
def usableQ : Quality → Bool
  | .good | .subst | .forced | .late => true
  | _ => false

/-- A bound value input, and whether it is usable. -/
def State.loopVal (s : State) (p : Nat) : Word × Bool :=
  let r := s.seen p
  (r.value, usableQ r.qual && (s.desc p).fmt == 0 && !fIsNaN r.value)

/-- A value input that may be absent: its value is 0 then, and it is usable. -/
def State.loopValOr (s : State) (p : Option Nat) : Word × Bool :=
  match p with
  | some p => s.loopVal p
  | none => (0, true)

/-- The inputs of a PID step of record `r` (R182, R188, R189). -/
def State.pidIn (s : State) (r : LoopRec) (track : Bool) : PidIn :=
  let spcasc := (r.at 0).getLsbD 2
  let (pv, okPv) := s.loopValOr (r.binding 2)
  let (sp, okSp) := if spcasc then (r.at 10, !fIsNaN (r.at 10)) else s.loopValOr (r.binding 3)
  let (ff, okFf) := s.loopValOr (r.binding 4)
  let (sw, okSw) : Bool × Bool := match r.binding 7 with
    | some p => (usableQ (s.seen p).qual && (s.seen p).value != 0, usableQ (s.seen p).qual)
    | none => (false, true)
  let tracking := track || sw
  let (trk, okTrk) := if tracking then s.loopValOr (r.binding 6) else (0, true)
  { absent := (r.binding 2).isNone || (!spcasc && (r.binding 3).isNone) || (tracking && (r.binding 6).isNone)
    usable := okPv && okSp && okFf && okSw && okTrk
    pv, sp, ff, trk := if tracking then some trk else none }

/-! ### Outcomes of a step -/

/-- What a step comes to. -/
inductive LawKind where
  /-- an output with its quality; `primed` when the step primed the loop -/
  | out (u : Word) (q : Quality) (primed : Bool)
  /-- not primed for unusable inputs: the clamped prime value (R207) -/
  | unprimed (v : Word)
  /-- a hold step; `nan` when its unclamped output was a NaN -/
  | hold (nan : Bool)
  /-- a configuration error (R183) -/
  | cfg (cause : Nat)
  deriving DecidableEq, Repr

/-- A step's outcome: the record, what it comes to, commit events (old and new output where JUMP is set), and whether a
prime value was resolved by fall-back. -/
structure LawRes where
  r : LoopRec
  k : LawKind
  commit : Option (Option (Word × Word)) := none
  fb : Bool := false
  deriving DecidableEq, Repr

/-- A step's record and output, or a hold step for a NaN (R182). -/
def lawOut (r : LoopRec) (q : Quality) (primed : Bool) : Option (LoopRec × Word) → LawRes
  | some (r, u) => { r, k := .out u q primed }
  | none => { r, k := .hold true }

/-- The prime value of loop `n` with its record: PRIME_FB, and whether it was a fall-back (R205); none for the reserved SRC. -/
def State.resolvePrime (s : State) (n : Nat) (r : LoopRec) : Option (Word × LoopRec × Bool) :=
  let src := (r.at 8).toNat
  let done (v : Word) (fb : Bool) := some (v, r.mark .primeFb fb, fb)
  match src / 2 ^ 30 with
  | 0 => done (r.at 9) false
  | 1 =>
    let (v, ok) := s.loopVal (src % 2 ^ 17)
    if ok then done v false else done (r.at 9) true
  | 2 => done (r.at 9) (s.pier.keepMissed.contains n)
  | _ => none

/-- Step 1 of R206: an armed set is committed without continuity; the record, whether it was, and the cause it ends with. -/
def LoopRec.initSet (r : LoopRec) : LoopRec × Bool × Option Nat :=
  if !r.is .staged then (r, false, if r.is .setOk then none else some 4)
  else if r.stagedOk then (r.takeStaged, true, none)
  else (r.mark .staged false, false, some (if r.is .setOk then 3 else 4))

/-- A loop in INIT with usable inputs, or not (R206, R207): `prime` primes it with the prime value. -/
def State.initStep (s : State) (n : Nat) (r : LoopRec) (usable : Bool) (prime : LoopRec → LawRes) : LawRes :=
  let (r, took, cause) := r.initSet
  let commit := if took then some none else none
  match cause with
  | some c => { r, k := .cfg c, commit }
  | none =>
    if usable then { prime r with commit }
    else match s.resolvePrime n r with
      | none => { r, k := .cfg 6, commit }
      | some (v, r, fb) => { r, k := .unprimed (rClamp v (r.coef 4) (r.coef 5)), commit, fb }

/-- Priming with a prime value that is resolved (R205, R206). -/
def State.primeWith (s : State) (n : Nat) (r : LoopRec) (f : LoopRec → Word → Option (LoopRec × Word)) : LawRes :=
  match s.resolvePrime n r with
  | none => { r, k := .cfg 6 }
  | some (v, r, fb) => { lawOut r .init true (f r v) with fb }

/-- The start of an execution outside INIT: no set at all is cause 4, an unusable input a hold step, a bad armed set cause 3
(R183, R200, R201). -/
def LoopRec.ready (r : LoopRec) (usable : Bool) (go : LoopRec → LawRes) : LawRes :=
  if !r.is .setOk && !r.is .staged then { r, k := .cfg 4 }
  else if !usable then { r, k := .hold false }
  else if r.is .staged && !r.stagedOk then
    { r := r.mark .staged false, k := .cfg (if r.is .setOk then 3 else 4) }
  else go r

/-- One PID step of loop `n` (R188, R189, R202, R206, R207). A commit with tracking requested leaves JUMP 0 and raises no 0x231:
log entry 167. -/
def State.pidLaw (s : State) (n : Nat) (r : LoopRec) (track stop : Bool) : LawRes :=
  let i := s.pidIn r track
  if i.absent then { r, k := .cfg 2 }
  else if r.isInit then
    s.initStep n r i.usable fun r => match i.trk with
      | some t => lawOut r .init true (r.pidPrime i t)
      | none => s.primeWith n r fun r v => r.pidPrime i v
  else r.ready i.usable fun r =>
    if !r.is .staged then lawOut r .good false (r.pidStep i stop)
    else
      let up := r.at 14
      let r := r.takeStaged
      if i.trk.isSome then { lawOut r .good false (r.pidStep i stop) with commit := some none }
      else
        let (r, u) := r.pidCommit i
        { r, k := .out u .good false, commit := some (if r.is .jump then some (up, u) else none) }

/-- One BIQ step of loop `n` with input `x` (R190, R203, R206, R207). -/
def State.biqLaw (s : State) (n : Nat) (r : LoopRec) (x : Word) (usable : Bool) : LawRes :=
  if r.isInit then
    s.initStep n r usable fun r =>
      let g := r.biqGain
      if fFinite g then lawOut r .init true (r.biqPrime x (rMul g x)) else s.primeWith n r fun r v => r.biqPrime x v
  else r.ready usable fun r =>
    if !r.is .staged then lawOut r .good false (r.biqStep x)
    else
      let up := r.at 14
      let last := rClamp up (r.coef 4) (r.coef 5)
      let r := r.takeStaged.biqCommit x
      match r.biqStep x with
      | none => { r, k := .hold true, commit := some none }
      | some (r, u) =>
        let jump := rNe u last
        { r := r.mark .jump jump, k := .out u .good false, commit := some (if jump then some (up, u) else none) }

/-! ### Ending an execution -/

/-- The events of an execution: its commit (R200, R202), and the first fall-back since the loop entered INIT (R205). -/
def State.lawEvents (s : State) (c n : Nat) (res : LawRes) : State :=
  let s := match res.commit with
    | none => s
    | some j =>
      let s := s.raise 0x230 0xFF ([n, s.taskOf c] ++ w48 s.frame) (some c)
      match j with
      | some (old, new) => s.raise 0x231 0xFF [old.toNat, new.toNat] (some c)
      | none => s
  if res.fb && !s.pier.fbSeen.contains n then
    { s with pier := { s.pier with fbSeen := s.pier.fbSeen ++ [n] } }.raise 0x234 0xFF [] (some c)
  else s

/-- CFGERR and HOLD with their events, the fall-back mark, and the record written back (R182, R183). A hold step keeps SAT_HI,
SAT_LO and RLIM (R176): log entry 168. -/
def State.lawMark (s : State) (c n : Nat) (prev r : LoopRec) (cause : Option Nat) (hold : Bool) : State :=
  let s := match cause with
    | some k => s.raise 0x232 0xFF [k] (some c)
    | none => s
  let s := if hold && !prev.is .hold then s.raise 0x233 0xFF [] (some c) else s
  s.saveLoop n ((r.mark .cfgErr cause.isSome).mark .hold hold)

/-- The output point, written as a PSTQ of the executing task (R184). -/
def State.lawWrite (s : State) (c : CoreId) (out : Option Nat) (u : Word) (q : Quality) : State :=
  match out with
  | some p => (s.pierWrite c p u q).2
  | none => s

/-- The quality code of the output in OQ (R176). -/
def LoopRec.putOq (r : LoopRec) (q : Quality) : LoopRec := r.field 13 3 q.code

/-- An execution ends with a cause of R183 that writes no point and leaves the record as `r` but for CFGERR. -/
def State.lawRefuse (s : State) (c : CoreId) (n : Nat) (gd : Gpr) (r : LoopRec) (cause : Nat) : State :=
  ((s.raise 0x232 0xFF [cause] (some c.val)).saveLoop n (r.mark .cfgErr true)).put c gd 0

/-- A PIDS, BIQ or ended CASC execution is finished (R182, R183, R207). `badOut` when OUT_BIND names a point that is not
F32, which is not written. -/
def State.lawEnd (s : State) (c : CoreId) (n : Nat) (gd : Gpr) (prev : LoopRec) (out : Option Nat) (badOut : Bool)
    (res : LawRes) : State :=
  let finish (s : State) (u : Word) (q : Quality) (cause : Option Nat) (hold : Bool) : State :=
    let r := if badOut then res.r else res.r.putOq q
    ((s.lawMark c n prev r cause hold).put c gd u).lawWrite c (if badOut then none else out) u q
  match res.k with
  | .cfg 1 => s.lawRefuse c n gd prev 1
  | .cfg 4 => (s.lawEvents c n res).lawRefuse c n gd res.r 4
  | .cfg 6 => s.lawRefuse c n gd prev 6
  | .cfg k => finish (s.lawEvents c n res) (res.r.at 14) .stale (some k) true
  | .hold nan => (finish (s.lawEvents c n res) (res.r.at 14) .stale none true).stickyFx c nan
  | .unprimed v => finish (s.lawEvents c n res) v .init none false
  | .out u q _ => finish (s.lawEvents c n res) u q none false

/-! ### PIDS, BIQ, CASC -/

/-- OUT_BIND names a point of another FORMAT than F32 (cause 2). -/
def State.outBad (s : State) (out : Option Nat) : Bool := (out.map fun p => (s.desc p).fmt != 0).getD false

/-- The task that core `c` runs owns the output point, if there is one (R184). -/
def State.ownsOut (s : State) (c : Nat) (out : Option Nat) : Bool :=
  (out.map fun p => (s.desc p).cls == 1 && (s.desc p).ownerId == s.taskOf c).getD true

/-- The deck ranges that a law reads: the records of the loops `ls`, and the seen records of the points `ins`. -/
def lawReads (ls : List Nat) (ins : List (Option Nat)) : List (Nat × Nat) :=
  (ls.map fun n => (loopAddr n, 128)) ++ (ins.filterMap id).map fun p => (16 * p, 16)

/-- What comes before every cause of R183: the records can be read (R21), and the ownership checks of R184 hold for the loops
`ls` and the output point. A failed check traps in frame-partition code and is counted in background code. -/
def State.lawStart (s : State) (c : CoreId) (ls : List Nat) (ins : List (Option Nat)) (out : Option Nat)
    (go : State → PierRes) : PierRes :=
  if s.windowWait 0 1 then .wait
  else
    let reads := lawReads ls ins
    let bad := reads.any fun x => s.eccBad x.1 x.2 .ok
    let s := s.each reads fun s x => s.eccFound x.1 x.2 .ok
    if bad then .deckUe s
    else if ls.all (s.holdsLoop c) && s.ownsOut c out then go s
    else if !s.inBackground c then match out with
      | some p => if ls.all (s.holdsLoop c) then .owner (s.ownEvent p 1) else .trap 3
      | none => .trap 3
    else match out with
      | some p => if ls.all (s.holdsLoop c) then .next (s.ownRefused p 1) else .next (s.incSat F.DECK_OWN_REFUSED)
      | none => .next (s.incSat F.DECK_OWN_REFUSED)

/-- The output point of an execution: none under NOPOINT (R186). -/
def LoopRec.outPoint (r : LoopRec) (mode : BitVec 6) : Option Nat := if mode.getLsbD 1 then none else r.binding 5

/-- The points a PID step of record `r` reads (R189). -/
def LoopRec.pidPoints (r : LoopRec) : List (Option Nat) :=
  [r.binding 2, if (r.at 0).getLsbD 2 then none else r.binding 3, r.binding 4, r.binding 6, r.binding 7]

/-- PIDS (R186, R188). -/
def execPids (c : CoreId) (gd : Gpr) (loop : BitVec 14) (mode : BitVec 6) (s : State) : Out :=
  s.deckAct (.pids c gd loop mode) fun s =>
    let n := loop.toNat
    let r := s.loopRec n
    let out := r.outPoint mode
    s.lawStart c [n] r.pidPoints out fun s =>
      let bad := s.outBad out
      .next (s.lawEnd c n gd r out bad
        (if r.kind ≠ 0 then { r, k := .cfg 1 } else if bad then { r, k := .cfg 2 }
         else s.pidLaw n r (mode.getLsbD 0) false))

/-- BIQ (R186, R190). -/
def execBiq (c : CoreId) (gd : Gpr) (loop : BitVec 14) (mode : BitVec 6) (s : State) : Out :=
  s.deckAct (.biq c gd loop mode) fun s =>
    let n := loop.toNat
    let r := s.loopRec n
    let out := r.outPoint mode
    s.lawStart c [n] [if mode.getLsbD 0 then none else r.binding 2] out fun s =>
      let bad := s.outBad out
      let xreg := mode.getLsbD 0
      let (x, ok) := if xreg then (s.ra c gd, !fIsNaN (s.ra c gd)) else s.loopValOr (r.binding 2)
      .next (s.lawEnd c n gd r out bad
        (if r.kind ≠ 1 then { r, k := .cfg 1 }
         else if bad || (!xreg && (r.binding 2).isNone) then { r, k := .cfg 2 }
         else s.biqLaw n r x ok))

/-- The setpoint goes into SP_IN of the record and of the inner loop, PHASE and OQ into the record, and the outer output is
written (R192; log entry 160). -/
def State.cascEnd (s : State) (c : CoreId) (n inner : Nat) (gd : Gpr) (prev r : LoopRec) (out : Option Nat) (sp u : Word)
    (phase : Nat) (q : Quality) (hold : Bool) : State :=
  let s := (s.setLoopWord n 10 sp).lawMark c n prev ((r.putOq q).field 16 16 phase) none hold
  ((s.setLoopWord inner 10 sp).put c gd sp).lawWrite c out u q

/-- A CASC execution after its checks of KIND and ownership (R192, R193). In INIT with a prime value that is a NaN the hold path
is taken: log entry 169. -/
def State.cascRun (s : State) (c : CoreId) (gd : Gpr) (n : Nat) (r : LoopRec) (out : Option Nat) : State :=
  let cfg := (r.at 11).toNat
  let (inner, m) := (cfg / 2 ^ 16 % 2 ^ 14, cfg % 2 ^ 16)
  let phase := (r.at 1).toNat / 2 ^ 16
  let due := r.isInit || phase == 0 || m ≤ phase
  let inr := s.loopRec inner
  let i := s.pidIn r false
  let stop := cfg.testBit 31 && (inr.is .satHi || inr.is .satLo)
  let res := s.pidLaw n r false stop
  let early : Option LawRes := match res.k with
    | .cfg 3 | .cfg 4 => if due then some res else none
    | _ => none
  if i.absent then s.lawEnd c n gd r out false { r, k := .cfg 2 }
  else if m = 0 ∨ inner = n ∨ inr.kind ≠ 0 then
    s.lawEnd c n gd r out false (early.getD { r, k := .cfg 5 })
  else if !due then
    let sp := r.cascSp phase m
    s.cascEnd c n inner gd r r out sp (r.at 14) ((phase + 1) % m)
      (Quality.ofCode ((r.at 1).toNat / 2 ^ 13 % 8)) false
  else
    let start := r.at 14
    let go (oldStart : Word) (q : Quality) (hold nan : Bool) : State :=
      let t := res.r.put 15 oldStart
      ((s.lawEvents c n res).cascEnd c n inner gd r t out (t.cascSp 0 m) (t.at 14) (1 % m) q hold).stickyFx c nan
    match res.k with
    | .cfg _ => s.lawEnd c n gd r out false res
    | .unprimed v => (s.lawEvents c n res).cascEnd c n inner gd r res.r out v v 0 .init false
    | .hold nan => go start .stale true nan
    | .out u q primed => go (if primed then u else start) q false false

/-- CASC (R186, R191 to R194). -/
def execCasc (c : CoreId) (gd : Gpr) (loop : BitVec 14) (mode : BitVec 6) (s : State) : Out :=
  s.deckAct (.casc c gd loop mode) fun s =>
    let n := loop.toNat
    let r := s.loopRec n
    let out := r.outPoint mode
    let inner := (r.at 11).toNat / 2 ^ 16 % 2 ^ 14
    s.lawStart c [n, inner] r.pidPoints out fun s =>
      let bad := s.outBad out
      if r.kind ≠ 0 then .next (s.lawEnd c n gd r out bad { r, k := .cfg 1 })
      else if bad then .next (s.lawEnd c n gd r out bad { r, k := .cfg 2 })
      else .next (s.cascRun c gd n r out)

/-! ### CLAMPW, RATE, INTG (R195 to R198, R203) -/

/-- The commit of a GEN record at the start of an execution: the record, the commit as an event, and cause 3 (R198, R203). -/
def LoopRec.genCommit (r : LoopRec) : LoopRec × Option (Option (Word × Word)) × Option Nat :=
  if !r.is .staged then (r, none, none)
  else if !r.stagedOk then (r.mark .staged false, none, some 3)
  else if r.isInit then (r.takeStaged, some none, none)
  else
    let old := r.at 12
    let r := r.takeStaged
    let new := rClamp old (r.coef 4) (r.coef 5)
    let jump := rNe new old
    ((r.put 12 new).mark .jump jump, some (if jump then some (old, new) else none), none)

/-- What one of the three computes: its result, and the record it leaves when the result is no NaN. `none`: cause 6. -/
structure GenRes where
  v : Word
  r : LoopRec
  acted : Bool
  fb : Bool := false
  deriving DecidableEq, Repr

/-- An execution of one of the three on loop `n`, after its ownership check (R198). A NaN result leaves the record as the commit
made it; of the causes 3 and 6 together, 3 is reported (R183). -/
def State.genRun (s : State) (c : CoreId) (gd : Gpr) (n : Nat) (pair : Bool) (law : LoopRec → Option GenRes) : State :=
  let prev := s.loopRec n
  let refuse (s : State) (r : LoopRec) (cause : Nat) : State :=
    let s := s.lawRefuse c n gd r cause
    if pair then s.setGpr c (gd.toNat + 1) 0 else s
  if prev.kind ≠ 2 then refuse s prev 1
  else
    let (r, commit, cause) := prev.genCommit
    if !r.is .setOk then refuse s r 4
    else match law r with
      | none => match cause with
        | some k => refuse s r k
        | none => refuse s prev 6
      | some g =>
        let s := s.lawEvents c n { r := g.r, k := .hold false, commit, fb := g.fb }
        let nan := fIsNaN g.v
        let acted := if nan then s.free 81 else (g.acted.toNat, s)
        let s := if pair then acted.2.setGpr c (gd.toNat + 1) (BitVec.ofNat 32 (acted.1 % 2)) else s
        let kept (s : State) : State := match cause with
          | some k => (s.raise 0x232 0xFF [k] (some c.val)).saveLoop n (r.mark .cfgErr true)
          | none => s.saveLoop n r
        if nan then ((kept s).put c gd fNaN).stickyFx c true
        else (s.lawMark c n prev (if r.isInit then g.r.toState 1 else g.r) cause false).put c gd g.v

/-- CLAMPW (R195). -/
def execClampw (c : CoreId) (gd : Gpr) (loop : BitVec 14) (mode : BitVec 6) (s : State) : Out :=
  s.deckAct (.clampw c gd loop mode) fun s =>
    let x := s.ra c gd
    s.lawStart c [loop.toNat] [] none fun s => .next (s.genRun c gd loop.toNat (mode.getLsbD 0) fun r =>
      let (lo, hi) := (r.coef 4, r.coef 5)
      let v := rClamp x lo hi
      let acted := rNe v x
      some { v, acted, r := ((r.mark .satHi (fLt hi x)).mark .satLo (fLt x lo)).mark .windup acted })

/-- RATE (R196). -/
def execRate (c : CoreId) (gd : Gpr) (loop : BitVec 14) (mode : BitVec 6) (s : State) : Out :=
  s.deckAct (.rate c gd loop mode) fun s =>
    let x := s.ra c gd
    s.lawStart c [loop.toNat] [] none fun s => .next (s.genRun c gd loop.toNat false fun r =>
      let (rate, up) := (r.coef 6, r.at 14)
      let v := if r.isInit || !fLt 0 rate then x else rClamp x (rSub up rate) (rAdd up rate)
      let acted := rNe v x
      some { v, acted, r := if r.isInit then r.put 14 v else (r.put 14 v).mark .rlim acted })

/-- INTG: I := clamp(u), with WINDUP (R197). -/
def intgRes (r : LoopRec) (u : Word) (fb : Bool) : GenRes :=
  let v := rClamp u (r.coef 4) (r.coef 5)
  let acted := rNe v u
  { v, acted, fb, r := (r.put 12 v).mark .windup acted }

/-- INTG without LOAD (R197). -/
def execIntg (c : CoreId) (gd : Gpr) (loop : BitVec 14) (mode : BitVec 6) (s : State) : Out :=
  s.deckAct (.intg c gd loop mode) fun s =>
    let x := s.ra c gd
    s.lawStart c [loop.toNat] [] none fun s => .next (s.genRun c gd loop.toNat false fun r =>
      if r.isInit then (s.resolvePrime loop.toNat r).map fun (v, r, fb) => intgRes r v fb
      else some (intgRes r (rAdd (r.at 12) (rMul (r.coef 1) x)) false))

/-- INTG with LOAD (R197): I := gd, clamped. -/
def execIntgLoad (c : CoreId) (gd : Gpr) (loop : BitVec 14) (mode : BitVec 6) (s : State) : Out :=
  s.deckAct (.intgLoad c gd loop mode) fun s =>
    let x := s.ra c gd
    s.lawStart c [loop.toNat] [] none fun s => .next (s.genRun c gd loop.toNat false fun r => some (intgRes r x false))

/-! ### SWAPK and PRIME (R199, R208) -/

/-- STATUS of loop `n` becomes that of `r`, and gd receives it. -/
def State.lawStatus (s : State) (c : CoreId) (gd : Gpr) (n : Nat) (r : LoopRec) : PierRes :=
  .next ((s.saveLoop n r).put c gd (r.at 1))

/-- SWAPK without change: gd receives STATUS (R186). -/
def execSwapkStatus (c : CoreId) (gd : Gpr) (loop : BitVec 14) (mode : BitVec 6) (s : State) : Out :=
  s.deckAct (.swapkStatus c gd loop mode) fun s =>
    s.lawStart c [loop.toNat] [] none fun s => s.lawStatus c gd loop.toNat (s.loopRec loop.toNat)

/-- SWAPK with ARM (R199). -/
def execSwapkArm (c : CoreId) (gd : Gpr) (loop : BitVec 14) (mode : BitVec 6) (s : State) : Out :=
  s.deckAct (.swapkArm c gd loop mode) fun s =>
    s.lawStart c [loop.toNat] [] none fun s => s.lawStatus c gd loop.toNat ((s.loopRec loop.toNat).mark .staged true)

/-- SWAPK with CANCEL (R199). -/
def execSwapkCancel (c : CoreId) (gd : Gpr) (loop : BitVec 14) (mode : BitVec 6) (s : State) : Out :=
  s.deckAct (.swapkCancel c gd loop mode) fun s =>
    s.lawStart c [loop.toNat] [] none fun s => s.lawStatus c gd loop.toNat ((s.loopRec loop.toNat).mark .staged false)

/-- PRIME (R208): the loop is in INIT at once. -/
def execPrime (c : CoreId) (gd : Gpr) (loop : BitVec 14) (mode : BitVec 6) (s : State) : Out :=
  s.deckAct (.prime c gd loop mode) fun s =>
    s.lawStart c [loop.toNat] [] none fun s =>
      let s := s.enterInit loop.toNat
      s.lawStatus c gd loop.toNat (s.loopRec loop.toNat)

/-- PRIME with FETCH (R208): the keystone word is copied first. -/
def execPrimeFetch (c : CoreId) (gd : Gpr) (loop : BitVec 14) (mode : BitVec 6) (s : State) : Out :=
  s.deckAct (.primeFetch c gd loop mode) fun s =>
    s.lawStart c [loop.toNat] [] none fun s =>
      let s := (s.keepFetch loop.toNat).enterInit loop.toNat
      s.lawStatus c gd loop.toNat (s.loopRec loop.toNat)

end Sys2Proof.Machine
end

