-- ==== Sys2Proof/Machine/PierDecode.lean ====
section
/-! DEFINITION. The encoding of pier instructions (05_pier_instruction_reference.md, R138, R139): from a code word to the
instruction, total, none for a reserved opcode, function number or field value. -/

namespace Sys2Proof.Machine

/-- Bits [hi:lo] of a word as a number. -/
def bitsOf (w : Word) (hi lo : Nat) : Nat := w.toNat / 2 ^ lo % 2 ^ (hi + 1 - lo)

/-- A register field. -/
def gprOf (w : Word) (lo : Nat) : Gpr := BitVec.ofNat 6 (bitsOf w (lo + 5) lo)

/-- gd, ga and gb of formats A and I (R138). -/
def fldGd (w : Word) : Gpr := gprOf w 20
def fldGa (w : Word) : Gpr := gprOf w 14
def fldGb (w : Word) : Gpr := gprOf w 8

/-- imm14, off14 (R138). -/
def fldImm (w : Word) : BitVec 14 := w.extractLsb' 0 14

/-- The ALU group (R141): S is permitted where the Flags column names flags. -/
def decodeAlu (c : CoreId) (w : Word) : Option Instr :=
  let (d, a, b) := (fldGd w, fldGa w, fldGb w)
  let s := w.getLsbD 7
  let plain (i : Instr) : Option Instr := if s then none else some i
  match bitsOf w 6 0 with
  | 0x00 => some (.add c d a b s)
  | 0x01 => some (.sub c d a b s)
  | 0x02 => some (.adc c d a b s)
  | 0x03 => some (.sbc c d a b s)
  | 0x04 => some (.andA c d a b s)
  | 0x05 => some (.orA c d a b s)
  | 0x06 => some (.xorA c d a b s)
  | 0x07 => some (.andn c d a b s)
  | 0x08 => some (.shl c d a b s)
  | 0x09 => some (.shr c d a b s)
  | 0x0A => some (.sar c d a b s)
  | 0x0B => some (.ror c d a b s)
  | 0x0C => plain (.lts c d a b)
  | 0x0D => plain (.ltu c d a b)
  | 0x0E => plain (.minA c d a b)
  | 0x0F => plain (.maxA c d a b)
  | 0x10 => plain (.minu c d a b)
  | 0x11 => plain (.maxu c d a b)
  | _ => none

/-- The MUL group (R144). -/
def decodeMul (c : CoreId) (w : Word) : Option Instr :=
  let (d, a, b) := (fldGd w, fldGa w, fldGb w)
  match bitsOf w 7 0 with
  | 0x00 => some (.mulA c d a b)
  | 0x01 => some (.mulhs c d a b)
  | 0x02 => some (.mulhu c d a b)
  | 0x03 => some (.mulp c d a b)
  | 0x04 => some (.mulpu c d a b)
  | 0x05 => some (.divA c d a b)
  | 0x06 => some (.divu c d a b)
  | 0x07 => some (.divm c d a b)
  | 0x08 => some (.divmu c d a b)
  | _ => none

/-- The instruction, if the unused field gb is 0 (R138). -/
def noGb (w : Word) (i : Instr) : Option Instr := if fldGb w = 0 then some i else none

/-- The Q31 group (R145). -/
def decodeQ31 (c : CoreId) (w : Word) : Option Instr :=
  let (d, a, b) := (fldGd w, fldGa w, fldGb w)
  match bitsOf w 7 0 with
  | 0x00 => some (.qadd c d a b)
  | 0x01 => some (.qsub c d a b)
  | 0x02 => some (.qmul c d a b)
  | 0x03 => some (.qmac c d a b)
  | 0x04 => some (.qmsu c d a b)
  | 0x05 => noGb w (.qneg c d a)
  | 0x06 => noGb w (.qabs c d a)
  | 0x07 => some (.qshl c d a b)
  | _ => none

/-- The F32 group (R147). -/
def decodeF32 (c : CoreId) (w : Word) : Option Instr :=
  let (d, a, b) := (fldGd w, fldGa w, fldGb w)
  match bitsOf w 7 0 with
  | 0x00 => some (.fadd c d a b)
  | 0x01 => some (.fsub c d a b)
  | 0x02 => some (.fmul c d a b)
  | 0x03 => some (.fma c d a b)
  | 0x04 => some (.fms c d a b)
  | 0x05 => some (.fdiv c d a b)
  | 0x06 => noGb w (.fsqrt c d a)
  | 0x07 => some (.fmin c d a b)
  | 0x08 => some (.fmax c d a b)
  | 0x09 => noGb w (.fabs c d a)
  | 0x0A => noGb w (.fneg c d a)
  | 0x0B => some (.fceq c d a b)
  | 0x0C => some (.fclt c d a b)
  | 0x0D => some (.fcle c d a b)
  | 0x0E => some (.fcun c d a b)
  | 0x10 => noGb w (.itof c d a)
  | 0x11 => noGb w (.utof c d a)
  | 0x12 => noGb w (.qtof c d a)
  | 0x13 => noGb w (.ftoi c d a)
  | 0x14 => noGb w (.ftou c d a)
  | 0x15 => noGb w (.ftoq c d a)
  | _ => none

/-- The instruction, if every bit of `w` under `mask` is 0. -/
def zeroUnder (w mask : Word) (i : Instr) : Option Instr := if w &&& mask = 0 then some i else none

/-- Point instructions (R160), by opcode and q. -/
def decodePoint (c : CoreId) (op : Nat) (w : Word) : Option Instr :=
  let g := fldGd w
  let p : PtNum := w.extractLsb' 0 17
  match op, bitsOf w 19 17 with
  | 0x31, 0 => some (.pld c g p)
  | 0x31, 1 => some (.pldP c g p)
  | 0x31, 2 => some (.pldR c g p)
  | 0x31, 3 => some (.pldX c g p)
  | 0x32, 0 => some (.pldN c g p)
  | 0x32, 1 => some (.pldNp c g p)
  | 0x33, 0 => some (.pst c g p)
  | 0x33, 1 => some (.pstX c g p)
  | 0x34, 0 => some (.pq c g p)
  | 0x35, q => some (.pstq c g p (BitVec.ofNat 3 q))
  | _, _ => none

/-- Loop-law instructions (R170, R186). -/
def decodeLaw (c : CoreId) (op : Nat) (w : Word) : Option Instr :=
  let g := fldGd w
  let l : BitVec 14 := w.extractLsb' 6 14
  let m : BitVec 6 := w.extractLsb' 0 6
  match op with
  | 0x38 => some (.pids c g l m)
  | 0x39 => some (.biq c g l m)
  | 0x3A => some (.casc c g l m)
  | 0x3B => match m.toNat % 4 with
    | 0 => some (.swapkStatus c g l m)
    | 1 => some (.swapkArm c g l m)
    | 2 => some (.swapkCancel c g l m)
    | _ => none
  | 0x3C => some (.clampw c g l m)
  | 0x3D => some (.rate c g l m)
  | 0x3E => some (if m.getLsbD 0 then .intgLoad c g l m else .intg c g l m)
  | 0x3F => some (if m.getLsbD 0 then .primeFetch c g l m else .prime c g l m)
  | _ => none

/-- The instruction a code word encodes, for core `c` (R138, R139). An ECC outcome, which no word encodes, is given as ok. -/
def pierDecodeRaw (c : CoreId) (w : Word) : Option Instr :=
  let (d, a, b) := (fldGd w, fldGa w, fldGb w)
  let i := fldImm w
  let sh (k : Instr) : Option Instr := zeroUnder w 0x3FE0 k
  let s5 : BitVec 5 := w.extractLsb' 0 5
  match bitsOf w 31 26 with
  | 0x00 => decodeAlu c w
  | 0x01 => some (.addi c d a i)
  | 0x02 => some (.andi c d a i)
  | 0x03 => some (.ori c d a i)
  | 0x04 => some (.xori c d a i)
  | 0x05 => sh (.shli c d a s5)
  | 0x06 => sh (.shri c d a s5)
  | 0x07 => sh (.sari c d a s5)
  | 0x08 => some (.ltsi c d a i)
  | 0x09 => some (.ltui c d a i)
  | 0x0A =>
    zeroUnder w 0x00070000 (if w.getLsbD 19 then .imh c d (w.extractLsb' 0 16) else .iml c d (w.extractLsb' 0 16))
  | 0x0B => decodeMul c w
  | 0x0C => decodeQ31 c w
  | 0x0D => decodeF32 c w
  | 0x10 => some (.beq c d a i)
  | 0x11 => some (.bne c d a i)
  | 0x12 => some (.blt c d a i)
  | 0x13 => some (.bge c d a i)
  | 0x14 => some (.bltu c d a i)
  | 0x15 => some (.bgeu c d a i)
  | 0x16 => zeroUnder w 0x000FC000 (.call c d i)
  | 0x17 => zeroUnder w 0x00003FFF (.jmpr c d a)
  | 0x18 => some (.loopA c (w.extractLsb' 16 10) (w.extractLsb' 0 16))
  | 0x19 => zeroUnder w 0x00003F00 (.evt c d a (w.extractLsb' 0 8))
  | 0x1A => zeroUnder w 0x000FC000 (.csrr c d i)
  | 0x1B => zeroUnder w 0x03F00000 (.csrw c a i)
  | 0x1C => zeroUnder w 0x03FFFFFF (.trapA c)
  | 0x20 => some (.lw c d a i .ok)
  | 0x21 => some (.lh c d a i .ok)
  | 0x22 => some (.lhu c d a i .ok)
  | 0x23 => some (.lb c d a i .ok)
  | 0x24 => some (.lbu c d a i .ok)
  | 0x25 => some (.sw c d a i)
  | 0x26 => some (.sh c d a i)
  | 0x27 => some (.sb c d a i)
  | 0x28 => some (.dlw c d a i .ok)
  | 0x29 => some (.dlq c d a i .ok)
  | 0x2A => some (.dll c d a i .ok)
  | 0x2B => some (.dsw c d a i)
  | 0x2C => some (.dsq c d a i)
  | 0x2D => some (.dsl c d a i)
  | 0x2E => zeroUnder w 0x000000FF (.dcas c d a b .ok)
  | 0x2F => some (.clw c d a i)
  | 0x30 => some (.csw c d a i)
  | 0x36 => match w.toNat % 2 ^ 20 with
    | 0 => some (.tget c d)
    | 1 => some (.kget c d)
    | _ => none
  | 0x37 => match w.toNat % 2 ^ 26 with
    | 0 => some (.yieldA c)
    | 1 => some (.fence c)
    | _ => none
  | op => if 0x38 ≤ op then decodeLaw c op w else decodePoint c op w

/-- The listed encoding a code word is, none for a reserved one (R140). -/
def pierDecode (c : CoreId) (w : Word) : Option Instr :=
  (pierDecodeRaw c w).filter fun i => ((pierOp i).map (·.legal)).getD false

/-! ### The other way -/

/-- Format A (R138): op, gd, ga, gb and the function byte, S in its top bit. -/
def wordA (op : BitVec 6) (d a b : Gpr) (fn : Byte) : Word := op ++ d ++ a ++ b ++ fn

/-- The function byte with S (R138). -/
def fnS (s : Bool) (fn : BitVec 7) : Byte := BitVec.ofBool s ++ fn

/-- Format I (R138): op, two register fields and 14 bits. -/
def wordI (op : BitVec 6) (d a : Gpr) (i : BitVec 14) : Word := op ++ d ++ a ++ i

/-- A shift by an immediate: 5 bits, 9 zeros before them. -/
def wordS (op : BitVec 6) (d a : Gpr) (sh : BitVec 5) : Word := op ++ d ++ a ++ (0 : BitVec 9) ++ sh

/-- IML and IMH (R138): H and 16 bits. -/
def wordM (h : Bool) (d : Gpr) (i : BitVec 16) : Word := (0x0A : BitVec 6) ++ d ++ BitVec.ofBool h ++ (0 : BitVec 3) ++ i

/-- Point instructions (R160): op, g, q and the point. -/
def wordP (op : BitVec 6) (g : Gpr) (q : BitVec 3) (p : PtNum) : Word := op ++ g ++ q ++ p

/-- Loop-law instructions (R170): op, gd, the loop and the mode. -/
def wordL (op : BitVec 6) (g : Gpr) (l : BitVec 14) (m : BitVec 6) : Word := op ++ g ++ l ++ m

/-- The code word of a pier instruction (R138, R139); none for a command that is no instruction. -/
def pierEncode : Instr → Option Word
  | .add _ d a b s => some (wordA 0x00 d a b (fnS s 0x00))
  | .sub _ d a b s => some (wordA 0x00 d a b (fnS s 0x01))
  | .adc _ d a b s => some (wordA 0x00 d a b (fnS s 0x02))
  | .sbc _ d a b s => some (wordA 0x00 d a b (fnS s 0x03))
  | .andA _ d a b s => some (wordA 0x00 d a b (fnS s 0x04))
  | .orA _ d a b s => some (wordA 0x00 d a b (fnS s 0x05))
  | .xorA _ d a b s => some (wordA 0x00 d a b (fnS s 0x06))
  | .andn _ d a b s => some (wordA 0x00 d a b (fnS s 0x07))
  | .shl _ d a b s => some (wordA 0x00 d a b (fnS s 0x08))
  | .shr _ d a b s => some (wordA 0x00 d a b (fnS s 0x09))
  | .sar _ d a b s => some (wordA 0x00 d a b (fnS s 0x0A))
  | .ror _ d a b s => some (wordA 0x00 d a b (fnS s 0x0B))
  | .lts _ d a b => some (wordA 0x00 d a b 0x0C)
  | .ltu _ d a b => some (wordA 0x00 d a b 0x0D)
  | .minA _ d a b => some (wordA 0x00 d a b 0x0E)
  | .maxA _ d a b => some (wordA 0x00 d a b 0x0F)
  | .minu _ d a b => some (wordA 0x00 d a b 0x10)
  | .maxu _ d a b => some (wordA 0x00 d a b 0x11)
  | .addi _ d a i => some (wordI 0x01 d a i)
  | .andi _ d a i => some (wordI 0x02 d a i)
  | .ori _ d a i => some (wordI 0x03 d a i)
  | .xori _ d a i => some (wordI 0x04 d a i)
  | .shli _ d a h => some (wordS 0x05 d a h)
  | .shri _ d a h => some (wordS 0x06 d a h)
  | .sari _ d a h => some (wordS 0x07 d a h)
  | .ltsi _ d a i => some (wordI 0x08 d a i)
  | .ltui _ d a i => some (wordI 0x09 d a i)
  | .iml _ d i => some (wordM false d i)
  | .imh _ d i => some (wordM true d i)
  | .mulA _ d a b => some (wordA 0x0B d a b 0x00)
  | .mulhs _ d a b => some (wordA 0x0B d a b 0x01)
  | .mulhu _ d a b => some (wordA 0x0B d a b 0x02)
  | .mulp _ d a b => some (wordA 0x0B d a b 0x03)
  | .mulpu _ d a b => some (wordA 0x0B d a b 0x04)
  | .divA _ d a b => some (wordA 0x0B d a b 0x05)
  | .divu _ d a b => some (wordA 0x0B d a b 0x06)
  | .divm _ d a b => some (wordA 0x0B d a b 0x07)
  | .divmu _ d a b => some (wordA 0x0B d a b 0x08)
  | .qadd _ d a b => some (wordA 0x0C d a b 0x00)
  | .qsub _ d a b => some (wordA 0x0C d a b 0x01)
  | .qmul _ d a b => some (wordA 0x0C d a b 0x02)
  | .qmac _ d a b => some (wordA 0x0C d a b 0x03)
  | .qmsu _ d a b => some (wordA 0x0C d a b 0x04)
  | .qneg _ d a => some (wordA 0x0C d a 0 0x05)
  | .qabs _ d a => some (wordA 0x0C d a 0 0x06)
  | .qshl _ d a b => some (wordA 0x0C d a b 0x07)
  | .fadd _ d a b => some (wordA 0x0D d a b 0x00)
  | .fsub _ d a b => some (wordA 0x0D d a b 0x01)
  | .fmul _ d a b => some (wordA 0x0D d a b 0x02)
  | .fma _ d a b => some (wordA 0x0D d a b 0x03)
  | .fms _ d a b => some (wordA 0x0D d a b 0x04)
  | .fdiv _ d a b => some (wordA 0x0D d a b 0x05)
  | .fsqrt _ d a => some (wordA 0x0D d a 0 0x06)
  | .fmin _ d a b => some (wordA 0x0D d a b 0x07)
  | .fmax _ d a b => some (wordA 0x0D d a b 0x08)
  | .fabs _ d a => some (wordA 0x0D d a 0 0x09)
  | .fneg _ d a => some (wordA 0x0D d a 0 0x0A)
  | .fceq _ d a b => some (wordA 0x0D d a b 0x0B)
  | .fclt _ d a b => some (wordA 0x0D d a b 0x0C)
  | .fcle _ d a b => some (wordA 0x0D d a b 0x0D)
  | .fcun _ d a b => some (wordA 0x0D d a b 0x0E)
  | .itof _ d a => some (wordA 0x0D d a 0 0x10)
  | .utof _ d a => some (wordA 0x0D d a 0 0x11)
  | .qtof _ d a => some (wordA 0x0D d a 0 0x12)
  | .ftoi _ d a => some (wordA 0x0D d a 0 0x13)
  | .ftou _ d a => some (wordA 0x0D d a 0 0x14)
  | .ftoq _ d a => some (wordA 0x0D d a 0 0x15)
  | .beq _ a b i => some (wordI 0x10 a b i)
  | .bne _ a b i => some (wordI 0x11 a b i)
  | .blt _ a b i => some (wordI 0x12 a b i)
  | .bge _ a b i => some (wordI 0x13 a b i)
  | .bltu _ a b i => some (wordI 0x14 a b i)
  | .bgeu _ a b i => some (wordI 0x15 a b i)
  | .call _ d i => some (wordI 0x16 d 0 i)
  | .jmpr _ d a => some (wordI 0x17 d a 0)
  | .loopA _ n body => some ((0x18 : BitVec 6) ++ n ++ body)
  | .evt _ d a code => some (wordA 0x19 d a 0 code)
  | .csrr _ g n => some (wordI 0x1A g 0 n)
  | .csrw _ g n => some (wordI 0x1B 0 g n)
  | .trapA _ => some (wordI 0x1C 0 0 0)
  | .lw _ d a i _ => some (wordI 0x20 d a i)
  | .lh _ d a i _ => some (wordI 0x21 d a i)
  | .lhu _ d a i _ => some (wordI 0x22 d a i)
  | .lb _ d a i _ => some (wordI 0x23 d a i)
  | .lbu _ d a i _ => some (wordI 0x24 d a i)
  | .sw _ d a i => some (wordI 0x25 d a i)
  | .sh _ d a i => some (wordI 0x26 d a i)
  | .sb _ d a i => some (wordI 0x27 d a i)
  | .dlw _ d a i _ => some (wordI 0x28 d a i)
  | .dlq _ d a i _ => some (wordI 0x29 d a i)
  | .dll _ d a i _ => some (wordI 0x2A d a i)
  | .dsw _ d a i => some (wordI 0x2B d a i)
  | .dsq _ d a i => some (wordI 0x2C d a i)
  | .dsl _ d a i => some (wordI 0x2D d a i)
  | .dcas _ d a b _ => some (wordA 0x2E d a b 0x00)
  | .clw _ d a i => some (wordI 0x2F d a i)
  | .csw _ d a i => some (wordI 0x30 d a i)
  | .pld _ g p => some (wordP 0x31 g 0 p)
  | .pldP _ g p => some (wordP 0x31 g 1 p)
  | .pldR _ g p => some (wordP 0x31 g 2 p)
  | .pldX _ g p => some (wordP 0x31 g 3 p)
  | .pldN _ g p => some (wordP 0x32 g 0 p)
  | .pldNp _ g p => some (wordP 0x32 g 1 p)
  | .pst _ g p => some (wordP 0x33 g 0 p)
  | .pstX _ g p => some (wordP 0x33 g 1 p)
  | .pq _ g p => some (wordP 0x34 g 0 p)
  | .pstq _ g p q => some (wordP 0x35 g q p)
  | .tget _ d => some (wordA 0x36 d 0 0 0x00)
  | .kget _ d => some (wordA 0x36 d 0 0 0x01)
  | .yieldA _ => some (wordA 0x37 0 0 0 0x00)
  | .fence _ => some (wordA 0x37 0 0 0 0x01)
  | .pids _ g l m => some (wordL 0x38 g l m)
  | .biq _ g l m => some (wordL 0x39 g l m)
  | .casc _ g l m => some (wordL 0x3A g l m)
  | .swapkStatus _ g l m | .swapkArm _ g l m | .swapkCancel _ g l m => some (wordL 0x3B g l m)
  | .clampw _ g l m => some (wordL 0x3C g l m)
  | .rate _ g l m => some (wordL 0x3D g l m)
  | .intg _ g l m | .intgLoad _ g l m => some (wordL 0x3E g l m)
  | .prime _ g l m | .primeFetch _ g l m => some (wordL 0x3F g l m)
  | _ => none

end Sys2Proof.Machine
end

