-- ==== Sys2Proof/Machine/Admission.lean ====
section
/-! DEFINITION. The admission of a Kyovoiq image (04_pier_programming_model.md, R107 to R114): its layout, the fifteen checks in
their order, the paths of frame-partition code, and the loader's worst-case figure. -/

namespace Sys2Proof.Machine

/-- A refused image: REASON (R110), and for a failure inside a task its table index and word offset; the loader's figure of
the last task checked. -/
structure LoadFail where
  reason : Nat
  at' : Option (Nat × Nat) := none
  wcet : Option Nat := none
  deriving DecidableEq, Repr

/-! ### Layout (R107 to R109) -/

/-- `n` bytes of the deck at `a`, little-endian. -/
def State.dNum (s : State) (a n : Nat) : Nat := leBytes s.dByte a n

/-- The header fields an image's checks use (R107). -/
structure ImgHeader where
  len : Nat
  codeLen : Nat
  dataLen : Nat
  tasks : Nat
  claims : Nat
  loops : Nat
  ovlOff : Nat
  ovlLen : Nat
  budgetSum : Nat
  wcetSum : Nat
  crc : Nat
  deriving DecidableEq, Repr

/-- The header at `src`. -/
def State.imgHeader (s : State) (src : Nat) : ImgHeader where
  len := s.dNum (src + 8) 4
  codeLen := s.dNum (src + 12) 4
  dataLen := s.dNum (src + 16) 4
  tasks := s.dNum (src + 20) 2
  claims := s.dNum (src + 24) 4
  loops := s.dNum (src + 28) 2
  ovlOff := s.dNum (src + 32) 4
  ovlLen := s.dNum (src + 36) 4
  budgetSum := s.dNum (src + 40) 4
  wcetSum := s.dNum (src + 44) 4
  crc := s.dNum (src + 60) 4

/-- Where the task, claim and loop tables begin, from the start of the image. -/
def ImgHeader.taskOff (h : ImgHeader) : Nat := 64 + h.codeLen + h.dataLen
def ImgHeader.claimOff (h : ImgHeader) : Nat := h.taskOff + 24 * h.tasks
def ImgHeader.loopOff (h : ImgHeader) : Nat := h.claimOff + 36 * h.claims

/-- The CRC of R107: CRC-32C of the image with the CRC field taken as 0. -/
def State.imgCrc (s : State) (src len : Nat) : Nat :=
  crc32c ((s.dBytes src len).mapIdx fun k b => if 60 ≤ k && k < 64 then 0 else b)

/-- Task entry `i` (R108). -/
def State.imgTask (s : State) (src : Nat) (h : ImgHeader) (i : Nat) : TaskEntry :=
  let a := src + h.taskOff + 24 * i
  { taskNo := s.dNum a 2, background := s.dNum (a + 2) 1 != 0, order := s.dNum (a + 3) 1, entry := s.dNum (a + 4) 4
    budget := s.dNum (a + 8) 4, wcet := s.dNum (a + 12) 4, ctxBase := s.dNum (a + 16) 4 }

/-- Claim entry `i` (R109). -/
def State.imgClaim (s : State) (src : Nat) (h : ImgHeader) (i : Nat) : Claim :=
  let a := src + h.claimOff + 36 * i
  { pt := s.dNum a 4 % 2 ^ 17, desc := Desc.ofWords fun k => s.dNum (a + 4 + 4 * k) 4 }

/-- Claim entry `i` holds only listed encodings, reserved bits 0 (R70, R109). -/
def State.imgClaimOk (s : State) (src : Nat) (h : ImgHeader) (i : Nat) : Bool :=
  let a := src + h.claimOff + 36 * i
  let d := (s.imgClaim src h i).desc
  s.dNum a 4 < 2 ^ 17 && d.listed && (List.range 8).all fun k => d.word k == s.dNum (a + 4 + 4 * k) 4

/-- Loop entry `i`: the loop and the task (R109). -/
def State.imgLoop (s : State) (src : Nat) (h : ImgHeader) (i : Nat) : Nat × Nat :=
  let w := s.dNum (src + h.loopOff + 4 * i) 4
  (w % 2 ^ 14, w / 2 ^ 16)

/-- Bytes a code or data section may have (R107). -/
def tcmLimit (banked : Bool) : Nat := if banked then 65536 else 131072

/-! ### Steps 1 to 6 (R110) -/

/-- Steps 2 and 3: the header, and the lengths, counts, limits and overlay window. -/
def State.headerFault (s : State) (src : Nat) (banked : Bool) (h : ImgHeader) : Option Nat :=
  if !(s.dNum src 4 == 0x51594B31 && s.dNum (src + 4) 2 == 2 && s.dNum (src + 6) 2 == 0x7420 &&
      s.dNum (src + 22) 2 == banked.toNat && s.dNum (src + 30) 2 == 0 && s.dNum (src + 48) 12 == 0) then some 1
  else
    let kinds := (List.range h.tasks).map fun i => (s.imgTask src h i).background
    if h.len == h.loopOff + 4 * h.loops && h.codeLen % 4 == 0 && h.codeLen ≤ tcmLimit banked &&
        h.dataLen % 4 == 0 && h.dataLen ≤ tcmLimit banked && 1 ≤ h.tasks && h.tasks ≤ 68 &&
        kinds.count false ≤ 64 && kinds.count true ≤ 4 && h.claims ≤ 16384 && h.loops ≤ 16384 &&
        h.ovlOff % 256 == 0 && h.ovlLen % 256 == 0 && h.ovlOff + h.ovlLen ≤ tcmLimit banked &&
        (h.ovlLen != 0 || h.ovlOff == 0) then none
    else some 2

/-- A byte offset of the code lies in the overlay window. -/
def ImgHeader.inWindow (h : ImgHeader) (a : Nat) : Bool := h.ovlOff ≤ a && a < h.ovlOff + h.ovlLen

/-- Task entry `i` is sound by itself and against the entries before it (step 5); `boot` bars frame-partition tasks
(R472). -/
def State.taskOk (s : State) (src : Nat) (h : ImgHeader) (boot : Bool) (ts : List TaskEntry) (i : Nat) : Bool :=
  let a := src + h.taskOff + 24 * i
  let t := s.imgTask src h i
  s.dNum (a + 2) 1 ≤ 1 && s.dNum (a + 20) 4 == 0 && !(boot && !t.background) &&
    t.order < (if t.background then 4 else 64) &&
    !((ts.take i).any fun u => u.background == t.background && u.order == t.order) &&
    t.entry % 4 == 0 && t.entry < h.codeLen && !h.inWindow t.entry &&
    (!t.background || (t.budget == 0 && t.wcet == 0)) &&
    (t.ctxBase == 0 || (t.ctxBase % 64 == 0 && inGeneral t.ctxBase 1))

/-- The images a schedule holds. -/
def Sched.images (k : Sched) : List Image := k.active.toList ++ k.staged.toList

/-- Task number `no` is in use by another schedule than `n` (R101). -/
def State.taskElsewhere (s : State) (n no : Nat) : Bool :=
  s.pier.sched.any fun (kv : Nat × Sched) => kv.1 != n && kv.2.images.any fun i => i.tasks.any fun t => t.taskNo == no

/-- Loop `l` is held by a task of another schedule than `n` (R111). -/
def State.loopElsewhere (s : State) (n l : Nat) : Bool :=
  s.pier.sched.any fun (kv : Nat × Sched) => kv.1 != n && kv.2.images.any fun i => i.loops.any fun x => x.1 == l

/-! ### Paths of frame-partition code (steps 7 to 13) -/

/-- What following the paths of one task finds: the words reached, failures as (REASON, word), the LOOP instructions as (word,
first body word, word after the body), and the branches. -/
structure PathScan where
  reach : Nat
  fails : List (Nat × Nat) := []
  loops : List (Nat × Nat × Nat) := []
  branches : List (Nat × Nat) := []
  deriving DecidableEq, Repr

/-- Note a failure. -/
def PathScan.fail (p : PathScan) (reason word : Nat) : PathScan := { p with fails := p.fails ++ [(reason, word)] }

/-- The path goes on from word `k` to word `t`: a path that leaves the code has not ended in YIELD (step 12), and none may
enter the overlay window (step 11). -/
def PathScan.go (p : PathScan) (h : ImgHeader) (k t : Nat) : PathScan :=
  if h.codeLen ≤ 4 * t then p.fail 10 k
  else
    let p := if h.inWindow (4 * t) && !h.inWindow (4 * k) then p.fail 12 k else p
    { p with reach := p.reach ||| 2 ^ t }

/-- The offset of a B-format branch in words, as frame-partition code takes it (R149). -/
def branchOff : Instr → Option Nat
  | .beq _ _ _ o | .bne _ _ _ o | .blt _ _ _ o | .bge _ _ _ o | .bltu _ _ _ o | .bgeu _ _ _ o => some o.toNat
  | _ => none

/-- The point that step 13 checks (R111). -/
def claimedPoint : Instr → Option Nat
  | .pst _ _ p | .pstX _ _ p | .pstq _ _ p _ | .pldN _ _ p | .pldNp _ _ p => some p.toNat
  | _ => none

/-- The loop a loop-law instruction names. -/
def namedLoop : Instr → Option Nat
  | .pids _ _ l _ | .biq _ _ l _ | .casc _ _ l _ | .swapkArm _ _ l _ | .swapkCancel _ _ l _ | .swapkStatus _ _ l _
  | .clampw _ _ l _ | .rate _ _ l _ | .intg _ _ l _ | .intgLoad _ _ l _ | .prime _ _ l _ | .primeFetch _ _ l _ =>
    some l.toNat
  | _ => none

/-- Word `k` may stand in frame-partition code (step 7): a JMPR counts as decodable (R150), and a LOOP with body 0 fails at
step 10 (R151). -/
def fpWord (i : Instr) (o : PierOp) : Bool :=
  match i with
  | .jmpr .. => o.writes.all (· < 56)
  | .loopA .. => true
  | _ => o.fpOk

/-- Follow the path through word `k`, which is reached. -/
def scanWord (h : ImgHeader) (word : Nat → Word) (claimed : Nat → Bool) (held : Nat → Bool) (p : PathScan) (k : Nat) :
    PathScan :=
  if !p.reach.testBit k then p
  else match (pierDecodeRaw 0 (word k)).bind fun i => (pierOp i).map fun o => (i, o) with
    | none => p.fail 9 k
    | some (i, o) =>
      if !fpWord i o then p.fail 9 k
      else
        let p := if ((claimedPoint i).map claimed).getD true && ((namedLoop i).map held).getD true then p else p.fail 13 k
        match i with
        | .jmpr .. => p.fail 8 k
        | .yieldA _ => p
        | .loopA _ _ body =>
          let p := if body = 0 ∨ h.codeLen < 4 * (k + 1 + body.toNat) then p.fail 11 k else p
          ({ p with loops := p.loops ++ [(k, k + 1, k + 1 + body.toNat)] }).go h k (k + 1)
        | _ => match branchOff i with
          | none => p.go h k (k + 1)
          | some 0 => (p.fail 7 k).go h k (k + 1)
          | some d => (({ p with branches := p.branches ++ [(k, k + d)] }).go h k (k + 1)).go h k (k + d)

/-- Step 10: loops nested properly and at most four deep, and no branch in a body that leaves it (R153: the word just after
the body still belongs to it). -/
def PathScan.loopForm (p : PathScan) : PathScan :=
  let p := p.loops.foldl (fun p l =>
    let outer := p.loops.filter fun m => m.2.1 ≤ l.1 && l.1 < m.2.2
    if 4 ≤ outer.length || outer.any fun m => m.2.2 < l.2.2 then p.fail 11 l.1 else p) p
  p.branches.foldl (fun p b =>
    if p.loops.any fun m => m.2.1 ≤ b.1 && b.1 < m.2.2 && !(m.2.1 ≤ b.2 && b.2 ≤ m.2.2) then p.fail 11 b.1 else p) p

/-- The lowest word that fails a step. -/
def PathScan.first (p : PathScan) (reason : Nat) : Option Nat :=
  ((p.fails.filter fun f => f.1 == reason).map (·.2)).min?

/-- The first step of 7 to 13 that some task's paths fail, in the order of R110, with the task and the word. -/
def firstFail (scans : List (Nat × PathScan)) : Option (Nat × Nat × Nat) :=
  [9, 7, 8, 11, 12, 10, 13].findSome? fun reason =>
    scans.findSome? fun ip => (ip.2.first reason).map fun w => (reason, ip.1, w)

/-! ### The loader's worst case (R112) -/

/-- Time on a path: cycles so far, and cycles until each register's last result can be used. -/
structure PathTime where
  t : Nat := 0
  rel : Sparse Nat := []
  deriving DecidableEq, Repr

/-- An instruction that counts `cost` cycles issues (R112, R133). -/
def PathTime.adv (p : PathTime) (o : PierOp) (cost : Nat) : PathTime :=
  let stall := o.reads.foldl (fun m r => max m (Sparse.get p.rel 0 r)) 0
  let a := stall + cost
  let rel := (p.rel.filter fun (kv : Nat × Nat) => a < kv.2).map fun (kv : Nat × Nat) => (kv.1, kv.2 - a)
  { t := p.t + a, rel := o.writes.foldl (fun m r => Sparse.set m 0 r (o.lat - cost)) rel }

/-- The worst of two paths that meet: the later time, and for each register the later instant. -/
def PathTime.merge (p q : PathTime) : PathTime :=
  let t := max p.t q.t
  let late (x : PathTime) (r : Nat) : Nat := x.t + Sparse.get x.rel 0 r - t
  { t, rel := (mergeKeys (Sparse.keys p.rel) (Sparse.keys q.rel)).foldl
      (fun m r => Sparse.set m 0 r (max (late p r) (late q r))) [] }

/-- One pass over a stretch of code: the times at which words are reached, at which its end is, and the latest YIELD. -/
structure PathWalk where
  inc : Sparse PathTime := []
  out : Option PathTime := none
  best : Nat := 0
  deriving DecidableEq, Repr

/-- A path reaches word `k` of a stretch that ends before `hi`. -/
def PathWalk.arrive (w : PathWalk) (hi k : Nat) (p : PathTime) : PathWalk :=
  let join (o : Option PathTime) : PathTime := (o.map (·.merge p)).getD p
  if hi ≤ k then { w with out := some (join w.out) } else { w with inc := Sparse.put w.inc k (join (Sparse.find? w.inc k)) }

/-- A body passed `n` times: once a pass leaves the latencies as it found them, every further one adds the same. -/
def repeatBody (f : PathTime → Option PathTime × Nat) : Nat → PathTime → Option PathTime × Nat
  | 0, p => (some p, 0)
  | n + 1, p => match f p with
    | (none, y) => (none, y)
    | (some e, y) =>
      if e.rel = p.rel then
        let d := e.t - p.t
        (some { e with t := e.t + n * d }, if y = 0 then 0 else y + n * d)
      else
        let (o, y') := repeatBody f n e
        (o, max y y')

/-- The longest path through the words from `lo` to before `hi`, begun with `p`: the time at the end, and the latest
YIELD. `depth` bounds the nesting of counted loops. -/
def walkPath (word : Nat → Word) : Nat → Nat → Nat → PathTime → Option PathTime × Nat
  | 0, _, _, _ => (none, 0)
  | depth + 1, lo, hi, p =>
    let start : PathWalk := { inc := [(lo, p)] }
    let w := (List.range (hi - lo)).foldl (fun (w : PathWalk) k =>
      let k := lo + k
      match Sparse.find? w.inc k, pierDecodeRaw 0 (word k) with
      | some p, some i => match pierOp i with
        | none => w
        | some o => match i with
          | .yieldA _ => { w with best := max w.best (p.adv o o.wcost).t }
          | .loopA _ count body =>
            let last := k + 1 + body.toNat
            let (e, y) := repeatBody (walkPath word depth (k + 1) last) ((count - 1).toNat + 1) (p.adv o o.wcost)
            let w := { w with best := max w.best y }
            match e with
            | some q => w.arrive hi last q
            | none => w
          | _ => match branchOff i with
            | some d => (w.arrive hi (k + 1) (p.adv o 1)).arrive hi (k + d) (p.adv o 2)
            | none => w.arrive hi (k + 1) (p.adv o o.wcost)
      | _, _ => w) start
    (w.out, w.best)

/-! ### All fifteen steps -/

/-- The limit of R49 at length code `sel`, and the throttle-safe limit of R51. -/
def budgetLimit (sel : Nat) : Nat := spanUs sel * 480 - 2400
def throttleLimit (sel : Nat) : Nat := spanUs sel * 240 - 1200

/-- The length codes a schedule's budgets must fit: the one in force and an armed one (R110). -/
def State.budgetSels (s : State) : List Nat := s.sel :: (s.span.armed.map (·.2)).toList

/-- The save area of R106 for schedule `n`: in the general-use region (its register holds no lower address bits). -/
def State.bpSaveOk (s : State) (n : Nat) : Bool := inGeneral (s.rd F.PIERCTL_PIER_BPSAVE n * 64) 1152

/-- Step 13 but for the code's own claims and loops (R111). -/
def State.claimsOk (s : State) (n src : Nat) (h : ImgHeader) (img : Image) : Bool :=
  ((List.range h.claims).all fun i =>
    s.imgClaimOk src h i &&
      (let c := s.imgClaim src h i
       (c.desc.cls != 1 || img.tasks.any fun t => t.taskNo == c.desc.ownerId) &&
        !((s.desc c.pt).cls == 1 && s.taskElsewhere n (s.desc c.pt).ownerId))) &&
  ((List.range h.loops).all fun i =>
    s.dNum (src + h.loopOff + 4 * i) 4 / 2 ^ 14 % 4 == 0 &&
      (let l := s.imgLoop src h i
       !s.loopElsewhere n l.1 && img.loops.all fun m => m.1 != l.1 || m.2 == l.2))

/-- A check of step `reason`. -/
def checkStep (ok : Bool) (reason : Nat) (at' : Option (Nat × Nat) := none) (wcet : Option Nat := none) :
    Except LoadFail Unit :=
  if ok then .ok () else .error { reason, at', wcet }

/-- The first index of a list at which `p` fails. -/
def firstBad (k : Nat) (p : Nat → Bool) : Option Nat := (List.range k).find? fun i => !p i

/-- The admission of the image at `src` for schedule `n` (R110): the image, with the figure of the last task checked, or the
first failing check. Task number 0xFFFF, which R101 reserves, fails as TASK_NUMBER (log entry 163), and LOAD_DETAIL.WORD is 0
where a task fails without an offending instruction (log entry 162). -/
def State.examine (s : State) (n src : Nat) (banked boot : Bool) : Except LoadFail (Image × Option Nat) := do
  let h := s.imgHeader src
  checkStep (src % 256 == 0 && inOverlay src 64 && inOverlay src h.len) 4
  match s.headerFault src banked h with
  | some r => checkStep false r
  | none => pure ()
  checkStep (s.imgCrc src h.len == h.crc) 3
  let ts := (List.range h.tasks).map (s.imgTask src h)
  match firstBad h.tasks (s.taskOk src h boot ts) with
  | some i => checkStep false 5 (some (i, 0))
  | none => pure ()
  checkStep (!(ts.any (·.background)) || s.bpSaveOk n) 5
  match firstBad h.tasks fun i =>
      let no := (s.imgTask src h i).taskNo
      no != 0xFFFF && !((ts.take i).any fun t => t.taskNo == no) && !s.taskElsewhere n no with
  | some i => checkStep false 6 (some (i, 0))
  | none => pure ()
  let claims := (List.range h.claims).map (s.imgClaim src h)
  let loops := (List.range h.loops).map (s.imgLoop src h)
  let word (k : Nat) : Word := BitVec.ofNat 32 (s.dWord (src + 64 + 4 * k))
  let fp := (ts.zipIdx.map fun ti => (ti.2, ti.1)).filter fun (it : Nat × TaskEntry) => !it.2.background
  let scans := fp.map fun (it : Nat × TaskEntry) =>
    let no := it.2.taskNo
    (it.1, ((List.range (h.codeLen / 4)).foldl (scanWord h word
      (fun p => claims.any fun c => c.pt == p && c.desc.cls == 1 && c.desc.ownerId == no)
      (fun l => loops.contains (l, no))) { reach := 2 ^ (it.2.entry / 4) }).loopForm)
  match firstFail scans with
  | some (r, i, w) => checkStep false r (some (i, w))
  | none => pure ()
  let img : Image :=
    { src, len := h.len, crc := h.crc, banked, codeLen := h.codeLen, dataLen := h.dataLen, ovlOff := h.ovlOff
      ovlLen := h.ovlLen, tasks := ts, claims, loops, budgetSum := 0, wcetSum := 0, thrSafe := false }
  checkStep (s.claimsOk n src h img) 13
  let figs := fp.map fun (it : Nat × TaskEntry) => (it, (walkPath word 5 (it.2.entry / 4) (h.codeLen / 4) {}).2)
  let last := figs.getLast?.map (·.2)
  match figs.find? fun f => f.1.2.wcet < f.2 with
  | some f => checkStep false 14 (some (f.1.1, 0)) (some f.2)
  | none => pure ()
  match figs.find? fun f => f.1.2.budget < f.1.2.wcet with
  | some f => checkStep false 15 (some (f.1.1, 0)) (some f.2)
  | none => pure ()
  let budget := (fp.map fun (it : Nat × TaskEntry) => it.2.budget).sum
  checkStep (budget == h.budgetSum && (fp.map fun (it : Nat × TaskEntry) => it.2.wcet).sum == h.wcetSum &&
    s.budgetSels.all fun k => budget ≤ budgetLimit k) 15 none last
  pure ({ img with
    budgetSum := budget, wcetSum := (figs.map (·.2)).sum, thrSafe := decide (budget ≤ throttleLimit s.sel) }, last)

end Sys2Proof.Machine
end

