-- ==== Sys2Proof/Machine/PierCtl.lean ====
section
/-! DEFINITION. PIERCTL (04_pier_programming_model.md): loading, the in-service swap, overlays, the end of background tasks,
spares and migration (R104, R113 to R130). -/

namespace Sys2Proof.Machine

/-! ### Memories of a core -/

/-- Bytes of a core's memories from key `lo`, `size` of them, become `bs`, no more than fit, and then 0 (R115). -/
def State.fillTcm (s : State) (lo size : Nat) (bs : List Byte) : State :=
  let m := s.pier.tcm
  let new := ((bs.take size).zipIdx.filter fun bk => bk.1 != 0).map fun bk => (lo + bk.2, bk.1)
  { s with
    pier := { s.pier with tcm :=
      (m.filter fun (kv : Nat × Byte) => kv.1 < lo) ++ new ++ m.filter fun (kv : Nat × Byte) => lo + size ≤ kv.1 }
    health := { s.health with codeUpsets := s.health.codeUpsets.filter fun u => !touches lo size (4 * u.1) (4 * u.1 + 4) } }

/-- Code and data of an image go into a bank of core `c`, or into the whole memory when unbanked (R115, R116). -/
def State.copyImage (s : State) (c : Nat) (i : Image) (bankB : Bool) : State :=
  let base := c * 0x40000 + (if i.banked && bankB then 0x10000 else 0)
  let s := s.fillTcm base (tcmLimit i.banked) (s.dBytes (i.src + 64) i.codeLen)
  s.fillTcm (base + 0x20000) (tcmLimit i.banked) (s.dBytes (i.src + 64 + i.codeLen) i.dataLen)

/-! ### The loader (R113) -/

/-- LOAD_STAT.STATE codes. -/
inductive LoadState where
  | idle | admitting | staged | armed | done | aborted | refused
  deriving DecidableEq, Repr

/-- The code of a load state. -/
def LoadState.code : LoadState → Nat
  | .idle => 0 | .admitting => 1 | .staged => 2 | .armed => 3 | .done => 4 | .aborted => 5 | .refused => 6

/-- LOAD_STAT shows state `k`. -/
def State.loadTo (s : State) (k : LoadState) : State := s.wr F.PIERCTL_LOAD_STAT_STATE k.code

/-- An accepted command clears REASON and ABORT_LATE. -/
def State.loadAccept (s : State) : State := (s.wr F.PIERCTL_LOAD_STAT_REASON 0).wrB F.PIERCTL_LOAD_STAT_ABORT_LATE false

/-- A refused command or image: STATE and REASON, and event 0x211. -/
def State.loadRefuse (s : State) (n reason : Nat) : State :=
  ((s.loadTo .refused).wr F.PIERCTL_LOAD_STAT_REASON reason).raise 0x211 n []

/-- The loader is free; what waits goes on: a migration first (R127), then an admission (R113). -/
def State.loaderNext (s : State) : State :=
  let s := { s with pier := { s.pier with loader := none } }
  match s.pier.migrateQueue with
  | (n, core) :: rest =>
    { s with pier := { s.pier with loader := some (.migrating n (s.physOf n) core), migrateQueue := rest } }
  | [] => match s.pier.loadQueue with
    | (n, src, banked) :: rest =>
      { s with pier := { s.pier with loader := some (.admitting n src banked), loadQueue := rest } }
    | [] => s.wrB F.PIERCTL_STAT_LOADER_BUSY false

/-- Schedule `n` waits for its migration to a spare (R127). -/
def State.migrating (s : State) (n : Nat) : Bool :=
  (s.pier.migrateQueue.any fun q => q.1 == n) || (match s.pier.loader with
    | some (.migrating m _ _) => m == n
    | _ => false)

/-- An admission is in progress (R117). -/
def State.admitting (s : State) : Bool :=
  match s.pier.loader with
  | some (.admitting _ _ _) => true
  | _ => false

/-- A LOAD of schedule `n` can take no image now (R116): it runs unbanked, is lost or spare, its core is retired and does not
migrate, or another schedule runs on its core (log entry 165). -/
def State.loadBarred (s : State) (n : Nat) (banked : Bool) : Bool :=
  (s.schIs n .running && !banked) || s.schIs n .retired || s.schIs n .spare ||
    (s.isRetired 1 (2 * s.physOf n) && !s.migrating n) ||
    s.pier.sched.any fun (kv : Nat × Sched) => kv.1 != n && kv.2.active.isSome && s.physOf kv.1 == s.physOf n

/-- The image of a LOAD becomes active without a swap (R116): the schedule has no image, is STOPPED, or is unbanked. -/
def State.installs (s : State) (n : Nat) (banked : Bool) : Bool :=
  (s.sch n).active.isNone || s.schIs n .stopped || !banked

/-- LOAD (R115, R116): refused while a swap is armed for the schedule, and for a schedule that can take no image now; one whose
schedule migrates waits (R127). -/
def execLoadSched (sched : Fin 24) (s : State) : Out :=
  s.act [.deck] fun s =>
    let n := sched.val
    let banked := s.bit F.PIERCTL_PIER_CFG_BANKED n
    if (s.sch n).swapAt.isSome then s.loadRefuse n 16
    else if s.loadBarred n banked then s.loadRefuse n 17
    else
      let s := (s.loadAccept.loadTo .admitting).modSch n fun k => { k with swapDone := false }
      let src := s.rd F.PIERCTL_LOAD_SRC * 256
      if s.pier.loader.isSome then
        { s with pier := { s.pier with loadQueue := s.pier.loadQueue ++ [(n, src, banked)] } }
      else ({ s with pier := { s.pier with loader := some (.admitting n src banked) } }).wrB F.PIERCTL_STAT_LOADER_BUSY true

/-! ### Claims and loops of an image -/

/-- The descriptors a change of image writes (R119): the new claims, and OWNER_CLASS NONE for the points only the old image
claimed. -/
def State.claimWrites (s : State) (old : Option Image) (new : Image) : List (Nat × Desc) :=
  (((old.map (·.claims)).getD []).filter fun c => !(new.claims.any fun d => d.pt == c.pt)).map
      (fun c => (c.pt, { s.desc c.pt with cls := 0 })) ++
    new.claims.map fun c => (c.pt, c.desc)

/-- The loops that the new image gives to a task for the first time (R119, R181). -/
def freshLoops (old : Option Image) (new : Image) : List Nat :=
  (new.loops.filter fun l => !((old.map (·.loops)).getD []).contains l).map (·.1)

/-- PIERCTL gives the fresh loops; the copy made in span F − 1 left PRIME_FB due on some (R181, R204). -/
def State.giveLoops (s : State) (ls : List Nat) (kept : Bool) : State :=
  s.each ls fun s n =>
    let s := s.giveLoop n
    if kept && ((s.loopRec n).at 8).toNat / 2 ^ 30 == 2 && s.pier.keepMissed.contains n then s.setLoopWord n 1 (((s.loopRec n).mark .primeFb true).at 1) else s

/-! ### Installing an image -/

/-- What a schedule's registers show of its active image. -/
def State.showImage (s : State) (n : Nat) (i : Image) (bankB : Bool) : State :=
  let s := ((s.wr F.PIERCTL_PIER_BUDGET i.budgetSum n).wr F.PIERCTL_PIER_WCET i.wcetSum n)
  let s := (s.wrB F.PIERCTL_PIER_STAT_THR_SAFE i.thrSafe n).wrB F.PIERCTL_PIER_STAT_ACTIVE_BANK bankB n
  s.wr F.PIERCTL_PIER_BP_CTL_RUNNING (mapOf 4 fun o => i.tasks.any fun t => t.background && t.order == o) n

/-- The background tasks of a schedule start from their ENTRY (R106, R119). -/
def State.freshBackground (s : State) (n : Nat) : State :=
  { s with pier := { s.pier with shadow := s.pier.shadow.filter fun (kv : Nat × BpShadow) => kv.1 / 4 != n } }

/-- The core gives up what it runs, without saving it. -/
def State.clearCore (s : State) (c : Nat) : State :=
  s.modCore c fun k => { k with task := none, fpDone := true, bpNext := 0, slice := 0, pair := none, wrote := [] }

/-- An image becomes the active image of schedule `n`, in bank A or the whole memory (R116). -/
def State.install (s : State) (n : Nat) (i : Image) : State :=
  let c := s.physOf n
  let s := (((s.copyImage c i false).showImage n i false).freshBackground n).clearCore c
  (s.wrB F.PIERCTL_PIER_STAT_STAGED false n).modSch n fun k => { k with active := some i, staged := none }

/-- ADMISSION_DONE (R110): the image is admitted, with its claims written and its loops given when it does not wait for a
swap, or refused with the first failing check. A schedule that was lost while its LOAD waited takes none. -/
def execAdmissionDone (s : State) : Out :=
  s.act [.deck] fun s => match s.pier.loader with
    | some (.admitting n src banked) =>
      if s.loadBarred n banked then (s.loadRefuse n 17).loaderNext
      else match s.examine n src banked false with
      | .error f =>
        let s := match f.at' with
          | some (t, w) => (s.wr F.PIERCTL_LOAD_DETAIL_TASK t).wr F.PIERCTL_LOAD_DETAIL_WORD w
          | none => s
        let s := match f.wcet with
          | some c => s.wr F.PIERCTL_LOAD_WCET c
          | none => s
        (s.loadRefuse n f.reason).loaderNext
      | .ok (i, fig) =>
        let s := match fig with
          | some c => s.wr F.PIERCTL_LOAD_WCET c
          | none => s
        let s := s.raise 0x210 n []
        let install := s.installs n banked
        let old := (s.sch n).active
        let s := if install then
            ((s.each (s.claimWrites old i) fun s pd => s.stageDesc pd.1 pd.2).giveLoops (freshLoops old i) false).modSch n
              fun k => { k with startDue := false }
          else s
        { s with pier := { s.pier with loader := some (.copying n i install) } }
    | _ => s

/-- BANK_COPY_DONE (R115, R116): the image copied replaces one that was staged before, whose swap may have been armed meanwhile
(log entry 205). -/
def execBankCopyDone (s : State) : Out :=
  s.act [.deck] fun s => match s.pier.loader with
    | some (.copying n i install) =>
      let s := if install then
          (((s.install n i).schTo n .idle).modSch n fun k =>
            { k with startDue := true, early := !s.running, stopDue := false }).loadTo .done
        else
          ((s.copyImage (s.physOf n) i !(s.bankB (s.physOf n))).modSch n fun k => { k with staged := some i })
            |>.wrB F.PIERCTL_PIER_STAT_STAGED true n |>.loadTo .staged
      s.loaderNext
    | _ => s

/-! ### Swap (R117 to R119) -/

/-- ARM (R117). Of several reasons to refuse it, NOT_STAGED comes first, then TOO_SOON, then BUSY (log entry 164). -/
def execSwapArm (sched : Fin 24) (s : State) : Out :=
  s.act [.deck] fun s =>
    let n := sched.val
    let f := s.rd48 F.PIERCTL_SWAP_FRAME_LO F.PIERCTL_SWAP_FRAME_HI
    match (s.sch n).staged with
    | none => s.loadRefuse n 18
    | some i =>
      if f < s.frame + 2 then s.loadRefuse n 19
      else if (s.sch n).swapAt.isSome || s.admitting then s.loadRefuse n 16
      else
        let s := (s.loadAccept.loadTo .armed).modSch n fun k => { k with swapAt := some f, swapDone := false }
        (s.wrB F.PIERCTL_PIER_STAT_SWAP_ARMED true n).mirror (.swap n f i.crc)

/-- CANCEL (R118): before the tick of frame F − 1 it aborts; later it is ignored and sets ABORT_LATE, once the swap is done too.
With no swap armed since it has no effect. -/
def execSwapCancel (sched : Fin 24) (s : State) : Out :=
  s.act [.deck] fun s =>
    let n := sched.val
    match (s.sch n).swapAt with
    | none => if (s.sch n).swapDone then s.wrB F.PIERCTL_LOAD_STAT_ABORT_LATE true else s
    | some f =>
      if s.running && f ≤ s.frame + 1 then s.wrB F.PIERCTL_LOAD_STAT_ABORT_LATE true
      else
        ((s.loadAccept.loadTo .aborted).modSch n fun k => { k with swapAt := none })
          |>.wrB F.PIERCTL_PIER_STAT_SWAP_ARMED false n |>.mirror (.swap n 0 0)

/-- At input-close of span F − 1 the swap's descriptors are written, and the prime values of its fresh loops copied (R119,
R204). -/
def State.swapWrites (s : State) : State :=
  s.each (List.range 24) fun s n =>
    let k := s.sch n
    match k.swapAt, k.staged with
    | some f, some i =>
      if f ≠ s.frame + 1 then s
      else
        let s := s.each (s.claimWrites k.active i) fun s pd =>
          { s with pts := { s.pts with swapStaged := Sparse.put s.pts.swapStaged pd.1 pd.2 } }
        s.each (freshLoops k.active i) State.keepFetch
    | _, _ => s

/-- The swap at tick F (R118, R119). -/
def State.swapNow (s : State) (n f : Nat) (i : Image) : State :=
  let k := s.sch n
  let bankB := !s.bit F.PIERCTL_PIER_STAT_ACTIVE_BANK n
  let s := s.giveLoops (freshLoops k.active i) true
  let s := (s.showImage n i bankB).freshBackground n |>.clearCore (s.physOf n)
  let s := (s.modSch n fun k => { k with active := some i, staged := none, swapAt := none, swapDone := true })
    |>.wrB F.PIERCTL_PIER_STAT_STAGED false n |>.wrB F.PIERCTL_PIER_STAT_SWAP_ARMED false n
  (s.loadTo .done).raise 0x212 n ([n, bankB.toNat] ++ w48 f)

/-! ### STOP, background tasks, overlays -/

/-- STOP (R130). -/
def execStopSched (sched : Fin 24) (s : State) : Out :=
  s.act [.deck] fun s =>
    let n := sched.val
    if s.schIs n .running || s.schIs n .idle then s.loadAccept.modSch n fun k => { k with stopDue := true } else s

/-- BP_RESTART (R123): stopped background tasks start again from their ENTRY. -/
def State.bpRestart (s : State) (n mask : Nat) : State :=
  let orders := ((s.sch n).active.map fun i => (i.kind true).map (·.order)).getD []
  let s := s.each (orders.filter fun o => mask.testBit o && !s.mapBit F.PIERCTL_PIER_BP_CTL_RUNNING o n) fun s o =>
    ({ s with pier := { s.pier with shadow := Sparse.del s.pier.shadow (n * 4 + o) } }).setMap F.PIERCTL_PIER_BP_CTL_RUNNING o n
  s.bpTurn (s.physOf n)

/-- BP_RESTART as a command. -/
def execBpRestart (sched : Fin 24) (mask : BitVec 4) (s : State) : Out :=
  s.act [.deck] fun s => s.bpRestart sched.val mask.toNat

/-- BP_SLICE_EXPIRY (R104). -/
def execBpSliceExpiry (c : CoreId) (s : State) : Out :=
  s.act [coreDom c] fun s =>
    let k := s.core c
    if s.inBackground c then (s.setCore c { k.spend k.slice with pair := none }).bpLeave c else s

/-- OVL_START (R120). An accepted START leaves REFUSED as it was, and one with WORDS 0 copies nothing: log entry 206. -/
def execOvlStart (sched : Fin 24) (s : State) : Out :=
  s.act [.deck] fun s =>
    let n := sched.val
    let src := s.rd F.PIERCTL_PIER_OVL_SRC n * 4
    let off := s.rd F.PIERCTL_PIER_OVL_DST n * 4
    let words := s.rd F.PIERCTL_PIER_OVL_CTL_WORDS n
    let fits := ((s.sch n).active.map fun i => i.ovlOff ≤ off && off + 4 * words ≤ i.ovlOff + i.ovlLen).getD false
    if s.bit F.PIERCTL_PIER_OVL_CTL_BUSY n then s
    else if fits && inOverlay src (4 * words) then
      ({ s with pier := { s.pier with overlay := s.pier.overlay ++ [(n, src, off, words)] } }).wrB
        F.PIERCTL_PIER_OVL_CTL_BUSY true n
    else s.wrB F.PIERCTL_PIER_OVL_CTL_REFUSED true n

/-- OVL_COPY_DONE (R120). -/
def execOvlCopyDone (sched : Fin 24) (s : State) : Out :=
  s.act [.deck] fun s =>
    let n := sched.val
    match s.pier.overlay.find? fun x => x.1 == n with
    | none => s
    | some (_, src, off, words) =>
      let c := s.physOf n
      let base := c * 0x40000 + (if s.bankB c then 0x10000 else 0)
      let s := s.setTcmBytes (base + off) (s.dBytes src (4 * words))
      ({ s with pier := { s.pier with overlay := s.pier.overlay.filter fun x => x.1 != n } }).wrB
        F.PIERCTL_PIER_OVL_CTL_BUSY false n

/-! ### Traps as commands (R52, R140) -/

/-- BUDGET_OVERRUN (R52): BC of the running frame-partition task reaches 0. -/
def execBudgetOverrun (c : CoreId) (s : State) : Out :=
  s.act [coreDom c] fun s =>
    let k := s.core c
    match k.task with
    | some t => if t.background then s else (s.setCore c { k.spend k.bc with pair := none }).trap c 1
    | none => s

/-- ILLEGAL_INSTRUCTION (R132, R140): the code executes a reserved encoding, or fetches outside the code memory. -/
def execIllegalInstruction (c : CoreId) (s : State) : Out :=
  s.act [coreDom c] fun s => if (s.core c).stopped || (s.core c).stall then s else s.trap c 2

/-! ### Spares and migration (R125 to R129) -/

/-- A core can be a spare: it is on, not retired and runs no schedule. -/
def State.canSpare (s : State) (c : Nat) : Bool :=
  s.domOn (coreDom c) && !s.isRetired 1 (2 * c) &&
    !(s.pier.sched.any fun (kv : Nat × Sched) => kv.2.active.isSome && s.physOf kv.1 == c)

/-- The spares are chosen: the highest-numbered cores that passed their test (R125). -/
def State.pickSpares (s : State) : State :=
  let l := (List.range 24).reverse.filter s.canSpare
  { s with pier := { s.pier with spares := l.take (s.rd F.PIERCTL_CTL_SPARE_COUNT) } }.showSpares

/-- The background tasks of schedule `n` resume from what their save slots hold (R127). -/
def State.loadSlots (s : State) (n : Nat) : State :=
  s.each ((List.range 4).filter fun o => (s.shadowOf n o).started && inGeneral (s.slotAddr n o) 288) fun s o =>
    let a := s.slotAddr n o
    let b : BpShadow :=
      { started := true, regs := (List.range 63).map fun g => BitVec.ofNat 32 (s.dWord (a + 4 * g))
        pc := s.dWord (a + 252), flags := s.dWord (a + 256) % 64, slice := s.dWord (a + 260) }
    { s with pier := { s.pier with shadow := Sparse.put s.pier.shadow (n * 4 + o) b } }

/-- MIGRATION_COPY_DONE (R127, R128). -/
def execMigrationCopyDone (s : State) : Out :=
  s.act [.deck] fun s => match s.pier.loader with
    | some (.migrating n old new) =>
      let k := s.sch n
      let s := match k.images.find? fun i => s.imgCrc i.src i.len != i.crc with
        | some i =>
          ({ s with pier := { s.pier with spares := s.pier.spares ++ [new] } }.showSpares).loseSched n 0x215 [n, i.src]
        | none =>
          let bankB := s.bit F.PIERCTL_PIER_STAT_ACTIVE_BANK n
          let s := s.each k.active.toList fun s i => s.copyImage new i bankB
          let s := s.each k.staged.toList fun s i => s.copyImage new i !bankB
          let s := (s.wr F.PIERCTL_PIER_STAT_PHYS new n).loadSlots n
          let s := (s.setCore new {}).modSch n fun k => { k with resumeDue := true }
          s.raise 0x213 n [n, old, new]
      s.loaderNext
    | _ => s

/-! ### The tick (R42, R116, R118, R122, R127, R130, R449) -/

/-- THROTTLE halves a pier whose active image is throttle-safe (R449). -/
def State.clockCore (s : State) (n : Nat) : State :=
  let half := s.throttling && s.bit F.PIERCTL_PIER_STAT_THR_SAFE n
  (s.wrB F.PIERCTL_PIER_STAT_THROTTLED half n).modCore (s.physOf n) fun k => { k with half }

/-- What a tick does to schedule `n`. -/
def State.schedTick (s : State) (n : Nat) : State :=
  let c := s.physOf n
  let s := if (s.sch n).stopDue then
      ((s.clearCore c).schTo n .stopped).modSch n fun k => { k with stopDue := false, startDue := false }
    else s
  let s := match (s.sch n).swapAt, (s.sch n).staged with
    | some f, some i => if f ≤ s.frame then s.swapNow n f i else s
    | _, _ => s
  let s := if (s.sch n).startDue && (s.coherent || !(s.sch n).early) then
      (s.schTo n .running).modSch n fun k => { k with startDue := false }
    else s
  let s := if (s.sch n).resumeDue then
      (s.modSch n fun k => { k with resumeDue := false }).modCore c fun k => { k with stopped := false }
    else s
  if (s.sch n).active.isNone then s else s.clockCore n

/-- The tick on the pier side. Background code runs on across it, but not under THROTTLE (R104, R449). -/
def State.pierTick (s : State) : State :=
  let s := s.each (List.range 24) State.schedTick
  let s := s.each s.pier.core fun s (kv : Nat × CoreSt) => s.modCore kv.1 fun k => { k with clk := 0, ready := [], pair := none }
  s.each (List.range 24) fun s n =>
    let c := s.physOf n
    if (s.sch n).active.isNone || !(s.schIs n .running) then s
    else if s.throttling then s.bpPreempt c else s.bpTurn c

/-- The commit window closes: every pier dispatches (R42). -/
def State.dispatchAll (s : State) : State :=
  s.each (List.range 24) fun s n =>
    if (s.sch n).active.isSome then s.dispatchCore (s.physOf n) else s

/-- The loop-priming step of start-up (R204, R475): every loop of an admitted schedule. -/
def State.primeAll (s : State) : State :=
  s.each (s.pier.sched.flatMap fun (kv : Nat × Sched) => (kv.2.active.map (·.loops)).getD []) fun s l =>
    (s.keepFetch l.1).enterInit l.1

end Sys2Proof.Machine
end

