-- ==== Sys2Proof/Machine/Health.lean ====
section
/-! DEFINITION. HEALTH (17_health_and_repair.md): the housekeeping round, thermal levels, supplies, unit tests, verdicts and
retirement (R444 to R459). -/

namespace Sys2Proof.Machine

/-! ### Thermal levels (R445 to R450) -/

/-- The entry threshold of a level in °C (R446). -/
def State.thermEntry (s : State) (level : Nat) : Int :=
  if level = 1 then s.rd F.HEALTH_THR_WARN else if level = 2 then s.rd F.HEALTH_THR_THROTTLE else s.rd F.HEALTH_THR_SHUTDOWN

/-- The exit temperature of a level in °C (R446). -/
def State.thermExit (s : State) (level : Nat) : Int := s.thermEntry level - (if level = 3 then 10 else 5)

/-- The level a temperature in 1/16 °C calls for (R446). -/
def State.thermUp (s : State) (t : Int) : Nat :=
  if 16 * s.thermEntry 3 ≤ t then 3 else if 16 * s.thermEntry 2 ≤ t then 2 else if 16 * s.thermEntry 1 ≤ t then 1 else 0

/-- A falling level leaves each step only below its exit temperature (R446). -/
def State.thermFall (s : State) (t : Int) (up : Nat) : Nat → Nat
  | 0 => 0
  | l + 1 => if up < l + 1 ∧ t < 16 * s.thermExit (l + 1) then s.thermFall t up l else l + 1

/-- Solenoid channels stay disarmed until OFF is seen (R450, R509). -/
def State.solDisarm (s : State) : State := s.each (List.range 32) fun s n => s.wrB F.SOL_CH_STAT_ARMED false n

/-- Entry to SHUTDOWN (R450): the outputs are dropped and the role becomes HALTED; dispatch goes on to the next tick. -/
def State.shutdown (s : State) : State :=
  let run := s.dispatches
  let s := s.ownDrop.solDisarm.wrB F.HEALTH_THERM_STAT_HALT_HOT true
  let s := { s with health := { s.health with runOn := run, resumeStep := 0 } }
  if s.paired then s.setRole .halted else s

/-- The level falls below SHUTDOWN (R450): HALT_HOT clears; a pair enters STANDBY, a standalone device resumes. -/
def State.coolDown (s : State) : State :=
  let s := s.wrB F.HEALTH_THERM_STAT_HALT_HOT false
  if s.paired then
    if s.atStep .role then s.enterStandby.roleDone else s.enterStandby
  else { s with health := { s.health with resumeStep := 2 } }

/-- The thermal level becomes `new`; every change records its event (R446). -/
def State.thermTo (s : State) (new sensor : Nat) : State :=
  let old := s.rd F.HEALTH_THERM_STAT_LEVEL
  if new = old then s
  else
    let s := s.wr F.HEALTH_THERM_STAT_LEVEL new
    let s := s.event (if old < new then 0xBFF + new else 0xC03)
      [new, wInt (s.rdS F.HEALTH_THERM_STAT_TMAX), sensor]
    if new = 3 then s.shutdown else if old = 3 then s.coolDown else s

/-- TMAX and the sensor giving it (R445). Which of two equal sensors is named, and what is named when a whole die is left out,
the specification does not say. -/
def State.thermMax (s : State) : State :=
  let bad (i : Nat) : Bool := s.mapBit F.HEALTH_THERM_STAT_TS_BAD i
  if [0, 1, 2, 3].all bad || [4, 5, 6, 7].all bad then
    let (k, s) := s.free 92
    (s.wr F.HEALTH_THERM_STAT_HOT_SENSOR (k % 8)).wrS F.HEALTH_THERM_STAT_TMAX (16 * s.thermEntry 3)
  else
    let ok := (List.range 8).filter fun i => !bad i
    let temp (i : Nat) : Int := s.rdS F.HEALTH_TS i
    let top := (ok.map temp).foldl max (-32768)
    let hot := ok.filter fun i => temp i == top
    let s := s.wrS F.HEALTH_THERM_STAT_TMAX top
    if hot.length ≤ 1 then s.wr F.HEALTH_THERM_STAT_HOT_SENSOR (hot.headD 0)
    else
      let (k, s) := s.free 92
      s.wr F.HEALTH_THERM_STAT_HOT_SENSOR (hot.getD (k % hot.length) 0)

/-- A reading of thermal sensor `i` in 1/16 °C is evaluated (R445, R446). -/
def State.thermEval (s : State) (i : Nat) (t : Int) : State :=
  let s := s.wrS F.HEALTH_TS t i
  let s := if t < 16 * (-55) ∨ 16 * 150 < t then
      (s.setMap F.HEALTH_THERM_STAT_TS_BAD i).event 0xC0C [i, wInt t]
    else s.clrMap F.HEALTH_THERM_STAT_TS_BAD i
  let s := s.thermMax
  let m := s.rdS F.HEALTH_THERM_STAT_TMAX
  let up := s.thermUp m
  let level := s.rd F.HEALTH_THERM_STAT_LEVEL
  s.thermTo (if level < up then up else s.thermFall m up level) (s.rd F.HEALTH_THERM_STAT_HOT_SENSOR)

/-- THERMAL_COMPARATOR (R447): a crossing sets SHUTDOWN. -/
def execThermalComparator (i : Fin 8) (s : State) : Out := s.act [] fun s => s.thermTo 3 i.val

/-- THR_WRITE (R448): a write that would raise a threshold above its reset value, or break their order, is ignored whole. -/
def State.thrWrite (s : State) (w : Nat) : State :=
  let warn := w % 256
  let thr := w / 256 % 256
  let shut := w / 65536 % 256
  if warn ≤ 105 ∧ thr ≤ 115 ∧ shut ≤ 125 ∧ warn < thr ∧ thr < shut then
    ((s.wr F.HEALTH_THR_WARN warn).wr F.HEALTH_THR_THROTTLE thr).wr F.HEALTH_THR_SHUTDOWN shut
  else s

/-- THR_WRITE (R448). -/
def execThrWrite (d : Word) (s : State) : Out := s.act [] fun s => s.thrWrite d.toNat

/-! ### Supplies and the reference (R451) -/

/-- The window of supply `j` in mV (R451). -/
def supplyWindow : Nat → Nat × Nat
  | 0 => (18000, 32000)
  | 1 => (9000, 48000)
  | 2 => (12000, 60000)
  | 3 => (776, 824)
  | 4 => (1710, 1890)
  | 5 => (3135, 3465)
  | 6 => (855, 945)
  | 7 => (2600, 3300)
  | _ => (11000, 13000)

/-- Supply `j` is checked now: VSOL and VMOT only while their domains are on (R451). -/
def State.supplyChecked (s : State) (j : Nat) : Bool :=
  if j = 1 then s.domOn .sol else if j = 2 then s.domOn .mot else true

/-- A reading of supply `j` in mV is evaluated (R451). -/
def State.supplyEval (s : State) (j v : Nat) : State :=
  let s := s.wr F.HEALTH_SUP v j
  let (lo, hi) := supplyWindow j
  let others := s.health.supHigh.filter (· != j)
  if !s.supplyChecked j then s
  else if v < lo then
    ({ s with health := { s.health with supHigh := others } }.setMap F.HEALTH_SUP_STAT j).event 0xC04 [j, v]
  else if hi < v then
    ({ s with health := { s.health with supHigh := j :: others } }.setMap F.HEALTH_SUP_STAT j).event 0xC04 [j, v]
  else if s.mapBit F.HEALTH_SUP_STAT j &&
      (if s.health.supHigh.contains j then decide (100 * v ≤ 98 * hi) else decide (102 * lo ≤ 100 * v)) then
    (s.clrMap F.HEALTH_SUP_STAT j).event 0xC05 [j, v]
  else s

/-- A deviation of the reference in ppm is evaluated (R451). -/
def State.refEval (s : State) (dev : Int) : State :=
  if !s.bit F.CONV_REF_STAT then s.wr F.HEALTH_REF_DEV 0
  else
    let s := s.wrS F.HEALTH_REF_DEV dev
    if 500 < dev.natAbs then
      ({ s with health := { s.health with refGood := 0 } }.wrB F.HEALTH_REF_REF_BAD true).event 0xC06 [wInt dev]
    else if s.health.refGood = 0 then { s with health := { s.health with refGood := 1 } }
    else s.wrB F.HEALTH_REF_REF_BAD false

/-! ### Slice calibration health (R452) -/

/-- Every slice in service has been visited within the last four rotations (R452). -/
def State.calEval (s : State) : State :=
  if !s.bit F.CONV_CAL_CTL_ROT_EN then s
  else
    s.each ((List.range 17).filter fun k =>
        !s.isRetired 2 k && decide (Sparse.get s.health.visited 0 k + 4 < s.conv.rotations)) fun s k =>
      s.event 0xC0D [k]

/-- CALDRIFT_TIMER (R452): PERM has been set for 86,400 s of operation. The slice is SS, which serves the group for good. -/
def execCaldriftTimer (s : State) : Out :=
  s.act [] fun s =>
    if s.bit F.CONV_CAL_STAT_PERM && !s.bit F.HEALTH_STAT_CALDRIFT then
      (s.wrB F.HEALTH_STAT_CALDRIFT true).event 0xC0A [16, s.rd F.CONV_CAL_STAT_SS_GROUP]
    else s

/-! ### Retirement (R457, R458) -/

/-- A retired gate's channel, or the four channels of its group, are disabled, and REASON reads RETIRED (R457). -/
def State.retireGate (s : State) (kind ch : Nat) : State :=
  match kind with
  | 0 => (s.solDisable ch).wr F.SOL_CH_STAT_REASON 4 ch
  | 1 => (s.motDisable ch).wr F.MOT_CH_STAT_REASON 4 ch
  | 2 => (s.fanDisable ch).wr F.FAN_CH_STAT_REASON 2 ch
  | _ => s.each [4 * ch, 4 * ch + 1, 4 * ch + 2, 4 * ch + 3] fun s n => (s.solDisable n).wr F.SOL_CH_STAT_REASON 4 n

/-- A lane goes DOWN for its test or for good (R453, R457): 0 and 1 are the ring ports, 2 and 3 the twin lanes. The
specification gives no code for this cause of event 0xA00. -/
def State.laneDown (s : State) (l : Nat) : State :=
  if 2 ≤ l then s.twinLaneDown (l - 2)
  else
    let (c, s) := s.free 93
    s.portDown l (c % 256)

/-- The unit index names a unit of the class (R453). -/
def unitExists (cls unit : Nat) : Bool :=
  match cls with
  | 0 => decide (unit < 32768)
  | 1 => decide (unit < 48)
  | 2 => decide (unit < 17)
  | 3 => match unit / 64 with
    | 0 => decide (unit % 64 < 32)
    | 1 => decide (unit % 64 < 12)
    | 2 => decide (unit % 64 < 16)
    | 3 => decide (unit % 64 < 8)
    | _ => false
  | 4 => decide (unit < 4)
  | _ => false

/-- A unit is retired, from `source`: 0 for a LASTING verdict, 1 for HEALTH_RETIRE (R457, R458, R459). -/
def State.retire (s : State) (cls unit source : Nat) : State :=
  if !unitExists cls unit || s.isRetired cls unit then s
  else
    match cls with
    | 0 => s.retireRow unit source
    | 1 => s.retireTcm unit source
    | 2 => s.retireSlice unit source
    | 3 => ((s.setMap (retGate (unit / 64)) (unit % 64)).event 0xC08 [3, unit, source]).retireGate (unit / 64) (unit % 64)
    | _ => ((s.setMap F.HEALTH_RET_LANE unit).event 0xC08 [4, unit, source]).laneDown unit

/-- The retirements that verdicts made due are carried out (R457). -/
def State.retireDue (s : State) : State :=
  ({ s with health := { s.health with due := [] } }).each s.health.due fun s u => s.retire u.1 u.2.1 u.2.2

/-- The initiators that may retire a unit (R458). -/
def mayRetire : Initiator → Bool
  | .host | .net => true
  | _ => false

/-- A write of HEALTH_RETIRE (R458): ignored whole from another initiator, and for a retired unit. A reserved CLASS leaves
the field as it was (R8). -/
def State.retireWrite (s : State) (i : Initiator) (cmd : Bool) (cls unit : Nat) : State :=
  let k := if cls ≤ 4 then cls else s.rd F.HEALTH_RETIRE_CLASS
  if !mayRetire i || (cmd && s.isRetired k unit) then s
  else
    let s := ((s.wr F.HEALTH_RETIRE_CLASS k).wr F.HEALTH_RETIRE_UNIT unit).wrB F.HEALTH_RETIRE_CMD cmd
    if cmd then s.retire k unit 1 else s

/-- HEALTH_RETIRE (R458): a write of HEALTH_RETIRE with CMD 1. -/
def execHealthRetire (i : Initiator) (cls : BitVec 3) (unit : BitVec 15) (s : State) : Out :=
  s.act [] fun s => s.retireWrite i true cls.toNat unit.toNat

/-! ### Tests (R453 to R456) -/

/-- What starting the test of a unit does to the unit (R453): a lane goes DOWN, and background code leaves the pier whose
memory is tested. -/
def State.testBegins (s : State) (cls unit : Nat) : State :=
  if !s.health.running.contains (cls, unit) then s
  else if cls = 4 then s.laneDown unit
  else if cls = 1 then s.bpPreempt (unit / 2)
  else s

/-- An error of a unit is passed to HEALTH (R453, R455). -/
def State.unitError (s : State) (cls unit : Nat) : State := ((s.startTest cls unit).testBegins cls unit).retireDue

/-- A TRANSIENT verdict returns the unit to service (R122, R243, R456). -/
def State.unitReturns (s : State) (cls unit : Nat) : State :=
  match cls with
  | 1 =>
    let c := unit / 2
    let n := s.schedOf c
    if (s.core c).stopped && (s.sch n).active.isSome then s.modSch n fun k => { k with resumeDue := true } else s.bpTurn c
  | 2 => s.sliceCleared unit
  | _ => s

/-- SELFTEST_DONE (R456): the running test of a class ends. A gate test gives no verdict while DRIVING is 0 (R455). -/
def execSelftestDone (cls : Fin 5) (pass : Bool) (s : State) : Out :=
  s.act [] fun s => match (testsOf s.health.running cls).head? with
    | none => s
    | some (c, unit) =>
      if c = 3 && !s.driving then s
      else
        let s := { s with health := { s.health with running := s.health.running.filter (· != (c, unit)) } }
        let s := s.verdict c unit pass
        let lasting := s.health.due.contains (c, unit, 0)
        let s := s.retireDue
        if lasting || s.isRetired c unit then s else s.unitReturns c unit

/-- SELFTEST_QUEUED_START (R455): the oldest test waiting in a class starts when none of its class runs. -/
def execSelftestQueuedStart (cls : Fin 5) (s : State) : Out :=
  s.act [] fun s => match s.testsBusy cls, (testsOf s.health.queued cls).head? with
    | false, some t =>
      ({ s with health := { s.health with
        running := s.health.running ++ [t], queued := s.health.queued.filter (· != t) } }.showQueue cls).testBegins t.1 t.2
    | _, _ => s

/-- LANE_ERRORED_BLOCKS (R453): a LANE test of the lane starts. -/
def execLaneErroredBlocks (l : Fin 4) (s : State) : Out := s.act [.link] fun s => s.unitError 4 l

/-- The slots in which tracking entries expire (R444). -/
def expirySlot (frame : Nat) : Bool := decide (27 ≤ frame % 32)

/-- TRACK_EXPIRY (R456): in the expiry slots every entry whose window has passed is freed. -/
def execTrackExpiry (s : State) : Out :=
  s.act [] fun s =>
    if !expirySlot s.frame then s
    else
      let t := s.health.track.filter fun e =>
        decide (s.nowUs - e.start < s.rd F.HEALTH_CLASS_CFG_WINDOW e.cls * 60000000)
      { s with health := { s.health with track := t } }

/-! ### The tick (R444, R449, R450) -/

/-- The actions of THROTTLE and the end of a SHUTDOWN take their step at the tick (R449, R450). -/
def State.healthLatch (s : State) : State :=
  let k := s.health.resumeStep
  let s := { s with health := { s.health with
    throttled := decide (2 ≤ s.rd F.HEALTH_THERM_STAT_LEVEL), runOn := false, resumeStep := k - 1 } }
  if k = 1 && s.atStep .output && !s.bit F.TWIN_STAT_OWN_IN then s.ownRaise else s

/-- The measurement `m` of span `frame`'s slot is evaluated at the tick that ends the span (R444). -/
def State.healthEval (s : State) (frame m : Nat) : State :=
  let slot := frame % 64
  let s := s.retireDue
  if slot % 16 < 8 then s.thermEval (slot % 8) (signed 16 m)
  else if slot < 16 || (40 ≤ slot && slot < 48) then s.supplyEval (slot % 8) (m % 65536)
  else if slot % 32 = 24 then s.refEval (signed 16 m)
  else if slot % 32 = 25 then s.supplyEval 8 (m % 65536)
  else if slot % 32 = 26 then s.calEval
  else s

end Sys2Proof.Machine
end

