-- ==== Sys2Proof/Machine/Faults.lean ====
section
/-! DEFINITION. Events of the outside world that several chapters answer: channel faults with their gate test (R280, R301,
R321), zero-cross marks (R331), the twin's fixed instants (R372, R373, R376), and the gate supply (R460). -/

namespace Sys2Proof.Machine

/-! ### Channel faults -/

/-- HSWk_G fails its test: every channel of group `k` in PICK, HOLD or WAIT enters FAULT, and one whose stroke an ABORT ended
in this cycle; then the group is looked at once (R272, R280). -/
def State.solSwitchFault (s : State) (k : Nat) : State :=
  ((s.each ((groupOf k).filter fun m => s.solDrives m || s.solIs m .wait || s.solJustAborted m)
    fun s m => s.solFaultIn m 3).solGroup k).unitError 3 (gateUnit 3 k)

/-- A fault the channel or its high side detects (R280): OVERCURRENT, GATE, HS_GATE or CLAMP. A GATE fault is tested. A clamp
acts in any state and is recorded in any (R259); a channel in OFF stays there. -/
def State.solDetect (s : State) (n reason : Nat) : State :=
  match reason with
  | 1 => if s.solIs n .fault then s else s.solFault n 1
  | 2 => if s.solIs n .off then s else (s.solFault n 2).unitError 3 (gateUnit 0 n)
  | 3 => s.solSwitchFault (n / 4)
  | 7 => if s.solIs n .off then s.solRecord n 7 else s.solFault n 7
  | _ => s

/-- SOL_CHANNEL_FAULT (R280). -/
def execSolChannelFault (n : Fin 32) (reason : BitVec 4) (s : State) : Out :=
  s.act [.sol] fun s => s.inCycle fun s => s.solDetect n reason.toNat

/-- A fault a motor channel detects (R301): OVERCURRENT, GATE or VMOT. -/
def State.motDetect (s : State) (n reason : Nat) : State :=
  if s.motIs n .off || s.motIs n .fault then s
  else match reason with
    | 1 => s.motFault n 1
    | 2 => (s.motFault n 2).unitError 3 (gateUnit 1 n)
    | 3 => s.motFault n 3
    | _ => s

/-- MOT_CHANNEL_FAULT (R301). -/
def execMotChannelFault (n : Fin 12) (reason : BitVec 4) (s : State) : Out :=
  s.act [.mot] fun s => s.inCycle fun s => s.motDetect n reason.toNat

/-- A fault a fan channel detects (R321): OVERCURRENT, which needs a current sense (R308), or GATE. -/
def State.fanDetect (s : State) (n reason : Nat) : State :=
  if s.fanIs n .off || s.fanIs n .fault then s
  else match reason with
    | 1 => if s.rd F.FAN_CH_CFG_DRIVE n = 0 then s else s.fanFault n 1
    | 2 => (s.fanFault n 2).unitError 3 (gateUnit 2 n)
    | _ => s

/-- FAN_CHANNEL_FAULT (R321). -/
def execFanChannelFault (n : Fin 16) (reason : BitVec 4) (s : State) : Out :=
  s.act [.fan] fun s => s.inCycle fun s => s.fanDetect n reason.toNat

/-! ### Zero-cross marks -/

/-- ZERO_CROSS_MARK (R331): while TRACKING is 1, of an active line: a rising mark of the reference line ends a cycle (R345), and every mark feeds
the switching slots (R334) and the sequencer triggers (R219). -/
def execZeroCrossMark (line : Fin 3) (rising : Bool) (s : State) : Out :=
  s.act [.meter] fun s =>
    if !(s.bit F.METER_STAT_TRACKING && s.phases.contains line.val) then s
    else
      let s := if rising && s.rd F.METER_STAT_FREF_USED == line.val then s.countCycle s.convAbs else s
      let s := s.zswMark line rising
      if s.domOn .conv then s.zcTriggers line rising else s

/-! ### The twin's instants before a tick -/

/-- Time passes to `d` CK_DECK cycles before the next tick; without ticks there is no such instant. -/
def State.beforeTick (s : State) (d : Nat) (f : State → State) : State :=
  if s.running then f (s.toPhase (s.spanCyc - d)) else s

/-- HEARTBEAT_DEADLINE (R372): 2 µs before the tick. -/
def execHeartbeatDeadline (s : State) : Out := s.act [.deck] fun s => s.beforeTick 800 State.judge

/-- TAKEOVER (R373): 1 µs before the tick. -/
def execTakeover (s : State) : Out := s.act [.deck] fun s => s.beforeTick 400 State.takeover

/-- RELEASE_DROP (R376): 2 µs before the tick. -/
def execReleaseDrop (s : State) : Out := s.act [.deck] fun s => s.beforeTick 800 State.relDrop

/-! ### The gate supply -/

/-- VGD_LOW (R460): VGD falls below 10.5 V, or returns; while it is low every gate driver holds its output low. The level is the
supply's, whatever the device does. -/
def execVgdLow (low : Bool) (s : State) : Out :=
  .next { (if low then s.motVgdLow else s) with power := { s.power with vgdLow := low } }

end Sys2Proof.Machine
end

