-- ==== Sys2Proof/Machine/Reset.lean ====
section
/-! DEFINITION. Resets (18_power_reset_boot.md, R461 to R469) and what leads to them: the joint (R11 to R15), clock loss
(R32), the watchdog (R467), twin-ordered resets (R468). -/

namespace Sys2Proof.Machine

/-! ### The reset itself (R463 to R465) -/

/-- The reset causes of R463. -/
inductive Cause where
  | por | pin | wdog | twin | soft | joint | clock
  deriving DecidableEq, Repr

/-- The code of a reset cause. -/
def Cause.code : Cause → Nat
  | .por => 0 | .pin => 1 | .wdog => 2 | .twin => 3 | .soft => 4 | .joint => 5 | .clock => 6

/-- A register-file key lies in control block `b` (R28). -/
def keyInBlock (b k : Nat) : Bool :=
  decide ((0x40000000 + b * 0x10000) * 32 ≤ k) && decide (k < (0x40000000 + (b + 1) * 0x10000) * 32)

/-- The registers of a block take their reset values. -/
def State.clearBlock (s : State) (b : Nat) : State := { s with rf := s.rf.filter fun (kv : Nat × Nat) => !keyInBlock b kv.1 }

/-- The LOST bits of SYS_PLL_STAT (R38). -/
def lostFields : List Fld :=
  [F.SYS_PLL_STAT_PLL_D_LOST, F.SYS_PLL_STAT_PLL_L_LOST, F.SYS_PLL_STAT_PLL_N_LOST, F.SYS_PLL_STAT_PLL_B_LOST,
    F.SYS_PLL_STAT_LF_LOST]

/-- What a reset leaves of the keystone: everything (R409); a freeze of the visible count ends (R504), and the deck die's copy
is gone. -/
def State.keepAfterReset (s : State) : KeepSt :=
  { s.keep with frozen := false, catchUp := s.keep.catchUp || s.keep.frozen, copyCount := 0, copyEpoch := 0 }

/-- Every domain but PD_KEEP is cleared (R464); the levels of pins, the test access port and the model's own fields stay. -/
def State.wiped (s : State) (r : RstPhase) : State :=
  { pending := s.pending
    rf := Sparse.del (s.rf.filter fun (kv : Nat × Nat) => keyInBlock 12 kv.1) (F.KEEP_STAT_FROZEN.key 0 0)
    keep := s.keepAfterReset
    power := { rst := r, vgdLow := s.power.vgdLow, lfDead := s.power.lfDead
               bootPins := s.power.bootPins, rolePin := s.power.rolePin }
    dbg := { pin := s.dbg.pin, xIn := s.dbg.xIn, ir := s.dbg.ir, roAddr := s.dbg.roAddr, roBad := s.dbg.roBad
             dr := s.dbg.dr, drValid := s.dbg.drValid, boundary := s.dbg.boundary }
    freeCtr := s.freeCtr }

/-- The residue block is written before the accumulators are cleared (R351 cause 2, R464). -/
def State.resetResidue (s : State) (c : Cause) : State :=
  if c != .por && s.domOn .meter && s.bit F.METER_PF_CTL_BLK_EN then (s.residueSnap 2).writeResidue else s

/-- The BOOT and ROLE_PREF pins are sampled as a reset, of any cause, is released (R365, R471). -/
def State.samplePins (s : State) : State :=
  (s.wr F.SYS_BOOT_STAT_PINS s.power.bootPins.toNat).wrB F.TWIN_STAT_ROLE_PREF s.power.rolePin

/-- The board gives the pins these levels (log entry 201). -/
def State.setPins (s : State) (boot : BitVec 2) (pref : Bool) : State :=
  { s with power := { s.power with bootPins := boot, rolePin := pref } }

/-- A reset of cause `c` (R463 to R465). One that arrives while another is in progress is absorbed: HIST records it. -/
def State.resetBy (s : State) (c : Cause) (r : RstPhase) : State :=
  if s.power.rst ≠ .running then
    { s.setMap F.SYS_RST_CAUSE_HIST c.code with power := { s.power with rst := if r = .asserted then r else s.power.rst } }
  else
    let s := s.resetResidue c
    let hist := if c = .por then 1 else s.rd F.SYS_RST_CAUSE_HIST ||| 2 ^ c.code
    let lost := if c = .por then [] else lostFields.filter fun f => s.bit f
    let w := ((s.wiped r).wr F.SYS_RST_CAUSE_CAUSE c.code).wr F.SYS_RST_CAUSE_HIST hist
    let w := w.each lost fun w f => w.wrB f true
    let w := if r = .asserted then w else w.samplePins
    w.wrB F.TWIN_STAT_OWN_IN (s.bit F.TWIN_STAT_OWN_IN)

/-- A reset that the supervisor makes after it dropped OWN_OUT for a lost joint or clock (R15, R32, R363): the event of the drop
is held over the reset (R441), after the event `first` of a lost clock. -/
def State.resetReleased (s : State) (c : Cause) (first : List (Nat × List Nat)) : State :=
  let own := s.bit F.TWIN_STAT_OWN_OUT
  let s := (s.resetBy c .cleared).each first fun s e => s.event e.1 e.2
  if own then s.releaseEvent else s

/-- POR_ASSERT (R461). -/
def execPorAssert (s : State) : Out := .next (s.resetBy .por .asserted)

/-- POR_RELEASE (R461). -/
def execPorRelease (boot : BitVec 2) (rolePref : Bool) (s : State) : Out :=
  .next (if s.power.rst = .asserted then
    ({ s with power := { s.power with rst := .cleared } }.setPins boot rolePref).samplePins
    else s.setPins boot rolePref)

/-- RST_PIN (R463): RST_N has been low for at least 1 µs, and is released. -/
def execRstPin (boot : BitVec 2) (rolePref : Bool) (s : State) : Out :=
  .next ((s.setPins boot rolePref).resetBy .pin .cleared).samplePins

/-! ### Watchdog, software, twin (R467 to R469) -/

/-- WDOG_ENABLE (R467). -/
def execWdogEnable (s : State) : Out := s.act [] fun s => s.wrB F.SYS_WDOG_CTL_EN true

/-- WDOG_KICK (R467): the key restarts the period; any other value resets while the watchdog runs. -/
def execWdogKick (v : Word) (s : State) : Out :=
  s.act [] fun s =>
    let s := s.wr F.SYS_WDOG_KICK v.toNat
    if s.bit F.SYS_WDOG_CTL_EN && v != 0x5AFE then s.resetBy .wdog .cleared else s

/-- WDOG_EXPIRY (R467): the count pauses while the device is frozen. -/
def execWdogExpiry (s : State) : Out :=
  s.act [] fun s => if s.bit F.SYS_WDOG_CTL_EN && !s.dbg.frozen then s.resetBy .wdog .cleared else s

/-- SOFT_RESET (R469). -/
def execSoftReset (s : State) : Out := s.act [] fun s => s.resetBy .soft .cleared

/-- CMD TWIN: the order goes out over the twin link, where one is alive (R468). -/
def State.resetOrder (s : State) : State :=
  if s.domOn .link && s.twinAlive then { s with twin := { s.twin with ordersOut := s.twin.ordersOut + 1 } } else s

/-- TWIN_RESET_CMD (R468): the write of SYS_RST_CMD with the key that sends the order. -/
def execTwinResetCmd (s : State) : Out :=
  s.act [] fun s => ((s.wr F.SYS_RST_CMD_KEY 0xC3A5).wr F.SYS_RST_CMD_CMD 2).resetOrder

/-- TWIN_RESET_ORDER (R468): the partner's order is obeyed under TWIN_OK while DRIVING is 0, and refused otherwise. -/
def execTwinResetOrder (s : State) : Out :=
  s.act [.deck, .link] fun s =>
    if s.bit F.SYS_RST_CTL && !s.driving then s.resetBy .twin .cleared else s.event 0x00A [s.rd F.TWIN_PARTNER_ID]

/-! ### The joint (R11, R14, R15) -/

/-- JOINT_FRAME (R11, R14, R15): errors confined to one lane are corrected; any other resets the device. -/
def execJointFrame (badLanes : List (Fin 64)) (s : State) : Out :=
  s.act [] fun s =>
    if !s.joint then s
    else match badLanes with
      | [] => s
      | [l] => (s.incSat F.SYS_JOINT_STAT_CORR_COUNT).wr F.SYS_JOINT_STAT_BAD_LANE l
      | _ => s.resetReleased .joint []

/-- JOINT_SILENCE (R15). -/
def execJointSilence (s : State) : Out := s.act [] fun s => if s.joint then s.resetReleased .joint [] else s

/-! ### Clocks (R32, R38) -/

/-- The LOST and LOCK bits of a clock. -/
def clkFields : Clk → Fld × Fld
  | .pllD => (F.SYS_PLL_STAT_PLL_D_LOST, F.SYS_PLL_STAT_PLL_D_LOCK)
  | .pllB => (F.SYS_PLL_STAT_PLL_B_LOST, F.SYS_PLL_STAT_PLL_B_LOCK)
  | .pllL => (F.SYS_PLL_STAT_PLL_L_LOST, F.SYS_PLL_STAT_PLL_L_LOCK)
  | .pllN => (F.SYS_PLL_STAT_PLL_N_LOST, F.SYS_PLL_STAT_PLL_N_LOCK)
  | .lf => (F.SYS_PLL_STAT_LF_LOST, F.SYS_PLL_STAT_LF_RUN)

/-- SYS_PLL_STAT as a word. -/
def State.pllWord (s : State) : Nat := s.peekReg R.SYS_PLL_STAT 0 0

/-- A clock is lost (R32): its LOST bit is set and the action of its row follows. The event of a loss that resets the device is
held over the reset (R441). -/
def State.clockLost (s : State) (k : Clk) : State :=
  let (lost, lock) := clkFields k
  let s := (s.wrB lost true).wrB lock false
  let w := s.pllWord
  match k with
  | .pllD | .pllB => s.resetReleased .clock [(0x008, [w])]
  | .pllL =>
    let s := ((s.event 0x008 [w]).twinLaneDown 0).twinLaneDown 1
    (s.laneDown 0).laneDown 1
  | .pllN => s.event 0x008 [w]
  | .lf => { s with power := { s.power with lfDead := true } }.event 0x008 [w]

/-- PLL_LOCK_LOSS (R32): the supervisor sees it with the clocks gated by a freeze too, which a reset then ends (R504). -/
def execPllLockLoss (k : Clk) (s : State) : Out := .next (if s.power.rst = .asserted then s else s.clockLost k)

/-- DEVICE_ID_LOCK (R37). -/
def execDeviceIdLock (s : State) : Out := s.act [] fun s => s.wrB F.SYS_DEVICE_ID_LOCK true

end Sys2Proof.Machine
end

