-- ==== Sys2Proof/Machine/Freeze.lean ====
section
/-! DEFINITION. Freeze, readout and thaw (20_freeze_and_readout.md, R502 to R509). -/

namespace Sys2Proof.Machine

/-! ### Sources (R502, R503) -/

/-- The sources active now: PIN, TWIN, RING, SOFT (R502). -/
def State.sources (s : State) : Nat :=
  s.dbg.pin.toNat + 2 * (s.dbg.xIn && s.bit F.TWIN_CTL_EN).toNat + 4 * s.dbg.ring.toNat + 8 * s.dbg.soft.toNat

/-- The sources are accepted: STEP has reached CONFIG (R502). -/
def State.acceptsFreeze (s : State) : Bool :=
  s.power.rst == .running && !s.atStep .build && !s.atStep .boot && !s.atStep .dead

/-- FRZ_X_OUT is high while the device is frozen from PIN, RING or SOFT (R503). -/
def State.showXOut (s : State) : State :=
  { s with dbg := { s.dbg with xOut := s.dbg.frozen && (s.dbg.pin || s.dbg.ring || s.dbg.soft) } }

/-! ### The sequence (R504, R505) -/

/-- The device freezes (R504): the instant is captured, a marker is launched if enabled, OWN_OUT falls and every drive
channel goes to its disposition. -/
def State.freezeNow (s : State) : State :=
  let src := s.sources
  let s := (s.wr F.DBG_FRZ_STAT_SOURCES src).wr F.DBG_FRZ_STAT_OFFSET s.offset
  let s := s.wr48 F.DBG_FRZ_FRAME_LO F.DBG_FRZ_FRAME_HI s.frame
  let launch := s.bit F.DBG_FRZ_CTL_RING_OUT && (s.dbg.pin || s.dbg.soft)
  let s := { s with dbg := { s.dbg with
    frozen := true, drove := s.driving, wasActive := s.roleIs .active, hadOut := s.bit F.TWIN_STAT_OWN_OUT
    markerOut := if launch then 3 else s.dbg.markerOut } }
  s.ownDrop.solDisarm

/-- Lanes of the twin link and the ring go down, to retrain (R508). -/
def State.lanesDown (s : State) : State := (((s.twinLaneDown 0).twinLaneDown 1).laneDown 0).laneDown 1

/-- Frame-partition tasks in progress end with the abandoned span (R508). -/
def State.dropTasks (s : State) : State :=
  s.each (List.range 24) fun s c =>
    match (s.core c).task with
    | some t => if t.background then s else s.modCore c fun k => { k with task := none, fpDone := true, wrote := [], pair := none }
    | none => s.modCore c fun k => { k with fpDone := true }

/-- A device of a ring enters JOINING; one that was the master is no longer, and follows the master whose marker comes first
(R508). -/
def State.rejoin (s : State) : State :=
  let s := if s.bit F.TRESTLE_STAT_MASTER then (s.wrB F.TRESTLE_STAT_MASTER false).wr F.TRESTLE_MASTER_ID 0xFFFF else s
  s.treTo .joining

/-- The span in progress is abandoned (R508): its next-plane writes are discarded, its sequencer runs end ABORTED, and
task-owned points take STALE at the next tick, which comes 10 µs after thaw. -/
def State.abandonSpan (s : State) : State :=
  let tasks := (s.pts.desc.filter fun (kv : Nat × Desc) => kv.2.cls == 1).map fun (kv : Nat × Desc) => kv.2.ownerId
  let s := { s with pts := { s.pts with next := [], heldWrites := [], lateResults := [], overran := tasks.eraseDups } }
  let s := (s.each (s.conv.runs.map (·.1)) State.seqAbort).sensDrop
  let s := s.dropTasks.lanesDown
  let s := if s.paired then s.syncLost .link else s
  let s := if s.inRing then s.rejoin else s
  if s.running then
    { s with span := { s.span with phase := s.spanCyc - 4000 } }.wr F.SPAN_STAT_WINDOW Win.inputClosed.code
  else s

/-- The device thaws (R508, R509). -/
def State.thawNow (s : State) : State :=
  let ticks := s.keep.hidden - s.keep.hiddenOld
  let s := { s.wrB F.KEEP_STAT_FROZEN false with
    dbg := { s.dbg with frozen := false, gated := false, thawed := true, relink := s.paired, ticks := ticks }
    keep := { s.keep with frozen := false, catchUp := s.keep.catchUp || s.keep.frozen } }
  let f := s.rd48 F.DBG_FRZ_FRAME_LO F.DBG_FRZ_FRAME_HI
  let s := s.eventAt 0xE00 ([s.rd F.DBG_FRZ_STAT_SOURCES] ++ w48 f) (f, s.rd F.DBG_FRZ_STAT_OFFSET)
  (s.event 0xE01 [ticks]).abandonSpan

/-- The device freezes when a source is active, and thaws when none is (R502). -/
def State.freezeUpdate (s : State) : State :=
  if !s.acceptsFreeze then s
  else
    let s := if s.sources ≠ 0 then (if s.dbg.frozen then s else s.freezeNow)
      else if s.dbg.frozen then s.thawNow else s
    s.showXOut

/-- At the first tick after thaw (R509): OWN_OUT has risen 1 µs before it on a device that drove it, provided OWN_IN is low. -/
def State.thawTick (s : State) : State :=
  if !s.dbg.thawed then s
  else
    let s := { s with dbg := { s.dbg with thawed := false } }
    if s.dbg.hadOut && !s.bit F.TWIN_STAT_OWN_IN && !s.bit F.HEALTH_THERM_STAT_HALT_HOT then s.ownRaise else s

/-- The SOFT source: FREEZE of DBG_FRZ_CTL, or of RO_CTL (R502); during a reset it has no effect (R504). -/
def State.softFreeze (s : State) : State :=
  if s.power.rst != .running then s
  else ({ s.wrB F.DBG_FRZ_CTL_FREEZE true with dbg := { s.dbg with soft := true } }).freezeUpdate

/-- FREEZE_PIN (R502). -/
def execFreezePin (level : Bool) (s : State) : Out :=
  .next ({ s with dbg := { s.dbg with pin := level } }.freezeUpdate)

/-- FRZ_X_IN_CHANGE (R502). -/
def execFrzXInChange (level : Bool) (s : State) : Out :=
  .next ({ s with dbg := { s.dbg with xIn := level } }.freezeUpdate)

/-- FREEZE_MARKER (R503): forwarded by the other port whether the device freezes from it or not. -/
def execFreezeMarker (p : Fin 2) (s : State) : Out :=
  s.act [.link] fun s =>
    let s := { s with dbg := { s.dbg with markerOut := if p.val = 0 then 2 else 1 } }
    if s.bit F.DBG_FRZ_CTL_RING_IN then { s with dbg := { s.dbg with ring := true } }.freezeUpdate else s

/-- DBG_FREEZE (R502). -/
def execDbgFreeze (s : State) : Out := s.act [] State.softFreeze

/-- CLOCK_GATE (R504): 2 µs after the freeze every clock stops; the visible keystone count stands still (R420). Ticks of an earlier
freeze that the count has not caught up with are still due. -/
def execClockGate (s : State) : Out :=
  let due := if s.keep.catchUp then s.keep.hidden else 0
  .next (if s.dbg.frozen && !s.dbg.gated then
    { s.wrB F.KEEP_STAT_FROZEN true with
      dbg := { s.dbg with gated := true }, keep := { s.keep with frozen := true, hidden := due, hiddenOld := due } } else s)

/-! ### The test access port (R506, R507) -/

/-- The instruction register takes an instruction. -/
def State.tap (s : State) (ir : TapIr) : State := { s with dbg := { s.dbg with ir := ir } }

/-- RO_CTL is selected and captured: BAD and FROZEN (R506). -/
def State.tapCtl (s : State) : State :=
  let s := s.tap .roCtl
  { s with dbg := { s.dbg with dr := 4 * s.dbg.roBad.toNat + 8 * s.dbg.frozen.toNat, drValid := false } }

/-- RO_FREEZE (R506): RO_CTL with FREEZE. -/
def execRoFreeze (s : State) : Out := .next s.tapCtl.softFreeze

/-- RO_THAW (R506, R508): RO_CTL with THAW releases the latched sources. -/
def execRoThaw (s : State) : Out :=
  let s := s.tapCtl.wrB F.DBG_FRZ_CTL_FREEZE false
  .next ({ s with dbg := { s.dbg with ring := false, soft := false } }.freezeUpdate)

/-- The boundary register captures the pins (R506). Which cell is which pin's, the specification does not give: what it captured is
a free value. -/
def State.captureCells (s : State) (k : Nat) : State :=
  let (v, s) := s.free k
  { s with dbg := { s.dbg with dr := v, drValid := false } }

/-- BYPASS is selected: its 1-bit register captures 0 (R506). -/
def State.tapBypass (s : State) : State :=
  let s := s.tap .bypass
  { s with dbg := { s.dbg with dr := 0, drValid := false } }

/-- EXTEST (R506): accepted only while frozen, else BYPASS. The pins take the levels of their cells (`State.pad`). -/
def execExtest (s : State) : Out := .next (if s.dbg.frozen then (s.tap .extest).captureCells 95 else s.tapBypass)

/-- SAMPLE_PRELOAD (R506): the pins are captured, and the boundary register holds the cells shifted in. -/
def execSamplePreload (cells : List Bool) (s : State) : Out :=
  let s := (s.tap .sample).captureCells 95
  .next { s with dbg := { s.dbg with boundary := cells } }

/-- IDCODE (R506): deck stepping, part number, manufacturer, 1. -/
def State.idcode (s : State) : Nat :=
  s.rd F.SYS_REVISION_DECK_STEP % 16 * 2 ^ 28 + 0x7420 * 2 ^ 12 + Config.fused 7 0 0 % 2 ^ 11 * 2 + 1

/-- IDCODE (R506). -/
def execIdcode (s : State) : Out :=
  let s := s.tap .idcode
  .next { s with dbg := { s.dbg with dr := s.idcode, drValid := false } }

/-- BYPASS (R506). -/
def execBypass (s : State) : Out := .next s.tapBypass

/-- RO_ADDR (R506). -/
def execRoAddr (a : Word) (s : State) : Out :=
  let s := s.tap .roAddr
  .next { s with dbg := { s.dbg with roAddr := a.toNat } }

/-- A word of pier `c` in the readout map (R507): g0 to g63, PC, BC, flags, task number, CSR CYCLE. -/
def State.roPier (s : State) (c w : Nat) : Option Nat :=
  if w < 68 then some (s.pierWord c w) else if w = 68 then
    some (max (s.core c).clk (coreCycles (s.core c).half s.span.phase))
  else none

/-- The value of the force-plane entry that point `p` holds: in effect, or else the last one accepted (R85). -/
def State.heldForce (s : State) (p : Nat) : Nat :=
  match Sparse.find? s.pts.forces p, (s.pts.forceCmds.filter fun c => c.pt == some p).filterMap (·.val) with
  | some v, _ => v.value.toNat
  | none, l => (l.getLast?.map fun v => v.value.toNat).getD 0

/-- A word of the force plane in the readout map (R507): the entries in use, in effect or only accepted (R85; log entry 202). -/
def State.roForce (s : State) (i w : Nat) : Nat :=
  match s.forceHolders[i]? with
  | some p => if w = 0 then 2 ^ 31 + p else s.heldForce p
  | none => 0

/-- The word at a readout address (R507); none outside the table, and in a block whose domain is off. -/
def State.roWord (s : State) (a : Nat) : Option Nat :=
  if a < deckEnd then some (s.deckWord a)
  else if 0x10000000 ≤ a ∧ a < 0x11800000 then
    let o := (a - 0x10000000) % 0x100000
    if o < 0x40000 then
      some (leBytes (fun k => s.tcmByte k) ((a - 0x10000000) / 0x100000 * 0x40000 + o) 4)
    else none
  else if 0x20000000 ≤ a ∧ a < 0x20003000 then s.roPier ((a - 0x20000000) / 0x200) ((a - 0x20000000) % 0x200 / 4)
  else if 0x30000000 ≤ a ∧ a < 0x30002000 then some (s.roForce ((a - 0x30000000) / 8) (a / 4 % 2))
  else if inControl a then
    match blockDom a with
    | some d => if s.domOn d then some (s.peekAll a) else none
    | none => some (s.peekAll a)
  else none

/-- Capture of RO_DATA after `idle` cycles in Run-Test/Idle (R507). -/
def State.roCapture (s : State) (idle : Nat) : State :=
  let a := s.dbg.roAddr / 4 * 4
  if onBearing a && idle < 32 then { s with dbg := { s.dbg with dr := 0, drValid := false } }
  else
    let r := s.roWord a
    { s with dbg := { s.dbg with
      dr := r.getD 0, drValid := s.dbg.frozen, roBad := s.dbg.roBad || r.isNone
      roAddr := (s.dbg.roAddr + 4) % 2 ^ 32 } }

/-- RO_DATA (R507). -/
def execRoData (idle : Nat) (s : State) : Out := .next ((s.tap .roData).roCapture idle)

end Sys2Proof.Machine
end

