-- ==== Sys2Proof/Machine/Sha256.lean ====
section
/-! DEFINITION. SHA-256, the digest of a boot image (R472). The specification names the function; its constants are those of
FIPS 180-4 (PRESUMED). -/

namespace Sys2Proof

/-- `n` words of 32 bits packed in one number, the first highest. -/
def unpackWords (n packed : Nat) : List Nat := ((List.range n).map fun k => packed / 2 ^ (32 * k) % 2 ^ 32).reverse

/-- The round constants, first half, eight to a row. -/
def shaKLow : List Nat :=
  [0x428a2f9871374491b5c0fbcfe9b5dba53956c25b59f111f1923f82a4ab1c5ed5,
   0xd807aa9812835b01243185be550c7dc372be5d7480deb1fe9bdc06a7c19bf174,
   0xe49b69c1efbe47860fc19dc6240ca1cc2de92c6f4a7484aa5cb0a9dc76f988da,
   0x983e5152a831c66db00327c8bf597fc7c6e00bf3d5a7914706ca635114292967].flatMap (unpackWords 8)

/-- The round constants, second half. -/
def shaKHigh : List Nat :=
  [0x27b70a852e1b21384d2c6dfc53380d13650a7354766a0abb81c2c92e92722c85,
   0xa2bfe8a1a81a664bc24b8b70c76c51a3d192e819d6990624f40e3585106aa070,
   0x19a4c1161e376c082748774c34b0bcb5391c0cb34ed8aa4a5b9cca4f682e6ff3,
   0x748f82ee78a5636f84c878148cc7020890befffaa4506cebbef9a3f7c67178f2].flatMap (unpackWords 8)

/-- The initial hash words. -/
def shaInit : List Word :=
  (unpackWords 8 0x6a09e667bb67ae853c6ef372a54ff53a510e527f9b05688c1f83d9ab5be0cd19).map (BitVec.ofNat 32)

/-- Rotate right. -/
def rotr (x : Word) (n : Nat) : Word := x.rotateRight n

/-- The next schedule word, from the ones before it, newest first. -/
def shaNext (w : List Word) : Word :=
  let s0 (x : Word) : Word := rotr x 7 ^^^ rotr x 18 ^^^ (x >>> 3)
  let s1 (x : Word) : Word := rotr x 17 ^^^ rotr x 19 ^^^ (x >>> 10)
  s1 (w.getD 1 0) + w.getD 6 0 + s0 (w.getD 14 0) + w.getD 15 0

/-- `n` more schedule words, newest first. -/
def shaSchedule (w : List Word) : Nat → List Word
  | 0 => w
  | n + 1 => shaSchedule (shaNext w :: w) n

/-- One round on the eight working words. -/
def shaRound (h : List Word) (kw : Nat × Word) : List Word :=
  match h with
  | [a, b, c, d, e, f, g, x] =>
    let t1 := x + (rotr e 6 ^^^ rotr e 11 ^^^ rotr e 25) + ((e &&& f) ^^^ (~~~e &&& g)) + BitVec.ofNat 32 kw.1 + kw.2
    let t2 := (rotr a 2 ^^^ rotr a 13 ^^^ rotr a 22) + ((a &&& b) ^^^ (a &&& c) ^^^ (b &&& c))
    [t1 + t2, a, b, c, d + t1, e, f, g]
  | _ => h

/-- A big-endian word of four bytes. -/
def beWord (bs : List Byte) : Word := bs.foldl (fun n b => n * 256 + b.setWidth 32) 0

/-- One 64-byte block. -/
def shaBlock (h : List Word) (bs : List Byte) : List Word :=
  let m := (List.range 16).map fun k => beWord ((bs.drop (4 * k)).take 4)
  let w := (shaSchedule m.reverse 48).reverse
  let r := ((shaKLow ++ shaKHigh).zip w).foldl shaRound h
  h.zipWith (· + ·) r

/-- `n` blocks. -/
def shaBlocks (h : List Word) (bs : List Byte) : Nat → List Word
  | 0 => h
  | n + 1 => shaBlocks (shaBlock h (bs.take 64)) (bs.drop 64) n

/-- Bytes of a word, highest first. -/
def beBytes (w : Word) : List Byte := [3, 2, 1, 0].map fun k => BitVec.ofNat 8 (w.toNat / 256 ^ k)

/-- SHA-256 of bytes: 32 bytes. -/
def sha256 (bs : List Byte) : List Byte :=
  let zeros := (119 - bs.length % 64) % 64
  let n := 8 * bs.length
  let p := bs ++ [0x80] ++ List.replicate zeros 0
    ++ [7, 6, 5, 4, 3, 2, 1, 0].map fun k => BitVec.ofNat 8 (n / 256 ^ k)
  (shaBlocks shaInit p (p.length / 64)).flatMap beBytes

end Sys2Proof
end

