-- ==== Sys2Proof/Machine/Boot.lean ====
section
/-! DEFINITION. The build-out and boot (18_power_reset_boot.md, R471 to R474). -/

namespace Sys2Proof.Machine

/-! ### Build-out (R473) -/

/-- SYS_BOOT_STAT.STATE codes. -/
inductive BootState where
  | idle | loading | waitHost | done | failed
  deriving DecidableEq, Repr

/-- The code of a boot state. -/
def BootState.code : BootState → Nat
  | .idle => 0 | .loading => 1 | .waitHost => 2 | .done => 3 | .failed => 4

/-- Boot stands in state `k`. -/
def State.bootIs (s : State) (k : BootState) : Bool := s.rd F.SYS_BOOT_STAT_STATE == k.code

/-- Boot enters state `k`. -/
def State.bootTo (s : State) (k : BootState) : State := s.wr F.SYS_BOOT_STAT_STATE k.code

/-- Every PLL has locked. -/
def State.pllsLocked (s : State) : Bool :=
  s.bit F.SYS_PLL_STAT_PLL_D_LOCK && s.bit F.SYS_PLL_STAT_PLL_L_LOCK && s.bit F.SYS_PLL_STAT_PLL_N_LOCK &&
    s.bit F.SYS_PLL_STAT_PLL_B_LOCK

/-- The PLLs are locked: the joint trains, the domains are on and the reference is enabled; a joint that does not train ends the
build-out (R473). -/
def State.buildJoint (s : State) : State :=
  if !(s.atStep .build && s.pllsLocked) || s.joint then s
  else if s.power.jointOk then (s.wrB F.SYS_JOINT_STAT_LINK_UP true).refEnable
  else s.toStep .dead

/-- BUILD_OUT_START (R464, R473): 1 ms after the reset cleared. The reset's own event is held from here on (R466). -/
def execBuildOutStart (plls : BitVec 4) (joint : Bool) (s : State) : Out :=
  .next (if s.power.rst ≠ .cleared then s
    else
      let s := s.event 0x004 [s.rd F.SYS_RST_CAUSE_CAUSE, s.rd F.SYS_RST_CAUSE_HIST, s.pllWord]
      let s := { s with power := { s.power with rst := .running, jointOk := joint } }
      let s := (((s.wrB F.SYS_PLL_STAT_PLL_D_LOCK (plls.getLsbD 0)).wrB F.SYS_PLL_STAT_PLL_L_LOCK (plls.getLsbD 1)).wrB
        F.SYS_PLL_STAT_PLL_N_LOCK (plls.getLsbD 2)).wrB F.SYS_PLL_STAT_PLL_B_LOCK (plls.getLsbD 3)
      (s.wrB F.SYS_PLL_STAT_LF_RUN (!s.power.lfDead)).buildJoint)

/-- BUILD_PLL_TIMEOUT (R473). -/
def execBuildPllTimeout (s : State) : Out :=
  s.act [] fun s => if s.power.rst == .running && s.atStep .build && !s.pllsLocked then s.toStep .dead else s

/-- PLL_RELOCK (R32, R473). -/
def execPllRelock (k : Clk) (s : State) : Out :=
  s.act [] fun s =>
    let s := s.wrB (clkFields k).2 true
    match k with
    | .lf => { s with power := { s.power with lfDead := false } }
    | _ => s.buildJoint

/-- Units that failed a test are retired (R457). -/
def State.retireAll (s : State) (failed : List (Fin 5 × Nat)) : State :=
  s.each failed fun s u => s.retire u.1.val u.2 0

/-- The units among those that failed that were retired: a row for which no spare is left is not (R457). -/
def State.retiredOf (s : State) (failed : List (Fin 5 × Nat)) : Nat :=
  (failed.eraseDups.filter fun u => unitExists u.1.val u.2 && s.isRetired u.1.val u.2).length

/-- The cores that may run: those not retired. -/
def State.goodCores (s : State) : List Nat := (List.range 24).filter fun c => !s.isRetired 1 (2 * c)

/-- A deck bank has more failing rows than spare rows (R473). -/
def bankFull (failed : List (Fin 5 × Nat)) : Bool :=
  (List.range 16).any fun b => decide (16 < ((failed.filter fun u => u.1.val == 0 && u.2 / 2048 == b).map (·.2)).eraseDups.length)

/-- The keystone check at start-up (R406). -/
def State.keepCheck (s : State) : State :=
  let s := if s.bit F.KEEP_STAT_LOSS then s.event 0xB01 [s.rd F.KEEP_BAT, s.rd F.KEEP_STAT_ON_VBAT] else s
  if s.bit F.KEEP_STAT_OSC_STOP then s.event 0xB02 (w48 s.keep.count) else s

/-- Boot waits for the host, over `source` (R471). -/
def State.waitHost (s : State) (source : Nat) : State := (s.wr F.SYS_BOOT_STAT_SOURCE source).bootTo .waitHost

/-- The boot step begins with the source the pins select (R471). -/
def State.bootBegin (s : State) : State :=
  let s := s.toStep .boot
  match s.rd F.SYS_BOOT_STAT_PINS with
  | 1 => s.waitHost 1
  | 2 => s.waitHost 2
  | _ => (s.wr F.SYS_BOOT_STAT_SOURCE 0).bootTo .loading

/-- BUILD_TESTS_DONE (R473): failed units are retired, spares chosen, the keystone checked, the recorder started and the
residue block checked; then the boot step, or DEAD. -/
def execBuildTestsDone (ms : BitVec 16) (failed : List (Fin 5 × Nat)) (s : State) : Out :=
  s.act [] fun s =>
    if !(s.power.rst == .running && s.atStep .build && s.joint) then s
    else
      let s := (s.retireAll failed).pickSpares
      let s := (s.keepCheck.evrStart).wr F.SYS_START_STAT_BUILD_MS ms.toNat
      let s := s.checkBlock.event 0x005 [ms.toNat, s.retiredOf failed]
      if s.goodCores.isEmpty || bankFull failed then s.toStep .dead else s.bootBegin

/-! ### Boot (R471, R472) -/

/-- The manifest's place in the deck when a host writes it, and the image's (R472). -/
def bootManifest : Nat := 0x01900000

/-- The boot image's place in the overlay store. -/
def bootImage : Nat := 0x01100000

/-- The largest image of a boot: 8 MiB less the manifest. -/
def bootMax : Nat := 0x800000 - 64

/-- Word at byte `a` of a manifest. -/
def manWord (m : List Byte) (a : Nat) : Nat := leBytes (fun k => m.getD k 0) a 4

/-- The first failing check of a manifest by itself, as a REASON (R472). Which REASON reserved bytes that are not 0 give the
specification does not say. -/
def manifestFault (m : List Byte) : Option Nat :=
  if manWord m 0 ≠ 0x424F4F54 then some 1
  else if bootMax < manWord m 8 then some 2
  else if crc32c (m.take 60) ≠ manWord m 60 then some 3
  else if (List.range 4).any (fun k => manWord m (44 + 4 * k) != 0) then
    some (1 + Config.free 94 (leBytes (fun k => m.getD k 0) 0 64) % 3)
  else none

/-- Boot admission (R472): schedule 0, unbanked, on the lowest-numbered good core. While BPSAVE breaks R106 no boot image can
be admitted, and nothing can have set it under XSPI: the boot ROM then gives the save area a place in the general-use region
that the specification does not name. -/
def State.bootPrepare (s : State) : State :=
  let s := s.wrB F.PIERCTL_PIER_CFG_BANKED false
  let c := s.goodCores.headD 0
  let s := if c = 0 then s else (s.wr F.PIERCTL_PIER_STAT_PHYS c 0).wr F.PIERCTL_PIER_STAT_PHYS 0 c
  if s.bpSaveOk 0 then s
  else
    let (k, s) := s.free 95
    s.wr F.PIERCTL_PIER_BPSAVE ((0x01900000 + k % ((0x700000 - 1152) / 64 + 1) * 64) / 64) 0

/-- The admitted boot image runs as schedule 0 (R472). -/
def State.bootRun (s : State) (i : Image) : State :=
  let s := s.raise 0x210 0 []
  let s := (s.each (s.claimWrites none i) fun s pd => s.stageDesc pd.1 pd.2).giveLoops (freshLoops none i) false
  ((s.install 0 i).schTo 0 .running).bpTurn (s.physOf 0)

/-- Boot is done (R472, R473): SEQ, digest, event 0x006, and CONFIG, from which freeze sources are accepted (R502). -/
def State.bootDone (s : State) (seq : Nat) (digest : List Byte) : State :=
  let s := s.wr F.SYS_BOOT_SEQ seq
  let s := s.each (List.range 8) fun s k => s.wr F.SYS_BOOT_DIGEST (leBytes (fun b => digest.getD b 0) (4 * k) 4) k
  let s := (s.bootTo .done).event 0x006
    [s.rd F.SYS_BOOT_STAT_SOURCE, s.rd F.SYS_BOOT_STAT_SLOT, seq, s.power.failReason]
  (s.toStep .config).freezeUpdate

/-- A boot attempt fails with a REASON (R472). -/
def State.bootFault (s : State) (reason : Nat) : State :=
  { s.wr F.SYS_BOOT_STAT_REASON reason with power := { s.power with failReason := reason } }

/-- The image at 0x0110_0000 is checked against manifest `m` and admitted; the REASON when it is not (R472). -/
def State.bootCheck (s : State) (m : List Byte) : State × Option Nat :=
  let len := manWord m 8
  let bs := s.dBytes bootImage len
  if (s.imgHeader bootImage).len ≠ len then (s, some 2)
  else if sha256 bs ≠ (m.drop 12).take 32 then (s, some 4)
  else
    let s := s.bootPrepare
    match s.examine 0 bootImage false true with
    | .error f =>
      let s := match f.at' with
        | some (t, w) => (s.wr F.PIERCTL_LOAD_DETAIL_TASK t).wr F.PIERCTL_LOAD_DETAIL_WORD w
        | none => s
      (s.loadRefuse 0 f.reason, some 6)
    | .ok (i, _) => ((s.bootRun i).bootDone (manWord m 4) ((m.drop 12).take 32), none)

/-- No slot is left to try under XSPI (R471, R473): the host, or DEAD. -/
def State.xspiOut (s : State) : State :=
  if s.rd F.SYS_BOOT_STAT_PINS = 3 then s.waitHost 1
  else
    let s := s.event 0x006 [s.rd F.SYS_BOOT_STAT_SOURCE, s.rd F.SYS_BOOT_STAT_SLOT, 0, s.power.failReason]
    (s.bootTo .failed).toStep .dead

/-- The slot to try next (R472): a valid manifest not tried yet, the higher SEQ first, slot A on equal SEQ. -/
def State.nextSlot (s : State) : Option Nat :=
  let man (k : Nat) : List Byte := s.power.manifests.getD k []
  match [0, 1].filter fun k => !s.power.tried.contains k && (manifestFault (man k)).isNone with
  | [] => none
  | [k] => some k
  | _ => if manWord (man 0) 4 < manWord (man 1) 4 then some 1 else some 0

/-- The next slot is loaded, or none is left. -/
def State.trySlot (s : State) : State :=
  match s.nextSlot with
  | some k => { s.wr F.SYS_BOOT_STAT_SLOT k with power := { s.power with tried := s.power.tried ++ [k] } }
  | none => s.xspiOut

/-- The boot ROM waits for the xSPI device or loads from it. -/
def State.xspiBooting (s : State) : Bool := s.atStep .boot && s.bootIs .loading

/-- XSPI_ANSWER (R472, R473): both manifests are read. -/
def execXspiAnswer (manA manB : List Byte) (s : State) : Out :=
  s.act [.deck] fun s =>
    if !(s.xspiBooting && s.power.manifests.isEmpty) then s
    else
      let ms := [manA.take 64, manB.take 64]
      let s := { s with power := { s.power with manifests := ms } }
      let s := match ms.map manifestFault with
        | [some _, some b] => s.bootFault b
        | _ => s
      s.trySlot

/-- BOOT_SLOT_LOADED (R472): the slot's image has been copied to 0x0110_0000. -/
def execBootSlotLoaded (image : List Byte) (s : State) : Out :=
  s.act [.deck] fun s =>
    match s.power.tried.getLast? with
    | none => s
    | some k =>
      if !s.xspiBooting then s
      else
        let m := s.power.manifests.getD k []
        let len := manWord m 8
        let s := s.setDBytes bootImage ((image ++ List.replicate (len - image.length) 0).take len)
        match s.bootCheck m with
        | (s, none) => s
        | (s, some r) => (s.bootFault r).trySlot

/-- NOFLASH (R473). -/
def execNoflash (s : State) : Out :=
  s.act [] fun s => if s.xspiBooting && s.power.manifests.isEmpty then (s.bootFault 5).xspiOut else s

/-- BOOT_GO (R472): the manifest and image the host wrote are checked; after a failure the host may try again. -/
def execBootGo (s : State) : Out :=
  s.act [.deck] fun s =>
    if !(s.atStep .boot && s.bootIs .waitHost) then s
    else
      let m := s.dBytes bootManifest 64
      match manifestFault m with
      | some r => s.bootFault r
      | none => match s.bootCheck m with
        | (s, none) => s
        | (s, some r) => s.bootFault r

end Sys2Proof.Machine
end

