-- ==== Sys2Proof/Machine/Field.lean ====
section
/-! DEFINITION. The field engines (19_host_and_field_interfaces.md): rings, MS/TP, Modbus RTU, KNX TP1, and their
mappings. A frame `f` of FLD_RX_FRAME and a slot's frame are: UART, the bytes; MS/TP, destination, source and data, with
the frame type in the slot's type byte, and in `f` the octets of the line from the preamble on; Modbus, address to data, with
the CRC last in `f`; KNX, the control byte to the data, without the check byte. -/

namespace Sys2Proof.Machine

/-! ### Engines -/

/-- What engine `e` keeps beside its registers. -/
def State.eng (s : State) (e : Nat) : EngSt := Sparse.get s.port.eng {} e

/-- Change what engine `e` keeps. -/
def State.engMod (s : State) (e : Nat) (f : EngSt → EngSt) : State :=
  { s with port := { s.port with eng := Sparse.set s.port.eng {} e (f (s.eng e)) } }

/-- FIELD_ENGe_CTL.MODE. -/
inductive FldMode where
  | uart | mstp | mbMaster | mbSlave | knx
  deriving DecidableEq, Repr

/-- The code of a mode. -/
def FldMode.code : FldMode → Nat
  | .uart => 0 | .mstp => 1 | .mbMaster => 2 | .mbSlave => 3 | .knx => 4

/-- Engine `e` is enabled in mode `k`. -/
def State.engIs (s : State) (e : Nat) (k : FldMode) : Bool :=
  s.bit F.FIELD_ENG_CTL_EN e && s.rd F.FIELD_ENG_CTL_MODE e == k.code

/-- A frame goes on the bus of engine `e`, while the transmitters are driven (R361). -/
def State.engSend (s : State) (e : Nat) (f : List Byte) : State :=
  if s.driving then s.engMod e fun x => { x with sent := x.sent ++ [f] } else s

/-- A step of engine `e` begins: what it sends replaces what it sent last. -/
def State.engStep (s : State) (e : Nat) : State := s.engMod e fun x => { x with sent := [] }

/-- A reflected CRC register takes bytes. -/
def refCrc (poly init : Nat) (bs : List Byte) : Nat :=
  bs.foldl (fun c b =>
    (List.range 8).foldl (fun c _ => if c % 2 = 1 then c / 2 ^^^ poly else c / 2) (c ^^^ b.toNat)) init

/-- The Modbus CRC-16, low byte first (R496). -/
def crc16 (bs : List Byte) : List Byte := toBytes (refCrc 0xA001 0xFFFF bs) 2

/-- A byte of a frame as a number; 0 past its end. -/
def byteAt (f : List Byte) (k : Nat) : Nat := (f.getD k 0).toNat

/-- Bytes `k` and `k + 1` of a frame, big-endian. -/
def wordAt (f : List Byte) (k : Nat) : Nat := byteAt f k * 256 + byteAt f (k + 1)

/-! ### Rings (R494) -/

/-- Slots of the receive ring of `e`. -/
def State.rxSlots (s : State) (e : Nat) : Nat := 2 ^ s.rd F.FIELD_ENG_RING_RX_SIZE e

/-- Slots of the transmit ring of `e`. -/
def State.txSlots (s : State) (e : Nat) : Nat := 2 ^ s.rd F.FIELD_ENG_RING_TX_SIZE e

/-- The address of receive slot `k` of engine `e`; the transmit slots follow the receive slots. -/
def State.ringSlot (s : State) (e k : Nat) : Nat := s.rd F.FIELD_ENG_RING_BASE e * 1024 + k * 1024

/-- Frames that wait in the transmit ring of `e`. -/
def State.txWaiting (s : State) (e : Nat) : Nat :=
  (s.rd F.FIELD_ENG_IDX_TX_WR e + 256 - s.rd F.FIELD_ENG_IDX_TX_RD e) % 256

/-- The address of the next slot engine `e` sends. -/
def State.txAddr (s : State) (e : Nat) : Nat :=
  s.ringSlot e (s.rxSlots e + s.rd F.FIELD_ENG_IDX_TX_RD e % s.txSlots e)

/-- Type and frame of the next transmit slot of `e`. -/
def State.txSlot (s : State) (e : Nat) : Nat × List Byte :=
  let a := s.txAddr e
  ((s.dByte (a + 2)).toNat, s.dBytes (a + 16) (min 1008 (leBytes s.dByte a 2)))

/-- The next transmit slot of `e` has been taken. -/
def State.txTake (s : State) (e : Nat) : State := s.wr F.FIELD_ENG_IDX_TX_RD (s.rd F.FIELD_ENG_IDX_TX_RD e + 1) e

/-- Write bytes of the general-use region; nothing is written outside it, or while PD_DECK is off. Lines of a mirror window are
mirrored (R368). -/
def State.putGeneral (s : State) (a : Nat) (bs : List Byte) : State :=
  if inGeneral a bs.length && s.domOn .deck then (s.setDBytes a bs).mirrorRange a bs.length else s

/-- A received frame enters the receive ring, stamped now, or is dropped by a full ring (R494). What `type` and the flags
hold is stated for no mode but MS/TP's type. -/
def State.fldStore (s : State) (e : Nat) (type : Option Nat) (f : List Byte) : State :=
  let w := s.rd F.FIELD_ENG_IDX_RX_WR e
  if s.rxSlots e ≤ (w + 256 - s.rd F.FIELD_ENG_IDX_RX_RD e) % 256 then
    (s.wrB F.FIELD_ENG_STAT_RXOVF true e).raise 0xD03 e [e]
  else
    let a := s.ringSlot e (w % s.rxSlots e)
    let (t, s) := match type with
      | some t => (t, s)
      | none => s.free 60
    let (g, s) := s.free 61
    let s := s.putGeneral a (toBytes f.length 2 ++ toBytes t 1 ++ toBytes g 1 ++ toBytes s.frame 6 ++ toBytes s.offset 2)
    (s.putGeneral (a + 16) (f.take 1008)).wr F.FIELD_ENG_IDX_RX_WR (w + 1) e

/-- A bad frame is dropped (R499). The causes have no codes in the specification. -/
def State.fldBad (s : State) (e : Nat) : State :=
  let (c, s) := s.free 62
  s.raise 0xD02 e [e, c % 2 ^ 32]

/-- A frame is dropped for its errors and counted in FRAME_ERR (R495, R496, R499). -/
def State.fldError (s : State) (e : Nat) : State := (s.incSat F.FIELD_ENG_STAT_FRAME_ERR e).fldBad e

/-! ### Mappings (R497) -/

/-- A mapping entry: its address bytes 0 to 7 and its point. -/
structure MapEntry where
  bytes : List Byte
  pt : Nat
  deriving DecidableEq, Repr

/-- Entry `i` of engine `e`. -/
def State.mapEntry (s : State) (e i : Nat) : MapEntry :=
  let a := s.rd F.FIELD_ENG_MAP_BASE e * 4096 + 16 * i
  { bytes := s.dBytes a 8, pt := leBytes s.dByte (a + 8) 4 % 2 ^ 17 }

/-- A mapping writes its point as class FIELD (R71, R75, R44, R45): a refusal is counted. `fault` is a source fault, on
which the fail policy acts (R73). -/
def State.fieldWrite (s : State) (e i p : Nat) (v : Word) (fault : Bool) : State :=
  let d := s.desc p
  let (v, q) := if !fault then (v, Quality.good) else if d.failPol = 0 then (v, .fault) else (d.failValue, .subst)
  match s.softWrite p 5 (e * 2 ^ 16 + i) v q with
  | (.refused, s) => s.ownRefused p 5
  | (_, s) => s

/-- The point of an F32 entry is one that R497 requires: FORMAT F32, SCALE 1.0 and OFFSET 0.0. -/
def State.floatPoint (s : State) (p : Nat) : Bool :=
  let d := s.desc p
  d.fmt == 0 && d.scale == 0x3F800000 && d.off == 0

/-- A binary32 result of an entry; what a point that R497 does not allow gets is not stated. -/
def State.fieldFloat (s : State) (e i p : Nat) (v : Word) : State :=
  if s.floatPoint p then s.fieldWrite e i p v false
  else
    let (x, s) := s.free 63
    s.fieldWrite e i p (BitVec.ofNat 32 x) false

/-- The binary32 value an F32 entry sends of point `p`; what one sends of a point that R497 does not allow is not stated. -/
def State.sendFloat (s : State) (p : Nat) : Word × State :=
  if s.floatPoint p then ((s.seen p).value, s)
  else
    let (x, s) := s.free 68
    (BitVec.ofNat 32 x, s)

/-- The nearest integer to a binary32 number; which of two equally near ones is not stated. -/
def fNearest (a : Word) : Option Int :=
  match F32.dec a with
  | .nan _ => none
  | .inf n => some (if n then -2 ^ 200 else 2 ^ 200)
  | .num n m x =>
    let z : Int := if n then -(m : Int) else m
    some (if 0 ≤ x then z * 2 ^ x.toNat else
      let d : Nat := 2 ^ (-x).toNat
      let q := z / d
      let r := z % d
      if 2 * r < d then q else if (d : Int) < 2 * r then q + 1 else q + (Config.roundUp m d).toNat)

/-- The nearest integer to a Q31 fraction (R68), which lies between −1 and 1. -/
def qNearest (v : Word) : Int :=
  let z := v.toInt
  let d : Int := 2 ^ 31
  let r := z.emod d
  z.ediv d + if 2 * r < d then 0 else if d < 2 * r then 1 else (Config.roundUp z.natAbs d.toNat).toNat

/-- The integer a write entry sends of point `p`: its seen value rounded and held to `lo` to `hi` (R497); of a NaN, a
value the specification does not state. -/
def State.sendInt (s : State) (p : Nat) (lo hi : Int) : Int × State :=
  let v := (s.seen p).value
  let z : Option Int := match (s.desc p).fmt with
    | 0 => fNearest v
    | 1 => some (qNearest v)
    | 2 => some v.toInt
    | _ => some v.toNat
  match z with
  | some z => (max lo (min hi z), s)
  | none =>
    let (x, s) := s.free 64
    (max lo (min hi (lo + (x : Int) % (hi - lo + 1))), s)

/-! ### Modbus (R496) -/

/-- Registers an entry of type `t` spans. -/
def mbRegs (t : Nat) : Nat := if 2 ≤ t then 2 else 1

/-- An entry the specification gives a meaning (R497): enabled, slave 1 to 247, a listed function and type. -/
def mbValid (m : MapEntry) : Bool :=
  let fn := byteAt m.bytes 1
  (byteAt m.bytes 5).testBit 0 && 1 ≤ byteAt m.bytes 0 && byteAt m.bytes 0 ≤ 247 && byteAt m.bytes 4 ≤ 4 &&
    (fn == 3 || fn == 4 || fn == 16 || (fn == 6 && byteAt m.bytes 4 ≤ 1))

/-- Entry `i` of engine `e` is due (R497): its period has passed since it last ran. -/
def State.mbDue (s : State) (e i : Nat) : Bool :=
  let m := s.mapEntry e i
  let per := leBytes (fun k => m.bytes.getD k 0) 6 2
  mbValid m && match Sparse.find? (s.eng e).mbRan i with
    | some f => per = 0 || f + per ≤ s.frame
    | none => true

/-- The next due entry from `mbNext` on, round the table. -/
def State.mbPick (s : State) (e : Nat) : Option Nat :=
  let n := s.rd F.FIELD_ENG_MAP_COUNT e
  ((List.range n).map fun k => ((s.eng e).mbNext + k) % n).find? (s.mbDue e)

/-- Two 16-bit registers or one, of the bits of a value (R497): the high word first unless WSWAP. -/
def mbWords (t : Nat) (swap : Bool) (v : Nat) : List Byte :=
  let w (x : Nat) : List Byte := [BitVec.ofNat 8 (x / 256), BitVec.ofNat 8 x]
  if t < 2 then w v else if swap then w v ++ w (v / 65536) else w (v / 65536) ++ w v

/-- The request of entry `m`, without CRC (R496, R497). -/
def State.mbRequest (s : State) (m : MapEntry) : List Byte × State :=
  let fn := byteAt m.bytes 1
  let t := byteAt m.bytes 4
  let reg := leBytes (fun k => m.bytes.getD k 0) 2 2
  let head : List Byte := [m.bytes.getD 0 0, m.bytes.getD 1 0, BitVec.ofNat 8 (reg / 256), BitVec.ofNat 8 reg]
  if fn = 3 ∨ fn = 4 then (head ++ [0, BitVec.ofNat 8 (mbRegs t)], s)
  else
    let (v, s) : Nat × State :=
      if t = 4 then
        let (v, s) := s.sendFloat m.pt
        (v.toNat, s)
      else
        let (lo, hi) : Int × Int := match t with
          | 0 => (0, 65535) | 1 => (-32768, 32767) | 2 => (0, 4294967295) | _ => (-2147483648, 2147483647)
        let (z, s) := s.sendInt m.pt lo hi
        (unsigned 32 z, s)
    let d := mbWords t ((byteAt m.bytes 5).testBit 1) v
    if fn = 6 then (head ++ d, s)
    else (head ++ [0, BitVec.ofNat 8 (mbRegs t), BitVec.ofNat 8 (2 * mbRegs t)] ++ d, s)

/-- The master sends a request and waits for its reply. -/
def State.mbSend (s : State) (e : Nat) (now : Option Nat) (req : List Byte) : State :=
  (s.engMod e fun x => { x with mbNow := some now, mbReq := req, mbTries := 0 }).engSend e (req ++ crc16 req)

/-- The next transaction: after each mapped one, a request of the transmit ring if one is queued (R496). -/
def State.mbTransaction (s : State) (e : Nat) : State :=
  let s := s.engStep e
  if !s.engIs e .mbMaster || (s.eng e).mbNow.isSome || !s.driving then s
  else
    let queued := 0 < s.txWaiting e
    match (if (s.eng e).mbRing && queued then none else s.mbPick e) with
    | some i =>
      let (req, s) := s.mbRequest (s.mapEntry e i)
      let s := s.engMod e fun x => { x with mbRing := true, mbRan := Sparse.put x.mbRan i s.frame
                                            mbNext := (i + 1) % s.rd F.FIELD_ENG_MAP_COUNT e }
      s.mbSend e (some i) req
    | none =>
      if !queued then s
      else ((s.txTake e).engMod e fun x => { x with mbRing := false }).mbSend e none (s.txSlot e).2

/-- The raw integer of a read reply's data, and for type 4 its bits. -/
def mbValue (t : Nat) (swap : Bool) (d : List Byte) : Int :=
  let v : Nat := if t < 2 then wordAt d 0
    else if swap then wordAt d 2 * 65536 + wordAt d 0 else wordAt d 0 * 65536 + wordAt d 2
  if t = 1 then signed 16 v else if t = 3 then signed 32 v else v

/-- A reply to the mapped transaction `i` (R497). `f` is the frame without CRC. -/
def State.mbMapped (s : State) (e i : Nat) (f : List Byte) : State :=
  let m := s.mapEntry e i
  let fn := byteAt m.bytes 1
  let t := byteAt m.bytes 4
  let read := fn == 3 || fn == 4
  if byteAt f 1 ≠ fn then
    let s := (s.incSat F.FIELD_ENG_STAT_EXCEPT e).raise 0xD01 e [e, i, byteAt f 2]
    if !read then s
    else
      let (x, s) := s.free 65
      s.fieldWrite e i m.pt (BitVec.ofNat 32 x) true
  else if !read then s
  else
    let z := mbValue t ((byteAt m.bytes 5).testBit 1) (f.drop 3)
    if t = 4 then s.fieldFloat e i m.pt (BitVec.ofInt 32 z)
    else s.fieldWrite e i m.pt ((s.desc m.pt).scaleRaw z) false

/-- A valid reply to the request `req`: its slave and its function, or the exception of it, with all its data (R496). -/
def mbReplyOk (req f : List Byte) : Bool :=
  byteAt f 0 == byteAt req 0 &&
    ((byteAt f 1 == byteAt req 1 &&
        (if byteAt req 1 = 3 ∨ byteAt req 1 = 4 then byteAt f 2 == 2 * wordAt req 4 && f.length == 3 + byteAt f 2 else true))
      || (byteAt f 1 == byteAt req 1 + 128 && f.length == 3))

/-- A Modbus frame arrives: `ok` says that no gap of t1.5 lay inside it (R496). -/
def State.mbReceive (s : State) (e : Nat) (f : List Byte) (ok : Bool) : State :=
  let body := f.take (f.length - 2)
  if !ok || f.length < 4 || crc16 body != f.drop (f.length - 2) then s.fldError e
  else if s.engIs e .mbSlave then
    if byteAt body 0 = 0 ∨ byteAt body 0 = s.rd F.FIELD_ENG_CTL_ADDR e then s.fldStore e none body else s
  else match (s.eng e).mbNow with
    | none => s
    | some now =>
      if !mbReplyOk (s.eng e).mbReq body then s
      else
        let s := s.engMod e fun x => { x with mbNow := none }
        match now with
        | none => s.fldStore e none body
        | some i => s.mbMapped e i body

/-- No valid reply within PARAM.C ms (R496): the request is repeated, or the transaction times out. A queued request has
no mapping index to record. -/
def State.mbTimeout (s : State) (e : Nat) : State :=
  let s := s.engStep e
  let x := s.eng e
  match x.mbNow with
  | none => s
  | some now =>
    if x.mbTries < s.rd F.FIELD_ENG_PARAM_B e then
      (s.engMod e fun x => { x with mbTries := x.mbTries + 1 }).engSend e (x.mbReq ++ crc16 x.mbReq)
    else
      let s := (s.engMod e fun x => { x with mbNow := none }).incSat F.FIELD_ENG_STAT_TIMEOUT e
      match now with
      | some i => s.raise 0xD00 e [e, i]
      | none =>
        let (i, s) := s.free 66
        s.raise 0xD00 e [e, i % 2 ^ 32]

/-! ### MS/TP (R495; the state machines of ASHRAE 135 Clause 9) -/

/-- This station's address. -/
def State.station (s : State) (e : Nat) : Nat := s.rd F.FIELD_ENG_CTL_ADDR e

/-- The station is a master (R495). -/
def State.isMaster (s : State) (e : Nat) : Bool := s.station e < 128

/-- The station after `a`, up to Max_Master. -/
def State.after (s : State) (e a : Nat) : Nat := (a + 1) % (s.rd F.FIELD_ENG_PARAM_A e + 1)

/-- Enter a state; TOKEN shows whether the station holds the token. -/
def State.mstpTo (s : State) (e : Nat) (k : Mstp) : State :=
  (s.engMod e fun x => { x with st := k }).wrB F.FIELD_ENG_STAT_TOKEN
    (k = .useToken ∨ k = .waitReply ∨ k = .pollMaster) e

/-- A frame as it goes on the line: preamble, type, destination, source, length, header CRC, data, data CRC. -/
def mstpLine (type dest src : Nat) (d : List Byte) : List Byte :=
  let b (n : Nat) : Byte := BitVec.ofNat 8 n
  let head := [b type, b dest, b src, b (d.length / 256), b d.length]
  [0x55, 0xFF] ++ head ++ [b (refCrc 0x81 0xFF head ^^^ 0xFF)] ++
    (if d.isEmpty then [] else d ++ toBytes (refCrc 0x8408 0xFFFF d ^^^ 0xFFFF) 2)

/-- The station sends a frame. -/
def State.mstpSend (s : State) (e type dest : Nat) (d : List Byte) : State := s.engSend e (mstpLine type dest (s.station e) d)

/-- Pass the token to the next station. -/
def State.passToken (s : State) (e : Nat) : State :=
  ((s.engMod e fun x => { x with retries := 0 }).mstpSend e 0 (s.eng e).ns []).mstpTo e .passToken

/-- Poll station `p` for a master. -/
def State.pollFor (s : State) (e p : Nat) : State :=
  ((s.engMod e fun x => { x with ps := p, retries := 0 }).mstpSend e 1 p []).mstpTo e .pollMaster

/-- The station has no more frames to send with the token: it goes on alone, passes the token, or polls. `k` bounds the
passes of a sole master with nothing to send. -/
def State.doneToken (s : State) (e : Nat) : Nat → State
  | 0 => s
  | k + 1 =>
    let x := s.eng e
    let ts := s.station e
    let nextPoll := s.after e x.ps
    if !x.sole && x.ns = ts then s.pollFor e (s.after e ts)
    else if x.tokens < 49 then
      let s := s.engMod e fun x => { x with tokens := x.tokens + 1 }
      if !x.sole then s.passToken e
      else
        let s := (s.engMod e fun x => { x with frames := 0 }).mstpTo e .useToken
        if 0 < s.txWaiting e then s else s.doneToken e k
    else if nextPoll ≠ x.ns then s.pollFor e nextPoll
    else if x.sole then
      (s.engMod e fun x => { x with ns := ts, tokens := 1 }).pollFor e (s.after e x.ns)
    else (s.engMod e fun x => { x with ps := ts, tokens := 1 }).passToken e

/-- The station takes the token: it sends from its transmit ring, if a frame waits there. -/
def State.takeToken (s : State) (e : Nat) : State :=
  let s := (s.engMod e fun x => { x with frames := 0 }).mstpTo e .useToken
  if 0 < s.txWaiting e then s else s.doneToken e 64

/-- After a frame sent with the token: another one if Max_Info_Frames allows. -/
def State.afterFrame (s : State) (e : Nat) : State :=
  if (s.eng e).frames < s.rd F.FIELD_ENG_PARAM_B e && 0 < s.txWaiting e then s.mstpTo e .useToken else s.doneToken e 64

/-- No master answered a poll. -/
def State.pollFailed (s : State) (e : Nat) : State :=
  let x := s.eng e
  let ts := s.station e
  if x.sole then s.takeToken e
  else if x.ns ≠ ts then s.passToken e
  else if s.after e x.ps ≠ ts then s.pollFor e (s.after e x.ps)
  else (s.engMod e fun x => { x with sole := true }).takeToken e

/-- A valid frame at a station that waits for none. -/
def State.mstpIdleRx (s : State) (e type dest src : Nat) (d : List Byte) : State :=
  let me := dest == s.station e
  let s := s.mstpTo e .idle
  if type = 0 then
    if me && s.isMaster e && s.driving then (s.engMod e fun x => { x with sole := false }).takeToken e else s
  else if type = 1 then (if me && s.isMaster e then s.mstpSend e 2 src [] else s)
  else if type = 2 ∨ type = 7 then s
  else if type = 3 ∧ me then s.mstpSend e 4 src d
  else if me || dest = 255 then
    let s := s.fldStore e (some type) (BitVec.ofNat 8 dest :: BitVec.ofNat 8 src :: d)
    if type = 5 && me then (s.engMod e fun x => { x with asker := src }).mstpTo e .answer else s
  else s

/-- A frame off the line. -/
structure MstpFrame where
  type : Nat
  dest : Nat
  src : Nat
  d : List Byte
  deriving DecidableEq, Repr

/-- The frame in the octets of the line after a preamble (the Receive Frame machine, R495): none where the header CRC or the
data CRC fails, octets are missing, or it has more than 501 data octets. -/
def mstpFrame (f : List Byte) : Option MstpFrame :=
  let head := (f.drop 2).take 5
  let n := wordAt f 5
  let d := (f.drop 8).take n
  let crc := (f.drop (8 + n)).take 2
  if head.length < 5 || byteAt f 7 ≠ refCrc 0x81 0xFF head ^^^ 0xFF || f.length < 8 then none
  else if d.length < n || 501 < n || (n ≠ 0 && crc ≠ toBytes (refCrc 0x8408 0xFFFF d ^^^ 0xFFFF) 2) then none
  else some ⟨byteAt f 2, byteAt f 3, byteAt f 4, d⟩

/-- A frame is dropped at an MS/TP station for its errors. -/
def State.mstpBad (s : State) (e : Nat) : State :=
  let st := (s.eng e).st
  let s := s.fldError e
  match st with
  | .waitReply => s.doneToken e 64
  | .pollMaster => s.pollFailed e
  | _ => s

/-- A valid frame arrives at an MS/TP station. -/
def State.mstpValid (s : State) (e : Nat) (f : MstpFrame) : State :=
  let ⟨type, dest, src, d⟩ := f
  match (s.eng e).st with
    | .waitReply =>
      if dest = s.station e ∧ (type = 4 ∨ type = 6) then
        (s.fldStore e (some type) (BitVec.ofNat 8 dest :: BitVec.ofNat 8 src :: d)).afterFrame e
      else if dest = s.station e ∧ type = 7 then s.afterFrame e
      else s.mstpTo e .idle
    | .pollMaster =>
      if dest = s.station e ∧ type = 2 then
        (s.engMod e fun x => { x with sole := false, ns := src, ps := s.station e, tokens := 0 }).passToken e
      else s.mstpIdleRx e type dest src d
    | .answer | .useToken => s
    | _ => s.mstpIdleRx e type dest src d

/-- The octets `f` arrive at an MS/TP station (R495): no frame begins without a preamble; `ok` says that no receive error and no
timeout lay in the frame. -/
def State.mstpReceive (s : State) (e : Nat) (f : List Byte) (ok : Bool) : State :=
  if f.take 2 ≠ [0x55, 0xFF] then s
  else match mstpFrame f with
    | some x => if ok then s.mstpValid e x else s.mstpBad e
    | none => s.mstpBad e

/-- A timer of the data link expires (R495): T_no_token, T_slot, T_usage_timeout or T_reply_timeout, as the state waits
for it. -/
def State.mstpTimer (s : State) (e : Nat) : State :=
  let s := s.engStep e
  if !s.engIs e .mstp || !s.isMaster e || !s.driving then s
  else
    let x := s.eng e
    match x.st with
    | .idle => s.mstpTo e .noToken
    | .noToken =>
      let ts := s.station e
      (s.engMod e fun x => { x with ns := ts, tokens := 0 }).pollFor e (s.after e ts)
    | .waitReply => s.doneToken e 64
    | .passToken =>
      if x.retries < 1 then (s.engMod e fun x => { x with retries := x.retries + 1 }).mstpSend e 0 x.ns []
      else (s.engMod e fun x => { x with ns := s.station e, tokens := 0 }).pollFor e (s.after e x.ns)
    | .pollMaster => s.pollFailed e
    | .useToken | .answer => s

/-- The reply that the awaiting station asked for stands next in the transmit ring. -/
def State.replyWaits (s : State) (e : Nat) : Bool :=
  0 < s.txWaiting e && byteAt (s.txSlot e).2 0 == (s.eng e).asker

/-- A Data Expecting Reply frame has had no reply in the transmit ring for 250 ms (R495). -/
def State.replyPostponed (s : State) (e : Nat) : State :=
  let s := s.engStep e
  if s.engIs e .mstp && (s.eng e).st == .answer && !s.replyWaits e then (s.mstpSend e 7 (s.eng e).asker []).mstpTo e .idle else s

/-- The station sends the next frame of its transmit ring: with the token, or as the reply that is awaited. -/
def State.mstpTransmit (s : State) (e : Nat) : State :=
  let (type, f) := s.txSlot e
  let (dest, d) := (byteAt f 0, f.drop 2)
  match (s.eng e).st with
  | .useToken =>
    let s := ((s.txTake e).engMod e fun x => { x with frames := x.frames + 1 }).mstpSend e type dest d
    if (type = 5 ∨ type = 3) ∧ dest ≠ 255 then s.mstpTo e .waitReply else s.afterFrame e
  | .answer =>
    if s.replyWaits e then ((s.txTake e).mstpSend e type dest d).mstpTo e .idle else s
  | _ => s

/-! ### KNX (R497, R498) -/

/-- A KNX frame with its check byte. -/
def knxLine (f : List Byte) : List Byte := f ++ [f.foldl (· ^^^ ·) 0xFF]

/-- A frame is to be sent: it goes on the bus once those before it are done. -/
def State.knxSend (s : State) (e : Nat) (f : List Byte) : State :=
  if !s.driving then s
  else
    let first := (s.eng e).knxQueue.isEmpty
    let s := s.engMod e fun x => { x with knxQueue := x.knxQueue ++ [f], knxTries := if first then 0 else x.knxTries }
    if first then s.engSend e (knxLine f) else s

/-- The frame on the bus is done: the next one goes. -/
def State.knxNext (s : State) (e : Nat) : State :=
  let s := s.engMod e fun x => { x with knxQueue := x.knxQueue.tail, knxTries := 0 }
  match (s.eng e).knxQueue with
  | f :: _ => s.engSend e (knxLine f)
  | [] => s

/-- A group frame from this engine: 0x40 a response, 0x80 a write; data of 6 bits or less lie in the second byte. -/
def State.knxGroup (s : State) (e ga apci : Nat) (small : Bool) (d : List Byte) : List Byte :=
  let src := s.rd F.FIELD_ENG_PARAM_C e
  let b (n : Nat) : Byte := BitVec.ofNat 8 n
  let len := if small then 1 else 1 + d.length
  [0xBC, b (src / 256), b src, b (ga / 256), b ga, b (0xE0 + len), 0] ++
    (if small then [b (apci + byteAt d 0)] else b apci :: d)

/-- The binary32 number of a 2-byte float (DPT 9), 0.01 × M × 2^E: R497 says it is converted exactly. -/
def dpt9Value (w : Nat) : Word :=
  let m : Int := ((w % 2048 : Nat) : Int) - (if w.testBit 15 then 2048 else 0)
  (fDiv (fOfInt (m * 2 ^ (w / 2048 % 16))) (fOfInt 100)).1

/-- The 2-byte floats of exponent `e` near the binary32 number `v`: those with the mantissas about 100 × v / 2^e. -/
def dpt9Near (v : Word) (e : Nat) : List Nat :=
  match fNearest (fMul (fMul v (fOfInt 100)).1 (fOfInt 1 (-(e : Int)))).1 with
  | none => []
  | some q => ([q - 1, q, q + 1].filter fun m => decide (-2048 ≤ m ∧ m ≤ 2047)).map fun m =>
      (if m < 0 then 2 ^ 15 else 0) + 2048 * e + (m % 2048).toNat

/-- The 2-byte floats that stand for the binary32 number `v`. -/
def dpt9Of (v : Word) : List Nat :=
  ((List.range 16).flatMap (dpt9Near v)).filter fun w => decide (dpt9Value w = if v = 0x80000000 then 0 else v)

/-- The 2-byte float a DPT 9 entry sends of point `p`: one that stands for its value. Which, where several do, and what is sent
of a value that none stands for, is not stated. -/
def State.sendDpt9 (s : State) (p : Nat) : Nat × State :=
  let (v, s) := s.sendFloat p
  let (x, s) := s.free 67
  match dpt9Of v with
  | [] => (x, s)
  | w :: ws => ((w :: ws).getD (x % (ws.length + 1)) w, s)

/-- The data bytes of DPT `t` for point `p`, and whether they lie in the APCI byte (R497). -/
def State.dptBytes (s : State) (p t : Nat) : List Byte × Bool × State :=
  match t with
  | 0 => let (z, s) := s.sendInt p 0 1; ([BitVec.ofInt 8 z], true, s)
  | 1 => let (z, s) := s.sendInt p 0 255; ([BitVec.ofInt 8 z], false, s)
  | 2 => let (z, s) := s.sendInt p 0 65535; ((toBytes z.toNat 2).reverse, false, s)
  | 3 => let (x, s) := s.sendDpt9 p; ((toBytes x 2).reverse, false, s)
  | _ => let (v, s) := s.sendFloat p; ((toBytes v.toNat 4).reverse, false, s)

/-- The mapping entries of engine `e` in use: enabled, with a listed DPT. -/
def State.knxEntries (s : State) (e : Nat) : List (Nat × MapEntry) :=
  ((List.range (min 256 (s.rd F.FIELD_ENG_MAP_COUNT e))).map fun i => (i, s.mapEntry e i)).filter fun im =>
    (byteAt im.2.bytes 5).testBit 0 && byteAt im.2.bytes 3 ≤ 4

/-- A transmit entry sends its point's seen value (R498). -/
def State.knxEntrySend (s : State) (e i : Nat) (m : MapEntry) (apci : Nat) : State :=
  if !s.driving then s else
  let (d, small, s) := s.dptBytes m.pt (byteAt m.bytes 3)
  (s.engMod e fun x => { x with knxSent := Sparse.put x.knxSent i (s.seen m.pt).value }).knxSend e
    (s.knxGroup e (wordAt m.bytes 0) apci small d)

/-- A tick: every transmit entry whose seen value differs from the value last sent sends it (R498). -/
def State.knxTick (s : State) : State :=
  s.each [8, 9, 10, 11] fun s e =>
    if !s.engIs e .knx || !s.driving || !s.domOn .net then s
    else
      let s := s.engStep e
      s.each (s.knxEntries e) fun s im =>
        if byteAt im.2.bytes 2 = 1 && Sparse.find? (s.eng e).knxSent im.1 != some (s.seen im.2.pt).value then
          s.knxEntrySend e im.1 im.2 0x80
        else s

/-- The value of a receive entry (R497): DPT 9 converted to binary32. -/
def State.knxWrite (s : State) (e i : Nat) (m : MapEntry) (f : List Byte) : State :=
  let d := f.drop 8
  let scaled (z : Int) : State := s.fieldWrite e i m.pt ((s.desc m.pt).scaleRaw z) false
  match byteAt m.bytes 3 with
  | 0 => scaled (byteAt f 7 % 2)
  | 1 => scaled (byteAt d 0)
  | 2 => scaled (wordAt d 0)
  | 3 => s.fieldFloat e i m.pt (dpt9Value (wordAt d 0))
  | _ => s.fieldFloat e i m.pt (BitVec.ofNat 32 (wordAt d 0 * 65536 + wordAt d 2))

/-- A KNX frame arrives: `ok` says that its check byte passed (R498). The other acknowledgement characters are no frames; the
shortest frame has its TPCI byte and no more. -/
def State.knxReceive (s : State) (e : Nat) (f : List Byte) (ok : Bool) : State :=
  if f = [0xCC] then s.knxNext e
  else if f.length = 1 then s
  else if !ok || f.length < 7 then s.fldBad e
  else
    let group := (byteAt f 5).testBit 7
    let dst := wordAt f 3
    let entries := s.knxEntries e
    let named := entries.filter fun im => group && wordAt im.2.bytes 0 == dst
    let short := f.length = 7
    let s := if named.isEmpty && (group || dst != s.rd F.FIELD_ENG_PARAM_C e) then s else s.engSend e [0xCC]
    let apci := byteAt f 6 % 4 * 256 + byteAt f 7 / 64 * 64
    let rx := named.filter fun im => byteAt im.2.bytes 2 == 0
    let tx := named.filter fun im => byteAt im.2.bytes 2 == 1
    if short then s.fldStore e none f
    else if (apci = 0x40 ∨ apci = 0x80) ∧ rx ≠ [] then s.each rx fun s im => s.knxWrite e im.1 im.2 f
    else if apci = 0 ∧ tx ≠ [] then s.each tx fun s im => s.knxEntrySend e im.1 im.2 0x40
    else s.fldStore e none f

/-- No acknowledgement: the frame is repeated, at most three times (R498). -/
def State.knxRepeat (s : State) (e : Nat) : State :=
  let s := s.engStep e
  let x := s.eng e
  match x.knxQueue with
  | [] => s
  | f :: _ =>
    if 3 ≤ x.knxTries then s.knxNext e
    else
      let f := (f.headD 0 &&& 0xDF) :: f.tail
      (s.engMod e fun x => { x with knxTries := x.knxTries + 1 }).engSend e (knxLine f)

/-! ### Enabling, receiving, sending -/

/-- Setting FIELD_ENGe_CTL.EN (R495): a mode the engine does not have, or MS/TP without 8N1, is refused. -/
def State.fldEnable (s : State) (e : Nat) : State :=
  let mode := s.rd F.FIELD_ENG_CTL_MODE e
  let plain := s.rd F.FIELD_ENG_CTL_PARITY e == 0 && !s.bit F.FIELD_ENG_CTL_STOP2 e
  if s.bit F.FIELD_ENG_CTL_EN e then s
  else if decide (e < 8) != decide (mode < 4) || (mode == 1 && !plain) then s
  else
    let ts := s.station e
    ((s.wrB F.FIELD_ENG_CTL_EN true e).engMod e fun _ => { ns := ts, ps := ts, tokens := 50 })

/-- Clearing EN: the engine stops where it is. -/
def State.fldDisable (s : State) (e : Nat) : State :=
  ((s.wrB F.FIELD_ENG_CTL_EN false e).wrB F.FIELD_ENG_STAT_TOKEN false e).engMod e fun _ => {}

/-- A frame arrives at engine `e` (R494 to R498). -/
def State.fldReceive (s : State) (e : Nat) (f : List Byte) (ok : Bool) : State :=
  let s := s.engStep e
  if s.engIs e .uart then (if ok then s.fldStore e none f else s.fldBad e)
  else if s.engIs e .mstp then s.mstpReceive e f ok
  else if s.engIs e .mbMaster || s.engIs e .mbSlave then s.mbReceive e f ok
  else if s.engIs e .knx then s.knxReceive e f ok
  else s

/-- Engine `e` sends the next frame of its transmit ring (R494). A Modbus master takes its requests by transactions. -/
def State.fldTransmit (s : State) (e : Nat) : State :=
  let s := s.engStep e
  if s.txWaiting e = 0 || !s.driving then s
  else
    let f := (s.txSlot e).2
    if s.engIs e .uart then (s.txTake e).engSend e f
    else if s.engIs e .mstp then s.mstpTransmit e
    else if s.engIs e .mbSlave then (s.txTake e).engSend e (f ++ crc16 f)
    else if s.engIs e .knx then (s.txTake e).knxSend e f
    else s

/-! ### Commands -/

/-- FLD_ENABLE (R495). -/
def execFldEnable (e : Fin 12) (s : State) : Out := s.act [.net] fun s => s.fldEnable e

/-- FLD_RX_FRAME (R494 to R498). -/
def execFldRxFrame (e : Fin 12) (f : List Byte) (ok : Bool) (s : State) : Out :=
  s.act [.net] fun s => s.fldReceive e f ok

/-- FLD_TX_FRAME (R494). -/
def execFldTxFrame (e : Fin 12) (s : State) : Out := s.act [.net] fun s => s.fldTransmit e

/-- MSTP_TIMER (R495). -/
def execMstpTimer (e : Fin 12) (s : State) : Out := s.act [.net] fun s => s.mstpTimer e

/-- REPLY_POSTPONED (R495). -/
def execReplyPostponed (e : Fin 12) (s : State) : Out := s.act [.net] fun s => s.replyPostponed e

/-- MB_TRANSACTION (R496). -/
def execMbTransaction (e : Fin 12) (s : State) : Out := s.act [.net] fun s => s.mbTransaction e

/-- MB_REPLY_TIMEOUT (R496). -/
def execMbReplyTimeout (e : Fin 12) (s : State) : Out := s.act [.net] fun s => s.mbTimeout e

/-- KNX_REPEAT (R498). -/
def execKnxRepeat (e : Fin 12) (s : State) : Out := s.act [.net] fun s => s.knxRepeat e

end Sys2Proof.Machine
end

