-- ==== Sys2Proof/Machine/Net.lean ====
section
/-! DEFINITION. The Ethernet MACs (19_host_and_field_interfaces.md, R488 to R491): filtering, rings, checksums, BVLC, ARP
and neighbour answers, MDIO. A frame is its bytes from the destination address to the check sequence. -/

namespace Sys2Proof.Machine

/-! ### Frames -/

/-- Replace bytes of a frame from index `k` on. -/
def putBytes (f : List Byte) (k : Nat) (bs : List Byte) : List Byte := f.take k ++ bs ++ f.drop (k + bs.length)

/-- Two bytes, big-endian. -/
def be16 (v : Nat) : List Byte := [BitVec.ofNat 8 (v / 256), BitVec.ofNat 8 v]

/-- The one's complement sum of big-endian 16-bit words. -/
def sum16 : List Byte → Nat
  | [] => 0
  | [a] => a.toNat * 256
  | a :: b :: r => a.toNat * 256 + b.toNat + sum16 r

/-- The internet checksum of bytes: the complement of their folded sum. -/
def checksum (bs : List Byte) : Nat :=
  let s := sum16 bs
  let s := s % 65536 + s / 65536
  let s := s % 65536 + s / 65536
  65535 - s % 65536

/-- Where a frame's payload begins, and its EtherType; one VLAN tag is passed over (R488). -/
def ethPayload (f : List Byte) : Nat × Nat :=
  if wordAt f 12 = 0x8100 then (18, wordAt f 16) else (14, wordAt f 12)

/-- A UDP datagram in a frame: IP version 6, addresses of 16 bytes (an IPv4 one as ::FFFF:a.b.c.d), where the UDP header
begins, the lengths of IP header and datagram, whether it is whole and unextended so that checks apply (R490). -/
structure Udp where
  v6 : Bool
  src : List Byte
  dst : List Byte
  ip : Nat
  start : Nat
  len : Nat
  whole : Bool
  deriving DecidableEq, Repr

/-- An IPv4 address as 16 bytes (R492). -/
def mapped (a : List Byte) : List Byte := List.replicate 10 0 ++ [0xFF, 0xFF] ++ a

/-- The IP datagram of a frame: version 6, header start and length, next protocol, whole. -/
structure IpInfo where
  v6 : Bool
  ip : Nat
  hdr : Nat
  proto : Nat
  whole : Bool
  deriving DecidableEq, Repr

/-- The IP header of a frame, if it has one. -/
def ipOf (f : List Byte) : Option IpInfo :=
  let (o, t) := ethPayload f
  if t = 0x0800 ∧ byteAt f o / 16 = 4 then
    some ⟨false, o, byteAt f o % 16 * 4, byteAt f (o + 9), wordAt f (o + 6) % 0x4000 = 0⟩
  else if t = 0x86DD ∧ byteAt f o / 16 = 6 then some ⟨true, o, 40, byteAt f (o + 6), true⟩
  else none

/-- The UDP datagram of a frame, if it has one. -/
def udpOf (f : List Byte) : Option Udp :=
  match ipOf f with
  | none => none
  | some i =>
    if i.proto ≠ 17 then none
    else
      let u := i.ip + i.hdr
      let addr (k : Nat) : List Byte :=
        if i.v6 then (f.drop (i.ip + 8 + 16 * k)).take 16 else mapped ((f.drop (i.ip + 12 + 4 * k)).take 4)
      some ⟨i.v6, addr 0, addr 1, i.ip, u, wordAt f (u + 4), i.whole⟩

/-- The bytes of a datagram the UDP checksum covers: the pseudo-header and the datagram. -/
def udpCovered (f : List Byte) (u : Udp) : List Byte :=
  let n := if u.v6 then 0 else 12
  u.src.drop n ++ u.dst.drop n ++ be16 u.len ++ [0, 17] ++ (f.drop u.start).take u.len

/-- The outcome of the checks of R490 on a received frame: `some true` passed, `some false` failed, none not checked. -/
def csumOf (f : List Byte) : Option Bool :=
  match ipOf f with
  | none => none
  | some i =>
    let head := i.v6 || checksum ((f.drop i.ip).take i.hdr) = 0
    if !i.whole then none
    else match udpOf f with
      | none => if i.v6 then none else some head
      | some u =>
        let ok := if wordAt f (u.start + 6) = 0 then !u.v6 else decide (checksum (udpCovered f u) = 0)
        some (head && ok)

/-- The BVLC header of a datagram to the BVLC port (R491): its function code, none where it fails the checks. -/
def bvlcOf (f : List Byte) (u : Udp) : Option Nat :=
  let p := u.start + 8
  let fn := byteAt f (p + 1)
  if wordAt f (p + 2) = u.len - 8 ∧ fn ≤ 12 then some fn else none

/-! ### MACs -/

/-- What MAC `m` keeps beside its registers. -/
def State.mac (s : State) (m : Nat) : MacSt := Sparse.get s.port.mac {} m

/-- Change what MAC `m` keeps. -/
def State.macMod (s : State) (m : Nat) (f : MacSt → MacSt) : State :=
  { s with port := { s.port with mac := Sparse.set s.port.mac {} m (f (s.mac m)) } }

/-- A received pause frame holds the transmission of MAC `m` (R488). -/
def State.macPaused (s : State) (m : Nat) : Bool := decide (s.nowUs < (s.mac m).pausedTo)

/-- A frame of the MAC's own goes out on MAC `m`, or waits for the end of a pause. -/
def State.macSend (s : State) (m : Nat) (f : List Byte) : State :=
  if s.macPaused m then s.macMod m fun x => { x with held := x.held ++ [f] }
  else s.macMod m fun x => { x with sent := x.sent ++ [f] }

/-- A step of MAC `m` begins: the frames that waited for the end of a pause that is over go out. -/
def State.macStep (s : State) (m : Nat) : State :=
  if s.macPaused m then s.macMod m fun x => { x with sent := [] }
  else s.macMod m fun x => { x with sent := x.held, held := [] }

/-- The unicast address of MAC `m`. -/
def State.macAddr (s : State) (m : Nat) : List Byte :=
  toBytes (s.rd F.NET_MAC_ADDR_LO m) 4 ++ toBytes (s.rd F.NET_MAC_ADDR_HI m) 2

/-- The IPv4 address of MAC `m`, byte 0 in bits [7:0] as in the other address registers. -/
def State.ip4 (s : State) (m : Nat) : List Byte := toBytes (s.rd F.NET_MAC_IP4 m) 4

/-- The IPv6 link-local address of MAC `m` (R488). -/
def State.linkLocal (s : State) (m : Nat) : List Byte :=
  let a := s.macAddr m
  [0xFE, 0x80, 0, 0, 0, 0, 0, 0, a.getD 0 0 ^^^ 2] ++ (a.drop 1).take 2 ++ [0xFF, 0xFE] ++ a.drop 3

/-- MAC `m` delivers a frame by its destination (R488). -/
def State.macAccepts (s : State) (m : Nat) (f : List Byte) : Bool :=
  let d := f.take 6
  d == s.macAddr m || (d == List.replicate 6 0xFF && s.bit F.NET_MAC_CTL_BCAST m) ||
    (d.headD 0 % 2 == 1 && d != List.replicate 6 0xFF && s.bit F.NET_MAC_CTL_ALLMULTI m) || s.bit F.NET_MAC_CTL_PROMISC m

/-- The boot host is awaited on Ethernet (R492, R471). -/
def State.bootNet (s : State) : Bool := s.rd F.SYS_BOOT_STAT_SOURCE == 2 && s.rd F.SYS_BOOT_STAT_STATE == 2

/-- MAC `m` serves service access (R492). -/
def State.svcOn (s : State) (m : Nat) : Bool :=
  (s.bit F.NET_MAC_CTL_EN m && s.bit F.NET_MAC_CTL_SVC_EN m) || (m == 0 && s.bootNet)

/-- The device with the settings that MAC `m` serves with: under BOOT NET the reset settings of MAC 0 (R492). -/
def State.svcView (s : State) (m : Nat) : State :=
  if m == 0 && s.bootNet then
    { s with rf := s.rf.filter fun (kv : Nat × Nat) => !(0x40100100 * 32 ≤ kv.1 && kv.1 < 0x40100200 * 32) }
  else s

/-- The service request in a frame at MAC `m`: a UDP datagram to SVC_PORT at IP4 or the link-local address (R492). -/
def State.svcUdp (s : State) (m : Nat) (f : List Byte) : Option Udp :=
  let s := s.svcView m
  match udpOf f with
  | none => none
  | some u =>
    if s.svcOn m && u.whole && wordAt f (u.start + 2) == s.rd F.NET_MAC_PORTS_SVC_PORT m &&
        ((!u.v6 && s.rd F.NET_MAC_IP4 m != 0 && u.dst == mapped (s.ip4 m)) || (u.v6 && u.dst == s.linkLocal m))
    then some u else none

/-! ### Receiving (R488 to R491) -/

/-- The address of descriptor `k` of a ring (R489). -/
def ringDesc (base k : Nat) : Nat := base * 128 + 16 * k

/-- The length of a frame is bad: its length field, 1,500 at most, names more bytes than its payload has, or fewer of a payload
that is not padded to the shortest frame. -/
def lengthBad (f : List Byte) : Bool :=
  let (o, t) := ethPayload f
  t ≤ 1500 && (f.length < o + 4 + t || (64 < f.length && o + 4 + t < f.length))

/-- The descriptor of a received frame, bytes 6 and 7 (R489). -/
def State.rxFlags (s : State) (m : Nat) (f : List Byte) (crcOk : Bool) : Nat :=
  let csum := if s.bit F.NET_MAC_CTL_CSUM_EN m then csumOf f else none
  let bvlc := match udpOf f with
    | some u =>
      if s.bit F.NET_MAC_CTL_BVLC_EN m && wordAt f (u.start + 2) == s.rd F.NET_MAC_PORTS_BVLC_PORT m
          && byteAt f (u.start + 8) == 0x81 then bvlcOf f u else none
    | none => none
  let (_, t) := ethPayload f
  (if csum = some true then 2 else 0) + (if csum = some false then 4 else 0) +
    (match bvlc with | some fn => 8 + 256 * fn | none => 0) +
    (if t = 0x86DD then 2 ^ 12 else 0) + (if crcOk && !lengthBad f then 0 else 2 ^ 13) + (if wordAt f 12 = 0x8100 then 2 ^ 14 else 0)

/-- A BVLC datagram that fails its checks (R491). -/
def State.bvlcBad (s : State) (m : Nat) (f : List Byte) : Bool :=
  match udpOf f with
  | some u => s.bit F.NET_MAC_CTL_BVLC_EN m && wordAt f (u.start + 2) == s.rd F.NET_MAC_PORTS_BVLC_PORT m
      && byteAt f (u.start + 8) == 0x81 && (bvlcOf f u).isNone
  | none => false

/-- A frame goes to the next receive descriptor, or finds none free and is dropped (R489, R499). -/
def State.macStore (s : State) (m : Nat) (f : List Byte) (crcOk : Bool) : State :=
  let size := 2 ^ s.rd F.NET_MAC_RXRING_SIZE m
  let k := s.rd F.NET_MAC_RXIDX_DEV m % size
  let a := ringDesc (s.rd F.NET_MAC_RXRING_BASE m) k
  if (s.dByte (a + 6)).toNat % 2 = 0 || !s.domOn .deck then
    (s.incSat F.NET_MAC_CNT_RX_DROP m).raise 0xD03 m [m]
  else
    let flags := s.rxFlags m f crcOk
    let s := if flags.testBit 2 then s.incSat F.NET_MAC_CNT_CSUM_BAD m else s
    let s := if s.bvlcBad m f then s.incSat F.NET_MAC_CNT_BVLC_BAD m else s
    let s := s.putGeneral (s.dWord a) f
    let s := s.putGeneral (a + 4) (toBytes f.length 2 ++ toBytes flags 2 ++ toBytes s.frame 6 ++ toBytes s.offset 2)
    s.wr F.NET_MAC_RXIDX_DEV ((k + 1) % size) m

/-- The answer to an ARP request for IP4 (R488). -/
def State.arpReply (s : State) (m : Nat) (f : List Byte) : Option (List Byte) :=
  let (o, t) := ethPayload f
  if t = 0x0806 ∧ (f.drop o).take 8 = [0, 1, 8, 0, 6, 4, 0, 1] ∧ s.rd F.NET_MAC_IP4 m ≠ 0 ∧
      (f.drop (o + 24)).take 4 = s.ip4 m then
    let asker := (f.drop (o + 8)).take 10
    some (asker.take 6 ++ s.macAddr m ++ [8, 6, 0, 1, 8, 0, 6, 4, 0, 2] ++ s.macAddr m ++ s.ip4 m ++ asker)
  else none

/-- The answer to a neighbour solicitation for the link-local address (R488). -/
def State.neighbourReply (s : State) (m : Nat) (f : List Byte) : Option (List Byte) :=
  match ipOf f with
  | none => none
  | some i =>
    let p := i.ip + 40
    if i.v6 ∧ i.proto = 58 ∧ byteAt f p = 135 ∧ (f.drop (p + 8)).take 16 = s.linkLocal m then
      let src := (f.drop (i.ip + 8)).take 16
      let head : List Byte := [136, 0, 0, 0, 0x60, 0, 0, 0] ++ s.linkLocal m ++ [2, 1] ++ s.macAddr m
      let c := checksum (s.linkLocal m ++ src ++ [0, 0, 0, 32, 0, 0, 0, 58] ++ head)
      some ((f.drop 6).take 6 ++ s.macAddr m ++ [0x86, 0xDD, 0x60, 0, 0, 0, 0, 32, 58, 255] ++ s.linkLocal m ++ src ++
        putBytes head 2 (be16 c))
    else none

/-- A pause frame (R488): transmission is held for its quanta of 512 bit times. A frame of another kind holds nothing. -/
def State.pause (s : State) (m : Nat) (f : List Byte) : State :=
  if wordAt f 12 = 0x8808 ∧ wordAt f 14 = 1 then
    let bitsPerUs := 10 * 10 ^ s.rd F.NET_MAC_CTL_SPEED m
    s.macMod m fun x => { x with pausedTo := s.nowUs + wordAt f 16 * 512 / bitsPerUs }
  else s

/-- A frame arrives at MAC `m` (R488 to R491); under BOOT NET MAC 0 answers for its addresses (R492). A service
request goes to the service endpoint, not to the ring. -/
def State.netReceive (s : State) (m : Nat) (f : List Byte) (crcOk : Bool) : State :=
  let s := s.macStep m
  let boot := m == 0 && s.bootNet
  if !(s.bit F.NET_MAC_CTL_EN m || boot) || f.length < 64 || 1522 < f.length then s
  else
    let s := if crcOk then s.pause m f else s
    let v := s.svcView m
    let answer := if crcOk && v.bit F.NET_MAC_CTL_RESOLVE m then (v.arpReply m f).or (v.neighbourReply m f) else none
    let s := match answer with
      | some a => s.macSend m a
      | none => s
    if !s.bit F.NET_MAC_CTL_EN m || !s.macAccepts m f || (crcOk && (s.svcUdp m f).isSome) then s else s.macStore m f crcOk

/-! ### Sending (R489, R490) -/

/-- The frame of a transmit descriptor with flags `g`, its checksums and BVLC length inserted (R490, R491). -/
def State.txFrame (s : State) (m : Nat) (f : List Byte) (g : Nat) : List Byte :=
  match ipOf f with
  | none => f
  | some i =>
    let f := match udpOf f with
      | some u => if s.bit F.NET_MAC_CTL_BVLC_EN m && g.testBit 3 then putBytes f (u.start + 10) (be16 (u.len - 8)) else f
      | none => f
    if !(s.bit F.NET_MAC_CTL_CSUM_EN m && g.testBit 1) then f
    else
      let f := if i.v6 then f else
        let f := putBytes f (i.ip + 10) [0, 0]
        putBytes f (i.ip + 10) (be16 (checksum ((f.drop i.ip).take i.hdr)))
      match udpOf f with
      | none => f
      | some u =>
        let f := putBytes f (u.start + 6) [0, 0]
        let c := checksum (udpCovered f u)
        putBytes f (u.start + 6) (be16 (if c = 0 then 0xFFFF else c))

/-- MAC `m` begins to send the next frame of its transmit ring, if one is queued (R489). -/
def State.netKick (s : State) (m : Nat) : State :=
  let s := s.macStep m
  let k := s.rd F.NET_MAC_TXIDX_DEV m
  if !s.bit F.NET_MAC_CTL_EN m || k == s.rd F.NET_MAC_TXIDX_SW m || s.macPaused m then s
  else s.macMod m fun x => { x with sending := true }

/-- A frame has been sent: DEV advances, and the next queued frame begins (R489). -/
def State.netSent (s : State) (m : Nat) : State :=
  let s := s.macStep m
  if !(s.mac m).sending then s
  else
    let size := 2 ^ s.rd F.NET_MAC_TXRING_SIZE m
    let k := s.rd F.NET_MAC_TXIDX_DEV m % size
    let a := ringDesc (s.rd F.NET_MAC_TXRING_BASE m) k
    let flags := leBytes s.dByte (a + 6) 2
    let f := s.txFrame m (s.dBytes (s.dWord a) (min 1536 (leBytes s.dByte (a + 4) 2))) flags
    let s := s.putGeneral (a + 6) (toBytes (flags / 2 * 2) 2)
    let s := s.wr F.NET_MAC_TXIDX_DEV ((k + 1) % size) m
    let more := (k + 1) % size != s.rd F.NET_MAC_TXIDX_SW m % size && !s.macPaused m
    s.macMod m fun x => { x with sending := more, sent := x.sent ++ [f] }

/-! ### MDIO and the link (R488) -/

/-- MDIO GO (R488): ignored while an access runs. -/
def State.mdioGo (s : State) (m : Nat) : State := s.wrB F.NET_MAC_MDIO_BUSY true m

/-- An MDIO access completes (R488). -/
def State.mdioDone (s : State) (m : Nat) (d : Nat) : State :=
  if !s.bit F.NET_MAC_MDIO_BUSY m then s
  else
    let s := s.wrB F.NET_MAC_MDIO_BUSY false m
    if s.rd F.NET_MAC_MDIO_OP m = 2 then s.wr F.NET_MAC_MDIO_DATA d m else s

/-! ### Commands -/

/-- NET_RX_FRAME (R488 to R491). -/
def execNetRxFrame (m : Fin 2) (f : List Byte) (crcOk : Bool) (s : State) : Out :=
  s.act [.net] fun s => s.netReceive m f crcOk

/-- NET_TX_KICK (R489). -/
def execNetTxKick (m : Fin 2) (s : State) : Out := s.act [.net] fun s => s.netKick m

/-- NET_TX_DONE (R489). -/
def execNetTxDone (m : Fin 2) (s : State) : Out := s.act [.net] fun s => s.netSent m

/-- MDIO_GO (R488). -/
def execMdioGo (m : Fin 2) (s : State) : Out := s.act [.net] fun s => s.mdioGo m

/-- MDIO_DONE (R488). -/
def execMdioDone (m : Fin 2) (data : BitVec 16) (s : State) : Out := s.act [.net] fun s => s.mdioDone m data.toNat

/-- ETH_LINK_CHANGE (R488). -/
def execEthLinkChange (m : Fin 2) (up : Bool) (speed : BitVec 2) (s : State) : Out :=
  s.act [.net] fun s => (s.wrB F.NET_MAC_CTL_LINK up m).wr F.NET_MAC_CTL_SPEED speed.toNat m

end Sys2Proof.Machine
end

