-- ==== Sys2Proof/Machine/DeckRegs.lean ====
section
/-! DEFINITION. The command registers of the point engine (03_point_deck.md): descriptors, forces and block reads (R70, R74,
R85, R86, R92 to R94). -/

namespace Sys2Proof.Machine

/-! ### Descriptors -/

/-- DESC_READ (R70): the descriptor in force goes into DATA0 to DATA7. -/
def execDescRead (s : State) : Out :=
  s.act [.deck] fun s =>
    let d := s.desc (s.rd F.DECK_DESC_PT)
    s.each (List.range 8) fun s k => s.wr F.DECK_DESC_DATA (d.word k) k

/-- DESC_WRITE (R74): the descriptor in DATA0 to DATA7 is staged for the next tick, or refused whole. -/
def execDescWrite (s : State) : Out :=
  s.act [.deck] fun s =>
    let p := s.rd F.DECK_DESC_PT
    let d := Desc.ofWords fun k => s.rd F.DECK_DESC_DATA k
    if s.descRefused p d then s.wrB F.DECK_DESC_STAT_REFUSED true else s.stageDesc p d

/-- DESC_LOCK_SET (R119): set until reset. -/
def execDescLockSet (s : State) : Out := s.act [.deck] fun s => s.wrB F.DECK_CTL true

/-! ### Forces -/

/-- The initiators that may force: the host port and Ethernet service access (R85). -/
def mayForce : Initiator → Bool
  | .host | .net => true
  | _ => false

/-- FORCE through DECK_FORCE_CMD (R85). -/
def execForce (i : Initiator) (s : State) : Out :=
  s.act [.deck] fun s =>
    if mayForce i then (s.force (s.rd F.DECK_FORCE_PT) (BitVec.ofNat 32 (s.rd F.DECK_FORCE_VAL))).2 else s

/-- RELEASE through DECK_FORCE_CMD (R86). -/
def execReleaseA (i : Initiator) (s : State) : Out :=
  s.act [.deck] fun s => if mayForce i then (s.release (some (s.rd F.DECK_FORCE_PT))).2 else s

/-- RELEASE_ALL through DECK_FORCE_CMD (R86). -/
def execReleaseAll (i : Initiator) (s : State) : Out :=
  s.act [.deck] fun s => if mayForce i then (s.release none).2 else s

/-! ### Block reads -/

/-- DECK_BLKn_STAT.STATE codes. -/
inductive BlkState where
  | idle | pending | ready | aborted | refused
  deriving DecidableEq, Repr

/-- The code of a block-read state. -/
def BlkState.code : BlkState → Nat
  | .idle => 0 | .pending => 1 | .ready => 2 | .aborted => 3 | .refused => 4

/-- Buffer `n` stands in state `k`. -/
def State.blkIs (s : State) (n : Nat) (k : BlkState) : Bool := s.rd F.DECK_BLK_STAT_STATE n == k.code

/-- Why a START of `count` points from `first` is refused, 0 for no reason: BUSY, COUNT, WRAP, BUFFER in this order (R94). A
buffer is 64 KiB. -/
def State.blkReason (s : State) (n first count : Nat) : Nat :=
  if s.blkIs n .pending then 4
  else if count = 0 ∨ 4096 < count then 1
  else if 131072 < first + count then 2
  else if !inGeneral (s.rd F.DECK_BLK_BUF n * 65536) 65536 then 3
  else 0

/-- A START of buffer `n` for `count` points from `first` (R93, R94): a copy of the next tick's seen plane is pending, or the
command is refused. An accepted START clears REASON and ABORT_LATE. -/
def State.blkStartOf (s : State) (n first count : Nat) : State :=
  let r := s.blkReason n first count
  let s := s.wr F.DECK_BLK_STAT_REASON r n
  if r = 4 then s
  else if r ≠ 0 then s.wr F.DECK_BLK_STAT_STATE BlkState.refused.code n
  else
    let j : BlkJob := ⟨first, count, s.rd F.DECK_BLK_BUF n * 65536, none⟩
    let s := s.wrB F.DECK_BLK_STAT_ABORT_LATE false n
    { s.wr F.DECK_BLK_STAT_STATE BlkState.pending.code n with pts := { s.pts with blk := Sparse.put s.pts.blk n j } }

/-- START of buffer `n` by its registers. -/
def State.blkStart (s : State) (n : Nat) : State := s.blkStartOf n (s.rd F.DECK_BLK_FIRST n) (s.rd F.DECK_BLK_SEL n)

/-- CANCEL of buffer `n` (R93). -/
def State.blkCancel (s : State) (n : Nat) : State :=
  match s.rd F.DECK_BLK_STAT_STATE n, (Sparse.find? s.pts.blk n).bind (·.tick) with
  | 1, none =>
    { s.wr F.DECK_BLK_STAT_STATE BlkState.aborted.code n with pts := { s.pts with blk := Sparse.del s.pts.blk n } }
  | 1, some _ => s.wrB F.DECK_BLK_STAT_ABORT_LATE true n
  | 2, _ => s.wrB F.DECK_BLK_STAT_ABORT_LATE true n
  | _, _ => s

/-- RELEASE of buffer `n` (R94): READY, ABORTED and REFUSED become IDLE. -/
def State.blkRelease (s : State) (n : Nat) : State :=
  if s.blkIs n .pending then s else s.wr F.DECK_BLK_STAT_STATE BlkState.idle.code n

/-- The pending copies commit to the tick whose frame number `s` has (R93). -/
def State.blkTick (s : State) : State :=
  { s with pts := { s.pts with blk := s.pts.blk.map fun (kv : Nat × BlkJob) =>
    (kv.1, { kv.2 with tick := kv.2.tick.or (some s.frame) }) } }

/-- The copy of buffer `n` ends (R92, R93): the records of the tick in force stand in the buffer. -/
def State.blkFinish (s : State) (n : Nat) : State :=
  match Sparse.find? s.pts.blk n with
  | none => s
  | some j => match j.tick with
    | none => s
    | some f =>
      let s := { s with pts := { s.pts with blk := Sparse.del s.pts.blk n } }
      let s := s.deckPut j.base (s.deckBytes (j.first * 16) (j.count * 16))
      (s.wr F.DECK_BLK_STAT_STATE BlkState.ready.code n).wr48 F.DECK_BLK_FRAME_LO F.DECK_BLK_FRAME_HI f n

/-- The copies of the tick that opened the span in progress end within it (R93): before the next tick every one is done. -/
def State.blkFlush (s : State) : State := s.each [0, 1, 2] State.blkFinish

/-- DECK_BLK_START (R94). -/
def execDeckBlkStart (n : Fin 3) (s : State) : Out := s.act [.deck] fun s => s.blkStart n

/-- DECK_BLK_CANCEL (R93). -/
def execDeckBlkCancel (n : Fin 3) (s : State) : Out := s.act [.deck] fun s => s.blkCancel n

/-- DECK_BLK_RELEASE (R94). -/
def execDeckBlkRelease (n : Fin 3) (s : State) : Out := s.act [.deck] fun s => s.blkRelease n

/-- BLK_COPY_DONE (R93): not before the commit window has closed. -/
def execBlkCopyDone (n : Fin 3) (s : State) : Out :=
  s.act [.deck] fun s => if s.running && s.inWin .commit then s else s.blkFinish n

end Sys2Proof.Machine
end

