-- ==== Sys2Proof/Machine/Gpio.lean ====
section
/-! DEFINITION. I²C and SPI masters, and GPIO (19_host_and_field_interfaces.md, R500, R501). -/

namespace Sys2Proof.Machine

/-! ### I²C and SPI (R500) -/

/-- A transfer's STATE codes. -/
inductive XferState where
  | idle | busy | done | nackAddr | nackData | timeout | refused
  deriving DecidableEq, Repr

/-- The code of a transfer state. -/
def XferState.code : XferState → Nat
  | .idle => 0 | .busy => 1 | .done => 2 | .nackAddr => 3 | .nackData => 4 | .timeout => 5 | .refused => 6

/-- A buffer of `len` bytes at `a` breaks R500: not address 0, and not in the general-use region. -/
def bufferBad (a len : Nat) : Bool := a != 0 && 0 < len && !inGeneral a len

/-- The bytes a master sends from buffer `a`: zeros when there is none (R500). -/
def State.bufferBytes (s : State) (a len : Nat) : List Byte :=
  if a = 0 then List.replicate len 0 else s.dBytes a len

/-- I²C GO (R500): ignored while a transfer runs. -/
def State.i2cGo (s : State) (m : Nat) : State :=
  let (a, w, r) := (s.rd F.FIELD_I2C_BUF m, s.rd F.FIELD_I2C_CTL_WLEN m, s.rd F.FIELD_I2C_CTL_RLEN m)
  if s.rd F.FIELD_I2C_CMD_STATE m = XferState.busy.code then s
  else if bufferBad a (w + r) then s.wr F.FIELD_I2C_CMD_STATE XferState.refused.code m
  else
    { s.wr F.FIELD_I2C_CMD_STATE XferState.busy.code m with
      port := { s.port with i2cOut := Sparse.set s.port.i2cOut [] m (s.bufferBytes a w) } }

/-- An I²C transfer ends (R500): `nack` 0 none, 1 of the address, else of data; the bytes read go to BUF + WLEN. -/
def State.i2cDone (s : State) (m : Nat) (nack : Nat) (data : List Byte) : State :=
  let (a, w, r) := (s.rd F.FIELD_I2C_BUF m, s.rd F.FIELD_I2C_CTL_WLEN m, s.rd F.FIELD_I2C_CTL_RLEN m)
  if s.rd F.FIELD_I2C_CMD_STATE m ≠ XferState.busy.code then s
  else
    let s := if a = 0 || nack != 0 then s else s.putGeneral (a + w) (data.take r)
    s.wr F.FIELD_I2C_CMD_STATE
      (if nack = 0 then XferState.done else if nack = 1 then .nackAddr else .nackData).code m

/-- Clock stretching beyond 10 ms (R500). -/
def State.i2cTimeout (s : State) (m : Nat) : State :=
  if s.rd F.FIELD_I2C_CMD_STATE m = XferState.busy.code then s.wr F.FIELD_I2C_CMD_STATE XferState.timeout.code m else s

/-- SPI GO (R500): ignored while a transfer runs. -/
def State.spiGo (s : State) (m : Nat) : State :=
  let (t, r, len) := (s.rd F.FIELD_SPI_TXBUF m, s.rd F.FIELD_SPI_RXBUF m, s.rd F.FIELD_SPI_CTL_LEN m)
  if s.rd F.FIELD_SPI_CMD_STATE m = XferState.busy.code then s
  else if bufferBad t len || bufferBad r len then s.wr F.FIELD_SPI_CMD_STATE XferState.refused.code m
  else
    { s.wr F.FIELD_SPI_CMD_STATE XferState.busy.code m with
      port := { s.port with spiOut := Sparse.set s.port.spiOut [] m (s.bufferBytes t len) } }

/-- An SPI transfer of LEN bytes completes (R500). -/
def State.spiDone (s : State) (m : Nat) (data : List Byte) : State :=
  let (r, len) := (s.rd F.FIELD_SPI_RXBUF m, s.rd F.FIELD_SPI_CTL_LEN m)
  if s.rd F.FIELD_SPI_CMD_STATE m ≠ XferState.busy.code then s
  else
    let s := if r = 0 then s else s.putGeneral r (data.take len)
    s.wr F.FIELD_SPI_CMD_STATE XferState.done.code m

/-! ### GPIO (R501) -/

/-- A level of pin `n` is accepted (R501): an edge is counted and feeds sequencer triggers (R219) and homing (R303). -/
def State.gpioAccept (s : State) (n : Nat) (level : Bool) : State :=
  if s.mapBit F.GPIO_IN n = level then s
  else
    let s := if level then s.setMap F.GPIO_IN n else s.clrMap F.GPIO_IN n
    let s := s.wr F.GPIO_PIN_EDGES (s.rd F.GPIO_PIN_EDGES n + 1) n
    let s := if s.domOn .conv && s.joint then s.gpioTriggers n level else s
    if s.joint then s.motGpio n level else s

/-- The levels accepted at input-close, for the snapshot of the next tick (R501). -/
def State.gpioSample (s : State) : State := { s with port := { s.port with levels := s.rd F.GPIO_IN } }

/-- The snapshot of the tick (R501). -/
def State.gpioSnap (s : State) : State := if s.domOn .net then s.wr F.GPIO_SNAP s.port.levels else s

/-- A write of GPIO_OUT: held under APPLY (R501). -/
def State.gpioOut (s : State) (v : Nat) : State :=
  if s.bit F.GPIO_CTL then { s with port := { s.port with outHeld := some v } } else s.wr F.GPIO_OUT v

/-- The apply instant: a held OUT value takes effect (R501). -/
def State.gpioApply (s : State) : State :=
  match s.port.outHeld with
  | none => s
  | some v => { s with port := { s.port with outHeld := none } }.wr F.GPIO_OUT v

/-- The zero-cross slot that drives pin `n` (R333). -/
def State.zswOf (s : State) (n : Nat) : Option Nat :=
  [0, 1, 2, 3].find? fun k => s.bit F.METER_ZSW_CFG_EN k && s.rd F.METER_ZSW_CFG_GPIO k == n

/-- What the device puts on pin `n` (R361, R333, R470, R501): nothing, or a level. -/
def State.gpioPin (s : State) (n : Nat) : Option Bool :=
  if !s.driving || !s.domOn .net || !s.domOn .fan || !s.mapBit F.GPIO_DIR n then none
  else
    let b := match s.zswOf n with
      | some k => s.bit F.METER_ZSW_STAT_LEVEL k
      | none => s.mapBit F.GPIO_OUT n
    if b && s.mapBit F.GPIO_OD n then none else some b

/-! ### Commands -/

/-- I2C_GO (R500). -/
def execI2cGo (m : Fin 4) (s : State) : Out := s.act [.net] fun s => s.i2cGo m

/-- I2C_DONE (R500). -/
def execI2cDone (m : Fin 4) (nack : BitVec 2) (data : List Byte) (s : State) : Out :=
  s.act [.net] fun s => s.i2cDone m nack.toNat data

/-- I2C_STRETCH_TIMEOUT (R500). -/
def execI2cStretchTimeout (m : Fin 4) (s : State) : Out := s.act [.net] fun s => s.i2cTimeout m

/-- SPI_GO (R500). -/
def execSpiGo (m : Fin 4) (s : State) : Out := s.act [.net] fun s => s.spiGo m

/-- SPI_DONE (R500). -/
def execSpiDone (m : Fin 4) (data : List Byte) (s : State) : Out := s.act [.net] fun s => s.spiDone m data

/-- GPIO_EDGE (R501). -/
def execGpioEdge (n : Fin 32) (level : Bool) (s : State) : Out :=
  s.act [.net, .fan] fun s => s.inCycle fun s => s.gpioAccept n level

end Sys2Proof.Machine
end

