-- ==== Sys2Proof/Machine/PowerDom.lean ====
section
/-! DEFINITION. Power domains in service (18_power_reset_boot.md, R470): requests, refusals, what a domain loses and what
happens on its return. -/

namespace Sys2Proof.Machine

/-- A domain from its bit number (R470). -/
def domOf : Nat → Dom
  | 0 => .pierA | 1 => .pierB | 2 => .deck | 3 => .link | 4 => .net
  | 5 => .conv | 6 => .meter | 7 => .sol | 8 => .mot | _ => .fan

/-- The domain's switch is on. -/
def State.isOn (s : State) (d : Dom) : Bool := s.mapBit F.SYS_PD_STAT_IS_ON d.bit

/-- A core of the half runs a schedule that is not STOPPED (R470). -/
def State.halfBusy (s : State) (d : Dom) : Bool :=
  (List.range 24).any fun n =>
    coreDom (s.physOf n) == d && (s.sch n).active.isSome && !(s.schIs n .stopped || s.schIs n .retired)

/-- Why switching a domain off is refused: the REASON of R470, 0 for none. -/
def State.offRefusal (s : State) (d : Dom) : Nat :=
  match d with
  | .pierA | .pierB => if s.halfBusy d then 1 else 0
  | .deck => if s.driving then 2 else if s.isOn .pierA || s.isOn .pierB then 3 else 0
  | .conv => if (List.range 32).any fun n => s.bit F.CONV_SEQ_CTL_EN n then 5 else 0
  | .sol => if (List.range 32).any fun n => s.bit F.SOL_CH_CFG_EN n then 4 else 0
  | .mot => if (List.range 12).any fun n => s.bit F.MOT_CH_CFG_EN n then 4 else 0
  | .fan =>
    if ((List.range 16).any fun n => s.bit F.FAN_CH_CFG_EN n) || [0, 1, 2, 3].any fun k => s.bit F.METER_ZSW_CFG_EN k
    then 4 else 0
  | _ => 0

/-- A requested change of one domain (R470): refused, or begun. Switching PD_METER off takes the residue snapshot first
(R351). -/
def State.pdRequest (s : State) (d : Dom) (on : Bool) : State :=
  if s.mapBit F.SYS_PD_CTL_ON d.bit = on then s
  else
    let r := if s.mapBit F.SYS_PD_STAT_BUSY d.bit then 6 else if on then 0 else s.offRefusal d
    if r ≠ 0 then
      ((s.wrB F.SYS_PD_STAT_REFUSED true).wr F.SYS_PD_STAT_DOMAIN d.bit).wr F.SYS_PD_STAT_REASON r
    else
      let s := (if on then s.setMap F.SYS_PD_CTL_ON d.bit else s.clrMap F.SYS_PD_CTL_ON d.bit).setMap
        F.SYS_PD_STAT_BUSY d.bit
      let s := { s with power := { s.power with switching := s.power.switching ++ [(d.bit, on)] } }
      if d = .meter && !on && s.bit F.METER_PF_CTL_BLK_EN then s.residueSnap 3 else s

/-- A write of SYS_PD_CTL.ON (R470), by pier code or not: each bit that asks for a change is checked by itself, and while PD_NET
is off only pier code can switch it on. -/
def State.pdWrite (s : State) (pier : Bool) (on : Nat) : State :=
  s.each (List.range 10) fun s b =>
    if b = 4 ∧ !pier ∧ !s.isOn .net ∧ on.testBit 4 then s else s.pdRequest (domOf b) (on.testBit b)

/-- PD_SWITCH_REQUEST (R470), of pier code: log entry 199. -/
def execPdSwitchRequest (on : BitVec 10) (s : State) : Out := s.act [] fun s => s.pdWrite true on.toNat

/-! ### What is lost (R470) -/

/-- The memories and registers of the half's cores. -/
def State.loseHalf (s : State) (d : Dom) : State :=
  let here (c : Nat) : Bool := coreDom c == d
  let s := { s with pier := { s.pier with
    tcm := s.pier.tcm.filter fun (kv : Nat × Byte) => !here (kv.1 / 0x40000)
    gpr := s.pier.gpr.filter fun (kv : Nat × Word) => !here (kv.1 / 64)
    core := s.pier.core.filter fun (kv : Nat × CoreSt) => !here kv.1
    spares := s.pier.spares.filter fun c => !here c } }
  s.showSpares

/-- The point engine, the fabric and the recorder; without DECK_RET the SRAM too. The force plane is retained with the
deck. -/
def State.loseDeck (s : State) : State :=
  let keep := s.bit F.SYS_PD_CTL_DECK_RET
  let s := if keep then
      { s with pts := { seen := s.pts.seen, own := s.pts.own, desc := s.pts.desc, forces := s.pts.forces } }
    else
      { s with deck := [], pts := {}, health := { s.health with poisoned := [], upsets := [] } }
  let s := { s with
    evr := {}, posted := [], busHeld := []
    port := { s.port with snapNext := none, commits := [], due := [] } }.sensForget
  ((s.clearBlock 2).clearBlock 13).wrB F.SYS_PD_STAT_RETAINED keep

/-- What domain `d` loses when it is switched off (R470). -/
def State.lose (s : State) (d : Dom) : State :=
  match d with
  | .pierA | .pierB => s.loseHalf d
  | .deck => s.loseDeck
  | .link => s.lanesDown
  | .net => ({ s with port := {} }.clearBlock 15 |>.clearBlock 16 |>.clearBlock 17).clearBlock 18
  | .conv => (({ s with conv := {}, sens := {} }.clearBlock 4).clearBlock 5).wr F.HEALTH_REF_DEV 0
  | .meter => let s := s.writeResidue; { s with meter := {} }.clearBlock 9
  | .sol => { s with sol := {} }.clearBlock 6
  | .mot => { s with mot := [] }.clearBlock 7
  | .fan =>
    let s := { s with fan := [] }.clearBlock 8
    { s.wr F.GPIO_IN 0 with port := { s.port with levels := 0 } }

/-! ### On return (R470) -/

/-- Retired gates of a kind read RETIRED again (R457). -/
def State.showRetired (s : State) (kind n : Nat) (f : Fld) (code : Nat) : State :=
  s.each ((List.range n).filter fun k => s.isRetired 3 (gateUnit kind k)) fun s k => s.wr f code k

/-- Spares are chosen again among the half's cores. -/
def State.spareHalf (s : State) (d : Dom) : State :=
  let rest := s.pier.spares
  let l := (List.range 24).reverse.filter fun c => coreDom c == d && s.canSpare c && !rest.contains c
  { s with pier := { s.pier with spares := rest ++ l.take (s.rd F.PIERCTL_CTL_SPARE_COUNT - rest.length) } }.showSpares

/-- The solenoid channels of a retired high-side switch read RETIRED again (R457). -/
def State.showRetiredHsw (s : State) : State :=
  s.each ((List.range 32).filter fun n => s.isRetired 3 (gateUnit 3 (n / 4))) fun s n => s.wr F.SOL_CH_STAT_REASON 4 n

/-- What happens when domain `d` is back: EN of the TWIN cursor follows TWIN_CTL.EN again (R433). Which group SS serves where
several slices are retired is the model's choice: log entry 198. -/
def State.regain (s : State) (d : Dom) : State :=
  match d with
  | .pierA | .pierB => s.spareHalf d
  | .deck =>
    let s := { s with power := { s.power with deckBack := true } }.wrB F.SYS_PD_STAT_RETAINED false
    (s.wrB F.EVR_CUR_CFG_EN (s.bit F.TWIN_CTL_EN) 3).evrStart
  | .conv => s.refEnable.each ((List.range 17).filter fun k => s.isRetired 2 k) State.sliceRetired
  | .meter => s.checkBlock
  | .sol => (s.showRetired 0 32 F.SOL_CH_STAT_REASON 4).showRetiredHsw
  | .mot => s.showRetired 1 12 F.MOT_CH_STAT_REASON 4
  | .fan => s.showRetired 2 16 F.FAN_CH_STAT_REASON 2
  | _ => s

/-- A switch of domain `d` completes; `failed` are the units that failed the tests of a return (R470). -/
def State.pdDone (s : State) (d : Dom) (on : Bool) (failed : List (Fin 5 × Nat)) : State :=
  let s := { s with power := { s.power with switching := s.power.switching.filter fun x => x.1 != d.bit } }
  let s := s.clrMap F.SYS_PD_STAT_BUSY d.bit
  let s := if on then ((s.setMap F.SYS_PD_STAT_IS_ON d.bit).retireAll failed).regain d
    else (s.lose d).clrMap F.SYS_PD_STAT_IS_ON d.bit
  s.event 0x007 [d.bit, on.toNat, s.rd F.SYS_PD_STAT_RETAINED]

/-- PD_SWITCH_DONE (R470). -/
def execPdSwitchDone (d : Fin 10) (failed : List (Fin 5 × Nat)) (s : State) : Out :=
  s.act [] fun s => match s.power.switching.find? fun x => x.1 == d.val with
    | some (_, on) => s.pdDone (domOf d) on failed
    | none => s

end Sys2Proof.Machine
end

