-- ==== Sys2Proof/Machine/W31.lean ====
section
/-! DEFINITION. The SPJ-3100 window (19_host_and_field_interfaces.md, R482 to R487). -/

namespace Sys2Proof.Machine

/-- The fields of a zone (R484): TEMP, SETPT, FAN, DAMPER, OVR, KWH. -/
def w31Fields : List Nat := [0, 1, 2, 3, 4, 5]

/-- Field `f` of zone `z` is bound. -/
def State.w31Bound (s : State) (z f : Nat) : Bool := s.bit F.HOSTP_W31_Z_F_EN z f

/-- A window command takes effect: the window is enabled (R482). -/
def State.w31Act (s : State) (f : State → State) : Out := s.act [.net] fun s => if s.bit F.HOSTP_W31_CTL then f s else s

/-! ### Conversions (R484) -/

/-- `m` × 2^e × 2^k rounded half away from zero. -/
def nearAway (neg : Bool) (m : Nat) (e : Int) : Int :=
  (if neg then -1 else 1) * (shiftZ (2 * m + shiftZ 1 (-e)) (e - 1) : Nat)

/-- `z` held to `lo` up to `hi`. -/
def clampInt (lo hi z : Int) : Int := max lo (min hi z)

/-- A binary32 value T as round(T × 2^k + c), held to `lo` up to `hi`; 0 for a NaN. -/
def w31Round (v : Word) (k : Nat) (c lo hi : Int) : Nat :=
  match F32.dec v with
  | .nan _ => 0
  | .inf n => (if n then lo else hi).toNat
  | .num n m e =>
    let (neg, m', e') := sumExact n m (e + k) (decide (c < 0)) c.natAbs 0
    (clampInt lo hi (nearAway neg m' e')).toNat

/-- floor(T) of a binary32 value, held to 0 up to `hi`; 0 for a NaN. -/
def w31Floor (v : Word) (hi : Int) : Nat :=
  match F32.dec v with
  | .nan _ => 0
  | .inf n => (if n then 0 else hi).toNat
  | .num n m e => if n then 0 else (min hi (shiftZ m e)).toNat

/-- The FORMATs that field `f` takes: F32 0, U32 3. -/
def w31Formats : Nat → List Nat
  | 2 => [3] | 4 => [3] | 5 => [3, 0] | _ => [0]

/-- The byte or word that a point of FORMAT `fmt` and value `v` gives field `f`. -/
def w31In (f fmt : Nat) (v : Word) : Nat :=
  match f with
  | 2 => min v.toNat 7
  | 3 => w31Round v 0 0 0 100
  | 4 => min v.toNat 65535
  | 5 => if fmt = 0 then w31Floor v 65535 else min v.toNat 65535
  | _ => w31Round v 1 80 0 255

/-- The value that a written byte or word gives field `f`, and whether it was clamped: SETPT, FAN, OVR. -/
def w31Out (f b : Nat) : Word × Bool :=
  match f with
  | 1 => (fOfInt ((b : Int) - 80) (-1), false)
  | 2 => (BitVec.ofNat 32 (min b 7), decide (7 < b))
  | _ => (BitVec.ofNat 32 b, false)

/-! ### The snapshot (R485) -/

/-- The largest byte or word that a point gives field `f` (R484). -/
def w31Top : Nat → Nat
  | 0 | 1 => 255 | 2 => 7 | 3 => 100 | _ => 65535

/-- Field `f` of zone `z` as a snapshot takes it: its byte or word, and whether its point is unusable. A point of a FORMAT
that R484 does not list for the field is unusable, and gives a byte or word of the field's range that the specification does not
state. -/
def State.w31Field (s : State) (z f : Nat) : (Nat × Bool) × State :=
  let p := s.rd F.HOSTP_W31_Z_F_POINT z f
  let r := s.seen p
  let fmt := (s.desc p).fmt
  if (w31Formats f).contains fmt then
    let nan := fmt == 0 && fIsNaN r.value
    ((w31In f fmt r.value, !usableQ r.qual || nan), s)
  else
    let (x, s) := s.free 82
    ((x % (w31Top f + 1), true), s)

/-- The bound fields, as (zone, field). -/
def State.w31List (s : State) : List (Nat × Nat) :=
  ((List.range 8).flatMap fun z => w31Fields.map fun f => (z, f)).filter fun x => s.w31Bound x.1 x.2

/-- The window takes the snapshot of a tick from its seen plane, after the flip (R485), whether or not it is enabled. -/
def State.w31Snap (s : State) : State :=
  if !s.domOn .net then s
  else
    let s := { s with port := { s.port with snapNext := some ([], []) } }
    s.each s.w31List fun s x =>
      let ((v, bad), s) := s.w31Field x.1 x.2
      let k := x.1 * 8 + x.2
      { s with port := { s.port with snapNext := s.port.snapNext.map fun n => (n.1 ++ [(k, v)], n.2 ++ [(k, bad)]) } }

/-- The snapshot is complete: reads use it from now on. -/
def State.w31Show (s : State) : State :=
  match s.port.snapNext with
  | none => s
  | some (vs, bs) => { s with port := { s.port with
      snap := vs.foldl (fun (m : Sparse Nat) x => Sparse.set m 0 x.1 x.2) []
      bad := bs.foldl (fun (m : Sparse Bool) x => Sparse.set m false x.1 x.2) []
      snapNext := none } }

/-- The value of field `f` of the zone PAGE selects, in the snapshot: 0 when it is not bound. -/
def State.w31Value (s : State) (f : Nat) : Nat :=
  if s.w31Bound s.port.page f then Sparse.get s.port.snap 0 (s.port.page * 8 + f) else 0

/-! ### Reads (R483, R486) -/

/-- The 16-bit field of an _L or _H offset, and whether the offset is the high one. -/
def w31Wide : Nat → Option (Nat × Bool)
  | 6 => some (4, false) | 7 => some (4, true) | 8 => some (5, false) | 9 => some (5, true) | _ => none

/-- A byte read: the data and the state after it. -/
def State.w31Read (s : State) (a : Nat) : Nat × State :=
  let z := s.port.page
  match w31Wide a with
  | some (f, false) =>
    let v := s.w31Value f
    (v % 256, { s with port := { s.port with latch := some (f, v / 256) } })
  | some (f, true) =>
    match s.port.latch with
    | some (g, b) => (if g = f then b else s.w31Value f / 256, s)
    | none => (s.w31Value f / 256, s)
  | none =>
    (match a with
    | 0 => z + if w31Fields.any (s.w31Bound z) then 128 else 0
    | 1 => mapOf 6 fun f => s.w31Bound z f && Sparse.get s.port.bad false (z * 8 + f)
    | 2 => s.w31Value 0 | 3 => s.w31Value 1 | 4 => s.w31Value 2 | 5 => s.w31Value 3
    | 0xFE => 0x31
    | 0xFF => z
    | _ => 0, s)

/-- A read frame: the byte it shifts out; with the window disabled 0x00 (R482). -/
def State.w31Get (s : State) (a : Byte) : Out :=
  s.act [.net] fun s =>
    let (b, s) := if s.bit F.HOSTP_W31_CTL then s.w31Read a.toNat else (0, s)
    { s with port := { s.port with w31Byte := b } }

/-! ### Writes (R484, R486, R487) -/

/-- A commit of field `f` is accepted: the later of two to one field in a span wins. -/
def State.w31Commit (s : State) (f b : Nat) : State :=
  let z := s.port.page
  if !s.w31Bound z f then s
  else
    let (v, sat) := w31Out f b
    let s := if sat then s.incSat F.HOSTP_W31_STAT_SAT else s
    let c : W31Commit := ⟨z * 8 + f, s.rd F.HOSTP_W31_Z_F_POINT z f, v⟩
    { s with port := { s.port with commits := (s.port.commits.filter fun x => x.field != c.field) ++ [c] } }

/-- A held byte is abandoned. -/
def State.w31Abandon (s : State) : State :=
  if s.port.held.isNone then s
  else { s with port := { s.port with held := none } }.incSat F.HOSTP_W31_STAT_ABANDONED

/-- A write of PAGE. -/
def State.w31Page (s : State) (d : Nat) : State :=
  let s := s.w31Abandon
  { s with port := { s.port with page := d % 8, latch := none } }

/-- A byte write. Only OVR is a 16-bit field that may be written; at KWH's offsets only what R486 says of any 16-bit field
happens. -/
def State.w31Write (s : State) (a d : Nat) : State :=
  match a with
  | 3 => s.w31Commit 1 d
  | 4 => s.w31Commit 2 d
  | 6 =>
    let s := match s.port.held with
      | some (f, _) => if f = 4 then s else s.w31Abandon
      | none => s
    { s with port := { s.port with held := some (4, d) } }
  | 7 =>
    match s.port.held with
    | some (4, b) => { s with port := { s.port with held := none } }.w31Commit 4 (b + 256 * d)
    | _ => s.incSat F.HOSTP_W31_STAT_ORPHAN
  | 8 => s.w31Abandon
  | 9 => s.incSat F.HOSTP_W31_STAT_ORPHAN
  | 0xFF => s.w31Page d
  | _ => s

/-- Commits accepted in the span that ended are due when the commit window of this tick closes. -/
def State.w31Due (s : State) : State := { s with port := { s.port with due := s.port.commits, commits := [] } }

/-- The due commits are presented to the point engine, as a host's writes (R75, R487). -/
def State.w31Present (s : State) : State :=
  let s' := { s with port := { s.port with due := [] } }
  s'.each s.port.due fun s c =>
    match s.softWrite c.pt 6 0 c.value .good with
    | (.ok, s) => s
    | (.refused, s) => (s.ownRefused c.pt 6).incSat F.HOSTP_W31_STAT_REFUSED
    | (_, s) => s.incSat F.HOSTP_W31_STAT_REFUSED

/-! ### Commands -/

/-- W31_READ (R482, R483). -/
def execW31Read (a : Byte) (s : State) : Out := s.w31Get a

/-- W31_READ_L (R486). -/
def execW31ReadL (a : Byte) (s : State) : Out := s.w31Get a

/-- W31_READ_H (R486). -/
def execW31ReadH (a : Byte) (s : State) : Out := s.w31Get a

/-- W31_WRITE (R484). -/
def execW31Write (a d : Byte) (s : State) : Out := s.w31Act fun s => s.w31Write a.toNat d.toNat

/-- W31_WRITE_L (R486). -/
def execW31WriteL (a d : Byte) (s : State) : Out := s.w31Act fun s => s.w31Write a.toNat d.toNat

/-- W31_WRITE_H (R486). -/
def execW31WriteH (a d : Byte) (s : State) : Out := s.w31Act fun s => s.w31Write a.toNat d.toNat

/-- W31_PAGE_WRITE (R486). -/
def execW31PageWrite (d : Byte) (s : State) : Out := s.w31Act fun s => s.w31Page d.toNat

/-- W31_SNAPSHOT_DONE (R485): not before the commit window has closed. -/
def execW31SnapshotDone (s : State) : Out :=
  s.act [.net] fun s => if s.running && s.inWin .commit then s else s.w31Show

end Sys2Proof.Machine
end

