-- ==== Sys2Proof/Machine/Span.lean ====
section
/-! DEFINITION. The span (02_span_timing.md): the tick and the instants of a span, the bearing die's tick, the change of
the span length, and the steps of start-up that the ticks make (R475). -/

namespace Sys2Proof.Machine

/-! ### Start-up at a tick (R475) -/

/-- What the tick does for the steps PRIME and OUTPUT, before the points change: span P primes the loops; at tick P + 2 the
step is OUTPUT, where a standby aligns (R378, R380). -/
def State.startTick (s : State) : State :=
  if s.atStep .prime then
    match s.power.primeFrame with
    | none => { s with power := { s.power with primeFrame := some s.frame } }.primeAll
    | some _ => s
  else if s.atStep .coherent then
    let s := (s.toStep .output).event 0x009 (w48 s.frame ++ [s.rd F.TWIN_STAT_ROLE])
    if s.roleIs .standby && !s.bit F.TWIN_STAT_SYNC then s.startAlign else s
  else s

/-- Tick P + 1 opens the first coherent span: every bound point takes its start-up value. `p` is whether span P began
before this tick, `old` the state of the tick's beginning. -/
def State.startCoherent (old s : State) (p : Bool) : State :=
  if s.atStep .prime && p then State.startValues old (s.toStep .coherent) else s

/-! ### The tick (R42, R43, R80) -/

/-- The mirror of the span that ended, which the standby applies in this commit window, cancels the armed change (R61, R369):
a CANCEL the active took after write-close. -/
def State.cancelMirrored (s : State) : Bool :=
  s.paired && s.roleIs .standby && s.domOn .deck && s.twin.heartbeatFrame == some (s.frame - 1) && s.twin.mirrorComplete &&
    s.twin.inbox.any fun i => match i with
      | .spanChange _ f => f == 0
      | _ => false

/-- An armed change of the span length is made at tick F (R58, R60). A follower's learned rate goes with the length. -/
def State.spanSwitch (s : State) : State :=
  match s.span.armed with
  | none => s
  | some (f, sel) =>
    if s.frame ≠ f then s
    else
      let old := spanUs s.sel
      let s := { s with span := { s.span with armed := none }, tre := { s.tre with spanChange := none } }
      if s.cancelMirrored then s
      else
        let s := { s with span := { s.span with rate := s.span.rate * spanUs sel / old } }
        ((s.wr F.SPAN_STAT_CUR_SEL sel).wr F.SPAN_CHG_STAT_STATE 2).event 0x100 ([old, spanUs sel] ++ w48 f)

/-- The bearing die's next span, where its own counter predicts it: a span of the length the last marker carried after the
one before, and with no marker yet at the tick (R54, R57). -/
def State.bearPredict (s : State) : State :=
  let start := match s.span.bear.head? with
    | some b => if s.span.bearLen = 0 then s.convAbs else b.start + s.span.bearLen * 8 / 25
    | none => s.convAbs
  { s with span := { s.span with bear := ⟨start, s.frame, s.sel⟩ :: s.span.bear.take 3 } }

/-- A tick comes: the pick requests that THROTTLE deferred before it are due at its apply instant (R279). -/
def solDue (st : SolSt) : SolSt :=
  { st with ch := st.ch.map fun (kv : Nat × SolCh) => (kv.1, { kv.2 with deferred := kv.2.deferred.map fun _ => true }) }

/-- The span counter expires: the frame number goes up by one, but for the device's first tick (R41), and the commit window
opens. A marker in the joint is due at the bearing die, and what the converter records once in a span may be recorded again
(R245). -/
def State.nextFrame (s : State) (first : Bool) : State :=
  let f := if first then s.frame else (s.frame + 1) % 2 ^ 48
  let s := if first then s
    else { s with span := { s.span with
      tickCyc := s.span.tickCyc + max s.spanCyc s.span.phase, frac := s.spanPs % 2500, extra := 0 } }
  let s := { s with
    span := { s.span with frame := f, phase := 0, due := s.span.marker, marker := none }
    sol := solDue s.sol
    conv := { s.conv with ovrSeen := [], dropSeen := [], lossSeen := [] } }
  s.wr F.SPAN_STAT_WINDOW Win.commit.code

/-- The checks whose last result of the span that ended was faulted (R256). -/
def State.faultedChecks (s : State) : List Nat :=
  (Sparse.keys s.sens.chk).filter fun m => (s.chkSt m).now == some true

/-- The point engine and the blocks of PD_DECK at a tick: mirror, ring, the flip of the planes (R80), and the schedules. -/
def State.deckTick (s : State) : State :=
  let p := s.power.primeFrame.isSome
  let old := s
  let faulted := s.faultedChecks
  let s := s.startTick
  let s := if s.power.deckBack then s.sensForget else s
  let s := if s.domOn .conv then s.sensTick else s
  let s := s.mirrorTick.treTick
  let s := s.flip s.hotPoints
  let s := s.hotTests faulted
  let s := State.startCoherent old s p
  let s := if s.power.deckBack then State.startValues old { s with power := { s.power with deckBack := false } } else s
  s.pierTick.blkTick

/-- Errors arise in the deck in the course of a span: which, lies outside the specification (R21; log entry 194). -/
def State.upsetsArise (s : State) : State :=
  { s with
    health := { s.health with
      codeUpsets := s.health.codeUpsets ++ Config.codeUpsets s.freeCtr
      upsets := s.health.upsets ++ (Config.upsets s.freeCtr).filter fun u => decide (8 * u.1 < deckEnd) }
    freeCtr := s.freeCtr + 1 }

/-- Everything a tick does on the deck die. `meas` is the measurement of the housekeeping slot of the span that ends (R444);
the device's first tick ends none. -/
def State.tickWork (s : State) (meas : Option Nat) : State :=
  let n := s.evr.queue.length
  let ended := s.frame
  let s := s.thawTick
  let s := if s.domOn .deck then s.blkFlush else s
  let s := s.healthLatch.nextFrame meas.isNone
  let s := if s.domOn .deck then s.evrTick else s
  let s := s.spanSwitch.bearPredict
  let s := if s.domOn .conv then s.sensSpans else s
  let s := if s.domOn .deck then s.deckTick else s
  let s := s.gpioSnap.knxTick.w31Due.w31Snap
  let s := match meas with
    | some m => s.healthEval ended m
    | none => s
  (s.sortEvents n).upsetsArise

/-- TICK (R42). -/
def execTick (meas : BitVec 32) (s : State) : Out :=
  s.act [] fun s => if s.running then (s.toPhase (s.spanCyc)).tickWork (some meas.toNat) else s

/-! ### The instants of a span (R43, R45, R46) -/

/-- Time passes to `p` CK_DECK cycles after the tick, and `f` happens; there is no such instant before ticks (R541). -/
def State.instant (s : State) (p : Nat) (f : State → State) : State := if s.running then f (s.toPhase p) else s

/-- The length code of the span that begins at the next tick. -/
def State.nextSel (s : State) : Nat :=
  match s.span.armed with
  | some (f, sel) => if f = s.frame + 1 then sel else s.sel
  | none => s.sel

/-- CK_DECK cycles of the span that begins at the next tick, as they are known before it: with the rate a follower has learned,
across a change of the length too (R389). -/
def State.nextSpanCyc (s : State) : Nat :=
  if !s.running then deckCycles (s.rd F.SPAN_CTL_SEL)
  else (s.lenPs s.nextSel + (s.spanPs % 2500 : Nat)).toNat / 2500

/-- TICK_MARKER_SEND (R54): 120 ns before a tick the marker goes into the joint, with the length of the span that the
tick counter gives (R389); a length that the command names is not looked at. The marker of the first tick goes before RUN is
set. -/
def execTickMarkerSend (_len : Nat) (s : State) : Out :=
  s.act [] fun s =>
    if !(s.joint && (s.running || s.atStep .admission)) then s
    else
      let s := s.instant (s.spanCyc - 48) id
      { s with span := { s.span with marker := some s.nextSpanCyc } }

/-- The points the drive channels and zero-cross slots name as commands. -/
def State.commandPoints (s : State) : List Nat :=
  (((List.range 32).map fun n => s.rd F.SOL_CH_CMDPT n) ++ ((List.range 12).flatMap fun n =>
    [s.rd F.MOT_CH_CMDPT n, s.rd F.MOT_CH_RUNPT n]) ++ ((List.range 16).map fun n => s.rd F.FAN_CH_TGTPT n) ++
    ((List.range 4).map fun k => s.rd F.METER_ZSW_PT k)).eraseDups

/-- The command set: the seen records of those points (R43). -/
def State.commandSet (s : State) : List CmdVal :=
  s.commandPoints.map fun p => ⟨p, (s.seen p).value, (s.seen p).qual, (s.desc p).fmt⟩

/-- COMMAND_SET_SEND (R43): none before OUTPUT (R475). -/
def execCommandSetSend (s : State) : Out :=
  s.act [.deck] fun s =>
    if !(s.joint && s.atStep .output) then s
    else s.instant 800 fun s => { s with span := { s.span with sent := some s.commandSet } }

/-- Every drive channel at the apply instant. A channel that takes its command from a point waits for the first command
set. -/
def State.applyChannels (s : State) : State :=
  let any := !s.span.inForce.isEmpty
  let s := if s.domOn .sol then
    s.each ((List.range 32).filter fun n => any || s.rd F.SOL_CH_CFG_SRC n != 0) State.solApply else s
  let s := if s.domOn .mot && any then s.each (List.range 12) State.motApply else s
  let s := if s.domOn .fan then
    s.each ((List.range 16).filter fun n => any || s.rd F.FAN_CH_CFG_SRC n != 0) State.fanApply else s
  if s.domOn .meter && any then s.each [0, 1, 2, 3] State.zswApply else s

/-- APPLY_INSTANT (R43): the command set in the joint comes into force, or the previous commands stay (R57); commands are
taken while the device drives (R269, R304, R320). It lies 3 µs after the bearing tick (R55). -/
def execApplyInstant (s : State) : Out :=
  s.act [] fun s => if !s.joint then s else s.instant (s.bearPhase 384) fun s => s.inCycle fun s =>
    let s := { s with span := { s.span with inForce := s.span.sent.getD s.span.inForce, sent := none } }
    let s := if s.domOn .sol then s.solRestart else s
    let s := { s with span := { s.span with applySel := some s.sel } }
    let s := if s.takesCommands then s.applyChannels else s
    if s.domOn .net then s.gpioApply else s

/-- WRITE_CLOSE (R45): span − 20 µs. -/
def execWriteClose (s : State) : Out :=
  s.act [] fun s => s.instant (s.spanCyc - 8000) fun s =>
    (if s.domOn .deck then s.mirrorClose else s).wr F.SPAN_STAT_WINDOW Win.writeClosed.code

/-- STATUS_SAMPLE (R282, R305, R322, R349): 12 µs before the tick. -/
def execStatusSample (s : State) : Out :=
  s.act [.deck] fun s => if !s.joint then s else s.instant (s.spanCyc - 4800) fun s =>
    let s := if s.domOn .sol then s.each (List.range 32) State.solStatus else s
    let s := if s.domOn .mot then s.each (List.range 12) State.motStatus else s
    let s := if s.domOn .fan then s.each (List.range 16) State.fanStatus else s
    if s.domOn .meter then s.meterStatusSample else s

/-- INPUT_CLOSE (R46): span − 10 µs. -/
def execInputClose (s : State) : Out :=
  s.act [] fun s => s.instant (s.spanCyc - 4000) fun s =>
    let s := s.wr F.SPAN_STAT_WINDOW Win.inputClosed.code
    let s := if s.domOn .net then s.gpioSample else s
    if s.domOn .deck then s.swapWrites else s

/-! ### The bearing die (R54 to R57) -/

/-- The bearing die starts its span. -/
def State.bearSpan (s : State) : State :=
  let s := if s.domOn .conv then s.tickTriggers else s
  let s := if s.domOn .mot then s.each (List.range 12) State.motTick else s
  { s with meter := { s.meter with clipLast := s.meter.clipSpan, clipSpan := 0 } }

/-- The bearing die starts its newest span `err` CK_CONV cycles after its prediction (R54, R56). -/
def realign (err : Int) : List BearSpan → List BearSpan
  | [] => []
  | b :: bs => { b with start := (b.start + err).toNat } :: bs

/-- BEAR_TICK (R54, R56): the marker of this tick arrives, `err` CK_CONV cycles from its prediction. -/
def execBearTick (err : BitVec 8) (s : State) : Out :=
  s.act [] fun s =>
    match s.span.due with
    | none => s
    | some len =>
      let s := { s with span := { s.span with
        due := none, bearLen := len, misses := 0, bear := realign err.toInt s.span.bear } }
      let s := s.wr F.SPAN_BEAR_STAT_ALIGN_ERR err.toNat
      s.inCycle fun s =>
        let s := if 1 < err.toInt.natAbs then (s.incSat F.SPAN_BEAR_STAT_SLIP_COUNT).event 0x101 [] else s
        s.bearSpan

/-- BEAR_MARKER_MISS (R57): a marker that was sent is lost; the second miss in a row is R15's reset. -/
def execBearMarkerMiss (s : State) : Out :=
  s.act [] fun s =>
    if !(s.running && s.joint) then s
    else
      let k := s.span.misses + 1
      let s := { s with span := { s.span with marker := none, due := none, misses := k } }
      let s := (s.incSat F.SPAN_BEAR_STAT_MISS_COUNT).event 0x102 []
      if 2 ≤ k then s.resetReleased .joint [] else s.bearSpan

/-! ### Changing the span length (R58 to R62) -/

/-- Every schedule's image, active and staged, and the one that the loader copies, fits the budget limit at code `sel` (R49,
R59). -/
def State.budgetsFit (s : State) (sel : Nat) : Bool :=
  let copied := match s.pier.loader with
    | some (.copying _ i _) => [i]
    | _ => []
  ((s.pier.sched.flatMap fun (kv : Nat × Sched) => kv.2.active.toList ++ kv.2.staged.toList) ++ copied).all fun i =>
    decide (i.budgetSum ≤ budgetLimit sel)

/-- Why ARM is refused: the REASON of R59, 0 for none. -/
def State.spanReason (s : State) (sel f : Nat) : Nat :=
  if !s.running then 5
  else if !s.budgetsFit sel then 1
  else if f < s.frame + 4 then 2
  else if s.rd F.SPAN_STAT_SOURCE ≠ 0 then 3
  else if s.bit F.TRESTLE_STAT_MASTER && s.inRing && decide (nMax sel < s.ringSize) then 4
  else 0

/-- ARM (R58, R59); the ring and the standby learn of it (R61). An ARM while ARMED changes nothing; another clears REASON and
ABORT_LATE. -/
def State.spanArm (s : State) : State :=
  if s.rd F.SPAN_CHG_STAT_STATE = 1 then s
  else
    let sel := s.rd F.SPAN_CHG_CTL_NEW_SEL
    let f := s.rd48 F.SPAN_CHG_FRAME_LO F.SPAN_CHG_FRAME_HI
    let r := s.spanReason sel f
    let s := (s.wr F.SPAN_CHG_STAT_REASON r).wrB F.SPAN_CHG_STAT_ABORT_LATE false
    if r ≠ 0 then s.wr F.SPAN_CHG_STAT_STATE 4
    else
      let s := { s.wr F.SPAN_CHG_STAT_STATE 1 with span := { s.span with armed := some (f, sel) } }
      let s := if s.bit F.TRESTLE_STAT_MASTER && s.inRing then { s with tre := { s.tre with spanChange := some (f, sel) } } else s
      s.mirror (.spanChange sel f)

/-- CANCEL (R60). -/
def State.spanCancel (s : State) : State :=
  match s.rd F.SPAN_CHG_STAT_STATE, s.span.armed with
  | 1, some (f, sel) =>
    if f ≤ s.frame + 1 then s.wrB F.SPAN_CHG_STAT_ABORT_LATE true
    else
      { s.wr F.SPAN_CHG_STAT_STATE 3 with
        span := { s.span with armed := none }, tre := { s.tre with spanChange := none } }.mirror (.spanChange sel 0)
  | 2, _ => s.wrB F.SPAN_CHG_STAT_ABORT_LATE true
  | _, _ => s

/-- SPAN_ARM (R59). -/
def execSpanArm (s : State) : Out := s.act [] State.spanArm

/-- SPAN_CANCEL (R60). -/
def execSpanCancel (s : State) : Out := s.act [] State.spanCancel

/-! ### The steps of start-up (R475) -/

/-- GO starts the order, in CONFIG only. -/
def State.startGo (s : State) : State := if s.atStep .config then s.toStep .admission else s

/-- START_GO (R475). -/
def execStartGo (s : State) : Out := s.act [] State.startGo

/-- ADMIT_DONE (R475): 10 µs after the loader has come to rest, RUN is set and tick 0 begins. -/
def execAdmitDone (s : State) : Out :=
  s.act [] fun s =>
    if !s.atStep .admission || s.bit F.PIERCTL_STAT_LOADER_BUSY then s
    else
      let s := (s.wrB F.SPAN_CTL_RUN true).wrB F.SPAN_STAT_RUNNING true
      (s.wr F.SPAN_STAT_CUR_SEL (s.rd F.SPAN_CTL_SEL)).admitOver.tickWork none

/-- JOIN_TIMEOUT (R475): JOIN_TMO passes; joining goes on in service. -/
def execJoinTimeout (s : State) : Out :=
  s.act [] fun s => if s.atStep .join then (s.wrB F.SYS_START_STAT_JOIN_TIMEOUT true).joinDone else s

/-- OUTPUT_STEP (R475): 1 µs before tick P + 2 OWN_OUT rises if the role is OFF or ACTIVE and OWN_IN is low. A thermal
SHUTDOWN and a freeze hold it (R450, R504). -/
def execOutputStep (s : State) : Out :=
  s.act [] fun s =>
    if !s.atStep .coherent then s
    else s.instant (s.spanCyc - 400) fun s =>
      if (s.roleIs .off || s.roleIs .active) && !s.bit F.TWIN_STAT_OWN_IN && !s.bit F.HEALTH_THERM_STAT_HALT_HOT
        && !s.dbg.frozen then s.ownRaise else s

end Sys2Proof.Machine
end

