-- ==== Sys2Proof/Machine/RegWrite.lean ====
section
/-! DEFINITION. Writing a control-block register (R5, R8): which encodings and moments a field accepts, and what a write does
beyond setting the fields: the commands the registers carry. -/

namespace Sys2Proof.Machine

/-- The value a written word `d` carries for a field. -/
def Fld.part (f : Fld) (d : Nat) : Nat := d / 2 ^ f.lo % 2 ^ f.width

/-- The bit a written word carries for a one-bit field. -/
def Fld.set (f : Fld) (d : Nat) : Bool := f.part d != 0

/-- `f` is one of the fields of a list. -/
def Fld.isIn (f : Fld) (l : List Fld) : Bool := l.any f.same

/-- The state a command leaves. -/
def State.run (s : State) (f : State → Out) : State :=
  match f s with
  | .next t => t
  | _ => s

/-! ### Encodings that depend on more than the field (R8) -/

/-- The SELECT or DIV a trigger register may hold, by the SRC of the same write (R219). -/
def trigRange (src : Nat) : Nat :=
  match src with
  | 3 => 2
  | 4 | 5 => 31
  | _ => 255

/-- The largest VLIM, by KIND (R289): 0.5774 for FOC, 1.0 for DC. -/
def vlimMax (kind : Nat) : Word := if kind = 0 then 0x3F13D07D else 0x3F800000

/-- A write of word `d` may give field `f` of instance x the value `v`. -/
def State.formLegal (s : State) (f : Fld) (x d v : Nat) : Bool :=
  if f.same F.CONV_SEQ_TRIG_DIV_M1 then
    let src := F.CONV_SEQ_TRIG_SRC.part d
    v ≤ trigRange (if src ≤ 5 then src else s.rd F.CONV_SEQ_TRIG_SRC x)
  else if f.same F.METER_CH_CFG_GAIN || f.same F.METER_CH_CFG_INTEG then 4 ≤ x || v == 0
  else if f.same F.METER_PF_SEL0 || f.same F.METER_PF_SEL1 then
    (toBytes v 4).all fun b => b.toNat == 0xFF || isEnergy b.toNat
  else if f.same F.METER_EP_CFG_Q || f.same F.METER_LOAD_Q then isEnergy v
  else if f.same F.MOT_CH_VLIM then !fLt (vlimMax (s.rd F.MOT_CH_CFG_KIND x)) (BitVec.ofNat 32 v)
  else if f.same F.EVR_LIST_SEL then
    let kind := v / 2 ^ 29
    kind < 4 || (kind == 4 && decide (v % 128 ≤ 67))
  else if f.same F.FIELD_ENG_CTL_MODE then decide (x < 8) == decide (v < 4)
  else true

/-! ### Fields a write does not reach -/

/-- Fields that a write changes only through what it does (`State.regEffect`). -/
def actedFlds : List Fld :=
  [F.SYS_PD_CTL_ON, F.CONV_REF_CTL, F.CONV_SEQ_CTL_EN, F.SENS_CHK_CFG_EN, F.SOL_CH_CFG_EN, F.MOT_CH_CFG_EN,
   F.FAN_CH_CFG_EN, F.METER_CTL_RUN, F.METER_SAVE_MARK, F.KEEP_RAM, F.KEEP_TRIM, F.EVR_CUR_POS, F.EVR_CUR_ACK,
   F.FIELD_ENG_CTL_EN, F.GPIO_OUT, F.HEALTH_THR_WARN, F.HEALTH_THR_THROTTLE, F.HEALTH_THR_SHUTDOWN,
   F.HEALTH_RETIRE_CMD, F.HEALTH_RETIRE_CLASS, F.HEALTH_RETIRE_UNIT,
   F.DBG_FRZ_CTL_FREEZE, F.SYS_WDOG_KICK]

/-- Fields of the deck-die blocks that a write does not change now. A pier without an image shows OFF, and BANKED may be written
there as in IDLE and STOPPED (R116): log entry 161. -/
def State.deckLocked (s : State) (f : Fld) (x : Nat) : Bool :=
  if f.same F.SYS_DEVICE_ID_ID then s.bit F.SYS_DEVICE_ID_LOCK
  else if f.isIn [F.SPAN_CTL_SEL, F.PIERCTL_CTL_SPARE_COUNT, F.TWIN_CTL_EN, F.TRESTLE_CTL_EN, F.DBG_LATCH_MOT, F.DBG_LATCH_FAN]
  then s.running
  else if f.isIn [F.SPAN_CHG_CTL_NEW_SEL, F.SPAN_CHG_FRAME_LO, F.SPAN_CHG_FRAME_HI] then s.rd F.SPAN_CHG_STAT_STATE == 1
  else if f.same F.PIERCTL_PIER_CFG_BANKED then !(s.schIs x .idle || s.schIs x .stopped || s.schIs x .off)
  else if f.same F.SYS_WDOG_CTL_PERIOD then s.bit F.SYS_WDOG_CTL_EN
  else if f.same F.TRESTLE_PUB_ID then s.bit F.TRESTLE_CTL_EN
  else if f.same F.EVR_CUR_CFG_EN then x == 3
  else if f.isIn [F.FIELD_ENG_CTL_MODE, F.FIELD_ENG_CTL_BAUD, F.FIELD_ENG_CTL_PARITY, F.FIELD_ENG_CTL_STOP2,
      F.FIELD_ENG_CTL_ADDR, F.FIELD_ENG_PARAM_A, F.FIELD_ENG_PARAM_B, F.FIELD_ENG_PARAM_C, F.FIELD_ENG_RING_BASE,
      F.FIELD_ENG_RING_TX_SIZE, F.FIELD_ENG_RING_RX_SIZE, F.FIELD_ENG_MAP_BASE, F.FIELD_ENG_MAP_COUNT]
  then s.bit F.FIELD_ENG_CTL_EN x
  else false

/-- The RW registers of an enabled motor channel that hold still (10_motor_channels.md, "Registers"). -/
def motHeld : List Fld :=
  [F.MOT_CH_CFG_KIND, F.MOT_CH_CFG_POSSRC, F.MOT_CH_CFG_SRC, F.MOT_CH_CFG_RANGE, F.MOT_CH_CFG_OBS_ACT,
   F.MOT_CH_CFG_POLES, F.MOT_CH_CFG_DT, F.MOT_CH_PWM, F.MOT_CH_CMDPT, F.MOT_CH_RUNPT, F.MOT_CH_ENC,
   F.MOT_CH_SL_SL_MIN, F.MOT_CH_SL_SL_RAMP, F.MOT_CH_SL_SL_IST, F.MOT_CH_BRAKE_BRK_EN, F.MOT_CH_BRAKE_BRK_CH,
   F.MOT_CH_BRAKE_BRK_TMO, F.MOT_CH_BRAKE_BRK_ENG, F.MOT_CH_HOME_HOME_SRC, F.MOT_CH_HOME_HOME_DIR,
   F.MOT_CH_HOME_HOME_LVL, F.MOT_CH_HOME_HOME_IQ, F.MOT_CH_HOME_HOME_GPIO, F.MOT_CH_HOME_HOME_T, F.MOT_CH_HOME_POS]

/-- The RW registers of an enabled fan channel that hold still (11_fan_channels.md, "Registers"). -/
def fanHeld : List Fld :=
  [F.FAN_CH_CFG_DRIVE, F.FAN_CH_CFG_SRC, F.FAN_CH_CFG_VSRC, F.FAN_CH_CFG_FAILFULL, F.FAN_CH_CFG_PPR, F.FAN_CH_TGTPT,
   F.FAN_CH_START_KICK_T, F.FAN_CH_START_START_TO, F.FAN_CH_START_RETRY_GAP, F.FAN_CH_START_RETRIES, F.FAN_CH_SHUNT]

/-- Field `f` is one of check `x`'s registers, which ignore every write but of EN while EN is 1 (R249). -/
def State.chkHeld (s : State) (f : Fld) (x : Nat) : Bool :=
  decide (0x40050400 ≤ f.base) && decide (f.base < 0x40060000) && s.bit F.SENS_CHK_CFG_EN x

/-- Fields of the bearing-die blocks that a write does not change now. The solenoid registers hold still as a whole while
their channel is enabled, and so do those of a sequencer but for RING_RD (R218), of a check (R249) and of the metering
channels. -/
def State.bearLocked (s : State) (f : Fld) (x : Nat) : Bool :=
  if 0x40040100 ≤ f.base && f.base < 0x40050000 then s.bit F.CONV_SEQ_CTL_EN x && !f.same F.CONV_SEQ_RING_RD
  else if s.chkHeld f x then true
  else if f.same F.SOL_GRP_CFG_IMAX then (List.range 4).any fun k => s.bit F.SOL_CH_CFG_EN (4 * x + k)
  else if 0x40060400 ≤ f.base && f.base < 0x40070000 then s.bit F.SOL_CH_CFG_EN x
  else if f.isIn motHeld then s.bit F.MOT_CH_CFG_EN x
  else if f.isIn fanHeld then s.bit F.FAN_CH_CFG_EN x
  else if f.isIn [F.METER_CTL_FREF, F.METER_CTL_WIRING, F.METER_CTL_NOM_F, F.METER_QUANT_MAINS, F.METER_QUANT_SUB,
      F.METER_CH_CFG_INTEG, F.METER_CH_CFG_GAIN, F.METER_CH_SCALE, F.METER_CH_OFS, F.METER_CH_PHASE]
  then s.bit F.METER_CTL_RUN
  else if f.isIn [F.KEEP_SET_LO, F.KEEP_SET_HI] then s.bit F.KEEP_STAT_PENDING
  else false

/-- A write does not change field `f` of instance x. -/
def State.locked (s : State) (f : Fld) (x : Nat) : Bool :=
  f.isIn actedFlds || s.deckLocked f x || s.bearLocked f x

/-- The part of a written value that has a meaning: DBG_LATCH maps 12 motors and 16 fans. -/
def writeMask (f : Fld) (v : Nat) : Nat :=
  if f.same F.DBG_LATCH_MOT then v % 2 ^ 12 else if f.same F.DBG_LATCH_FAN then v % 2 ^ 16 else v

/-- A write of word `d` acts on one field by its access code (R5); `was` is the state the write found. -/
def State.partWrite (s was : State) (f : Fld) (x y d : Nat) : State :=
  let v := f.part d
  match f.acc with
  | .ro | .rc => s
  | .w1c => if was.chkHeld f x then s else s.wr f (s.rd f x y - (s.rd f x y &&& v)) x y
  | .w1s => if f.isIn actedFlds then s else s.wr f (s.rd f x y ||| v) x y
  | .wo => if f.isIn actedFlds || !f.isLegal v then s else s.wr f v x y
  | .rw => if f.isLegal v && was.formLegal f x d v && !was.locked f x then s.wr f (writeMask f v) x y else s

/-! ### What a write does beyond its fields -/

/-- The register at hand is the one that holds `f`. -/
def Reg.has (r : Reg) (f : Fld) : Bool := r.base == f.base

/-- A write of an EN bit: enable when it carries 1, disable when it clears a bit that is set. -/
def State.enWrite (s : State) (f : Fld) (x d : Nat) (on off : State → Nat → State) : State :=
  if f.set d then on s x else if s.bit f x then off s x else s

/-- SYS (R37, R467 to R472, R475). -/
def State.sysEffect (s : State) (i : Initiator) (r : Reg) (d : Nat) : State :=
  if r.has F.SYS_RST_CMD_KEY then
    if F.SYS_RST_CMD_KEY.part d ≠ 0xC3A5 then s
    else match F.SYS_RST_CMD_CMD.part d with
      | 1 => s.resetBy .soft .cleared
      | 2 => s.resetOrder
      | _ => s
  else if r.has F.SYS_WDOG_KICK then s.run (execWdogKick (BitVec.ofNat 32 d))
  else if r.has F.SYS_PD_CTL_ON then s.pdWrite (match i with | .pier _ => true | _ => false) (F.SYS_PD_CTL_ON.part d)
  else if r.has F.SYS_BOOT_CMD then (if F.SYS_BOOT_CMD.set d then s.run execBootGo else s)
  else if r.has F.SYS_START_CTL_GO then (if F.SYS_START_CTL_GO.set d then s.startGo else s)
  else s

/-- SPAN (R58 to R60). CUR_SEL follows SEL while RUN is 0. -/
def State.spanEffect (s : State) (r : Reg) (d : Nat) : State :=
  if r.has F.SPAN_CTL_SEL then (if s.running then s else s.wr F.SPAN_STAT_CUR_SEL (s.rd F.SPAN_CTL_SEL))
  else if r.has F.SPAN_CHG_CTL_CMD then
    match F.SPAN_CHG_CTL_CMD.part d with
    | 1 => s.spanArm
    | 2 => s.spanCancel
    | _ => s
  else s

/-- DECK (R70, R85, R86, R92 to R94). -/
def State.deckEffect (s : State) (i : Initiator) (r : Reg) (x d : Nat) : State :=
  if r.has F.DECK_DESC_CMD then
    match F.DECK_DESC_CMD.part d with
    | 1 => s.run execDescRead
    | 2 => s.run execDescWrite
    | _ => s
  else if r.has F.DECK_FORCE_CMD then
    match F.DECK_FORCE_CMD.part d with
    | 1 => s.run (execForce i)
    | 2 => s.run (execReleaseA i)
    | 3 => s.run (execReleaseAll i)
    | _ => s
  else if r.has F.DECK_BLK_CMD then
    match F.DECK_BLK_CMD.part d with
    | 1 => s.blkStart x
    | 2 => s.blkCancel x
    | 3 => s.blkRelease x
    | _ => s
  else s

/-- PIERCTL (R115 to R130). -/
def State.pierctlEffect (was s : State) (r : Reg) (x d : Nat) : State :=
  if r.has F.PIERCTL_CTL_SPARE_COUNT then
    if s.rd F.PIERCTL_CTL_SPARE_COUNT = was.rd F.PIERCTL_CTL_SPARE_COUNT then s else s.pickSpares
  else if r.has F.PIERCTL_LOAD_CMD_CMD then
    let n : Fin 24 := Fin.ofNat 24 (s.rd F.PIERCTL_LOAD_CMD_PIER)
    match F.PIERCTL_LOAD_CMD_CMD.part d with
    | 1 => s.run (execLoadSched n)
    | 2 => s.run (execSwapArm n)
    | 3 => s.run (execSwapCancel n)
    | 4 => s.run (execStopSched n)
    | _ => s
  else if r.has F.PIERCTL_PIER_BP_CTL_RESTART then
    let m := F.PIERCTL_PIER_BP_CTL_RESTART.part d
    if m = 0 then s else s.bpRestart x m
  else if r.has F.PIERCTL_PIER_OVL_CTL_START then
    if F.PIERCTL_PIER_OVL_CTL_START.set d then s.run (execOvlStart (Fin.ofNat 24 x)) else s
  else s

/-- CONV (R214, R215, R217, R219, R226). -/
def State.convEffect (s : State) (r : Reg) (x d : Nat) : State :=
  if r.has F.CONV_REF_CTL then s.enWrite F.CONV_REF_CTL 0 d (fun s _ => s.refEnable) (fun s _ => s.refDisable)
  else if r.has F.CONV_SEQ_CTL_EN then s.enWrite F.CONV_SEQ_CTL_EN x d State.seqEnable State.seqDisable
  else if r.has F.CONV_SEQ_CMD then
    match F.CONV_SEQ_CMD.part d with
    | 1 => s.trigger .start x
    | 2 => s.seqAbort x
    | _ => s
  else s

/-- SENS (R248, R250): a group with no entry in progress takes its new level at once. -/
def State.sensEffect (s : State) (r : Reg) (x d : Nat) : State :=
  if r.has F.SENS_CHK_CFG_EN then
    s.enWrite F.SENS_CHK_CFG_EN x d State.chkEnable fun s x => s.wrB F.SENS_CHK_CFG_EN false x
  else if r.has F.SENS_IEX_CTL then (if s.groupBusy x then s else s.iexApply x)
  else s

/-- SOL (R266, R270, R272, R280). -/
def State.solEffect (s : State) (r : Reg) (x d : Nat) : State :=
  if r.has F.SOL_CH_CFG_EN then s.enWrite F.SOL_CH_CFG_EN x d State.solEnable State.solDisable
  else if r.has F.SOL_CH_CMD then
    match F.SOL_CH_CMD.part d with
    | 1 => s.solPickCmd x
    | 2 => s.solOffCmd x
    | 3 => s.solAbortCmd x
    | 4 => s.solClearCmd x
    | _ => s
  else s

/-- MOT (R295, R297 to R303). -/
def State.motEffect (s : State) (r : Reg) (x d : Nat) : State :=
  if r.has F.MOT_CH_CFG_EN then s.enWrite F.MOT_CH_CFG_EN x d State.motEnable State.motDisable
  else if r.has F.MOT_CH_CMD then
    match F.MOT_CH_CMD.part d with
    | 1 => s.motStartCmd x false
    | 2 => s.motStartCmd x true
    | 3 => s.motStopCmd x
    | 4 => s.motAbortCmd x
    | 5 => s.motClearCmd x
    | _ => s
  else s

/-- FAN (R312, R314 to R316, R321). -/
def State.fanEffect (s : State) (r : Reg) (x d : Nat) : State :=
  if r.has F.FAN_CH_CFG_EN then s.enWrite F.FAN_CH_CFG_EN x d State.fanEnable State.fanDisable
  else if r.has F.FAN_CH_REGTGT then s.fanRegTarget x
  else if r.has F.FAN_CH_CMD then
    match F.FAN_CH_CMD.part d with
    | 1 => s.fanCmd fun s => s.fanAbort x
    | 2 => s.fanCmd fun s => s.fanRestart x
    | 3 => s.fanCmd fun s => s.fanClear x
    | _ => s
  else s

/-- METER (R342, R345, R346, R353, R354). -/
def State.meterEffect (s : State) (r : Reg) (x d : Nat) : State :=
  if r.has F.METER_CTL_RUN then
    let s := if s.bit F.METER_CTL_RUN then s else s.frefWritten
    s.enWrite F.METER_CTL_RUN 0 d (fun s _ => if s.bit F.METER_CTL_RUN then s else s.startRun)
      fun s _ => s.wrB F.METER_CTL_RUN false
  else if r.has F.METER_LATCH_LATCH_NOW then (if F.METER_LATCH_LATCH_NOW.set d then s.latchAtOnce else s)
  else if r.has F.METER_LAT_CMD then
    match F.METER_LAT_CMD.part d with
    | 1 => s.openBank
    | 2 => s.closeBank
    | _ => s
  else if r.has F.METER_SAVE_MARK then s.writeSaveMark d
  else if r.has F.METER_PF_CMD then (if F.METER_PF_CMD.set d then s.consumeBlock else s)
  else if r.has F.METER_LOAD_LOAD then (if F.METER_LOAD_LOAD.set d then s.loadQuantity else s)
  else if r.has F.METER_EP_CFG_EN then s.epulseKick x
  else s

/-- TWIN (R358, R368, R371, R378): the TWIN cursor follows EN (R433), and FRZ_X_IN is a freeze source while EN is 1 (R502). -/
def State.twinEffect (s : State) (r : Reg) (d : Nat) : State :=
  if r.has F.TWIN_CTL_EN then (s.wrB F.EVR_CUR_CFG_EN (s.bit F.TWIN_CTL_EN) 3).tailFromAcks.freezeUpdate
  else if r.has F.TWIN_CMD then
    match F.TWIN_CMD.part d with
    | 1 => s.relArm
    | 2 => s.relCancel
    | 3 => if s.domOn .link then s.realign else s
    | _ => s
  else if r.has F.TWIN_WIN_BASE_EN || r.has F.TWIN_WIN_LEN then s.winBad
  else s

/-- TRESTLE: clearing EN leaves the ring. -/
def State.trestleEffect (was s : State) (r : Reg) : State :=
  if r.has F.TRESTLE_CTL_EN && was.bit F.TRESTLE_CTL_EN && !s.bit F.TRESTLE_CTL_EN then s.treDisable else s

/-- KEEP (R406, R408, R413, R417, R419). -/
def State.keepEffect (was s : State) (i : Nat) (r : Reg) (x d : Nat) : State :=
  if r.has F.KEEP_CMD_CMD then
    let s := if F.KEEP_CMD_VALIDATE.set d then s.keepValidate else s
    match F.KEEP_CMD_CMD.part d with
    | 1 => s.keepCommit false i
    | 3 => s.keepCommit true i
    | _ => s
  else if r.has F.KEEP_RAM then s.keepRam x d
  else if r.has F.KEEP_TRIM then s.keepTrim d
  else if r.has F.KEEP_WAKE_EN then s.wakeEnWritten (was.bit F.KEEP_WAKE_EN)
  else s

/-- The value a field held before a write stays in force up to the next tick (R430). -/
def State.keepInForce (was s : State) (f : Fld) (x y : Nat) : State :=
  let k := f.key x y
  if (Sparse.find? s.evr.inForce k).isSome then s
  else { s with evr := { s.evr with inForce := Sparse.put s.evr.inForce k (was.rd f x y) } }

/-- EVR (R430, R433 to R436, R439). -/
def State.evrEffect (was s : State) (i : Nat) (r : Reg) (x y d : Nat) : State :=
  if r.has F.EVR_CLR then s.evrClr i d
  else if r.has F.EVR_CTL_PIER_ACK || r.has F.EVR_CUR_CFG_EN then s.tailFromAcks
  else if r.has F.EVR_CUR_POS then s.curPos x d
  else if r.has F.EVR_CUR_ACK then (s.curAck x d).2
  else if r.has F.EVR_LIST_SEL || r.has F.EVR_CODE_A_EN || r.has F.EVR_CODE_B_P then
    s.each r.fields fun s f => was.keepInForce s f x y
  else s

/-- HEALTH (R448, R458). -/
def State.healthEffect (s : State) (i : Initiator) (r : Reg) (d : Nat) : State :=
  if r.has F.HEALTH_THR_WARN then s.thrWrite d
  else if r.has F.HEALTH_RETIRE_CMD then
    s.retireWrite i (F.HEALTH_RETIRE_CMD.set d) (F.HEALTH_RETIRE_CLASS.part d) (F.HEALTH_RETIRE_UNIT.part d)
  else s

/-- NET (R488, R489). -/
def State.netEffect (s : State) (r : Reg) (x d : Nat) : State :=
  if r.has F.NET_MAC_TXIDX_SW then s.netKick x
  else if r.has F.NET_MAC_MDIO_GO then
    if F.NET_MAC_MDIO_GO.set d && !s.bit F.NET_MAC_MDIO_BUSY x then s.mdioGo x else s
  else s

/-- FIELD (R495, R500). -/
def State.fieldEffect (s : State) (r : Reg) (x d : Nat) : State :=
  if r.has F.FIELD_ENG_CTL_EN then s.enWrite F.FIELD_ENG_CTL_EN x d State.fldEnable State.fldDisable
  else if r.has F.FIELD_I2C_CMD_GO then (if F.FIELD_I2C_CMD_GO.set d then s.i2cGo x else s)
  else if r.has F.FIELD_SPI_CMD_GO then (if F.FIELD_SPI_CMD_GO.set d then s.spiGo x else s)
  else s

/-- What a write of word `d` to register `r`, instance (x, y), does beyond setting its fields; `was` is the state the write
found. -/
def State.regEffect (was s : State) (i : Initiator) (r : Reg) (x y d : Nat) : State :=
  match (r.base - 0x40000000) / 0x10000 with
  | 0 => s.sysEffect i r d
  | 1 => s.spanEffect r d
  | 2 => s.deckEffect i r x d
  | 3 => State.pierctlEffect was s r x d
  | 4 => s.convEffect r x d
  | 5 => s.sensEffect r x d
  | 6 => s.solEffect r x d
  | 7 => s.motEffect r x d
  | 8 => s.fanEffect r x d
  | 9 => s.meterEffect r x d
  | 10 => s.twinEffect r d
  | 11 => State.trestleEffect was s r
  | 12 => State.keepEffect was s (initCode i) r x d
  | 13 => State.evrEffect was s (initCode i) r x y d
  | 14 => s.healthEffect i r d
  | 16 => s.netEffect r x d
  | 17 => s.fieldEffect r x d
  | 18 => if r.has F.GPIO_OUT then s.gpioOut d else s
  | 19 => if r.has F.DBG_FRZ_CTL_FREEZE && F.DBG_FRZ_CTL_FREEZE.set d then s.softFreeze else s
  | _ => s

/-- Initiator `i` writes word `d` to register `r`, instance (x, y) (R5). -/
def State.regWrite (s : State) (i : Initiator) (r : Reg) (x y d : Nat) : State :=
  State.regEffect s (s.each r.fields fun t f => t.partWrite s f x y d) i r x y d

end Sys2Proof.Machine
end

