-- ==== Sys2Proof/Machine/Bus.lean ====
section
/-! DEFINITION. Word accesses to the address map (R3 to R6, R13, R22 to R29, R433, R540): control blocks, tightly coupled memory
windows and deck; REGISTER_WRITE and the bearing-die accesses; the pier's CLW, CSW and FENCE (R157, R158). -/

namespace Sys2Proof.Machine

/-- How a word access ends: made, refused (R4, R25), or refused because its power domain is off (R540). -/
inductive Access where
  | ok | refused | down
  deriving DecidableEq, Repr

/-! ### Control blocks -/

/-- The cursor that has a register or a window word at `a` (R433). -/
def cursorOf (a : Nat) : Option Nat :=
  if 0x400D0100 ≤ a && a < 0x400D0180 && a % 0x20 < 0x14 then some ((a - 0x400D0100) / 0x20)
  else if 0x400D1000 ≤ a && a < 0x400D1200 then some ((a - 0x400D1000) / 0x80)
  else none

/-- Initiator `i` is the one cursor `n` accepts (R433). -/
def ownsCursor (i : Initiator) (n : Nat) : Bool :=
  match i with
  | .host => n == 0
  | .net => n == 1
  | .pier _ => n == 2
  | .twin => n == 3
  | _ => false

/-- The block at `a` has its power. -/
def State.blockOn (s : State) (a : Nat) : Bool :=
  match blockDom a with
  | some d => s.domOn d
  | none => true

/-- How an access of initiator `i` to control-block address `a` ends; one to an offset without a register is not refused
(R26), whatever the block's power (R540 speaks of registers) and the joint. -/
def State.ctlAccess (s : State) (i : Initiator) (a : Nat) : Access :=
  if a % 4 ≠ 0 || !inControl a then .refused
  else if (findReg a).isNone then .ok
  else if !s.blockOn a then .down
  else if onBearing a && !s.joint then .refused
  else if (cursorOf a).any fun n => !ownsCursor i n then .refused
  else .ok

/-- A write takes effect, the events it raises in R429's order; at an offset without a register nothing does (R26). -/
def State.ctlPut (s : State) (i : Initiator) (a d : Nat) : State :=
  match findReg a with
  | some (r, x, y) => s.inCycle fun s => s.regWrite i r x y d
  | none => s

/-- The posted write at the front takes effect (R13), unless its block has lost its power. -/
def State.postedEffect (s : State) (p : Posted) (i : Initiator) : State :=
  if s.ctlAccess i p.addr = .ok then s.ctlPut i p.addr p.data.toNat else s

/-- The initiator with a code. -/
def initOf : Nat → Initiator
  | 0x100 => .host | 0x101 => .net | 0x102 => .w31 | 0x103 => .dbg | 0x104 => .pointEngine | 0x105 => .pierctl
  | 0x106 => .twin | 0x107 => .trestle | 0x108 => .netMac | 0x109 => .field | 0x10A => .evr | 0x10B => .joint
  | 0x10C => .sup
  | n => .pier (Fin.ofNat 24 n)

/-- The posted writes of the initiator with code `i` take effect, in order (R13, R158). -/
def State.drainPosted (s : State) (i : Nat) : State :=
  let mine := s.posted.filter fun p => p.initiator == i
  ({ s with posted := s.posted.filter fun p => p.initiator != i }).each mine fun s p => s.postedEffect p (initOf p.initiator)

/-- A write of word `d` by initiator `i` (R13): at once in a deck-die block, posted in a bearing-die block. -/
def State.ctlWrite (s : State) (i : Initiator) (a d : Nat) : Access × State :=
  match s.ctlAccess i a with
  | .ok =>
    if onBearing a then (.ok, { s with posted := s.posted ++ [⟨initCode i, a, BitVec.ofNat 32 d⟩] })
    else (.ok, s.ctlPut i a d)
  | r => (r, s)

/-! ### Reads -/

/-- Latch the METER words in `fs` of instance (x, y), as they stand now. -/
def State.latchHi (s : State) (fs : List (Fld × Nat)) (x y : Nat) : State :=
  s.each fs fun s fv => { s with meter := { s.meter with hi := Sparse.set s.meter.hi 0 (fv.1.key x y) fv.2 } }

/-- What a read of a register latches before it shows its word: the frame number, the METER high words, the cursor window
(R434). -/
def State.beforeRead (s : State) (r : Reg) (x y : Nat) : State :=
  if r.has F.SPAN_FRAME_LO then s.wr F.SPAN_FRAME_HI (s.frame / 2 ^ 32)
  else if r.has F.METER_ACC_PC_LO then
    s.latchHi [(F.METER_ACC_PC_HI, (s.accOf x).1 / 2 ^ 32), (F.METER_ACC_RES_HI, (s.accOf x).2 / 2 ^ 32)] x y
  else if r.has F.METER_BANK_Q_MWH_LO then s.latchHi [(F.METER_BANK_Q_MWH_HI, s.rd F.METER_BANK_Q_MWH_HI x y)] x y
  else if r.has F.METER_BANK_Q_PC_LO then s.latchHi [(F.METER_BANK_Q_PC_HI, s.rd F.METER_BANK_Q_PC_HI x y)] x y
  else if r.has F.METER_BANK_FRAME_LO then
    s.latchHi [(F.METER_BANK_FRAME_HI_FRAME_HI, s.rd F.METER_BANK_FRAME_HI_FRAME_HI x y),
      (F.METER_BANK_FRAME_HI_OFFSET, s.rd F.METER_BANK_FRAME_HI_OFFSET x y)] x y
  else if r.has F.EVR_WIN && y == 0 then s.winLatch x
  else s

/-- Read-clear fields go to 0 (R5), and a read of word 31 of a window advances its cursor (R434). -/
def State.afterRead (s : State) (r : Reg) (x y : Nat) : State :=
  let s := s.each (r.fields.filter fun f => f.acc == .rc) fun s f => s.wr f 0 x y
  if r.has F.EVR_WIN && y == 31 then s.winAdvance x else s

/-- A read of register `r`, instance (x, y), by initiator `i`; the keystone's time words come from its shadows (R411). -/
def State.regRead (s : State) (i : Initiator) (r : Reg) (x y : Nat) : Nat × State :=
  if r.has F.KEEP_TK_LO then s.tkLo (initCode i)
  else if r.has F.KEEP_TK_FLG_VALID then s.tkFlg (initCode i)
  else if r.has F.KEEP_TK_HI_EPOCH then s.tkHi (initCode i)
  else
    let s := s.beforeRead r x y
    (s.peekReg r x y, s.afterRead r x y)

/-- A read of a control-block word by initiator `i`; a bearing-die block shows every write that initiator posted before
(R13). -/
def State.ctlRead (s : State) (i : Initiator) (a : Nat) : Access × Nat × State :=
  match s.ctlAccess i a with
  | .ok =>
    let s := if onBearing a then s.drainPosted (initCode i) else s
    match findReg a with
    | some (r, x, y) =>
      let (w, s) := s.regRead i r x y
      (.ok, w, s)
    | none => (.ok, 0, s)
  | r => (r, 0, s)

/-! ### The whole map -/

/-- A tightly coupled memory window address (R22): the core and the offset, where the window is populated. -/
def tcmAt (a : Nat) : Option (Nat × Nat) :=
  if 0x10000000 ≤ a && a < 0x11800000 && (a - 0x10000000) % 0x100000 < 0x40000 then
    some ((a - 0x10000000) / 0x100000, (a - 0x10000000) % 0x100000)
  else none

/-- The initiators a window admits (R22). -/
def reachesTcm : Initiator → Bool
  | .pierctl | .host | .dbg => true
  | _ => false

/-- An access to a window that ends otherwise than well. -/
def State.tcmAccess (s : State) (i : Initiator) (a c : Nat) : Access :=
  if a % 4 ≠ 0 || !reachesTcm i then .refused
  else if !s.domOn (coreDom c) then .down
  else .ok

/-- A LOAD of schedule `n` waits or is in progress (R115). -/
def State.loading (s : State) (n : Nat) : Bool :=
  (s.pier.loadQueue.any fun q => q.1 == n) ||
    match s.pier.loader with
    | some (.admitting m _ _) => m == n
    | some (.copying m _ _) => m == n
    | _ => false

/-- A window write to offset `o` of core `c` hits the bank that a LOAD fills, bank A where it installs (R116), or an idle bank
that holds a staged image (R115). -/
def State.bankHeld (s : State) (c o : Nat) : Bool :=
  let n := s.schedOf c
  let banked := ((s.sch n).active.map (·.banked)).getD (s.bit F.PIERCTL_PIER_CFG_BANKED n)
  let inB := o / 0x10000 % 2 == 1
  let filled := if s.installs n true then !inB else inB != s.bankB c
  banked && ((s.loading n && filled) || ((s.sch n).staged.isSome && inB != s.bankB c))

/-- Initiator `i`, not pier code, reads the word at `a`. -/
def State.busRead (s : State) (i : Initiator) (a : Nat) : Access × Nat × State :=
  if inControl a then s.ctlRead i a
  else match tcmAt a with
    | some (c, o) =>
      match s.tcmAccess i a c with
      | .ok => (.ok, leBytes s.tcmByte (c * 0x40000 + o) 4, s)
      | r => (r, 0, s)
    | none =>
      if a % 4 ≠ 0 || deckEnd ≤ a then (.refused, 0, s)
      else if !s.domOn .deck then (.down, 0, s)
      else
        let (r, s) := s.deckRead i a 4
        match r with
        | some bs => (.ok, leBytes (fun k => bs.getD k 0) 0 4, s)
        | none => (.refused, 0, s)

/-- Initiator `i`, not pier code, writes word `d` at `a`. -/
def State.busWrite (s : State) (i : Initiator) (a d : Nat) : Access × State :=
  if inControl a then s.ctlWrite i a d
  else match tcmAt a with
    | some (c, o) =>
      match s.tcmAccess i a c with
      | .ok => if s.bankHeld c o then (.refused, s) else (.ok, s.setTcmBytes (c * 0x40000 + o) (toBytes d 4))
      | r => (r, s)
    | none =>
      if a % 4 ≠ 0 || deckEnd ≤ a then (.refused, s)
      else if !s.domOn .deck then (.down, s)
      else
        let (ok, s) := s.deckWrite i a (toBytes d 4)
        (if ok then .ok else .refused, s)

/-! ### Commands -/

/-- REGISTER_WRITE (R5). -/
def execRegisterWrite (i : Initiator) (addr data : Word) (s : State) : Out :=
  s.act [] fun s =>
    let (r, s) := s.ctlWrite i addr.toNat data.toNat
    s.answer i addr.toNat [] (r != .ok)

/-- BEARING_READ_DONE (R13). -/
def execBearingReadDone (i : Initiator) (addr : Word) (s : State) : Out :=
  s.act [] fun s =>
    if !onBearing addr.toNat then s
    else
      let (r, w, s) := s.ctlRead i addr.toNat
      s.answer i addr.toNat (if r = .ok then toBytes w 4 else []) (r != .ok)

/-- BEARING_WRITE_EFFECT (R13): the oldest posted write. -/
def execBearingWriteEffect (s : State) : Out :=
  s.act [] fun s => match s.posted with
    | [] => s
    | p :: rest => { s with posted := rest }.postedEffect p (initOf p.initiator)

/-- COMMIT or ADJUST in KEEP_CMD by initiator `i` (R413): the writes it posted before take effect first (R13). -/
def State.keepSetBy (s : State) (adjust : Bool) (i : Initiator) : State :=
  (s.drainPosted (initCode i)).keepCommit adjust (initCode i)

/-- COMMIT (R413, R414). -/
def execCommitA (i : Initiator) (s : State) : Out := s.reach [] fun s => s.keepSetBy false i

/-- ADJUST (R413, R414). -/
def execAdjust (i : Initiator) (s : State) : Out := s.reach [] fun s => s.keepSetBy true i

/-- A keystone time register as a read of it (R411); the answer waits at the initiator's interface. -/
def State.tkRead (s : State) (i : Initiator) (a : Nat) : State :=
  let (r, w, s) := s.ctlRead i a
  s.answer i a (if r = .ok then toBytes w 4 else []) (r != .ok)

/-- TK_LO_READ (R411): captures the initiator's shadows. -/
def execTkLoRead (i : Initiator) (s : State) : Out := s.act [] fun s => s.tkRead i F.KEEP_TK_LO.base

/-- TK_FLG_READ (R411). -/
def execTkFlgRead (i : Initiator) (s : State) : Out := s.act [] fun s => s.tkRead i F.KEEP_TK_FLG_VALID.base

/-- TK_HI_READ (R411): releases the shadows. -/
def execTkHiRead (i : Initiator) (s : State) : Out := s.act [] fun s => s.tkRead i F.KEEP_TK_HI_EPOCH.base

/-! ### The pier's control-block instructions (R157, R158) -/

/-- CLW (R157): 150 cycles more for a block on the bearing die. -/
def execClw (c : CoreId) (gd ga : Gpr) (imm : BitVec 14) (s : State) : Out :=
  s.pierAct (.clw c gd ga imm) (if onBearing (s.addrOf c ga imm) then 150 else 0) fun s =>
    let a := s.addrOf c ga imm
    match s.ctlRead (s.pierInit c) a with
    | (.ok, w, s) => .next (s.put c gd (BitVec.ofNat 32 w))
    | _ => .trap 4

/-- CSW (R157). -/
def execCsw (c : CoreId) (gd ga : Gpr) (imm : BitVec 14) (s : State) : Out :=
  s.pierAct (.csw c gd ga imm) 0 fun s =>
    match s.ctlWrite (s.pierInit c) (s.addrOf c ga imm) (s.ra c gd).toNat with
    | (.ok, s) => .next s
    | _ => .trap 4

/-- FENCE (R158). -/
def execFence (c : CoreId) (s : State) : Out :=
  s.pierAct (.fence c) 0 fun s => .next (s.drainPosted (s.schedOf c))

end Sys2Proof.Machine
end

