-- ==== Sys2Proof/Machine/Host.lean ====
section
/-! DEFINITION. The host port and Ethernet service access (19_host_and_field_interfaces.md, R477 to R481, R492): one meaning per
command of R478 for both, the status byte, frames cut short, service datagrams. -/

namespace Sys2Proof.Machine

/-! ### Results (R480) -/

/-- The RESULT of a host command (R480). -/
inductive HostRes where
  | ok | refused | owner | force | busy | badCmd | length | down | notCoherent
  deriving DecidableEq, Repr

/-- The code of a RESULT (R480). -/
def HostRes.code : HostRes → Nat
  | .ok => 0 | .refused => 1 | .owner => 2 | .force => 3 | .busy => 4 | .badCmd => 5 | .length => 6 | .down => 7
  | .notCoherent => 8

/-- The RESULT of a word access. -/
def Access.res : Access → HostRes
  | .ok => .ok | .refused => .refused | .down => .down

/-- What a command answers: RESULT, HELD, read data, and the state it leaves. -/
structure HostAns where
  res : HostRes
  held : Bool
  data : List Byte
  s : State

/-- An answer without data. -/
def HostRes.ans (r : HostRes) (s : State) : HostAns := ⟨r, false, [], s⟩

/-- The first failing result of a burst (R480). -/
def HostRes.first (a b : HostRes) : HostRes := if a = .ok then b else a

/-! ### Commands (R478) -/

/-- Who gives the command: the initiator, its block read buffer and its recorder cursor (R434, R478, R492). -/
structure HostWho where
  init : Initiator
  buf : Nat
  cur : Nat

/-- The host port. -/
def whoHost : HostWho := ⟨.host, 0, 0⟩

/-- Ethernet service access. -/
def whoNet : HostWho := ⟨.net, 1, 1⟩

/-- Read words at ascending addresses (R478). -/
def State.hostReads (s : State) (i : Initiator) (a : Nat) : Nat → HostAns
  | 0 => HostRes.ok.ans s
  | n + 1 =>
    let (r, w, s) := s.busRead i a
    let rest := s.hostReads i ((a + 4) % 2 ^ 32) n
    ⟨r.res.first rest.res, false, toBytes w 4 ++ rest.data, rest.s⟩

/-- Write words at ascending addresses (R478). -/
def State.hostWrites (s : State) (i : Initiator) (a : Nat) : List Word → HostAns
  | [] => HostRes.ok.ans s
  | d :: ds =>
    let (r, s) := s.busWrite i a d.toNat
    let rest := s.hostWrites i ((a + 4) % 2 ^ 32) ds
    { rest with res := r.res.first rest.res }

/-- Run a command on a point of the device, while the deck has power. -/
def State.onPoint (s : State) (p : Word) (f : Nat → HostAns) : HostAns :=
  if 2 ^ 17 ≤ p.toNat then HostRes.refused.ans s
  else if !s.domOn .deck then HostRes.down.ans s
  else f p.toNat

/-- A host point write (R75, R76): a quality it may not carry is refused as a non-owner's write. -/
def State.hostPoint (s : State) (p : Nat) (v : Word) (q : Nat) : HostAns :=
  let bad := q = 4 ∨ 6 ≤ q
  match s.softWrite p 6 0 v (Quality.ofCode q) with
  | (.ok, t) => if bad then HostRes.owner.ans (s.ownRefused p 6) else { HostRes.ok.ans t with held := s.writeClosed }
  | (.refused, t) => HostRes.owner.ans (t.ownRefused p 6)
  | (.notCoherent, t) => HostRes.notCoherent.ans t
  | (.standby, t) => HostRes.refused.ans t

/-- The answer to a force or release. -/
def hostForced (s : State) : PtRes × State → HostAns
  | (.ok, t) => { HostRes.ok.ans t with held := s.writeClosed }
  | (.standby, t) => HostRes.refused.ans t
  | (_, t) => HostRes.force.ans t

/-- A block of records from a READY block read buffer (R478). -/
def State.hostBlock (s : State) (n index count : Nat) : HostAns :=
  if !s.blkIs n .ready then { HostRes.busy.ans s with data := List.replicate (16 * count) 0 }
  else
    let (r, t) := s.deckRead (if n = 0 then .host else .net) (s.rd F.DECK_BLK_BUF n * 65536 + 16 * index) (16 * count)
    match r with
    | some bs => ⟨.ok, false, bs, t⟩
    | none => { HostRes.refused.ans t with data := List.replicate (16 * count) 0 }

/-- A command of R478 as `w` gives it. -/
def State.hostRun (s : State) (w : HostWho) : HostCmd → HostAns
  | .status => HostRes.ok.ans s
  | .rd a => s.hostReads w.init a.toNat 1
  | .wr a d => s.hostWrites w.init a.toNat [d]
  | .rdBurst a n => if n.toNat = 0 ∨ 256 < n.toNat then HostRes.length.ans s else s.hostReads w.init a.toNat n.toNat
  | .wrBurst a ds => if ds.length = 0 ∨ 256 < ds.length then HostRes.length.ans s else s.hostWrites w.init a.toNat ds
  | .ptRead p => s.onPoint p fun p =>
      let (r, t) := s.deckRead w.init (16 * p) 16
      ⟨if r.isSome then .ok else .refused, false, r.getD (List.replicate 16 0), t⟩
  | .ptWrite p v q => s.onPoint p fun p => s.hostPoint p v q.toNat
  | .blkStart first count =>
      if !s.domOn .deck then HostRes.down.ans s
      else
        let t := s.blkStartOf w.buf first.toNat count.toNat
        if s.blkIs w.buf .pending then HostRes.busy.ans t
        else if t.blkIs w.buf .pending then HostRes.ok.ans t else HostRes.refused.ans t
  | .blkRead index n =>
      if n.toNat = 0 ∨ 64 < n.toNat then HostRes.length.ans s
      else if !s.domOn .deck then HostRes.down.ans s
      else s.hostBlock w.buf index.toNat n.toNat
  | .force p v => s.onPoint p fun p => hostForced s (s.force p v)
  | .release p => s.onPoint p fun p => hostForced s (s.release (some p))
  | .releaseAll => if !s.domOn .deck then HostRes.down.ans s else hostForced s (s.release none)
  | .evrRead => s.hostReads w.init (F.EVR_WIN.base + w.cur * F.EVR_WIN.s1) 32
  | .evrAck v =>
      if !s.domOn .deck then HostRes.down.ans s
      else
        let (ok, t) := s.curAck w.cur v.toNat
        if ok then HostRes.ok.ans t else HostRes.refused.ans t
  | .bad => HostRes.badCmd.ans s

/-! ### The status byte (R480, R481) -/

/-- HOST_IRQ_N is low (R481). -/
def State.hostIrq (s : State) : Bool :=
  (s.bit F.HOSTP_IRQ_EN_EVR && s.bit F.EVR_CUR_STAT_PEND 0) || (s.bit F.HOSTP_IRQ_EN_BLK && s.blkIs 0 .ready) ||
    (s.bit F.HOSTP_IRQ_EN_BOOT && s.bootIs .waitHost) || s.atStep .dead

/-- The status byte of an answer (R480). -/
def State.statusByte (s : State) (prev : Bool) (r : HostRes) (held : Bool) : Nat :=
  r.code + 32 * held.toNat + 64 * s.hostIrq.toNat + 128 * prev.toNat

/-- A frame on the host port with command `c` completes: its status and data are clocked out, unless CS_HOST_N rose before. -/
def State.hostServe (s : State) (c : HostCmd) (cut : Bool) : State :=
  let a := s.hostRun whoHost c
  let prev := a.s.bit F.HOSTP_STAT_PREV_FAIL
  let status := c = .status
  let res := if status ∧ a.s.port.lengthOwed then .length else a.res
  let t := a.s.wr F.HOSTP_STAT_LAST res.code
  let t := if a.res = .badCmd ∨ a.res = .length then t.incSat F.HOSTP_STAT_BADCMD else t
  let t := if status then
      { t.wrB F.HOSTP_STAT_PREV_FAIL false with port := { t.port with lengthOwed := false } } else t
  if cut then
    let t := t.incSat F.HOSTP_STAT_TIMEOUTS
    if a.res = .ok then t else t.wrB F.HOSTP_STAT_PREV_FAIL true
  else { t with port := { t.port with status := t.statusByte prev res a.held, data := a.data } }

/-- A burst of `n` words from address `a` reaches a region that the point engine has for itself (R18): its addresses may wrap. -/
def State.burstWaits (s : State) (a n : Nat) : Bool :=
  s.windowWait a (4 * n) || (decide (2 ^ 32 < a + 4 * n) && s.windowWait 0 1)

/-- A command reads or writes the planes, the descriptors or the loop area, which the point engine has for itself in the commit
window (R18). A point write is accepted at once (R45), and so are the commands to the point engine. -/
def State.hostWaits (s : State) : HostCmd → Bool
  | .rd a | .wr a _ => s.windowWait a.toNat 4
  | .rdBurst a n => decide (1 ≤ n.toNat ∧ n.toNat ≤ 256) && s.burstWaits a.toNat n.toNat
  | .wrBurst a ds => decide (1 ≤ ds.length ∧ ds.length ≤ 256) && s.burstWaits a.toNat ds.length
  | .ptRead _ => s.windowWait 0 1
  | _ => false

/-- A frame waits on the host port. -/
def PortReq.isFrame : PortReq → Bool
  | .frame _ _ => true
  | _ => false

/-- A request waits for the end of the commit window. -/
def State.putOff (s : State) (q : PortReq) : State :=
  { s with port := { s.port with waiting := s.port.waiting ++ [q] } }

/-- A frame on the host port with command `c`: one that needs a region the point engine has for itself waits (R18, R479), and the
frames after it wait behind it. -/
def State.hostFrame (s : State) (c : HostCmd) (cut : Bool) : State :=
  if (s.domOn .deck && s.hostWaits c) || s.port.waiting.any PortReq.isFrame then s.putOff (.frame c cut)
  else s.hostServe c cut

/-- A frame as a command: the port answers while PD_NET is on (R477). -/
def State.hostAct (s : State) (c : HostCmd) : Out := s.act [.net] fun s => s.hostFrame c false

/-- STATUS (R480). -/
def execStatus (s : State) : Out := s.hostAct .status

/-- RD (R478). -/
def execRd (a : Word) (s : State) : Out := s.hostAct (.rd a)

/-- WR (R478). -/
def execWr (a d : Word) (s : State) : Out := s.hostAct (.wr a d)

/-- RD_BURST (R478). -/
def execRdBurst (a : Word) (n : BitVec 16) (s : State) : Out := s.hostAct (.rdBurst a n)

/-- WR_BURST (R478). -/
def execWrBurst (a : Word) (ds : List Word) (s : State) : Out := s.hostAct (.wrBurst a ds)

/-- PT_READ (R89, R478). -/
def execPtRead (p : Word) (s : State) : Out := s.hostAct (.ptRead p)

/-- PT_WRITE (R75, R76, R478). -/
def execPtWrite (p v : Word) (q : Byte) (s : State) : Out := s.hostAct (.ptWrite p v q)

/-- BLK_START (R94, R478). -/
def execBlkStart (first : Word) (count : BitVec 16) (s : State) : Out := s.hostAct (.blkStart first count)

/-- BLK_READ (R478). -/
def execBlkRead (index n : BitVec 16) (s : State) : Out := s.hostAct (.blkRead index n)

/-- FORCE on the host port (R85). -/
def execHostForce (p v : Word) (s : State) : Out := s.hostAct (.force p v)

/-- RELEASE on the host port (R86). -/
def execHostRelease (p : Word) (s : State) : Out := s.hostAct (.release p)

/-- RELEASE_ALL on the host port (R86). -/
def execHostReleaseAll (s : State) : Out := s.hostAct .releaseAll

/-- EVR_READ (R434, R478). -/
def execEvrRead (s : State) : Out := s.hostAct .evrRead

/-- EVR_ACK (R436, R478). -/
def execEvrAck (v : Word) (s : State) : Out := s.hostAct (.evrAck v)

/-- HOST_FRAME_ABORT (R479): without its operands the frame does nothing and LENGTH is owed to the next STATUS; with them the
command completes and its answer is lost. An opcode that R478 does not list ends its frame itself: BAD_CMD is answered. -/
def execHostFrameAbort (cmd : Option HostCmd) (s : State) : Out :=
  s.act [.net] fun s => match cmd with
    | some .bad => s.hostFrame .bad false
    | some c => s.hostFrame c true
    | none =>
      let s := (s.wr F.HOSTP_STAT_LAST HostRes.length.code).incSat F.HOSTP_STAT_BADCMD
      { s with port := { s.port with lengthOwed := true } }

/-! ### Ethernet service access (R492) -/

/-- A little-endian number in a datagram. -/
def leAt (f : List Byte) (k n : Nat) : Nat := leBytes (fun j => f.getD j 0) k n

/-- A 32-bit operand of a datagram. -/
def wordOf (f : List Byte) (k : Nat) : Word := BitVec.ofNat 32 (leAt f k 4)

/-- A 16-bit operand of a datagram. -/
def halfOf (f : List Byte) (k : Nat) : BitVec 16 := BitVec.ofNat 16 (leAt f k 2)

/-- The command in a service request (R478): none where its operands are not all there. -/
def svcCmd (f : List Byte) : Option HostCmd :=
  match f with
  | [] => none
  | op :: r =>
    let need (k : Nat) (c : HostCmd) : Option HostCmd := if r.length < k then none else some c
    match op.toNat with
    | 0x00 => some .status
    | 0x01 => need 4 (.rd (wordOf r 0))
    | 0x02 => need 8 (.wr (wordOf r 0) (wordOf r 4))
    | 0x03 => need 6 (.rdBurst (wordOf r 0) (halfOf r 4))
    | 0x04 =>
      let n := leAt r 4 2
      if r.length < 6 + 4 * n then none
      else some (.wrBurst (wordOf r 0) ((List.range n).map fun k => wordOf r (6 + 4 * k)))
    | 0x10 => need 4 (.ptRead (wordOf r 0))
    | 0x11 => need 9 (.ptWrite (wordOf r 0) (wordOf r 4) (r.getD 8 0))
    | 0x20 => need 6 (.blkStart (wordOf r 0) (halfOf r 4))
    | 0x21 => need 4 (.blkRead (halfOf r 0) (halfOf r 2))
    | 0x30 => need 8 (.force (wordOf r 0) (wordOf r 4))
    | 0x31 => need 4 (.release (wordOf r 0))
    | 0x32 => some .releaseAll
    | 0x40 => some .evrRead
    | 0x41 => need 4 (.evrAck (wordOf r 0))
    | _ => some .bad

/-- A UDP datagram to a peer as a frame of MAC `m`. The identification and the hop limit of its IP header are free values. -/
def State.svcFrame (s : State) (m : Nat) (p : SvcPeer) (payload : List Byte) : List Byte × State :=
  let (id, s) := s.free 83
  let (ttl, s) := s.free 84
  let v := s.svcView m
  let v4 := p.addr.take 12 == (List.replicate 10 0 ++ [0xFF, 0xFF] : List Byte)
  let src := if v4 then v.ip4 m else v.linkLocal m
  let dst := if v4 then p.addr.drop 12 else p.addr
  let len := 8 + payload.length
  let udp := be16 (v.rd F.NET_MAC_PORTS_SVC_PORT m) ++ be16 p.port ++ be16 len ++ [0, 0] ++ payload
  let c := checksum (src ++ dst ++ be16 len ++ [0, 17] ++ udp)
  let udp := putBytes udp 6 (be16 (if c = 0 then 0xFFFF else c))
  let hop := BitVec.ofNat 8 ttl
  let head := if v4 then
      let h : List Byte := [8, 0, 0x45, 0] ++ be16 (20 + len) ++ be16 (id % 65536) ++ [0, 0, hop, 17, 0, 0] ++ src ++ dst
      putBytes h 12 (be16 (checksum (h.drop 2)))
    else [0x86, 0xDD, 0x60, 0, 0, 0] ++ be16 len ++ [17, hop] ++ src ++ dst
  (p.mac ++ v.macAddr m ++ head ++ udp, s)

/-- A datagram goes to a peer. -/
def State.svcSend (s : State) (m : Nat) (p : SvcPeer) (payload : List Byte) : State :=
  let (f, s) := s.svcFrame m p payload
  s.macSend m f

/-- PEER of MAC `m` as 16 bytes (R492). -/
def State.peerAddr (s : State) (m : Nat) : List Byte := (List.range 4).flatMap fun k => toBytes (s.rd F.NET_MAC_PEER m k) 4

/-- The peer of a request, the last one served standing last. -/
def State.svcServe (s : State) (p : SvcPeer) : State :=
  { s with port := { s.port with peers := (s.port.peers.filter fun q => q.addr != p.addr) ++ [p] } }

/-- The request of a peer that payload `d` repeats: one with its sequence number, within 1 s (R492). -/
def State.svcOld (s : State) (who : SvcPeer) (d : List Byte) : Option SvcPeer :=
  s.port.peers.find? fun q => q.addr == who.addr && q.seq == leAt d 2 2 && decide (s.nowUs ≤ q.atUs + 1000000)

/-- A service request from peer (address, port, MAC) with payload `d` is served (R492): a repeat within 1 s is answered from the
stored response. -/
def State.svcAnswer (s : State) (m : Nat) (who : SvcPeer) (d : List Byte) : State :=
  let seq := leAt d 2 2
  match s.svcOld who d with
  | some q =>
    let p := { who with seq := seq, response := q.response, atUs := q.atUs }
    (s.svcServe p).svcSend m p q.response
  | none =>
    let a := match svcCmd (d.drop 4) with
      | some c => s.hostRun whoNet c
      | none => HostRes.length.ans s
    let r := d.take 4 ++ [BitVec.ofNat 8 (a.s.statusByte false a.res a.held)] ++ a.data
    let p := { who with seq := seq, response := r, atUs := s.nowUs }
    (a.s.svcServe p).svcSend m p r

/-- A service request arrives: one that needs a region the point engine has for itself waits (R18), and the requests after it
wait behind it. -/
def State.svcHandle (s : State) (m : Nat) (who : SvcPeer) (d : List Byte) : State :=
  let waits := s.domOn .deck && (s.svcOld who d).isNone && ((svcCmd (d.drop 4)).any s.hostWaits)
  if waits || s.port.waiting.any (fun q => !q.isFrame) then s.putOff (.request m who d) else s.svcAnswer m who d

/-- A request that waited for the end of the commit window is served. -/
def State.portServe (s : State) : PortReq → State
  | .frame c cut => s.hostServe c cut
  | .request m who d => (s.macStep m).svcAnswer m who d

/-- The requests that waited for the end of the commit window are served, in the order they came. -/
def State.serveWaiting (s : State) : State :=
  ({ s with port := { s.port with waiting := [] } }).each s.port.waiting State.portServe

/-- SVC_REQUEST (R492): a datagram that is no request of the protocol is dropped. -/
def execSvcRequest (m : Fin 2) (f : List Byte) (s : State) : Out :=
  s.act [.net] fun s =>
    let s := s.macStep m
    match s.svcUdp m f with
    | none => s
    | some u =>
      let d := (f.drop (u.start + 8)).take (u.len - 8)
      if d.length < 4 ∨ leAt d 0 2 ≠ 0x5356 then s
      else if (s.svcView m).bit F.NET_MAC_CTL_PEER_EN m && u.src != s.peerAddr m then s.incSat F.NET_MAC_CNT_SVC_REFUSED m
      else s.svcHandle m ⟨u.src, wordAt f u.start, (f.drop 6).take 6, 0, [], 0, m⟩ d

/-- SVC_NOTIFY (R492): while the NET cursor has PEND, the last peer served is told. The sequence number of the datagram is a
free value. -/
def execSvcNotify (m : Fin 2) (s : State) : Out :=
  s.act [.net] fun s =>
    let s := s.macStep m
    match s.port.peers.getLast? with
    | none => s
    | some p =>
      if !s.svcOn m || p.via != m || !s.bit F.EVR_CUR_STAT_PEND 1 then s
      else
        let (q, s) := s.free 85
        s.svcSend m p (toBytes 0x5356 2 ++ toBytes q 2 ++ [0xF0])

end Sys2Proof.Machine
end

