-- ==== Sys2Proof/Machine/PierAlu.lean ====
section
/-! DEFINITION. The pier's arithmetic (05_pier_instruction_reference.md): integer, Q31 and F32 instructions (R141 to R148). -/

namespace Sys2Proof.Machine

/-! ### Integer (R141 to R144) -/

/-- gd := ga + gb + cin, with the flags of R142 when `f`. -/
def State.addOp (s : State) (c : CoreId) (gd ga gb : Gpr) (f : Bool) (cin : Nat) : PierRes :=
  let (a, b) := (s.ra c ga, s.ra c gb)
  let r := a + b + BitVec.ofNat 32 cin
  .next ((if f then s.setZNCV c r (carryAdd a b cin) (flagV (a.toInt + b.toInt + cin)) else s).put c gd r)

/-- gd := ga - gb - bin, with the flags of R142 when `f`. -/
def State.subOp (s : State) (c : CoreId) (gd ga gb : Gpr) (f : Bool) (bin : Nat) : PierRes :=
  let (a, b) := (s.ra c ga, s.ra c gb)
  let r := a - b - BitVec.ofNat 32 bin
  .next ((if f then s.setZNCV c r (carrySub a b bin) (flagV (a.toInt - b.toInt - bin)) else s).put c gd r)

/-- A logic operation or a shift: Z and N when `f`. -/
def State.logicOp (s : State) (c : CoreId) (gd : Gpr) (f : Bool) (r : Word) : PierRes :=
  .next ((if f then s.setZN c r else s).put c gd r)

/-- A result that leaves the flags alone. -/
def State.plainOp (s : State) (c : CoreId) (gd : Gpr) (r : Word) : PierRes := .next (s.put c gd r)

/-- Two results, into a register pair. -/
def State.pairOp (s : State) (c : CoreId) (gd : Gpr) (lo hi : Word) : PierRes := .next (s.putGroup c gd [lo, hi])

/-- ADD (R141). -/
def execAdd (c : CoreId) (gd ga gb : Gpr) (f : Bool) (s : State) : Out :=
  s.pierAct (.add c gd ga gb f) 0 fun s => s.addOp c gd ga gb f 0

/-- SUB (R141). -/
def execSub (c : CoreId) (gd ga gb : Gpr) (f : Bool) (s : State) : Out :=
  s.pierAct (.sub c gd ga gb f) 0 fun s => s.subOp c gd ga gb f 0

/-- ADC (R141). -/
def execAdc (c : CoreId) (gd ga gb : Gpr) (f : Bool) (s : State) : Out :=
  s.pierAct (.adc c gd ga gb f) 0 fun s => s.addOp c gd ga gb f (s.core c).c.toNat

/-- SBC (R141). -/
def execSbc (c : CoreId) (gd ga gb : Gpr) (f : Bool) (s : State) : Out :=
  s.pierAct (.sbc c gd ga gb f) 0 fun s => s.subOp c gd ga gb f (1 - (s.core c).c.toNat)

/-- AND (R141). -/
def execAndA (c : CoreId) (gd ga gb : Gpr) (f : Bool) (s : State) : Out :=
  s.pierAct (.andA c gd ga gb f) 0 fun s => s.logicOp c gd f ((s.ra c ga) &&& (s.ra c gb))

/-- OR (R141). -/
def execOrA (c : CoreId) (gd ga gb : Gpr) (f : Bool) (s : State) : Out :=
  s.pierAct (.orA c gd ga gb f) 0 fun s => s.logicOp c gd f ((s.ra c ga) ||| (s.ra c gb))

/-- XOR (R141). -/
def execXorA (c : CoreId) (gd ga gb : Gpr) (f : Bool) (s : State) : Out :=
  s.pierAct (.xorA c gd ga gb f) 0 fun s => s.logicOp c gd f ((s.ra c ga) ^^^ (s.ra c gb))

/-- ANDN (R141). -/
def execAndn (c : CoreId) (gd ga gb : Gpr) (f : Bool) (s : State) : Out :=
  s.pierAct (.andn c gd ga gb f) 0 fun s => s.logicOp c gd f ((s.ra c ga) &&& ~~~(s.ra c gb))

/-- SHL (R141). -/
def execShl (c : CoreId) (gd ga gb : Gpr) (f : Bool) (s : State) : Out :=
  s.pierAct (.shl c gd ga gb f) 0 fun s => s.logicOp c gd f ((s.ra c ga) <<< shiftOf (s.ra c gb))

/-- SHR (R141). -/
def execShr (c : CoreId) (gd ga gb : Gpr) (f : Bool) (s : State) : Out :=
  s.pierAct (.shr c gd ga gb f) 0 fun s => s.logicOp c gd f ((s.ra c ga) >>> shiftOf (s.ra c gb))

/-- SAR (R141). -/
def execSar (c : CoreId) (gd ga gb : Gpr) (f : Bool) (s : State) : Out :=
  s.pierAct (.sar c gd ga gb f) 0 fun s => s.logicOp c gd f ((s.ra c ga).sshiftRight (shiftOf (s.ra c gb)))

/-- ROR (R141). -/
def execRor (c : CoreId) (gd ga gb : Gpr) (f : Bool) (s : State) : Out :=
  s.pierAct (.ror c gd ga gb f) 0 fun s => s.logicOp c gd f ((s.ra c ga).rotateRight (shiftOf (s.ra c gb)))

/-- LTS (R141). -/
def execLts (c : CoreId) (gd ga gb : Gpr) (s : State) : Out :=
  s.pierAct (.lts c gd ga gb) 0 fun s => s.plainOp c gd (bool32 ((s.ra c ga).slt (s.ra c gb)))

/-- LTU (R141). -/
def execLtu (c : CoreId) (gd ga gb : Gpr) (s : State) : Out :=
  s.pierAct (.ltu c gd ga gb) 0 fun s => s.plainOp c gd (bool32 ((s.ra c ga).ult (s.ra c gb)))

/-- MIN (R141). -/
def execMinA (c : CoreId) (gd ga gb : Gpr) (s : State) : Out :=
  s.pierAct (.minA c gd ga gb) 0 fun s => s.plainOp c gd (if (s.ra c ga).slt (s.ra c gb) then (s.ra c ga) else (s.ra c gb))

/-- MAX (R141). -/
def execMaxA (c : CoreId) (gd ga gb : Gpr) (s : State) : Out :=
  s.pierAct (.maxA c gd ga gb) 0 fun s => s.plainOp c gd (if (s.ra c ga).slt (s.ra c gb) then (s.ra c gb) else (s.ra c ga))

/-- MINU (R141). -/
def execMinu (c : CoreId) (gd ga gb : Gpr) (s : State) : Out :=
  s.pierAct (.minu c gd ga gb) 0 fun s => s.plainOp c gd (if (s.ra c ga).ult (s.ra c gb) then (s.ra c ga) else (s.ra c gb))

/-- MAXU (R141). -/
def execMaxu (c : CoreId) (gd ga gb : Gpr) (s : State) : Out :=
  s.pierAct (.maxu c gd ga gb) 0 fun s => s.plainOp c gd (if (s.ra c ga).ult (s.ra c gb) then (s.ra c gb) else (s.ra c ga))

/-- ADDI (R143). -/
def execAddi (c : CoreId) (gd ga : Gpr) (imm : BitVec 14) (s : State) : Out :=
  s.pierAct (.addi c gd ga imm) 0 fun s => s.plainOp c gd ((s.ra c ga) + imm.signExtend 32)

/-- ANDI (R143). -/
def execAndi (c : CoreId) (gd ga : Gpr) (imm : BitVec 14) (s : State) : Out :=
  s.pierAct (.andi c gd ga imm) 0 fun s => s.plainOp c gd ((s.ra c ga) &&& imm.zeroExtend 32)

/-- ORI (R143). -/
def execOri (c : CoreId) (gd ga : Gpr) (imm : BitVec 14) (s : State) : Out :=
  s.pierAct (.ori c gd ga imm) 0 fun s => s.plainOp c gd ((s.ra c ga) ||| imm.zeroExtend 32)

/-- XORI (R143). -/
def execXori (c : CoreId) (gd ga : Gpr) (imm : BitVec 14) (s : State) : Out :=
  s.pierAct (.xori c gd ga imm) 0 fun s => s.plainOp c gd ((s.ra c ga) ^^^ imm.zeroExtend 32)

/-- SHLI (R143). -/
def execShli (c : CoreId) (gd ga : Gpr) (sh : BitVec 5) (s : State) : Out :=
  s.pierAct (.shli c gd ga sh) 0 fun s => s.plainOp c gd ((s.ra c ga) <<< sh.toNat)

/-- SHRI (R143). -/
def execShri (c : CoreId) (gd ga : Gpr) (sh : BitVec 5) (s : State) : Out :=
  s.pierAct (.shri c gd ga sh) 0 fun s => s.plainOp c gd ((s.ra c ga) >>> sh.toNat)

/-- SARI (R143). -/
def execSari (c : CoreId) (gd ga : Gpr) (sh : BitVec 5) (s : State) : Out :=
  s.pierAct (.sari c gd ga sh) 0 fun s => s.plainOp c gd ((s.ra c ga).sshiftRight sh.toNat)

/-- LTSI (R143). -/
def execLtsi (c : CoreId) (gd ga : Gpr) (imm : BitVec 14) (s : State) : Out :=
  s.pierAct (.ltsi c gd ga imm) 0 fun s => s.plainOp c gd (bool32 ((s.ra c ga).slt (imm.signExtend 32)))

/-- LTUI (R143). -/
def execLtui (c : CoreId) (gd ga : Gpr) (imm : BitVec 14) (s : State) : Out :=
  s.pierAct (.ltui c gd ga imm) 0 fun s => s.plainOp c gd (bool32 ((s.ra c ga).ult (imm.zeroExtend 32)))

/-- IML (R143). -/
def execIml (c : CoreId) (gd : Gpr) (imm : BitVec 16) (s : State) : Out :=
  s.pierAct (.iml c gd imm) 0 fun s => s.plainOp c gd (imm.zeroExtend 32)

/-- IMH (R143): the low half of gd is kept. -/
def execImh (c : CoreId) (gd : Gpr) (imm : BitVec 16) (s : State) : Out :=
  s.pierAct (.imh c gd imm) 0 fun s => s.plainOp c gd ((s.ra c gd &&& 0xFFFF) ||| (imm.zeroExtend 32 <<< 16))

/-- The signed 64-bit product. -/
def prodS (a b : Word) : BitVec 64 := BitVec.ofInt 64 (a.toInt * b.toInt)

/-- The unsigned 64-bit product. -/
def prodU (a b : Word) : BitVec 64 := BitVec.ofNat 64 (a.toNat * b.toNat)

/-- Signed quotient and remainder of R144: division never traps, and a quotient out of range saturates. -/
def divS (a b : Word) : Word × Word :=
  if b = 0 then (if 0 ≤ a.toInt then 0x7FFFFFFF else 0x80000000, 0)
  else if a = 0x80000000 ∧ b = 0xFFFFFFFF then (0x7FFFFFFF, 0)
  else (BitVec.ofInt 32 (a.toInt.tdiv b.toInt), BitVec.ofInt 32 (a.toInt.tmod b.toInt))

/-- Unsigned quotient and remainder of R144. -/
def divU (a b : Word) : Word × Word :=
  if b = 0 then (0xFFFFFFFF, 0) else (BitVec.ofNat 32 (a.toNat / b.toNat), BitVec.ofNat 32 (a.toNat % b.toNat))

/-- MUL (R144). -/
def execMulA (c : CoreId) (gd ga gb : Gpr) (s : State) : Out :=
  s.pierAct (.mulA c gd ga gb) 0 fun s => s.plainOp c gd ((prodU (s.ra c ga) (s.ra c gb)).extractLsb' 0 32)

/-- MULHS (R144). -/
def execMulhs (c : CoreId) (gd ga gb : Gpr) (s : State) : Out :=
  s.pierAct (.mulhs c gd ga gb) 0 fun s => s.plainOp c gd ((prodS (s.ra c ga) (s.ra c gb)).extractLsb' 32 32)

/-- MULHU (R144). -/
def execMulhu (c : CoreId) (gd ga gb : Gpr) (s : State) : Out :=
  s.pierAct (.mulhu c gd ga gb) 0 fun s => s.plainOp c gd ((prodU (s.ra c ga) (s.ra c gb)).extractLsb' 32 32)

/-- DIV (R144). -/
def execDivA (c : CoreId) (gd ga gb : Gpr) (s : State) : Out :=
  s.pierAct (.divA c gd ga gb) 0 fun s => s.plainOp c gd ((divS (s.ra c ga) (s.ra c gb)).1)

/-- DIVU (R144). -/
def execDivu (c : CoreId) (gd ga gb : Gpr) (s : State) : Out :=
  s.pierAct (.divu c gd ga gb) 0 fun s => s.plainOp c gd ((divU (s.ra c ga) (s.ra c gb)).1)

/-- MULP (R144). -/
def execMulp (c : CoreId) (gd ga gb : Gpr) (s : State) : Out :=
  s.pierAct (.mulp c gd ga gb) 0 fun s => s.pairOp c gd ((prodS (s.ra c ga) (s.ra c gb)).extractLsb' 0 32) ((prodS (s.ra c ga) (s.ra c gb)).extractLsb' 32 32)

/-- MULPU (R144). -/
def execMulpu (c : CoreId) (gd ga gb : Gpr) (s : State) : Out :=
  s.pierAct (.mulpu c gd ga gb) 0 fun s => s.pairOp c gd ((prodU (s.ra c ga) (s.ra c gb)).extractLsb' 0 32) ((prodU (s.ra c ga) (s.ra c gb)).extractLsb' 32 32)

/-- DIVM (R144). -/
def execDivm (c : CoreId) (gd ga gb : Gpr) (s : State) : Out :=
  s.pierAct (.divm c gd ga gb) 0 fun s => s.pairOp c gd (divS (s.ra c ga) (s.ra c gb)).1 (divS (s.ra c ga) (s.ra c gb)).2

/-- DIVMU (R144). -/
def execDivmu (c : CoreId) (gd ga gb : Gpr) (s : State) : Out :=
  s.pierAct (.divmu c gd ga gb) 0 fun s => s.pairOp c gd (divU (s.ra c ga) (s.ra c gb)).1 (divU (s.ra c ga) (s.ra c gb)).2

/-! ### Q31 (R145) -/

/-- A Q31 result: saturated, with QS sticky (R145). -/
def State.qOp (s : State) (c : CoreId) (gd : Gpr) (z : Int) : PierRes :=
  let (r, q) := sat31 z
  .next ((s.stickyQs c q).put c gd r)

/-- QADD (R145). -/
def execQadd (c : CoreId) (gd ga gb : Gpr) (s : State) : Out :=
  s.pierAct (.qadd c gd ga gb) 0 fun s => s.qOp c gd ((s.ra c ga).toInt + (s.ra c gb).toInt)

/-- QSUB (R145). -/
def execQsub (c : CoreId) (gd ga gb : Gpr) (s : State) : Out :=
  s.pierAct (.qsub c gd ga gb) 0 fun s => s.qOp c gd ((s.ra c ga).toInt - (s.ra c gb).toInt)

/-- QMUL (R145). -/
def execQmul (c : CoreId) (gd ga gb : Gpr) (s : State) : Out :=
  s.pierAct (.qmul c gd ga gb) 0 fun s => s.qOp c gd (prod31 (s.ra c ga) (s.ra c gb))

/-- QMAC (R145). -/
def execQmac (c : CoreId) (gd ga gb : Gpr) (s : State) : Out :=
  s.pierAct (.qmac c gd ga gb) 0 fun s => s.qOp c gd ((s.ra c gd).toInt + prod31 (s.ra c ga) (s.ra c gb))

/-- QMSU (R145). -/
def execQmsu (c : CoreId) (gd ga gb : Gpr) (s : State) : Out :=
  s.pierAct (.qmsu c gd ga gb) 0 fun s => s.qOp c gd ((s.ra c gd).toInt - prod31 (s.ra c ga) (s.ra c gb))

/-- QSHL (R145). -/
def execQshl (c : CoreId) (gd ga gb : Gpr) (s : State) : Out :=
  s.pierAct (.qshl c gd ga gb) 0 fun s => s.qOp c gd ((s.ra c ga).toInt * 2 ^ shiftOf (s.ra c gb))

/-- QNEG (R145). -/
def execQneg (c : CoreId) (gd ga : Gpr) (s : State) : Out :=
  s.pierAct (.qneg c gd ga) 0 fun s => s.qOp c gd (-(s.ra c ga).toInt)

/-- QABS (R145). -/
def execQabs (c : CoreId) (gd ga : Gpr) (s : State) : Out :=
  s.pierAct (.qabs c gd ga) 0 fun s => s.qOp c gd (s.ra c ga).toInt.natAbs

/-! ### F32 (R146 to R148) -/

/-- A binary32 result, with FX sticky (R146). -/
def State.fOp (s : State) (c : CoreId) (gd : Gpr) (r : Word × Bool) : PierRes := .next ((s.stickyFx c r.2).put c gd r.1)

/-- A comparison's result, with FX sticky (R148). -/
def State.fTest (s : State) (c : CoreId) (gd : Gpr) (r : Bool × Bool) : PierRes := s.fOp c gd (bool32 r.1, r.2)

/-- FADD (R147). -/
def execFadd (c : CoreId) (gd ga gb : Gpr) (s : State) : Out :=
  s.pierAct (.fadd c gd ga gb) 0 fun s => s.fOp c gd (fAdd (s.ra c ga) (s.ra c gb))

/-- FSUB (R147). -/
def execFsub (c : CoreId) (gd ga gb : Gpr) (s : State) : Out :=
  s.pierAct (.fsub c gd ga gb) 0 fun s => s.fOp c gd (fAdd (s.ra c ga) (s.ra c gb) true)

/-- FMUL (R147). -/
def execFmul (c : CoreId) (gd ga gb : Gpr) (s : State) : Out :=
  s.pierAct (.fmul c gd ga gb) 0 fun s => s.fOp c gd (fMul (s.ra c ga) (s.ra c gb))

/-- FMA (R147). -/
def execFma (c : CoreId) (gd ga gb : Gpr) (s : State) : Out :=
  s.pierAct (.fma c gd ga gb) 0 fun s => s.fOp c gd (fFma (s.ra c ga) (s.ra c gb) (s.ra c gd))

/-- FMS (R147). -/
def execFms (c : CoreId) (gd ga gb : Gpr) (s : State) : Out :=
  s.pierAct (.fms c gd ga gb) 0 fun s => s.fOp c gd (fFma (s.ra c ga) (s.ra c gb) (s.ra c gd) true)

/-- FDIV (R147). -/
def execFdiv (c : CoreId) (gd ga gb : Gpr) (s : State) : Out :=
  s.pierAct (.fdiv c gd ga gb) 0 fun s => s.fOp c gd (fDiv (s.ra c ga) (s.ra c gb))

/-- FMIN (R147). -/
def execFmin (c : CoreId) (gd ga gb : Gpr) (s : State) : Out :=
  s.pierAct (.fmin c gd ga gb) 0 fun s => s.fOp c gd (fMinMax false (s.ra c ga) (s.ra c gb))

/-- FMAX (R147). -/
def execFmax (c : CoreId) (gd ga gb : Gpr) (s : State) : Out :=
  s.pierAct (.fmax c gd ga gb) 0 fun s => s.fOp c gd (fMinMax true (s.ra c ga) (s.ra c gb))

/-- FSQRT (R147). -/
def execFsqrt (c : CoreId) (gd ga : Gpr) (s : State) : Out :=
  s.pierAct (.fsqrt c gd ga) 0 fun s => s.fOp c gd (fSqrt (s.ra c ga))

/-- FABS (R147): bit 31 cleared, of a NaN too: log entry 207. -/
def execFabs (c : CoreId) (gd ga : Gpr) (s : State) : Out :=
  s.pierAct (.fabs c gd ga) 0 fun s => s.plainOp c gd ((s.ra c ga) &&& 0x7FFFFFFF)

/-- FNEG (R147): bit 31 inverted, of a NaN too: log entry 207. -/
def execFneg (c : CoreId) (gd ga : Gpr) (s : State) : Out :=
  s.pierAct (.fneg c gd ga) 0 fun s => s.plainOp c gd ((s.ra c ga) ^^^ 0x80000000)

/-- FCEQ (R147, R148). -/
def execFceq (c : CoreId) (gd ga gb : Gpr) (s : State) : Out :=
  s.pierAct (.fceq c gd ga gb) 0 fun s => s.fTest c gd (fEq (s.ra c ga) (s.ra c gb))

/-- FCLT (R147, R148). -/
def execFclt (c : CoreId) (gd ga gb : Gpr) (s : State) : Out :=
  s.pierAct (.fclt c gd ga gb) 0 fun s => s.fTest c gd (fLess false (s.ra c ga) (s.ra c gb))

/-- FCLE (R147, R148). -/
def execFcle (c : CoreId) (gd ga gb : Gpr) (s : State) : Out :=
  s.pierAct (.fcle c gd ga gb) 0 fun s => s.fTest c gd (fLess true (s.ra c ga) (s.ra c gb))

/-- FCUN (R148): it never sets FX. -/
def execFcun (c : CoreId) (gd ga gb : Gpr) (s : State) : Out :=
  s.pierAct (.fcun c gd ga gb) 0 fun s => s.plainOp c gd (bool32 (fIsNaN (s.ra c ga) || fIsNaN (s.ra c gb)))

/-- ITOF (R147). -/
def execItof (c : CoreId) (gd ga : Gpr) (s : State) : Out :=
  s.pierAct (.itof c gd ga) 0 fun s => s.plainOp c gd (fOfInt (s.ra c ga).toInt)

/-- UTOF (R147). -/
def execUtof (c : CoreId) (gd ga : Gpr) (s : State) : Out :=
  s.pierAct (.utof c gd ga) 0 fun s => s.plainOp c gd (fOfInt (s.ra c ga).toNat)

/-- QTOF (R147). -/
def execQtof (c : CoreId) (gd ga : Gpr) (s : State) : Out :=
  s.pierAct (.qtof c gd ga) 0 fun s => s.plainOp c gd (fOfInt (s.ra c ga).toInt (-31))

/-- FTOI and FTOU: a number within `lo` and `hi`, or the saturated one with FX (R148). -/
def State.fIntOp (s : State) (c : CoreId) (gd : Gpr) (r : Int × Bool) : PierRes := s.fOp c gd (BitVec.ofInt 32 r.1, r.2)

/-- FTOI (R147, R148). -/
def execFtoi (c : CoreId) (gd ga : Gpr) (s : State) : Out :=
  s.pierAct (.ftoi c gd ga) 0 fun s => s.fIntOp c gd (fToInt (-2 ^ 31) (2 ^ 31 - 1) (s.ra c ga))

/-- FTOU (R147, R148). -/
def execFtou (c : CoreId) (gd ga : Gpr) (s : State) : Out :=
  s.pierAct (.ftou c gd ga) 0 fun s => s.fIntOp c gd (fToInt 0 (2 ^ 32 - 1) (s.ra c ga))

/-- FTOQ (R147, R148). -/
def execFtoq (c : CoreId) (gd ga : Gpr) (s : State) : Out :=
  s.pierAct (.ftoq c gd ga) 0 fun s =>
    let (z, qs, fx) := fToQ (s.ra c ga)
    .next (((s.stickyQs c qs).stickyFx c fx).put c gd (BitVec.ofInt 32 z))

end Sys2Proof.Machine
end

