-- ==== Sys2Proof/Machine/WindowClose.lean ====
section
/-! DEFINITION. The end of the commit window (R18, R43): held writes and the accesses that waited take effect, and the piers
dispatch. -/

namespace Sys2Proof.Machine

/-- An instruction whose access waited makes it now (R18): those of the deck, the points and the loops. -/
def execHeld (i : Instr) (s : State) : Out :=
  match i with
  | .dlw c d a n e => execDlw c d a n e s
  | .dlq c d a n e => execDlq c d a n e s
  | .dll c d a n e => execDll c d a n e s
  | .dsw c d a n => execDsw c d a n s
  | .dsq c d a n => execDsq c d a n s
  | .dsl c d a n => execDsl c d a n s
  | .dcas c d a b e => execDcas c d a b e s
  | .pld c g p => execPld c g p s
  | .pldP c g p => execPldP c g p s
  | .pldR c g p => execPldR c g p s
  | .pldX c g p => execPldX c g p s
  | .pldN c g p => execPldN c g p s
  | .pldNp c g p => execPldNp c g p s
  | .pq c g p => execPq c g p s
  | .pst c g p => execPst c g p s
  | .pstX c g p => execPstX c g p s
  | .pstq c g p q => execPstq c g p q s
  | .pids c d l m => execPids c d l m s
  | .biq c d l m => execBiq c d l m s
  | .casc c d l m => execCasc c d l m s
  | .clampw c d l m => execClampw c d l m s
  | .rate c d l m => execRate c d l m s
  | .intg c d l m => execIntg c d l m s
  | .intgLoad c d l m => execIntgLoad c d l m s
  | .swapkStatus c d l m => execSwapkStatus c d l m s
  | .swapkArm c d l m => execSwapkArm c d l m s
  | .swapkCancel c d l m => execSwapkCancel c d l m s
  | .prime c d l m => execPrime c d l m s
  | .primeFetch c d l m => execPrimeFetch c d l m s
  | _ => .next s

/-- The instruction that core `c` holds takes effect at the end of the window. -/
def State.releaseHeld (s : State) (c : Nat) : State :=
  match (s.core c).held with
  | none => s
  | some i => match execHeld i (s.modCore c fun k => { k with stall := false, held := none }) with
    | .next t => t
    | _ => s

/-- Every access that waited for the end of the window is made: those of other initiators in the order they came, then those of
the piers. -/
def State.serveHeld (s : State) : State :=
  let s := ({ s with busHeld := [] }).each s.busHeld State.busServe
  s.each (Sparse.keys s.pier.core) State.releaseHeld

/-- COMMIT_WINDOW_CLOSE (R43): held writes and the window's commits reach the next plane (R45, R487), the accesses that waited
proceed (R18), those of the piers and the fabric first, and the piers dispatch (R42). -/
def execCommitWindowClose (s : State) : Out :=
  s.act [] fun s => s.instant 1600 fun s =>
    let s := s.wr F.SPAN_STAT_WINDOW Win.opened.code
    let s := if s.domOn .deck then s.applyHeld.w31Present.serveHeld else s
    let s := if s.domOn .net then s.serveWaiting else s
    if s.domOn .deck then s.dispatchAll else s

end Sys2Proof.Machine
end

