-- ==== Sys2Proof/Machine/Dispatch.lean ====
section
/-! DEFINITION. One arm per command: each calls the command's meaning. -/

namespace Sys2Proof.Machine

/-- What command `i` does to everything but the queue. -/
def exec (i : Instr) (s : State) : Host.Outcome State Fault Refusal :=
  match i with
  | .registerWrite ini addr data => Sys2Proof.Machine.execRegisterWrite ini addr data s
  | .jointFrame badLanes => Sys2Proof.Machine.execJointFrame badLanes s
  | .jointSilence => Sys2Proof.Machine.execJointSilence s
  | .bearingReadDone ini addr => Sys2Proof.Machine.execBearingReadDone ini addr s
  | .bearingWriteEffect => Sys2Proof.Machine.execBearingWriteEffect s
  | .deckAccess ini req ecc => Sys2Proof.Machine.execDeckAccess ini req ecc s
  | .pllLockLoss k => Sys2Proof.Machine.execPllLockLoss k s
  | .pllRelock k => Sys2Proof.Machine.execPllRelock k s
  | .deviceIdLock => Sys2Proof.Machine.execDeviceIdLock s
  | .tickMarkerSend len => Sys2Proof.Machine.execTickMarkerSend len s
  | .tick meas => Sys2Proof.Machine.execTick meas s
  | .bearTick err => Sys2Proof.Machine.execBearTick err s
  | .bearMarkerMiss => Sys2Proof.Machine.execBearMarkerMiss s
  | .commandSetSend => Sys2Proof.Machine.execCommandSetSend s
  | .applyInstant => Sys2Proof.Machine.execApplyInstant s
  | .commitWindowClose => Sys2Proof.Machine.execCommitWindowClose s
  | .writeClose => Sys2Proof.Machine.execWriteClose s
  | .inputClose => Sys2Proof.Machine.execInputClose s
  | .statusSample => Sys2Proof.Machine.execStatusSample s
  | .budgetOverrun c => Sys2Proof.Machine.execBudgetOverrun c s
  | .spanArm => Sys2Proof.Machine.execSpanArm s
  | .spanCancel => Sys2Proof.Machine.execSpanCancel s
  | .descRead => Sys2Proof.Machine.execDescRead s
  | .descWrite => Sys2Proof.Machine.execDescWrite s
  | .descLockSet => Sys2Proof.Machine.execDescLockSet s
  | .force ini => Sys2Proof.Machine.execForce ini s
  | .releaseA ini => Sys2Proof.Machine.execReleaseA ini s
  | .releaseAll ini => Sys2Proof.Machine.execReleaseAll ini s
  | .deckBlkStart n => Sys2Proof.Machine.execDeckBlkStart n s
  | .deckBlkCancel n => Sys2Proof.Machine.execDeckBlkCancel n s
  | .deckBlkRelease n => Sys2Proof.Machine.execDeckBlkRelease n s
  | .blkCopyDone n => Sys2Proof.Machine.execBlkCopyDone n s
  | .loadSched sched => Sys2Proof.Machine.execLoadSched sched s
  | .admissionDone => Sys2Proof.Machine.execAdmissionDone s
  | .bankCopyDone => Sys2Proof.Machine.execBankCopyDone s
  | .swapArm sched => Sys2Proof.Machine.execSwapArm sched s
  | .swapCancel sched => Sys2Proof.Machine.execSwapCancel sched s
  | .stopSched sched => Sys2Proof.Machine.execStopSched sched s
  | .bpSliceExpiry c => Sys2Proof.Machine.execBpSliceExpiry c s
  | .bpRestart sched mask => Sys2Proof.Machine.execBpRestart sched mask s
  | .ovlStart sched => Sys2Proof.Machine.execOvlStart sched s
  | .ovlCopyDone sched => Sys2Proof.Machine.execOvlCopyDone sched s
  | .migrationCopyDone => Sys2Proof.Machine.execMigrationCopyDone s
  | .add c gd ga gb sf => Sys2Proof.Machine.execAdd c gd ga gb sf s
  | .sub c gd ga gb sf => Sys2Proof.Machine.execSub c gd ga gb sf s
  | .adc c gd ga gb sf => Sys2Proof.Machine.execAdc c gd ga gb sf s
  | .sbc c gd ga gb sf => Sys2Proof.Machine.execSbc c gd ga gb sf s
  | .andA c gd ga gb sf => Sys2Proof.Machine.execAndA c gd ga gb sf s
  | .orA c gd ga gb sf => Sys2Proof.Machine.execOrA c gd ga gb sf s
  | .xorA c gd ga gb sf => Sys2Proof.Machine.execXorA c gd ga gb sf s
  | .andn c gd ga gb sf => Sys2Proof.Machine.execAndn c gd ga gb sf s
  | .shl c gd ga gb sf => Sys2Proof.Machine.execShl c gd ga gb sf s
  | .shr c gd ga gb sf => Sys2Proof.Machine.execShr c gd ga gb sf s
  | .sar c gd ga gb sf => Sys2Proof.Machine.execSar c gd ga gb sf s
  | .ror c gd ga gb sf => Sys2Proof.Machine.execRor c gd ga gb sf s
  | .lts c gd ga gb => Sys2Proof.Machine.execLts c gd ga gb s
  | .ltu c gd ga gb => Sys2Proof.Machine.execLtu c gd ga gb s
  | .minA c gd ga gb => Sys2Proof.Machine.execMinA c gd ga gb s
  | .maxA c gd ga gb => Sys2Proof.Machine.execMaxA c gd ga gb s
  | .minu c gd ga gb => Sys2Proof.Machine.execMinu c gd ga gb s
  | .maxu c gd ga gb => Sys2Proof.Machine.execMaxu c gd ga gb s
  | .addi c gd ga imm => Sys2Proof.Machine.execAddi c gd ga imm s
  | .andi c gd ga imm => Sys2Proof.Machine.execAndi c gd ga imm s
  | .ori c gd ga imm => Sys2Proof.Machine.execOri c gd ga imm s
  | .xori c gd ga imm => Sys2Proof.Machine.execXori c gd ga imm s
  | .shli c gd ga sh => Sys2Proof.Machine.execShli c gd ga sh s
  | .shri c gd ga sh => Sys2Proof.Machine.execShri c gd ga sh s
  | .sari c gd ga sh => Sys2Proof.Machine.execSari c gd ga sh s
  | .ltsi c gd ga imm => Sys2Proof.Machine.execLtsi c gd ga imm s
  | .ltui c gd ga imm => Sys2Proof.Machine.execLtui c gd ga imm s
  | .iml c gd imm => Sys2Proof.Machine.execIml c gd imm s
  | .imh c gd imm => Sys2Proof.Machine.execImh c gd imm s
  | .mulA c gd ga gb => Sys2Proof.Machine.execMulA c gd ga gb s
  | .mulhs c gd ga gb => Sys2Proof.Machine.execMulhs c gd ga gb s
  | .mulhu c gd ga gb => Sys2Proof.Machine.execMulhu c gd ga gb s
  | .mulp c gd ga gb => Sys2Proof.Machine.execMulp c gd ga gb s
  | .mulpu c gd ga gb => Sys2Proof.Machine.execMulpu c gd ga gb s
  | .divA c gd ga gb => Sys2Proof.Machine.execDivA c gd ga gb s
  | .divu c gd ga gb => Sys2Proof.Machine.execDivu c gd ga gb s
  | .divm c gd ga gb => Sys2Proof.Machine.execDivm c gd ga gb s
  | .divmu c gd ga gb => Sys2Proof.Machine.execDivmu c gd ga gb s
  | .qadd c gd ga gb => Sys2Proof.Machine.execQadd c gd ga gb s
  | .qsub c gd ga gb => Sys2Proof.Machine.execQsub c gd ga gb s
  | .qmul c gd ga gb => Sys2Proof.Machine.execQmul c gd ga gb s
  | .qmac c gd ga gb => Sys2Proof.Machine.execQmac c gd ga gb s
  | .qmsu c gd ga gb => Sys2Proof.Machine.execQmsu c gd ga gb s
  | .qneg c gd ga => Sys2Proof.Machine.execQneg c gd ga s
  | .qabs c gd ga => Sys2Proof.Machine.execQabs c gd ga s
  | .qshl c gd ga gb => Sys2Proof.Machine.execQshl c gd ga gb s
  | .fadd c gd ga gb => Sys2Proof.Machine.execFadd c gd ga gb s
  | .fsub c gd ga gb => Sys2Proof.Machine.execFsub c gd ga gb s
  | .fmul c gd ga gb => Sys2Proof.Machine.execFmul c gd ga gb s
  | .fma c gd ga gb => Sys2Proof.Machine.execFma c gd ga gb s
  | .fms c gd ga gb => Sys2Proof.Machine.execFms c gd ga gb s
  | .fdiv c gd ga gb => Sys2Proof.Machine.execFdiv c gd ga gb s
  | .fsqrt c gd ga => Sys2Proof.Machine.execFsqrt c gd ga s
  | .fmin c gd ga gb => Sys2Proof.Machine.execFmin c gd ga gb s
  | .fmax c gd ga gb => Sys2Proof.Machine.execFmax c gd ga gb s
  | .fabs c gd ga => Sys2Proof.Machine.execFabs c gd ga s
  | .fneg c gd ga => Sys2Proof.Machine.execFneg c gd ga s
  | .fceq c gd ga gb => Sys2Proof.Machine.execFceq c gd ga gb s
  | .fclt c gd ga gb => Sys2Proof.Machine.execFclt c gd ga gb s
  | .fcle c gd ga gb => Sys2Proof.Machine.execFcle c gd ga gb s
  | .fcun c gd ga gb => Sys2Proof.Machine.execFcun c gd ga gb s
  | .itof c gd ga => Sys2Proof.Machine.execItof c gd ga s
  | .utof c gd ga => Sys2Proof.Machine.execUtof c gd ga s
  | .qtof c gd ga => Sys2Proof.Machine.execQtof c gd ga s
  | .ftoi c gd ga => Sys2Proof.Machine.execFtoi c gd ga s
  | .ftou c gd ga => Sys2Proof.Machine.execFtou c gd ga s
  | .ftoq c gd ga => Sys2Proof.Machine.execFtoq c gd ga s
  | .beq c ga gb off => Sys2Proof.Machine.execBeq c ga gb off s
  | .bne c ga gb off => Sys2Proof.Machine.execBne c ga gb off s
  | .blt c ga gb off => Sys2Proof.Machine.execBlt c ga gb off s
  | .bge c ga gb off => Sys2Proof.Machine.execBge c ga gb off s
  | .bltu c ga gb off => Sys2Proof.Machine.execBltu c ga gb off s
  | .bgeu c ga gb off => Sys2Proof.Machine.execBgeu c ga gb off s
  | .call c gd off => Sys2Proof.Machine.execCall c gd off s
  | .jmpr c gd ga => Sys2Proof.Machine.execJmpr c gd ga s
  | .loopA c count body => Sys2Proof.Machine.execLoopA c count body s
  | .lw c gd ga imm ecc => Sys2Proof.Machine.execLw c gd ga imm ecc s
  | .lh c gd ga imm ecc => Sys2Proof.Machine.execLh c gd ga imm ecc s
  | .lhu c gd ga imm ecc => Sys2Proof.Machine.execLhu c gd ga imm ecc s
  | .lb c gd ga imm ecc => Sys2Proof.Machine.execLb c gd ga imm ecc s
  | .lbu c gd ga imm ecc => Sys2Proof.Machine.execLbu c gd ga imm ecc s
  | .sw c gd ga imm => Sys2Proof.Machine.execSw c gd ga imm s
  | .sh c gd ga imm => Sys2Proof.Machine.execSh c gd ga imm s
  | .sb c gd ga imm => Sys2Proof.Machine.execSb c gd ga imm s
  | .dlw c gd ga imm ecc => Sys2Proof.Machine.execDlw c gd ga imm ecc s
  | .dlq c gd ga imm ecc => Sys2Proof.Machine.execDlq c gd ga imm ecc s
  | .dll c gd ga imm ecc => Sys2Proof.Machine.execDll c gd ga imm ecc s
  | .dsw c gd ga imm => Sys2Proof.Machine.execDsw c gd ga imm s
  | .dsq c gd ga imm => Sys2Proof.Machine.execDsq c gd ga imm s
  | .dsl c gd ga imm => Sys2Proof.Machine.execDsl c gd ga imm s
  | .dcas c gd ga gb ecc => Sys2Proof.Machine.execDcas c gd ga gb ecc s
  | .clw c gd ga imm => Sys2Proof.Machine.execClw c gd ga imm s
  | .csw c gd ga imm => Sys2Proof.Machine.execCsw c gd ga imm s
  | .fence c => Sys2Proof.Machine.execFence c s
  | .pld c g p => Sys2Proof.Machine.execPld c g p s
  | .pldP c g p => Sys2Proof.Machine.execPldP c g p s
  | .pldR c g p => Sys2Proof.Machine.execPldR c g p s
  | .pldX c g p => Sys2Proof.Machine.execPldX c g p s
  | .pldN c g p => Sys2Proof.Machine.execPldN c g p s
  | .pldNp c g p => Sys2Proof.Machine.execPldNp c g p s
  | .pq c g p => Sys2Proof.Machine.execPq c g p s
  | .pst c g p => Sys2Proof.Machine.execPst c g p s
  | .pstX c g p => Sys2Proof.Machine.execPstX c g p s
  | .pstq c g p q => Sys2Proof.Machine.execPstq c g p q s
  | .tget c gd => Sys2Proof.Machine.execTget c gd s
  | .kget c gd => Sys2Proof.Machine.execKget c gd s
  | .evt c gd ga code => Sys2Proof.Machine.execEvt c gd ga code s
  | .csrr c g csr => Sys2Proof.Machine.execCsrr c g csr s
  | .csrw c g csr => Sys2Proof.Machine.execCsrw c g csr s
  | .yieldA c => Sys2Proof.Machine.execYieldA c s
  | .trapA c => Sys2Proof.Machine.execTrapA c s
  | .pids c gd loop mode => Sys2Proof.Machine.execPids c gd loop mode s
  | .biq c gd loop mode => Sys2Proof.Machine.execBiq c gd loop mode s
  | .casc c gd loop mode => Sys2Proof.Machine.execCasc c gd loop mode s
  | .swapkArm c gd loop mode => Sys2Proof.Machine.execSwapkArm c gd loop mode s
  | .swapkCancel c gd loop mode => Sys2Proof.Machine.execSwapkCancel c gd loop mode s
  | .swapkStatus c gd loop mode => Sys2Proof.Machine.execSwapkStatus c gd loop mode s
  | .clampw c gd loop mode => Sys2Proof.Machine.execClampw c gd loop mode s
  | .rate c gd loop mode => Sys2Proof.Machine.execRate c gd loop mode s
  | .intg c gd loop mode => Sys2Proof.Machine.execIntg c gd loop mode s
  | .intgLoad c gd loop mode => Sys2Proof.Machine.execIntgLoad c gd loop mode s
  | .prime c gd loop mode => Sys2Proof.Machine.execPrime c gd loop mode s
  | .primeFetch c gd loop mode => Sys2Proof.Machine.execPrimeFetch c gd loop mode s
  | .refEnable => Sys2Proof.Machine.execRefEnable s
  | .refReady => Sys2Proof.Machine.execRefReady s
  | .refDisable => Sys2Proof.Machine.execRefDisable s
  | .seqEnable n => Sys2Proof.Machine.execSeqEnable n s
  | .seqDisable n => Sys2Proof.Machine.execSeqDisable n s
  | .seqStart n => Sys2Proof.Machine.execSeqStart n s
  | .seqAbort n => Sys2Proof.Machine.execSeqAbort n s
  | .phaseTrigger n => Sys2Proof.Machine.execPhaseTrigger n s
  | .entryStart slice t => Sys2Proof.Machine.execEntryStart slice t s
  | .entryComplete slice convs => Sys2Proof.Machine.execEntryComplete slice convs s
  | .pendingRunStart n => Sys2Proof.Machine.execPendingRunStart n s
  | .calSlotStart => Sys2Proof.Machine.execCalSlotStart s
  | .calCoeffCheck coefs => Sys2Proof.Machine.execCalCoeffCheck coefs s
  | .calSlotEnd => Sys2Proof.Machine.execCalSlotEnd s
  | .rotEnWrite b => Sys2Proof.Machine.execRotEnWrite b s
  | .sensChkEnable m => Sys2Proof.Machine.execSensChkEnable m s
  | .solEnable n => Sys2Proof.Machine.execSolEnable n s
  | .solDisable n => Sys2Proof.Machine.execSolDisable n s
  | .solPick n => Sys2Proof.Machine.execSolPick n s
  | .solOff n => Sys2Proof.Machine.execSolOff n s
  | .solAbort n => Sys2Proof.Machine.execSolAbort n s
  | .solClear n => Sys2Proof.Machine.execSolClear n s
  | .solPwmPeriod n samples vsol => Sys2Proof.Machine.execSolPwmPeriod n samples vsol s
  | .pickEnd n => Sys2Proof.Machine.execPickEnd n s
  | .solReleaseDone n => Sys2Proof.Machine.execSolReleaseDone n s
  | .grpWaitExpiry n => Sys2Proof.Machine.execGrpWaitExpiry n s
  | .i2tUpdate n => Sys2Proof.Machine.execI2tUpdate n s
  | .solChannelFault n reason => Sys2Proof.Machine.execSolChannelFault n reason s
  | .nodecayExpiry n => Sys2Proof.Machine.execNodecayExpiry n s
  | .motEnable n => Sys2Proof.Machine.execMotEnable n s
  | .motDisable n => Sys2Proof.Machine.execMotDisable n s
  | .moveMot n => Sys2Proof.Machine.execMoveMot n s
  | .homeMot n => Sys2Proof.Machine.execHomeMot n s
  | .motStop n => Sys2Proof.Machine.execMotStop n s
  | .motAbort n => Sys2Proof.Machine.execMotAbort n s
  | .motClear n => Sys2Proof.Machine.execMotClear n s
  | .motPeriodStart n ia ib ic vmot => Sys2Proof.Machine.execMotPeriodStart n ia ib ic vmot s
  | .positionEdge n e => Sys2Proof.Machine.execPositionEdge n e s
  | .hallInvalidPersist n => Sys2Proof.Machine.execHallInvalidPersist n s
  | .standstill n => Sys2Proof.Machine.execStandstill n s
  | .alignEnd n => Sys2Proof.Machine.execAlignEnd n s
  | .slLockTimeout n => Sys2Proof.Machine.execSlLockTimeout n s
  | .brakeTimeout n => Sys2Proof.Machine.execBrakeTimeout n s
  | .engageEnd n => Sys2Proof.Machine.execEngageEnd n s
  | .homeFound n => Sys2Proof.Machine.execHomeFound n s
  | .motChannelFault n reason => Sys2Proof.Machine.execMotChannelFault n reason s
  | .fanEnable n => Sys2Proof.Machine.execFanEnable n s
  | .fanDisable n => Sys2Proof.Machine.execFanDisable n s
  | .fanAbort n => Sys2Proof.Machine.execFanAbort n s
  | .fanRestart n => Sys2Proof.Machine.execFanRestart n s
  | .fanClear n => Sys2Proof.Machine.execFanClear n s
  | .tachEdge n interval => Sys2Proof.Machine.execTachEdge n interval s
  | .startTimeout n => Sys2Proof.Machine.execStartTimeout n s
  | .kickEnd n => Sys2Proof.Machine.execKickEnd n s
  | .retryGapEnd n => Sys2Proof.Machine.execRetryGapEnd n s
  | .fanLoopStep n => Sys2Proof.Machine.execFanLoopStep n s
  | .tachLoss n => Sys2Proof.Machine.execTachLoss n s
  | .tachLostTest n => Sys2Proof.Machine.execTachLostTest n s
  | .fanPwmPeriod n samples vin => Sys2Proof.Machine.execFanPwmPeriod n samples vin s
  | .fanChannelFault n reason => Sys2Proof.Machine.execFanChannelFault n reason s
  | .drivingChange ownIn => Sys2Proof.Machine.execDrivingChange ownIn s
  | .meterSampleReady codes => Sys2Proof.Machine.execMeterSampleReady codes s
  | .latchDone => Sys2Proof.Machine.execLatchDone s
  | .zeroCrossMark line rising => Sys2Proof.Machine.execZeroCrossMark line rising s
  | .halfCycleEnd => Sys2Proof.Machine.execHalfCycleEnd s
  | .freqInterval => Sys2Proof.Machine.execFreqInterval s
  | .zswSwitch k => Sys2Proof.Machine.execZswSwitch k s
  | .latchNow => Sys2Proof.Machine.execLatchNow s
  | .latOpen => Sys2Proof.Machine.execLatOpen s
  | .latClose => Sys2Proof.Machine.execLatClose s
  | .meterLoad => Sys2Proof.Machine.execMeterLoad s
  | .saveMark v => Sys2Proof.Machine.execSaveMark v s
  | .consume => Sys2Proof.Machine.execConsume s
  | .meterRun => Sys2Proof.Machine.execMeterRun s
  | .epulseTimer k => Sys2Proof.Machine.execEpulseTimer k s
  | .pfwRaise cause => Sys2Proof.Machine.execPfwRaise cause s
  | .residueWritten => Sys2Proof.Machine.execResidueWritten s
  | .pfwClear => Sys2Proof.Machine.execPfwClear s
  | .twinHandshake id pref role crcs => Sys2Proof.Machine.execTwinHandshake id pref role crcs s
  | .arbTimeout => Sys2Proof.Machine.execArbTimeout s
  | .contention => Sys2Proof.Machine.execContention s
  | .contentionRecheck => Sys2Proof.Machine.execContentionRecheck s
  | .mirrorFrame items => Sys2Proof.Machine.execMirrorFrame items s
  | .heartbeat frame count crcOk => Sys2Proof.Machine.execHeartbeat frame count crcOk s
  | .heartbeatDeadline => Sys2Proof.Machine.execHeartbeatDeadline s
  | .takeover => Sys2Proof.Machine.execTakeover s
  | .plannedRelease => Sys2Proof.Machine.execPlannedRelease s
  | .releaseCancel => Sys2Proof.Machine.execReleaseCancel s
  | .releaseDrop => Sys2Proof.Machine.execReleaseDrop s
  | .realign => Sys2Proof.Machine.execRealign s
  | .alignDone items => Sys2Proof.Machine.execAlignDone items s
  | .twinLaneDown l => Sys2Proof.Machine.execTwinLaneDown l s
  | .twinLaneUp l => Sys2Proof.Machine.execTwinLaneUp l s
  | .twinResetOrder => Sys2Proof.Machine.execTwinResetOrder s
  | .laneBlockLock p => Sys2Proof.Machine.execLaneBlockLock p s
  | .trainingDone p rt nbr => Sys2Proof.Machine.execTrainingDone p rt nbr s
  | .laneLockLoss p cause => Sys2Proof.Machine.execLaneLockLoss p cause s
  | .ringTrainTimeout => Sys2Proof.Machine.execRingTrainTimeout s
  | .announceFrame m lowest => Sys2Proof.Machine.execAnnounceFrame m lowest s
  | .electionSettled => Sys2Proof.Machine.execElectionSettled s
  | .joinLocked => Sys2Proof.Machine.execJoinLocked s
  | .treTickMarker p k => Sys2Proof.Machine.execTreTickMarker p k s
  | .masterMarkerMiss => Sys2Proof.Machine.execMasterMarkerMiss s
  | .updateFrame f => Sys2Proof.Machine.execUpdateFrame f s
  | .queueLaunch => Sys2Proof.Machine.execQueueLaunch s
  | .supplySwitch toVbat => Sys2Proof.Machine.execSupplySwitch toVbat s
  | .lossLatch => Sys2Proof.Machine.execLossLatch s
  | .oscStopDetect => Sys2Proof.Machine.execOscStopDetect s
  | .validate => Sys2Proof.Machine.execValidate s
  | .validateEdge => Sys2Proof.Machine.execValidateEdge s
  | .commitA ini => Sys2Proof.Machine.execCommitA ini s
  | .adjust ini => Sys2Proof.Machine.execAdjust ini s
  | .commitEdge => Sys2Proof.Machine.execCommitEdge s
  | .tkLoRead ini => Sys2Proof.Machine.execTkLoRead ini s
  | .tkFlgRead ini => Sys2Proof.Machine.execTkFlgRead ini s
  | .tkHiRead ini => Sys2Proof.Machine.execTkHiRead ini s
  | .shadowExpiry ini => Sys2Proof.Machine.execShadowExpiry ini s
  | .keepRamWrite w d => Sys2Proof.Machine.execKeepRamWrite w d s
  | .trimWrite d => Sys2Proof.Machine.execTrimWrite d s
  | .wakePeriodEnd => Sys2Proof.Machine.execWakePeriodEnd s
  | .thawCatchup => Sys2Proof.Machine.execThawCatchup s
  | .recordWrite => Sys2Proof.Machine.execRecordWrite s
  | .tokenReturn code => Sys2Proof.Machine.execTokenReturn code s
  | .winLatch n => Sys2Proof.Machine.execWinLatch n s
  | .winAdvance n => Sys2Proof.Machine.execWinAdvance n s
  | .curPosWrite n v => Sys2Proof.Machine.execCurPosWrite n v s
  | .curAckWrite n v => Sys2Proof.Machine.execCurAckWrite n v s
  | .clrFirst ini => Sys2Proof.Machine.execClrFirst ini s
  | .clrSecond ini => Sys2Proof.Machine.execClrSecond ini s
  | .clrExpiry => Sys2Proof.Machine.execClrExpiry s
  | .thermalComparator ini => Sys2Proof.Machine.execThermalComparator ini s
  | .caldriftTimer => Sys2Proof.Machine.execCaldriftTimer s
  | .selftestQueuedStart cls => Sys2Proof.Machine.execSelftestQueuedStart cls s
  | .selftestDone cls pass => Sys2Proof.Machine.execSelftestDone cls pass s
  | .trackExpiry => Sys2Proof.Machine.execTrackExpiry s
  | .healthRetire ini cls unit => Sys2Proof.Machine.execHealthRetire ini cls unit s
  | .thrWrite d => Sys2Proof.Machine.execThrWrite d s
  | .porAssert => Sys2Proof.Machine.execPorAssert s
  | .porRelease boot rolePref => Sys2Proof.Machine.execPorRelease boot rolePref s
  | .rstPin boot rolePref => Sys2Proof.Machine.execRstPin boot rolePref s
  | .wdogEnable => Sys2Proof.Machine.execWdogEnable s
  | .wdogKick v => Sys2Proof.Machine.execWdogKick v s
  | .wdogExpiry => Sys2Proof.Machine.execWdogExpiry s
  | .softReset => Sys2Proof.Machine.execSoftReset s
  | .twinResetCmd => Sys2Proof.Machine.execTwinResetCmd s
  | .buildOutStart plls joint => Sys2Proof.Machine.execBuildOutStart plls joint s
  | .buildPllTimeout => Sys2Proof.Machine.execBuildPllTimeout s
  | .buildTestsDone ms failed => Sys2Proof.Machine.execBuildTestsDone ms failed s
  | .xspiAnswer manA manB => Sys2Proof.Machine.execXspiAnswer manA manB s
  | .bootSlotLoaded image => Sys2Proof.Machine.execBootSlotLoaded image s
  | .bootGo => Sys2Proof.Machine.execBootGo s
  | .pdSwitchRequest on => Sys2Proof.Machine.execPdSwitchRequest on s
  | .pdSwitchDone d failed => Sys2Proof.Machine.execPdSwitchDone d failed s
  | .startGo => Sys2Proof.Machine.execStartGo s
  | .admitDone => Sys2Proof.Machine.execAdmitDone s
  | .joinTimeout => Sys2Proof.Machine.execJoinTimeout s
  | .outputStep => Sys2Proof.Machine.execOutputStep s
  | .status => Sys2Proof.Machine.execStatus s
  | .rd a => Sys2Proof.Machine.execRd a s
  | .wr a d => Sys2Proof.Machine.execWr a d s
  | .rdBurst a n => Sys2Proof.Machine.execRdBurst a n s
  | .wrBurst a ds => Sys2Proof.Machine.execWrBurst a ds s
  | .ptRead p => Sys2Proof.Machine.execPtRead p s
  | .ptWrite p v q => Sys2Proof.Machine.execPtWrite p v q s
  | .blkStart first count => Sys2Proof.Machine.execBlkStart first count s
  | .blkRead index n => Sys2Proof.Machine.execBlkRead index n s
  | .hostForce p v => Sys2Proof.Machine.execHostForce p v s
  | .hostRelease p => Sys2Proof.Machine.execHostRelease p s
  | .hostReleaseAll => Sys2Proof.Machine.execHostReleaseAll s
  | .evrRead => Sys2Proof.Machine.execEvrRead s
  | .evrAck v => Sys2Proof.Machine.execEvrAck v s
  | .hostFrameAbort cmd => Sys2Proof.Machine.execHostFrameAbort cmd s
  | .w31Read a => Sys2Proof.Machine.execW31Read a s
  | .w31ReadL a => Sys2Proof.Machine.execW31ReadL a s
  | .w31ReadH a => Sys2Proof.Machine.execW31ReadH a s
  | .w31Write a d => Sys2Proof.Machine.execW31Write a d s
  | .w31WriteL a d => Sys2Proof.Machine.execW31WriteL a d s
  | .w31WriteH a d => Sys2Proof.Machine.execW31WriteH a d s
  | .w31PageWrite d => Sys2Proof.Machine.execW31PageWrite d s
  | .w31SnapshotDone => Sys2Proof.Machine.execW31SnapshotDone s
  | .netRxFrame m f crcOk => Sys2Proof.Machine.execNetRxFrame m f crcOk s
  | .svcRequest m f => Sys2Proof.Machine.execSvcRequest m f s
  | .svcNotify m => Sys2Proof.Machine.execSvcNotify m s
  | .netTxKick m => Sys2Proof.Machine.execNetTxKick m s
  | .netTxDone m => Sys2Proof.Machine.execNetTxDone m s
  | .mdioGo m => Sys2Proof.Machine.execMdioGo m s
  | .mdioDone m data => Sys2Proof.Machine.execMdioDone m data s
  | .fldEnable e => Sys2Proof.Machine.execFldEnable e s
  | .fldRxFrame e f ok => Sys2Proof.Machine.execFldRxFrame e f ok s
  | .fldTxFrame e => Sys2Proof.Machine.execFldTxFrame e s
  | .mstpTimer e => Sys2Proof.Machine.execMstpTimer e s
  | .replyPostponed e => Sys2Proof.Machine.execReplyPostponed e s
  | .mbTransaction e => Sys2Proof.Machine.execMbTransaction e s
  | .mbReplyTimeout e => Sys2Proof.Machine.execMbReplyTimeout e s
  | .knxRepeat e => Sys2Proof.Machine.execKnxRepeat e s
  | .i2cGo m => Sys2Proof.Machine.execI2cGo m s
  | .i2cDone m nack data => Sys2Proof.Machine.execI2cDone m nack data s
  | .i2cStretchTimeout m => Sys2Proof.Machine.execI2cStretchTimeout m s
  | .spiGo m => Sys2Proof.Machine.execSpiGo m s
  | .spiDone m data => Sys2Proof.Machine.execSpiDone m data s
  | .gpioEdge n level => Sys2Proof.Machine.execGpioEdge n level s
  | .freezePin level => Sys2Proof.Machine.execFreezePin level s
  | .frzXInChange level => Sys2Proof.Machine.execFrzXInChange level s
  | .freezeMarker p => Sys2Proof.Machine.execFreezeMarker p s
  | .dbgFreeze => Sys2Proof.Machine.execDbgFreeze s
  | .clockGate => Sys2Proof.Machine.execClockGate s
  | .roFreeze => Sys2Proof.Machine.execRoFreeze s
  | .roThaw => Sys2Proof.Machine.execRoThaw s
  | .extest => Sys2Proof.Machine.execExtest s
  | .samplePreload cells => Sys2Proof.Machine.execSamplePreload cells s
  | .idcode => Sys2Proof.Machine.execIdcode s
  | .roAddr a => Sys2Proof.Machine.execRoAddr a s
  | .roData idle => Sys2Proof.Machine.execRoData idle s
  | .bypass => Sys2Proof.Machine.execBypass s
  | .ckLfEdge => Sys2Proof.Machine.execCkLfEdge s
  | .illegalInstruction c => Sys2Proof.Machine.execIllegalInstruction c s
  | .twinTickMarker frame => Sys2Proof.Machine.execTwinTickMarker frame s
  | .laneErroredBlocks l => Sys2Proof.Machine.execLaneErroredBlocks l s
  | .vgdLow low => Sys2Proof.Machine.execVgdLow low s
  | .noflash => Sys2Proof.Machine.execNoflash s
  | .ethLinkChange m up speed => Sys2Proof.Machine.execEthLinkChange m up speed s

end Sys2Proof.Machine
end

