-- ==== Sys2Proof/Machine/Idle.lean ====
section
/-! DEFINITION. What passes while no command waits. -/

namespace Sys2Proof.Machine

/-- One CK_DECK cycle with no command (R41: SPAN_PHASE counts, and running pier cores spend their budgets): time stands
still at the end of the span, where the next TICK is due, and while the clocks are gated. Before RUN there is no span, and only the
time from reset goes on. -/
def State.idle (s : State) : State :=
  if s.alive && !s.running then { s with span := { s.span with tickCyc := s.span.tickCyc + 1 } }
  else if s.alive && decide (s.span.phase + 1 < s.spanCyc) then s.toPhase (s.span.phase + 1) else s

end Sys2Proof.Machine
end

