-- ==== Sys2Proof/Safety.lean ====
section
/-! DEFINITION. The terms claims are stated in: when a command completes and what it then leaves, when a pier core can execute
an instruction and what it may change, and the canonical form of the device's memories. -/

namespace Sys2Proof.Machine

/-- Command `c` completes on `s`, and `P` holds of the state it leaves. -/
def Completes (c : Instr) (s : State) (P : State → Prop) : Prop := ∃ t, exec c s = .next t ∧ P t

/-- The device can act, and the power domains `ds` are on (R461, R470, R504). -/
abbrev State.serves (s : State) (ds : List Dom) : Prop := s.alive = true ∧ ds.all s.domOn = true

/-- As `serves`, and an access can reach the bearing die (R12). -/
abbrev State.reaches (s : State) (ds : List Dom) : Prop := s.serves ds ∧ s.joint = true

/-- Both byte memories, the deck and the tightly coupled memories, are in canonical form. -/
def State.memoryWf (s : State) : Bool := Sparse.wf 0 s.deck && Sparse.wf 0 s.pier.tcm

/-- `t` is `u` but for the register fields listed as (field, index, second index, value): each holds its value, every other field
holds what it held, and nothing else of the device differs. -/
structure Sets (u t : State) (rows : List (Fld × Nat × Nat × Nat)) : Prop where
  rest : t = { u with rf := t.rf }
  fields : ∀ r ∈ rows, t.rd r.1 r.2.1 r.2.2.1 = r.2.2.2
  others : ∀ f i j, (∀ r ∈ rows, f.key i j ≠ r.1.key r.2.1 r.2.2.1) → t.rd f i j = u.rd f i j

/-- `t` is what `f` makes of a state that differs from `u` in the rows alone. -/
def SetsThen (u t : State) (rows : List (Fld × Nat × Nat × Nat)) (f : State → State) : Prop := ∃ v, Sets u v rows ∧ t = f v

/-- `t` is what the event `code` of instance `index` with these words makes of a state that differs from `u` in the rows alone. -/
def SetsRaise (u t : State) (rows : List (Fld × Nat × Nat × Nat)) (code index : Nat) (words : List Nat) : Prop :=
  SetsThen u t rows fun v => v.raise code index words

/-- A frame on the host port was answered (R480): `t` is `u` but for these rows, the last result, the count of bad frames where it
is BAD_CMD or LENGTH, and the answer waiting at the port. -/
def Answered (u t : State) (rows : List (Fld × Nat × Nat × Nat)) (r : HostRes) (held : Bool) (data : List Byte) : Prop :=
  let bad := if r = .badCmd ∨ r = .length then [(F.HOSTP_STAT_BADCMD, 0, 0, min 255 (u.rd F.HOSTP_STAT_BADCMD + 1))] else []
  Sets { u with port := { u.port with status := t.statusByte (u.bit F.HOSTP_STAT_PREV_FAIL) r held, data := data } } t
    (rows ++ (F.HOSTP_STAT_LAST, 0, 0, r.code) :: bad)

/-- Time has come to `p` CK_DECK cycles after the tick, and every core that runs a task has come as far. -/
abbrev State.reached (s : State) (p : Nat) : Prop :=
  p ≤ s.span.phase ∧ ∀ c ∈ s.busyCores, coreCycles (s.core c).half s.span.phase ≤ (s.core c).clk

/-! ### Pier instructions -/

/-- Cycles the core waits for the registers of an instruction: none when it joins a pair (R133, R135). -/
def State.waitOf (s : State) (o : PierOp) : Nat :=
  if (s.core o.core).joins o then 0 else (s.core o.core).readyAt o.reads - (s.core o.core).clk

/-- The state in which an instruction's own effect begins: its wait is spent. -/
def State.waited (s : State) (o : PierOp) : State := s.setCore o.core ((s.core o.core).spend (s.waitOf o))

/-- Cycles an instruction costs: none when it joins a pair (R133, R135). -/
def State.costOf (s : State) (o : PierOp) (extra : Nat) : Nat := if (s.core o.core).joins o then 0 else o.cost + extra

/-- Core `o.core` runs task `k` and can execute instruction `i` to its end, with figures `o` and `extra` cycles more: the core
is on and goes on, PC is in the code and word-aligned, the word is free of errors, code of this kind may hold the instruction,
the budget or slice outlasts it, and no memory test holds a background task off the core (R52, R104, R122, R132, R140, R453). -/
structure Issues (s : State) (i : Instr) (o : PierOp) (extra : Nat) (k : RunTask) : Prop where
  op : pierOp i = some o
  serves : s.serves [coreDom o.core]
  task : (s.core o.core).task = some k
  going : (s.core o.core).stopped = false
  free : (s.core o.core).stall = false
  fetched : s.fetchStalled o.core (s.core o.core).pc = false
  inCode : (s.core o.core).pc < s.pierSpace o.core
  aligned : (s.core o.core).pc % 4 = 0
  clean : s.codeError o.core (s.core o.core).pc = none
  held : (if k.background then o.legal else o.fpOk) = true
  fits : s.waitOf o + s.costOf o extra < if k.background then (s.core o.core).slice else (s.core o.core).bc
  untested : k.background = true → s.tcmTested o.core = false

/-- No body of an active counted loop of core `c` ends at `pc`, so code goes on there (R151). -/
abbrev Straight (s : State) (c pc : Nat) : Prop := ∀ k < 4, s.levelOn c k = true → (s.levelBody c k).2 ≠ pc

/-- `pc` lies in the body of every active counted loop of core `c`, or just after it, so a jump there leaves none (R153). -/
abbrev Inside (s : State) (c pc : Nat) : Prop :=
  ∀ k < 4, s.levelOn c k = true → (s.levelBody c k).1 ≤ pc ∧ pc ≤ (s.levelBody c k).2

/-- A jump of core `c` to `pc` leaves the loops from level `d` on, the first whose body it lands outside of, and no body of the
levels before it ends there (R153). -/
abbrev Leaves (s : State) (c d pc : Nat) : Prop :=
  d < 4 ∧ s.levelOn c d = true ∧ ¬ ((s.levelBody c d).1 ≤ pc ∧ pc ≤ (s.levelBody c d).2) ∧
    ∀ j < d, s.levelOn c j = true → (s.levelBody c j).1 ≤ pc ∧ pc < (s.levelBody c j).2

/-- `t` is `s` but for the state of core `c`: no other core, no register, no byte of any memory, nothing else of the device
has changed. The core runs the same task, and its code goes on at `pc`. -/
structure CoreOnly (s t : State) (c pc : Nat) : Prop where
  rest : ∃ gprs cores, t = { s with pier := { s.pier with gpr := gprs, core := cores } }
  cores : ∀ c', c' ≠ c → t.core c' = s.core c' ∧ ∀ g < 64, t.gpr c' g = s.gpr c' g
  pc : (t.core c).pc = pc
  task : (t.core c).task = (s.core c).task

/-- General register `gd` of core `c` takes `v`, but g0 stays 0, and no other general register changes (R136). -/
abbrev Writes (s t : State) (c : Nat) (gd : Gpr) (v : Word) : Prop :=
  ∀ g < 64, t.gpr c g = if g = gd.toNat ∧ g ≠ 0 then v else s.gpr c g

/-- The group of registers from `gd` takes `vs`, and no other general register changes (R136). -/
abbrev WritesGroup (s t : State) (c : Nat) (gd : Gpr) (vs : List Word) : Prop :=
  ∀ g < 64, t.gpr c g = if gd.toNat ≤ g ∧ g < gd.toNat + vs.length ∧ g ≠ 0 then vs.getD (g - gd.toNat) 0 else s.gpr c g

/-- No general register of core `c` changes. -/
abbrev KeepsGprs (s t : State) (c : Nat) : Prop := ∀ g < 64, t.gpr c g = s.gpr c g

/-- The instruction a code word of `i` stands for: what an access finds in its ECC is no part of the word. -/
def eccFree : Instr → Instr
  | .lw c d a i _ => .lw c d a i .ok
  | .lh c d a i _ => .lh c d a i .ok
  | .lhu c d a i _ => .lhu c d a i .ok
  | .lb c d a i _ => .lb c d a i .ok
  | .lbu c d a i _ => .lbu c d a i .ok
  | .dlw c d a i _ => .dlw c d a i .ok
  | .dlq c d a i _ => .dlq c d a i .ok
  | .dll c d a i _ => .dll c d a i .ok
  | .dcas c d a b _ => .dcas c d a b .ok
  | i => i

/-- The flags Z, N, C, V, QS and FX of core `c`. -/
def State.flagsOf (s : State) (c : Nat) : Bool × Bool × Bool × Bool × Bool × Bool :=
  ((s.core c).z, (s.core c).n, (s.core c).c, (s.core c).v, (s.core c).qs, (s.core c).fx)

/-- A law instruction on the loops `ls`, which reads the points `ins`, with output point `out` passes the checks before its law
(R18, R21, R182, R184): the commit window does not hold its accesses, the records it reads hold no ECC error, the task holds the
loops and owns the output point, and that point is F32. -/
structure LawReady (s : State) (c : Nat) (ls : List Nat) (ins : List (Option Nat)) (out : Option Nat) : Prop where
  opened : s.windowWait 0 1 = false
  readable : ∀ x ∈ lawReads ls ins, s.eccClean x.1 x.2 = true
  held : ∀ n ∈ ls, s.holdsLoop c n = true
  owned : s.ownsOut c out = true
  fmt : s.outBad out = false

end Sys2Proof.Machine
end

