-- ==== Sys2Proof/WellFormed.lean ====
section
/-! DEFINITION. What a command's operands must be for the command to exist: the outside world and the engines give no
others. A pier instruction must be a listed encoding (R138, R140). -/

namespace Sys2Proof

/-- A two's complement code of `w` bits. -/
def codeFits (w : Nat) (z : Int) : Bool := decide (-(2 ^ (w - 1) : Int) ≤ z) && decide (z < (2 ^ (w - 1) : Int))

/-- The operands of a command are such that it can occur: a joint frame names each bad lane once (R11); an entry makes 1 to
256 conversions (R222, R231); a rotation forms six coefficient pairs (R238); current and metering samples fit their
converters (R262, R288, R310, R327); a deck access covers at least one byte; a pier instruction is a listed
encoding. -/
def wellFormed (i : Instr) : Bool :=
  match i with
  | .jointFrame lanes => decide lanes.Nodup
  | .entryComplete _ convs => 1 ≤ convs.length && convs.length ≤ 256
  | .calCoeffCheck coefs => coefs.length == 6
  | .solPwmPeriod _ samples _ => samples.all (codeFits 12)
  | .motPeriodStart _ ia ib ic _ => codeFits 12 ia && codeFits 12 ib && codeFits 12 ic
  | .fanPwmPeriod _ samples _ => samples.length ≤ 20 && samples.all (codeFits 12)
  | .meterSampleReady codes => codes.length == 8 && codes.all (codeFits 24)
  | .deckAccess _ (.read _ len) _ => 1 ≤ len
  | .deckAccess _ (.write _ bs) _ => !bs.isEmpty
  | .wrBurst _ ds => ds.length < 65536
  | i => ((Machine.pierOp i).map (·.legal)).getD true

end Sys2Proof
end

