-- ==== Sys2Proof/Certificates/Slice0/Obligations.lean ====
section
/-! DEFINITION. The statements about the machine, for the provers: each formalises what rules of the specification say. -/

open Sys2Proof Sys2Proof.Machine

/-! ### The machine as a whole -/

/-- A step runs the command at the front of the queue on the state with the queue's rest. The queue of commands is the model's
own: the specification has none, and 95_what_each_step_holds.md says only what each command must do. What the specification
leaves open in it is the model's choice: log entry 1. -/
def Obligations.StepRunsTheFront : Prop :=
  ∀ (s : State) (c : Instr) (cs : List Instr), s.pending = c :: cs → step s = exec c { s with pending := cs }

/-- With no command waiting one CK_DECK cycle of the span passes (R41; that a step is one cycle is the model's choice, log entry
1), only the time from reset before RUN (log entry 2), and nothing at all at the end of the span and while the device cannot
act. -/
def Obligations.EmptyQueue : Prop :=
  ∀ s : State, s.pending = [] →
    (s.alive = true → s.running = true → s.span.phase + 1 < s.spanCyc →
      ∃ t, step s = .next t ∧ t.span.phase = s.span.phase + 1 ∧ t.pending = [] ∧ t.frame = s.frame ∧
        (s.busyCores = [] → t = { s with span := { s.span with phase := s.span.phase + 1 } })) ∧
    (s.alive = true → s.running = false → step s = .next { s with span := { s.span with tickCyc := s.span.tickCyc + 1 } }) ∧
    (s.alive = false ∨ s.running = true ∧ s.spanCyc ≤ s.span.phase + 1 → step s = .next s)

/-- Right after reset (R9, R464, R465): every register field holds its reset value, the memories are cleared and in canonical
form, no point is bound, no core runs and no output is driven. Reset values that the register tables do not give, the keystone's
and the boot pins' are the model's choice (log entries 9 to 11), and so is that no command waits (log entry 1). -/
def Obligations.ResetState : Prop :=
  (∀ f i j, State.reset.rd f i j = f.reset i j) ∧ (∀ a, State.reset.dByte a = 0 ∧ State.reset.tcmByte a = 0) ∧
  (∀ c < 24, ∀ g < 64, State.reset.gpr c g = 0) ∧ (∀ c < 24, (State.reset.core c).task = none) ∧
  (∀ p, (State.reset.desc p).cls = 0 ∧ (State.reset.seen p).qual = .unbound) ∧ State.reset.driving = false ∧
  State.reset.running = false ∧ State.reset.memoryWf = true ∧ State.reset.pending = []

/-- Every command of the table completes in every state, and none but a step takes or adds a waiting command: no effect of the
specification stops the block. What the specification leaves open in it is the model's choice: log entries 8 and 158. -/
def Obligations.CommandsCompleteAndKeepTheQueue : Prop :=
  ∀ (c : Instr) (s : State), ∃ t, exec c s = .next t ∧ t.pending = s.pending

/-- Every step keeps the canonical form of the deck and of the tightly coupled memories: that form, addresses rising and no cell
at the value that clearing gives, is the model's own way of holding what R465 says is cleared. -/
def Obligations.StepKeepsMemoryForm : Prop :=
  ∀ s t : State, s.memoryWf = true → step s = .next t → t.memoryWf = true

/-- The encoding of pier instructions (R138 to R140): every listed instruction that is well formed has a word, which decodes to
it, with every operand at every value; no word is the encoding of two instructions. -/
def Obligations.DecodeOfEncode : Prop :=
  ∀ (i : Instr) (o : PierOp) (c : CoreId), pierOp i = some o → o.core = c.val → wellFormed i = true →
    ∃ w, pierEncode i = some w ∧ pierDecode c w = some (eccFree i)

/-- Whatever a word decodes to is a listed instruction whose encoding is that word, so every reserved word is refused, and every
listed instruction that is well formed has an encoding (R138 to R140). -/
def Obligations.EncodeOfDecode : Prop :=
  (∀ (i : Instr) (w : Word) (c : CoreId), pierDecode c w = some i →
    pierEncode i = some w ∧ wellFormed i = true ∧ (pierOp i).map (·.core) = some c.val) ∧
  ∀ (i : Instr) (o : PierOp), pierOp i = some o → wellFormed i = true → ∃ w, pierEncode i = some w

/-! ### Rules stated whole -/

/-- A frame of the joint with one bad lane (R14) is counted in CORR_COUNT, which stays at 255 once there, and its lane is shown
in BAD_LANE; nothing else changes, so no lane is retired. -/
def Obligations.CorrectedJointFrame : Prop :=
  ∀ (s : State) (l : Fin 64), s.serves [] → s.joint = true →
    Completes (.jointFrame [l]) s fun t => Sets s t
      [(F.SYS_JOINT_STAT_CORR_COUNT, 0, 0, min 255 (s.rd F.SYS_JOINT_STAT_CORR_COUNT + 1)),
        (F.SYS_JOINT_STAT_BAD_LANE, 0, 0, l)]

/-- An offset of a control block that holds no register (R26): no access to it is refused, a write changes nothing, and a read
gives 0: on the deck die at once, on the bearing die when the posted write takes effect and when the read completes (R13),
whether or not the block has its power: R540 speaks of registers. -/
def Obligations.EmptyOffsets : Prop :=
  ∀ (s : State) (i : Initiator) (addr data : Word), s.serves [] →
    let a := addr.toNat
    let p : Posted := ⟨initCode i, a, data⟩
    a % 4 = 0 → inControl a = true → findReg a = none →
    (onBearing a = false →
      (Completes (.registerWrite i addr data) s fun t => t = s.answer i a [] false) ∧ s.ctlRead i a = (.ok, 0, s)) ∧
    (onBearing a = false → s.domOn .net = true → s.port.waiting = [] →
      Completes (.rd addr) s fun t => Answered s t [] .ok false [0, 0, 0, 0]) ∧
    (onBearing a = true → s.posted = [] →
      (Completes (.registerWrite i addr data) s fun t => t = { s with posted := [p] }.answer i a [] false) ∧
      (Completes .bearingWriteEffect { s with posted := [p] } fun t => t = s) ∧
      (Completes (.bearingReadDone i addr) s fun t => t = s.answer i a (toBytes 0 4) false))

/-- Writing the keystone count (R413): KEEP_SET_LO and KEEP_SET_HI give a 48-bit S; after the commit edge of COMMIT the count is
S, after that of ADJUST it is c + 1 + S modulo 2^48, which reads S as two's complement. The registers are as the writes leave
them that the initiator posted before (R13). -/
def Obligations.CountIsSet : Prop :=
  ∀ (s : State) (i : Initiator), s.reaches [] →
    let d := s.drainPosted (initCode i)
    d.bit F.KEEP_STAT_PENDING = false → d.keep.frozen = false → d.keep.catchUp = false →
    let v := d.rd F.KEEP_SET_LO + 2 ^ 32 * (d.rd F.KEEP_SET_HI % 2 ^ 16)
    (Completes (.commitA i) s fun u => Completes .commitEdge u fun t => t.keep.count = v) ∧
    (Completes (.adjust i) s fun u => Completes .commitEdge u fun t => t.keep.count = (d.keep.count + 1 + v) % 2 ^ 48)

/-! ### The pier's arithmetic (R141 to R148) -/

/-- The register-register instructions with an S bit (R141, R142): the result in gd, the flags from it when S is 1, every flag
kept when S is 0, and nothing else changed. What the specification leaves open in it is the model's choice: log entry 45. -/
def Obligations.IntegerOpsWithFlags : Prop :=
  ∀ (s : State) (c : CoreId) (gd ga gb : Gpr) (f : Bool) (o : PierOp) (k : RunTask)
    (row : Instr × Word × Option (Bool × Bool)),
    let a := s.ra c ga
    let b := s.ra c gb
    let cy := (s.core c).c.toNat
    let n := b.toNat % 32
    let ovf := fun z : Int => decide (z < -2147483648 ∨ 2147483647 < z)
    row ∈ [
      (.add c gd ga gb f, a + b, some (decide (2 ^ 32 ≤ a.toNat + b.toNat), ovf (a.toInt + b.toInt))),
      (.sub c gd ga gb f, a - b, some (decide (b.toNat ≤ a.toNat), ovf (a.toInt - b.toInt))),
      (.adc c gd ga gb f, a + b + BitVec.ofNat 32 cy,
        some (decide (2 ^ 32 ≤ a.toNat + b.toNat + cy), ovf (a.toInt + b.toInt + cy))),
      (.sbc c gd ga gb f, a - b - BitVec.ofNat 32 (1 - cy),
        some (decide (b.toNat + (1 - cy) ≤ a.toNat), ovf (a.toInt - b.toInt - (1 - cy : Nat)))),
      (.andA c gd ga gb f, a &&& b, none), (.orA c gd ga gb f, a ||| b, none), (.xorA c gd ga gb f, a ^^^ b, none),
      (.andn c gd ga gb f, a &&& ~~~b, none),
      (.shl c gd ga gb f, BitVec.ofNat 32 (a.toNat * 2 ^ n), none),
      (.shr c gd ga gb f, BitVec.ofNat 32 (a.toNat / 2 ^ n), none),
      (.sar c gd ga gb f, BitVec.ofInt 32 (a.toInt / 2 ^ n), none),
      (.ror c gd ga gb f, a.rotateRight n, none)] →
    Issues s row.1 o 0 k → Straight (s.put c gd row.2.1) c ((s.core c).pc + 4) →
    Completes row.1 s fun t => CoreOnly s t c ((s.core c).pc + 4) ∧ Writes s t c gd row.2.1 ∧
      t.flagsOf c =
        if f then (decide (row.2.1 = 0), row.2.1.msb, (row.2.2.map (·.1)).getD (s.core c).c,
          (row.2.2.map (·.2)).getD (s.core c).v, (s.core c).qs, (s.core c).fx)
        else s.flagsOf c

/-- The integer instructions that leave the flags alone (R141, R143, R144), each with its result in gd; a division by 0 and the
quotient of the smallest number by −1 saturate. The instructions with two results (R144): the 64-bit products, and quotient and
remainder, in the pair gd, gd + 1. What the specification leaves open in it is the model's choice: log entry 45. -/
def Obligations.IntegerOpsKeepFlags : Prop :=
  (∀ (s : State) (c : CoreId) (gd ga gb : Gpr) (imm : BitVec 14) (sh : BitVec 5) (half : BitVec 16) (o : PierOp)
     (k : RunTask) (row : Instr × Word),
     let a := s.ra c ga
     let b := s.ra c gb
     let z := imm.toInt
     let u := imm.toNat
     let flag := fun p : Bool => if p then (1 : Word) else 0
     row ∈ [
       (.lts c gd ga gb, flag (decide (a.toInt < b.toInt))), (.ltu c gd ga gb, flag (decide (a.toNat < b.toNat))),
       (.minA c gd ga gb, if a.toInt < b.toInt then a else b), (.maxA c gd ga gb, if a.toInt < b.toInt then b else a),
       (.minu c gd ga gb, if a.toNat < b.toNat then a else b), (.maxu c gd ga gb, if a.toNat < b.toNat then b else a),
       (.addi c gd ga imm, a + BitVec.ofInt 32 z), (.andi c gd ga imm, a &&& BitVec.ofNat 32 u),
       (.ori c gd ga imm, a ||| BitVec.ofNat 32 u), (.xori c gd ga imm, a ^^^ BitVec.ofNat 32 u),
       (.shli c gd ga sh, BitVec.ofNat 32 (a.toNat * 2 ^ sh.toNat)), (.shri c gd ga sh, BitVec.ofNat 32 (a.toNat / 2 ^ sh.toNat)),
       (.sari c gd ga sh, BitVec.ofInt 32 (a.toInt / 2 ^ sh.toNat)),
       (.ltsi c gd ga imm, flag (decide (a.toInt < z))), (.ltui c gd ga imm, flag (decide (a.toNat < u))),
       (.iml c gd half, BitVec.ofNat 32 half.toNat),
       (.imh c gd half, BitVec.ofNat 32 (half.toNat * 65536 + (s.ra c gd).toNat % 65536)),
       (.mulA c gd ga gb, BitVec.ofNat 32 (a.toNat * b.toNat)), (.mulhs c gd ga gb, BitVec.ofInt 32 (a.toInt * b.toInt / 2 ^ 32)),
       (.mulhu c gd ga gb, BitVec.ofNat 32 (a.toNat * b.toNat / 2 ^ 32)),
       (.divA c gd ga gb,
         if b = 0 then (if 0 ≤ a.toInt then 0x7FFFFFFF else 0x80000000)
         else if a.toInt = -2147483648 ∧ b.toInt = -1 then 0x7FFFFFFF else BitVec.ofInt 32 (a.toInt.tdiv b.toInt)),
       (.divu c gd ga gb, if b = 0 then 0xFFFFFFFF else BitVec.ofNat 32 (a.toNat / b.toNat))] →
     Issues s row.1 o 0 k → Straight (s.put c gd row.2) c ((s.core c).pc + 4) →
     Completes row.1 s fun t => CoreOnly s t c ((s.core c).pc + 4) ∧ Writes s t c gd row.2 ∧ t.flagsOf c = s.flagsOf c) ∧
  (∀ (s : State) (c : CoreId) (gd ga gb : Gpr) (o : PierOp) (k : RunTask) (row : Instr × Word × Word),
     let a := s.ra c ga
     let b := s.ra c gb
     row ∈ [
       (.mulp c gd ga gb, BitVec.ofInt 32 (a.toInt * b.toInt), BitVec.ofInt 32 (a.toInt * b.toInt / 2 ^ 32)),
       (.mulpu c gd ga gb, BitVec.ofNat 32 (a.toNat * b.toNat), BitVec.ofNat 32 (a.toNat * b.toNat / 2 ^ 32)),
       (.divm c gd ga gb,
         if b = 0 then (if 0 ≤ a.toInt then 0x7FFFFFFF else 0x80000000, 0)
         else if a.toInt = -2147483648 ∧ b.toInt = -1 then (0x7FFFFFFF, 0)
         else (BitVec.ofInt 32 (a.toInt.tdiv b.toInt), BitVec.ofInt 32 (a.toInt.tmod b.toInt))),
       (.divmu c gd ga gb,
         if b = 0 then (0xFFFFFFFF, 0) else (BitVec.ofNat 32 (a.toNat / b.toNat), BitVec.ofNat 32 (a.toNat % b.toNat)))] →
     Issues s row.1 o 0 k → Straight (s.putGroup c gd [row.2.1, row.2.2]) c ((s.core c).pc + 4) →
     Completes row.1 s fun t => CoreOnly s t c ((s.core c).pc + 4) ∧ WritesGroup s t c gd [row.2.1, row.2.2] ∧
       t.flagsOf c = s.flagsOf c)

/-- The Q31 instructions (R145): the result saturates to the range of Q31, and QS is set exactly when it did, else kept. The F32
instructions and conversions (R146 to R148): each result is that of its binary32 operation, FX is set exactly when the operation
is exceptional, else kept, and FABS, FNEG, FCUN, ITOF, UTOF and QTOF leave every flag alone. FTOQ (R147, R148): the Q31 number
nearest to the operand; QS when it saturated, FX when the operand is exceptional. What the specification leaves open in it is
the model's choice: log entries 45, 53 and 207. -/
def Obligations.FractionAndFloatResults : Prop :=
  (∀ (s : State) (c : CoreId) (gd ga gb : Gpr) (o : PierOp) (k : RunTask) (row : Instr × Int),
     let a := (s.ra c ga).toInt
     let b := (s.ra c gb).toInt
     let d := (s.ra c gd).toInt
     let p := (a * b + 2 ^ 30) / 2 ^ 31
     row ∈ [
       (.qadd c gd ga gb, a + b), (.qsub c gd ga gb, a - b), (.qmul c gd ga gb, p), (.qmac c gd ga gb, d + p),
       (.qmsu c gd ga gb, d - p), (.qneg c gd ga, -a), (.qabs c gd ga, |a|),
       (.qshl c gd ga gb, a * 2 ^ ((s.ra c gb).toNat % 32))] →
     let r := BitVec.ofInt 32 (max (-2147483648) (min 2147483647 row.2))
     Issues s row.1 o 0 k → Straight (s.put c gd r) c ((s.core c).pc + 4) →
     Completes row.1 s fun t => CoreOnly s t c ((s.core c).pc + 4) ∧ Writes s t c gd r ∧
       t.flagsOf c = ((s.core c).z, (s.core c).n, (s.core c).c, (s.core c).v,
         (s.core c).qs || decide (row.2 < -2147483648 ∨ 2147483647 < row.2), (s.core c).fx)) ∧
  (∀ (s : State) (c : CoreId) (gd ga gb : Gpr) (o : PierOp) (k : RunTask) (row : Instr × Word × Bool),
     let a := s.ra c ga
     let b := s.ra c gb
     let d := s.ra c gd
     let flag := fun p : Bool => if p then (1 : Word) else 0
     row ∈ [
       (.fadd c gd ga gb, fAdd a b), (.fsub c gd ga gb, fAdd a b true), (.fmul c gd ga gb, fMul a b),
       (.fma c gd ga gb, fFma a b d), (.fms c gd ga gb, fFma a b d true), (.fdiv c gd ga gb, fDiv a b),
       (.fsqrt c gd ga, fSqrt a), (.fmin c gd ga gb, fMinMax false a b), (.fmax c gd ga gb, fMinMax true a b),
       (.fabs c gd ga, BitVec.ofNat 32 (a.toNat % 2 ^ 31), false),
       (.fneg c gd ga, BitVec.ofNat 32 ((a.toNat + 2 ^ 31) % 2 ^ 32), false),
       (.fceq c gd ga gb, flag (fEq a b).1, (fEq a b).2), (.fclt c gd ga gb, flag (fLess false a b).1, (fLess false a b).2),
       (.fcle c gd ga gb, flag (fLess true a b).1, (fLess true a b).2),
       (.fcun c gd ga gb, flag (fIsNaN a || fIsNaN b), false),
       (.itof c gd ga, fOfInt a.toInt, false), (.utof c gd ga, fOfInt a.toNat, false),
       (.qtof c gd ga, fOfInt a.toInt (-31), false),
       (.ftoi c gd ga, BitVec.ofInt 32 (fToInt (-2147483648) 2147483647 a).1, (fToInt (-2147483648) 2147483647 a).2),
       (.ftou c gd ga, BitVec.ofInt 32 (fToInt 0 4294967295 a).1, (fToInt 0 4294967295 a).2)] →
     Issues s row.1 o 0 k → Straight (s.put c gd row.2.1) c ((s.core c).pc + 4) →
     Completes row.1 s fun t => CoreOnly s t c ((s.core c).pc + 4) ∧ Writes s t c gd row.2.1 ∧
       t.flagsOf c = ((s.core c).z, (s.core c).n, (s.core c).c, (s.core c).v, (s.core c).qs, (s.core c).fx || row.2.2)) ∧
  (∀ (s : State) (c : CoreId) (gd ga : Gpr) (o : PierOp) (k : RunTask),
     let z := fToQ (s.ra c ga)
     Issues s (.ftoq c gd ga) o 0 k → Straight (s.put c gd (BitVec.ofInt 32 z.1)) c ((s.core c).pc + 4) →
     Completes (.ftoq c gd ga) s fun t => CoreOnly s t c ((s.core c).pc + 4) ∧ Writes s t c gd (BitVec.ofInt 32 z.1) ∧
       t.flagsOf c = ((s.core c).z, (s.core c).n, (s.core c).c, (s.core c).v, (s.core c).qs || z.2.1, (s.core c).fx || z.2.2))

/-! ### Branches, loops, local memory, time (R149 to R154, R163 to R168) -/

/-- The conditional branches (R149, R153): code goes on at the target when the condition holds, else at the next word; offsets
are unsigned in frame-partition code and signed in background code, and a taken branch costs one cycle more. One of background
code that lands outside the body of an active level clears that level and every level inside it. CALL and JMPR (R150, R153): gd
takes the address after the instruction, and code goes on at the target, for JMPR the word-aligned address that ga held before;
a jump out of the body of an active level clears levels as a branch does. JMPR to a target that is not word-aligned traps with
cause 2 at the JMPR. -/
def Obligations.BranchesAndJumps : Prop :=
  (∀ (s : State) (c : CoreId) (ga gb : Gpr) (off : BitVec 14) (o : PierOp) (k : RunTask) (row : Instr × Bool),
     let a := s.ra c ga
     let b := s.ra c gb
     let pc := (s.core c).pc
     row ∈ [
       (.beq c ga gb off, decide (a = b)), (.bne c ga gb off, decide (a ≠ b)), (.blt c ga gb off, decide (a.toInt < b.toInt)),
       (.bge c ga gb off, decide (b.toInt ≤ a.toInt)), (.bltu c ga gb off, decide (a.toNat < b.toNat)),
       (.bgeu c ga gb off, decide (b.toNat ≤ a.toNat))] →
     let nxt := if row.2 then (((pc : Int) + 4 * (if k.background then off.toInt else off.toNat)) % 2 ^ 32).toNat else pc + 4
     Issues s row.1 o row.2.toNat k →
     (Straight s c nxt → (row.2 = true → k.background = true → Inside s c nxt) →
       Completes row.1 s fun t => CoreOnly s t c nxt ∧ KeepsGprs s t c ∧ t.flagsOf c = s.flagsOf c) ∧
     (∀ d, row.2 = true → k.background = true → Leaves s c d nxt →
       Completes row.1 s fun t => CoreOnly s t c nxt ∧ t.flagsOf c = s.flagsOf c ∧
         ∀ g < 64, t.gpr c g = if 56 + 2 * d ≤ g then 0 else s.gpr c g)) ∧
  (∀ (s : State) (c : CoreId) (gd ga : Gpr) (off : BitVec 14) (o : PierOp) (k : RunTask),
     let pc := (s.core c).pc
     let link := BitVec.ofNat 32 (pc + 4)
     (∀ row : Instr × Nat,
       row ∈ [
         (.call c gd off, (((pc : Int) + 4 * (if k.background then off.toInt else off.toNat)) % 2 ^ 32).toNat),
         (.jmpr c gd ga, (s.ra c ga).toNat)] →
       Issues s row.1 o 0 k → row.2 % 4 = 0 →
       (Straight (s.put c gd link) c row.2 → (k.background = true → Inside (s.put c gd link) c row.2) →
         Completes row.1 s fun t => CoreOnly s t c row.2 ∧ Writes s t c gd link ∧ t.flagsOf c = s.flagsOf c) ∧
       (∀ d, k.background = true → Leaves (s.put c gd link) c d row.2 →
         Completes row.1 s fun t => CoreOnly s t c row.2 ∧ t.flagsOf c = s.flagsOf c ∧
           ∀ g < 64, t.gpr c g = if 56 + 2 * d ≤ g then 0 else (s.put c gd link).gpr c g)) ∧
     (Issues s (.jmpr c gd ga) o 0 k → (s.ra c ga).toNat % 4 ≠ 0 →
       Completes (.jmpr c gd ga) s fun t =>
         t.rd F.PIERCTL_PIER_TRAP_INFO_CAUSE (s.schedOf c) = 2 ∧ t.bit F.PIERCTL_PIER_TRAP_INFO_VALID (s.schedOf c) = true ∧
         t.rd F.PIERCTL_PIER_TRAP_PC (s.schedOf c) = pc % 2 ^ F.PIERCTL_PIER_TRAP_PC.width))

/-- LOOP (R151, R152): the first inactive level becomes active, in its first pass, with LAST one less than the passes (field 0
gives 1,024 passes), START the next word and BODY as given. The end-of-body step (R151): where the body of the innermost active
level ends, the level begins its next pass at START with INDEX one up and every other field of its registers kept, or, after its
last pass, is cleared and left. What the specification leaves open in it is the model's choice: log entry 45. -/
def Obligations.CountedLoops : Prop :=
  (∀ (s : State) (c : CoreId) (count : BitVec 10) (body : BitVec 16) (o : PierOp) (k : RunTask),
     let d := (List.range 4).countP fun j => s.levelOn c j
     let last := if count = 0 then 1023 else count.toNat - 1
     let hi := BitVec.ofNat 32 (2 ^ 31 + last * 2 ^ 10)
     let lo := BitVec.ofNat 32 (body.toNat * 2 ^ 16 + ((s.core c).pc + 4) / 4 % 2 ^ 15)
     d < 4 → Issues s (.loopA c count body) o 0 k →
     Straight ((s.setGpr c (56 + 2 * d) hi).setGpr c (57 + 2 * d) lo) c ((s.core c).pc + 4) →
     Completes (.loopA c count body) s fun t => CoreOnly s t c ((s.core c).pc + 4) ∧ t.flagsOf c = s.flagsOf c ∧
       ∀ g < 64, t.gpr c g = if g = 56 + 2 * d then hi else if g = 57 + 2 * d then lo else s.gpr c g) ∧
  (∀ (s : State) (c d : Nat), d < 4 → s.levelOn c d = true → (∀ j < 4, d < j → s.levelOn c j = false) →
     let w := (s.gpr c (56 + 2 * d)).toNat
     let pc := (s.levelBody c d).2
     (w % 2 ^ 10 ≠ w / 2 ^ 10 % 2 ^ 10 →
       s.endOfBody c pc 4 =
         (s.setGpr c (56 + 2 * d) (BitVec.ofNat 32 (w / 2 ^ 10 * 2 ^ 10 + (w + 1) % 2 ^ 10)), (s.levelBody c d).1)) ∧
     (w % 2 ^ 10 = w / 2 ^ 10 % 2 ^ 10 → (∀ j < d, s.levelOn c j = true → (s.levelBody c j).2 ≠ pc) →
       s.endOfBody c pc 4 = (s.clearLevel c d, pc)))

/-- The local loads (R154): gd takes the little-endian value in the data memory of the active bank, sign- or zero-extended. The
local stores (R154): the low bytes of gd go to the data memory from the address on, and no other byte of any memory, no register
and no flag changes. -/
def Obligations.LocalMemory : Prop :=
  (∀ (s : State) (c : CoreId) (gd ga : Gpr) (imm : BitVec 14) (o : PierOp) (k : RunTask) (row : Instr × Nat × Word),
     let a := s.addrOf c ga imm
     let v := fun n => leBytes (fun b => s.tcmByte (s.dataKey c b)) a n
     let sx := fun (w n : Nat) => BitVec.ofInt 32 (if v n < 2 ^ (w - 1) then (v n : Int) else (v n : Int) - 2 ^ w)
     row ∈ [
       (.lw c gd ga imm .ok, 4, BitVec.ofNat 32 (v 4)), (.lh c gd ga imm .ok, 2, sx 16 2),
       (.lhu c gd ga imm .ok, 2, BitVec.ofNat 32 (v 2)), (.lb c gd ga imm .ok, 1, sx 8 1),
       (.lbu c gd ga imm .ok, 1, BitVec.ofNat 32 (v 1))] →
     a < s.pierSpace c → a % row.2.1 = 0 → Issues s row.1 o 0 k → Straight (s.put c gd row.2.2) c ((s.core c).pc + 4) →
     Completes row.1 s fun t => CoreOnly s t c ((s.core c).pc + 4) ∧ Writes s t c gd row.2.2 ∧ t.flagsOf c = s.flagsOf c) ∧
  (∀ (s : State) (c : CoreId) (gd ga : Gpr) (imm : BitVec 14) (o : PierOp) (k : RunTask) (row : Instr × Nat),
     let a := s.addrOf c ga imm
     row ∈ [(.sw c gd ga imm, 4), (.sh c gd ga imm, 2), (.sb c gd ga imm, 1)] →
     a < s.pierSpace c → a % row.2 = 0 → Issues s row.1 o 0 k → Straight s c ((s.core c).pc + 4) →
     Completes row.1 s fun t =>
       (∃ cores m, t = { s with pier := { s.pier with core := cores, tcm := m } }) ∧
       (∀ x, t.tcmByte x = if s.dataKey c a ≤ x ∧ x < s.dataKey c a + row.2
         then BitVec.ofNat 8 ((s.ra c gd).toNat / 256 ^ (x - s.dataKey c a)) else s.tcmByte x) ∧
       (∀ c', c' ≠ c → t.core c' = s.core c') ∧ (t.core c).pc = (s.core c).pc + 4 ∧ t.flagsOf c = s.flagsOf c)

/-- TGET and KGET (R163): frame number and stamp offset, or the deck die's copy of keystone count and epoch, in the pair gd.
CSRR reads the flags, the budget left, the task number, the schedule, the core, the kind of code, the cycle count and the active
bank; CSRW of CSR 0 sets the flags, of any other CSR nothing (R165, R166). What the specification leaves open in it is the
model's choice: log entry 45. -/
def Obligations.TimeAndCsrs : Prop :=
  (∀ (s : State) (c : CoreId) (gd : Gpr) (o : PierOp) (k : RunTask) (row : Instr × Nat × Nat),
     row ∈ [(.tget c gd, s.frame, s.offset), (.kget c gd, s.keep.copyCount, s.keep.copyEpoch)] →
     let lo := BitVec.ofNat 32 row.2.1
     let hi := BitVec.ofNat 32 (row.2.2 % 2 ^ 16 * 2 ^ 16 + row.2.1 / 2 ^ 32 % 2 ^ 16)
     Issues s row.1 o 0 k → Straight (s.putGroup c gd [lo, hi]) c ((s.core c).pc + 4) →
     Completes row.1 s fun t => CoreOnly s t c ((s.core c).pc + 4) ∧ WritesGroup s t c gd [lo, hi] ∧ t.flagsOf c = s.flagsOf c) ∧
  (∀ (s : State) (c : CoreId) (g : Gpr) (o : PierOp) (k : RunTask),
     let w := s.ra c g
     (∀ (n : BitVec 14) (v : Nat),
       (n.toNat, v) ∈ [(0, (s.core c).flags), (1, (s.core c).bc - if k.background then 0 else s.waitOf o), (2, k.taskNo),
         (3, s.schedOf c), (4, c.val), (5, k.background.toNat), (6, (s.core c).clk + s.waitOf o), (7, (s.bankB c).toNat)] →
       Issues s (.csrr c g n) o 0 k → Straight (s.put c g (BitVec.ofNat 32 v)) c ((s.core c).pc + 4) →
       Completes (.csrr c g n) s fun t =>
         CoreOnly s t c ((s.core c).pc + 4) ∧ Writes s t c g (BitVec.ofNat 32 v) ∧ t.flagsOf c = s.flagsOf c) ∧
     (∀ n : BitVec 14, Issues s (.csrw c g n) o 0 k → Straight s c ((s.core c).pc + 4) →
       Completes (.csrw c g n) s fun t => CoreOnly s t c ((s.core c).pc + 4) ∧ KeepsGprs s t c ∧
         t.flagsOf c = if n = 0 then (w.getLsbD 0, w.getLsbD 1, w.getLsbD 2, w.getLsbD 3, w.getLsbD 4, w.getLsbD 5)
           else s.flagsOf c))

/-- EVT (R164, R425, R427): with its code enabled, a token left and no summary due, the recorder's queue takes an event of code
0xF00 plus the immediate, from this schedule and task, whose first two snapshot words are gd and ga. YIELD (R102, R104, R105,
R167): the last frame-partition task of the span ends, and its pier has no frame-partition work left in this span; a background
task gives up the core, with its registers, PC and flags kept for its next turn. TRAP, an illegal instruction and a budget
overrun (R52, R121 to R124, R140, R168): the trap registers of the schedule show the task, the cause and the PC of the
instruction, and the trap is counted. What the specification leaves open in it is the model's choice: log entries 45 to 49 and
116. -/
def Obligations.EventsYieldAndTraps : Prop :=
  (∀ (s : State) (c : CoreId) (gd ga : Gpr) (code : Byte) (o : PierOp) (k : RunTask),
     let n := 0xF00 + code.toNat
     s.bit F.EVR_STAT_RUNNING = true → s.evrField F.EVR_CODE_A_EN n ≠ 0 →
     (s.bucket n).missing < s.evrField F.EVR_CODE_B_BURST n → (s.bucket n).supp = 0 → s.evr.queue.length < 256 →
     s.roleIs .standby = false →
     Issues s (.evt c gd ga code) o 0 k → Straight s c ((s.core c).pc + 4) →
     Completes (.evt c gd ga code) s fun t => KeepsGprs s t c ∧ t.flagsOf c = s.flagsOf c ∧
       (t.core c).pc = (s.core c).pc + 4 ∧
       ∃ e, t.evr.queue = s.evr.queue ++ [e] ∧ e.code = n ∧ e.index = s.schedOf c ∧ e.task = k.taskNo ∧
         e.words.take 2 = [s.ra c gd, s.ra c ga]) ∧
  (∀ (s : State) (c : CoreId) (o : PierOp) (k : RunTask),
     Issues s (.yieldA c) o 0 k → Straight s c ((s.core c).pc + 4) →
     (k.background = false → s.rd F.PIERCTL_PIER_BP_CTL_RUNNING (s.schedOf c) = 0 →
       (∀ img, (s.sch (s.schedOf c)).active = some img → nextTask (img.kind false) (k.order + 1) = none) →
       Completes (.yieldA c) s fun t => (t.core c).task = none ∧ (t.core c).fpDone = true) ∧
     (k.background = true →
       Completes (.yieldA c) s fun t =>
         t.shadowOf (s.schedOf c) k.order =
           { started := true, regs := (List.range 63).map fun g => s.gpr c (g + 1), pc := (s.core c).pc + 4
             flags := (s.core c).flags, slice := 0 })) ∧
  (∀ (s : State) (c : CoreId) (o : PierOp) (k : RunTask) (row : Instr × Nat),
     let n := s.schedOf c
     row ∈ [(.trapA c, 6), (.illegalInstruction c, 2), (.budgetOverrun c, 1)] →
     s.serves [coreDom c] → (s.core c).task = some k → (s.core c).stopped = false → (s.core c).stall = false →
     (row.2 = 6 → Issues s row.1 o 0 k) → (row.2 = 1 → k.background = false) →
     Completes row.1 s fun t =>
       t.rd F.PIERCTL_PIER_TRAP_INFO_CAUSE n = row.2 ∧ t.rd F.PIERCTL_PIER_TRAP_INFO_TASK n = k.taskNo % 2 ^ 16 ∧
       t.bit F.PIERCTL_PIER_TRAP_INFO_VALID n = true ∧
       t.rd F.PIERCTL_PIER_TRAP_PC n = (s.core c).pc % 2 ^ F.PIERCTL_PIER_TRAP_PC.width ∧
       (row.2 = 1 → t.rd F.PIERCTL_PIER_TRAP_COUNT_OVERRUNS n = min 65535 (s.rd F.PIERCTL_PIER_TRAP_COUNT_OVERRUNS n + 1)) ∧
       (row.2 ≠ 1 → t.rd F.PIERCTL_PIER_TRAP_COUNT_OTHER n = min 65535 (s.rd F.PIERCTL_PIER_TRAP_COUNT_OTHER n + 1)))

/-! ### The deck and its points as pier code sees them (R75 to R77, R154 to R162) -/

/-- A deck load or store that reaches a plane, the descriptors or the loop area in the commit window waits for the window's end
(R18): nothing of it is done, and the core stalls. The deck loads (R21, R155): the group of 1, 4 or 8 registers takes the words
at the aligned address, where the deck holds no ECC error. The deck stores (R17, R155): the words of the group go to the aligned
address, least significant byte first, and every other byte of the deck, the local memories, every general and every device
register are unchanged; a quarter that is written in part holds no ECC error. DCAS (R156): gd takes the word at the address in
ga; that word becomes gb exactly when it equalled gd; nothing else in the memories changes. What the specification leaves open
in it is the model's choice: log entries 52 and 194. -/
def Obligations.DeckMemory : Prop :=
  (∀ (s : State) (c : CoreId) (gd ga : Gpr) (imm : BitVec 14) (o : PierOp) (k : RunTask) (row : Instr × Nat × Bool),
     let a := s.addrOf c ga imm
     row ∈ [(.dlw c gd ga imm .ok, 1, false), (.dlq c gd ga imm .ok, 4, false), (.dll c gd ga imm .ok, 8, false),
       (.dsw c gd ga imm, 1, true), (.dsq c gd ga imm, 4, true), (.dsl c gd ga imm, 8, true)] →
     let n := 4 * row.2.1
     a % n = 0 → (row.2.2 = false → s.deckReadOk (s.pierInit c) a n = true) →
     (row.2.2 = true → s.deckWriteOk (s.pierInit c) a n = true) → s.windowWait a n = true → Issues s row.1 o 0 k →
     Completes row.1 s fun t =>
       CoreOnly s t c (s.core c).pc ∧ KeepsGprs s t c ∧ (t.core c).stall = true ∧ (t.core c).held = some row.1) ∧
  (∀ (s : State) (c : CoreId) (gd ga : Gpr) (imm : BitVec 14) (o : PierOp) (k : RunTask) (row : Instr × Nat),
     let a := s.addrOf c ga imm
     row ∈ [(.dlw c gd ga imm .ok, 1), (.dlq c gd ga imm .ok, 4), (.dll c gd ga imm .ok, 8)] →
     let vs := (List.range row.2).map fun j => BitVec.ofNat 32 (s.deckWord (a + 4 * j))
     a % (4 * row.2) = 0 → s.deckReadOk (s.pierInit c) a (4 * row.2) = true → s.eccClean a (4 * row.2) = true →
     s.windowWait a (4 * row.2) = false →
     Issues s row.1 o 0 k → Straight (s.putGroup c gd vs) c ((s.core c).pc + 4) →
     Completes row.1 s fun t => CoreOnly s t c ((s.core c).pc + 4) ∧ WritesGroup s t c gd vs ∧ t.flagsOf c = s.flagsOf c) ∧
  (∀ (s : State) (c : CoreId) (gd ga : Gpr) (imm : BitVec 14) (o : PierOp) (k : RunTask) (row : Instr × Nat),
     let a := s.addrOf c ga imm
     row ∈ [(.dsw c gd ga imm, 1), (.dsq c gd ga imm, 4), (.dsl c gd ga imm, 8)] →
     a % (4 * row.2) = 0 → s.deckWriteOk (s.pierInit c) a (4 * row.2) = true → s.windowWait a (4 * row.2) = false →
     (∀ q ∈ partQuarters a (4 * row.2), s.eccClean q 8 = true) →
     Issues s row.1 o 0 k → Straight s c ((s.core c).pc + 4) →
     Completes row.1 s fun t =>
       (∀ b, t.dByte b = if a ≤ b ∧ b < a + 4 * row.2
         then BitVec.ofNat 8 ((s.gpr c (gd.toNat + (b - a) / 4)).toNat / 256 ^ ((b - a) % 4)) else s.dByte b) ∧
       (∀ x, t.tcmByte x = s.tcmByte x) ∧ KeepsGprs s t c ∧ (∀ f i j, t.rd f i j = s.rd f i j) ∧
       (t.core c).pc = (s.core c).pc + 4 ∧ t.flagsOf c = s.flagsOf c) ∧
  (∀ (s : State) (c : CoreId) (gd ga gb : Gpr) (o : PierOp) (k : RunTask),
     let a := (s.ra c ga).toNat
     let old := BitVec.ofNat 32 (s.deckWord a)
     a % 4 = 0 → s.deckReadOk (s.pierInit c) a 4 = true → s.deckWriteOk (s.pierInit c) a 4 = true →
     s.eccClean a 4 = true → s.windowWait a 4 = false → Issues s (.dcas c gd ga gb .ok) o 0 k →
     Straight (s.put c gd old) c ((s.core c).pc + 4) →
     Completes (.dcas c gd ga gb .ok) s fun t =>
       Writes s t c gd old ∧ (t.core c).pc = (s.core c).pc + 4 ∧
       (∀ b, t.dByte b = if old = s.ra c gd ∧ a ≤ b ∧ b < a + 4
         then BitVec.ofNat 8 ((s.ra c gb).toNat / 256 ^ (b - a)) else s.dByte b) ∧
       (∀ x, t.tcmByte x = s.tcmByte x) ∧ ∀ f i j, t.rd f i j = s.rd f i j)

/-- The point reads (R160): PLD, PLD.P, PLD.R and PLD.X take words of the seen record, PQ its quality byte, where the bytes read
hold no ECC error (R21). PLD.N and PLD.NP (R77, R160): the owner's task takes the words of the next-plane record, its own last
accepted write; other background code those of the seen record (R162). PST, PST.X and PSTQ (R75, R76, R79, R95): between the
close of the commit window and write-close, the owner's write enters the next plane with its quality, its value clamped to the
descriptor's limits, stamped with this device, this span and this offset; no general register and no other point's next record
changes. What the specification leaves open in it is the model's choice: log entries 36, 52 and 194. -/
def Obligations.PointAccess : Prop :=
  (∀ (s : State) (c : CoreId) (g : Gpr) (p : PtNum) (o : PierOp) (k : RunTask)
     (row : Instr × List Word × Nat × Nat),
     let w := fun (q j : Nat) => BitVec.ofNat 32 ((s.seen q).word (s.desc q) j)
     let x := p.toNat + (s.ra c g).toNat % 2 ^ 17
     row ∈ [
       (.pld c g p, [w p.toNat 0], 16 * p.toNat, 4), (.pldP c g p, [w p.toNat 0, w p.toNat 1], 16 * p.toNat, 8),
       (.pldR c g p, [w p.toNat 0, w p.toNat 1, w p.toNat 2, w p.toNat 3], 16 * p.toNat, 16),
       (.pq c g p, [w p.toNat 1 &&& 0xFF], 16 * p.toNat + 4, 1)] ++
       (if x < 2 ^ 17 then [(.pldX c g p, [w x 0], 16 * x, 4)] else []) →
     s.windowWait 0 1 = false → s.eccClean row.2.2.1 row.2.2.2 = true → Issues s row.1 o 0 k →
     Straight (s.putGroup c g row.2.1) c ((s.core c).pc + 4) →
     Completes row.1 s fun t =>
       CoreOnly s t c ((s.core c).pc + 4) ∧ WritesGroup s t c g row.2.1 ∧ t.flagsOf c = s.flagsOf c) ∧
  (∀ (s : State) (c : CoreId) (g : Gpr) (p : PtNum) (o : PierOp) (k : RunTask) (row : Instr × Nat),
     row ∈ [(.pldN c g p, 1), (.pldNp c g p, 2)] →
     let d := s.desc p.toNat
     let mine : Prop := d.cls = 1 ∧ d.ownerId = k.taskNo
     let r := if decide mine then s.nextRec p.toNat else s.seen p.toNat
     let vs := (List.range row.2).map fun j => BitVec.ofNat 32 (r.word d j)
     (mine ∨ k.background = true) → s.windowWait 0 1 = false →
     s.eccClean ((if decide mine then 0x00200000 else 0) + 16 * p.toNat) (4 * row.2) = true → Issues s row.1 o 0 k →
     Straight (s.putGroup c g vs) c ((s.core c).pc + 4) →
     Completes row.1 s fun t =>
       CoreOnly s t c ((s.core c).pc + 4) ∧ WritesGroup s t c g vs ∧ t.flagsOf c = s.flagsOf c) ∧
  (∀ (s : State) (c : CoreId) (g : Gpr) (p : PtNum) (q : BitVec 3) (o : PierOp) (k : RunTask)
     (row : Instr × Nat × Quality),
     let x := p.toNat + (s.gpr c (g.toNat + 1)).toNat % 2 ^ 17
     row ∈ [(.pst c g p, p.toNat, Quality.good), (.pstq c g p q, p.toNat, Quality.ofCode q.toNat),
       (.pstX c g p, x, Quality.good)] →
     x < 2 ^ 17 → (q.toNat ≤ 3 ∨ q.toNat = 5) → s.coherent = true → s.standbyIgnores row.2.1 = false →
     s.writeClosed = false → s.windowWait 0 1 = false →
     (s.desc row.2.1).cls = 1 → (s.desc row.2.1).ownerId = k.taskNo →
     Issues s row.1 o 0 k → Straight s c ((s.core c).pc + 4) →
     Completes row.1 s fun t =>
       (∃ r, Sparse.find? t.pts.next row.2.1 = some r ∧ r.value = ((s.desc row.2.1).clampVal (s.ra c g)).1 ∧
         r.qual = row.2.2 ∧ r.origin = s.devId ∧ r.frame = s.frame ∧ r.offset = s.offset) ∧
       (∀ p', p' ≠ row.2.1 → Sparse.find? t.pts.next p' = Sparse.find? s.pts.next p') ∧
       KeepsGprs s t c ∧ (t.core c).pc = (s.core c).pc + 4 ∧ t.flagsOf c = s.flagsOf c)

/-- CLW and CSW (R157): a control-block load takes the word that the read gives, in 150 cycles more on the bearing die; a store
to a block of the deck die takes effect as a write by this schedule, and one to the bearing die is posted (R13). FENCE (R158):
every write that the schedule has posted takes effect before it completes, and no other initiator's. Here for posted writes to
offsets without a register (R26), whose effect is none. What the specification leaves open in it is the model's choice: log
entries 14 and 52. -/
def Obligations.ControlBlocksAndFence : Prop :=
  (∀ (s : State) (c : CoreId) (gd ga : Gpr) (imm : BitVec 14) (o : PierOp) (k : RunTask),
     let a := s.addrOf c ga imm
     let put := (s.waited o).ctlPut (s.pierInit c) a (s.ra c gd).toNat
     (∀ (w : Nat) (u : State), (s.waited o).ctlRead (s.pierInit c) a = (.ok, w, u) →
       (u.core c).task = some k → (u.core c).slice = ((s.waited o).core c).slice → u.tcmTested c = false →
       Issues s (.clw c gd ga imm) o (if onBearing a then 150 else 0) k →
       Straight (u.put c gd (BitVec.ofNat 32 w)) c ((s.core c).pc + 4) →
       Completes (.clw c gd ga imm) s fun t => Writes u t c gd (BitVec.ofNat 32 w) ∧ (t.core c).pc = (s.core c).pc + 4) ∧
     (onBearing a = true → s.ctlAccess (s.pierInit c) a = .ok → Issues s (.csw c gd ga imm) o 0 k →
       Straight s c ((s.core c).pc + 4) →
       Completes (.csw c gd ga imm) s fun t =>
         t.posted = s.posted ++ [⟨s.schedOf c, a, s.ra c gd⟩] ∧ KeepsGprs s t c ∧ (∀ f i j, t.rd f i j = s.rd f i j) ∧
         (t.core c).pc = (s.core c).pc + 4) ∧
     (onBearing a = false → s.ctlAccess (s.pierInit c) a = .ok → findReg a = none → Issues s (.csw c gd ga imm) o 0 k →
       Straight s c ((s.core c).pc + 4) →
       Completes (.csw c gd ga imm) s fun t => CoreOnly s t c ((s.core c).pc + 4) ∧ KeepsGprs s t c) ∧
     (onBearing a = false → s.ctlAccess (s.pierInit c) a = .ok → (put.core c).task = some k →
       (put.core c).slice = ((s.waited o).core c).slice → put.tcmTested c = false → Issues s (.csw c gd ga imm) o 0 k →
       Straight put c ((s.core c).pc + 4) →
       Completes (.csw c gd ga imm) s fun t => ∃ kf, t = put.setCore c kf ∧ kf.pc = (s.core c).pc + 4)) ∧
  (∀ (s : State) (c : CoreId) (o : PierOp) (k : RunTask),
     (∀ p ∈ s.posted, p.initiator = s.schedOf c → findReg p.addr = none) →
     Issues s (.fence c) o 0 k → Straight s c ((s.core c).pc + 4) →
     Completes (.fence c) s fun t => t.posted = s.posted.filter (fun p => p.initiator != s.schedOf c) ∧ KeepsGprs s t c ∧
       (∀ f i j, t.rd f i j = s.rd f i j) ∧ (t.core c).pc = (s.core c).pc + 4)

/-! ### The control-law instructions (R182 to R208) -/

/-- PIDS on a running loop with usable inputs, outside tracking, rate limit, saturation and wind-up (R188): the new integrator
is I + Ki e, the output is ((p + I) + d) + ff, every operation rounded on its own; gd and word 14 take the output, words 12 and
13 the integrator and the filtered input. What the specification leaves open in it is the model's choice: log entries 55 and
194. -/
def Obligations.PidsNormalStep : Prop :=
  ∀ (s : State) (c : CoreId) (gd : Gpr) (loop : BitVec 14) (mode : BitVec 6) (o : PierOp) (k : RunTask),
    let n := loop.toNat
    let r := s.loopRec n
    let i := s.pidIn r (mode.getLsbD 0)
    let q := r.pidTerms i
    let int := rAdd (r.at 12) (rMul (r.coef 1) q.e)
    let u := rAdd (rAdd (rAdd q.p int) q.d) i.ff
    LawReady s c [n] r.pidPoints (r.outPoint mode) → r.kind = 0 → r.state = 1 → r.is .setOk = true → r.is .staged = false →
    r.is .windup = false → i.absent = false → i.usable = true → i.trk = none →
    fLt 0 (r.coef 6) = false → fLt (r.coef 5) u = false → fLt u (r.coef 4) = false → fIsNaN u = false →
    Issues s (.pids c gd loop mode) o 0 k → Straight (s.put c gd (rClamp u (r.coef 4) (r.coef 5))) c ((s.core c).pc + 4) →
    Completes (.pids c gd loop mode) s fun t =>
      Writes s t c gd (rClamp u (r.coef 4) (r.coef 5)) ∧ (t.core c).pc = (s.core c).pc + 4 ∧ t.flagsOf c = s.flagsOf c ∧
      (t.loopRec n).at 12 = int ∧ (t.loopRec n).at 13 = q.dfn ∧
      (t.loopRec n).at 14 = rClamp u (r.coef 4) (r.coef 5)

/-- BIQ on a running loop with its input in gd (R190): y = B0 x + S1, S1 becomes (B1 x − A1 y) + S2, S2 becomes B2 x − A2 y, and
gd takes y clamped to the limits. CASC between two outer steps (R191, R192): no outer step is made; the setpoint formed from the
last two outer outputs goes to gd and to word 10 of both records. What the specification leaves open in it is the model's
choice: log entries 55, 56, 63, 160 and 194. -/
def Obligations.BiquadAndCascade : Prop :=
  (∀ (s : State) (c : CoreId) (gd : Gpr) (loop : BitVec 14) (mode : BitVec 6) (o : PierOp) (k : RunTask),
     let n := loop.toNat
     let r := s.loopRec n
     let x := s.ra c gd
     let y := rAdd (rMul (r.coef 0) x) (r.at 12)
     let u := rClamp y (r.coef 4) (r.coef 5)
     LawReady s c [n] [] (r.outPoint mode) → r.kind = 1 → r.state = 1 → r.is .setOk = true → r.is .staged = false →
     mode.getLsbD 0 = true → fIsNaN x = false → fIsNaN y = false →
     Issues s (.biq c gd loop mode) o 0 k → Straight (s.put c gd u) c ((s.core c).pc + 4) →
     Completes (.biq c gd loop mode) s fun t =>
       Writes s t c gd u ∧ (t.core c).pc = (s.core c).pc + 4 ∧ t.flagsOf c = s.flagsOf c ∧
       (t.loopRec n).at 12 = rAdd (rSub (rMul (r.coef 1) x) (rMul (r.coef 3) y)) (r.at 13) ∧
       (t.loopRec n).at 13 = rSub (rMul (r.coef 2) x) (rMul (r.coef 6) y) ∧ (t.loopRec n).at 14 = y) ∧
  (∀ (s : State) (c : CoreId) (gd : Gpr) (loop : BitVec 14) (mode : BitVec 6) (o : PierOp) (k : RunTask),
     let n := loop.toNat
     let r := s.loopRec n
     let inner := (r.at 11).toNat / 2 ^ 16 % 2 ^ 14
     let m : Nat := (r.at 11).toNat % 2 ^ 16
     let phase : Nat := (r.at 1).toNat / 2 ^ 16
     let sp := if (r.at 11).getLsbD 30 = true ∧ phase + 1 ≠ m
       then rAdd (r.at 15) (rMul (rSub (r.at 14) (r.at 15)) (fDiv (fOfInt (phase + 1 : Nat)) (fOfInt m)).1) else r.at 14
     LawReady s c [n, inner] r.pidPoints (r.outPoint mode) → r.kind = 0 → (s.loopRec inner).kind = 0 → inner ≠ n →
     r.state = 1 → (s.pidIn r false).absent = false → 0 < phase → phase < m →
     Issues s (.casc c gd loop mode) o 0 k → Straight (s.put c gd sp) c ((s.core c).pc + 4) →
     Completes (.casc c gd loop mode) s fun t =>
       Writes s t c gd sp ∧ (t.core c).pc = (s.core c).pc + 4 ∧ (t.loopRec inner).at 10 = sp ∧ (t.loopRec n).at 10 = sp ∧
       (t.loopRec n).at 14 = r.at 14 ∧ (t.loopRec n).at 12 = r.at 12)

/-- CLAMPW, RATE and INTG on a running GEN loop (R195 to R197): gd takes the clamped value, the value moved by at most RATE from
the last output, or the clamped integral; the pair of CLAMPW also takes whether the clamp acted; U_PREV and I follow. SWAPK and
PRIME (R199, R204, R208): gd takes STATUS as it then stands: with STAGED set by ARM, cleared by CANCEL, unchanged by a query,
and with STATE in INIT after PRIME; PRIME FETCH with a keystone source first copies the keystone word to PRIME_VAL, or, without
KEEP_VALID, leaves it and sets PRIME_FB. What the specification leaves open in it is the model's choice: log entries 55 to 61
and 194. -/
def Obligations.GenericLawsAndSets : Prop :=
  (∀ (s : State) (c : CoreId) (gd : Gpr) (loop : BitVec 14) (mode : BitVec 6) (o : PierOp) (k : RunTask)
     (row : Instr × Word × Option (Nat × Word)),
     let n := loop.toNat
     let r := s.loopRec n
     let x := s.ra c gd
     let lim := fun u => rClamp u (r.coef 4) (r.coef 5)
     let near := rClamp x (rSub (r.at 14) (r.coef 6)) (rAdd (r.at 14) (r.coef 6))
     let sum := rAdd (r.at 12) (rMul (r.coef 1) x)
     row ∈ [
       (.clampw c gd loop mode, lim x, none), (.rate c gd loop mode, near, some (14, near)),
       (.intg c gd loop mode, lim sum, some (12, lim sum)), (.intgLoad c gd loop mode, lim x, some (12, lim x))] →
     let vs := if row.1 = .clampw c gd loop mode ∧ mode.getLsbD 0 = true then [lim x, bool32 (rNe (lim x) x)] else [row.2.1]
     LawReady s c [n] [] none → r.kind = 2 → r.state = 1 → r.is .setOk = true → r.is .staged = false →
     (row.1 = .rate c gd loop mode → fLt 0 (r.coef 6) = true) → fIsNaN row.2.1 = false →
     Issues s row.1 o 0 k → Straight (s.putGroup c gd vs) c ((s.core c).pc + 4) →
     Completes row.1 s fun t =>
       WritesGroup s t c gd vs ∧ (t.core c).pc = (s.core c).pc + 4 ∧ t.flagsOf c = s.flagsOf c ∧
       ∀ wv, row.2.2 = some wv → (t.loopRec n).at wv.1 = wv.2) ∧
  (∀ (s : State) (c : CoreId) (gd : Gpr) (loop : BitVec 14) (mode : BitVec 6) (o : PierOp) (k : RunTask)
     (row : Instr × Word),
     let n := loop.toNat
     let st := (s.loopRec n).at 1
     let src := ((s.loopRec n).at 8).toNat
     let keep : Prop := src / 2 ^ 30 = 2
     row ∈ [
       (.swapkStatus c gd loop mode, st), (.swapkArm c gd loop mode, st ||| 0x80), (.swapkCancel c gd loop mode, st &&& ~~~0x80),
       (.prime c gd loop mode, st &&& ~~~3),
       (.primeFetch c gd loop mode, (if keep ∧ s.bit F.KEEP_STAT_VALID = false then st ||| 0x200 else st) &&& ~~~3)] →
     LawReady s c [n] [] none → Issues s row.1 o 0 k → Straight (s.put c gd row.2) c ((s.core c).pc + 4) →
     Completes row.1 s fun t =>
       Writes s t c gd row.2 ∧ (t.core c).pc = (s.core c).pc + 4 ∧ t.flagsOf c = s.flagsOf c ∧ (t.loopRec n).at 1 = row.2 ∧
       (row.1 = .primeFetch c gd loop mode → (t.loopRec n).at 9 =
         if keep ∧ s.bit F.KEEP_STAT_VALID = true then BitVec.ofNat 32 (s.keepWord (16 + src / 2 ^ 24 % 16))
         else (s.loopRec n).at 9))

/-! ### The span and its instants (R41 to R62, R475) -/

/-- TICK (R41, R42, R43): the frame number goes up by one modulo 2^48, the span counter restarts, and the commit window opens.
ADMIT_DONE sets RUN and opens the first span with the frame number the device had (R41, R475). The instants of a span after the
tick (R43, R45, R46): each window of SPAN_STAT begins at its command, the span counter is at or past its instant, and the frame
number stays; here with no request waiting at the host port or the MACs (R18). What the specification leaves open in it is the
model's choice: log entries 2 and 31. -/
def Obligations.TickAndWindows : Prop :=
  (∀ s : State, s.serves [] →
     (∀ m : BitVec 32, s.running = true →
       Completes (.tick m) s fun t =>
         t.frame = (s.frame + 1) % 2 ^ 48 ∧ t.span.phase = 0 ∧ t.inWin .commit = true) ∧
     (s.atStep .admission = true → s.bit F.PIERCTL_STAT_LOADER_BUSY = false →
       Completes .admitDone s fun t =>
         t.running = true ∧ t.frame = s.frame ∧ t.span.phase = 0 ∧ t.inWin .commit = true)) ∧
  (∀ (s : State) (row : Instr × Nat × Win),
     row ∈ [(.commitWindowClose, 1600, Win.opened), (.writeClose, s.spanCyc - 8000, Win.writeClosed),
       (.inputClose, s.spanCyc - 4000, Win.inputClosed)] →
     s.serves [] → s.running = true → s.port.waiting = [] →
     Completes row.1 s fun t =>
       t.inWin row.2.2 = true ∧ t.span.phase = max row.2.1 s.span.phase ∧ t.frame = s.frame)

/-- COMMAND_SET_SEND, APPLY_INSTANT, TICK_MARKER_SEND, BEAR_TICK and BEAR_MARKER_MISS (R43, R54 to R57, R389): the command set
holds the seen records of the command points when it is sent, and comes into force at the apply instant (the previous one stays
when none arrived); the marker carries the length of the span it starts; when it arrives, the bearing die's newest span starts
with the alignment error added to its prediction, and its next is predicted with that length; without it the prediction stands.
STATUS_SAMPLE (R349): the meter status word, sampled before the tick, enters the one point that is bound to it. What the
specification leaves open in it is the model's choice: log entries 2, 28 to 30 and 172. -/
def Obligations.JointAndStatus : Prop :=
  (∀ s : State,
     (s.serves [.deck] → s.joint = true → s.atStep .output = true → s.running = true → s.reached 800 →
       Completes .commandSetSend s fun t => t = { s with span := { s.span with sent := some s.commandSet } }) ∧
     (s.serves [] → s.joint = true → s.running = true → s.reached (s.bearPhase 384) →
       Completes .applyInstant s fun t =>
         t.span = { s.span with inForce := s.span.sent.getD s.span.inForce, sent := none, applySel := some s.sel }) ∧
     (∀ len : Nat, s.serves [] → s.joint = true → s.running = true ∨ s.atStep .admission = true →
       (s.running = true → s.reached (s.spanCyc - 48)) →
       Completes (.tickMarkerSend len) s fun t => t = { s with span := { s.span with marker := some s.nextSpanCyc } }) ∧
     (∀ (err : BitVec 8) (len : Nat), s.serves [] → s.span.due = some len →
       Completes (.bearTick err) s fun t =>
         t.span = { s.span with due := none, bearLen := len, misses := 0, bear := realign err.toInt s.span.bear } ∧
         t.rd F.SPAN_BEAR_STAT_ALIGN_ERR = err.toNat) ∧
     (s.serves [] → s.running = true → s.joint = true → s.span.misses = 0 →
       Completes .bearMarkerMiss s fun t => t.span = { s.span with marker := none, due := none, misses := 1 })) ∧
  (∀ (s : State) (p : Nat),
     s.serves [.deck] → s.joint = true → s.running = true → s.coherent = true → s.inputClosed = false →
     s.reached (s.spanCyc - 4800) → s.domOn .sol = false → s.domOn .mot = false → s.domOn .fan = false →
     s.domOn .meter = true → s.pointsOf 3 0xDA = [p] → (s.desc p).cls = 3 → (s.desc p).ownerId = 0xDA →
     Completes .statusSample s fun t =>
       ∃ r, Sparse.find? t.pts.next p = some r ∧ r.qual = .good ∧
         r.value = ((s.desc p).clampVal ((s.desc p).scaleRaw s.meterStatus)).1 ∧
       ∀ p', p' ≠ p → Sparse.find? t.pts.next p' = Sparse.find? s.pts.next p')

/-- A span change (R58 to R60): ARM with no reason against it is armed for its frame with its length; ARM with a reason is
refused with that reason; either clears ABORT_LATE; CANCEL before the span that ends at F withdraws it, later, and once the
change is made, it only sets ABORT_LATE. The start-up order (R475): GO in CONFIG starts ADMIT, JOIN_TMO ends the join step with
PRIME, and before tick P + 2 OWN_OUT rises on a device whose role is OFF or ACTIVE, whose OWN_IN is low, and which is neither
hot nor frozen. What the specification leaves open in it is the model's choice: log entries 23 to 27, 32 and 197. -/
def Obligations.SpanChangeAndStart : Prop :=
  (∀ s : State, s.serves [] →
     let sel := s.rd F.SPAN_CHG_CTL_NEW_SEL
     let f := s.rd48 F.SPAN_CHG_FRAME_LO F.SPAN_CHG_FRAME_HI
     (s.rd F.SPAN_CHG_STAT_STATE ≠ 1 → s.spanReason sel f = 0 →
       Completes .spanArm s fun t => t.span.armed = some (f, sel) ∧ t.rd F.SPAN_CHG_STAT_STATE = 1 ∧
         t.rd F.SPAN_CHG_STAT_REASON = 0 ∧ t.bit F.SPAN_CHG_STAT_ABORT_LATE = false) ∧
     (s.rd F.SPAN_CHG_STAT_STATE ≠ 1 → s.spanReason sel f ≠ 0 →
       Completes .spanArm s fun t => t.span = s.span ∧ t.rd F.SPAN_CHG_STAT_STATE = 4 ∧
         t.rd F.SPAN_CHG_STAT_REASON = s.spanReason sel f ∧ t.bit F.SPAN_CHG_STAT_ABORT_LATE = false) ∧
     (∀ f' sel', s.rd F.SPAN_CHG_STAT_STATE = 1 → s.span.armed = some (f', sel') → s.frame + 1 < f' →
       Completes .spanCancel s fun t => t.span = { s.span with armed := none } ∧ t.rd F.SPAN_CHG_STAT_STATE = 3) ∧
     (∀ f' sel', s.rd F.SPAN_CHG_STAT_STATE = 1 → s.span.armed = some (f', sel') → f' ≤ s.frame + 1 →
       Completes .spanCancel s fun t => t.span = s.span ∧ t.bit F.SPAN_CHG_STAT_ABORT_LATE = true) ∧
     (s.rd F.SPAN_CHG_STAT_STATE = 2 →
       Completes .spanCancel s fun t => t.span = s.span ∧ t.bit F.SPAN_CHG_STAT_ABORT_LATE = true)) ∧
  (∀ s : State, s.serves [] →
     (s.atStep .config = true → Completes .startGo s fun t => t.atStep .admission = true ∧ t.span = s.span) ∧
     (s.atStep .join = true →
       Completes .joinTimeout s fun t => t.atStep .prime = true ∧ t.bit F.SYS_START_STAT_JOIN_TIMEOUT = true) ∧
     (s.atStep .coherent = true → s.running = true → s.roleIs .off = true ∨ s.roleIs .active = true →
       s.bit F.TWIN_STAT_OWN_IN = false → s.bit F.HEALTH_THERM_STAT_HALT_HOT = false → s.dbg.frozen = false →
       s.reached (s.spanCyc - 400) →
       Completes .outputStep s fun t => t.bit F.TWIN_STAT_OWN_OUT = true ∧ t.bit F.TWIN_STAT_DRIVING = true))

/-! ### The converter array and the sensor checks (R214 to R244, R250) -/

/-- The reference and the sequencers (R214, R215, R217, R226, R227): EN of the reference starts its settling, REF_READY reports
it, and EN of the reference clears only with every sequencer disabled; a sequencer is enabled with an empty ring or refused with
its reason (1 when the reference is off) and disabled with no run; ABORT without a run sets ABORT_LATE, ABORT of a run ends it
ABORTED with the results delivered; the rotation follows ROT_EN. The calibration rotation (R240, R242, R243) and a sensor
check's enable (R250): a ready slot begins, SS standing in for the slice; coefficients in bounds are kept at the check and come
into force when the slot ends, with the rotation at the next slice; a check is enabled with verdict OK and nothing counted, or
refused with 1 when THR_HI is not above THR_LO. What the specification leaves open in it is the model's choice: log entries 79
and 83 to 86. -/
def Obligations.ConverterAndCalibration : Prop :=
  (∀ (s : State) (n : Fin 32) (b : Bool), s.reaches [.conv] →
     (s.bit F.CONV_REF_CTL = false →
       Completes .refEnable s fun t => Sets { s with conv := { s.conv with refAt := s.convAbs } } t [(F.CONV_REF_CTL, 0, 0, 1)]) ∧
     (s.bit F.CONV_REF_CTL = true → Completes .refReady s fun t => Sets s t [(F.CONV_REF_STAT, 0, 0, 1)]) ∧
     ((∀ k < 32, s.bit F.CONV_SEQ_CTL_EN k = false) →
       Completes .refDisable s fun t => Sets s t
         [(F.CONV_REF_CTL, 0, 0, 0), (F.CONV_REF_STAT, 0, 0, 0), (F.HEALTH_REF_DEV, 0, 0, 0)]) ∧
     ((∃ k < 32, s.bit F.CONV_SEQ_CTL_EN k = true) → Completes .refDisable s fun t => t = s) ∧
     (s.bit F.CONV_SEQ_CTL_EN n = false → s.seqRefusal n = 0 →
       Completes (.seqEnable n) s fun t => Sets s t [(F.CONV_SEQ_STAT_REASON, n, 0, 0), (F.CONV_SEQ_CTL_EN, n, 0, 1),
         (F.CONV_SEQ_STAT_STATE, n, 0, 1), (F.CONV_SEQ_RING_WR, n, 0, 0), (F.CONV_SEQ_RING_RD, n, 0, 0)]) ∧
     (s.bit F.CONV_SEQ_CTL_EN n = false → s.bit F.CONV_REF_CTL = false →
       Completes (.seqEnable n) s fun t => Sets s t [(F.CONV_SEQ_STAT_REASON, n, 0, 1)]) ∧
     (Completes (.seqDisable n) s fun t => t.rd F.CONV_SEQ_CTL_EN n = 0 ∧ t.rd F.CONV_SEQ_STAT_STATE n = 0 ∧
       t.rd F.CONV_SEQ_STAT_PENDING n = 0) ∧
     (Sparse.find? s.conv.runs n = none →
       Completes (.seqAbort n) s fun t => Sets s t [(F.CONV_SEQ_STAT_ABORT_LATE, n, 0, 1)]) ∧
     (∀ r, Sparse.find? s.conv.runs n = some r → r.waiting = [] → (∀ kv ∈ s.conv.jobs, kv.2.seq ≠ n) → r.delivered < 128 →
       Completes (.seqAbort n) s fun t =>
         SetsRaise { s with conv := { s.conv with runs := Sparse.del s.conv.runs n } } t
           [(F.CONV_SEQ_STAT_OUTCOME, n, 0, 2), (F.CONV_SEQ_STAT_DONE_COUNT, n, 0, r.delivered),
             (F.CONV_SEQ_STAT_PENDING, n, 0, 0), (F.CONV_SEQ_STAT_STATE, n, 0, 1)] 0x301 n [n, r.delivered]) ∧
     (Completes (.rotEnWrite b) s fun t => Sets s t [(F.CONV_CAL_CTL_ROT_EN, 0, 0, b.toNat)])) ∧
  (∀ (s : State) (cs : List (Word × Word)) (m : Fin 128), s.reaches [.conv] →
     let k := s.rd F.CONV_CAL_STAT_SLOT
     (k < 16 → s.slotReady k = true →
       Completes .calSlotStart s fun t =>
         Sets { s with conv := { s.conv with inSlot := true, formed := none } } t [(F.CONV_CAL_STAT_SS_GROUP, 0, 0, k)]) ∧
     (s.conv.inSlot = true → s.conv.formed = none → cs.length = 6 → (∀ c ∈ cs.zipIdx, s.coefBad k c.2 c.1 = false) →
       Completes (.calCoeffCheck cs) s fun t => t = { s with conv := { s.conv with formed := some cs } }) ∧
     (s.conv.formed = some cs → cs.length = 6 → s.conv.inSlot = true → k < 15 → s.groupBusy k = false →
       Completes .calSlotEnd s fun t =>
         Sets { s with
             conv := { s.conv with inSlot := false, formed := none }
             health := { s.health with visited := Sparse.put s.health.visited k s.conv.rotations } } t
           ([(F.CONV_CAL_STAT_SS_GROUP, 0, 0, 0xFF), (F.CONV_CAL_STAT_SLOT, 0, 0, k + 1)] ++ cs.zipIdx.flatMap fun c =>
             [(F.CONV_COEF_OFS, k, c.2, c.1.1.toNat), (F.CONV_COEF_GAIN, k, c.2, c.1.2.toNat)])) ∧
     (s.bit F.SENS_CHK_CFG_EN m = false → s.chkRefusal m = 0 →
       Completes (.sensChkEnable m) s fun t =>
         ∃ u, u = s.chkMod m (fun c => { c with
           diff := s.bit F.CONV_SEQ_ENT_A_DIFF (s.rd F.SENS_CHK_CFG_SEQ m) (s.rd F.SENS_CHK_CFG_ENTRY m) }) ∧
         Sets u t [(F.SENS_CHK_STAT_REASON, m, 0, 0), (F.SENS_CHK_CFG_EN, m, 0, 1), (F.SENS_CHK_STAT_COUNT, m, 0, 0),
           (F.SENS_CHK_STAT_VERDICT, m, 0, 0), (F.SENS_CHK_STAT_KIND_NOW, m, 0, 0), (F.SENS_CHK_STAT_NOSRC, m, 0, 0)]) ∧
     (s.bit F.SENS_CHK_CFG_EN m = false → s.chkRefusal m = 1 →
       Completes (.sensChkEnable m) s fun t => Sets s t [(F.SENS_CHK_STAT_REASON, m, 0, 1)]))

/-- Triggers (R219, R220, R224, R231): START, two CK_CONV cycles later, and a PHASE trigger at its instant in a DIV-th span,
start the run of an idle sequencer, whose ring first takes the record of the trigger's frame and offset; one trigger waits
behind a run, a further one is dropped and counted, and in service two in one CK_CONV cycle count as one. A pending run
starts after the DONE commit. Entries (R221, R222, R223, R228, R238): a free slice takes the waiting entry of its group and
holds 24 CK_CONV cycles and 8 for each step of SETTLE later; a single conversion without OVR completes as its code corrected
by the slice's coefficients at the entry's gain, which a run that goes on holds for its destinations. What the specification
leaves open in it is the model's choice: log entries 77 to 82 and 173. -/
def Obligations.SequencersConvert : Prop :=
  (∀ (s : State) (n : Fin 32) (row : Instr × State × Nat), s.reaches [.conv] →
     let p := s.bearPhase (s.rd F.CONV_SEQ_TRIG_PHASE n * convCycles s.sel / 65536)
     row ∈ [(.seqStart n, s, 2), (.phaseTrigger n, s.toPhase p, 0)] →
     (row.1 = .phaseTrigger n → s.running = true ∧ s.rd F.CONV_SEQ_TRIG_SRC n = 2 ∧ s.divSpan n = true ∧
       s.span.phase ≤ p ∧ p < s.spanCyc) →
     let u := row.2.1
     let at' := u.convAbs + row.2.2
     let seen := { u with conv := { u.conv with trigAt := Sparse.put u.conv.trigAt n at' } }
     let started := { seen with conv := { seen.conv with runs := Sparse.put u.conv.runs n {} } }
     let rows := [(F.CONV_SEQ_STAT_STATE, n.val, 0, 2), (F.CONV_SEQ_STAT_PENDING, n.val, 0, 0)]
     let size := 2 ^ u.rd F.CONV_SEQ_RING_CFG_SIZE n
     let w := u.rd F.CONV_SEQ_RING_WR n % size
     let one : Bool := u.running && Sparse.find? u.conv.trigAt n == some at'
     (one = false → u.rd F.CONV_SEQ_STAT_STATE n = 1 → u.hasRing n = false → Completes row.1 s fun t => Sets started t rows) ∧
     (one = false → u.rd F.CONV_SEQ_STAT_STATE n = 1 → u.hasRing n = true → u.domOn .deck = true →
       (w + 1) % size ≠ u.rd F.CONV_SEQ_RING_RD n % size →
       Completes row.1 s fun t => t.rd F.CONV_SEQ_STAT_STATE n = 2 ∧ t.rd F.CONV_SEQ_RING_WR n = (w + 1) % size ∧
         t.dBytes (u.rd F.CONV_SEQ_RING_BASE n * 8 + 8 * w) 8 =
           toBytes ((u.stampAt at').1 % 2 ^ 32) 4 ++ [0xFF, 0] ++ toBytes (u.stampAt at').2 2) ∧
     (one = false → u.rd F.CONV_SEQ_STAT_STATE n = 2 → u.bit F.CONV_SEQ_STAT_PENDING n = false →
       Completes row.1 s fun t => Sets seen t [(F.CONV_SEQ_STAT_PENDING, n, 0, 1)]) ∧
     (one = false → u.rd F.CONV_SEQ_STAT_STATE n = 2 → u.bit F.CONV_SEQ_STAT_PENDING n = true →
       u.conv.dropSeen.contains n.val = true → u.rd F.CONV_SEQ_OVR n < 2 ^ F.CONV_SEQ_OVR.width - 1 →
       Completes row.1 s fun t => Sets seen t [(F.CONV_SEQ_OVR, n, 0, u.rd F.CONV_SEQ_OVR n + 1)]) ∧
     (one = true → u.rd F.CONV_SEQ_STAT_STATE n ≠ 0 → Completes row.1 s fun t => t = seen) ∧
     (s.rd F.CONV_SEQ_STAT_STATE n = 2 → Sparse.find? s.conv.runs n = none → s.conv.selfTrig.contains n.val = false →
       s.hasRing n = false → Completes (.pendingRunStart n) s fun t =>
         Sets { s with conv := { s.conv with runs := Sparse.put s.conv.runs n {} } } t rows)) ∧
  (∀ (s : State) (x : Fin 17) (time : Nat), s.serves [.conv] →
     (∀ g n j r, s.groupServed x = some g → s.groupBusy g = false → s.sliceBusy x = false → s.granted g = some (n, j) →
       Sparse.find? s.conv.runs n = some r → s.isRetired 2 x = false →
       Completes (.entryStart x time) s fun t => ∃ job, Sparse.find? t.conv.jobs x = some job ∧
         job.seq = n ∧ job.entry = j ∧ job.group = g ∧ job.dropped = false ∧ job.unserved = false ∧
         job.hold = s.bearStart + time + 24 + 8 * s.rd F.CONV_SEQ_ENT_A_SETTLE n j ∧
         t = { s with conv := { s.conv with
           jobs := Sparse.put s.conv.jobs x job, runs := Sparse.put s.conv.runs n { r with started := j + 1 } } }) ∧
     (∀ (b : ConvJob) (c : Conv) r, Sparse.find? s.conv.jobs x = some b → b.dropped = false → b.unserved = false →
       c.ovr = false → s.rd F.CONV_SEQ_ENT_A_AVG b.seq b.entry = 0 → s.rd F.CONV_SEQ_ENT_A_DEST b.seq b.entry = 0 →
       s.rd F.CONV_SEQ_ENT_A_FMT b.seq b.entry = 0 → s.chksOf b.seq b.entry = [] →
       Sparse.find? s.conv.runs b.seq = some r → r.ringNext ≠ b.entry → Sparse.find? r.waiting r.ringNext = none →
       r.delivered + 1 ≠ s.rd F.CONV_SEQ_CTL_ENTRIES b.seq →
       Completes (.entryComplete x [c]) s fun t =>
         Sparse.find? t.conv.jobs x = none ∧
         ∃ r', Sparse.find? t.conv.runs b.seq = some r' ∧ r'.delivered = r.delivered + 1 ∧
           ∃ v, Sparse.find? r'.waiting b.entry = some v ∧ v.channel = s.rd F.CONV_SEQ_ENT_A_CHANNEL b.seq b.entry ∧
           v.value = unsigned 32 (s.correct (if b.spare then 16 else b.group) (s.rd F.CONV_SEQ_ENT_A_GAIN b.seq b.entry)
             (s.bit F.CONV_SEQ_ENT_A_DIFF b.seq b.entry) c.code)))

/-! ### Solenoid channels (R258 to R282) -/

/-- The commands of a solenoid channel (R266, R268, R270, R272, R275, R277, R278, R280); a gate under test holds FAULT (R453);
the events of one command are those of one cycle (R429). What the specification leaves open in it is the model's choice: log
entries 88 to 92, 180, 208 and 218. -/
def Obligations.SolenoidCommands : Prop :=
  ∀ (s : State) (n : Fin 32), s.reaches [.sol] →
    let k := n.val / 4
    let group : State → State := fun v => (v.solGroup k).sortEvents s.evr.queue.length
    let starts : SolCh → SolCh := fun c =>
      { c with t := 0, peak := -2048, regulating := false, detDone := false, detLast := [], detMax := none, energy := 0
               isOn := true, sinceOn := 0, target := s.rd F.SOL_CH_PROF_PICK_I n
               onFor := (s.solLen n (s.solCh n).idx).1 * 100, regFrom := false, abortAt := none, moved := false }
    let low : SolCh → SolCh := fun c => { c with isOn := false, low := 0 }
    let pick := s.solReg n = true ∧ s.solIs n .idle = true ∧ s.bit F.SOL_CH_STAT_ARMED n = true ∧
      (s.solCh n).deferred = none ∧ s.throttling = false
    let hot := s.bit F.SOL_CH_STAT_OVER n = true ∧ s.rd F.SOL_CH_I2T_CFG_POLICY n = 0
    let free := s.solQueue k = [] ∧ s.solFits n = true
    (s.bit F.SOL_CH_CFG_EN n = false → s.solRefusal n = 0 →
      Completes (.solEnable n) s fun t =>
        SetsThen (s.solMod n fun c => { buckets := c.buckets, runSum := c.runSum, sec := c.sec
                                        idx := (s.solPosition n).1, pos := (s.solPosition n).2 }) t
          [(F.SOL_CH_STAT_REASON, n, 0, 0), (F.SOL_CH_CFG_EN, n, 0, 1), (F.SOL_CH_STAT_STATE, n, 0, 1),
            (F.SOL_CH_STAT_ARMED, n, 0, 1), (F.SOL_CH_STAT_FLT_REASON, n, 0, 0)] group) ∧
    (s.bit F.SOL_CH_CFG_EN n = false → s.solRefusal n ≠ 0 →
      Completes (.solEnable n) s fun t => Sets s t [(F.SOL_CH_STAT_REASON, n, 0, s.solRefusal n)]) ∧
    (s.solIs n .off = false →
      Completes (.solDisable n) s fun t =>
        SetsThen ((s.solUnqueue n).solMod n fun c => { c with kept := false, deferred := none, isOn := false }) t
          ((if s.solIs n .wait || s.solIs n .pick then [(F.SOL_CH_STAT_OUTCOME, n.val, 0, 2)] else []) ++
            [(F.SOL_CH_CFG_EN, n.val, 0, 0), (F.SOL_CH_STAT_STATE, n.val, 0, 0), (F.SOL_CH_STAT_ARMED, n.val, 0, 0)]) group) ∧
    (pick → ¬ hot → free →
      Completes (.solPick n) s fun t =>
        SetsThen (s.solMod n starts) t
          [(F.SOL_CH_STAT_ARMED, n, 0, 0), (F.SOL_CH_STAT_STATE, n, 0, 3), (F.SOL_CH_STAT_OUTCOME, n, 0, 0),
            (F.SOL_CH_STAT_MOTION, n, 0, 0), (F.SOL_CH_STAT_SLOWREL, n, 0, 0)] group) ∧
    (pick → ¬ hot → ¬ free →
      Completes (.solPick n) s fun t =>
        SetsThen { s with sol := { s.sol with queue := s.sol.queue ++ [n.val] } } t
          [(F.SOL_CH_STAT_ARMED, n, 0, 0), (F.SOL_CH_STAT_STATE, n, 0, 2)] group) ∧
    (pick → hot →
      Completes (.solPick n) s fun t =>
        SetsRaise s t [(F.SOL_CH_STAT_ARMED, n, 0, 0),
          (F.SOL_CH_STAT_REFUSED, n, 0, min 255 (s.rd F.SOL_CH_STAT_REFUSED n + 1))] 0x508 n [n, s.rd F.SOL_CH_I2T_SUM n]) ∧
    (s.solReg n = true → s.solIs n .hold = true →
      Completes (.solOff n) s fun t =>
        SetsThen (s.solMod n fun c => { c with kept := false, deferred := none }) t
          [(F.SOL_CH_STAT_ARMED, n, 0, 1), (F.SOL_CH_STAT_STATE, n, 0, 5)] fun v => group (v.solMod n low)) ∧
    (s.solReg n = true → s.solIs n .idle = true →
      Completes (.solOff n) s fun t =>
        Sets (s.solMod n fun c => { c with kept := false, deferred := none }) t [(F.SOL_CH_STAT_ARMED, n, 0, 1)]) ∧
    (s.takesCommands = true → s.solIs n .pick = true →
      Completes (.solAbort n) s fun t =>
        SetsThen s t [(F.SOL_CH_STAT_OUTCOME, n, 0, 2)] fun v =>
          group ((((v.raise 0x506 n [n, 3]).solMod n fun c => { c with abortAt := some s.drvNow }).wr
            F.SOL_CH_STAT_STATE 5 n).solMod n low)) ∧
    (s.takesCommands = true → s.solIs n .wait = true →
      Completes (.solAbort n) s fun t =>
        SetsThen s t [(F.SOL_CH_STAT_OUTCOME, n, 0, 2)] fun v =>
          group ((((v.raise 0x506 n [n, 2]).solMod n fun c => { c with abortAt := some s.drvNow }).solUnqueue n).wr
            F.SOL_CH_STAT_STATE 1 n)) ∧
    (s.takesCommands = true → s.solIs n .hold = true ∨ s.solIs n .release = true ∨ s.solIs n .fault = true →
      Completes (.solAbort n) s fun t => Sets s t [(F.SOL_CH_STAT_ABORT_LATE, n, 0, 1)]) ∧
    (s.takesCommands = true → s.solIs n .fault = true → (s.solCh n).last ≤ s.rd F.SOL_CH_LIM_IOFF n → s.solTested n = false →
      Completes (.solClear n) s fun t =>
        SetsThen s t [(F.SOL_CH_STAT_STATE, n, 0, 1), (F.SOL_CH_STAT_ARMED, n, 0, 0)] group) ∧
    (s.takesCommands = true → s.solIs n .fault = true →
      s.rd F.SOL_CH_LIM_IOFF n < (s.solCh n).last ∨ s.solTested n = true →
      Completes (.solClear n) s fun t => t = s)

/-- What happens in a solenoid channel (R261, R263, R271, R273, R274, R276, R278, R280): its samples, and its PWM period, whose
mean they form; peak turn-off at the target after the blanking time; the end of PICK with and without motion; the end of a
release; a request that waited too long; the i²t sum with OVER; and the faults, which an output that is not driven only records,
and which undo an ABORT of their cycle. The events of one instruction are those of one cycle (R429). What the specification
leaves open in it is the model's choice: log entries 88 to 92, 128, 178, 180, 181, 183, 208, 209 and 218. -/
def Obligations.SolenoidEvents : Prop :=
  ∀ (s : State) (n : Fin 32), s.serves [.sol] →
    let k := n.val / 4
    let sorted : State → State := (·.sortEvents s.evr.queue.length)
    let group : State → State := fun v => sorted (v.solGroup k)
    let duty := s.rd F.SOL_CH_PWM_PER n * s.rd F.SOL_CH_PROF_HOLD_I n / s.rd F.SOL_CH_PROF_PICK_I n
    let holds : SolCh → SolCh := fun c => { c with duty := duty, err := 0, regulating := true, regFrom := false }
    let rolled := s.solMod n (bucketRoll (s.nowUs / 1000000))
    let sum := rolled.i2tSum n
    let pre := s.solIs n .wait || s.solIs n .pick || s.solJustAborted n
    let c := s.solCh n
    let len := (s.solLen n c.idx).1
    let noted : Nat → State → Prop := fun reason t =>
      SetsRaise s t [(F.SOL_CH_STAT_FLT_REASON, n, 0, reason)] 0x505 n [n, reason, wInt c.last]
    let faulted : Nat → (State → State) → State → Prop := fun reason f t =>
      ∃ v, SetsRaise (if s.solJustAborted n then s.unraise 0x506 n else s) v
          [(F.SOL_CH_STAT_FLT_REASON, n, 0, reason)] 0x505 n [n, reason, wInt c.last] ∧
        SetsThen ((v.solUnqueue n).solMod n fun c => { c with
            kept := false, deferred := none, isOn := false, failed := c.failed || pre }) t
          ((if pre then [(F.SOL_CH_STAT_OUTCOME, n.val, 0, 3)] else []) ++ [(F.SOL_CH_STAT_STATE, n.val, 0, 6)]) f
    (∀ (raw : List Int) (vsol : BitVec 16), s.solIs n .off = false → raw ≠ [] →
      Completes (.solPwmPeriod n raw vsol) s fun t =>
        t.rd F.SOL_VSOL = vsol.toNat ∧ (t.solCh n).last = (raw.map senseCode).getLastD 0) ∧
    (∀ (x : Int) (vsol : BitVec 16), s.solIs n .off = false →
      Completes (.solPwmPeriod n [x] vsol) s fun t =>
        if c.pos + 1 < len then (t.solCh n).nowSum = c.nowSum + senseCode x ∧ (t.solCh n).nowCount = c.nowCount + 1 ∧
          (t.solCh n).pos = c.pos + 1
        else (t.solCh n).sum = c.nowSum + senseCode x ∧ (t.solCh n).count = c.nowCount + 1 ∧ (t.solCh n).pos = 0 ∧
          (t.solCh n).nowSum = 0) ∧
    (∀ (p : SolPer) (d : SolCh) (x : Int), p.avg = false → d.isOn = true → p.blank + 1 ≤ d.sinceOn → (d.target : Int) ≤ x →
      (solSample p d x).1.isOn = false) ∧
    (s.solIs n .pick = true → s.rd F.SOL_CH_STAT_MOTION n = 1 →
      Completes (.pickEnd n) s fun t =>
        SetsThen (s.solMod n holds) t [(F.SOL_CH_STAT_OUTCOME, n, 0, 1), (F.SOL_CH_STAT_STATE, n, 0, 4)] group) ∧
    (s.solIs n .pick = true → s.rd F.SOL_CH_STAT_MOTION n ≠ 1 → s.bit F.SOL_CH_CFG_NMFAULT n = false →
      Completes (.pickEnd n) s fun t =>
        ∃ v, SetsRaise s v [(F.SOL_CH_STAT_MOTION, n, 0, 2)] 0x500 n [n, s.rd F.SOL_CH_TIME_T_PICK n, wInt c.peak] ∧
          SetsThen (v.solMod n holds) t [(F.SOL_CH_STAT_OUTCOME, n, 0, 1), (F.SOL_CH_STAT_STATE, n, 0, 4)] group) ∧
    (s.solIs n .release = true → 4 ≤ c.low → c.kept = false →
      Completes (.solReleaseDone n) s fun t =>
        SetsThen (s.solMod n fun c => { c with kept := false, low := 0 }) t
          [(F.SOL_CH_ENERGY, n, 0, unsigned 32 (divFreeZ c.energy (2 ^ 64))), (F.SOL_CH_STAT_STATE, n, 0, 1)] group) ∧
    (s.solIs n .wait = true →
      Completes (.grpWaitExpiry n) s fun t =>
        SetsThen ((s.solUnqueue n).solMod n fun c => { c with failed := true }) t
          [(F.SOL_CH_STAT_STATE, n, 0, 1), (F.SOL_CH_STAT_OUTCOME, n, 0, 3), (F.SOL_CH_STAT_FLT_REASON, n, 0, 8),
            (F.SOL_CH_STAT_ARMED, n, 0, 0), (F.SOL_GRP_STAT_TIMEOUTS, k, 0, min 255 (s.rd F.SOL_GRP_STAT_TIMEOUTS k + 1))]
          fun v => group (v.raise 0x501 n [n, k, v.solLoad k])) ∧
    (s.bit F.SOL_CH_STAT_OVER n = false → sum ≤ s.rd F.SOL_CH_I2T_LIM n →
      Completes (.i2tUpdate n) s fun t => Sets rolled t [(F.SOL_CH_I2T_SUM, n, 0, min sum 0xFFFFFFFF)]) ∧
    (s.bit F.SOL_CH_STAT_OVER n = false → s.rd F.SOL_CH_I2T_LIM n < sum →
      s.rd F.SOL_CH_I2T_CFG_POLICY n ≠ 2 →
      Completes (.i2tUpdate n) s fun t =>
        SetsRaise rolled t [(F.SOL_CH_I2T_SUM, n, 0, min sum 0xFFFFFFFF), (F.SOL_CH_STAT_OVER, n, 0, 1)] 0x503 n
          [n, min sum 0xFFFFFFFF, s.rd F.SOL_CH_I2T_CFG_POLICY n]) ∧
    (∀ reason : BitVec 4, reason = 1 ∨ reason = 7 → s.solIs n .off = false → s.solIs n .fault = false →
      Completes (.solChannelFault n reason) s fun t =>
        if s.drives then faulted reason.toNat group t else noted reason.toNat t) ∧
    (s.solIs n .off = true → Completes (.solChannelFault n 7) s fun t => noted 7 t) ∧
    (s.drives = true → s.solIs n .off = false →
      Completes (.solChannelFault n 2) s fun t => faulted 2 (fun v => sorted ((v.solGroup k).unitError 3 n)) t) ∧
    (s.drives = true → s.solIs n .release = true ∨ s.solIs n .fault = true →
      (s.rd F.SOL_CH_LIM_IOFF n : Int) < c.last →
      Completes (.nodecayExpiry n) s fun t => faulted 6 group t)

/-! ### Fan channels (R308 to R323) -/

/-- The commands of a fan channel (R314 to R316, R319, R321): enable accepted or refused, disable, a start aborted or the abort
late, RESTART out of LOCKED, CLEAR out of FAULT. What the specification leaves open in it is the model's choice: log entries 88,
92, 98, 99, 180 and 218. -/
def Obligations.FanCommands : Prop :=
  ∀ (s : State) (n : Fin 16), s.reaches [.fan] →
    let still : FanCh → FanCh := fun c => { c with duty := 0 }
    (s.bit F.FAN_CH_CFG_EN n = false → s.fanRefusal n = 0 →
      Completes (.fanEnable n) s fun t =>
        SetsThen (s.fanMod n fun _ => {}) t [(F.FAN_CH_STAT_REASON, n, 0, 0), (F.FAN_CH_CFG_EN, n, 0, 1),
          (F.FAN_CH_STAT_STATE, n, 0, 1), (F.FAN_CH_MEAS_RPM, n, 0, 0), (F.FAN_CH_STAT_ARMED, n, 0, s.drives.toNat),
          (F.FAN_CH_STAT_FLT_REASON, n, 0, 0), (F.FAN_CH_STAT_VERDICT, n, 0, 0)] (·.fanRegTarget n)) ∧
    (s.bit F.FAN_CH_CFG_EN n = false → s.fanRefusal n ≠ 0 →
      Completes (.fanEnable n) s fun t => Sets s t [(F.FAN_CH_STAT_REASON, n, 0, s.fanRefusal n)]) ∧
    (s.fanStarting n = false →
      Completes (.fanDisable n) s fun t => Sets (s.fanMod n still) t [(F.FAN_CH_CFG_EN, n, 0, 0),
        (F.FAN_CH_STAT_STATE, n, 0, 0), (F.FAN_CH_MEAS_RPM, n, 0, 0), (F.FAN_CH_STAT_ARMED, n, 0, 0),
        (F.FAN_CH_MEAS_DUTY, n, 0, 0)]) ∧
    (s.takesCommands = true → s.fanStarting n = true →
      Completes (.fanAbort n) s fun t => ∃ v, SetsRaise (s.fanMod n still) v [(F.FAN_CH_STAT_OUTCOME, n, 0, 2),
          (F.FAN_CH_STAT_STATE, n, 0, 1), (F.FAN_CH_MEAS_RPM, n, 0, 0), (F.FAN_CH_STAT_ARMED, n, 0, 0)] 0x705 n
          [n, s.rd F.FAN_CH_STAT_STATE n] ∧
        t = v.fanMod n fun c => { c with abortAt := some s.drvNow, byAbort := true }) ∧
    (s.takesCommands = true → s.fanIs n .run = true → s.fanEndedNow n = false →
      Completes (.fanAbort n) s fun t => Sets s t [(F.FAN_CH_STAT_ABORT_LATE, n, 0, 1)]) ∧
    (s.takesCommands = true → s.fanIs n .locked = true →
      Completes (.fanRestart n) s fun t =>
        Sets (s.fanMod n fun c => { c with
            attempts := 1 + s.rd F.FAN_CH_START_RETRIES n, duty := 8000, edges := 0, intervals := [] }) t
          [(F.FAN_CH_STAT_ARMED, n, 0, 0), (F.FAN_CH_STAT_VERDICT, n, 0, 0),
            (F.FAN_CH_STAT_OUTCOME, n, 0, 0), (F.FAN_CH_STAT_ATTEMPT, n, 0, 1), (F.FAN_CH_STAT_TACH_SEEN, n, 0, 0),
            (F.FAN_CH_STAT_STATE, n, 0, 2)]) ∧
    (s.takesCommands = true → s.fanIs n .fault = true → s.gateTested (gateUnit 2 n) = false →
      Completes (.fanClear n) s fun t => Sets (s.fanMod n still) t [(F.FAN_CH_STAT_STATE, n, 0, 1),
        (F.FAN_CH_MEAS_RPM, n, 0, 0), (F.FAN_CH_STAT_ARMED, n, 0, 0), (F.FAN_CH_STAT_VERDICT, n, 0, 0)])

/-- What happens in a fan channel (R308, R311, R315 to R319, R321): tachometer edges and the speed, the attempts of a start,
its commit point, the speed loop between DMIN and DMAX, loss of the tachometer with the current between its limits, a stall and
an open circuit, PWM periods, and the faults of the channel. What the specification leaves open in it is the model's choice:
log entries 88, 98, 99, 128, 180, 181 and 218. -/
def Obligations.FanEvents : Prop :=
  ∀ (s : State) (n : Fin 16), s.serves [.fan] →
    let still : FanCh → FanCh := fun c => { c with duty := 0 }
    let i := s.rdS F.FAN_CH_IMEAN n
    let aborted := s.fanAbortedNow n
    let undone : List (Fld × Nat × Nat × Nat) := if aborted then [(F.FAN_CH_STAT_OUTCOME, n.val, 0, 0)] else []
    let ended : State := (if aborted then s.unraise 0x705 n else s).fanMod n fun c =>
      if !aborted && s.fanStarting n then { c with duty := 0, abortAt := some s.drvNow, byAbort := false }
      else { c with duty := 0 }
    let more := s.rd F.FAN_CH_STAT_ATTEMPT n < (s.fanCh n).attempts
    let lock : Instr → Prop := fun cmd =>
      Completes cmd s fun t => SetsRaise (s.fanMod n still) t [(F.FAN_CH_STAT_STATE, n, 0, 6),
        (F.FAN_CH_MEAS_RPM, n, 0, 0), (F.FAN_CH_STAT_OUTCOME, n, 0, 3)] 0x700 n [n, s.rd F.FAN_CH_STAT_ATTEMPT n]
    (∀ time : Nat, s.fanIs n .kick = false → s.fanIs n .run = false → s.fanIs n .tachLost = false →
      let ppr := s.rd F.FAN_CH_CFG_PPR n + 1
      let is := (time :: (s.fanCh n).intervals).take ppr
      Completes (.tachEdge n time) s fun t =>
        Sets (s.fanMod n fun c => { c with intervals := is, edges := min 2 (c.edges + 1) }) t
          [(F.FAN_CH_TREV, n, 0, min 0xFFFFFF (if is.length < ppr then time * ppr else is.sum))]) ∧
    (∀ time : Nat, s.fanIs n .run = true ∨ s.fanIs n .tachLost = true ∧ (s.fanCh n).edges = 1 →
      let ppr := s.rd F.FAN_CH_CFG_PPR n + 1
      let is := (time :: (s.fanCh n).intervals).take ppr
      let rev := if is.length < ppr then time * ppr else is.sum
      0 < rev → 600000000 / rev < 65536 →
      Completes (.tachEdge n time) s fun t =>
        Sets (s.fanMod n fun c => { c with intervals := is, edges := min 2 (c.edges + 1) }) t
          [(F.FAN_CH_TREV, n, 0, min 0xFFFFFF rev), (F.FAN_CH_STAT_STATE, n, 0, 4), (F.FAN_CH_MEAS_RPM, n, 0, 600000000 / rev)]) ∧
    (s.fanIs n .kick = true → s.bit F.FAN_CH_STAT_TACH_SEEN n = false → more →
      Completes (.startTimeout n) s fun t =>
        Sets (s.fanMod n still) t [(F.FAN_CH_STAT_STATE, n, 0, 3), (F.FAN_CH_MEAS_RPM, n, 0, 0)]) ∧
    (s.fanIs n .kick = true → s.bit F.FAN_CH_STAT_TACH_SEEN n = false → ¬ more → lock (.startTimeout n)) ∧
    (s.fanIs n .retry = true → more → s.rd F.FAN_CH_STAT_ATTEMPT n < 15 →
      Completes (.retryGapEnd n) s fun t =>
        Sets (s.fanMod n fun c => { c with duty := 8000, edges := 0, intervals := [] }) t
          [(F.FAN_CH_STAT_ATTEMPT, n, 0, s.rd F.FAN_CH_STAT_ATTEMPT n + 1), (F.FAN_CH_STAT_TACH_SEEN, n, 0, 0),
            (F.FAN_CH_STAT_STATE, n, 0, 2)]) ∧
    (s.fanIs n .retry = true → ¬ more → lock (.retryGapEnd n)) ∧
    (s.fanIs n .kick = true → s.bit F.FAN_CH_STAT_TACH_SEEN n = true →
      Completes (.kickEnd n) s fun t =>
        Sets (s.fanMod n fun c => { c with
            acc := (s.rd F.FAN_CH_LOOP_DSTART n * 256 : Nat), duty := s.rd F.FAN_CH_LOOP_DSTART n }) t
          [(F.FAN_CH_STAT_STATE, n, 0, 4), (F.FAN_CH_STAT_OUTCOME, n, 0, 1)]) ∧
    (s.fanIs n .run = true → s.rd F.FAN_CH_DUTY_DMIN n ≤ s.rd F.FAN_CH_DUTY_DMAX n →
      Completes (.fanLoopStep n) s fun t =>
        t = s.fanMod n (fun c => { c with acc := (t.fanCh n).acc, duty := (t.fanCh n).duty }) ∧
        s.rd F.FAN_CH_DUTY_DMIN n ≤ (t.fanCh n).duty ∧ (t.fanCh n).duty ≤ s.rd F.FAN_CH_DUTY_DMAX n) ∧
    (s.fanIs n .run = true → s.rd F.FAN_CH_CFG_DRIVE n ≠ 0 → s.rd F.FAN_CH_ISENSE_I_OPEN n < i →
      i < s.rd F.FAN_CH_ISENSE_I_STALL n →
      Completes (.tachLoss n) s fun t => ∃ v, SetsRaise s v [(F.FAN_CH_STAT_VERDICT, n, 0, 1)] 0x701 n
          [n, s.rd F.FAN_CH_TREV n, wInt i, (s.fanCh n).duty] ∧
        Sets (v.fanMod n fun c => { c with edges := 0 }) t
          [(F.FAN_CH_STAT_STATE, n, 0, 5), (F.FAN_CH_MEAS_RPM, n, 0, 0)]) ∧
    (s.fanIs n .run = true → s.rd F.FAN_CH_CFG_DRIVE n = 0 →
      Completes (.tachLoss n) s fun t =>
        ∃ v, SetsRaise s v [(F.FAN_CH_STAT_VERDICT, n, 0, 2)] 0x702 n [n, wInt i] ∧
        Sets (v.fanMod n fun c => { c with attempts := s.rd F.FAN_CH_START_RETRIES n, duty := 0 }) t
          [(F.FAN_CH_STAT_OUTCOME, n, 0, 0), (F.FAN_CH_STAT_ATTEMPT, n, 0, 0), (F.FAN_CH_STAT_STATE, n, 0, 3),
            (F.FAN_CH_MEAS_RPM, n, 0, 0)]) ∧
    (s.drives = true → s.fanIs n .tachLost = true → i ≤ s.rd F.FAN_CH_ISENSE_I_OPEN n →
      Completes (.tachLostTest n) s fun t => SetsRaise ended t ([(F.FAN_CH_STAT_VERDICT, n.val, 0, 3),
        (F.FAN_CH_STAT_STATE, n.val, 0, 7), (F.FAN_CH_MEAS_RPM, n.val, 0, 0), (F.FAN_CH_STAT_FLT_REASON, n.val, 0, 3)] ++ undone)
        0x703 n [n, wInt i]) ∧
    (∀ (raw : List Int) (supply : BitVec 16), (s.fanCh n).duty ≤ 8000 → s.rd F.FAN_CH_CFG_DRIVE n = 0 →
      Completes (.fanPwmPeriod n raw supply) s fun t => Sets s t [(F.FAN_CH_MEAS_DUTY, n, 0, (s.fanCh n).duty)]) ∧
    (∀ (x : Int) (supply : BitVec 16), s.fanIs n .off = false → s.rd F.FAN_CH_CFG_DRIVE n ≠ 0 →
      Completes (.fanPwmPeriod n [x] supply) s fun t => (t.fanCh n).last = senseCode x) ∧
    (s.drives = true → s.fanIs n .off = false → s.fanIs n .fault = false →
      let rows := fun reason : Nat => [(F.FAN_CH_STAT_STATE, n.val, 0, 7), (F.FAN_CH_MEAS_RPM, n.val, 0, 0),
        (F.FAN_CH_STAT_FLT_REASON, n.val, 0, reason)] ++ undone
      (s.rd F.FAN_CH_CFG_DRIVE n ≠ 0 → Completes (.fanChannelFault n 1) s fun t =>
        SetsRaise ended t (rows 1) 0x704 n [n, 1, wInt (s.fanCh n).last]) ∧
      (s.rd F.FAN_CH_CFG_DRIVE n = 0 → Completes (.fanChannelFault n 1) s fun t => t = s) ∧
      (Completes (.fanChannelFault n 2) s fun t => SetsThen ended t (rows 2)
        fun v => (v.raise 0x704 n [n, 2, wInt (s.fanCh n).last]).unitError 3 (128 + n)))

/-! ### Motor channels (R285 to R304) -/

/-- The commands of a motor channel (R294, R295, R297 to R299, R301, R303): enable accepted or refused, disable, MOVE and HOME
with the brake or the alignment first, a MOVE before HOMED refused, STOP, ABORT and CLEAR, which a gate under test ignores
(R453). What the specification leaves open in it is the model's choice: log entries 88, 92 to 97, 180 and 184. -/
def Obligations.MotorCommands : Prop :=
  ∀ (s : State) (n : Fin 12) (home : Bool), s.reaches [.mot] →
    let cmd : Instr := if home then .homeMot n else .moveMot n
    let next : Nat → State → State := fun k u => u.motMod n fun c => { c with next := some k }
    let k : Nat := if s.bit F.MOT_CH_BRAKE_BRK_EN n then 2
      else if s.rd F.MOT_CH_CFG_KIND n = 0 ∧ s.rd F.MOT_CH_CFG_POSSRC n = 1 ∧ s.bit F.MOT_CH_STAT_ALIGNED n = false then 3 else 4
    let read : BitVec 3 × State := match (s.motCh n).lines with
      | some x => (x, s)
      | none => (BitVec.ofNat 3 (s.free 35).1, (s.free 35).2)
    let outAt : Nat → State → State := fun r u => u.motMod n fun c => { c with outAt := some (s.drvNow, r), outSeen := false }
    let ended := if s.motOpen n then s.wr F.MOT_CH_STAT_OUTCOME 2 n else s
    (s.bit F.MOT_CH_CFG_EN n = false → s.motRefusal n = 0 →
      Completes (.motEnable n) s fun t =>
        Sets (read.2.motMod n fun c =>
            { badTq := c.badTq, badRun := c.badRun, lines := some read.1, sector := hallSector read.1
              sectorAt := s.deckNow, posAt := s.deckNow }) t
          [(F.MOT_CH_STAT_REASON, n, 0, 0), (F.MOT_CH_CFG_EN, n, 0, 1), (F.MOT_CH_STAT_STATE, n, 0, 1),
            (F.MOT_CH_STAT_ARMED, n, 0, s.drives.toNat), (F.MOT_CH_POS, n, 0, 0), (F.MOT_CH_STAT_HOMED, n, 0, 0),
            (F.MOT_CH_STAT_ALIGNED, n, 0, 0), (F.MOT_CH_STAT_FLT_REASON, n, 0, 0)]) ∧
    (s.bit F.MOT_CH_CFG_EN n = false → s.motRefusal n ≠ 0 →
      Completes (.motEnable n) s fun t => Sets s t [(F.MOT_CH_STAT_REASON, n, 0, s.motRefusal n)]) ∧
    (Completes (.motDisable n) s fun t =>
      SetsThen ((if s.motMoving n then ended.motBrake n false else ended).motMod n fun c =>
          { c.loopReset false with next := none }) t
        [(F.MOT_CH_CFG_EN, n, 0, 0), (F.MOT_CH_STAT_STATE, n, 0, 0), (F.MOT_CH_STAT_ARMED, n, 0, 0),
          (F.MOT_CH_STAT_ALIGNED, n, 0, 0)] fun v => v.sortEvents s.evr.queue.length) ∧
    (s.motReg n = true → s.motIs n .idle = true → (s.motCh n).next = none →
      home = true ∨ s.bit F.MOT_CH_STAT_HOMED n = true →
      Completes cmd s fun t =>
        Sets (next k (s.motMod n fun c => { c with homing := home, energy := 0, stopReq := false, outAt := none })) t
          [(F.MOT_CH_STAT_ARMED, n, 0, 0), (F.MOT_CH_STAT_OUTCOME, n, 0, 0)]) ∧
    (s.motReg n = true → s.motIs n .idle = true → (s.motCh n).next = none →
      home = false → s.bit F.MOT_CH_STAT_HOMED n = false →
      Completes cmd s fun t =>
        SetsRaise s t [(F.MOT_CH_STAT_ARMED, n, 0, 0), (F.MOT_CH_STAT_NOHOME, n, 0, 1)] 0x605 n [n]) ∧
    (s.motReg n = true → s.motOpen n = true → (s.motCh n).homing = false →
      Completes (.motStop n) s fun t => t = s.motMod n fun c => { c with stopReq := true }) ∧
    (s.motReg n = true → s.motOpen n = true → (s.motCh n).homing = true →
      Completes (.motStop n) s fun t =>
        Sets (next 6 (outAt 2 s)) t [(F.MOT_CH_STAT_OUTCOME, n, 0, 2), (F.MOT_CH_STAT_ARMED, n, 0, 0)]) ∧
    (s.takesCommands = true → s.motOpen n = true →
      Completes (.motAbort n) s fun t =>
        SetsThen (outAt 1 s) t [(F.MOT_CH_STAT_OUTCOME, n, 0, 2), (F.MOT_CH_STAT_ARMED, n, 0, 0)]
          fun v => next 6 (v.raise 0x604 n [n, s.rd F.MOT_CH_STAT_STATE n])) ∧
    (s.takesCommands = true → s.motOpen n = false → s.motMoving n = true ∨ s.rd F.MOT_CH_STAT_OUTCOME n ≠ 0 →
      Completes (.motAbort n) s fun t => Sets s t [(F.MOT_CH_STAT_ABORT_LATE, n, 0, 1)]) ∧
    (s.takesCommands = true → s.motIs n .fault = true → (s.motCh n).still = true → s.gateTested (gateUnit 1 n) = false →
      Completes (.motClear n) s fun t => Sets { s with mot := t.mot } t [(F.MOT_CH_STAT_STATE, n, 0, 1),
        (F.MOT_CH_ENERGY, n, 0, unsigned 32 (divFreeZ (s.motCh n).energy (2 ^ 64)))]) ∧
    (s.takesCommands = true → s.motIs n .fault = true → (s.motCh n).still = false ∨ s.gateTested (gateUnit 1 n) = true →
      Completes (.motClear n) s fun t => t = s)

/-- What happens in a motor channel (R289, R291 to R294, R297, R298, R301 to R303): a period start in IDLE, the one that ends a
move at a stop request, and those that end STOPPING and REVERSE at standstill; position edges, and those that skip a position;
the end of alignment, engagement and homing; the brake that fails and every fault, after which the brake goes OFF, and which
undo an ABORT of their cycle. The events of one command are those of one cycle (R429). What the specification leaves open in it
is the model's choice: log entries 88, 93 to 97, 180, 181, 185 and 218. -/
def Obligations.MotorEvents : Prop :=
  ∀ (s : State) (n : Fin 12), s.serves [.mot] →
    let closes : State → State → Nat → List Nat → Nat → List (Fld × Nat × Nat × Nat) → (State → State) → Prop :=
      fun u t code words rank rows f =>
        let v := u.raise code n words
        let beats := s.motTakes n rank && !s.motOpen n && (s.motCh n).outAt == some (s.drvNow, 1)
        SetsThen { (if beats then v.unraise 0x604 n else v) with mot := t.mot } t
          ((if s.motTakes n rank then [(F.MOT_CH_STAT_OUTCOME, n.val, 0, 3)] else []) ++
            (F.MOT_CH_STAT_ARMED, n.val, 0, 0) :: rows) fun v => (f (v.motBrake n false)).sortEvents s.evr.queue.length
    let brake := s.rd F.MOT_CH_BRAKE_BRK_CH n
    let sample : Nat → Nat := fun k => wInt ((s.motCh n).samples.getD k 0)
    let faultsThen : Nat → State → Instr → (State → State) → Prop := fun reason u cmd f =>
      s.drives = true → Completes cmd s fun t => closes u t 0x601
        [n, reason, s.rd F.MOT_CH_POS n, sample 0, sample 1, sample 2] 7
        ([(F.MOT_CH_STAT_STATE, n.val, 0, 9), (F.MOT_CH_STAT_FLT_REASON, n.val, 0, reason)] ++
          if reason = 4 then [(F.MOT_CH_STAT_HOMED, n.val, 0, 0), (F.MOT_CH_STAT_ALIGNED, n.val, 0, 0)] else []) f
    let faults : Nat → State → Instr → Prop := fun reason u cmd => faultsThen reason u cmd id
    let idles : Instr → Prop := fun cmd =>
      Completes cmd s fun t => Sets { s with mot := t.mot } t [(F.MOT_CH_STAT_STATE, n, 0, 1),
        (F.MOT_CH_ENERGY, n, 0, unsigned 32 (divFreeZ (s.motCh n).energy (2 ^ 64)))]
    let counts : Bool → Instr → Prop := fun up cmd =>
      Completes cmd s fun t =>
        Sets { s with mot := t.mot } t [(F.MOT_CH_POS, n, 0, unsigned 32 (s.motPos n + if up then 1 else -1))] ∧
        (t.motCh n).forward = up ∧ (t.motCh n).still = false
    let lined : BitVec 3 → State := fun x => s.motMod n fun c => { c with lines := some x }
    let was := (s.motCh n).lines.getD 0
    let calm : BitVec 16 → Prop := fun v => 10500 ≤ v.toNat ∧ v.toNat ≤ 62000 ∧ (s.motCh n).ocRun = 0 ∧
      (s.motCh n).next = none
    (∀ (ia ib ic : Int) (v : BitVec 16), calm v → s.motIs n .idle = true → (s.motCh n).driven = false →
      Completes (.motPeriodStart n ia ib ic v) s fun t =>
        Sets { s with mot := t.mot } t [(F.MOT_VMOT, 0, 0, v.toNat), (F.MOT_CH_STAT_THROTTLED, n, 0, s.throttling.toNat)] ∧
        (t.motCh n).samples = [senseCode ia, senseCode ib, senseCode ic]) ∧
    (∀ (ia ib ic : Int) (v : BitVec 16), calm v → s.motIs n .run = true → (s.motCh n).stopReq = true →
      s.rd F.MOT_CH_STAT_OUTCOME n = 0 → s.rd F.MOT_CH_CFG_POSSRC n ≠ 2 → (s.motCh n).still = false →
      Completes (.motPeriodStart n ia ib ic v) s fun t =>
        t.rd F.MOT_CH_STAT_STATE n = 6 ∧ t.rd F.MOT_CH_STAT_OUTCOME n = 1) ∧
    (∀ (ia ib ic : Int) (v : BitVec 16), calm v → s.rd F.MOT_CH_CFG_POSSRC n ≠ 2 → (s.motCh n).still = true →
      (s.motIs n .stopping = true → s.bit F.MOT_CH_BRAKE_BRK_EN n = false →
        Completes (.motPeriodStart n ia ib ic v) s fun t => t.rd F.MOT_CH_STAT_STATE n = 1) ∧
      (s.motIs n .reverse = true →
        (s.rdS F.MOT_CH_OBS_POS n - s.motPos n) * (if (s.motCh n).entryForward then 1 else -1) < s.rd F.MOT_CH_REV_REV_DIST n →
        Completes (.motPeriodStart n ia ib ic v) s fun t => t.rd F.MOT_CH_STAT_STATE n = 6)) ∧
    (∀ (h : BitVec 3) x y, s.motIs n .off = false → s.rd F.MOT_CH_CFG_POSSRC n = 0 → hallSector h = some x →
      (s.motCh n).sector = some y →
      (x = (y + 1) % 6 → y < 6 → counts true (.positionEdge n (.hall h))) ∧
      (y = (x + 1) % 6 → counts false (.positionEdge n (.hall h))) ∧
      (x ≠ y → x ≠ (y + 1) % 6 → y ≠ (x + 1) % 6 →
        faults 4 ((lined h).motMod n fun c => { c with sector := some x }) (.positionEdge n (.hall h)))) ∧
    (∀ a b : Bool, s.motIs n .off = false → s.rd F.MOT_CH_CFG_POSSRC n = 1 →
      let d := (encPhase a b + 4 - encPhase (was.getLsbD 2) (was.getLsbD 1)) % 4
      (d = 1 → counts true (.positionEdge n (.enc a b))) ∧ (d = 3 → counts false (.positionEdge n (.enc a b))) ∧
      (d = 2 → faults 4 (lined (BitVec.ofNat 3 (4 * a.toNat + 2 * b.toNat + (was.getLsbD 0).toNat)))
        (.positionEdge n (.enc a b)))) ∧
    (s.motIs n .off = false → s.rd F.MOT_CH_CFG_POSSRC n = 0 → hallSector was = none → faults 4 s (.hallInvalidPersist n)) ∧
    (s.motIs n .off = false →
      Completes (.standstill n) s fun t => t = s.motMod n fun c => { c with still := true }) ∧
    (s.motIs n .align = true →
      Completes (.alignEnd n) s fun t =>
        Sets (s.motMod n fun c => { c with alignPos := s.motPos n, next := some (c.next.getD 4) }) t
          [(F.MOT_CH_STAT_ALIGNED, n, 0, 1)]) ∧
    (s.motIs n .run = true → s.rd F.MOT_CH_CFG_POSSRC n = 2 → s.bit F.MOT_CH_STAT_SL_LOCK n = false →
      faults 4 s (.slLockTimeout n)) ∧
    (s.motIs n .brakeWait = true → (s.solCh brake).moved = false →
      Completes (.brakeTimeout n) s fun t =>
        closes s t 0x602 [n, brake, s.rd F.SOL_CH_STAT_OUTCOME brake, s.rd F.SOL_CH_STAT_MOTION brake] 6
          [(F.MOT_CH_STAT_STATE, n, 0, 7), (F.MOT_CH_STAT_FLT_REASON, n, 0, 5)] id) ∧
    (s.motIs n .engage = true → s.solIs (s.rd F.MOT_CH_BRAKE_BRK_CH n) .release = false → idles (.engageEnd n)) ∧
    ((s.motCh n).homing = true → s.motIs n .run = true → s.motOpen n = true → s.homeAllowed n = true →
      Completes (.homeFound n) s fun t =>
        Sets (((s.raise 0x603 n [n, s.rd F.MOT_CH_POS n, s.rd F.MOT_CH_HOME_HOME_SRC n]).motMod n
            fun c => { c with outAt := some (s.drvNow, 8), outSeen := false }).motMod n fun c => { c with next := some 6 }) t
          [(F.MOT_CH_POS, n, 0, s.rd F.MOT_CH_HOME_POS n), (F.MOT_CH_STAT_HOMED, n, 0, 1), (F.MOT_CH_STAT_OUTCOME, n, 0, 1),
            (F.MOT_CH_STAT_ARMED, n, 0, 0)]) ∧
    (∀ reason : BitVec 4, reason = 1 ∨ reason = 3 → s.motIs n .off = false → s.motIs n .fault = false →
      faults reason.toNat s (.motChannelFault n reason)) ∧
    (s.motIs n .off = false → s.motIs n .fault = false →
      faultsThen 2 s (.motChannelFault n 2) fun v => v.unitError 3 (64 + n))

/-! ### Metering (R327, R331 to R355) -/

/-- Latching and the commands of the metering block (R341, R342, R345, R346, R353, R354): LATCH_NOW latches at the next sample,
the latch completes into the bank that is neither locked nor newest, OPEN locks the newest bank and CLOSE releases it, LOAD sets
a quantity while RUN is 0, RUN starts the save marks, a save mark is taken only with the locked bank's number, and CONSUME marks
the residue block. What the specification leaves open in it is the model's choice: log entries 101 to 104. -/
def Obligations.MeterLatches : Prop :=
  ∀ (s : State) (codes : List Int) (v : Word), s.reaches [.meter] →
    let b := s.latchBank
    let seq := (s.rd F.METER_LAT_SEQ + 1) % 2 ^ 32
    let q := s.rd F.METER_LOAD_Q
    let loaded := (s.rd F.METER_LOAD_LO + 2 ^ 32 * s.rd F.METER_LOAD_HI, s.rd F.METER_LOAD_RES * 2 ^ 56)
    let locked := s.rd F.METER_LAT_STAT_LOCK_BANK
    let sel := s.pfSel
    let saved := (sel.filter (· ≠ 0xFF)).foldl (fun m q => Sparse.put m q
      (s.rd F.METER_BANK_Q_PC_LO locked q + 2 ^ 32 * s.rd F.METER_BANK_Q_PC_HI locked q)) ([] : Sparse Nat)
    Completes .latchNow s (fun t => t = { s with meter := { s.meter with latchNow := true, latchDue := none } }) ∧
    (s.meter.latchNow = true →
      Completes (.meterSampleReady codes) s fun t => ∃ c, t.meter.capture = some c ∧ c.cmd = true ∧
        c.samples = s.meter.latSamples + 1 ∧ t.meter.latSamples = 0 ∧ t.meter.latchNow = false ∧ t.meter.latchDue = none) ∧
    (∀ c, s.meter.capture = some c →
      Completes .latchDone s fun t => t.meter.capture = none ∧ t.rd F.METER_LAT_SEQ = seq ∧ t.rd F.METER_LAT_STAT_NEWEST = b ∧
        t.rd F.METER_BANK_SEQ b = seq ∧ t.rd F.METER_BANK_FRAME_LO b = c.frame % 2 ^ 32 ∧
        t.rd F.METER_BANK_CYCLES b = c.cycles % 2 ^ 32 ∧ t.rd F.METER_BANK_SAMPLES b = c.samples % 2 ^ 32) ∧
    (s.bit F.METER_LAT_STAT_LOCKED = true → b = 1 - locked) ∧
    (s.bit F.METER_LAT_STAT_LOCKED = false → b = 1 - s.rd F.METER_LAT_STAT_NEWEST) ∧
    (s.bit F.METER_LAT_STAT_LOCKED = false → s.rd F.METER_LAT_STAT_NEWEST < 2 →
      Completes .latOpen s fun t => Sets s t [(F.METER_LAT_STAT_LOCKED, 0, 0, 1),
        (F.METER_LAT_STAT_LOCK_BANK, 0, 0, s.rd F.METER_LAT_STAT_NEWEST)]) ∧
    Completes .latClose s (fun t => Sets s t [(F.METER_LAT_STAT_LOCKED, 0, 0, 0)]) ∧
    (s.bit F.METER_CTL_RUN = false → isEnergy q = true →
      Completes .meterLoad s fun t => t = { s with meter := { s.meter with acc := Sparse.set s.meter.acc (0, 0) q loaded } }) ∧
    (s.bit F.METER_CTL_RUN = true → Completes .meterLoad s fun t => t = s) ∧
    (s.bit F.METER_CTL_RUN = false →
      Completes .meterRun s fun t => t.rd F.METER_CTL_RUN = 1 ∧ t.meter = { s.meter with
        saved := s.meter.acc.map (fun kv => (kv.1, kv.2.1)), nosave := true }) ∧
    (s.bit F.METER_LAT_STAT_LOCKED = true → s.rd F.METER_BANK_SEQ locked = v.toNat →
      Completes (.saveMark v) s fun t =>
        Sets { s with meter := { s.meter with selInForce := sel, nosave := false, mark := v.toNat, saved := saved } } t
          [(F.METER_SAVE_MARK, 0, 0, v.toNat)]) ∧
    (s.bit F.METER_LAT_STAT_LOCKED = false →
      Completes (.saveMark v) s fun t => Sets s t [(F.METER_PF_STAT_SAVE_REFUSED, 0, 0, 1)]) ∧
    (s.bit F.METER_PF_CTL_BLK_EN = true →
      Completes .consume s fun t => Sets s t [(F.KEEP_RAM, 0, 0, t.rd F.KEEP_RAM)] ∧ t.residue.getD 2 0 = 0x5A)

/-- What the mains and power failure do (R328, R331, R332, R334, R335, R343, R345, R350 to R352): a rising mark of the reference
line counts a cycle for the latch and starts the delay of the switching slots that wait for it, and a mark of a line that is not
active, or while TRACKING is 0, does nothing; a timed slot switches, half cycles alternate, the frequency is reported with a
source fault where its line clipped, pulses end with a gap before the next, and power-fail warning, which has two causes, takes
a snapshot that becomes the residue block in keystone RAM and clears when no cause is left; the VIN bit of SYS_PWR_STAT.GOOD
follows it (R460). What the specification leaves open in it is the model's choice: log entries 101 to 105. -/
def Obligations.MeterEvents : Prop :=
  ∀ (s : State), s.serves [.meter] →
    (∀ (line : Fin 3), s.bit F.METER_STAT_TRACKING = true → s.phases.contains line.val = true →
      s.rd F.METER_STAT_FREF_USED = line →
      Completes (.zeroCrossMark line true) s fun t => t.meter.latCycles = s.meter.latCycles + 1 ∧
        ∀ k < 4, s.bit F.METER_ZSW_CFG_EN k = true → s.bit F.METER_ZSW_STAT_PENDING k = true →
          s.rd F.METER_ZSW_CFG_LINE k = line → (s.rd F.METER_ZSW_CFG_EDGE k).testBit 0 = true → k ∈ t.meter.zswTimed) ∧
    (∀ (line : Fin 3) rising, s.bit F.METER_STAT_TRACKING = false ∨ s.phases.contains line.val = false →
      Completes (.zeroCrossMark line rising) s fun t => t = s) ∧
    (∀ (k : Fin 4) b, Sparse.find? s.meter.zswTarget k = some b → s.meter.zswTimed.contains k.val = true →
      s.drives = true →
      Completes (.zswSwitch k) s fun t =>
        Sets { s with meter := { s.meter with
            zswTarget := Sparse.del s.meter.zswTarget k, zswTimed := s.meter.zswTimed.filter (· ≠ k.val) } } t
          [(F.METER_ZSW_STAT_LEVEL, k, 0, b.toNat), (F.METER_ZSW_STAT_PENDING, k, 0, 0)]) ∧
    (s.bit F.METER_STAT_TRACKING = true →
      Completes .halfCycleEnd s fun t => t.meter.halfSamples = 0 ∧ t.meter.evenHalf = !s.meter.evenHalf) ∧
    (s.bit F.METER_STAT_TRACKING = false → Completes .halfCycleEnd s fun t => t = s) ∧
    (s.meter.freqTime ≠ 0 →
      let v := divFree (s.meter.freqCycles * 128000000000) s.meter.freqTime
      Completes .freqInterval s fun t =>
        SetsThen { s with meter := { s.meter with freqCycles := 0, freqTime := 0, freqClip := 0 } } t
          [(F.METER_MEAS, 0x18, 0, unsigned 32 v)]
          fun u => u.feed 3 0xD8 v (!s.bit F.METER_STAT_TRACKING || s.meter.freqClip &&& s.channelsOf 0xD8 != 0)
            u.sampleStamp) ∧
    (∀ k : Fin 4, s.meter.pulsing.contains k.val = true →
      Completes (.epulseTimer k) s fun t => t = { s with meter := { s.meter with
        pulsing := s.meter.pulsing.filter (· ≠ k.val), gaps := k.val :: s.meter.gaps } }) ∧
    (∀ k : Fin 4, s.meter.pulsing.contains k.val = false → s.bit F.METER_EP_CFG_EN k = true → s.driving = true →
      0 < s.rd F.METER_EP_STAT_BACKLOG k → s.rd F.METER_EP_STAT_BACKLOG k < 65536 →
      Completes (.epulseTimer k) s fun t =>
        Sets { s with meter := { s.meter with
            pulsing := k.val :: s.meter.pulsing, gaps := s.meter.gaps.filter (· ≠ k.val) } } t
          [(F.METER_EP_STAT_BACKLOG, k, 0, s.rd F.METER_EP_STAT_BACKLOG k - 1)]) ∧
    (∀ cause : BitVec 2, cause = 0 ∨ cause = 1 ∧ s.mainsLow = true → s.bit F.METER_PF_STAT_PFW = false →
      s.bit F.METER_PF_CTL_BLK_EN = true →
      Completes (.pfwRaise cause) s fun t =>
        ∃ v, SetsRaise s v [(F.METER_PF_STAT_PFW, 0, 0, 1), (F.METER_STAT_PFW, 0, 0, 1), (F.METER_PF_STAT_BLK_DONE, 0, 0, 0),
            (F.SYS_PWR_STAT_GOOD, 0, 0, if cause = 0 then 0x1E else s.rd F.SYS_PWR_STAT_GOOD)] 0x805 0xFF
            [cause.toNat, s.rd F.HEALTH_SUP 0] ∧
          t = { v with meter := { v.meter with
            pfwSince := s.nowUs / 1000
            snap := some (cause.toNat, s.frame, s.meter.selInForce.map fun q => if q = 0xFF then (0, 0) else s.accOf q) } }) ∧
    (∀ cause : BitVec 2, cause = 1 ∧ s.mainsLow = false ∨ cause = 2 ∨ cause = 3 →
      Completes (.pfwRaise cause) s fun t => t = s) ∧
    (∀ cause frame es, s.meter.snap = some (cause, frame, es) → s.bit F.METER_PF_CTL_BLK_EN = true →
      Completes .residueWritten s fun t => t.meter.snap = none ∧ t.residue = s.residueBytes cause frame es ∧
        t.rd F.METER_PF_STAT_BLK_DONE = 1 ∧ t.rd F.METER_PF_STAT_CAUSE = cause % 4) ∧
    (s.bit F.METER_PF_STAT_PFW = true → s.mainsLow = false → s.bit F.METER_PF_CTL_BLK_EN = false →
      Completes .pfwClear s fun t => SetsRaise s t [(F.METER_PF_STAT_PFW, 0, 0, 0), (F.METER_STAT_PFW, 0, 0, 0),
        (F.SYS_PWR_STAT_GOOD, 0, 0, 0x1F)] 0x806 0xFF
        [s.nowUs / 1000 - s.meter.pfwSince]) ∧
    (s.bit F.METER_PF_STAT_PFW = true → s.mainsLow = true → Completes .pfwClear s fun t => t = s) ∧
    (s.bit F.METER_PF_STAT_PFW = true → s.mainsLow = false → s.bit F.METER_PF_CTL_BLK_EN = true →
      Completes .pfwClear s fun t => t.rd F.METER_PF_STAT_PFW = 0 ∧ t.rd F.SYS_PWR_STAT_GOOD = 0x1F ∧ t.residue.getD 2 0 = 0)

/-! ### Twin operation (R362 to R380) -/

/-- Roles and the outputs (R362, R364 to R366, R372, R373, R376): the handshake decides by the partner's role, then by the
preference, then by the lower ID; without a handshake the device is ACTIVE alone, or, while OWN_IN is high, STANDBY, and
LINKFAULT without a link; contention drops OWN_OUT and is looked at again; the standby judges the heartbeat and OWN_IN, and
takes over, but judges nothing before its first tick after a thaw, and stays STANDBY while its lanes train again after one
(R509); the active releases; DRIVING follows the two lines. What the specification leaves open in it is the model's choice: log
entries 106 to 111, 203 and 219. -/
def Obligations.TwinRoles : Prop :=
  ∀ (s : State) (id : BitVec 16) (pref : Bool) (role : BitVec 3) (crcs : List (Nat × Nat)) (ownIn : Bool),
    s.serves [.deck, .link] → s.paired = true →
    let own := s.bit F.TWIN_STAT_ROLE_PREF
    let wins := role ≠ 2 ∧ (own = true ∧ pref = false ∨ own = pref ∧ s.devId < id.toNat)
    let driven := s.bit F.TWIN_STAT_OWN_OUT && !ownIn
    let waiting := s.roleIs .standby = true ∧ s.running = true ∧ s.reached (s.spanCyc - 800) ∧ s.dbg.thawed = false
    (s.roleIs .arbitrate = true →
      Completes (.twinHandshake id pref role crcs) s fun t => t.rd F.TWIN_STAT_PARTNER = 1 ∧ t.rd F.TWIN_PARTNER_ID = id.toNat ∧
        t.rd F.TWIN_PARTNER_ROLE = role.toNat ∧ t.twin.partnerCrcs = crcs ∧
        (wins → t.rd F.TWIN_STAT_ROLE = 2) ∧ (¬ wins → t.rd F.TWIN_STAT_ROLE = 3 ∧ t.rd F.TWIN_STAT_SYNC = 0)) ∧
    (s.roleIs .arbitrate = true →
      Completes .arbTimeout s fun t => t.rd F.TWIN_STAT_ROLE =
        if s.bit F.TWIN_STAT_OWN_IN then (if s.twinAlive then 3 else 4) else 2) ∧
    (s.bit F.TWIN_STAT_OWN_OUT = true → s.bit F.TWIN_STAT_OWN_IN = true → s.driving = false →
      Completes .contention s fun t => t.rd F.TWIN_STAT_OWN_OUT = 0 ∧ t.driving = false ∧ t.twin.contending = true) ∧
    (s.twin.contending = true → s.bit F.TWIN_STAT_OWN_IN = false →
      Completes .contentionRecheck s fun t => t.rd F.TWIN_STAT_OWN_OUT = 1 ∧ t.driving = true ∧ t.twin.contending = false) ∧
    (s.twin.contending = true → s.bit F.TWIN_STAT_OWN_IN = true → s.twinAlive = false →
      Completes .contentionRecheck s fun t =>
        Sets { s with twin := { s.twin with contending := false } } t [(F.TWIN_STAT_ROLE, 0, 0, 4),
          (F.SPAN_STAT_SOURCE, 0, 0, if s.rd F.SPAN_STAT_SOURCE = 2 then 0 else s.rd F.SPAN_STAT_SOURCE)]) ∧
    (s.twin.contending = true → s.bit F.TWIN_STAT_OWN_IN = true → s.twinAlive = true →
      Completes .contentionRecheck s fun t => t.rd F.TWIN_STAT_ROLE = 3 ∧ t.rd F.TWIN_STAT_SYNC = 0) ∧
    (waiting → s.bit F.TWIN_STAT_OWN_IN = false →
      Completes .heartbeatDeadline s fun t => t.twin.takeoverAt = some (s.frame + 1) ∧
        t.twin.heldTakeover = (!s.bit F.TWIN_STAT_SYNC || !s.spanComplete)) ∧
    (waiting → s.bit F.TWIN_STAT_OWN_IN = true → s.spanComplete = true →
      Completes .heartbeatDeadline s fun t => t = s) ∧
    (waiting → s.bit F.TWIN_STAT_OWN_IN = true → s.heartbeatSeen = false → s.twinAlive = false → s.dbg.relink = false →
      Completes .heartbeatDeadline s fun t => t.rd F.TWIN_STAT_ROLE = 4 ∧ t.rd F.TWIN_STAT_SYNC = 0) ∧
    (s.twin.takeoverAt = some (s.frame + 1) → s.roleIs .standby = true → s.running = true →
      s.reached (s.spanCyc - 400) → s.driving = false → s.rd F.TWIN_COUNT_TAKEOVERS < 255 →
      Completes .takeover s fun t => t.rd F.TWIN_STAT_ROLE = 2 ∧ t.rd F.TWIN_STAT_OWN_OUT = 1 ∧
        t.driving = !s.bit F.TWIN_STAT_OWN_IN ∧ t.rd F.TWIN_COUNT_TAKEOVERS = s.rd F.TWIN_COUNT_TAKEOVERS + 1 ∧
        t.rd F.TWIN_TAKE_FRAME_LO = (s.frame + 1) % 2 ^ 32 ∧ t.rd F.SPAN_STAT_SOURCE ≠ 2) ∧
    (s.twin.releaseAt = some (s.frame + 1) → s.roleIs .active = true → s.running = true →
      s.reached (s.spanCyc - 800) → s.twinAlive = true → s.bit F.TWIN_STAT_OWN_OUT = true →
      Completes .releaseDrop s fun t => t.rd F.TWIN_STAT_ROLE = 3 ∧ t.rd F.TWIN_STAT_OWN_OUT = 0 ∧
        t.rd F.TWIN_STAT_REL_STATE = 2 ∧ t.twin.releaseAt = none) ∧
    (driven = s.driving → Completes (.drivingChange ownIn) s fun t => Sets s t [(F.TWIN_STAT_OWN_IN, 0, 0, ownIn.toNat)]) ∧
    (driven = true → s.driving = false →
      Completes (.drivingChange ownIn) s fun t =>
        SetsThen s t [(F.TWIN_STAT_OWN_IN, 0, 0, 0), (F.TWIN_STAT_DRIVING, 0, 0, 1)]
          fun v => v.gatesResume.each [0, 1, 2, 3] State.epulseKick) ∧
    (driven = false → s.driving = true →
      Completes (.drivingChange ownIn) s fun t =>
        SetsThen s t [(F.TWIN_STAT_OWN_IN, 0, 0, ownIn.toNat), (F.TWIN_STAT_DRIVING, 0, 0, 0)]
          fun v => v.outputsOff.gatesAbandon.sortEvents s.evr.queue.length)

/-- The mirror, planned release, alignment and lanes (R364, R367 to R369, R371, R372, R376, R378, R380); the marker of the
active gives the standby its frame number, and corrects the phase and the rate of its tick counter. What the specification
leaves open in it is the model's choice: log entries 106 to 111, 171, 177, 190, 200 and 216. -/
def Obligations.TwinLink : Prop :=
  ∀ (s : State) (items : List MirrorItem) (l : Fin 2), s.serves [.deck, .link] → s.paired = true →
    let r := s.rd48 F.TWIN_REL_FRAME_LO F.TWIN_REL_FRAME_HI
    let usable := s.isRetired 4 (2 + l.val) = false ∧ s.laneTested (2 + l.val) = false
    let linked : State := { s with dbg := { s.dbg with relink := false } }
    (s.twinAlive = true → s.roleIs .standby = true →
      Completes (.mirrorFrame items) s fun t => t = { s with twin :=
        if s.heartbeatSeen then { s.twin with inboxNext := s.twin.inboxNext ++ items }
        else { s.twin with
          inbox := s.twin.inbox ++ items, bytes := s.twin.bytes + (items.map MirrorItem.bytes).sum } }) ∧
    (∀ (frame : BitVec 48) count crcOk, s.twinAlive = true → s.roleIs .standby = true →
      s.span.phase + 800 < s.spanCyc →
      Completes (.heartbeat frame count crcOk) s fun t => t = { s with twin := { s.twin with
        heartbeatFrame := some frame.toNat
        mirrorComplete := frame.toNat == s.frame && crcOk && count == s.twin.inbox.length &&
          decide (framedBytes s.twin.bytes ≤ s.mirrorRoom) } }) ∧
    (s.roleIs .active = true → s.bit F.TWIN_STAT_SYNC = true → s.frame + 4 ≤ r →
      Completes .plannedRelease s fun t =>
        Sets { s with twin := { s.twin with releaseAt := some r } } t [(F.TWIN_STAT_REL_STATE, 0, 0, 1)]) ∧
    (s.roleIs .active = true → s.bit F.TWIN_STAT_SYNC = false ∨ r < s.frame + 4 →
      Completes .plannedRelease s fun t => Sets s t [(F.TWIN_STAT_REL_STATE, 0, 0, 4)]) ∧
    (∀ r', s.twin.releaseAt = some r' → s.frame + 1 < r' →
      Completes .releaseCancel s fun t =>
        Sets { s with twin := { s.twin with releaseAt := none } } t [(F.TWIN_STAT_REL_STATE, 0, 0, 3)]) ∧
    (∀ r', s.twin.releaseAt = some r' → r' ≤ s.frame + 1 →
      Completes .releaseCancel s fun t => Sets s t [(F.TWIN_STAT_ABORT_LATE, 0, 0, 1)]) ∧
    (s.twinAlive = true → s.roleIs .active = true ∨ s.roleIs .standby = true → (∀ n < 24, s.activeCrc n = s.partnerCrc n) →
      Completes .realign s fun t =>
        Sets { s with twin := { s.twin with aligning := true, alignFrom := s.nowUs, alignDone := false, alignItems := [] } } t
          [(F.TWIN_STAT_SYNC, 0, 0, 0), (F.TWIN_ALIGN_DONE, 0, 0, 0), (F.TWIN_ALIGN_PERCENT, 0, 0, 0),
            (F.TWIN_STAT_UNSYNC_REASON, 0, 0, 4)]) ∧
    (s.twin.aligning = true →
      Completes (.alignDone items) s fun t =>
        Sets { s with twin := { s.twin with
            alignDone := true, alignItems := if s.roleIs .standby then items else s.copySet } } t
          [(F.TWIN_ALIGN_DONE, 0, 0, 1), (F.TWIN_ALIGN_PERCENT, 0, 0, 100)]) ∧
    (s.bit (laneFld (1 - l.val)) = true →
      Completes (.twinLaneDown l) s fun t => Sets s t [(laneFld l, 0, 0, 0)]) ∧
    (s.bit (laneFld l) = true → s.bit (laneFld (1 - l.val)) = false → s.roleIs .active = true →
      s.bit F.TWIN_STAT_SYNC = true →
      Completes (.twinLaneDown l) s fun t => t.twinAlive = false ∧ t.rd F.TWIN_STAT_SYNC = 0 ∧
        t.rd F.TWIN_STAT_UNSYNC_REASON = 1 ∧ t.twin.aligning = false) ∧
    (usable → s.roleIs .linkfault = false → s.roleIs .standby = false ∨ s.twinAlive = true →
      Completes (.twinLaneUp l) s fun t => Sets linked t [(laneFld l, 0, 0, 1)]) ∧
    (usable → s.roleIs .standby = true → s.twinAlive = false → s.bit F.TWIN_STAT_SYNC = false → s.twin.aligning = false →
      Completes (.twinLaneUp l) s fun t => SetsThen linked t [(laneFld l, 0, 0, 1)] State.startAlign) ∧
    (¬ usable → Completes (.twinLaneUp l) s fun t => t = s) ∧
    (usable → s.roleIs .linkfault = true →
      Completes (.twinLaneUp l) s fun t => t.twinAlive = true ∧ t.rd F.TWIN_STAT_ROLE = 3 ∧ t.rd F.TWIN_STAT_SYNC = 0) ∧
    (∀ frame : BitVec 48, s.roleIs .standby = true → s.twinAlive = true → s.treIs .off = true →
      let late := Config.tickError s.freeCtr
      Completes (.twinTickMarker frame) s fun t =>
        Sets { s with
          freeCtr := s.freeCtr + 1
          span := { s.span with
            frame := frame.toNat, extra := s.span.extra - late, rate := s.span.rate - late
            bear := (s.setFrame frame.toNat).span.bear } } t [(F.SPAN_STAT_SOURCE, 0, 0, 2)])

/-! ### The trestle ring (R385 to R398) -/

/-- The ring (R385, R387 to R392, R395, R398): a port trains, comes up and goes down, a device without a port leaves the ring,
another device with the same ID but another unique ID refuses it, members and the lowest eligible ID are kept, the election
settles on a master, a member is locked, the master's first marker sets the frame number and the tick error, corrects the tick
counter and goes on by the other port, three missed markers bring HOLDOVER, publication frames are checked, go on and are kept
for their commit tick, and queued updates wait for quota. What the specification leaves open in it is the model's choice: log
entries 112, 113, 171, 189, 195, 196, 210 and 215. -/
def Obligations.TrestleRing : Prop :=
  ∀ (s : State) (p : Fin 2), s.serves [.deck, .link] →
    let ends := fun k : TreState => if s.atStep .join && (k == .run || k == .off || k == .refused)
      then [(F.SYS_START_STAT_STEP, 0, 0, 6)] else []
    let up := s.bit F.TRESTLE_STAT_MASTER
    let source := if s.rd F.SPAN_STAT_SOURCE = 1 then 0 else s.rd F.SPAN_STAT_SOURCE
    let sentBy : Nat → TreOut → List TreOut := fun q x => s.tre.sent ++ if s.portUp q then [x] else []
    (s.inRing = true → s.rd F.TRESTLE_PORT_STAT_LINK p = 0 → s.isRetired 4 p = false → s.laneTested p = false →
      Completes (.laneBlockLock p) s fun t => Sets s t [(F.TRESTLE_PORT_STAT_LINK, p, 0, 1)]) ∧
    (∀ (rt : BitVec 20) (nbr : BitVec 16), s.rd F.TRESTLE_PORT_STAT_LINK p = 1 →
      let hop := min (2 ^ 20 - 1) (divFree (rt.toNat * 200) 33)
      let rows := [(F.TRESTLE_PORT_STAT_LINK, p.val, 0, 2), (F.TRESTLE_PORT_HOP, p.val, 0, hop),
        (F.TRESTLE_PORT_STAT_NEIGHBOUR, p.val, 0, nbr.toNat)]
      (s.treIs .training = false →
        Completes (.trainingDone p rt nbr) s fun t =>
          SetsThen s t rows fun v => (v.raise 0xA01 p [p, hop, nbr.toNat]).reportHops) ∧
      (s.treIs .training = true →
        Completes (.trainingDone p rt nbr) s fun t => ∃ v, SetsRaise s v rows 0xA01 p [p, hop, nbr.toNat] ∧
          Sets { v with tre := { v.tre with
              candidate := if s.eligible then some s.devId else none, sameSpans := 0, members := [] } } t
            [(F.TRESTLE_STAT_STATE, 0, 0, 2)])) ∧
    (∀ cause : Byte, s.rd F.TRESTLE_PORT_STAT_LINK p ≠ 0 →
      Completes (.laneLockLoss p cause) s fun t =>
        SetsThen s t [(F.TRESTLE_PORT_STAT_LINK, p, 0, 0),
            (F.TRESTLE_PORT_ERR_DROPS, p, 0, min 65535 (s.rd F.TRESTLE_PORT_ERR_DROPS p + 1)), (F.TRESTLE_STAT_CLOSED, 0, 0, 0)]
          fun v => (v.raise 0xA00 p [p, cause.toNat]).reportHops.masterUpdate) ∧
    (s.treIs .training = true → s.portUp 0 = false → s.portUp 1 = false →
      Completes .ringTrainTimeout s fun t =>
        Sets s t ([(F.TRESTLE_STAT_REASON, 0, 0, 1), (F.TRESTLE_PORT_STAT_LINK, 0, 0, 0), (F.TRESTLE_PORT_STAT_LINK, 1, 0, 0),
          (F.TRESTLE_STAT_MASTER, 0, 0, 0), (F.TRESTLE_STAT_CLOSED, 0, 0, 0), (F.SPAN_STAT_SOURCE, 0, 0, source),
          (F.TRESTLE_STAT_STATE, 0, 0, 0)] ++ ends .off)) ∧
    (∀ (m : Member) (low : BitVec 16), s.inRing = true → s.portUp 0 = true ∨ s.portUp 1 = true →
      (m.id = s.devId → m.uid ≠ Config.uid →
        Completes (.announceFrame m low) s fun t => t.rd F.TRESTLE_STAT_STATE = 6 ∧ t.rd F.TRESTLE_STAT_REASON = 2 ∧
          t.rd F.TRESTLE_PORT_STAT_LINK 0 = 0 ∧ t.rd F.TRESTLE_PORT_STAT_LINK 1 = 0) ∧
      (m.id = s.devId → m.uid = Config.uid →
        Completes (.announceFrame m low) s fun t =>
          SetsThen s t [(F.TRESTLE_STAT_CLOSED, 0, 0, (s.portUp 0 && s.portUp 1).toNat)] State.masterUpdate) ∧
      (m.id ≠ s.devId → s.treIs .run = true →
        Completes (.announceFrame m low) s fun t =>
          t.tre.members = (s.tre.members.filter fun x => x.id != m.id) ++ [m] ∧
          t.tre.candidate = { s with tre := { s.tre with members := t.tre.members } }.lowestSeen low.toNat)) ∧
    (∀ c, s.tre.candidate = some c → c < 65536 → 4 ≤ s.tre.sameSpans →
      s.treIs .elect = true ∨ s.treIs .holdover = true →
      Completes .electionSettled s fun t => t.rd F.TRESTLE_MASTER_ID = c ∧ t.bit F.TRESTLE_STAT_MASTER = (c == s.devId) ∧
        t.rd F.TRESTLE_STAT_STATE = (if s.treIs .elect then 3 else 4) ∧ t.tre.lockedSpans = 0) ∧
    (∀ c, s.tre.candidate = some c → c < 65536 → 4 ≤ s.tre.sameSpans → s.rd F.TRESTLE_MASTER_ID ≠ c →
      s.treIs .joining = true ∨ s.treIs .run = true →
      Completes .electionSettled s fun t => t.rd F.TRESTLE_MASTER_ID = c ∧ t.bit F.TRESTLE_STAT_MASTER = (c == s.devId) ∧
        t.rd F.TRESTLE_STAT_STATE = s.rd F.TRESTLE_STAT_STATE) ∧
    (s.treIs .joining = true → up = true ∨ 8 ≤ s.tre.lockedSpans →
      Completes .joinLocked s fun t =>
        Sets { s with tre := { s.tre with runFrom := s.frame + 1 } } t ([(F.TRESTLE_STAT_STATE, 0, 0, 4)] ++ ends .run)) ∧
    (∀ k : Marker, s.portUp p = true → s.treIs .joining = true ∨ s.treIs .run = true ∨ s.treIs .holdover = true → up = false →
      k.master = s.rd F.TRESTLE_MASTER_ID → s.tre.markerSeen = false →
      Completes (.treTickMarker p k) s fun t => t.frame = k.frame ∧ t.rd F.SPAN_STAT_SOURCE = 1 ∧
        t.rd F.TRESTLE_TICK_ERR = unsigned 32 k.errPs ∧ t.tre.markerSeen = true ∧ t.tre.markerMisses = 0 ∧
        t.tre.lockedSpans = (if k.errPs.natAbs ≤ 1000 then s.tre.lockedSpans + 1 else 0) ∧
        t.span.extra = s.span.extra - k.errPs ∧ t.span.rate = s.span.rate - k.errPs ∧
        t.tre.sent = sentBy (1 - p)
          (.marker (1 - p) { k with accPs := k.accPs + s.rd F.TRESTLE_PORT_HOP p, errPs := 0 })) ∧
    (s.treIs .joining = true ∨ s.treIs .run = true → up = false → 3 ≤ s.tre.markerMisses →
      Completes .masterMarkerMiss s fun t => t.rd F.TRESTLE_STAT_STATE = 5 ∧ t.rd F.SPAN_STAT_SOURCE ≠ 1 ∧
        t.tre.sameSpans = 0 ∧ t.tre.members = []) ∧
    (∀ f : PubFrame, s.portUp f.port = true → s.inRing = true →
      (f.crcOk = false →
        Completes (.updateFrame f) s fun t =>
          Sets s t [(F.TRESTLE_PORT_ERR_CRC, f.port, 0, min 65535 (s.rd F.TRESTLE_PORT_ERR_CRC f.port + 1))]) ∧
      (∀ u, f.crcOk = true → f.launcher ≠ s.devId → s.treIs .run = true → frameUpdates f = [u] →
        s.tre.known.contains (f.launcher, u.origin, u.seq) = false → s.frame + 1 < f.commit →
        Completes (.updateFrame f) s fun t => t = { s with tre := { s.tre with
          known := s.tre.known ++ [(f.launcher, u.origin, u.seq)], inbox := s.tre.inbox ++ [⟨f.pub, f.commit, f.late, u⟩]
          sent :=
            sentBy (1 - f.port) (.pub (1 - f.port) { f with port := 1 - f.port, hops := (f.hops + 1) % 2 ^ 12 }) } }) ∧
      (∀ u, f.crcOk = true → f.launcher ≠ s.devId → s.treIs .run = true → frameUpdates f = [u] →
        s.tre.known.contains (f.launcher, u.origin, u.seq) = true →
        Completes (.updateFrame f) s fun t =>
          let on : PubFrame := { f with port := 1 - f.port, hops := (f.hops + 1) % 2 ^ 12 }
        t = { s with tre := { s.tre with sent := sentBy (1 - f.port) (.pub (1 - f.port) on) } }) ∧
      (f.crcOk = true → f.launcher = s.devId → Completes (.updateFrame f) s fun t => t = s)) ∧
    (s.publishes = false → Completes .queueLaunch s fun t => t = s) ∧
    (∀ u us, s.running = true → s.publishes = true → s.tre.waiting = u :: us →
      (s.rd F.TRESTLE_QUOTA_GRANT ≤ s.quotaUsed s.frame → Completes .queueLaunch s fun t => t = s) ∧
      (s.quotaUsed s.frame < s.rd F.TRESTLE_QUOTA_GRANT →
        Completes .queueLaunch s fun t =>
          let v := (s.launch s.frame u).launchWaiting us
          t = v.sendFrames (v.tre.launched.drop s.tre.launched.length)))

/-! ### The keystone (R400 to R420) -/

/-- Supply, LOSS, commands, shadows and memory of the keystone (R400, R402, R405, R406, R408, R411 to R413, R417, R419). A
shadow expires in a reset too, which leaves the keystone alone (R409), and not while frozen (R420). The CK_LF edge (R406, R410,
R414 to R417, R420): the count goes up by the trimmed ticks and wraps at 2^48, nothing of it while frozen; a pending COMMIT or
ADJUST acts at its edge with a new epoch; the first edge after a thaw catches up, and a set that stayed pending through the
freeze acts on the caught-up count; an accepted VALIDATE empties the residue block. What the specification leaves open in it is
the model's choice: log entries 114, 115 and 217. -/
def Obligations.KeystoneTime : Prop :=
  (∀ (s : State) (i : Initiator) (b : Bool) (w : Fin 32) (d : Word) (trim : BitVec 10),
     let reach := s.alive = true ∧ s.joint = true
     let set (adj : Bool) (cmd : Instr) : Prop :=
       (∀ p ∈ s.posted, p.initiator ≠ initCode i) →
       (s.bit F.KEEP_STAT_PENDING = false → Completes cmd s fun t =>
         Sets { s with keep := { s.keep with cmd := some ⟨adj, s.keepSet, initCode i⟩ } } t [(F.KEEP_STAT_PENDING, 0, 0, 1)]) ∧
       (s.bit F.KEEP_STAT_PENDING = true → Completes cmd s fun t => Sets s t [(F.KEEP_STAT_SET_BUSY, 0, 0, 1)])
     let flags := s.keepFlags + 16 * (s.keep.expired.contains (initCode i)).toNat
     let shown : Nat → Nat → State → Prop := fun a v t =>
       Sparse.find? t.resp (initCode i) = some ⟨a, toBytes v 4, false⟩
     (s.bit F.KEEP_STAT_ON_VBAT ≠ b → Completes (.supplySwitch b) s fun t =>
       Sets s t ([(F.KEEP_STAT_ON_VBAT, 0, 0, b.toNat)] ++
         if b then [(F.KEEP_BAT, 0, 0, min 65535 (s.rd F.KEEP_BAT + 1))] else [])) ∧
     (Completes .lossLatch s fun t => Sets { s with keep := t.keep } t [(F.KEEP_STAT_LOSS, 0, 0, 1),
       (F.KEEP_STAT_VALID, 0, 0, 0), (F.KEEP_STAT_TIME_OK, 0, 0, 0), (F.KEEP_TRIM, 0, 0, 0), (F.KEEP_WAKE_EN, 0, 0, 0)] ∧
       t.keep.count = s.keep.count ∧ t.keep.wakeLeft = none ∧ t.keep.lossCycle = true) ∧
     (Completes .oscStopDetect s fun t => Sets s t [(F.KEEP_STAT_OSC_STOP, 0, 0, 1), (F.KEEP_STAT_TIME_OK, 0, 0, 0)]) ∧
     (s.keep.wakeLeft ≠ none → Completes .wakePeriodEnd s fun t =>
       Sets { s with keep := { s.keep with
         wakePin := true
         wakeLeft := some ((s.rd F.KEEP_WAKE_M + 1) * 2 ^ s.rd F.KEEP_WAKE_E) } } t [(F.KEEP_STAT_WAKE, 0, 0, 1)]) ∧
     (Sparse.find? s.keep.shadows (initCode i) ≠ none → s.keep.expired.contains (initCode i) = false →
       Completes (.shadowExpiry i) s fun t =>
         let v := { s with keep := { s.keep with
           shadows := Sparse.del s.keep.shadows (initCode i), expired := s.keep.expired ++ [initCode i] } }
         t = if s.dbg.gated then s else if s.alive then v.event 0xB04 [initCode i] else v) ∧
     (reach →
       (s.bit F.KEEP_STAT_LOSS = true → s.bit F.KEEP_STAT_TIME_OK = true →
         Completes .validate s fun t => t = { s with keep := { s.keep with validate := true } }) ∧
       (s.bit F.KEEP_STAT_LOSS = false ∨ s.bit F.KEEP_STAT_TIME_OK = false →
         Completes .validate s fun t => Sets s t [(F.KEEP_STAT_VAL_REFUSED, 0, 0, 1)]) ∧
       set false (.commitA i) ∧ set true (.adjust i) ∧
       (16 ≤ w.val → Completes (.keepRamWrite w d) s fun t => Sets s t [(F.KEEP_RAM, w, 0, d.toNat)]) ∧
       (12 ≤ w.val → w.val < 16 → Completes (.keepRamWrite w d) s fun t => t = s) ∧
       (w.val < 12 → s.domOn .meter = true → s.bit F.METER_PF_CTL_BLK_EN = false →
         Completes (.keepRamWrite w d) s fun t => Sets s t [(F.KEEP_RAM, w, 0, d.toNat)]) ∧
       (w.val < 12 → s.domOn .meter = false ∨ s.bit F.METER_PF_CTL_BLK_EN = true →
         Completes (.keepRamWrite w d) s fun t => t = s) ∧
       (trim ≠ 0x200 → Completes (.trimWrite trim) s fun t => Sets s t [(F.KEEP_TRIM, 0, 0, trim.toNat)]) ∧
       (trim = 0x200 → Completes (.trimWrite trim) s fun t => t = s) ∧
       (s.posted = [] → hasShadow (initCode i) = true →
         Completes (.tkLoRead i) s fun t => shown F.KEEP_TK_LO.base (s.keep.count % 2 ^ 32) t ∧
           Sparse.find? t.keep.shadows (initCode i) = some ⟨s.keep.count, s.keep.epoch, flags⟩) ∧
       (∀ sh, s.posted = [] → Sparse.find? s.keep.shadows (initCode i) = some sh →
         (Completes (.tkFlgRead i) s fun t => shown F.KEEP_TK_FLG_VALID.base sh.flags t ∧ t.keep = s.keep) ∧
         (Completes (.tkHiRead i) s fun t =>
           shown F.KEEP_TK_HI_EPOCH.base (sh.count / 2 ^ 32 % 2 ^ 16 + 2 ^ 16 * sh.epoch) t ∧
           t.keep = { s.keep with shadows := Sparse.del s.keep.shadows (initCode i) })))) ∧
  (∀ s : State,
     let n := trimTicks (if s.keep.edge = 0 then s.rd F.KEEP_TRIM else s.keep.trim) s.keep.edge
     (s.keep.frozen = false → s.keep.cmd = none → s.keep.catchUp = false →
       Completes .ckLfEdge s fun t => t.keep.count = (s.keep.count + n) % 2 ^ 48 ∧ t.keep.copyCount = t.keep.count ∧
         t.keep.epoch = s.keep.epoch ∧ t.keep.edge = (s.keep.edge + 1) % 2 ^ 20) ∧
     (s.keep.frozen = true →
       Completes .ckLfEdge s fun t => t.keep.count = s.keep.count ∧ t.keep.hidden = s.keep.hidden + n ∧
         t.keep.copyCount = s.keep.copyCount ∧ t.keep.cmd = s.keep.cmd ∧
         t.rd F.KEEP_STAT_PENDING = s.rd F.KEEP_STAT_PENDING) ∧
     (∀ c cmd, cmd = .commitEdge ∨ cmd = .thawCatchup ∨ cmd = .ckLfEdge → s.keep.frozen = false → s.keep.catchUp = true →
       s.keep.cmd = some c → s.bit F.KEEP_STAT_PENDING = true →
       let caught := (s.keep.count + s.keep.hidden + 1) % 2 ^ 48
       Completes cmd s fun t =>
         t.keep.count = (if c.adjust then (caught + c.s) % 2 ^ 48 else c.s) ∧ t.keep.copyCount = t.keep.count ∧
         t.keep.epoch = (s.keep.epoch + 1) % 2 ^ 16 ∧ t.keep.cmd = none ∧ t.rd F.KEEP_STAT_PENDING = 0 ∧
         t.keep.hidden = 0 ∧ t.keep.catchUp = false) ∧
     (∀ c, s.keep.frozen = false → s.keep.catchUp = false → s.keep.cmd = some c → s.bit F.KEEP_STAT_PENDING = true →
       Completes .commitEdge s fun t =>
         t.keep.count = (if c.adjust then (s.keep.count + 1 + c.s) % 2 ^ 48 else c.s) ∧ t.keep.copyCount = t.keep.count ∧
         t.keep.epoch = (s.keep.epoch + 1) % 2 ^ 16 ∧ t.keep.cmd = none ∧ t.rd F.KEEP_STAT_PENDING = 0 ∧
         (c.adjust = false → t.bit F.KEEP_STAT_TIME_OK = !s.keep.lossCycle ∧ t.rd F.KEEP_STAT_OSC_STOP = 0)) ∧
     (s.keep.frozen = false → s.keep.catchUp = true → s.keep.cmd = none →
       Completes .thawCatchup s fun t => t.keep.count = (s.keep.count + s.keep.hidden + 1) % 2 ^ 48 ∧ t.keep.hidden = 0 ∧
         t.keep.catchUp = false) ∧
     (s.keep.frozen = false → s.keep.validate = true →
       Completes .validateEdge s fun t => t.rd F.KEEP_STAT_LOSS = 0 ∧ t.rd F.KEEP_STAT_VALID = 1 ∧ t.keep.validate = false ∧
         t.rd F.KEEP_RAM 0 = 0x4D45 ∧ ∀ w < 11, t.rd F.KEEP_RAM (w + 1) = 0))

/-! ### The event recorder (R423, R425, R429, R431, R434, R436, R437, R439) -/

/-- Records, tokens, cursors and the complete clear (R429, R431, R434, R436, R437, R439): the front event becomes the record at
HEAD; a full recorder under HOLD drops it; a token returns; reading word 0 latches the record at POS, reading word 31 advances
POS; POS and ACK take only values they may; the two writes of the clear empty the recorder but for the record of the clear
itself. What the specification leaves open in it is the model's choice: log entries 116 to 120. -/
def Obligations.RecorderCommands : Prop :=
  ∀ (s : State) (n : Fin 4) (v : Word) (i : Initiator), s.serves [.deck] →
    let head := s.rd F.EVR_HEAD
    let tail := s.rd F.EVR_TAIL
    let pos := s.rd F.EVR_CUR_POS n
    let ack := s.rd F.EVR_CUR_ACK n
    (∀ e q, s.bit F.EVR_STAT_RUNNING = true → s.evr.queue = e :: q → seqDist tail head ≠ 32768 →
      s.bit F.TWIN_CTL_EN = false → e.words.length ≤ 24 →
      Completes .recordWrite s fun t => t.evr.queue = q ∧ t.rd F.EVR_HEAD = (head + 1) % 2 ^ 32 ∧
        t.dBytes (recordAddr head) 128 = (e.recordWords head).flatMap (fun w => toBytes w 4)) ∧
    (∀ e q, s.bit F.EVR_STAT_RUNNING = true → s.evr.queue = e :: q → seqDist tail head = 32768 →
      s.bit F.EVR_CTL_POLICY = true → s.roleIs .standby = false → e.summary = false →
      Completes .recordWrite s fun t => Sets { s with evr := { s.evr with queue := q } } t
        [(F.EVR_DROPPED, 0, 0, min 0xFFFFFFFF (s.rd F.EVR_DROPPED + 1))]) ∧
    (∀ code : BitVec 12, s.bit F.EVR_STAT_RUNNING = true → (s.bucket code.toNat).missing ≠ 0 →
      max 1 (s.evrField F.EVR_CODE_B_P code.toNat) ≤ (s.bucket code.toNat).refill → (s.bucket code.toNat).supp = 0 →
      Completes (.tokenReturn code) s fun t => t = s.setBucket code.toNat
        { s.bucket code.toNat with
          missing := (s.bucket code.toNat).missing - 1
          refill := if (s.bucket code.toNat).missing = 1 then 0
            else (s.bucket code.toNat).refill - s.evrField F.EVR_CODE_B_P code.toNat }) ∧
    (Completes (.winLatch n) s fun t => n.val ∈ t.evr.winArmed ∧ ∀ w < 32,
      t.rd F.EVR_WIN n w = if pos = head then 0 else s.dWord (recordAddr pos + 4 * w)) ∧
    (s.evr.winArmed.contains n.val = true → s.bit F.EVR_CUR_CFG_AUTOADV n = true → pos ≠ head →
      Completes (.winAdvance n) s fun t =>
        Sets { s with evr := { s.evr with winArmed := s.evr.winArmed.filter (· != n.val) } } t
          [(F.EVR_CUR_POS, n, 0, (pos + 1) % 2 ^ 32)]) ∧
    (s.evr.winArmed.contains n.val = false → Completes (.winAdvance n) s fun t => t = s) ∧
    (seqDist tail v.toNat ≤ seqDist tail head →
      Completes (.curPosWrite n v) s fun t => Sets s t [(F.EVR_CUR_POS, n, 0, v.toNat)]) ∧
    (seqDist tail head < seqDist tail v.toNat →
      Completes (.curPosWrite n v) s fun t => Sets s t [(F.EVR_CUR_STAT_BAD, n, 0, 1)]) ∧
    (s.mayAck n = true → seqDist ack v.toNat ≤ seqDist ack head →
      Completes (.curAckWrite n v) s fun t => SetsThen s t [(F.EVR_CUR_ACK, n, 0, v.toNat)] State.tailFromAcks) ∧
    (s.mayAck n = false ∨ seqDist ack head < seqDist ack v.toNat →
      Completes (.curAckWrite n v) s fun t => Sets s t [(F.EVR_CUR_STAT_ACK_REFUSED, n, 0, 1)]) ∧
    (i = .host ∨ i = .net →
      (s.evr.clr = none → Completes (.clrFirst i) s fun t => t = { s with evr := { s.evr with clr := some (initCode i) } }) ∧
      (s.evr.clr = some (initCode i) → s.roleIs .standby = false → s.bit F.EVR_STAT_RUNNING = true → s.evr.queue = [] →
        s.evrField F.EVR_CODE_A_EN 2 ≠ 0 → (s.bucket 2).missing < s.evrField F.EVR_CODE_B_BURST 2 →
        (s.bucket 2).supp = 0 →
        Completes (.clrSecond i) s fun t => t.rd F.EVR_TAIL = head ∧ t.rd F.EVR_HEAD = (head + 1) % 2 ^ 32 ∧
          t.evr.clr = none ∧ t.dWord (recordAddr head + 24) = head ∧ t.dWord (recordAddr head) % 4096 = 2)) ∧
    (i ≠ .host → i ≠ .net → Completes (.clrFirst i) s fun t => t = s) ∧
    Completes .clrExpiry s fun t => t = { s with evr := { s.evr with clr := none } }

/-! ### Health and repair (R446 to R458, R460) -/

/-- Health (R447, R448, R452 to R458, R460): a comparator brings SHUTDOWN with the outputs dropped, thresholds are taken
whole or not at all, a passed test is a transient and a failed one retires the unit, waiting tests start, tracking entries
expire in their slots, HEALTH_RETIRE retires for the host and the network only, a lane with errors goes down for its test,
and VGD is watched: while it is low the loop of a motor drives no gate, and its integrators are 0 (R289). What the
specification leaves open in it is the model's choice: log entries 121 to 128. -/
def Obligations.HealthCommands : Prop :=
  ∀ (s : State) (d : Word) (low : Bool), s.serves [] →
    let warn := d.toNat % 256
    let thr := d.toNat / 256 % 256
    let shut := d.toNat / 65536 % 256
    let fresh : TrackEntry → Bool := fun e => decide (s.nowUs - e.start < s.rd F.HEALTH_CLASS_CFG_WINDOW e.cls * 60000000)
    let good := warn ≤ 105 ∧ thr ≤ 115 ∧ shut ≤ 125 ∧ warn < thr ∧ thr < shut
    (∀ k : Fin 8, s.rd F.HEALTH_THERM_STAT_LEVEL ≠ 3 →
      Completes (.thermalComparator k) s fun t => t.rd F.HEALTH_THERM_STAT_LEVEL = 3 ∧ t.rd F.HEALTH_THERM_STAT_HALT_HOT = 1 ∧
        t.rd F.TWIN_STAT_OWN_OUT = 0 ∧ (s.paired = true → t.rd F.TWIN_STAT_ROLE = 5) ∧
        ∀ n < 32, t.rd F.SOL_CH_STAT_ARMED n = 0) ∧
    (∀ k : Fin 8, s.rd F.HEALTH_THERM_STAT_LEVEL = 3 → Completes (.thermalComparator k) s fun t => t = s) ∧
    (good → Completes (.thrWrite d) s fun t => Sets s t [(F.HEALTH_THR_WARN, 0, 0, warn), (F.HEALTH_THR_THROTTLE, 0, 0, thr),
      (F.HEALTH_THR_SHUTDOWN, 0, 0, shut)]) ∧
    (¬ good → Completes (.thrWrite d) s fun t => t = s) ∧
    (s.bit F.CONV_CAL_STAT_PERM = true → s.bit F.HEALTH_STAT_CALDRIFT = false →
      Completes .caldriftTimer s fun t =>
        SetsRaise s t [(F.HEALTH_STAT_CALDRIFT, 0, 0, 1)] 0xC0A 0xFF [16, s.rd F.CONV_CAL_STAT_SS_GROUP]) ∧
    (∀ (cls : Fin 5) u us, s.testsBusy cls = false → testsOf s.health.queued cls = u :: us → us.length < 8 →
      testsOf (s.health.queued.filter (· != u)) cls = us →
      Completes (.selftestQueuedStart cls) s fun t =>
        SetsThen { s with health := { s.health with
            running := s.health.running ++ [u], queued := s.health.queued.filter (· != u) } } t
          [(F.HEALTH_CLASS_STAT_QUEUED, cls, 0, us.length)] (·.testBegins u.1 u.2)) ∧
    (∀ (u : Nat) rest, testsOf s.health.running 2 = (2, u) :: rest → u < 17 → s.isRetired 2 u = false → s.health.due = [] →
      (Completes (.selftestDone 2 false) s fun t => t.rd F.HEALTH_LAST_CLASS = 2 ∧ t.rd F.HEALTH_LAST_UNIT = u ∧
        t.rd F.HEALTH_LAST_VERDICT = 1 ∧ t.isRetired 2 u = true ∧ (2, u) ∉ t.health.running) ∧
      (s.trackOf 2 u = none → s.health.track.length < 64 → 1 ≤ s.rd F.HEALTH_CLASS_CFG_LIMIT 2 →
        Completes (.selftestDone 2 true) s fun t => t.rd F.HEALTH_LAST_CLASS = 2 ∧ t.rd F.HEALTH_LAST_UNIT = u ∧
          t.rd F.HEALTH_LAST_VERDICT = 0 ∧ t.rd F.HEALTH_LAST_COUNT = 1 ∧ t.isRetired 2 u = false ∧
          t.health.track = s.health.track ++ [⟨2, u, 1, s.nowUs⟩])) ∧
    (27 ≤ s.frame % 32 → Completes .trackExpiry s fun t =>
      t = { s with health := { s.health with track := s.health.track.filter fresh } }) ∧
    (s.frame % 32 < 27 → Completes .trackExpiry s fun t => t = s) ∧
    (∀ (i : Initiator) (unit : BitVec 15), unit.toNat < 17 → s.isRetired 2 unit.toNat = false →
      (i = .host ∨ i = .net → Completes (.healthRetire i 2 unit) s fun t => t.isRetired 2 unit.toNat = true) ∧
      (i ≠ .host → i ≠ .net → Completes (.healthRetire i 2 unit) s fun t => t = s)) ∧
    (∀ l : Fin 4, s.domOn .link = true → s.isRetired 4 l = false → s.testsBusy 4 = false →
      testsOf s.health.queued 4 = [] → s.health.due = [] →
      Completes (.laneErroredBlocks l) s fun t => (4, l.val) ∈ t.health.running ∧
        (l.val < 2 → t.rd F.TRESTLE_PORT_STAT_LINK l = 0) ∧ (2 ≤ l.val → t.rd (laneFld (l.val - 2)) = 0)) ∧
    Completes (.vgdLow low) s fun t => t =
      { (if low then s.motVgdLow else s) with power := { s.power with vgdLow := low } }

/-! ### Resets, clocks and the joint (R11, R14, R15, R32, R37, R38, R461 to R469) -/

/-- Every cause of a reset (R11, R14, R15, R32, R461, R463 to R469): the cause is recorded and added to the history, every
memory, point record, program and span is gone, no tick is generated, the keystone counts on, and a release samples the BOOT
pins (R471). What the specification leaves open in it is the model's choice: log entries 129, 130 and 201. -/
def Obligations.ResetCauses : Prop :=
  ∀ (s : State) (row : Instr × Nat × RstPhase × Bool) (a b : Fin 64) (ls : List (Fin 64)) (key : Word) (boot : BitVec 2)
    (pref : Bool),
    row ∈ [
      (.porAssert, 0, .asserted, true), (.rstPin boot pref, 1, .cleared, true),
      (.wdogExpiry, 2, .cleared, s.alive && s.bit F.SYS_WDOG_CTL_EN && !s.dbg.frozen),
      (.wdogKick key, 2, .cleared, s.alive && s.bit F.SYS_WDOG_CTL_EN && key != 0x5AFE),
      (.twinResetOrder, 3, .cleared, s.alive && s.domOn .deck && s.domOn .link && s.bit F.SYS_RST_CTL && !s.driving),
      (.softReset, 4, .cleared, s.alive), (.jointFrame (a :: b :: ls), 5, .cleared, s.alive && s.joint),
      (.jointSilence, 5, .cleared, s.alive && s.joint),
      (.bearMarkerMiss, 5, .cleared, s.alive && s.joint && s.running && s.span.misses == 1),
      (.pllLockLoss .pllD, 6, .cleared, true), (.pllLockLoss .pllB, 6, .cleared, true)] →
    row.2.2.2 = true → s.power.rst = .running →
    Completes row.1 s fun t =>
      t.rd F.SYS_RST_CAUSE_CAUSE = row.2.1 ∧ (t.rd F.SYS_RST_CAUSE_HIST).testBit row.2.1 = true ∧
      t.power.rst = row.2.2.1 ∧ t.deck = [] ∧ t.pts = {} ∧ t.pier = {} ∧ t.span = {} ∧ t.running = false ∧
      t.keep.count = s.keep.count ∧ t.keep.epoch = s.keep.epoch ∧
      (row.2.2.1 = .cleared → t.rd F.SYS_BOOT_STAT_PINS = t.power.bootPins.toNat)

/-- What does not reset the device (R11, R32, R37, R461, R467, R468): power-on reset releases with the pins sampled, a frame
without errors passes, the right key feeds the watchdog, CMD TWIN sends its order over a live link, a twin's order without
TWIN_OK is refused, the loss of PLL_N only stops its domain, and a relock sets its LOCK bit. What the specification leaves open
in it is the model's choice: log entries 129, 130 and 201. -/
def Obligations.ResetControl : Prop :=
  ∀ (s : State) (boot : BitVec 2) (pref : Bool),
    (s.power.rst = .asserted → Completes (.porRelease boot pref) s fun t =>
      Sets { s with power := { s.power with rst := .cleared, bootPins := boot, rolePin := pref } } t
        [(F.SYS_BOOT_STAT_PINS, 0, 0, boot.toNat), (F.TWIN_STAT_ROLE_PREF, 0, 0, pref.toNat)]) ∧
    (s.power.rst ≠ .asserted → Completes (.porRelease boot pref) s fun t =>
      t = { s with power := { s.power with bootPins := boot, rolePin := pref } }) ∧
    (s.serves [] →
      (Completes .wdogEnable s fun t => Sets s t [(F.SYS_WDOG_CTL_EN, 0, 0, 1)]) ∧
      (Completes (.wdogKick 0x5AFE) s fun t => Sets s t [(F.SYS_WDOG_KICK, 0, 0, 0x5AFE)]) ∧
      (Completes .twinResetCmd s fun t => Sets (if s.domOn .link && s.twinAlive then
          { s with twin := { s.twin with ordersOut := s.twin.ordersOut + 1 } } else s) t
        [(F.SYS_RST_CMD_KEY, 0, 0, 0xC3A5), (F.SYS_RST_CMD_CMD, 0, 0, 2)]) ∧
      (s.joint = true → Completes (.jointFrame []) s fun t => t = s) ∧
      (Completes (.pllLockLoss .pllN) s fun t => SetsThen s t
        [(F.SYS_PLL_STAT_PLL_N_LOST, 0, 0, 1), (F.SYS_PLL_STAT_PLL_N_LOCK, 0, 0, 0)]
        (fun v => v.event 0x008 [v.pllWord]) ∧ t.domOn .net = false) ∧
      (Completes (.pllLockLoss .lf) s fun t => SetsThen { s with power := { s.power with lfDead := true } } t
        [(F.SYS_PLL_STAT_LF_LOST, 0, 0, 1), (F.SYS_PLL_STAT_LF_RUN, 0, 0, 0)] fun v => v.event 0x008 [v.pllWord]) ∧
      (s.atStep .build = false → Completes (.pllRelock .pllL) s fun t => Sets s t [(F.SYS_PLL_STAT_PLL_L_LOCK, 0, 0, 1)]) ∧
      (Completes (.pllRelock .lf) s fun t => Sets { s with power := { s.power with lfDead := false } } t
        [(F.SYS_PLL_STAT_LF_RUN, 0, 0, 1)]) ∧
      (Completes .deviceIdLock s fun t => Sets s t [(F.SYS_DEVICE_ID_LOCK, 0, 0, 1)])) ∧
    (s.serves [.deck, .link] → s.bit F.SYS_RST_CTL = false →
      Completes .twinResetOrder s fun t => t = s.event 0x00A [s.rd F.TWIN_PARTNER_ID])

/-! ### Build-out, boot and power domains (R470 to R473) -/

/-- Build-out and boot (R471 to R473): with the PLLs locked the joint is up, without the joint or the PLLs the device is DEAD;
after the tests the boot step begins with the source the pins select; the slots are tried, the host is waited for, a bad
manifest gives its REASON; a good image runs and CONFIG follows. What the specification leaves open in it is the model's choice:
log entries 131 to 133. -/
def Obligations.BuildAndBoot : Prop :=
  ∀ (s : State) (ms : BitVec 16) (ma mb image : List Byte),
    let m := s.dBytes bootManifest 64
    let pins := s.rd F.SYS_BOOT_STAT_PINS
    let booted : List Byte → State → State → Prop := fun man u t =>
      sha256 (u.dBytes bootImage (manWord man 8)) = (man.drop 12).take 32 ∧
      ∃ i x, u.bootPrepare.examine 0 bootImage false true = .ok (i, x) ∧
        t = (u.bootPrepare.bootRun i).bootDone (manWord man 4) ((man.drop 12).take 32)
    (s.power.rst = .cleared → s.atStep .build = true → s.joint = false →
      (Completes (.buildOutStart 15 true) s fun t => t.joint = true ∧ t.pllsLocked = true ∧ t.power.rst = .running ∧
        t.bit F.CONV_REF_CTL = true) ∧
      (Completes (.buildOutStart 15 false) s fun t => t.joint = false ∧ t.atStep .dead = true)) ∧
    (s.serves [] → s.power.rst = .running → s.atStep .build = true → s.pllsLocked = false →
      Completes .buildPllTimeout s fun t => Sets s t [(F.SYS_START_STAT_STEP, 0, 0, 15)]) ∧
    (s.serves [] → s.power.rst = .running → s.atStep .build = true → s.joint = true → s.goodCores ≠ [] →
      Completes (.buildTestsDone ms []) s fun t => t.atStep .boot = true ∧ t.rd F.SYS_START_STAT_BUILD_MS = ms.toNat ∧
        t.bit F.EVR_STAT_RUNNING = true ∧ t.rd F.SYS_BOOT_STAT_STATE = (if pins = 1 ∨ pins = 2 then 2 else 1) ∧
        t.rd F.SYS_BOOT_STAT_SOURCE = (if pins = 1 then 1 else if pins = 2 then 2 else 0)) ∧
    (s.serves [.deck] → s.xspiBooting = true →
      (∀ a b, s.power.manifests = [] → manifestFault (ma.take 64) = some a → manifestFault (mb.take 64) = some b → pins = 3 →
        Completes (.xspiAnswer ma mb) s fun t => t.bootIs .waitHost = true ∧ t.rd F.SYS_BOOT_STAT_REASON = b % 16 ∧
          t.rd F.SYS_BOOT_STAT_SOURCE = 1) ∧
      (s.power.manifests = [] → s.power.tried = [] → manifestFault (ma.take 64) = none →
        (manifestFault (mb.take 64)).isSome = true →
        Completes (.xspiAnswer ma mb) s fun t => Sets { s with power := { s.power with
          manifests := [ma.take 64, mb.take 64], tried := [0] } } t [(F.SYS_BOOT_STAT_SLOT, 0, 0, 0)]) ∧
      (∀ k, s.power.tried.getLast? = some k →
        let man := s.power.manifests.getD k []
        let len := manWord man 8
        let copied := s.setDBytes bootImage ((image ++ List.replicate (len - image.length) 0).take len)
        (copied.bootCheck man).2 = none → Completes (.bootSlotLoaded image) s fun t => booted man copied t)) ∧
    (s.serves [] → s.xspiBooting = true → s.power.manifests = [] →
      Completes .noflash s fun t => t.rd F.SYS_BOOT_STAT_REASON = 5 ∧
        (pins = 3 → t.bootIs .waitHost = true) ∧ (pins ≠ 3 → t.bootIs .failed = true ∧ t.atStep .dead = true)) ∧
    (s.serves [.deck] → s.atStep .boot = true → s.bootIs .waitHost = true →
      (∀ r, manifestFault m = some r → r < 16 → Completes .bootGo s fun t =>
        Sets { s with power := { s.power with failReason := r } } t [(F.SYS_BOOT_STAT_REASON, 0, 0, r)]) ∧
      (manifestFault m = none → (s.bootCheck m).2 = none → Completes .bootGo s fun t => booted m s t)) ∧
    (∀ seq digest, s.sources = 0 → s.dbg.frozen = false → (s.bootDone seq digest).rd F.SYS_BOOT_STAT_STATE = 3 ∧
      (s.bootDone seq digest).rd F.SYS_BOOT_SEQ = seq % 2 ^ 32 ∧ (s.bootDone seq digest).atStep .config = true)

/-- Power domains (R470): a request for one domain is refused with its reason, or begun; when the switch completes the domain is
on or off, and what a domain that went off held is gone. What the specification leaves open in it is the model's choice: log
entries 135, 136, 198, 199 and 204. -/
def Obligations.PowerDomains : Prop :=
  ∀ (s : State) (d : Fin 10) (on : Bool) (map : BitVec 10), s.serves [] →
    let dom := domOf d
    let alone := ∀ k < 10, map.toNat.testBit k = if k = d.val then on else s.mapBit F.SYS_PD_CTL_ON k
    (alone → s.mapBit F.SYS_PD_CTL_ON d = !on → s.mapBit F.SYS_PD_STAT_BUSY d = false → on = true ∨ s.offRefusal dom = 0 →
      Completes (.pdSwitchRequest map) s fun t => t.mapBit F.SYS_PD_CTL_ON d = on ∧ t.mapBit F.SYS_PD_STAT_BUSY d = true ∧
        t.power.switching = s.power.switching ++ [(d.val, on)]) ∧
    (alone → s.mapBit F.SYS_PD_CTL_ON d = !on →
      s.mapBit F.SYS_PD_STAT_BUSY d = true ∨ on = false ∧ s.offRefusal dom ≠ 0 →
      Completes (.pdSwitchRequest map) s fun t => Sets s t [(F.SYS_PD_STAT_REFUSED, 0, 0, 1), (F.SYS_PD_STAT_DOMAIN, 0, 0, d),
        (F.SYS_PD_STAT_REASON, 0, 0, if s.mapBit F.SYS_PD_STAT_BUSY d then 6 else s.offRefusal dom)]) ∧
    ((s.power.switching.find? fun x => x.1 == d.val) = some (d.val, false) →
      Completes (.pdSwitchDone d []) s fun t => t.mapBit F.SYS_PD_STAT_IS_ON d = false ∧ t.mapBit F.SYS_PD_STAT_BUSY d = false ∧
        t.power.switching = (s.power.switching.filter fun x => x.1 != d.val) ∧
        (dom = .sol → t.sol = {}) ∧ (dom = .mot → t.mot = []) ∧ (dom = .fan → t.fan = []) ∧ (dom = .conv → t.conv = {}) ∧
        (dom = .meter → t.meter = {}) ∧ (dom = .deck → s.bit F.SYS_PD_CTL_DECK_RET = false → t.deck = [])) ∧
    ((s.power.switching.find? fun x => x.1 == d.val) = some (d.val, true) →
      Completes (.pdSwitchDone d []) s fun t => t.mapBit F.SYS_PD_STAT_IS_ON d = true ∧ t.mapBit F.SYS_PD_STAT_BUSY d = false)

/-! ### Register and deck accesses, descriptors and forces (R3 to R5, R13, R17, R19 to R21, R70, R74, R85, R86) -/

/-- Accesses from outside the piers (R4, R5, R13, R18, R22, R26): a register write to the bearing die is posted and takes effect
later, oldest first, one to the deck die takes effect at once, and one that is refused changes nothing but the answer; a read of
the bearing die first lets the initiator's posted writes take effect and then answers the word, 0 at an offset without a
register; a deck request waits while the commit window closes its region, and else the deck answers and stores bytes where its
rules admit the initiator. A read, and the read of each quarter that a write covers in part, finds the ECC errors there, and an
uncorrectable one is refused (R17, R21); an answer carries every byte read (R89). What the specification leaves open in it is
the model's choice: log entries 8, 12 to 18, 52 and 194. -/
def Obligations.BusAndDeck : Prop :=
  ∀ (s : State) (i : Initiator) (addr data : Word) (ecc : Ecc), s.serves [] →
    let a := addr.toNat
    let d := s.drainPosted (initCode i)
    (onBearing a = true → s.ctlAccess i a = .ok →
      Completes (.registerWrite i addr data) s fun t =>
        t = { s with posted := s.posted ++ [(⟨initCode i, a, data⟩ : Posted)] }.answer i a [] false) ∧
    (onBearing a = false → s.ctlAccess i a = .ok →
      Completes (.registerWrite i addr data) s fun t => t = (s.ctlPut i a data.toNat).answer i a [] false) ∧
    (s.ctlAccess i a ≠ .ok → Completes (.registerWrite i addr data) s fun t => t = s.answer i a [] true) ∧
    (a = F.DECK_FORCE_VAL.base → s.domOn .deck = true →
      Completes (.registerWrite i addr data) s fun t =>
        Sets (s.answer i a [] false) t [(F.DECK_FORCE_VAL, 0, 0, data.toNat)]) ∧
    (∀ p rest, s.posted = p :: rest →
      (s.ctlAccess (initOf p.initiator) p.addr = .ok →
        Completes .bearingWriteEffect s fun t =>
          t = { s with posted := rest }.ctlPut (initOf p.initiator) p.addr p.data.toNat) ∧
      (s.ctlAccess (initOf p.initiator) p.addr ≠ .ok →
        Completes .bearingWriteEffect s fun t => t = { s with posted := rest }) ∧
      (p.addr = F.METER_LOAD_LO.base → s.domOn .meter = true → s.joint = true →
        Completes .bearingWriteEffect s fun t =>
          Sets { s with posted := rest } t [(F.METER_LOAD_LO, 0, 0, p.data.toNat)])) ∧
    (s.posted = [] → Completes .bearingWriteEffect s fun t => t = s) ∧
    (∀ r x y, onBearing a = true → s.ctlAccess i a = .ok → findReg a = some (r, x, y) →
      Completes (.bearingReadDone i addr) s fun t =>
        t = (d.regRead i r x y).2.answer i a (toBytes (d.regRead i r x y).1 4) false) ∧
    (onBearing a = true → s.ctlAccess i a = .ok → findReg a = none →
      Completes (.bearingReadDone i addr) s fun t => t = d.answer i a (toBytes 0 4) false) ∧
    (a = F.METER_LOAD_LO.base → s.domOn .meter = true → s.joint = true → s.posted = [] →
      Completes (.bearingReadDone i addr) s fun t => t = s.answer i a (toBytes (s.rd F.METER_LOAD_LO) 4) false) ∧
    (onBearing a = true → s.ctlAccess i a ≠ .ok → Completes (.bearingReadDone i addr) s fun t => t = s.answer i a [] true) ∧
    (onBearing a = false → Completes (.bearingReadDone i addr) s fun t => t = s) ∧
    (∀ req, notPier i = true → s.busWaits i req = true →
      Completes (.deckAccess i req ecc) s fun t => t = { s with busHeld := s.busHeld ++ [⟨i, req, ecc⟩] }) ∧
    (∀ len, notPier i = true → s.busWaits i (.read addr len) = false →
      (s.deckReadOk i a len = true → s.eccClean a len = true →
        Completes (.deckAccess i (.read addr len) .ok) s fun t => t = s.answer i a (s.deckBytes a len) false) ∧
      (s.deckReadOk i a len = true →
        Completes (.deckAccess i (.read addr len) ecc) s fun t =>
          let bad := s.eccBad a len ecc
          t = (s.eccFound a len ecc).answer i a (if bad then [] else s.deckBytes a len) bad) ∧
      (s.deckReadOk i a len = false →
        Completes (.deckAccess i (.read addr len) ecc) s fun t => t = s.answer i a [] true)) ∧
    (∀ bs : List Byte, notPier i = true → s.busWaits i (.write addr bs) = false →
      let clean := ∀ q ∈ partQuarters a bs.length, s.eccClean q 8 = true
      let (bad, u) := s.partRead a bs.length ecc
      (s.deckWriteOk i a bs.length = true → clean → deckRamBase ≤ a →
        Completes (.deckAccess i (.write addr bs) .ok) s fun t =>
          t.resp = (s.answer i a [] false).resp ∧ (∀ f j k, t.rd f j k = s.rd f j k) ∧
          ∀ b, t.dByte b = if a ≤ b ∧ b < a + bs.length then bs.getD (b - a) 0 else s.dByte b) ∧
      (s.deckWriteOk i a bs.length = true → clean → a < deckRamBase →
        Completes (.deckAccess i (.write addr bs) .ok) s fun t =>
          t = ((s.enginePut a bs).eccClear a bs.length).answer i a [] false) ∧
      (s.deckWriteOk i a bs.length = true →
        Completes (.deckAccess i (.write addr bs) ecc) s fun t =>
          t = (if bad then u else u.deckPut a bs).answer i a [] bad) ∧
      (s.deckWriteOk i a bs.length = false →
        Completes (.deckAccess i (.write addr bs) ecc) s fun t => t = s.answer i a [] true)) ∧
    (∀ req, notPier i = false → Completes (.deckAccess i req ecc) s fun t => t = s)

/-- The point engine's command registers (R70, R74, R85, R86, R92 to R94, R119, R369): descriptors read, staged or refused, and
locked; forces and releases by the host and the network only, refused with a reason, ignored and counted on a standby, whose
RELEASE_ALL releases the LOCAL points alone, or queued for their tick; block reads started, refused, cancelled in time or too
late, copied and released. What the specification leaves open in it is the model's choice: log entries 37 to 43 and 194. -/
def Obligations.DeckCommands : Prop :=
  ∀ (s : State) (i : Initiator) (n : Fin 3), s.serves [.deck] →
    let p := s.rd F.DECK_DESC_PT
    let d := Desc.ofWords fun k => s.rd F.DECK_DESC_DATA k
    let q := s.rd F.DECK_FORCE_PT
    let v := BitVec.ofNat 32 (s.rd F.DECK_FORCE_VAL)
    let due := if s.writeClosed then s.frame + 2 else s.frame + 1
    let queued : ForceCmd → State → Prop := fun c t =>
      t.pts = { s.pts with forceCmds := s.pts.forceCmds ++ [c] } ∧ t.rd F.DECK_FORCE_STAT_HELD = s.writeClosed.toNat
    let counted := (F.TWIN_STBY_REFUSED, 0, 0, min (2 ^ 32 - 1) (s.rd F.TWIN_STBY_REFUSED + 1))
    let held := (F.DECK_FORCE_STAT_HELD, 0, 0, s.writeClosed.toNat)
    let first := s.rd F.DECK_BLK_FIRST n
    let count := s.rd F.DECK_BLK_SEL n
    let why := s.blkReason n first count
    let job := Sparse.find? s.pts.blk n
    let late := Completes (.deckBlkCancel n) s fun t => Sets s t [(F.DECK_BLK_STAT_ABORT_LATE, n, 0, 1)]
    (Completes .descRead s fun t =>
      Sets s t ((List.range 8).map fun k => (F.DECK_DESC_DATA, k, 0, (s.desc p).word k % 2 ^ 32))) ∧
    (s.descRefused p d = true → Completes .descWrite s fun t => Sets s t [(F.DECK_DESC_STAT_REFUSED, 0, 0, 1)]) ∧
    (s.descRefused p d = false →
      Completes .descWrite s fun t => t.pts = { s.pts with staged := Sparse.put s.pts.staged p d } ∧ t.rf = s.rf) ∧
    (Completes .descLockSet s fun t => Sets s t [(F.DECK_CTL, 0, 0, 1)]) ∧
    (i = .host ∨ i = .net →
      (s.forceReason q = 0 → s.standbyIgnores q = false →
        Completes (.force i) s fun t =>
          queued { pt := some q, due := due, val := some ⟨v, s.frame, s.offset, s.devId⟩ } t) ∧
      (s.standbyIgnores q = true → Completes (.force i) s fun t => Sets s t [counted]) ∧
      (s.forceReason q ≠ 0 → s.standbyIgnores q = false →
        Completes (.force i) s fun t =>
          SetsRaise s t [(F.DECK_FORCE_STAT_REASON, 0, 0, s.forceReason q), (F.DECK_FORCE_STAT_REFUSED, 0, 0, 1)]
            0x224 0xFF [s.forceReason q]) ∧
      (s.coherent = true → s.standbyIgnores q = false →
        Completes (.releaseA i) s fun t => queued { pt := some q, due := due, val := none } t) ∧
      (s.coherent = true → s.standbyIgnores q = true → Completes (.releaseA i) s fun t => Sets s t [held, counted]) ∧
      (s.coherent = true → s.standingBy = false →
        Completes (.releaseAll i) s fun t => queued { pt := none, due := due, val := none } t) ∧
      (s.coherent = true → s.standingBy = true →
        let released := s.forceHolders.filter fun p => !s.standbyIgnores p
        Completes (.releaseAll i) s fun t => t.pts = { s.pts with
            forceCmds := s.pts.forceCmds ++ released.map (fun p => { pt := some p, due := due, val := none }) } ∧
          t.rd F.TWIN_STBY_REFUSED = if s.forceHolders.any s.standbyIgnores
            then min (2 ^ 32 - 1) (s.rd F.TWIN_STBY_REFUSED + 1) else s.rd F.TWIN_STBY_REFUSED) ∧
      (s.coherent = false → Completes (.releaseA i) s (Sets s · [held]) ∧ Completes (.releaseAll i) s (Sets s · [held]))) ∧
    (i ≠ .host → i ≠ .net → Completes (.force i) s (· = s) ∧ Completes (.releaseA i) s (· = s) ∧
      Completes (.releaseAll i) s (· = s)) ∧
    (why = 0 →
      Completes (.deckBlkStart n) s fun t =>
        Sets { s with pts := { s.pts with
            blk := Sparse.put s.pts.blk n ⟨first, count, s.rd F.DECK_BLK_BUF n * 65536, none⟩ } } t
          [(F.DECK_BLK_STAT_REASON, n, 0, 0), (F.DECK_BLK_STAT_ABORT_LATE, n, 0, 0), (F.DECK_BLK_STAT_STATE, n, 0, 1)]) ∧
    (why ≠ 0 → why ≠ 4 →
      Completes (.deckBlkStart n) s fun t =>
        Sets s t [(F.DECK_BLK_STAT_REASON, n, 0, why), (F.DECK_BLK_STAT_STATE, n, 0, 4)]) ∧
    (why = 4 → Completes (.deckBlkStart n) s fun t => Sets s t [(F.DECK_BLK_STAT_REASON, n, 0, 4)]) ∧
    (s.rd F.DECK_BLK_STAT_STATE n = 1 → job.bind (·.tick) = none →
      Completes (.deckBlkCancel n) s fun t =>
        Sets { s with pts := { s.pts with blk := Sparse.del s.pts.blk n } } t [(F.DECK_BLK_STAT_STATE, n, 0, 3)]) ∧
    (s.rd F.DECK_BLK_STAT_STATE n = 1 → job.bind (·.tick) ≠ none → late) ∧
    (s.rd F.DECK_BLK_STAT_STATE n = 2 → late) ∧
    (s.rd F.DECK_BLK_STAT_STATE n ≠ 1 → s.rd F.DECK_BLK_STAT_STATE n ≠ 2 →
      Completes (.deckBlkCancel n) s fun t => t = s) ∧
    (s.rd F.DECK_BLK_STAT_STATE n ≠ 1 →
      Completes (.deckBlkRelease n) s fun t => Sets s t [(F.DECK_BLK_STAT_STATE, n, 0, 0)]) ∧
    (s.rd F.DECK_BLK_STAT_STATE n = 1 → Completes (.deckBlkRelease n) s fun t => t = s) ∧
    (∀ j f, job = some j → j.tick = some f → s.running = false ∨ s.inWin .commit = false → deckRamBase ≤ j.base →
      Completes (.blkCopyDone n) s fun t => t.rd F.DECK_BLK_STAT_STATE n = 2 ∧ t.rd F.DECK_BLK_FRAME_LO n = f % 2 ^ 32 ∧
        t.rd F.DECK_BLK_FRAME_HI n = f / 2 ^ 32 % 2 ^ 16 ∧ t.pts = { s.pts with blk := Sparse.del s.pts.blk n } ∧
        ∀ k < j.count * 16, t.dByte (j.base + k) = s.deckByte (j.first * 16 + k)) ∧
    (job.bind (·.tick) = none ∨ s.running = true ∧ s.inWin .commit = true →
      Completes (.blkCopyDone n) s fun t => t = s)

/-! ### PIERCTL: loading, swap, overlays and migration (R104, R110, R113, R115 to R120, R123, R127, R130) -/

/-- Loading and the swap (R110, R113, R115 to R118, R130): LOAD waits its turn or is refused; an image that passes admission is
announced and its copy begins, into the idle bank or to be installed, and one that fails is refused with its reason; the copy
stages the image or makes it active; ARM and CANCEL act in time or are refused or late; and STOP acts at the next tick. What the
specification leaves open in it is the model's choice: log entries 65 to 76, 161, 164, 165 and 205. -/
def Obligations.LoadAndSwap : Prop :=
  ∀ (s : State) (n : Fin 24), s.serves [.deck] →
    let k := s.sch n
    let banked := s.bit F.PIERCTL_PIER_CFG_BANKED n
    let src := s.rd F.PIERCTL_LOAD_SRC * 256
    let refused : Nat → State → Prop := fun why t =>
      SetsRaise s t [(F.PIERCTL_LOAD_STAT_STATE, 0, 0, 6), (F.PIERCTL_LOAD_STAT_REASON, 0, 0, why)] 0x211 n []
    let accepted : Nat → List (Fld × Nat × Nat × Nat) := fun st => [(F.PIERCTL_LOAD_STAT_REASON, 0, 0, 0),
      (F.PIERCTL_LOAD_STAT_ABORT_LATE, 0, 0, 0), (F.PIERCTL_LOAD_STAT_STATE, 0, 0, st)]
    let begun := s.modSch n fun k => { k with swapDone := false }
    let f := s.rd48 F.PIERCTL_SWAP_FRAME_LO F.PIERCTL_SWAP_FRAME_HI
    let c := s.physOf n
    let late := Completes (.swapCancel n) s fun t => Sets s t [(F.PIERCTL_LOAD_STAT_ABORT_LATE, 0, 0, 1)]
    (k.swapAt ≠ none → Completes (.loadSched n) s fun t => refused 16 t) ∧
    (k.swapAt = none → s.loadBarred n banked = true → Completes (.loadSched n) s fun t => refused 17 t) ∧
    (k.swapAt = none → s.loadBarred n banked = false → s.pier.loader = none →
      Completes (.loadSched n) s fun t =>
        Sets { begun with pier := { begun.pier with loader := some (.admitting n src banked) } } t
          (accepted 1 ++ [(F.PIERCTL_STAT_LOADER_BUSY, 0, 0, 1)])) ∧
    (k.swapAt = none → s.loadBarred n banked = false → s.pier.loader ≠ none →
      Completes (.loadSched n) s fun t =>
        Sets { begun with pier := { begun.pier with loadQueue := s.pier.loadQueue ++ [(n.val, src, banked)] } } t
          (accepted 1)) ∧
    (∀ a b, s.pier.loader = some (.admitting n a b) → s.loadBarred n b = true →
      Completes .admissionDone s fun t => ∃ v, refused 17 v ∧ t = v.loaderNext) ∧
    (∀ a b e, s.pier.loader = some (.admitting n a b) → s.loadBarred n b = false → s.examine n a b false = .error e →
      e.reason < 32 →
      (Completes .admissionDone s fun t => t.rd F.PIERCTL_LOAD_STAT_STATE = 6 ∧ t.rd F.PIERCTL_LOAD_STAT_REASON = e.reason ∧
        t.pier.sched = s.pier.sched ∧ t.pier.tcm = s.pier.tcm) ∧
      (e.at' = none → e.wcet = none → Completes .admissionDone s fun t => ∃ v, refused e.reason v ∧ t = v.loaderNext)) ∧
    (∀ a b i x, s.pier.loader = some (.admitting n a b) → s.loadBarred n b = false → s.examine n a b false = .ok (i, x) →
      (s.installs n b = false → Completes .admissionDone s fun t =>
        ∃ v, SetsRaise s v (x.toList.map fun w => (F.PIERCTL_LOAD_WCET, 0, 0, w % 2 ^ 32)) 0x210 n [] ∧
          t = { v with pier := { v.pier with loader := some (.copying n i false) } }) ∧
      (s.installs n b = true → Completes .admissionDone s fun t => t.pier.loader = some (.copying n i true))) ∧
    (∀ i : Image, s.pier.loader = some (.copying n i false) →
      Completes .bankCopyDone s fun t => (t.sch n).staged = some i ∧ (t.sch n).active = k.active ∧
        t.rd F.PIERCTL_PIER_STAT_STAGED n = 1 ∧ t.rd F.PIERCTL_LOAD_STAT_STATE = 2) ∧
    (∀ i : Image, s.pier.loader = some (.copying n i true) → i.codeLen ≤ tcmLimit i.banked → i.dataLen ≤ tcmLimit i.banked →
      Completes .bankCopyDone s fun t => (t.sch n).active = some i ∧ (t.sch n).startDue = true ∧
        t.schIs n .idle = true ∧ t.rd F.PIERCTL_LOAD_STAT_STATE = 4 ∧
        (∀ x < i.codeLen, t.tcmByte (c * 0x40000 + x) = s.dByte (i.src + 64 + x)) ∧
        (∀ x < i.dataLen, t.tcmByte (c * 0x40000 + 0x20000 + x) = s.dByte (i.src + 64 + i.codeLen + x))) ∧
    (k.staged = none → Completes (.swapArm n) s fun t => refused 18 t) ∧
    (k.staged ≠ none → f < s.frame + 2 → Completes (.swapArm n) s fun t => refused 19 t) ∧
    (k.staged ≠ none → s.frame + 2 ≤ f → k.swapAt ≠ none ∨ s.admitting = true →
      Completes (.swapArm n) s fun t => refused 16 t) ∧
    (∀ i, k.staged = some i → s.frame + 2 ≤ f → k.swapAt = none → s.admitting = false →
      Completes (.swapArm n) s fun t => SetsThen (s.modSch n fun k => { k with swapAt := some f, swapDone := false }) t
        (accepted 3 ++ [(F.PIERCTL_PIER_STAT_SWAP_ARMED, n.val, 0, 1)]) (·.mirror (.swap n f i.crc))) ∧
    (∀ at', k.swapAt = some at' → s.running = false ∨ s.frame + 1 < at' →
      Completes (.swapCancel n) s fun t => SetsThen (s.modSch n fun k => { k with swapAt := none }) t
        (accepted 5 ++ [(F.PIERCTL_PIER_STAT_SWAP_ARMED, n.val, 0, 0)]) (·.mirror (.swap n 0 0))) ∧
    (∀ at', k.swapAt = some at' → s.running = true → at' ≤ s.frame + 1 → late) ∧
    (k.swapAt = none → k.swapDone = true → late) ∧
    (k.swapAt = none → k.swapDone = false → Completes (.swapCancel n) s fun t => t = s) ∧
    (s.schIs n .running = true ∨ s.schIs n .idle = true →
      Completes (.stopSched n) s fun t => Sets (s.modSch n fun k => { k with stopDue := true }) t
        [(F.PIERCTL_LOAD_STAT_REASON, 0, 0, 0), (F.PIERCTL_LOAD_STAT_ABORT_LATE, 0, 0, 0)]) ∧
    (s.schIs n .running = false → s.schIs n .idle = false → Completes (.stopSched n) s fun t => t = s)

/-- Background tasks, overlays and migration (R104, R120, R123, R127, R128): a slice that is spent ends the turn, stopped
background tasks run again, an overlay inside its region is copied and one outside is refused, and a schedule goes on on its
spare, or is lost when its image's CRC no longer holds. What the specification leaves open in it is the model's choice: log
entries 48, 49, 70 to 76 and 206. -/
def Obligations.OverlayAndMigration : Prop :=
  ∀ (s : State) (n : Fin 24) (mask : BitVec 4) (c : CoreId), s.serves [.deck] →
    let src := s.rd F.PIERCTL_PIER_OVL_SRC n * 4
    let off := s.rd F.PIERCTL_PIER_OVL_DST n * 4
    let words := s.rd F.PIERCTL_PIER_OVL_CTL_WORDS n
    let busy := s.bit F.PIERCTL_PIER_OVL_CTL_BUSY n
    let fits := ∃ i : Image, (s.sch n).active = some i ∧ i.ovlOff ≤ off ∧ off + 4 * words ≤ i.ovlOff + i.ovlLen ∧
      inOverlay src (4 * words) = true
    let base := s.physOf n * 0x40000 + (if s.bankB (s.physOf n) then 0x10000 else 0)
    let copy := s.pier.overlay.find? fun x => x.1 == n.val
    (s.domOn (coreDom c) = true → s.inBackground c = true →
      Completes (.bpSliceExpiry c) s fun t =>
        t = (s.setCore c { (s.core c).spend (s.core c).slice with pair := none }).bpLeave c) ∧
    (s.domOn (coreDom c) = true → s.inBackground c = false → Completes (.bpSliceExpiry c) s fun t => t = s) ∧
    (∀ i : Image, (s.sch n).active = some i →
      Completes (.bpRestart n mask) s fun t =>
        ∀ e ∈ i.tasks, e.background = true → e.order < 4 → mask.toNat.testBit e.order = true →
          t.mapBit F.PIERCTL_PIER_BP_CTL_RUNNING e.order n = true) ∧
    ((s.sch n).active = none → Completes (.bpRestart n mask) s fun t => t = s.bpTurn (s.physOf n)) ∧
    (busy = false → fits →
      Completes (.ovlStart n) s fun t =>
        Sets { s with pier := { s.pier with overlay := s.pier.overlay ++ [(n.val, src, off, words)] } } t
          [(F.PIERCTL_PIER_OVL_CTL_BUSY, n, 0, 1)]) ∧
    (busy = false → ¬ fits →
      Completes (.ovlStart n) s fun t => Sets s t [(F.PIERCTL_PIER_OVL_CTL_REFUSED, n, 0, 1)]) ∧
    (busy = true → Completes (.ovlStart n) s fun t => t = s) ∧
    (∀ a o w, copy = some (n.val, a, o, w) →
      Completes (.ovlCopyDone n) s fun t => t.rd F.PIERCTL_PIER_OVL_CTL_BUSY n = 0 ∧
        t.pier.overlay = (s.pier.overlay.filter fun x => x.1 != n.val) ∧
        ∀ b, t.tcmByte b = if base + o ≤ b ∧ b < base + o + 4 * w then s.dByte (a + (b - (base + o))) else s.tcmByte b) ∧
    (copy = none → Completes (.ovlCopyDone n) s fun t => t = s) ∧
    (∀ old new, s.pier.loader = some (.migrating n old new) → new < 24 →
      ((∀ i ∈ (s.sch n).images, s.imgCrc i.src i.len = i.crc) →
        Completes .migrationCopyDone s fun t => t.physOf n = new ∧ (t.sch n).resumeDue = true ∧
          (t.sch n).active = (s.sch n).active ∧ (t.sch n).staged = (s.sch n).staged) ∧
      ((∃ i ∈ (s.sch n).images, s.imgCrc i.src i.len ≠ i.crc) →
        Completes .migrationCopyDone s fun t => t.schIs n .retired = true ∧ new ∈ t.pier.spares ∧
          (t.sch n).active = (s.sch n).active))

/-! ### The host port and Ethernet service access (R477 to R481, R492) -/

/-- Host commands on memory and registers (R477, R478, R480): the words are read or written at ascending addresses, a burst
of no word or of more than 256 fails with LENGTH, an access the map refuses fails with REFUSED, STATUS clears the failure of
the frame before, and an access to a region that the commit window closes waits for its end (R18). What the specification
leaves open in it is the model's choice: log entries 143 to 145, 176 and 194. -/
def Obligations.HostAccesses : Prop :=
  ∀ (s : State) (addr data : Word) (n : BitVec 16) (ds : List Word), s.serves [.net, .deck] → s.port.waiting = [] →
    let a := addr.toNat
    let word : Nat → List Byte := fun k => toBytes (leBytes s.deckByte (a + 4 * k) 4) 4
    let readable : Nat → Prop := fun k => s.deckReadOk .host (a + 4 * k) 4 = true ∧ s.eccClean (a + 4 * k) 4 = true
    let waits : HostCmd → Bool := s.hostWaits
    let putOff : Instr → HostCmd → Prop := fun cmd c =>
      Completes cmd s fun t => t = { s with port := { s.port with waiting := [.frame c false] } }
    (s.port.lengthOwed = false →
      Completes .status s fun t => Answered s t [(F.HOSTP_STAT_PREV_FAIL, 0, 0, 0)] .ok false []) ∧
    (waits (.rd addr) = true → putOff (.rd addr) (.rd addr)) ∧
    (waits (.wr addr data) = true → putOff (.wr addr data) (.wr addr data)) ∧
    (waits (.rdBurst addr n) = true → putOff (.rdBurst addr n) (.rdBurst addr n)) ∧
    (waits (.wrBurst addr ds) = true → putOff (.wrBurst addr ds) (.wrBurst addr ds)) ∧
    (a % 4 = 0 → readable 0 → waits (.rd addr) = false → Completes (.rd addr) s fun t => Answered s t [] .ok false (word 0)) ∧
    (a % 4 = 0 → a < deckEnd → s.deckReadOk .host a 4 = false → waits (.rd addr) = false →
      Completes (.rd addr) s fun t => Answered s t [] .refused false [0, 0, 0, 0]) ∧
    (onBearing a = true → s.ctlAccess .host a = .ok →
      Completes (.wr addr data) s fun t =>
        Answered { s with posted := s.posted ++ [(⟨initCode .host, a, data⟩ : Posted)] } t [] .ok false []) ∧
    (s.deckWriteOk .host a 4 = true → deckRamBase ≤ a → a % 4 = 0 → (∀ q ∈ partQuarters a 4, s.eccClean q 8 = true) →
      waits (.wr addr data) = false →
      Completes (.wr addr data) s fun t =>
        (t.port.status = t.statusByte (s.bit F.HOSTP_STAT_PREV_FAIL) .ok false ∧ t.port.data = []) ∧
        ∀ b, t.dByte b = if a ≤ b ∧ b < a + 4 then (toBytes data.toNat 4).getD (b - a) 0 else s.dByte b) ∧
    (a % 4 = 0 → 1 ≤ n.toNat → n.toNat ≤ 256 → (∀ k < n.toNat, readable k) → waits (.rdBurst addr n) = false →
      Completes (.rdBurst addr n) s fun t => Answered s t [] .ok false ((List.range n.toNat).flatMap word)) ∧
    (n.toNat = 0 ∨ 256 < n.toNat → Completes (.rdBurst addr n) s fun t => Answered s t [] .length false []) ∧
    (ds.length = 0 ∨ 256 < ds.length → Completes (.wrBurst addr ds) s fun t => Answered s t [] .length false []) ∧
    (1 ≤ ds.length → ds.length ≤ 256 → a % 4 = 0 → a + 4 * ds.length ≤ 2 ^ 32 →
      (∀ k < ds.length, onBearing (a + 4 * k) = true ∧ s.ctlAccess .host (a + 4 * k) = .ok) →
      Completes (.wrBurst addr ds) s fun t =>
        Answered { s with posted := s.posted ++ (List.range ds.length).map fun k =>
          (⟨initCode .host, a + 4 * k, ds.getD k 0⟩ : Posted) } t [] .ok false [])

/-- Host commands on points, block read buffer 0 and the recorder (R75, R85, R86, R89, R94, R434, R436, R478 to R480): a point
is read from the seen plane and written as its owner's write, blocks are started and read while READY, forces and releases are
queued for their tick, a frame cut before its operands are there does nothing but fail, one cut later runs without an answer,
and an opcode that R478 does not list is answered BAD_CMD. What the specification leaves open in it is the model's choice: log
entries 44, 143 to 145, 176 and 211. -/
def Obligations.HostCommands : Prop :=
  ∀ (s : State) (p v : Word) (q : Byte) (index n : BitVec 16), s.serves [.net, .deck] → s.port.waiting = [] →
    let done : State → HostRes → Bool → Prop := fun t r held =>
      t.port.status = t.statusByte (s.bit F.HOSTP_STAT_PREV_FAIL) r held ∧ t.rd F.HOSTP_STAT_LAST = r.code
    let d := s.desc p.toNat
    let hosts := d.cls = 6 ∧ d.ownerId = 0
    let good := q.toNat ≠ 4 ∧ q.toNat < 6
    let due := if s.writeClosed then s.frame + 2 else s.frame + 1
    let queued : ForceCmd → State → Prop := fun c t => done t .ok s.writeClosed ∧ t.pts = { s.pts with
      forceCmds := s.pts.forceCmds ++ [c] }
    let from' := s.rd F.DECK_BLK_BUF 0 * 65536 + 16 * index.toNat
    (p.toNat < 2 ^ 17 → s.deckReadOk .host (16 * p.toNat) 16 = true → s.eccClean (16 * p.toNat) 16 = true →
      s.hostWaits (.ptRead p) = false →
      Completes (.ptRead p) s fun t => Answered s t [] .ok false (s.deckBytes (16 * p.toNat) 16)) ∧
    (s.hostWaits (.ptRead p) = true → Completes (.ptRead p) s fun t =>
      t = { s with port := { s.port with waiting := [.frame (.ptRead p) false] } }) ∧
    (2 ^ 17 ≤ p.toNat → s.hostWaits (.ptRead p) = false → Completes (.ptRead p) s fun t => Answered s t [] .refused false []) ∧
    (p.toNat < 2 ^ 17 → s.coherent = true → s.standbyIgnores p.toNat = false → hosts → good →
      Completes (.ptWrite p v q) s fun t => ∃ u,
        u = s.acceptWrite p.toNat (s.record d v (Quality.ofCode q.toNat) (s.frame, s.offset)) ∧
        Answered u t [] .ok s.writeClosed []) ∧
    (p.toNat < 2 ^ 17 → s.coherent = true → s.standbyIgnores p.toNat = false → ¬hosts →
      Completes (.ptWrite p v q) s fun t => done t .owner false ∧ t.pts = s.pts ∧
        t.rd F.DECK_OWN_REFUSED = min (2 ^ 32 - 1) (s.rd F.DECK_OWN_REFUSED + 1) ∧
        t.rd F.DECK_OWN_LAST_WRITER = 6 ∧ t.rd F.DECK_OWN_LAST_POINT = p.toNat) ∧
    (p.toNat < 2 ^ 17 → s.coherent = false →
      Completes (.ptWrite p v q) s fun t => Answered s t [] .notCoherent false []) ∧
    (s.blkReason 0 p.toNat n.toNat = 0 →
      Completes (.blkStart p n) s fun t => done t .ok false ∧ t.rd F.DECK_BLK_STAT_STATE 0 = 1 ∧
        Sparse.find? t.pts.blk 0 = some ⟨p.toNat, n.toNat, s.rd F.DECK_BLK_BUF 0 * 65536, none⟩) ∧
    (s.blkReason 0 p.toNat n.toNat = 4 → Completes (.blkStart p n) s fun t => done t .busy false ∧ t.pts = s.pts) ∧
    (n.toNat = 0 ∨ 64 < n.toNat → Completes (.blkRead index n) s fun t => Answered s t [] .length false []) ∧
    (1 ≤ n.toNat → n.toNat ≤ 64 → s.rd F.DECK_BLK_STAT_STATE 0 = 2 → s.deckReadOk .host from' (16 * n.toNat) = true →
      s.eccClean from' (16 * n.toNat) = true →
      Completes (.blkRead index n) s fun t => Answered s t [] .ok false (s.deckBytes from' (16 * n.toNat))) ∧
    (1 ≤ n.toNat → n.toNat ≤ 64 → s.rd F.DECK_BLK_STAT_STATE 0 ≠ 2 →
      Completes (.blkRead index n) s fun t => Answered s t [] .busy false (List.replicate (16 * n.toNat) 0)) ∧
    (p.toNat < 2 ^ 17 → s.forceReason p.toNat = 0 → s.standbyIgnores p.toNat = false →
      Completes (.hostForce p v) s fun t =>
        queued { pt := some p.toNat, due := due, val := some ⟨v, s.frame, s.offset, s.devId⟩ } t) ∧
    (p.toNat < 2 ^ 17 → s.coherent = true → s.standbyIgnores p.toNat = false →
      Completes (.hostRelease p) s fun t => queued { pt := some p.toNat, due := due, val := none } t) ∧
    (s.coherent = true → s.standingBy = false →
      Completes .hostReleaseAll s fun t => queued { pt := none, due := due, val := none } t) ∧
    (Completes .evrRead s fun t => t.port.data.length = 128 ∧ done t .ok false) ∧
    (seqDist (s.rd F.EVR_CUR_ACK 0) v.toNat ≤ seqDist (s.rd F.EVR_CUR_ACK 0) (s.rd F.EVR_HEAD) →
      Completes (.evrAck v) s fun t => done t .ok false ∧ t.rd F.EVR_CUR_ACK 0 = v.toNat) ∧
    (seqDist (s.rd F.EVR_CUR_ACK 0) (s.rd F.EVR_HEAD) < seqDist (s.rd F.EVR_CUR_ACK 0) v.toNat →
      Completes (.evrAck v) s fun t => Answered s t [(F.EVR_CUR_STAT_ACK_REFUSED, 0, 0, 1)] .refused false []) ∧
    (Completes (.hostFrameAbort none) s fun t =>
      Sets { s with port := { s.port with lengthOwed := true } } t [(F.HOSTP_STAT_LAST, 0, 0, 6),
        (F.HOSTP_STAT_BADCMD, 0, 0, min 255 (s.rd F.HOSTP_STAT_BADCMD + 1))]) ∧
    (Completes (.hostFrameAbort (some .bad)) s fun t => Answered s t [] .badCmd false []) ∧
    (2 ^ 17 ≤ p.toNat → s.hostWaits (.ptRead p) = false → Completes (.hostFrameAbort (some (.ptRead p))) s fun t =>
      Sets s t [(F.HOSTP_STAT_LAST, 0, 0, 1), (F.HOSTP_STAT_PREV_FAIL, 0, 0, 1),
        (F.HOSTP_STAT_TIMEOUTS, 0, 0, min 255 (s.rd F.HOSTP_STAT_TIMEOUTS + 1))])

/-! ### The SPJ-3100 window (R482 to R487) -/

/-- The window (R482 to R487): reads answer from the snapshot or, while it is disabled, 0; the low byte of a wide field latches
its high byte; a write commits its field for the next tick; a low byte is held for its high byte, and abandoned by a write of
PAGE; a snapshot is shown once complete. What the specification leaves open in it is the model's choice: log entries 147 and
148. -/
def Obligations.Window : Prop :=
  ∀ (s : State) (a d : Byte), s.serves [.net] →
    let z := s.port.page
    let on := s.bit F.HOSTP_W31_CTL = true
    let reads : Instr → Nat → Prop := fun c b => Completes c s fun t => t = { s with port := { s.port with w31Byte := b } }
    let commits : Instr → Nat → Nat → Prop := fun c f x =>
      s.w31Bound z f = true → Completes c s fun t =>
        t.rf = s.rf ∧ t.port.held = none ∧ t.port.commits = (s.port.commits.filter fun y => y.field != z * 8 + f) ++
          [(⟨z * 8 + f, s.rd F.HOSTP_W31_Z_F_POINT z f, (w31Out f x).1⟩ : W31Commit)]
    let hold : Instr → Prop := fun c => Completes c s fun t =>
      t = { s with port := { s.port with held := some (4, d.toNat) } }
    let orphan : Instr → Prop := fun c => Completes c s fun t =>
      Sets s t [(F.HOSTP_W31_STAT_ORPHAN, 0, 0, min 255 (s.rd F.HOSTP_W31_STAT_ORPHAN + 1))]
    (¬on → reads (.w31Read a) 0 ∧ reads (.w31ReadL a) 0 ∧ reads (.w31ReadH a) 0 ∧ Completes (.w31Write a d) s (· = s) ∧
      Completes (.w31WriteL a d) s (· = s) ∧ Completes (.w31WriteH a d) s (· = s) ∧ Completes (.w31PageWrite d) s (· = s)) ∧
    (on → 2 ≤ a.toNat → a.toNat ≤ 5 → reads (.w31Read a) (s.w31Value (a.toNat - 2))) ∧
    (on → a.toNat = 0xFE → reads (.w31Read a) 0x31) ∧
    (on → a.toNat = 0xFF → reads (.w31Read a) z) ∧
    (on → a.toNat = 6 ∨ a.toNat = 8 →
      Completes (.w31ReadL a) s fun t => ∃ f, f = (a.toNat + 2) / 2 ∧ t = { s with port := { s.port with
        w31Byte := s.w31Value f % 256, latch := some (f, s.w31Value f / 256) } }) ∧
    (∀ b, on → a.toNat = 7 ∨ a.toNat = 9 → s.port.latch = some ((a.toNat + 1) / 2, b) → reads (.w31ReadH a) b) ∧
    (on → a.toNat = 3 → s.port.held = none → commits (.w31Write a d) 1 d.toNat) ∧
    (on → a.toNat = 4 → s.port.held = none → d.toNat ≤ 7 → commits (.w31Write a d) 2 d.toNat) ∧
    (on → a.toNat = 6 → s.port.held = none → hold (.w31WriteL a d)) ∧
    (∀ b, on → a.toNat = 7 → s.port.held = some (4, b) → commits (.w31WriteH a d) 4 (b + 256 * d.toNat)) ∧
    (on → a.toNat = 7 → s.port.held = none → orphan (.w31WriteH a d)) ∧
    (on → s.port.held = none →
      Completes (.w31PageWrite d) s fun t => t = { s with port := { s.port with page := d.toNat % 8, latch := none } }) ∧
    (∀ x, on → s.port.held = some x →
      Completes (.w31PageWrite d) s fun t =>
        Sets { s with port := { s.port with held := none, page := d.toNat % 8, latch := none } } t
          [(F.HOSTP_W31_STAT_ABANDONED, 0, 0, min 255 (s.rd F.HOSTP_W31_STAT_ABANDONED + 1))]) ∧
    (s.running = false ∨ s.inWin .commit = false →
      Completes .w31SnapshotDone s fun t => t = s.w31Show ∧ t.port.snapNext = none)

/-! ### The Ethernet MACs and service access (R488 to R492) -/

/-- Frames of the MACs (R488 to R490): one that is too short, too long or finds EN 0 is passed over, one that is accepted goes
to the next free descriptor or is dropped and counted; a transmit begins where one is queued, and its end advances the ring;
frames that a pause held go first. What the specification leaves open in it is the model's choice: log entries 140 to 142, 191
and 213. -/
def Obligations.MacFrames : Prop :=
  ∀ (s : State) (m : Fin 2) (f : List Byte), s.serves [.net, .deck] →
    let u := s.macStep m
    let size := 2 ^ s.rd F.NET_MAC_RXRING_SIZE m
    let k := s.rd F.NET_MAC_RXIDX_DEV m % size
    let a := ringDesc (s.rd F.NET_MAC_RXRING_BASE m) k
    let buf := s.dWord a
    let plain := s.bit F.NET_MAC_CTL_EN m = true ∧ 64 ≤ f.length ∧ f.length ≤ 1522 ∧ ¬ (wordAt f 12 = 0x8808 ∧ wordAt f 14 = 1) ∧
      (s.svcView m).bit F.NET_MAC_CTL_RESOLVE m = false ∧ s.macAccepts m f = true ∧ s.svcUdp m f = none
    let desc := toBytes f.length 2 ++ toBytes (s.rxFlags m f true) 2 ++ toBytes s.frame 6 ++ toBytes s.offset 2
    let tsize := 2 ^ s.rd F.NET_MAC_TXRING_SIZE m
    let tk := s.rd F.NET_MAC_TXIDX_DEV m % tsize
    let ta := ringDesc (s.rd F.NET_MAC_TXRING_BASE m) tk
    (s.bit F.NET_MAC_CTL_EN m = false ∧ (m = 1 ∨ s.bootNet = false) ∨ f.length < 64 ∨ 1522 < f.length →
      Completes (.netRxFrame m f true) s (· = u)) ∧
    (plain → (s.dByte (a + 6)).toNat % 2 = 0 →
      Completes (.netRxFrame m f true) s fun t =>
        SetsRaise u t [(F.NET_MAC_CNT_RX_DROP, m, 0, min 255 (s.rd F.NET_MAC_CNT_RX_DROP m + 1))] 0xD03 m [m]) ∧
    (plain → (s.dByte (a + 6)).toNat % 2 = 1 → inGeneral buf f.length = true → inGeneral (a + 4) 12 = true →
      Completes (.netRxFrame m f true) s fun t => t.rd F.NET_MAC_RXIDX_DEV m = (k + 1) % size ∧
        ∀ b, t.dByte b = if a + 4 ≤ b ∧ b < a + 16 then desc.getD (b - (a + 4)) 0
          else if buf ≤ b ∧ b < buf + f.length then f.getD (b - buf) 0 else s.dByte b) ∧
    (s.bit F.NET_MAC_CTL_EN m = true → s.rd F.NET_MAC_TXIDX_DEV m ≠ s.rd F.NET_MAC_TXIDX_SW m →
      (s.mac m).pausedTo ≤ s.nowUs →
      Completes (.netTxKick m) s fun t => t.rf = s.rf ∧
        t.mac m = { s.mac m with sent := (s.mac m).held, held := [], sending := true }) ∧
    (s.rd F.NET_MAC_TXIDX_DEV m = s.rd F.NET_MAC_TXIDX_SW m → Completes (.netTxKick m) s (· = u)) ∧
    ((s.mac m).sending = true →
      Completes (.netTxDone m) s fun t => t.rd F.NET_MAC_TXIDX_DEV m = (tk + 1) % tsize ∧
        (t.mac m).sent = (u.mac m).sent ++ [s.txFrame m (s.dBytes (s.dWord ta) (min 1536 (leBytes s.dByte (ta + 4) 2)))
          (leBytes s.dByte (ta + 6) 2)]) ∧
    ((s.mac m).sending = false → Completes (.netTxDone m) s (· = u))

/-- MDIO, the link, and service access (R488, R492): an access runs and ends with the data read; the link's state is shown; a
request that is repeated is answered again from the stored response, another one runs its command; a refused peer is counted; a
pending recorder cursor is notified to the last peer. What a MAC sends of its own waits while a pause frame holds it (R488).
What the specification leaves open in it is the model's choice: log entries 140 to 142, 146, 176 and 213. -/
def Obligations.ServiceAccess : Prop :=
  ∀ (s : State) (m : Fin 2) (f : List Byte) (data : BitVec 16) (up : Bool) (speed : BitVec 2), s.serves [.net] →
    (Completes (.mdioGo m) s fun t => Sets s t [(F.NET_MAC_MDIO_BUSY, m, 0, 1)]) ∧
    (s.bit F.NET_MAC_MDIO_BUSY m = true → s.rd F.NET_MAC_MDIO_OP m = 2 →
      Completes (.mdioDone m data) s fun t =>
        Sets s t [(F.NET_MAC_MDIO_BUSY, m, 0, 0), (F.NET_MAC_MDIO_DATA, m, 0, data.toNat)]) ∧
    (s.bit F.NET_MAC_MDIO_BUSY m = true → s.rd F.NET_MAC_MDIO_OP m ≠ 2 →
      Completes (.mdioDone m data) s fun t => Sets s t [(F.NET_MAC_MDIO_BUSY, m, 0, 0)]) ∧
    (s.bit F.NET_MAC_MDIO_BUSY m = false → Completes (.mdioDone m data) s (· = s)) ∧
    (Completes (.ethLinkChange m up speed) s fun t =>
      Sets s t [(F.NET_MAC_CTL_LINK, m, 0, up.toNat), (F.NET_MAC_CTL_SPEED, m, 0, speed.toNat)]) ∧
    (s.svcUdp m f = none → Completes (.svcRequest m f) s (· = s.macStep m)) ∧
    (∀ u, s.svcUdp m f = some u →
      let d := (f.drop (u.start + 8)).take (u.len - 8)
      let asked := 4 ≤ d.length ∧ leAt d 0 2 = 0x5356
      let at_once := s.port.waiting = [] ∧ s.macPaused m = false ∧ (s.mac m).held = []
      let old := s.port.peers.find? fun q => q.addr == u.src && q.seq == leAt d 2 2 && decide (s.nowUs ≤ q.atUs + 1000000)
      (asked → (s.svcView m).bit F.NET_MAC_CTL_PEER_EN m = true → u.src ≠ s.peerAddr m →
        Completes (.svcRequest m f) s fun t => Sets (s.macStep m) t
          [(F.NET_MAC_CNT_SVC_REFUSED, m, 0, min 255 (s.rd F.NET_MAC_CNT_SVC_REFUSED m + 1))]) ∧
      (∀ q, asked → at_once → (s.svcView m).bit F.NET_MAC_CTL_PEER_EN m = false → old = some q →
        Completes (.svcRequest m f) s fun t => t.rf = s.rf ∧ t.deck = s.deck ∧
          (t.port.peers.getLast?.map (·.response)) = some q.response ∧ (t.mac m).sent.length = 1) ∧
      (asked → at_once → (s.svcView m).bit F.NET_MAC_CTL_PEER_EN m = false → old = none → d.drop 4 = [0] →
        Completes (.svcRequest m f) s fun t => t.rf = s.rf ∧ t.deck = s.deck ∧
          (t.port.peers.getLast?.map (·.response)) = some (d.take 4 ++ [BitVec.ofNat 8 (s.statusByte false .ok false)]) ∧
          (t.mac m).sent.length = 1)) ∧
    (∀ p, s.port.peers.getLast? = some p → p.via = m → s.svcOn m = true → s.bit F.EVR_CUR_STAT_PEND 1 = true →
      Completes (.svcNotify m) s fun t => t.rf = s.rf ∧ ∃ g,
        let frame := p.mac ++ (s.svcView m).macAddr m ++ g
        if s.macPaused m then (t.mac m).sent = [] ∧ (t.mac m).held = (s.mac m).held ++ [frame]
        else (t.mac m).sent = (s.mac m).held ++ [frame] ∧ (t.mac m).held = []) ∧
    (s.bit F.EVR_CUR_STAT_PEND 1 = false → Completes (.svcNotify m) s (· = s.macStep m))

/-! ### The field engines (R493 to R498) -/

/-- Field engines (R494 to R498): enabling with a mode the engine has, frames received into the ring, lost to a full one or
dropped for their errors, frames sent from the ring, and what each engine's timers do. What the specification leaves open in it
is the model's choice: log entries 137 to 139 and 212. -/
def Obligations.FieldEngines : Prop :=
  ∀ (s : State) (e : Fin 12) (f : List Byte), s.serves [.net, .deck] → s.driving = true →
    let x := s.eng e
    let mode := s.rd F.FIELD_ENG_CTL_MODE e
    let on := s.bit F.FIELD_ENG_CTL_EN e
    let w := s.rd F.FIELD_ENG_IDX_RX_WR e
    let waiting := (w + 256 - s.rd F.FIELD_ENG_IDX_RX_RD e) % 256
    let a := s.ringSlot e (w % s.rxSlots e)
    let sends : State → List (List Byte) → Prop := fun t fs => (t.eng e).sent = fs
    let mstp := on = true ∧ mode = 1 ∧ s.station e < 128
    let master := on = true ∧ mode = 2
    (on = false → (e.val < 8 ∧ mode < 4) ∨ (8 ≤ e.val ∧ 4 ≤ mode) →
      mode ≠ 1 ∨ (s.rd F.FIELD_ENG_CTL_PARITY e = 0 ∧ s.bit F.FIELD_ENG_CTL_STOP2 e = false) →
      Completes (.fldEnable e) s fun t => ∃ v, v = { s with port := t.port } ∧ Sets v t [(F.FIELD_ENG_CTL_EN, e, 0, 1)] ∧
        t.eng e = { ns := s.station e, ps := s.station e, tokens := 50 }) ∧
    (on = true ∨ (e.val < 8 ∧ 4 ≤ mode) ∨ (8 ≤ e.val ∧ mode < 4) → Completes (.fldEnable e) s (· = s)) ∧
    (on = true → mode = 0 → waiting < s.rxSlots e → inGeneral a 1024 = true →
      Completes (.fldRxFrame e f true) s fun t => t.rd F.FIELD_ENG_IDX_RX_WR e = (w + 1) % 256 ∧ sends t [] ∧
        leBytes t.dByte a 2 = f.length % 65536 ∧ ∀ k < min f.length 1008, t.dByte (a + 16 + k) = f.getD k 0) ∧
    (on = true → mode = 0 → s.rxSlots e ≤ waiting →
      Completes (.fldRxFrame e f true) s fun t =>
        SetsRaise (s.engStep e) t [(F.FIELD_ENG_STAT_RXOVF, e, 0, 1)] 0xD03 e [e]) ∧
    (on = true → mode = 0 →
      Completes (.fldRxFrame e f false) s fun t => ∃ c,
        t = { s.engStep e with freeCtr := s.freeCtr + 1 }.raise 0xD02 e [e, c]) ∧
    (mstp → f.take 2 ≠ [0x55, 0xFF] → Completes (.fldRxFrame e f true) s (· = s.engStep e)) ∧
    (mstp → f.take 2 = [0x55, 0xFF] → mstpFrame f = none → x.st = .idle →
      Completes (.fldRxFrame e f true) s fun t => ∃ c,
        SetsRaise { s.engStep e with freeCtr := s.freeCtr + 1 } t
          [(F.FIELD_ENG_STAT_FRAME_ERR, e, 0, min 65535 (s.rd F.FIELD_ENG_STAT_FRAME_ERR e + 1))] 0xD02 e [e, c]) ∧
    (on = false → Completes (.fldRxFrame e f true) s (· = s.engStep e)) ∧
    (on = true → mode = 0 → 0 < s.txWaiting e →
      Completes (.fldTxFrame e) s fun t =>
        t.rd F.FIELD_ENG_IDX_TX_RD e = (s.rd F.FIELD_ENG_IDX_TX_RD e + 1) % 256 ∧ sends t [(s.txSlot e).2]) ∧
    (s.txWaiting e = 0 → Completes (.fldTxFrame e) s (· = s.engStep e)) ∧
    (mstp → x.st = .idle →
      Completes (.mstpTimer e) s fun t => (t.eng e).st = .noToken ∧ sends t [] ∧ t.rd F.FIELD_ENG_STAT_TOKEN e = 0) ∧
    (mstp → x.st = .noToken →
      Completes (.mstpTimer e) s fun t => (t.eng e).st = .pollMaster ∧ t.rd F.FIELD_ENG_STAT_TOKEN e = 1 ∧
        sends t [mstpLine 1 (s.after e (s.station e)) (s.station e) []]) ∧
    (mstp → x.st = .passToken → x.retries = 0 →
      Completes (.mstpTimer e) s fun t => (t.eng e).st = .passToken ∧ (t.eng e).retries = 1 ∧
        sends t [mstpLine 0 x.ns (s.station e) []]) ∧
    (mstp → x.st = .answer → ¬s.replyWaits e →
      Completes (.replyPostponed e) s fun t => (t.eng e).st = .idle ∧ sends t [mstpLine 7 x.asker (s.station e) []]) ∧
    (x.st ≠ .answer ∨ s.replyWaits e → Completes (.replyPostponed e) s (· = s.engStep e)) ∧
    (∀ i, master → x.mbNow = none → x.mbRing = false → s.mbPick e = some i → byteAt (s.mapEntry e i).bytes 1 = 3 →
      let m := (s.mapEntry e i).bytes
      let q := [m.getD 0 0, 3, m.getD 3 0, m.getD 2 0, 0, BitVec.ofNat 8 (mbRegs (byteAt m 4))]
      Completes (.mbTransaction e) s fun t => t.rf = s.rf ∧ (t.eng e).mbNow = some (some i) ∧ sends t [q ++ crc16 q]) ∧
    (¬master → Completes (.mbTransaction e) s (· = s.engStep e)) ∧
    (∀ i, x.mbNow = some i → x.mbTries < s.rd F.FIELD_ENG_PARAM_B e →
      Completes (.mbReplyTimeout e) s fun t => t.rf = s.rf ∧ (t.eng e).mbNow = some i ∧
        (t.eng e).mbTries = x.mbTries + 1 ∧ sends t [x.mbReq ++ crc16 x.mbReq]) ∧
    (∀ i, x.mbNow = some (some i) → s.rd F.FIELD_ENG_PARAM_B e ≤ x.mbTries →
      Completes (.mbReplyTimeout e) s fun t =>
        SetsRaise ((s.engStep e).engMod e fun x => { x with mbNow := none }) t
          [(F.FIELD_ENG_STAT_TIMEOUT, e, 0, min 255 (s.rd F.FIELD_ENG_STAT_TIMEOUT e + 1))] 0xD00 e [e, i]) ∧
    (∀ g q, x.knxQueue = g :: q → x.knxTries < 3 →
      Completes (.knxRepeat e) s fun t => t.rf = s.rf ∧ (t.eng e).knxTries = x.knxTries + 1 ∧
        sends t [knxLine ((g.headD 0 &&& 0xDF) :: g.tail)]) ∧
    (∀ g, x.knxQueue = [g] → 3 ≤ x.knxTries →
      Completes (.knxRepeat e) s fun t => t.rf = s.rf ∧ (t.eng e).knxQueue = [] ∧ sends t [])

/-! ### I²C, SPI and GPIO (R500, R501) -/

/-- Transfers and pins (R500, R501): GO takes the bytes of its buffer, or is refused where the buffer is not in general use;
the end of a transfer stores what was read and shows how it ended; a pin's accepted level is shown and its edge counted, and
with the joint up it triggers sequencers and is the home of the motors that wait for it (R219, R303). What the specification
leaves open in it is the model's choice: log entry 142. -/
def Obligations.TransfersAndPins : Prop :=
  ∀ (s : State) (m : Fin 4) (n : Fin 32) (nack : BitVec 2) (data : List Byte) (level : Bool), s.serves [.net, .deck, .fan] →
    let a := s.rd F.FIELD_I2C_BUF m
    let w := s.rd F.FIELD_I2C_CTL_WLEN m
    let r := s.rd F.FIELD_I2C_CTL_RLEN m
    let tx := s.rd F.FIELD_SPI_TXBUF m
    let rx := s.rd F.FIELD_SPI_RXBUF m
    let len := s.rd F.FIELD_SPI_CTL_LEN m
    let i2c := s.rd F.FIELD_I2C_CMD_STATE m
    let spi := s.rd F.FIELD_SPI_CMD_STATE m
    let how := if nack = 0 then 2 else if nack = 1 then 3 else 4
    (i2c ≠ 1 → bufferBad a (w + r) = false →
      Completes (.i2cGo m) s fun t => Sets { s with port := { s.port with
        i2cOut := Sparse.set s.port.i2cOut [] m (s.bufferBytes a w) } } t [(F.FIELD_I2C_CMD_STATE, m, 0, 1)]) ∧
    (i2c ≠ 1 → bufferBad a (w + r) = true → Completes (.i2cGo m) s fun t => Sets s t [(F.FIELD_I2C_CMD_STATE, m, 0, 6)]) ∧
    (i2c = 1 → Completes (.i2cGo m) s (· = s)) ∧
    (i2c = 1 → a = 0 ∨ nack ≠ 0 →
      Completes (.i2cDone m nack data) s fun t => Sets s t [(F.FIELD_I2C_CMD_STATE, m, 0, how)]) ∧
    (i2c = 1 → a ≠ 0 → inGeneral (a + w) r = true → data.length = r →
      Completes (.i2cDone m 0 data) s fun t => Sets { s with deck := t.deck } t [(F.FIELD_I2C_CMD_STATE, m, 0, 2)] ∧
        ∀ b, t.dByte b = if a + w ≤ b ∧ b < a + w + r then data.getD (b - (a + w)) 0 else s.dByte b) ∧
    (i2c ≠ 1 → Completes (.i2cDone m nack data) s (· = s)) ∧
    (i2c = 1 → Completes (.i2cStretchTimeout m) s fun t => Sets s t [(F.FIELD_I2C_CMD_STATE, m, 0, 5)]) ∧
    (i2c ≠ 1 → Completes (.i2cStretchTimeout m) s (· = s)) ∧
    (spi ≠ 1 → bufferBad tx len = false → bufferBad rx len = false →
      Completes (.spiGo m) s fun t => Sets { s with port := { s.port with
        spiOut := Sparse.set s.port.spiOut [] m (s.bufferBytes tx len) } } t [(F.FIELD_SPI_CMD_STATE, m, 0, 1)]) ∧
    (spi ≠ 1 → bufferBad tx len = true ∨ bufferBad rx len = true →
      Completes (.spiGo m) s fun t => Sets s t [(F.FIELD_SPI_CMD_STATE, m, 0, 6)]) ∧
    (spi = 1 → rx = 0 → Completes (.spiDone m data) s fun t => Sets s t [(F.FIELD_SPI_CMD_STATE, m, 0, 2)]) ∧
    (spi = 1 → rx ≠ 0 → inGeneral rx len = true → data.length = len →
      Completes (.spiDone m data) s fun t => Sets { s with deck := t.deck } t [(F.FIELD_SPI_CMD_STATE, m, 0, 2)] ∧
        ∀ b, t.dByte b = if rx ≤ b ∧ b < rx + len then data.getD (b - rx) 0 else s.dByte b) ∧
    (spi ≠ 1 → Completes (.spiDone m data) s (· = s)) ∧
    (s.mapBit F.GPIO_IN n = level → Completes (.gpioEdge n level) s (· = s)) ∧
    (s.mapBit F.GPIO_IN n ≠ level →
      Completes (.gpioEdge n level) s fun t => ∃ v w, Sets s w [(F.GPIO_IN, 0, 0, v),
          (F.GPIO_PIN_EDGES, n, 0, (s.rd F.GPIO_PIN_EDGES n + 1) % 65536)] ∧
        (∀ k < 32, v.testBit k = if k = n.val then level else s.mapBit F.GPIO_IN k) ∧
        t = if s.joint then (((if s.domOn .conv then w.gpioTriggers n level else w).motGpio n level).sortEvents
          s.evr.queue.length)
          else w)

/-! ### Freeze and readout (R502 to R509) -/

/-- Freezing (R502 to R504, R508): any source freezes a device whose start has come to CONFIG, and the instant is recorded; a
marker is forwarded whether or not the device freezes from it; the clocks stop 2 µs later, which KEEP_STAT.FROZEN shows (R420),
and keystone ticks of an earlier freeze stay due; the release of the last source thaws. What the specification leaves open in it
is the model's choice: log entries 149, 150, 202 and 203. -/
def Obligations.FreezeAndThaw : Prop :=
  ∀ (s : State) (p : Fin 2),
    let frozenNow : Instr → State → Prop := fun c u => s.acceptsFreeze = true → s.dbg.frozen = false →
      Completes c s fun t => t.dbg.frozen = true ∧ t.dbg.gated = s.dbg.gated ∧ t.rd F.DBG_FRZ_STAT_SOURCES = u.sources ∧
        t.rd F.DBG_FRZ_STAT_OFFSET = s.offset % 65536 ∧ t.rd F.TWIN_STAT_OWN_OUT = 0
    let pin : Bool → State := fun b => { s with dbg := { s.dbg with pin := b } }
    let xIn : Bool → State := fun b => { s with dbg := { s.dbg with xIn := b } }
    let soft := { s with dbg := { s.dbg with soft := true } }
    let lone := s.dbg.xIn = false ∧ s.dbg.ring = false ∧ s.dbg.soft = false
    frozenNow (.freezePin true) (pin true) ∧
    (s.paired = true → frozenNow (.frzXInChange true) (xIn true)) ∧
    (s.alive = true → frozenNow .dbgFreeze soft) ∧ frozenNow .roFreeze soft ∧
    (s.acceptsFreeze = false →
      Completes (.freezePin true) s (· = pin true) ∧ Completes (.frzXInChange true) s (· = xIn true)) ∧
    (s.acceptsFreeze = true → s.dbg.frozen = true → lone →
      Completes (.freezePin false) s fun t => t.dbg.frozen = false ∧ t.dbg.gated = false ∧ t.dbg.thawed = true ∧
        t.dbg.relink = s.paired ∧ t.rd F.KEEP_STAT_FROZEN = 0) ∧
    (s.acceptsFreeze = true → s.dbg.frozen = true → s.dbg.pin = false → s.dbg.xIn = false →
      Completes .roThaw s fun t => t.dbg.frozen = false ∧ t.dbg.gated = false ∧ t.dbg.soft = false ∧ t.dbg.ring = false) ∧
    (s.serves [.link] → s.bit F.DBG_FRZ_CTL_RING_IN = false →
      Completes (.freezeMarker p) s fun t =>
        t = { s with dbg := { s.dbg with markerOut := if p.val = 0 then 2 else 1 } }) ∧
    (s.serves [.link] → s.bit F.DBG_FRZ_CTL_RING_IN = true →
      frozenNow (.freezeMarker p) { s with dbg := { s.dbg with ring := true } }) ∧
    (s.dbg.frozen = true → s.dbg.gated = false →
      let due := if s.keep.catchUp then s.keep.hidden else 0
      Completes .clockGate s fun t => Sets { s with
        dbg := { s.dbg with gated := true }, keep := { s.keep with frozen := true, hidden := due, hiddenOld := due } } t
          [(F.KEEP_STAT_FROZEN, 0, 0, 1)]) ∧
    (s.dbg.frozen = false ∨ s.dbg.gated = true → Completes .clockGate s (· = s))

/-- The test access port (R506, R507): EXTEST only while frozen, else BYPASS, whose one bit captures 0; the pins that EXTEST and
SAMPLE_PRELOAD capture, the identity, RO_CTL with what it captures, and a readout word by its address, which then counts on; a
bearing-die word needs 32 idle cycles. What the specification leaves open in it is the model's choice: log entries 150, 192 and
214. -/
def Obligations.TestAccessPort : Prop :=
  ∀ (s : State) (cells : List Bool) (addr : Word) (idle : Nat),
    let bypassed : State → Prop := (· = { s with dbg := { s.dbg with ir := .bypass, dr := 0, drValid := false } })
    let captured : TapIr → List Bool → State → Prop := fun i b t => ∃ v, t = { s with
      freeCtr := s.freeCtr + 1, dbg := { s.dbg with ir := i, boundary := b, dr := v, drValid := false } }
    let a := s.dbg.roAddr / 4 * 4
    (s.dbg.frozen = true → Completes .extest s (captured .extest s.dbg.boundary)) ∧
    (s.dbg.frozen = false → Completes .extest s bypassed) ∧ Completes .bypass s bypassed ∧
    (∀ c ∈ [Instr.roFreeze, .roThaw], Completes c s fun t =>
      t.dbg.ir = .roCtl ∧ t.dbg.dr = 4 * s.dbg.roBad.toNat + 8 * s.dbg.frozen.toNat) ∧
    Completes (.samplePreload cells) s (captured .sample cells) ∧
    (Completes .idcode s fun t =>
      t = { s with dbg := { s.dbg with ir := .idcode, dr := t.dbg.dr, drValid := false } } ∧
      t.dbg.dr % 2 = 1 ∧ t.dbg.dr / 2 ^ 12 % 2 ^ 16 = 0x7420 ∧ t.dbg.dr / 2 ^ 28 = s.rd F.SYS_REVISION_DECK_STEP % 16) ∧
    (Completes (.roAddr addr) s fun t => t = { s with dbg := { s.dbg with ir := .roAddr, roAddr := addr.toNat } }) ∧
    (onBearing a = true → idle < 32 → Completes (.roData idle) s fun t =>
      t = { s with dbg := { s.dbg with ir := .roData, dr := 0, drValid := false } }) ∧
    (a < deckEnd → Completes (.roData idle) s fun t => t = { s with dbg := { s.dbg with
      ir := .roData, dr := s.deckWord a, drValid := s.dbg.frozen, roAddr := (s.dbg.roAddr + 4) % 2 ^ 32 } }) ∧
    (0x02000000 ≤ a → a < 0x10000000 → Completes (.roData idle) s fun t => t = { s with dbg := { s.dbg with
      ir := .roData, dr := 0, drValid := s.dbg.frozen, roBad := true, roAddr := (s.dbg.roAddr + 4) % 2 ^ 32 } })
end

