-- ==== Sys2Proof/Laws/Sparse.lean ====
section
/-! SUPPORT. The sparse maps: a read after a write, and that every operation keeps the canonical form. -/

namespace Sys2Proof.Machine

variable {α : Type}

@[simp] theorem Sparse.find?_nil (k : Nat) : Sparse.find? ([] : Sparse α) k = none := rfl

@[simp] theorem Sparse.get_nil (d : α) (k : Nat) : Sparse.get ([] : Sparse α) d k = d := rfl

theorem Sparse.find?_put (m : Sparse α) (k j : Nat) (v : α) :
    Sparse.find? (Sparse.put m k v) j = if k = j then some v else Sparse.find? m j := by
  induction m with
  | nil => simp [Sparse.put, Sparse.find?]
  | cons x m ih =>
    obtain ⟨a, b⟩ := x
    rcases lt_trichotomy k a with h | rfl | h
    · simp [Sparse.put, Sparse.find?, h]
    · by_cases hk : k = j <;> simp [Sparse.put, Sparse.find?, hk]
    · have h1 : ¬ k < a := by omega
      have h2 : k ≠ a := by omega
      by_cases ha : a = j
      · subst ha; simp [Sparse.put, Sparse.find?, h1, h2]
      · simp [Sparse.put, Sparse.find?, h1, h2, ha, ih]

theorem Sparse.find?_del (m : Sparse α) (k j : Nat) :
    Sparse.find? (Sparse.del m k) j = if k = j then none else Sparse.find? m j := by
  induction m with
  | nil => simp [Sparse.del, Sparse.find?]
  | cons x m ih =>
    obtain ⟨a, b⟩ := x
    by_cases ha : a = k <;> by_cases hj : a = j <;> by_cases hk : k = j <;>
      simp_all [Sparse.del, Sparse.find?]

theorem Sparse.get_put (m : Sparse α) (d : α) (k j : Nat) (v : α) :
    Sparse.get (Sparse.put m k v) d j = if k = j then v else Sparse.get m d j := by
  unfold Sparse.get; rw [Sparse.find?_put]; split <;> rfl

theorem Sparse.get_del (m : Sparse α) (d : α) (k j : Nat) :
    Sparse.get (Sparse.del m k) d j = if k = j then d else Sparse.get m d j := by
  unfold Sparse.get; rw [Sparse.find?_del]; split <;> rfl

/-- A read after a write. -/
theorem Sparse.get_set [DecidableEq α] (m : Sparse α) (d : α) (k j : Nat) (v : α) :
    Sparse.get (Sparse.set m d k v) d j = if k = j then v else Sparse.get m d j := by
  unfold Sparse.set
  split
  · next h => rw [Sparse.get_del]; split <;> simp_all
  · exact Sparse.get_put ..

@[simp] theorem Sparse.get_set_same [DecidableEq α] (m : Sparse α) (d : α) (k : Nat) (v : α) :
    Sparse.get (Sparse.set m d k v) d k = v := by simp [Sparse.get_set]

theorem Sparse.get_set_ne [DecidableEq α] (m : Sparse α) (d d' : α) (k j : Nat) (v : α) (h : k ≠ j) :
    Sparse.get (Sparse.set m d k v) d' j = Sparse.get m d' j := by
  unfold Sparse.set
  split
  · rw [Sparse.get_del, if_neg h]
  · rw [Sparse.get_put, if_neg h]

/-! ### The canonical form -/

theorem Sparse.rising_mono {m : Sparse α} {a b : Nat} (h : Sparse.risingFrom b m = true) (hab : a ≤ b) :
    Sparse.risingFrom a m = true := by
  cases m with
  | nil => rfl
  | cons x m =>
    obtain ⟨k, v⟩ := x
    simp only [Sparse.risingFrom, Bool.and_eq_true, decide_eq_true_eq] at h ⊢
    exact ⟨by omega, h.2⟩

theorem Sparse.rising_put {m : Sparse α} {lo k : Nat} {v : α} (h : Sparse.risingFrom lo m = true) (hk : lo ≤ k) :
    Sparse.risingFrom lo (Sparse.put m k v) = true := by
  induction m generalizing lo with
  | nil => simp [Sparse.put, Sparse.risingFrom, hk]
  | cons x m ih =>
    obtain ⟨a, b⟩ := x
    simp only [Sparse.risingFrom, Bool.and_eq_true, decide_eq_true_eq] at h
    unfold Sparse.put
    split
    · next hka => simp [Sparse.risingFrom, hk, h.2]; omega
    · split
      · next _ hka => subst hka; simp [Sparse.risingFrom, hk, h.2]
      · simp only [Sparse.risingFrom, Bool.and_eq_true, decide_eq_true_eq]
        exact ⟨h.1, ih h.2 (by omega)⟩

theorem Sparse.rising_del {m : Sparse α} {lo k : Nat} (h : Sparse.risingFrom lo m = true) :
    Sparse.risingFrom lo (Sparse.del m k) = true := by
  induction m generalizing lo with
  | nil => rfl
  | cons x m ih =>
    obtain ⟨a, b⟩ := x
    simp only [Sparse.risingFrom, Bool.and_eq_true, decide_eq_true_eq] at h
    unfold Sparse.del
    split
    · exact Sparse.rising_mono (ih h.2) (by omega)
    · simp only [Sparse.risingFrom, Bool.and_eq_true, decide_eq_true_eq]
      exact ⟨h.1, ih h.2⟩

theorem Sparse.mem_put {m : Sparse α} {k : Nat} {v : α} {c : Nat × α} (h : c ∈ Sparse.put m k v) :
    c = (k, v) ∨ c ∈ m := by
  induction m with
  | nil => simpa [Sparse.put] using h
  | cons x m ih =>
    obtain ⟨a, b⟩ := x
    unfold Sparse.put at h
    split at h
    · simpa using h
    · split at h
      · simp only [List.mem_cons] at h ⊢; tauto
      · simp only [List.mem_cons] at h ⊢
        rcases h with h | h
        · exact .inr (.inl h)
        · rcases ih h with h | h <;> tauto

theorem Sparse.mem_del {m : Sparse α} {k : Nat} {c : Nat × α} (h : c ∈ Sparse.del m k) : c ∈ m := by
  induction m with
  | nil => simp [Sparse.del] at h
  | cons x m ih =>
    obtain ⟨a, b⟩ := x
    unfold Sparse.del at h
    split at h
    · exact List.mem_cons_of_mem _ (ih h)
    · simp only [List.mem_cons] at h ⊢
      rcases h with h | h
      · exact .inl h
      · exact .inr (ih h)

/-- `set` keeps the canonical form. -/
theorem Sparse.wf_set [DecidableEq α] {m : Sparse α} {d : α} (k : Nat) (v : α) (h : Sparse.wf d m = true) :
    Sparse.wf d (Sparse.set m d k v) = true := by
  simp only [Sparse.wf, Bool.and_eq_true, List.all_eq_true, decide_eq_true_eq] at h ⊢
  unfold Sparse.set
  split
  · exact ⟨Sparse.rising_del h.1, fun c hc => h.2 c (Sparse.mem_del hc)⟩
  · next hv =>
    refine ⟨Sparse.rising_put h.1 (Nat.zero_le k), fun c hc => ?_⟩
    rcases Sparse.mem_put hc with rfl | hc
    · exact hv
    · exact h.2 c hc

end Sys2Proof.Machine
end

