-- ==== Sys2Proof/Laws/State.lean ====
section
/-! SUPPORT. Reads after writes: register fields, deck and pier memory bytes, registers and cores; and what each small update of the
state leaves alone. -/

namespace Sys2Proof.Machine

variable (s : State)

/-! ### Register fields -/

/-- A field reads what was written to it, cut to its width. -/
@[simp] theorem State.rd_wr_same (f : Fld) (v i j : Nat) : (s.wr f v i j).rd f i j = v % 2 ^ f.width := by
  simp [State.rd, State.wr]

/-- A write of a field leaves every field with another key alone. -/
theorem State.rd_wr_ne (f g : Fld) (v i j i' j' : Nat) (h : f.key i j ≠ g.key i' j') :
    (s.wr f v i j).rd g i' j' = s.rd g i' j' := by
  simp [State.rd, State.wr, Sparse.get_set_ne _ _ _ _ _ _ h]

@[simp] theorem State.wrB_eq (f : Fld) (b : Bool) (i j : Nat) : s.wrB f b i j = s.wr f b.toNat i j := rfl

theorem State.bit_eq (f : Fld) (i j : Nat) : s.bit f i j = (s.rd f i j != 0) := rfl

@[simp] theorem State.wr_pending (f : Fld) (v i j : Nat) : (s.wr f v i j).pending = s.pending := rfl
@[simp] theorem State.wr_deck (f : Fld) (v i j : Nat) : (s.wr f v i j).deck = s.deck := rfl
@[simp] theorem State.wr_span (f : Fld) (v i j : Nat) : (s.wr f v i j).span = s.span := rfl
@[simp] theorem State.wr_pts (f : Fld) (v i j : Nat) : (s.wr f v i j).pts = s.pts := rfl
@[simp] theorem State.wr_pier (f : Fld) (v i j : Nat) : (s.wr f v i j).pier = s.pier := rfl
@[simp] theorem State.wr_conv (f : Fld) (v i j : Nat) : (s.wr f v i j).conv = s.conv := rfl
@[simp] theorem State.wr_sens (f : Fld) (v i j : Nat) : (s.wr f v i j).sens = s.sens := rfl
@[simp] theorem State.wr_sol (f : Fld) (v i j : Nat) : (s.wr f v i j).sol = s.sol := rfl
@[simp] theorem State.wr_mot (f : Fld) (v i j : Nat) : (s.wr f v i j).mot = s.mot := rfl
@[simp] theorem State.wr_fan (f : Fld) (v i j : Nat) : (s.wr f v i j).fan = s.fan := rfl
@[simp] theorem State.wr_meter (f : Fld) (v i j : Nat) : (s.wr f v i j).meter = s.meter := rfl
@[simp] theorem State.wr_twin (f : Fld) (v i j : Nat) : (s.wr f v i j).twin = s.twin := rfl
@[simp] theorem State.wr_tre (f : Fld) (v i j : Nat) : (s.wr f v i j).tre = s.tre := rfl
@[simp] theorem State.wr_keep (f : Fld) (v i j : Nat) : (s.wr f v i j).keep = s.keep := rfl
@[simp] theorem State.wr_evr (f : Fld) (v i j : Nat) : (s.wr f v i j).evr = s.evr := rfl
@[simp] theorem State.wr_health (f : Fld) (v i j : Nat) : (s.wr f v i j).health = s.health := rfl
@[simp] theorem State.wr_power (f : Fld) (v i j : Nat) : (s.wr f v i j).power = s.power := rfl
@[simp] theorem State.wr_port (f : Fld) (v i j : Nat) : (s.wr f v i j).port = s.port := rfl
@[simp] theorem State.wr_posted (f : Fld) (v i j : Nat) : (s.wr f v i j).posted = s.posted := rfl
@[simp] theorem State.wr_resp (f : Fld) (v i j : Nat) : (s.wr f v i j).resp = s.resp := rfl
@[simp] theorem State.wr_busHeld (f : Fld) (v i j : Nat) : (s.wr f v i j).busHeld = s.busHeld := rfl
@[simp] theorem State.wr_dbg (f : Fld) (v i j : Nat) : (s.wr f v i j).dbg = s.dbg := rfl
@[simp] theorem State.wr_freeCtr (f : Fld) (v i j : Nat) : (s.wr f v i j).freeCtr = s.freeCtr := rfl
@[simp] theorem State.wr_core (f : Fld) (v i j c : Nat) : (s.wr f v i j).core c = s.core c := rfl
@[simp] theorem State.wr_gpr (f : Fld) (v i j c g : Nat) : (s.wr f v i j).gpr c g = s.gpr c g := rfl

/-! ### Registers and cores -/

@[simp] theorem State.gpr_zero (c : Nat) : s.gpr c 0 = 0 := by simp [State.gpr]

/-- A register reads what was written to it; g0 reads 0. -/
theorem State.gpr_setGpr (c g : Nat) (v : Word) (c' g' : Nat) (hg : g < 64) (hg' : g' < 64) :
    (s.setGpr c g v).gpr c' g' = if c' = c ∧ g' = g ∧ g ≠ 0 then v else s.gpr c' g' := by
  unfold State.setGpr State.gpr
  by_cases h0 : g = 0
  · simp [h0]
  · by_cases h0' : g' = 0
    · simp [h0, h0', Ne.symm h0]
    · have hk : (c * 64 + g = c' * 64 + g') ↔ (c' = c ∧ g' = g) := by omega
      simp only [h0, h0', if_false, Sparse.get_set, hk]
      by_cases h : c' = c ∧ g' = g <;> simp [h, h0]

@[simp] theorem State.core_setGpr (c g : Nat) (v : Word) (c' : Nat) : (s.setGpr c g v).core c' = s.core c' := by
  unfold State.setGpr; split <;> rfl

@[simp] theorem State.rd_setGpr (c g : Nat) (v : Word) (f : Fld) (i j : Nat) : (s.setGpr c g v).rd f i j = s.rd f i j := by
  unfold State.setGpr; split <;> rfl

@[simp] theorem State.core_setCore_same (c : Nat) (k : CoreSt) : (s.setCore c k).core c = k := by
  simp [State.core, State.setCore]

theorem State.core_setCore_ne (c c' : Nat) (k : CoreSt) (h : c ≠ c') : (s.setCore c k).core c' = s.core c' := by
  simp [State.core, State.setCore, Sparse.get_set_ne _ _ _ _ _ _ h]

@[simp] theorem State.gpr_setCore (c : Nat) (k : CoreSt) (c' g : Nat) : (s.setCore c k).gpr c' g = s.gpr c' g := rfl
@[simp] theorem State.rd_setCore (c : Nat) (k : CoreSt) (f : Fld) (i j : Nat) : (s.setCore c k).rd f i j = s.rd f i j := rfl

/-! ### Memory bytes -/

/-- A deck byte reads what was written to it; every other byte is left alone. -/
theorem State.dByte_setDByte (a b : Nat) (v : Byte) : (s.setDByte a v).dByte b = if a = b then v else s.dByte b := by
  simp [State.dByte, State.setDByte, Sparse.get_set]

/-- Bytes written from `a` on read back; every other byte is left alone. -/
theorem State.dByte_setDBytes (a : Nat) (bs : List Byte) (b : Nat) :
    (s.setDBytes a bs).dByte b = if a ≤ b ∧ b < a + bs.length then bs.getD (b - a) 0 else s.dByte b := by
  induction bs generalizing s a with
  | nil => simp only [State.setDBytes, List.length_nil, Nat.add_zero]; rw [if_neg (by omega)]
  | cons x bs ih =>
    rw [State.setDBytes, ih, State.dByte_setDByte]
    by_cases h : b = a
    · subst h; simp
    · by_cases h1 : a + 1 ≤ b ∧ b < a + 1 + bs.length
      · have : b - a = (b - (a + 1)) + 1 := by omega
        simp [h1, this, show a ≤ b by omega, show b < a + (bs.length + 1) by omega]
      · rw [if_neg h1, if_neg (Ne.symm h), if_neg (by rw [List.length_cons]; omega)]

/-- A byte of a core's memory reads what was written to it. -/
theorem State.tcmByte_setTcmByte (a b : Nat) (v : Byte) :
    (s.setTcmByte a v).tcmByte b = if a = b then v else s.tcmByte b := by
  simp [State.tcmByte, State.setTcmByte, Sparse.get_set]

/-! ### Events of one cycle -/

/-- One event more than `n`, or none: R429's order changes nothing. -/
theorem State.sortEvents_of_le {n : Nat} (h : s.evr.queue.length ≤ n + 1) : s.sortEvents n = s := by
  have hd : (s.evr.queue.drop n).length ≤ 1 := by simp; omega
  have : (s.evr.queue.drop n).foldl (fun l e => insertEvt e l) [] = s.evr.queue.drop n := by
    match h : s.evr.queue.drop n, hd with
    | [], _ => rfl
    | [_], _ => rfl
  simp only [State.sortEvents, this, List.take_append_drop]

/-- What raises at most one event is done as it stands. -/
theorem State.inCycle_eq (f : State → State) (h : (f s).evr.queue.length ≤ s.evr.queue.length + 1) : s.inCycle f = f s :=
  (f s).sortEvents_of_le h

@[simp] theorem State.sortEvents_rf (n : Nat) : (s.sortEvents n).rf = s.rf := rfl
@[simp] theorem State.sortEvents_deck (n : Nat) : (s.sortEvents n).deck = s.deck := rfl
@[simp] theorem State.sortEvents_pts (n : Nat) : (s.sortEvents n).pts = s.pts := rfl
@[simp] theorem State.sortEvents_pending (n : Nat) : (s.sortEvents n).pending = s.pending := rfl

end Sys2Proof.Machine
end

