-- ==== Sys2Proof/Laws/Deck.lean ====
section
/-! SUPPORT. What an access finds where the deck holds no ECC error, and what an answer leaves alone. -/

namespace Sys2Proof.Machine

variable (s : State)

/-- A range without an ECC error: no quarter of it is poisoned, and no error waits there. -/
theorem State.eccClean_iff (a len : Nat) : s.eccClean a len = true ↔ s.poisonHit a len = false ∧ s.upsetsIn a len = [] := by
  simp [State.eccClean]

/-- A read of such a range is no deck address fault. -/
theorem State.eccBad_of_clean {a len : Nat} (h : s.eccClean a len = true) : s.eccBad a len .ok = false := by
  obtain ⟨hp, hu⟩ := (s.eccClean_iff a len).mp h
  simp [State.eccBad, hp, hu]

/-- A read of such a range finds nothing. -/
theorem State.eccFound_of_clean {a len : Nat} (h : s.eccClean a len = true) : s.eccFound a len .ok = s := by
  obtain ⟨-, hu⟩ := (s.eccClean_iff a len).mp h
  simp [State.eccFound, State.eccError, State.each, hu]

/-- A write whose partly covered quarters hold no ECC error reads them without finding anything. -/
theorem State.partRead_of_clean {a len : Nat} (h : ∀ q ∈ partQuarters a len, s.eccClean q 8 = true) :
    s.partRead a len .ok = (false, s) := by
  unfold State.partRead
  revert h
  induction partQuarters a len with
  | nil => intro _; rfl
  | cons q qs ih =>
    intro h
    have hq := h q (by simp)
    rw [List.foldl_cons, s.eccBad_of_clean hq, s.eccFound_of_clean hq]
    exact ih fun x hx => h x (by simp [hx])

/-- A read of such a range, by an initiator that may make it, brings its bytes and changes nothing. -/
theorem State.deckRead_of_clean {i : Initiator} {a len : Nat} (ok : s.deckReadOk i a len = true)
    (h : s.eccClean a len = true) : s.deckRead i a len .ok = (some (s.deckBytes a len), s) := by
  simp [State.deckRead, ok, s.eccBad_of_clean h, s.eccFound_of_clean h]

/-- A write of quarters without an ECC error, by an initiator that may make it, is made. -/
theorem State.deckWrite_of_clean {i : Initiator} {a : Nat} {bs : List Byte} (ok : s.deckWriteOk i a bs.length = true)
    (h : ∀ q ∈ partQuarters a bs.length, s.eccClean q 8 = true) : s.deckWrite i a bs .ok = (true, s.deckPut a bs) := by
  simp [State.deckWrite, ok, s.partRead_of_clean h]

/-! ### An answer is held by the interface alone -/

variable (i : Initiator) (a : Nat) (data : List Byte) (refused : Bool)

@[simp] theorem State.answer_rf : (s.answer i a data refused).rf = s.rf := rfl
@[simp] theorem State.answer_deck : (s.answer i a data refused).deck = s.deck := rfl
@[simp] theorem State.answer_pts : (s.answer i a data refused).pts = s.pts := rfl
@[simp] theorem State.answer_pending : (s.answer i a data refused).pending = s.pending := rfl
@[simp] theorem State.answer_health : (s.answer i a data refused).health = s.health := rfl
@[simp] theorem State.answer_rd (f : Fld) (x y : Nat) : (s.answer i a data refused).rd f x y = s.rd f x y := rfl

end Sys2Proof.Machine
end

