-- ==== Sys2Proof/Laws/Memory.lean ====
section
/-! SUPPORT. Every operation on the memories keeps their canonical form (`State.memoryWf`): an operation that leaves deck and core
memories alone, single bytes, runs of bytes, the copy of an image, the loss of a half's memories and of the deck, and reset. -/

namespace Sys2Proof.Machine

theorem State.memoryWf_iff (s : State) :
    s.memoryWf = true ↔ Sparse.wf 0 s.deck = true ∧ Sparse.wf 0 s.pier.tcm = true := by simp [State.memoryWf]

/-- What leaves both memories alone keeps their form. -/
theorem State.memoryWf_same {s t : State} (h : s.memoryWf = true) (hd : t.deck = s.deck) (ht : t.pier.tcm = s.pier.tcm) :
    t.memoryWf = true := by
  rw [State.memoryWf_iff] at *; rwa [hd, ht]

@[simp] theorem State.reset_memoryWf : State.reset.memoryWf = true := by decide

@[simp] theorem State.wr_memoryWf (s : State) (f : Fld) (v i j : Nat) : (s.wr f v i j).memoryWf = s.memoryWf := rfl
@[simp] theorem State.setCore_memoryWf (s : State) (c : Nat) (k : CoreSt) : (s.setCore c k).memoryWf = s.memoryWf := rfl

@[simp] theorem State.setGpr_memoryWf (s : State) (c g : Nat) (v : Word) : (s.setGpr c g v).memoryWf = s.memoryWf := by
  unfold State.setGpr; split <;> rfl

/-- An operation repeated over a list keeps the form when each does. -/
theorem State.each_memoryWf {α : Type} {f : State → α → State} (hf : ∀ s x, s.memoryWf = true → (f s x).memoryWf = true)
    (l : List α) {s : State} (h : s.memoryWf = true) : (s.each l f).memoryWf = true := by
  unfold State.each
  induction l generalizing s with
  | nil => exact h
  | cons a l ih => exact ih (hf _ _ h)

/-! ### Bytes -/

theorem State.setDByte_memoryWf {s : State} (a : Nat) (b : Byte) (h : s.memoryWf = true) : (s.setDByte a b).memoryWf = true := by
  rw [State.memoryWf_iff] at *; exact ⟨Sparse.wf_set a b h.1, h.2⟩

theorem State.setDBytes_memoryWf (bs : List Byte) {s : State} (a : Nat) (h : s.memoryWf = true) :
    (s.setDBytes a bs).memoryWf = true := by
  induction bs generalizing s a with
  | nil => exact h
  | cons b bs ih => exact ih _ (State.setDByte_memoryWf a b h)

theorem State.setDWord_memoryWf {s : State} (a v : Nat) (h : s.memoryWf = true) : (s.setDWord a v).memoryWf = true :=
  State.setDBytes_memoryWf _ a h

theorem State.setTcmByte_memoryWf {s : State} (a : Nat) (b : Byte) (h : s.memoryWf = true) :
    (s.setTcmByte a b).memoryWf = true := by
  rw [State.memoryWf_iff] at *; exact ⟨h.1, Sparse.wf_set a b h.2⟩

theorem State.setTcmBytes_memoryWf {s : State} (a : Nat) (bs : List Byte) (h : s.memoryWf = true) :
    (s.setTcmBytes a bs).memoryWf = true :=
  State.each_memoryWf (fun _ _ h => State.setTcmByte_memoryWf _ _ h) _ h

/-! ### Images, losses, reset -/

variable {α : Type}

theorem Sparse.rising_append {m n : Sparse α} {lo k : Nat} (hm : Sparse.risingFrom lo m = true)
    (hk : ∀ c ∈ m, c.1 < k) (hlo : lo ≤ k) (hn : Sparse.risingFrom k n = true) : Sparse.risingFrom lo (m ++ n) = true := by
  induction m generalizing lo with
  | nil => exact Sparse.rising_mono hn hlo
  | cons c m ih =>
    simp only [Sparse.risingFrom, List.cons_append, Bool.and_eq_true, decide_eq_true_eq] at *
    exact ⟨hm.1, ih hm.2 (fun d hd => hk d (List.mem_cons_of_mem _ hd)) (hk c List.mem_cons_self)⟩

theorem Sparse.rising_filter {m : Sparse α} {lo : Nat} (h : Sparse.risingFrom lo m = true) (p : Nat × α → Bool) :
    Sparse.risingFrom lo (m.filter p) = true := by
  induction m generalizing lo with
  | nil => rfl
  | cons c m ih =>
    simp only [Sparse.risingFrom, Bool.and_eq_true, decide_eq_true_eq] at h
    rw [List.filter_cons]
    split
    · simpa only [Sparse.risingFrom, Bool.and_eq_true, decide_eq_true_eq] using ⟨h.1, ih h.2⟩
    · exact Sparse.rising_mono (ih h.2) (by omega)

/-- The part of a map from `k` on rises from `k`. -/
theorem Sparse.rising_from {m : Sparse α} {lo k : Nat} (h : Sparse.risingFrom lo m = true) :
    Sparse.risingFrom k (m.filter fun c => k ≤ c.1) = true := by
  induction m generalizing lo with
  | nil => rfl
  | cons c m ih =>
    simp only [Sparse.risingFrom, Bool.and_eq_true, decide_eq_true_eq] at h
    rw [List.filter_cons]
    split
    · rename_i hc
      simpa only [Sparse.risingFrom, Bool.and_eq_true, decide_eq_true_eq] using ⟨of_decide_eq_true hc, Sparse.rising_filter h.2 _⟩
    · exact ih h.2

theorem Sparse.wf_filter [DecidableEq α] {m : Sparse α} {d : α} (h : Sparse.wf d m = true) (p : Nat × α → Bool) :
    Sparse.wf d (m.filter p) = true := by
  simp only [Sparse.wf, Bool.and_eq_true, List.all_eq_true, decide_eq_true_eq] at *
  exact ⟨Sparse.rising_filter h.1 p, fun c hc => h.2 c (List.mem_of_mem_filter hc)⟩

/-- Bytes listed from `lo` on, zeros left out, rise. -/
theorem rising_bytes (bs : List Byte) (lo n : Nat) :
    Sparse.risingFrom (lo + n) (((bs.zipIdx n).filter fun bk => bk.1 != 0).map fun bk => (lo + bk.2, bk.1)) = true := by
  induction bs generalizing n with
  | nil => rfl
  | cons b bs ih =>
    rw [List.zipIdx_cons, List.filter_cons]
    split
    · simpa [Sparse.risingFrom, Nat.add_assoc] using ih (n + 1)
    · exact Sparse.rising_mono (ih (n + 1)) (by omega)

theorem State.fillTcm_memoryWf {s : State} (lo size : Nat) (bs : List Byte) (h : s.memoryWf = true) :
    (s.fillTcm lo size bs).memoryWf = true := by
  rw [State.memoryWf_iff] at *
  refine ⟨h.1, ?_⟩
  have hw := h.2
  simp only [Sparse.wf, Bool.and_eq_true, List.all_eq_true, decide_eq_true_eq] at hw ⊢
  simp only [State.fillTcm]
  have hnew : ∀ c ∈ ((bs.take size).zipIdx.filter fun bk => bk.1 != 0).map fun bk => (lo + bk.2, bk.1),
      c.1 < lo + size ∧ c.2 ≠ 0 := by
    intro c hc
    obtain ⟨bk, hb, rfl⟩ := List.mem_map.1 hc
    have h1 := List.mem_filter.1 hb
    have h2 := List.mem_zipIdx h1.1
    have h3 : (bs.take size).length ≤ size := by simp
    exact ⟨by dsimp only; omega, by simpa using h1.2⟩
  constructor
  · refine Sparse.rising_append (k := lo + size) ?_ ?_ (Nat.zero_le _) (Sparse.rising_from hw.1)
    · refine Sparse.rising_append (k := lo) (Sparse.rising_filter hw.1 _) (fun c hc => ?_) (Nat.zero_le _) (rising_bytes _ lo 0)
      simpa using (List.mem_filter.1 hc).2
    · intro c hc
      rcases List.mem_append.1 hc with hc | hc
      · have := (List.mem_filter.1 hc).2
        simp only [decide_eq_true_eq] at this; omega
      · exact (hnew c hc).1
  · intro c hc
    rcases List.mem_append.1 hc with hc | hc
    · rcases List.mem_append.1 hc with hc | hc
      · exact hw.2 c (List.mem_of_mem_filter hc)
      · exact (hnew c hc).2
    · exact hw.2 c (List.mem_of_mem_filter hc)

theorem State.copyImage_memoryWf {s : State} (c : Nat) (i : Image) (bankB : Bool) (h : s.memoryWf = true) :
    (s.copyImage c i bankB).memoryWf = true :=
  State.fillTcm_memoryWf _ _ _ (State.fillTcm_memoryWf _ _ _ h)

/-- A reset clears both memories. -/
theorem State.wiped_memoryWf (s : State) (r : RstPhase) : (s.wiped r).memoryWf = true := by
  rw [State.memoryWf_iff]; exact ⟨rfl, rfl⟩

end Sys2Proof.Machine
end

