-- ==== Sys2Proof/Laws/Pier.lean ====
section
/-! SUPPORT. What a pier instruction that completes does, said once: the lemmas the statements about single instructions
rest on. -/

namespace Sys2Proof.Machine

/-- A command that only needs the device to act and its domains on runs its effect. -/
theorem State.act_eq {s : State} {ds : List Dom} (f : State → State) (h : s.serves ds) : s.act ds f = .next (f s) := by
  unfold State.act; rw [if_pos]; simp [h.1, h.2]

/-- A register of the bearing die is reached. -/
theorem State.reach_eq {s : State} {ds : List Dom} (f : State → State) (h : s.reaches ds) : s.reach ds f = .next (f s) := by
  unfold State.reach; rw [State.act_eq _ h.1, h.2]; rfl

/-- Without the joint an access to the bearing die changes nothing (R12). -/
theorem State.reach_untrained {s : State} {ds : List Dom} (f : State → State) (h : s.serves ds) (hj : s.joint = false) :
    s.reach ds f = .next s := by
  unfold State.reach; rw [State.act_eq _ h, hj]; rfl

/-- A command completes with what its effect leaves. -/
theorem State.act_completes {s : State} {ds : List Dom} {f : State → State} {P : State → Prop} (h : s.serves ds)
    (hp : P (f s)) : ∃ t, s.act ds f = .next t ∧ P t := ⟨f s, State.act_eq f h, hp⟩

@[simp] theorem CoreSt.spend_pc (k : CoreSt) (d : Nat) : (k.spend d).pc = k.pc := by
  unfold CoreSt.spend; split <;> (try split) <;> rfl
@[simp] theorem CoreSt.spend_task (k : CoreSt) (d : Nat) : (k.spend d).task = k.task := by
  unfold CoreSt.spend; split <;> (try split) <;> simp_all
@[simp] theorem CoreSt.spend_z (k : CoreSt) (d : Nat) : (k.spend d).z = k.z := by
  unfold CoreSt.spend; split <;> (try split) <;> rfl
@[simp] theorem CoreSt.spend_n (k : CoreSt) (d : Nat) : (k.spend d).n = k.n := by
  unfold CoreSt.spend; split <;> (try split) <;> rfl
@[simp] theorem CoreSt.spend_c (k : CoreSt) (d : Nat) : (k.spend d).c = k.c := by
  unfold CoreSt.spend; split <;> (try split) <;> rfl
@[simp] theorem CoreSt.spend_v (k : CoreSt) (d : Nat) : (k.spend d).v = k.v := by
  unfold CoreSt.spend; split <;> (try split) <;> rfl
@[simp] theorem CoreSt.spend_qs (k : CoreSt) (d : Nat) : (k.spend d).qs = k.qs := by
  unfold CoreSt.spend; split <;> (try split) <;> rfl
@[simp] theorem CoreSt.spend_stall (k : CoreSt) (d : Nat) : (k.spend d).stall = k.stall := by
  unfold CoreSt.spend; split <;> (try split) <;> rfl
@[simp] theorem CoreSt.spend_fx (k : CoreSt) (d : Nat) : (k.spend d).fx = k.fx := by
  unfold CoreSt.spend; split <;> (try split) <;> rfl

/-- A fetch that finds no error changes nothing (R453). -/
theorem State.fetched_clean {s : State} {c pc : Nat} (h : s.codeError c pc = none) : s.fetched c pc = s := by
  unfold State.fetched; rw [h]; rfl

/-- A read of a range without ECC errors reports nothing (R21). -/
theorem State.eccFound_clean {s : State} {a len : Nat} (h : s.eccClean a len = true) : s.eccFound a len .ok = s := by
  have hu : s.upsetsIn a len = [] := by
    unfold State.eccClean at h; simpa using (Bool.and_eq_true_iff.mp h).2
  unfold State.eccFound
  rw [hu]
  simp [State.eccError, State.each]

/-- A read of a range without ECC errors finds none (R21). -/
theorem State.eccBad_clean {s : State} {a len : Nat} (h : s.eccClean a len = true) : s.eccBad a len .ok = false := by
  unfold State.eccClean at h
  have hu : s.upsetsIn a len = [] := by simpa using (Bool.and_eq_true_iff.mp h).2
  have hp : s.poisonHit a len = false := by simpa using (Bool.and_eq_true_iff.mp h).1
  unfold State.eccBad; rw [hu, hp]; rfl

/-- Where no body ends at `pc`, the end-of-body step does nothing (R151). -/
theorem State.endOfBody_straight {s : State} {c pc : Nat} (h : Straight s c pc) (n : Nat) (hn : n ≤ 4) :
    s.endOfBody c pc n = (s, pc) := by
  induction n with
  | zero => rfl
  | succ n ih =>
    unfold State.endOfBody
    by_cases hl : s.levelOn c n = true
    · have := h n (by omega) hl
      simp [hl, Ne.symm this]
    · simp [hl, ih (by omega)]

/-- An instruction that issues and whose own effect is done goes on to the next word, and changes its core's state only
beyond that effect. -/
theorem State.pierAct_done {s u : State} {i : Instr} {o : PierOp} {extra : Nat} {k : RunTask}
    {body : State → PierRes} {y : Bool} (h : Issues s i o extra k) (hb : body (s.waited o) = .next u)
    (ht : (u.core o.core).task = some k) (hsl : (u.core o.core).slice = ((s.waited o).core o.core).slice)
    (hh : u.health = s.health) (hstr : Straight u o.core ((s.core o.core).pc + 4)) :
    ∃ kf : CoreSt, s.pierAct i extra body y = .next (u.setCore o.core kf) ∧ kf.pc = (s.core o.core).pc + 4 ∧
      kf.task = some k ∧ kf.z = (u.core o.core).z ∧ kf.n = (u.core o.core).n ∧ kf.c = (u.core o.core).c ∧
      kf.v = (u.core o.core).v ∧ kf.qs = (u.core o.core).qs ∧ kf.fx = (u.core o.core).fx ∧
      kf.stall = (u.core o.core).stall := by
  have hserve : s.serves [coreDom o.core] := h.serves
  have hrun : s.pierRun o extra body y =
      u.pierDone o (s.costOf o extra) (if (s.core o.core).joins o then ((s.waited o).core o.core).clk - 1
        else ((s.waited o).core o.core).clk) ((s.core o.core).joins o) ((s.core o.core).pc + 4) := by
    have e1 : ((s.core o.core).stopped || (s.core o.core).stall || s.fetchStalled o.core (s.core o.core).pc) = false := by
      simp [h.going, h.free, h.fetched]
    have e2 : (decide (s.pierSpace o.core ≤ (s.core o.core).pc) || (s.core o.core).pc % 4 != 0) = false := by
      simp [h.inCode, h.aligned]
    have e3 : (!(if k.background then o.legal else o.fpOk)) = false := by rw [h.held]; rfl
    have hw : (if (s.core o.core).joins o = true then 0 else (s.core o.core).readyAt o.reads - (s.core o.core).clk) =
      s.waitOf o := rfl
    have hc : (if (s.core o.core).joins o = true then 0 else o.cost + extra) = s.costOf o extra := rfl
    have e4 : (!k.background && (decide ((s.core o.core).bc < s.waitOf o + s.costOf o extra) ||
        ((s.core o.core).bc == s.waitOf o + s.costOf o extra && !y))) = false := by
      have hf := h.fits
      cases hbg : k.background
      · simp only [hbg, Bool.false_eq_true, if_false] at hf
        have : ¬ (s.core o.core).bc < s.waitOf o + s.costOf o extra := by omega
        have : (s.core o.core).bc ≠ s.waitOf o + s.costOf o extra := by omega
        simp [*]
      · rfl
    have e5 : (s.codeError o.core (s.core o.core).pc == some true) = false := by rw [h.clean]; rfl
    unfold State.pierRun
    simp only [h.task]
    rw [e1, if_neg Bool.false_ne_true, e2, if_neg Bool.false_ne_true, e5, if_neg Bool.false_ne_true, e3,
      if_neg Bool.false_ne_true, hw, hc, e4, if_neg Bool.false_ne_true]
    have hb' : body (s.setCore o.core ((s.core o.core).spend (s.waitOf o))) = .next u := hb
    have hf' : (s.setCore o.core ((s.core o.core).spend (s.waitOf o))).fetched o.core (s.core o.core).pc =
        s.setCore o.core ((s.core o.core).spend (s.waitOf o)) := State.fetched_clean h.clean
    rw [hf']
    simp only [hb']
    simp [State.waited]
  have hact : s.pierAct i extra body y = .next (s.pierRun o extra body y) := by
    unfold State.pierAct
    simp only [h.op]
    exact State.act_eq _ hserve
  rw [hact, hrun]
  unfold State.pierDone
  simp only [ht, State.endOfBody_straight hstr 4 (Nat.le_refl 4)]
  have hleave : (k.background && (((u.modCore o.core fun k => { (k.spend (s.costOf o extra)).setReady o
      (if (s.core o.core).joins o = true then ((s.waited o).core o.core).clk - 1
        else ((s.waited o).core o.core).clk) with
      pc := (s.core o.core).pc + 4
      pair := if (o.pairs && !(s.core o.core).joins o && !u.lastOfBody o.core (u.core o.core).pc) = true
        then some o.sets else none }).core o.core).slice == 0)) = false := by
    cases hbg : k.background
    · rfl
    · have hf := h.fits
      simp only [hbg, if_true] at hf
      have hs0 : ((s.waited o).core o.core).slice = (s.core o.core).slice - s.waitOf o := by
        simp [State.waited, CoreSt.spend, h.task, hbg]
      have : (u.core o.core).slice - s.costOf o extra ≠ 0 := by omega
      simp [State.modCore, CoreSt.setReady, CoreSt.spend, ht, hbg, this]
  rw [hleave, if_neg Bool.false_ne_true]
  have hkeep : ∀ v : State, v.health = s.health → (v.core o.core).task = some k →
      (if v.tcmTested o.core = true then v.bpPreempt o.core else v) = v := by
    intro v hv hvt
    cases hbg : k.background
    · split
      · simp [State.bpPreempt, hvt, hbg]
      · rfl
    · have := h.untested hbg
      unfold State.tcmTested at *
      rw [hv, this, if_neg Bool.false_ne_true]
  rw [hkeep _ (by simpa [State.modCore, State.setCore] using hh) (by simp [State.modCore, CoreSt.setReady, ht])]
  exact ⟨_, rfl, rfl, by simp [CoreSt.setReady, ht], by simp [CoreSt.setReady], by simp [CoreSt.setReady],
    by simp [CoreSt.setReady], by simp [CoreSt.setReady], by simp [CoreSt.setReady], by simp [CoreSt.setReady],
    by simp [CoreSt.setReady]⟩

/-- An instruction that reaches the deck is kept only where its access waits for the end of the commit window (R18). -/
theorem State.keepHeld_free {s t : State} {c : Nat} {i : Instr} {w : Bool} (h : (t.core c).stall = false) :
    State.keepHeld s t c i w = t := by
  unfold State.keepHeld; simp [h]

/-- As `pierAct_done`, for an instruction that reaches the deck and does not wait. -/
theorem State.deckAct_done {s u : State} {i : Instr} {o : PierOp} {k : RunTask} {body : State → PierRes}
    (h : Issues s i o 0 k) (hb : body (s.waited o) = .next u) (ht : (u.core o.core).task = some k)
    (hsl : (u.core o.core).slice = ((s.waited o).core o.core).slice) (hh : u.health = s.health)
    (hst : (u.core o.core).stall = false) (hstr : Straight u o.core ((s.core o.core).pc + 4)) :
    ∃ kf : CoreSt, s.deckAct i body = .next (u.setCore o.core kf) ∧ kf.pc = (s.core o.core).pc + 4 ∧
      kf.task = some k ∧ kf.z = (u.core o.core).z ∧ kf.n = (u.core o.core).n ∧ kf.c = (u.core o.core).c ∧
      kf.v = (u.core o.core).v ∧ kf.qs = (u.core o.core).qs ∧ kf.fx = (u.core o.core).fx ∧ kf.stall = false := by
  obtain ⟨kf, h1, h2, h3, hz, hn, hc, hv, hq, hx, hs⟩ := State.pierAct_done (y := false) h hb ht hsl hh hstr
  refine ⟨kf, ?_, h2, h3, hz, hn, hc, hv, hq, hx, hs.trans hst⟩
  unfold State.pierAct State.deckAct at *
  simp only [h.op, State.act_eq _ h.serves] at *
  rw [Host.Outcome.next.inj h1, State.keepHeld_free (by simp [hs, hst])]

/-- `w` is `s` but for the core table, where core `c` alone may differ, and runs the same task at the same PC. -/
structure CoreUpd (s w : State) (c : Nat) : Prop where
  rest : ∃ cores, w = { s with pier := { s.pier with core := cores } }
  others : ∀ c', c' ≠ c → w.core c' = s.core c'
  pc : (w.core c).pc = (s.core c).pc
  task : (w.core c).task = (s.core c).task

theorem CoreUpd.gpr {s w : State} {c : Nat} (h : CoreUpd s w c) (a b : Nat) : w.gpr a b = s.gpr a b := by obtain ⟨k, rfl⟩ := h.rest; rfl

theorem CoreUpd.waited (s : State) (o : PierOp) : CoreUpd s (s.waited o) o.core :=
  ⟨⟨_, rfl⟩, fun c' h => State.core_setCore_ne _ _ _ _ (Ne.symm h), by simp [State.waited], by simp [State.waited]⟩

theorem CoreUpd.mod {s w : State} {c : Nat} (h : CoreUpd s w c) (F : CoreSt → CoreSt) (h1 : ∀ q, (F q).pc = q.pc)
    (h2 : ∀ q, (F q).task = q.task) : CoreUpd s (w.modCore c F) c := by
  obtain ⟨⟨k, hk⟩, a, b, d⟩ := h
  exact ⟨⟨_, by rw [hk]; rfl⟩, fun c' h => by rw [State.modCore, State.core_setCore_ne _ _ _ _ (Ne.symm h), a _ h],
    by simp [State.modCore, h1, b], by simp [State.modCore, h2, d]⟩

/-- An instruction whose own effect writes one register, and changes its core's state apart from PC and task, completes: the
register is written, the flags are those of its effect, and nothing outside the core changes. -/
theorem State.pierAct_put {s w : State} {i : Instr} {o : PierOp} {extra : Nat} {k : RunTask} {body : State → PierRes} {y : Bool} {c : CoreId} {gd : Gpr} {r : Word}
    (h : Issues s i o extra k) (hc : o.core = c)
    (hw : CoreUpd s w c) (hsl : (w.core c).slice = ((s.waited o).core c).slice)
    (hb : body (s.waited o) = .next (w.put c gd r))
    (hstr : Straight (s.put c gd r) c ((s.core c).pc + 4)) :
    ∃ t, s.pierAct i extra body y = .next t ∧ CoreOnly s t c ((s.core c).pc + 4) ∧ Writes s t c gd r ∧
     t.flagsOf c = w.flagsOf c := by
  have hgd : gd.toNat < 64 := gd.isLt
  have htask := h.task
  rw [hc] at htask
  obtain ⟨kf, h1, h2, h3, hz, hn, hcc, hv, hq, hx, -⟩ := State.pierAct_done h hb
    (by rw [hc]; simp [State.put, hw.task, htask])
    (by rw [hc]; simp [State.put, hsl])
    (by
      obtain ⟨q, hq⟩ := hw.rest
      rw [hq]; unfold State.put State.setGpr; split <;> rfl)
    (by
      rw [hc]
      have e : ∀ g, (w.put c gd r).gpr c g = (s.put c gd r).gpr c g := by
        have e' : (w.put c gd r).pier.gpr = (s.put c gd r).pier.gpr := by
          obtain ⟨q, hq⟩ := hw.rest
          rw [hq]; unfold State.put State.setGpr; split <;> rfl
        intro g; unfold State.gpr; rw [e']
      intro j hj hl
      unfold State.levelOn State.levelBody at *
      rw [e] at hl; rw [e]; exact hstr j hj hl)
  rw [hc] at h1 h2 hz hn hcc hv hq hx
  refine ⟨_, h1, ⟨?_, ?_, ?_, ?_⟩, ?_, ?_⟩
  · obtain ⟨q, hq⟩ := hw.rest
    rw [hq]
    unfold State.put State.setGpr; split <;> exact ⟨_, _, rfl⟩
  · intro c' hc'
    constructor
    · simp [State.core_setCore_ne _ _ _ _ (Ne.symm hc'), State.put, hw.others _ hc']
    · intro g hg
      simp [State.put, State.gpr_setGpr _ _ _ _ _ _ hgd hg, hc', hw.gpr]
  · simp [h2]
  · simp [h3, htask]
  · intro g hg
    simp only [State.gpr_setCore, State.put, State.gpr_setGpr _ _ _ _ _ _ hgd hg]
    by_cases hh : g = gd.toNat <;> simp [hh, hw.gpr]
  · simp [State.flagsOf, hz, hn, hcc, hv, hq, hx, State.put]

@[simp] theorem State.waited_ra (s : State) (o : PierOp) (c : CoreId) (g : Gpr) : (s.waited o).ra c g = s.ra c g := rfl

/-- As `pierAct_put`, with the flags left alone. -/
theorem State.pierAct_plain {s : State} {i : Instr} {o : PierOp} {extra : Nat} {k : RunTask} {body : State → PierRes} {y : Bool} {c : CoreId} {gd : Gpr} {r : Word}
    (h : Issues s i o extra k) (hc : o.core = c)
    (hb : body (s.waited o) = .next ((s.waited o).put c gd r))
    (hstr : Straight (s.put c gd r) c ((s.core c).pc + 4)) :
    ∃ t, s.pierAct i extra body y = .next t ∧ CoreOnly s t c ((s.core c).pc + 4) ∧ Writes s t c gd r ∧
     t.flagsOf c = s.flagsOf c := by
  obtain ⟨t, h1, h2, h3, h4⟩ := State.pierAct_put h hc (hc ▸ CoreUpd.waited s o) rfl hb hstr
  refine ⟨t, h1, h2, h3, ?_⟩
  rw [h4]; simp [State.flagsOf, State.waited, hc]
/-- As `pierAct_put`, with the flags changed by `F`. -/
theorem State.pierAct_flags {s : State} {i : Instr} {o : PierOp} {extra : Nat} {k : RunTask} {body : State → PierRes} {y : Bool} {c : CoreId} {gd : Gpr} {r : Word}
    (F : CoreSt → CoreSt) (h : Issues s i o extra k) (hc : o.core = c)
    (hF : ∀ q, (F q).pc = q.pc ∧ (F q).task = q.task ∧ (F q).slice = q.slice)
    (hb : body (s.waited o) = .next (((s.waited o).modCore c F).put c gd r))
    (hstr : Straight (s.put c gd r) c ((s.core c).pc + 4)) :
    ∃ t, s.pierAct i extra body y = .next t ∧ CoreOnly s t c ((s.core c).pc + 4) ∧ Writes s t c gd r ∧
     t.flagsOf c = (let q := F ((s.core c).spend (s.waitOf o)); (q.z, q.n, q.c, q.v, q.qs, q.fx)) := by
  obtain ⟨t, h1, h2, h3, h4⟩ := State.pierAct_put h hc ((hc ▸ CoreUpd.waited s o : CoreUpd s (s.waited o) c).mod F
    (fun q => (hF q).1) (fun q => (hF q).2.1)) (by simp [State.modCore, (hF _).2.2]) hb hstr
  refine ⟨t, h1, h2, h3, ?_⟩
  rw [h4]; simp [State.flagsOf, State.waited, hc, State.modCore]

end Sys2Proof.Machine
end

