-- ==== Sys2Proof/Tests/Base.lean ====
section
/-! SUPPORT. Small states for the tests, and checks of hypotheses that the kernel evaluates. -/

namespace Sys2Proof.Tests

set_option Elab.async false

open Sys2Proof Sys2Proof.Machine

/-- List register fields: each row is a field, its indexes and its value. -/
def st (rows : List (Fld × Nat × Nat × Nat)) (s : State) : State :=
  rows.foldl (fun s r => { s with rf := Sparse.put s.rf (r.1.key r.2.1 r.2.2.1) r.2.2.2 }) s

/-- Reset is over, every domain and clock is on and the joint is up. -/
def up : State :=
  st [(F.SYS_PD_STAT_IS_ON, 0, 0, 0x3FF), (F.SYS_PLL_STAT_PLL_D_LOCK, 0, 0, 1), (F.SYS_PLL_STAT_PLL_L_LOCK, 0, 0, 1),
    (F.SYS_PLL_STAT_PLL_N_LOCK, 0, 0, 1), (F.SYS_PLL_STAT_PLL_B_LOCK, 0, 0, 1), (F.SYS_JOINT_STAT_LINK_UP, 0, 0, 1)]
    { State.reset with power := { State.reset.power with rst := .running } }

/-- A coherent device in mid-span that drives its outputs. -/
def run : State :=
  st [(F.SPAN_CTL_RUN, 0, 0, 1), (F.SYS_START_STAT_STEP, 0, 0, 8), (F.SPAN_STAT_WINDOW, 0, 0, 1), (F.TWIN_STAT_OWN_OUT, 0, 0, 1),
    (F.TWIN_STAT_DRIVING, 0, 0, 1)] { up with span := { up.span with frame := 100, phase := 5000 } }

/-- `x` at the tick of a span, with sequencer 1 on PHASE triggers, one in five spans, and `rows`. -/
def phaseSet (x : State) (rows : List (Fld × Nat × Nat × Nat)) : State :=
  { st ([(F.CONV_SEQ_TRIG_SRC, 1, 0, 2), (F.CONV_SEQ_ENT_A_DEST, 1, 0, 1), (F.CONV_SEQ_TRIG_DIV_M1, 1, 0, 4)] ++ rows) x with
    span := { x.span with phase := 0 } }

/-- `x` with a drop seen at sequencer 1 in this span, and the triggers that reached the sequencers last. -/
def triggered (x : State) (at' : Sparse Nat) : State :=
  { x with conv := { x.conv with dropSeen := [1], trigAt := at' } }

/-- `x` with a run of sequencer 1, and the entries that convert. -/
def inRun (x : State) (r : SeqRun) (jobs : Sparse ConvJob) : State :=
  { x with conv := { x.conv with runs := Sparse.put [] 1 r, jobs := jobs } }

/-- `x` in a calibration slot. -/
def inSlot (x : State) (formed : Option (List (Word × Word))) : State :=
  { x with conv := { x.conv with inSlot := true, formed := formed } }

/-- Core `c` runs task 7, at word 2 unless `k` says where. -/
def core (s : State) (bg : Bool) (c : Nat := 2) (k : CoreSt := {}) : State :=
  s.setCore c { k with
    task := some ⟨bg, 0, 7⟩, pc := if k.pc = 0 then 8 else k.pc, bc := 5000, slice := 5000, fpDone := bg }

/-- General registers of core `c`. -/
def gprs (s : State) (l : List (Nat × Word)) (c : Nat := 2) : State := l.foldl (fun s x => s.setGpr c x.1 x.2) s

/-- Words of the deck from `a` on. -/
def words (s : State) (a : Nat) (l : List (Nat × Word)) : State :=
  l.foldl (fun s x => s.setDBytes (a + 4 * x.1) (toBytes x.2.toNat 4)) s

/-- An image with one frame-partition task that yields at once. -/
def imageBytes : List Byte :=
  [49, 75, 89, 81, 2, 0, 32, 116, 100, 0, 0, 0, 8, 0, 0, 0, 4, 0, 0, 0, 1, 0, 0, 0, 0, 0, 0, 0, 0, 0, 0, 0, 0, 0, 0, 0,
  0, 0, 0, 0, 232, 3, 0, 0, 132, 3, 0, 0, 0, 0, 0, 0, 0, 0, 0, 0, 0, 0, 0, 0, 9, 41, 92, 196, 0, 0, 0, 220, 0, 0, 0,
  220, 68, 51, 34, 17, 5, 0, 0, 0, 0, 0, 0, 0, 232, 3, 0, 0, 132, 3, 0, 0, 0, 0, 0, 0, 0, 0, 0, 0]

/-- The same image, banked. -/
def bankedBytes : List Byte :=
  [49, 75, 89, 81, 2, 0, 32, 116, 100, 0, 0, 0, 8, 0, 0, 0, 4, 0, 0, 0, 1, 0, 1, 0, 0, 0, 0, 0, 0, 0, 0, 0, 0, 0, 0, 0,
  0, 0, 0, 0, 232, 3, 0, 0, 132, 3, 0, 0, 0, 0, 0, 0, 0, 0, 0, 0, 0, 0, 0, 0, 44, 99, 157, 133, 0, 0, 0, 220, 0, 0, 0,
  220, 68, 51, 34, 17, 5, 0, 0, 0, 0, 0, 0, 0, 232, 3, 0, 0, 132, 3, 0, 0, 0, 0, 0, 0, 0, 0, 0, 0]

/-- A boot image with one background task. -/
def bootBytes : List Byte :=
  [49, 75, 89, 81, 2, 0, 32, 116, 92, 0, 0, 0, 4, 0, 0, 0, 0, 0, 0, 0, 1, 0, 0, 0, 0, 0, 0, 0, 0, 0, 0, 0, 0, 0, 0, 0,
  0, 0, 0, 0, 0, 0, 0, 0, 0, 0, 0, 0, 0, 0, 0, 0, 0, 0, 0, 0, 0, 0, 0, 0, 143, 191, 33, 7, 0, 0, 0, 0, 5, 0, 1, 0, 0, 0,
  0, 0, 0, 0, 0, 0, 0, 0, 0, 0, 0, 0, 0, 0, 0, 0, 0, 0]

/-- Its manifest. -/
def bootManifestBytes : List Byte :=
  [84, 79, 79, 66, 7, 0, 0, 0, 92, 0, 0, 0, 241, 132, 175, 114, 242, 130, 163, 251, 157, 91, 239, 222, 88, 95, 136, 62,
  203, 154, 79, 42, 133, 79, 149, 212, 16, 74, 253, 168, 28, 50, 12, 153, 0, 0, 0, 0, 0, 0, 0, 0, 0, 0, 0, 0, 0, 0, 0,
  0, 184, 223, 52, 91]

/-- An admitted image with a task of each kind. -/
def taskImage : Image where
  src := 0x1100000
  len := 100
  crc := 0x1234
  banked := false
  codeLen := 8
  dataLen := 4
  ovlOff := 0
  ovlLen := 256
  tasks := [⟨5, false, 0, 0, 1000, 900, 0⟩, ⟨6, true, 1, 4, 0, 0, 0⟩]
  claims := []
  loops := []
  budgetSum := 1000
  wcetSum := 900
  thrSafe := false

/-- An admitted image whose task 7 holds loops 3 and 4. -/
def loopImage : Image :=
  { taskImage with codeLen := 64, ovlLen := 0, tasks := [⟨7, false, 0, 0, 1000, 900, 0⟩], loops := [(3, 7), (4, 7)] }

/-- An update of a remote point. -/
def someUpdate : Update where
  pt := 5
  value := 7
  qual := .good
  flags := 0
  fmt := 0
  held := false
  offset := 3
  seq := 2
  origin := 100

/-- A service peer. -/
def somePeer : SvcPeer where
  addr := mapped [10, 0, 0, 9]
  port := 0x1234
  mac := [2, 0, 0, 0, 0, 9]
  seq := 0x0201
  response := [1, 2, 3, 4, 5]
  atUs := 0
  via := 1

/-- A queued event. -/
def someEvent : EvtEntry where
  code := 0x505
  sev := 2
  index := 3
  task := 0xFFFF
  device := 55
  frame := 100
  offset := 3
  kticks := 7
  epoch := 1
  list := 0
  words := [1, 2, 3]

/-- A pending adjustment of the clock. -/
def someKeepCmd : KeepCmd where
  adjust := true
  s := 2 ^ 48 - 1
  initiator := 1

/-- A marker of ring master 3. -/
def someMarker : Marker where
  master := 3
  frame := 777
  accPs := 5
  errPs := -400
  p := 1
  wNs := 3
  d := 2
  dChange := none
  grants := none
  spanChange := none
  closed := true

/-- The image lies in the overlay store. -/
def imageLoaded : State := run.setDBytes 0x1100000 imageBytes

/-- The banked image in the overlay area of the deck. -/
def bankedLoaded : State := run.setDBytes 0x1100000 bankedBytes

/-- A block read whose tick has come. -/
def someBlk : BlkJob := { first := 4, count := 3, base := 0x1900000, tick := some 0x100000009 }

/-- Task 7 holds loops 3 and 4 and owns points 5, 6 and 9. -/
def loopState : State :=
  { run with
    pts := { run.pts with
      desc := [(5, { cls := 1, ownerId := 7 }), (6, { cls := 1, ownerId := 7 }), (9, { cls := 1, ownerId := 7 })]
      seen := [(5, { value := 0x41A20000, qual := .good }), (6, { value := 0x41AD999A, qual := .good })] } }.modSch 2
    fun k => { k with active := some loopImage }

/-- Points 5 and 9 of task 7, point 10 of another. -/
def ownedPoints : State :=
  { run with
    pts := { run.pts with
      desc := [(5, { cls := 1, ownerId := 7 }), (9, { cls := 1, ownerId := 7, fmt := 2 }), (10, { cls := 1, ownerId := 8 })]
      seen := [(5, { value := 77, qual := .good, frame := 99, offset := 8 }), (9, { value := 3 })]
      own := [(5, { value := 78 })]
      next := [(9, { value := 99 })] } }

/-- Four bytes in the data memory of core 2. -/
def tcmFour : State :=
  { run with
    pier := { run.pier with
      tcm := [(0x80000 + 0x20000 + 16, 0x80), (0x80000 + 0x20000 + 17, 0xFF), (0x80000 + 0x20000 + 18, 3),
        (0x80000 + 0x20000 + 19, 0x91)] } }

/-- A point of the host port and one of a converter. -/
def hostPoints : State :=
  { run with
    pts := { run.pts with
      desc := [(5, { cls := 6, ownerId := 0 }), (6, { cls := 3 })]
      seen := [(5, { value := 77, qual := .good })] }
    deck := [(0x1900017, 9)] }

/-- A keystone command waits for its edge. -/
def keepPending : State :=
  { st [(F.KEEP_STAT_PENDING, 0, 0, 1)] run with keep := { run.keep with count := 77, cmd := some someKeepCmd } }

/-- As `keepPending`, after a freeze that hid five ticks. -/
def keepThawing : State := { keepPending with keep := { keepPending.keep with hidden := 5, catchUp := true } }

/-- A ring member with device ID 55. -/
def ringOn : State :=
  st [(F.SYS_DEVICE_ID_LOCK, 0, 0, 1), (F.SYS_DEVICE_ID_ID, 0, 0, 55), (F.TRESTLE_CTL_EN, 0, 0, 1),
    (F.TRESTLE_CTL_ELIG, 0, 0, 1)] run

/-- A paired device. -/
def twinOn : State := st [(F.TWIN_CTL_EN, 0, 0, 1), (F.SYS_DEVICE_ID_LOCK, 0, 0, 1), (F.SYS_DEVICE_ID_ID, 0, 0, 55)] run

/-- A standby 2 µs before its tick. -/
def judging : State :=
  { st [(F.TWIN_STAT_ROLE, 0, 0, 3)] twinOn with
    span := { (st [(F.TWIN_STAT_ROLE, 0, 0, 3)] twinOn).span with phase := deckCycles run.sel - 400 } }

/-- A paired device with a lane up. -/
def twinLinked : State := st [(F.TWIN_STAT_LANE_A_UP, 0, 0, 1)] twinOn

/-- The reference is ready. -/
def convOn : State := st [(F.CONV_REF_CTL, 0, 0, 1), (F.CONV_REF_STAT, 0, 0, 1)] run

/-- A sequencer with three entries and a ring of 16 slots. -/
def convRing : State :=
  st [(F.CONV_SEQ_CTL_ENTRIES, 1, 0, 3), (F.CONV_SEQ_RING_CFG_SIZE, 1, 0, 4), (F.CONV_SEQ_RING_BASE, 1, 0, 0x320000),
    (F.CONV_SEQ_RING_WR, 1, 0, 15), (F.CONV_SEQ_RING_RD, 1, 0, 7)] convOn

/-- An entry of sequencer 1 that converts. -/
def someJob : ConvJob :=
  { seq := 1, entry := 1, dropped := false, group := 1, spare := false, unserved := false, hold := 4000000
    refnr := false, calsw := false }

/-- Solenoid channel 1 is configured. -/
def solSet : State :=
  st [(F.SOL_CH_PROF_PICK_I, 1, 0, 1000), (F.SOL_CH_PROF_HOLD_I, 1, 0, 300), (F.SOL_GRP_CFG_IMAX, 0, 0, 2000),
    (F.SOL_CH_PWM_PER, 1, 0, 5000), (F.SOL_CH_SHUNT, 1, 0, 50)] run

/-- Motor channel 1 runs. -/
def motSet : State :=
  st [(F.MOT_CH_CFG_EN, 1, 0, 1), (F.MOT_CH_CFG_SRC, 1, 0, 1), (F.MOT_CH_STAT_STATE, 1, 0, 4)] run

/-- The figures of a pier instruction. -/
def opOf (i : Instr) : PierOp := (pierOp i).getD { core := 0, reads := [], writes := [], cost := 1, lat := 1, wcost := 1 }

/-- `Issues` as a check. -/
def issuesB (s : State) (i : Instr) (o : PierOp) (extra : Nat) (k : RunTask) : Bool :=
  decide (pierOp i = some o) && decide (s.serves [coreDom o.core]) && decide ((s.core o.core).task = some k) &&
    !(s.core o.core).stopped && !(s.core o.core).stall && !s.fetchStalled o.core (s.core o.core).pc &&
    decide ((s.core o.core).pc < s.pierSpace o.core) && decide ((s.core o.core).pc % 4 = 0) &&
    (s.codeError o.core (s.core o.core).pc).isNone &&
    (if k.background then o.legal else o.fpOk) &&
    decide (s.waitOf o + s.costOf o extra < if k.background then (s.core o.core).slice else (s.core o.core).bc) &&
    (!k.background || !s.tcmTested o.core)

/-- A check that passes gives `Issues`. -/
theorem issues_of {s : State} {i : Instr} {o : PierOp} {extra : Nat} {k : RunTask} (h : issuesB s i o extra k = true) :
    Issues s i o extra k := by
  simp only [issuesB, Bool.and_eq_true, Bool.or_eq_true, decide_eq_true_eq, Bool.not_eq_true', Option.isNone_iff_eq_none] at h
  obtain ⟨⟨⟨⟨⟨⟨⟨⟨⟨⟨⟨a, b⟩, c⟩, d⟩, e⟩, f⟩, g⟩, j⟩, x⟩, l⟩, m⟩, n⟩ := h
  exact ⟨a, b, c, d, e, f, g, j, x, l, m, fun hk => n.resolve_left (by simp [hk])⟩

/-- `issues_of` for every row of a list. -/
theorem rows_issue {α : Type} {l : List α} (s : State) (i : α → Instr) (extra : α → Nat) (k : RunTask)
    (h : ∀ row ∈ l, issuesB s (i row) (opOf (i row)) (extra row) k = true) :
    ∀ row ∈ l, Issues s (i row) (opOf (i row)) (extra row) k := fun row hr => issues_of (h row hr)

/-- `LawReady` from a check. -/
theorem lawReady_of {s : State} {c : Nat} {ls : List Nat} {ins : List (Option Nat)} {out : Option Nat}
    (h : s.windowWait 0 1 = false ∧ (∀ x ∈ lawReads ls ins, s.eccClean x.1 x.2 = true) ∧ (∀ n ∈ ls, s.holdsLoop c n = true) ∧
      s.ownsOut c out = true ∧ s.outBad out = false) : LawReady s c ls ins out := ⟨h.1, h.2.1, h.2.2.1, h.2.2.2.1, h.2.2.2.2⟩

end Sys2Proof.Tests
end

