-- ==== Sys2Proof/Tests/Slice0.lean ====
section
/-! SUPPORT. Tests: ill-formed commands, words of the pier written out from the specification, single commands with the results
the specification's own worked examples give, and witnesses of the statements about the whole machine. -/

namespace Sys2Proof.Tests

set_option Elab.async false

open Sys2Proof Sys2Proof.Machine

/-! ### Ill-formed commands: one for each check -/

theorem test_lane_twice : wellFormed (.jointFrame [3, 3]) = false := by decide
theorem test_no_conversion : wellFormed (.entryComplete 0 []) = false := by decide
theorem test_five_pairs : wellFormed (.calCoeffCheck (List.replicate 5 (0, 0))) = false := by decide
theorem test_sol_sample : wellFormed (.solPwmPeriod 0 [2048] 0) = false := by decide
theorem test_mot_sample : wellFormed (.motPeriodStart 0 0 (-2049) 0 0) = false := by decide
theorem test_fan_samples : wellFormed (.fanPwmPeriod 0 (List.replicate 21 0) 0) = false := by decide
theorem test_meter_codes : wellFormed (.meterSampleReady (List.replicate 7 0)) = false := by decide
theorem test_empty_read : wellFormed (.deckAccess .host (.read 0 0) .ok) = false := by decide
theorem test_empty_write : wellFormed (.deckAccess .host (.write 0 []) .ok) = false := by decide
theorem test_long_burst (n : Nat) (h : 65536 ≤ n) : wellFormed (.wrBurst 0 (List.replicate n 0)) = false :=
  decide_eq_false (by rw [List.length_replicate]; omega)
theorem test_reserved_pair : wellFormed (.mulp 0 3 1 2) = false := by decide +kernel
theorem test_reserved_body : wellFormed (.loopA 0 4 0) = false := by decide +kernel

/-! ### Words written out bit by bit (R138 to R140) -/

/-- ADD.S g1, g2, g3: op 0x00, gd, ga, gb, S, fn. -/
theorem test_word_add : pierDecode 0 0b000000_000001_000010_000011_1_0000000 = some (.add 0 1 2 3 true) := by decide +kernel
/-- ADDI g5, g6, −2: op 0x01. -/
theorem test_word_addi : pierDecode 0 0b000001_000101_000110_11111111111110 = some (.addi 0 5 6 0x3FFE) := by decide +kernel
/-- MULP g4, g1, g2: op 0x0B, fn 0x03. -/
theorem test_word_mulp : pierDecode 0 0b001011_000100_000001_000010_00000011 = some (.mulp 0 4 1 2) := by decide +kernel
/-- QSHL g7, g8, g9: op 0x0C, fn 0x07. -/
theorem test_word_qshl : pierDecode 0 0b001100_000111_001000_001001_00000111 = some (.qshl 0 7 8 9) := by decide +kernel
/-- FSQRT g1, g2: op 0x0D, fn 0x06, gb 0. -/
theorem test_word_fsqrt : pierDecode 0 0b001101_000001_000010_000000_00000110 = some (.fsqrt 0 1 2) := by decide +kernel
/-- BLT g1, g2, −1: op 0x12. -/
theorem test_word_blt : pierDecode 0 0b010010_000001_000010_11111111111111 = some (.blt 0 1 2 0x3FFF) := by decide +kernel
/-- LOOP 16, 3: op 0x18, count, body. -/
theorem test_word_loop : pierDecode 0 0b011000_0000010000_0000000000000011 = some (.loopA 0 16 3) := by decide +kernel
/-- LHU g1, 6(g2): op 0x22. -/
theorem test_word_lhu : pierDecode 0 0b100010_000001_000010_00000000000110 = some (.lhu 0 1 2 6 .ok) := by decide +kernel
/-- DLL g8, 32(g2): op 0x2A. -/
theorem test_word_dll : pierDecode 0 0b101010_001000_000010_00000000100000 = some (.dll 0 8 2 32 .ok) := by decide +kernel
/-- PLD.X g11, 0x0_1000: op 0x31, q 3. -/
theorem test_word_pldx : pierDecode 0 0b110001_001011_011_00001000000000000 = some (.pldX 0 11 0x1000) := by decide +kernel
/-- SWAPK ARM g8, loop 3: op 0x3B, mode 1. -/
theorem test_word_swapk : pierDecode 0 0b111011_001000_00000000000011_000001 = some (.swapkArm 0 8 3 1) := by decide +kernel
/-- YIELD: op 0x37, all else 0. -/
theorem test_word_yield : pierDecode 0 0b110111_00000000000000000000000000 = some (.yieldA 0) := by decide +kernel
/-- A field that must be 0: gb of FSQRT. -/
theorem test_word_reserved_field : pierDecode 0 0b001101_000001_000010_000001_00000110 = none := by decide +kernel
/-- A reserved opcode, 0x0E. -/
theorem test_word_reserved_op : pierDecode 0 0b001110_00000000000000000000000000 = none := by decide +kernel

/-! ### Worked examples of the specification -/

/-- The program of the worked example of 05_pier_instruction_reference.md: the mean of 16 points. -/
def meanProgram : List Word := [.loopA 0 16 3, .andi 0 11 56 0x3FF, .pldX 0 11 0x1000, .fadd 0 12 12 11, .imh 0 13 0x3D80,
  .fmul 0 14 12 13, .pst 0 14 0x2000, .yieldA 0].map fun i => (pierEncode i).getD 0

/-- The loader's figure for it is 1,095 cycles (R112). -/
theorem test_loader_figure : walkPath (fun k => meanProgram.getD k 0) 5 0 8 {} = (none, 1095) := by decide +kernel

/-- 03_point_deck.md: 230.0 µs into a 500 µs span the offset is 30,146. -/
theorem test_offset : ({ run with span := { run.span with phase := 92000 } } : State).offset = 30146 := by decide +kernel

/-- The damper loop of the worked example of 06_control_law_instructions.md, armed with its night set. -/
def damper : State :=
  core (words { loopState with pts := { loopState.pts with
      desc := [(5, { cls := 1, ownerId := 7 }), (8, { cls := 1, ownerId := 7 })]
      seen := [(5, { value := 0x41A00000, qual := .good }), (8, { value := 0x41B00000, qual := .good })] } } (loopAddr 3)
    [(1, 0x1095), (2, 0x80000005), (3, 0x80000008), (12, 0x42BC0000), (14, 0x42C80000), (16, 0x40400000), (17, 0x3D4CCCCD),
      (19, 0x3F800000), (21, 0x42C80000), (24, 0x40400000), (25, 0x3D4CCCCD), (27, 0x3F800000), (28, 0x41200000),
      (29, 0x42A00000), (30, 0x3F000000)]) false

/-- A command answers a next state of which `p` holds. -/
def after (o : Out) (p : State → Bool) : Bool :=
  match o with
  | .next t => p t
  | _ => false

/-- Frame 64,001: the commit gives 80.0 with I 74.0. -/
theorem test_swap_commit : after (execPids 2 10 3 0 damper) (fun t =>
    t.gpr 2 10 == 0x42A00000 && t.dWord (loopAddr 3 + 48) == 0x42940000) = true := by decide +kernel

/-- The ring of 14_trestle_ring.md: 400 devices 0.620 µs apart on a 500 µs span. -/
def ring400 : State :=
  { st [(F.TRESTLE_STAT_CLOSED, 0, 0, 1), (F.TRESTLE_PORT_STAT_LINK, 0, 0, 2), (F.TRESTLE_PORT_HOP, 0, 0, 620000)] ringOn with
    tre := { ringOn.tre with
      members := List.replicate 399 { id := 1, uid := 1, elig := true, hopE := 620000, req := 0 } } }

theorem test_ring_delay : ring400.worstPath = 248180000 ∧ ring400.delayFor = 2 ∧ nMax ring400.sel = 500 := by decide +kernel

/-- 15_keystone_timekeeping.md: an ADJUST by −2,949,120 just before edge 164. -/
theorem test_adjust : after (execCommitEdge { st [(F.KEEP_STAT_PENDING, 0, 0, 1)] run with
      keep := { run.keep with count := 51539607715, cmd := some { adjust := true, s := 0xFFFFFFD30000, initiator := 1 } } })
    (fun t => t.keep.count == 51536658596) = true := by decide +kernel

/-! ### The statements about the whole machine -/

/-- A state with two commands waiting. -/
def waitingTwo : State := { run with pending := [.fence 2, .yieldA 2] }

theorem witness_StepRunsTheFront : waitingTwo.pending = .fence 2 :: [.yieldA 2] := by decide +kernel

/-- A state with a word in the deck and one in a tightly coupled memory, and a command that writes the deck. -/
def waitingWrite : State :=
  { words run 0x1900000 [(0, 5)] with pending := [.deckAccess .host (.write 0x1900004 [1, 2, 3, 4]) .ok] }

theorem witness_StepKeepsMemoryForm : waitingWrite.memoryWf = true ∧
    after (step waitingWrite) (fun t => t.dByte 0x1900004 == 1) = true := by decide +kernel

theorem witness_DecodeOfEncode : (let i : Instr := .mulp 2 4 1 2
    pierOp i = some (opOf i) ∧ (opOf i).core = (2 : CoreId).val ∧ wellFormed i = true ∧
    pierEncode i = some 0x2C404203) := by decide +kernel

theorem witness_EncodeOfDecode : pierDecode 2 0x2C404203 = some (.mulp 2 4 1 2) := by decide +kernel

end Sys2Proof.Tests
end

