-- ==== Sys2Proof/Tests/Witness1.lean ====
section
/-! SUPPORT. Witnesses, part 1: for every statement with hypotheses, states and operands that meet those of each clause. -/

namespace Sys2Proof.Tests

set_option Elab.async false

open Sys2Proof Sys2Proof.Machine

/-- Every clause of `EmptyQueue` is about some state. -/
theorem witness_EmptyQueue :
  (let s : State := up
   s.pending = [] ∧ s.alive = true ∧ s.running = false) ∧
  (let s : State := run
   s.pending = [] ∧ s.alive = true ∧ s.running = true ∧ s.span.phase + 1 < s.spanCyc) ∧
  (let s : State := { run with span := { run.span with phase := run.spanCyc - 1 } }
   s.pending = [] ∧ (s.alive = false ∨ s.running = true ∧ s.spanCyc ≤ s.span.phase + 1)) := by
  refine ⟨?_, ?_, ?_⟩ <;> decide +kernel

/-- Every clause of `CorrectedJointFrame` is about some state. -/
theorem witness_CorrectedJointFrame :
  (let s : State := st [(F.SYS_JOINT_STAT_LINK_UP, 0, 0, 1)] run
   s.serves [] ∧ s.joint = true) := by decide +kernel

/-- Every clause of `EmptyOffsets` is about some state. -/
theorem witness_EmptyOffsets :
  (let s : State := run
   (let addr : Word := 0x40020094#32
    let a := addr.toNat
    s.serves [] ∧ a % 4 = 0 ∧ inControl a = true ∧ findReg a = none ∧ onBearing a = false ∧ s.domOn .net = true ∧
    s.port.waiting = []) ∧
   (let addr : Word := 0x40090FFC#32
    let a := addr.toNat
    s.serves [] ∧ a % 4 = 0 ∧ inControl a = true ∧ findReg a = none ∧ onBearing a = true ∧ s.posted = [])) := by decide +kernel

/-- Every clause of `CountIsSet` is about some state. -/
theorem witness_CountIsSet :
  (let s : State := { run with keep := { run.keep with count := 0 } }
   let i : Initiator := .host
   let d := s.drainPosted (initCode i)
   s.reaches [] ∧ d.bit F.KEEP_STAT_PENDING = false ∧ d.keep.frozen = false ∧ d.keep.catchUp = false) := by decide +kernel

/-- Every clause of `IntegerOpsWithFlags` is about some state. -/
theorem witness_IntegerOpsWithFlags :
  (let s : State := gprs (core run false (k := { c := false, v := true, qs := true, fx := true, z := true })) [(8,
       0x12345678), (9, 0xbd69fe29), (10, 0x4F000000), (40, 0x12345678)]
   let c : CoreId := 2
   let gd : Gpr := 10
   let ga : Gpr := 8
   let gb : Gpr := 9
   let f : Bool := false
   let k : RunTask := ⟨false, 0, 7⟩
   let a := s.ra c ga
   let b := s.ra c gb
   let cy := (s.core c).c.toNat
   let n := b.toNat % 32
   let ovf := fun z : Int => decide (z < -2147483648 ∨ 2147483647 < z)
   let rows : List (Instr × Word × Option (Bool × Bool)) := [ (.add c gd ga gb f, a + b,
       some (decide (2 ^ 32 ≤ a.toNat + b.toNat), ovf (a.toInt + b.toInt))), (.sub c gd ga gb f, a - b,
       some (decide (b.toNat ≤ a.toNat), ovf (a.toInt - b.toInt))), (.adc c gd ga gb f, a + b + BitVec.ofNat 32 cy,
       some (decide (2 ^ 32 ≤ a.toNat + b.toNat + cy), ovf (a.toInt + b.toInt + cy))),
       (.sbc c gd ga gb f, a - b - BitVec.ofNat 32 (1 - cy), some (decide (b.toNat + (1 - cy) ≤ a.toNat),
       ovf (a.toInt - b.toInt - (1 - cy : Nat)))), (.andA c gd ga gb f, a &&& b, none), (.orA c gd ga gb f, a ||| b, none),
       (.xorA c gd ga gb f, a ^^^ b, none), (.andn c gd ga gb f, a &&& ~~~b, none),
       (.shl c gd ga gb f, BitVec.ofNat 32 (a.toNat * 2 ^ n), none), (.shr c gd ga gb f, BitVec.ofNat 32 (a.toNat / 2 ^ n),
       none), (.sar c gd ga gb f, BitVec.ofInt 32 (a.toInt / 2 ^ n), none), (.ror c gd ga gb f, a.rotateRight n, none)]
   (∀ row ∈ rows, Issues s row.1 (opOf row.1) 0 k) ∧
   (∀ row ∈ rows, Straight (s.put c gd row.2.1) c ((s.core c).pc + 4))) := by
  repeat' first
    | decide +kernel
    | exact rows_issue _ _ _ _ (by decide +kernel)
    | exact issues_of (by decide +kernel)
    | exact fun _ _ => lawReady_of (by decide +kernel)
    | exact lawReady_of (by decide +kernel)
    | apply And.intro

/-- Every clause of `IntegerOpsKeepFlags` is about some state. -/
theorem witness_IntegerOpsKeepFlags :
  (let s : State := gprs (core run true (k := { c := true, v := false, qs := true, fx := false, z := true })) [(8,
       0x12345678), (9, 31), (10, 0x61e55064), (40, 0x12345678)]
   let c : CoreId := 2
   let gd : Gpr := 10
   let ga : Gpr := 0
   let gb : Gpr := 9
   let imm : BitVec 14 := 8191
   let sh : BitVec 5 := 31
   let half : BitVec 16 := 5
   let k : RunTask := ⟨true, 0, 7⟩
   let a := s.ra c ga
   let b := s.ra c gb
   let z := imm.toInt
   let u := imm.toNat
   let flag := fun p : Bool => if p then (1 : Word) else 0
   let rows : List (Instr × Word) := [ (.lts c gd ga gb, flag (decide (a.toInt < b.toInt))),
       (.ltu c gd ga gb, flag (decide (a.toNat < b.toNat))), (.minA c gd ga gb, if a.toInt < b.toInt then a else b),
       (.maxA c gd ga gb, if a.toInt < b.toInt then b else a), (.minu c gd ga gb, if a.toNat < b.toNat then a else b),
       (.maxu c gd ga gb, if a.toNat < b.toNat then b else a), (.addi c gd ga imm, a + BitVec.ofInt 32 z),
       (.andi c gd ga imm, a &&& BitVec.ofNat 32 u), (.ori c gd ga imm, a ||| BitVec.ofNat 32 u),
       (.xori c gd ga imm, a ^^^ BitVec.ofNat 32 u), (.shli c gd ga sh, BitVec.ofNat 32 (a.toNat * 2 ^ sh.toNat)),
       (.shri c gd ga sh, BitVec.ofNat 32 (a.toNat / 2 ^ sh.toNat)), (.sari c gd ga sh,
       BitVec.ofInt 32 (a.toInt / 2 ^ sh.toNat)), (.ltsi c gd ga imm, flag (decide (a.toInt < z))),
       (.ltui c gd ga imm, flag (decide (a.toNat < u))), (.iml c gd half, BitVec.ofNat 32 half.toNat),
       (.imh c gd half, BitVec.ofNat 32 (half.toNat * 65536 + (s.ra c gd).toNat % 65536)),
       (.mulA c gd ga gb, BitVec.ofNat 32 (a.toNat * b.toNat)), (.mulhs c gd ga gb,
       BitVec.ofInt 32 (a.toInt * b.toInt / 2 ^ 32)), (.mulhu c gd ga gb, BitVec.ofNat 32 (a.toNat * b.toNat / 2 ^ 32)),
       (.divA c gd ga gb, if b = 0 then (if 0 ≤ a.toInt then 0x7FFFFFFF else 0x80000000) else if a.toInt = -2147483648 ∧
       b.toInt = -1 then 0x7FFFFFFF else BitVec.ofInt 32 (a.toInt.tdiv b.toInt)),
       (.divu c gd ga gb, if b = 0 then 0xFFFFFFFF else BitVec.ofNat 32 (a.toNat / b.toNat))]
   (∀ row ∈ rows, Issues s row.1 (opOf row.1) 0 k) ∧
   (∀ row ∈ rows, Straight (s.put c gd row.2) c ((s.core c).pc + 4))) ∧
  (let s : State := gprs (core run true (k := { c := true, v := true, qs := true, fx := false, z := false })) [(8,
       0x80000000), (9, 31), (10, 0xFFFFFFFF), (40, 0x80000000)]
   let c : CoreId := 2
   let gd : Gpr := 8
   let ga : Gpr := 8
   let gb : Gpr := 8
   let k : RunTask := ⟨true, 0, 7⟩
   let a := s.ra c ga
   let b := s.ra c gb
   let rows : List (Instr × Word × Word) := [ (.mulp c gd ga gb, BitVec.ofInt 32 (a.toInt * b.toInt),
       BitVec.ofInt 32 (a.toInt * b.toInt / 2 ^ 32)), (.mulpu c gd ga gb, BitVec.ofNat 32 (a.toNat * b.toNat),
       BitVec.ofNat 32 (a.toNat * b.toNat / 2 ^ 32)), (.divm c gd ga gb,
       if b = 0 then (if 0 ≤ a.toInt then 0x7FFFFFFF else 0x80000000, 0) else if a.toInt = -2147483648 ∧
       b.toInt = -1 then (0x7FFFFFFF, 0) else (BitVec.ofInt 32 (a.toInt.tdiv b.toInt),
       BitVec.ofInt 32 (a.toInt.tmod b.toInt))), (.divmu c gd ga gb, if b = 0 then (0xFFFFFFFF,
       0) else (BitVec.ofNat 32 (a.toNat / b.toNat), BitVec.ofNat 32 (a.toNat % b.toNat)))]
   (∀ row ∈ rows, Issues s row.1 (opOf row.1) 0 k) ∧
   (∀ row ∈ rows, Straight (s.putGroup c gd [row.2.1, row.2.2]) c ((s.core c).pc + 4))) := by
  repeat' first
    | decide +kernel
    | exact rows_issue _ _ _ _ (by decide +kernel)
    | exact issues_of (by decide +kernel)
    | exact fun _ _ => lawReady_of (by decide +kernel)
    | exact lawReady_of (by decide +kernel)
    | apply And.intro

/-- Every clause of `FractionAndFloatResults` is about some state. -/
theorem witness_FractionAndFloatResults :
  (let s : State := gprs (core run false (k := { c := false, v := true, qs := false, fx := true, z := true })) [(8,
       0x7FC00000), (9, 0x4F000000), (10, 0x80000001), (40, 0x7FC00000)]
   let c : CoreId := 2
   let gd : Gpr := 8
   let ga : Gpr := 8
   let gb : Gpr := 9
   let k : RunTask := ⟨false, 0, 7⟩
   let a := (s.ra c ga).toInt
   let b := (s.ra c gb).toInt
   let d := (s.ra c gd).toInt
   let p := (a * b + 2 ^ 30) / 2 ^ 31
   let rows : List (Instr × Int) := [ (.qadd c gd ga gb, a + b), (.qsub c gd ga gb, a - b), (.qmul c gd ga gb, p),
       (.qmac c gd ga gb, d + p), (.qmsu c gd ga gb, d - p), (.qneg c gd ga, -a), (.qabs c gd ga, |a|),
       (.qshl c gd ga gb, a * 2 ^ ((s.ra c gb).toNat % 32))]
   (∀ row ∈ rows, Issues s row.1 (opOf row.1) 0 k) ∧
   (∀ row ∈ rows,
     let r := BitVec.ofInt 32 (max (-2147483648) (min 2147483647 row.2))
     Straight (s.put c gd r) c ((s.core c).pc + 4))) ∧
  (let s : State := gprs (core run true (k := { c := false, v := true, qs := true, fx := false, z := false })) [(8, 32),
       (9, 0xBF800000), (10, 0xFFFFFFFF), (40, 32)]
   let c : CoreId := 2
   let gd : Gpr := 8
   let ga : Gpr := 8
   let gb : Gpr := 9
   let k : RunTask := ⟨true, 0, 7⟩
   let a := s.ra c ga
   let b := s.ra c gb
   let d := s.ra c gd
   let flag := fun p : Bool => if p then (1 : Word) else 0
   let rows : List (Instr × Word × Bool) := [ (.fadd c gd ga gb, fAdd a b), (.fsub c gd ga gb, fAdd a b true),
       (.fmul c gd ga gb, fMul a b), (.fma c gd ga gb, fFma a b d), (.fms c gd ga gb, fFma a b d true),
       (.fdiv c gd ga gb, fDiv a b), (.fsqrt c gd ga, fSqrt a), (.fmin c gd ga gb, fMinMax false a b),
       (.fmax c gd ga gb, fMinMax true a b), (.fabs c gd ga, BitVec.ofNat 32 (a.toNat % 2 ^ 31), false),
       (.fneg c gd ga, BitVec.ofNat 32 ((a.toNat + 2 ^ 31) % 2 ^ 32), false), (.fceq c gd ga gb, flag (fEq a b).1,
       (fEq a b).2), (.fclt c gd ga gb, flag (fLess false a b).1, (fLess false a b).2),
       (.fcle c gd ga gb, flag (fLess true a b).1, (fLess true a b).2), (.fcun c gd ga gb, flag (fIsNaN a || fIsNaN b),
       false), (.itof c gd ga, fOfInt a.toInt, false), (.utof c gd ga, fOfInt a.toNat, false),
       (.qtof c gd ga, fOfInt a.toInt (-31), false), (.ftoi c gd ga, BitVec.ofInt 32 (fToInt (-2147483648) 2147483647 a).1,
       (fToInt (-2147483648) 2147483647 a).2), (.ftou c gd ga, BitVec.ofInt 32 (fToInt 0 4294967295 a).1,
       (fToInt 0 4294967295 a).2)]
   (∀ row ∈ rows, Issues s row.1 (opOf row.1) 0 k) ∧
   (∀ row ∈ rows, Straight (s.put c gd row.2.1) c ((s.core c).pc + 4))) ∧
  (let s : State := gprs (core run false (k := { c := true, v := false, qs := true, fx := false, z := false })) [(8, 2),
       (9, 31), (10, 0x80000001), (40, 2)]
   let c : CoreId := 2
   let gd : Gpr := 10
   let ga : Gpr := 8
   let k : RunTask := ⟨false, 0, 7⟩
   let z := fToQ (s.ra c ga)
   Issues s (.ftoq c gd ga) (opOf (.ftoq c gd ga)) 0 k ∧ Straight (s.put c gd (BitVec.ofInt 32 z.1)) c ((s.core c).pc + 4)) := by
  repeat' first
    | decide +kernel
    | exact rows_issue _ _ _ _ (by decide +kernel)
    | exact issues_of (by decide +kernel)
    | exact fun _ _ => lawReady_of (by decide +kernel)
    | exact lawReady_of (by decide +kernel)
    | apply And.intro

/-- Every clause of `BranchesAndJumps` is about some state. -/
theorem witness_BranchesAndJumps :
  (let s : State := gprs (core run true (k := { pc := 12 })) [(8, 5), (9, 5)]
   let c : CoreId := 2
   let ga : Gpr := 8
   let gb : Gpr := 9
   let off : BitVec 14 := 3
   let k : RunTask := ⟨true, 0, 7⟩
   let a := s.ra c ga
   let b := s.ra c gb
   let pc := (s.core c).pc
   let rows : List (Instr × Bool) := [ (.beq c ga gb off, decide (a = b)), (.bne c ga gb off, decide (a ≠ b)),
       (.blt c ga gb off, decide (a.toInt < b.toInt)), (.bge c ga gb off, decide (b.toInt ≤ a.toInt)),
       (.bltu c ga gb off, decide (a.toNat < b.toNat)), (.bgeu c ga gb off, decide (b.toNat ≤ a.toNat))]
   (∀ row ∈ rows, Issues s row.1 (opOf row.1) row.2.toNat k) ∧
   (∀ row ∈ rows,
     let nxt := if row.2 then (((pc : Int) + 4 * (if k.background then off.toInt else off.toNat)) % 2 ^ 32).toNat else pc + 4
     Straight s c nxt ∧ (row.2 = true → k.background = true → Inside s c nxt))) ∧
  (let s : State := gprs (core run true (k := { pc := 12 })) [(8, 5), (9, 5), (56, 0x80001400), (57, 0x60002)]
   let c : CoreId := 2
   let ga : Gpr := 8
   let gb : Gpr := 9
   let off : BitVec 14 := 16382#14
   let k : RunTask := ⟨true, 0, 7⟩
   let d : Nat := 0
   let a := s.ra c ga
   let b := s.ra c gb
   let pc := (s.core c).pc
   let rows : List (Instr × Bool) := [(.beq c ga gb off, decide (a = b)), (.bge c ga gb off, decide (b.toInt ≤ a.toInt)),
       (.bgeu c ga gb off, decide (b.toNat ≤ a.toNat))]
   (∀ row ∈ rows, Issues s row.1 (opOf row.1) row.2.toNat k) ∧
   (∀ row ∈ rows,
     let nxt := if row.2 then (((pc : Int) + 4 * (if k.background then off.toInt else off.toNat)) % 2 ^ 32).toNat else pc + 4
     row.2 = true ∧ k.background = true ∧ Leaves s c d nxt)) ∧
  (let s : State := gprs (core run true (k := { pc := 12 })) [(8, 5), (9, 7), (56, 0x80001400), (57, 0x60002)]
   let c : CoreId := 2
   let ga : Gpr := 8
   let gb : Gpr := 9
   let off : BitVec 14 := 16382#14
   let k : RunTask := ⟨true, 0, 7⟩
   let d : Nat := 0
   let a := s.ra c ga
   let b := s.ra c gb
   let pc := (s.core c).pc
   let rows : List (Instr × Bool) := [(.bne c ga gb off, decide (a ≠ b)), (.blt c ga gb off, decide (a.toInt < b.toInt)),
       (.bltu c ga gb off, decide (a.toNat < b.toNat))]
   (∀ row ∈ rows, Issues s row.1 (opOf row.1) row.2.toNat k) ∧
   (∀ row ∈ rows,
     let nxt := if row.2 then (((pc : Int) + 4 * (if k.background then off.toInt else off.toNat)) % 2 ^ 32).toNat else pc + 4
     row.2 = true ∧ k.background = true ∧ Leaves s c d nxt)) ∧
  (let s : State := gprs (core run true (k := { pc := 12 })) [(8, 0x42)]
   let c : CoreId := 2
   let gd : Gpr := 9
   let ga : Gpr := 8
   let k : RunTask := ⟨true, 0, 7⟩
   Issues s (.jmpr c gd ga) (opOf (.jmpr c gd ga)) 0 k ∧ (s.ra c ga).toNat % 4 ≠ 0) ∧
  (let s : State := gprs (core run true (k := { pc := 12 })) [(8, 0x40)]
   let c : CoreId := 2
   let gd : Gpr := 9
   let ga : Gpr := 8
   let off : BitVec 14 := 3
   let k : RunTask := ⟨true, 0, 7⟩
   let pc := (s.core c).pc
   let link := BitVec.ofNat 32 (pc + 4)
   let rows : List (Instr × Nat) := [ (.call c gd off,
       (((pc : Int) + 4 * (if k.background then off.toInt else off.toNat)) % 2 ^ 32).toNat),
       (.jmpr c gd ga, (s.ra c ga).toNat)]
   (∀ row ∈ rows, Issues s row.1 (opOf row.1) 0 k) ∧
   (∀ row ∈ rows, row.2 % 4 = 0 ∧ Straight (s.put c gd link) c row.2 ∧
       (k.background = true → Inside (s.put c gd link) c row.2))) ∧
  (let s : State := gprs (core run true (k := { pc := 12 })) [(8, 0x40), (56, 0x80001400), (57, 0x60002)]
   let c : CoreId := 2
   let gd : Gpr := 9
   let ga : Gpr := 8
   let off : BitVec 14 := 16382#14
   let k : RunTask := ⟨true, 0, 7⟩
   let d : Nat := 0
   let pc := (s.core c).pc
   let link := BitVec.ofNat 32 (pc + 4)
   let rows : List (Instr × Nat) := [ (.call c gd off,
       (((pc : Int) + 4 * (if k.background then off.toInt else off.toNat)) % 2 ^ 32).toNat),
       (.jmpr c gd ga, (s.ra c ga).toNat)]
   (∀ row ∈ rows, Issues s row.1 (opOf row.1) 0 k) ∧
   (∀ row ∈ rows, row.2 % 4 = 0 ∧ k.background = true ∧ Leaves (s.put c gd link) c d row.2)) := by
  repeat' first
    | decide +kernel
    | exact rows_issue _ _ _ _ (by decide +kernel)
    | exact issues_of (by decide +kernel)
    | exact fun _ _ => lawReady_of (by decide +kernel)
    | exact lawReady_of (by decide +kernel)
    | apply And.intro

/-- Every clause of `CountedLoops` is about some state. -/
theorem witness_CountedLoops :
  (let s : State := gprs (core run true) []
   let c : CoreId := 2
   let count : BitVec 10 := 0
   let body : BitVec 16 := 7
   let o : PierOp := opOf (.loopA 2 0 7)
   let k : RunTask := ⟨true, 0, 7⟩
   let d := (List.range 4).countP fun j => s.levelOn c j
   let last := if count = 0 then 1023 else count.toNat - 1
   let hi := BitVec.ofNat 32 (2 ^ 31 + last * 2 ^ 10)
   let lo := BitVec.ofNat 32 (body.toNat * 2 ^ 16 + ((s.core c).pc + 4) / 4 % 2 ^ 15)
   d < 4 ∧ Issues s (.loopA c count body) o 0 k ∧
   Straight ((s.setGpr c (56 + 2 * d) hi).setGpr c (57 + 2 * d) lo) c ((s.core c).pc + 4)) ∧
  (let s : State := gprs (core run true) [(56, 0x80001403), (57, 0x60002)]
   let c : Nat := 2
   let d : Nat := 0
   let w := (s.gpr c (56 + 2 * d)).toNat
   d < 4 ∧ s.levelOn c d = true ∧ (∀ j < 4, d < j → s.levelOn c j = false) ∧ w % 2 ^ 10 ≠ w / 2 ^ 10 % 2 ^ 10) ∧
  (let s : State := gprs (core run true) [(56, 0x80001405), (57, 0x60002)]
   let c : Nat := 2
   let d : Nat := 0
   let w := (s.gpr c (56 + 2 * d)).toNat
   let pc := (s.levelBody c d).2
   d < 4 ∧ s.levelOn c d = true ∧ (∀ j < 4, d < j → s.levelOn c j = false) ∧ w % 2 ^ 10 = w / 2 ^ 10 % 2 ^ 10 ∧
   (∀ j < d, s.levelOn c j = true → (s.levelBody c j).2 ≠ pc)) := by
  repeat' first
    | decide +kernel
    | exact rows_issue _ _ _ _ (by decide +kernel)
    | exact issues_of (by decide +kernel)
    | exact fun _ _ => lawReady_of (by decide +kernel)
    | exact lawReady_of (by decide +kernel)
    | apply And.intro

/-- Every clause of `LocalMemory` is about some state. -/
theorem witness_LocalMemory :
  (let s : State := gprs (core tcmFour true) [(8, 20)]
   let c : CoreId := 2
   let gd : Gpr := 9
   let ga : Gpr := 8
   let imm : BitVec 14 := 16380#14
   let k : RunTask := ⟨true, 0, 7⟩
   let a := s.addrOf c ga imm
   let v := fun n => leBytes (fun b => s.tcmByte (s.dataKey c b)) a n
   let sx := fun (w n : Nat) => BitVec.ofInt 32 (if v n < 2 ^ (w - 1) then (v n : Int) else (v n : Int) - 2 ^ w)
   let rows : List (Instr × Nat × Word) := [ (.lw c gd ga imm .ok, 4, BitVec.ofNat 32 (v 4)),
       (.lh c gd ga imm .ok, 2, sx 16 2), (.lhu c gd ga imm .ok, 2, BitVec.ofNat 32 (v 2)), (.lb c gd ga imm .ok, 1, sx 8 1),
       (.lbu c gd ga imm .ok, 1, BitVec.ofNat 32 (v 1))]
   (∀ row ∈ rows, Issues s row.1 (opOf row.1) 0 k) ∧
   (∀ row ∈ rows, a < s.pierSpace c ∧ a % row.2.1 = 0 ∧ Straight (s.put c gd row.2.2) c ((s.core c).pc + 4))) ∧
  (let s : State := gprs (core tcmFour true) [(8, 20),
       (9, 0xFF80FE00)]
   let c : CoreId := 2
   let gd : Gpr := 9
   let ga : Gpr := 8
   let imm : BitVec 14 := 16380#14
   let k : RunTask := ⟨true, 0, 7⟩
   let a := s.addrOf c ga imm
   let rows : List (Instr × Nat) := [(.sw c gd ga imm, 4), (.sh c gd ga imm, 2), (.sb c gd ga imm, 1)]
   (∀ row ∈ rows, Issues s row.1 (opOf row.1) 0 k) ∧
   (∀ row ∈ rows, a < s.pierSpace c ∧ a % row.2 = 0 ∧ Straight s c ((s.core c).pc + 4))) := by
  repeat' first
    | decide +kernel
    | exact rows_issue _ _ _ _ (by decide +kernel)
    | exact issues_of (by decide +kernel)
    | exact fun _ _ => lawReady_of (by decide +kernel)
    | exact lawReady_of (by decide +kernel)
    | apply And.intro

/-- Every clause of `TimeAndCsrs` is about some state. -/
theorem witness_TimeAndCsrs :
  (let s : State := gprs (core ({ run with span := { run.span with frame := 0x123456789ABC }, keep :=
                                           { run.keep with copyCount := 0xFEDCBA987654, copyEpoch := 0x1234 } }) true) []
   let c : CoreId := 2
   let gd : Gpr := 8
   let k : RunTask := ⟨true, 0, 7⟩
   let rows : List (Instr × Nat × Nat) := [(.tget c gd, s.frame, s.offset), (.kget c gd, s.keep.copyCount, s.keep.copyEpoch)]
   (∀ row ∈ rows, Issues s row.1 (opOf row.1) 0 k) ∧
   (∀ row ∈ rows,
     let lo := BitVec.ofNat 32 row.2.1
     let hi := BitVec.ofNat 32 (row.2.2 % 2 ^ 16 * 2 ^ 16 + row.2.1 / 2 ^ 32 % 2 ^ 16)
     Straight (s.putGroup c gd [lo, hi]) c ((s.core c).pc + 4))) ∧
  (let s : State := gprs (core run true (k := { z := true, c := true, fx := true, clk := 77 })) [(8, 0x2A)]
   (let c : CoreId := 2
    let g : Gpr := 8
    let o : PierOp := opOf (.csrr 2 8 0)
    let k : RunTask := ⟨true, 0, 7⟩
    (let n : BitVec 14 := 0#14
     let v : Nat := ((gprs (core run true (k := { z := true, c := true, fx := true, clk := 77 })) [(8, 0x2A)]).core 2).flags
     (n.toNat, v) ∈ [(0, (s.core c).flags), (1, (s.core c).bc - if k.background then 0 else s.waitOf o), (2, k.taskNo),
     (3, s.schedOf c), (4, c.val), (5, k.background.toNat), (6, (s.core c).clk + s.waitOf o), (7, (s.bankB c).toNat)] ∧
     Issues s (.csrr c g n) o 0 k ∧ Straight (s.put c g (BitVec.ofNat 32 v)) c ((s.core c).pc + 4))) ∧
   (let c : CoreId := 2
    let g : Gpr := 8
    let o : PierOp := opOf (.csrw 2 8 0)
    let k : RunTask := ⟨true, 0, 7⟩
    Straight s c ((s.core c).pc + 4) ∧
    (let n : BitVec 14 := 0#14
     Issues s (.csrw c g n) o 0 k))) := by
  repeat' first
    | decide +kernel
    | exact rows_issue _ _ _ _ (by decide +kernel)
    | exact issues_of (by decide +kernel)
    | exact fun _ _ => lawReady_of (by decide +kernel)
    | exact lawReady_of (by decide +kernel)
    | apply And.intro

/-- Every clause of `EventsYieldAndTraps` is about some state. -/
theorem witness_EventsYieldAndTraps :
  (let s : State := gprs (core (st [(F.EVR_STAT_RUNNING, 0, 0, 1)] run) true) [(8, 0x2A), (9, 7)]
   let c : CoreId := 2
   let gd : Gpr := 8
   let ga : Gpr := 9
   let code : Byte := 5
   let o : PierOp := opOf (.evt 2 8 9 5)
   let k : RunTask := ⟨true, 0, 7⟩
   let n := 0xF00 + code.toNat
   s.bit F.EVR_STAT_RUNNING = true ∧ s.evrField F.EVR_CODE_A_EN n ≠ 0 ∧
   (s.bucket n).missing < s.evrField F.EVR_CODE_B_BURST n ∧ (s.bucket n).supp = 0 ∧ s.evr.queue.length < 256 ∧
   s.roleIs .standby = false ∧ Issues s (.evt c gd ga code) o 0 k ∧ Straight s c ((s.core c).pc + 4)) ∧
  (let s : State := gprs (core run true) [(8, 0x2A), (9, 7), (63, 8)]
   let c : CoreId := 2
   let o : PierOp := opOf (.yieldA 2)
   let k : RunTask := ⟨true, 0, 7⟩
   Issues s (.yieldA c) o 0 k ∧ Straight s c ((s.core c).pc + 4) ∧ k.background = true) ∧
  (let s : State := gprs (core run false) [(8, 0x2A), (9, 7), (63, 8)]
   let c : CoreId := 2
   let o : PierOp := opOf (.yieldA 2)
   let k : RunTask := ⟨false, 0, 7⟩
   Issues s (.yieldA c) o 0 k ∧ Straight s c ((s.core c).pc + 4) ∧ k.background = false ∧
   s.rd F.PIERCTL_PIER_BP_CTL_RUNNING (s.schedOf c) = 0 ∧
   (∀ img, (s.sch (s.schedOf c)).active = some img → nextTask (img.kind false) (k.order + 1) = none)) ∧
  (let s : State := gprs (core (st [(F.PIERCTL_PIER_TRAP_COUNT_OVERRUNS, 2, 0, 0),
       (F.PIERCTL_PIER_TRAP_COUNT_OTHER, 2, 0, 0)] run) false) []
   let c : CoreId := 2
   let k : RunTask := ⟨false, 0, 7⟩
   let rows : List (Instr × Nat) := [(.trapA c, 6), (.illegalInstruction c, 2), (.budgetOverrun c, 1)]
   Issues s (.trapA c) (opOf (.trapA c)) 0 k ∧
   (∀ row ∈ rows, s.serves [coreDom c] ∧ (s.core c).task = some k ∧ (s.core c).stopped = false ∧ (s.core c).stall = false ∧
       (row.2 = 1 → k.background = false))) := by
  repeat' first
    | decide +kernel
    | exact rows_issue _ _ _ _ (by decide +kernel)
    | exact issues_of (by decide +kernel)
    | exact fun _ _ => lawReady_of (by decide +kernel)
    | exact lawReady_of (by decide +kernel)
    | apply And.intro

/-- Every clause of `DeckMemory` is about some state. -/
theorem witness_DeckMemory :
  (let s : State := gprs (core (st [(F.SPAN_STAT_WINDOW, 0, 0,
       Win.commit.code)] ({ run with deck := [(0x1900000, 1), (0x1900001, 2), (0x1900007, 0x80), (0x190001F, 9),
                                     (0x1900020, 4)], pts := { run.pts with seen := [(0x10, { value := 7})] } })) true) [(8,
       0x800060)]
   let c : CoreId := 2
   let gd : Gpr := 8
   let ga : Gpr := 8
   let imm : BitVec 14 := 0
   let k : RunTask := ⟨true, 0, 7⟩
   let a := s.addrOf c ga imm
   let rows : List (Instr × Nat × Bool) := [(.dlw c gd ga imm .ok, 1, false), (.dlq c gd ga imm .ok, 4, false),
       (.dll c gd ga imm .ok, 8, false), (.dsw c gd ga imm, 1, true), (.dsq c gd ga imm, 4, true),
       (.dsl c gd ga imm, 8, true)]
   (∀ row ∈ rows, Issues s row.1 (opOf row.1) 0 k) ∧
   (∀ row ∈ rows,
     let n := 4 * row.2.1
     a % n = 0 ∧ (row.2.2 = false → s.deckReadOk (s.pierInit c) a n = true) ∧
       (row.2.2 = true → s.deckWriteOk (s.pierInit c) a n = true) ∧ s.windowWait a n = true)) ∧
  (let s : State := gprs (core ({ run with deck := [(0x1900000, 1), (0x1900001, 2), (0x1900007, 0x80), (0x190001F, 9),
                                           (0x1900020, 4)], pts := { run.pts with seen := [(0x10, { value := 7})] } }) true)
       [(8, 0x1900020)]
   let c : CoreId := 2
   let gd : Gpr := 16
   let ga : Gpr := 8
   let imm : BitVec 14 := 16352#14
   let k : RunTask := ⟨true, 0, 7⟩
   let a := s.addrOf c ga imm
   let rows : List (Instr × Nat) := [(.dlw c gd ga imm .ok, 1), (.dlq c gd ga imm .ok, 4), (.dll c gd ga imm .ok, 8)]
   (∀ row ∈ rows, Issues s row.1 (opOf row.1) 0 k) ∧
   (∀ row ∈ rows,
     let vs := (List.range row.2).map fun j => BitVec.ofNat 32 (s.deckWord (a + 4 * j))
     a % (4 * row.2) = 0 ∧ s.deckReadOk (s.pierInit c) a (4 * row.2) = true ∧ s.eccClean a (4 * row.2) = true ∧
       s.windowWait a (4 * row.2) = false ∧ Straight (s.putGroup c gd vs) c ((s.core c).pc + 4))) ∧
  (let s : State := gprs (core ({ run with deck := [(0x1900000, 1), (0x1900001, 2), (0x1900007, 0x80), (0x190001F, 9),
                                           (0x1900020, 4)], pts := { run.pts with seen := [(0x10, { value := 7})] } }) true)
       [(8, 0x1900020), (16, 0x11223344), (17, 5), (23, 0xFF)]
   let c : CoreId := 2
   let gd : Gpr := 16
   let ga : Gpr := 8
   let imm : BitVec 14 := 16352#14
   let k : RunTask := ⟨true, 0, 7⟩
   let a := s.addrOf c ga imm
   let rows : List (Instr × Nat) := [(.dsw c gd ga imm, 1), (.dsq c gd ga imm, 4), (.dsl c gd ga imm, 8)]
   (∀ row ∈ rows, Issues s row.1 (opOf row.1) 0 k) ∧
   (∀ row ∈ rows, a % (4 * row.2) = 0 ∧ s.deckWriteOk (s.pierInit c) a (4 * row.2) = true ∧
       s.windowWait a (4 * row.2) = false ∧ (∀ q ∈ partQuarters a (4 * row.2), s.eccClean q 8 = true) ∧
       Straight s c ((s.core c).pc + 4))) ∧
  (let s : State := gprs (core ({ run with deck := [(0x1900000, 1), (0x1900001, 2), (0x1900007, 0x80), (0x190001F, 9),
                                           (0x1900020, 4)], pts := { run.pts with seen := [(0x10, { value := 7})] } }) true)
       [(8, 0x800020), (16, 4), (9, 77)]
   let c : CoreId := 2
   let gd : Gpr := 8
   let ga : Gpr := 8
   let gb : Gpr := 9
   let o : PierOp := opOf (.dcas 2 8 8 9 .ok)
   let k : RunTask := ⟨true, 0, 7⟩
   let a := (s.ra c ga).toNat
   let old := BitVec.ofNat 32 (s.deckWord a)
   a % 4 = 0 ∧ s.deckReadOk (s.pierInit c) a 4 = true ∧ s.deckWriteOk (s.pierInit c) a 4 = true ∧ s.eccClean a 4 = true ∧
   s.windowWait a 4 = false ∧ Issues s (.dcas c gd ga gb .ok) o 0 k ∧ Straight (s.put c gd old) c ((s.core c).pc + 4)) := by
  repeat' first
    | decide +kernel
    | exact rows_issue _ _ _ _ (by decide +kernel)
    | exact issues_of (by decide +kernel)
    | exact fun _ _ => lawReady_of (by decide +kernel)
    | exact lawReady_of (by decide +kernel)
    | apply And.intro

/-- Every clause of `PointAccess` is about some state. -/
theorem witness_PointAccess :
  (let s : State := gprs (core ownedPoints true) [(8, 4), (9, 4), (16, 0x7FC00000), (17, 4)]
   let c : CoreId := 2
   let g : Gpr := 8
   let p : PtNum := 5
   let k : RunTask := ⟨true, 0, 7⟩
   let w := fun (q j : Nat) => BitVec.ofNat 32 ((s.seen q).word (s.desc q) j)
   let x := p.toNat + (s.ra c g).toNat % 2 ^ 17
   let rows : List (Instr × List Word × Nat × Nat) := [ (.pld c g p, [w p.toNat 0], 16 * p.toNat, 4),
       (.pldP c g p, [w p.toNat 0, w p.toNat 1], 16 * p.toNat, 8), (.pldR c g p, [w p.toNat 0, w p.toNat 1, w p.toNat 2,
       w p.toNat 3], 16 * p.toNat, 16), (.pq c g p, [w p.toNat 1 &&& 0xFF], 16 * p.toNat + 4,
       1)] ++ (if x < 2 ^ 17 then [(.pldX c g p, [w x 0], 16 * x, 4)] else [])
   (∀ row ∈ rows, Issues s row.1 (opOf row.1) 0 k) ∧
   (∀ row ∈ rows, s.windowWait 0 1 = false ∧ s.eccClean row.2.2.1 row.2.2.2 = true ∧
       Straight (s.putGroup c g row.2.1) c ((s.core c).pc + 4))) ∧
  (let s : State := gprs (core ownedPoints true) [(8, 4), (9, 4), (16, 0x7FC00000), (17, 4)]
   let c : CoreId := 2
   let g : Gpr := 8
   let p : PtNum := 5
   let k : RunTask := ⟨true, 0, 7⟩
   let d := s.desc p.toNat
   let mine : Prop := d.cls = 1 ∧ d.ownerId = k.taskNo
   let r := if decide mine then s.nextRec p.toNat else s.seen p.toNat
   let rows : List (Instr × Nat) := [(.pldN c g p, 1), (.pldNp c g p, 2)]
   (∀ row ∈ rows, Issues s row.1 (opOf row.1) 0 k) ∧
   (∀ row ∈ rows,
     let vs := (List.range row.2).map fun j => BitVec.ofNat 32 (r.word d j)
     (mine ∨ k.background = true) ∧ s.windowWait 0 1 = false ∧
       s.eccClean ((if decide mine then 0x00200000 else 0) + 16 * p.toNat) (4 * row.2) = true ∧
       Straight (s.putGroup c g vs) c ((s.core c).pc + 4))) ∧
  (let s : State := gprs (core ownedPoints true) [(8, 4), (9, 4), (16, 0x7FC00000), (17, 4)]
   let c : CoreId := 2
   let g : Gpr := 8
   let p : PtNum := 5
   let q : BitVec 3 := 1
   let k : RunTask := ⟨true, 0, 7⟩
   let x := p.toNat + (s.gpr c (g.toNat + 1)).toNat % 2 ^ 17
   let rows : List (Instr × Nat × Quality) := [(.pst c g p, p.toNat, Quality.good),
       (.pstq c g p q, p.toNat, Quality.ofCode q.toNat), (.pstX c g p, x, Quality.good)]
   (∀ row ∈ rows, Issues s row.1 (opOf row.1) 0 k) ∧
   (∀ row ∈ rows, x < 2 ^ 17 ∧ (q.toNat ≤ 3 ∨ q.toNat = 5) ∧ s.coherent = true ∧ s.standbyIgnores row.2.1 = false ∧
       s.writeClosed = false ∧ s.windowWait 0 1 = false ∧ (s.desc row.2.1).cls = 1 ∧ (s.desc row.2.1).ownerId = k.taskNo ∧
       Straight s c ((s.core c).pc + 4))) := by
  repeat' first
    | decide +kernel
    | exact rows_issue _ _ _ _ (by decide +kernel)
    | exact issues_of (by decide +kernel)
    | exact fun _ _ => lawReady_of (by decide +kernel)
    | exact lawReady_of (by decide +kernel)
    | apply And.intro

end Sys2Proof.Tests
end

