-- ==== Sys2Proof/Tests/Witness2.lean ====
section
/-! SUPPORT. Witnesses, part 2: for every statement with hypotheses, states and operands that meet those of each clause. -/

namespace Sys2Proof.Tests

set_option Elab.async false

open Sys2Proof Sys2Proof.Machine

/-- Every clause of `ControlBlocksAndFence` is about some state. -/
theorem witness_ControlBlocksAndFence :
  (let s : State := gprs (core (st [(F.DECK_FORCE_VAL, 0, 0, 77), (F.METER_LOAD_LO, 0, 0, 78)] run) true) [(8, 0x40020090),
       (9, 55)]
   let c : CoreId := 2
   let gd : Gpr := 9
   let ga : Gpr := 8
   let imm : BitVec 14 := 0
   let o : PierOp := opOf (.csw 2 9 8 0)
   let k : RunTask := ⟨true, 0, 7⟩
   let a := s.addrOf c ga imm
   let put := (s.waited o).ctlPut (s.pierInit c) a (s.ra c gd).toNat
   onBearing a = false ∧ s.ctlAccess (s.pierInit c) a = .ok ∧ findReg a = none ∧ Issues s (.csw c gd ga imm) o 0 k ∧
   Straight s c ((s.core c).pc + 4) ∧ (put.core c).task = some k ∧ (put.core c).slice = ((s.waited o).core c).slice ∧
   put.tcmTested c = false ∧ Straight put c ((s.core c).pc + 4)) ∧
  (let s : State := gprs (core (st [(F.DECK_FORCE_VAL, 0, 0, 77), (F.METER_LOAD_LO, 0, 0, 78)] run) true) [(8, 0x40020044),
       (9, 55)]
   let c : CoreId := 2
   let gd : Gpr := 9
   let ga : Gpr := 8
   let imm : BitVec 14 := 0
   let o : PierOp := opOf (.clw 2 9 8 0)
   let k : RunTask := ⟨true, 0, 7⟩
   let a := s.addrOf c ga imm
   let put := (s.waited o).ctlPut (s.pierInit c) a (s.ra c gd).toNat
   Issues s (.clw c gd ga imm) o (if onBearing a then 150 else 0) k ∧
   (let w : Nat := (((gprs (core (st [(F.DECK_FORCE_VAL, 0, 0, 77), (F.METER_LOAD_LO, 0, 0, 78)] run) true) [(8, 0x40020044),
        (9, 55)]).waited (opOf (.clw 2 9 8 0))).ctlRead ((gprs (core (st [(F.DECK_FORCE_VAL, 0, 0, 77),
        (F.METER_LOAD_LO, 0, 0, 78)] run) true) [(8, 0x40020044), (9, 55)]).pierInit 2) 0x40020044).2.1
    let u : State := (((gprs (core (st [(F.DECK_FORCE_VAL, 0, 0, 77), (F.METER_LOAD_LO, 0, 0, 78)] run) true) [(8,
        0x40020044), (9, 55)]).waited (opOf (.clw 2 9 8 0))).ctlRead ((gprs (core (st [(F.DECK_FORCE_VAL, 0, 0, 77),
        (F.METER_LOAD_LO, 0, 0, 78)] run) true) [(8, 0x40020044), (9, 55)]).pierInit 2) 0x40020044).2.2
    (s.waited o).ctlRead (s.pierInit c) a = (.ok, w, u) ∧ (u.core c).task = some k ∧
    (u.core c).slice = ((s.waited o).core c).slice ∧ u.tcmTested c = false ∧
    Straight (u.put c gd (BitVec.ofNat 32 w)) c ((s.core c).pc + 4))) ∧
  (let s : State := gprs (core (st [(F.DECK_FORCE_VAL, 0, 0, 77), (F.METER_LOAD_LO, 0, 0, 78)] run) true) [(8, 0x40090074),
       (9, 55)]
   let c : CoreId := 2
   let gd : Gpr := 9
   let ga : Gpr := 8
   let imm : BitVec 14 := 0
   let o : PierOp := opOf (.csw 2 9 8 0)
   let k : RunTask := ⟨true, 0, 7⟩
   let a := s.addrOf c ga imm
   onBearing a = true ∧ s.ctlAccess (s.pierInit c) a = .ok ∧ Issues s (.csw c gd ga imm) o 0 k ∧
   Straight s c ((s.core c).pc + 4)) ∧
  (let s : State := gprs (core ({ run with posted := [⟨0x100, 0x40020044, 5⟩, ⟨2, 0x40020090, 7⟩] }) true) [(8, 0x40020044),
       (9, 55)]
   let c : CoreId := 2
   let o : PierOp := opOf (.fence 2)
   let k : RunTask := ⟨true, 0, 7⟩
   (∀ p ∈ s.posted, p.initiator = s.schedOf c → findReg p.addr = none) ∧ Issues s (.fence c) o 0 k ∧
   Straight s c ((s.core c).pc + 4)) := by
  repeat' first
    | decide +kernel
    | exact rows_issue _ _ _ _ (by decide +kernel)
    | exact issues_of (by decide +kernel)
    | exact fun _ _ => lawReady_of (by decide +kernel)
    | exact lawReady_of (by decide +kernel)
    | apply And.intro

/-- Every clause of `PidsNormalStep` is about some state. -/
theorem witness_PidsNormalStep :
  (let s : State := gprs (core (words (words
       loopState (loopAddr 3) [(0, 0), (1, 0x1001), (2, 0x80000005), (3, 0x80000006),
       (12, 0x40533333), (13, 0x41a0cccd), (14, 0x41100000), (16, 0x3fd9999a), (17, 0x3dcccccd), (18, 0x3c23d70a),
       (19, 0x3e99999a), (20, 0xc2480000), (21, 0x42480000)]) (loopAddr 4) []) true) [(8, 3)]
   let c : CoreId := 2
   let gd : Gpr := 8
   let loop : BitVec 14 := 3
   let mode : BitVec 6 := 0
   let o : PierOp := opOf (.pids 2 8 3 0)
   let k : RunTask := ⟨true, 0, 7⟩
   let n := loop.toNat
   let r := s.loopRec n
   let i := s.pidIn r (mode.getLsbD 0)
   let q := r.pidTerms i
   let int := rAdd (r.at 12) (rMul (r.coef 1) q.e)
   let u := rAdd (rAdd (rAdd q.p int) q.d) i.ff
   LawReady s c [n] r.pidPoints (r.outPoint mode) ∧ r.kind = 0 ∧ r.state = 1 ∧ r.is .setOk = true ∧ r.is .staged = false ∧
   r.is .windup = false ∧ i.absent = false ∧ i.usable = true ∧ i.trk = none ∧ fLt 0 (r.coef 6) = false ∧
   fLt (r.coef 5) u = false ∧ fLt u (r.coef 4) = false ∧ fIsNaN u = false ∧ Issues s (.pids c gd loop mode) o 0 k ∧
   Straight (s.put c gd (rClamp u (r.coef 4) (r.coef 5))) c ((s.core c).pc + 4)) := by
  repeat' first
    | decide +kernel
    | exact rows_issue _ _ _ _ (by decide +kernel)
    | exact issues_of (by decide +kernel)
    | exact fun _ _ => lawReady_of (by decide +kernel)
    | exact lawReady_of (by decide +kernel)
    | apply And.intro

/-- Every clause of `BiquadAndCascade` is about some state. -/
theorem witness_BiquadAndCascade :
  (let s : State := gprs (core (words (words
       loopState (loopAddr 3) [(0, 1), (1, 0x1001), (12, 0x3e99999a), (13, 0x3f333333),
       (16, 0x3f8ccccd), (17, 0xbecccccd), (18, 0x3e4ccccd), (19, 0x3f19999a), (22, 0x3dcccccd), (20, 0xc2480000),
       (21, 0x42480000)]) (loopAddr 4) []) true) [(8, 0x408ccccd)]
   let c : CoreId := 2
   let gd : Gpr := 8
   let loop : BitVec 14 := 3
   let mode : BitVec 6 := 1
   let o : PierOp := opOf (.biq 2 8 3 1)
   let k : RunTask := ⟨true, 0, 7⟩
   let n := loop.toNat
   let r := s.loopRec n
   let x := s.ra c gd
   let y := rAdd (rMul (r.coef 0) x) (r.at 12)
   let u := rClamp y (r.coef 4) (r.coef 5)
   LawReady s c [n] [] (r.outPoint mode) ∧ r.kind = 1 ∧ r.state = 1 ∧ r.is .setOk = true ∧ r.is .staged = false ∧
   mode.getLsbD 0 = true ∧ fIsNaN x = false ∧ fIsNaN y = false ∧ Issues s (.biq c gd loop mode) o 0 k ∧
   Straight (s.put c gd u) c ((s.core c).pc + 4)) ∧
  (let s : State := gprs (core (words (words
       loopState (loopAddr 3) [(0, 0), (1, 0x11001), (2, 0x80000005), (3, 0x80000006),
       (12, 0x40533333), (13, 0x41a0cccd), (14, 0x41100000), (16, 0x3fd9999a), (17, 0x3dcccccd), (18, 0x3c23d70a),
       (19, 0x3e99999a), (20, 0xc2480000), (21, 0x42480000), (15, 0x40800000), (11, 0x40004)]) (loopAddr 4) [(0, 4),
       (1, 0x1001), (2, 0x80000005), (16, 0x3f800000), (17, 0x3dcccccd), (20, 0xc2480000), (21, 0x42480000)]) true) [(8,
       0x408ccccd)]
   let c : CoreId := 2
   let gd : Gpr := 8
   let loop : BitVec 14 := 3
   let mode : BitVec 6 := 0
   let o : PierOp := opOf (.casc 2 8 3 0)
   let k : RunTask := ⟨true, 0, 7⟩
   let n := loop.toNat
   let r := s.loopRec n
   let inner := (r.at 11).toNat / 2 ^ 16 % 2 ^ 14
   let m : Nat := (r.at 11).toNat % 2 ^ 16
   let phase : Nat := (r.at 1).toNat / 2 ^ 16
   let sp := if (r.at 11).getLsbD 30 = true ∧ phase + 1 ≠ m
     then rAdd (r.at 15) (rMul (rSub (r.at 14) (r.at 15)) (fDiv (fOfInt (phase + 1 : Nat)) (fOfInt m)).1) else r.at 14
   LawReady s c [n, inner] r.pidPoints (r.outPoint mode) ∧ r.kind = 0 ∧ (s.loopRec inner).kind = 0 ∧ inner ≠ n ∧
   r.state = 1 ∧ (s.pidIn r false).absent = false ∧ 0 < phase ∧ phase < m ∧ Issues s (.casc c gd loop mode) o 0 k ∧
   Straight (s.put c gd sp) c ((s.core c).pc + 4)) := by
  repeat' first
    | decide +kernel
    | exact rows_issue _ _ _ _ (by decide +kernel)
    | exact issues_of (by decide +kernel)
    | exact fun _ _ => lawReady_of (by decide +kernel)
    | exact lawReady_of (by decide +kernel)
    | apply And.intro

/-- Every clause of `GenericLawsAndSets` is about some state. -/
theorem witness_GenericLawsAndSets :
  (let s : State := gprs (core (words (words
       loopState (loopAddr 3) [(0, 2), (1, 0x1001), (12, 0x3e99999a), (14, 0x40466666),
       (17, 0x3f000000), (20, 0xc0a00000), (21, 0x40a00000), (22, 0x3e800000)]) (loopAddr 4) []) true) [(8, 0x408ccccd)]
   let c : CoreId := 2
   let gd : Gpr := 8
   let loop : BitVec 14 := 3
   let mode : BitVec 6 := 0
   let k : RunTask := ⟨true, 0, 7⟩
   let n := loop.toNat
   let r := s.loopRec n
   let x := s.ra c gd
   let lim := fun u => rClamp u (r.coef 4) (r.coef 5)
   let near := rClamp x (rSub (r.at 14) (r.coef 6)) (rAdd (r.at 14) (r.coef 6))
   let sum := rAdd (r.at 12) (rMul (r.coef 1) x)
   let rows : List (Instr × Word × Option (Nat × Word)) := [(.clampw c gd loop mode, lim x, none),
       (.rate c gd loop mode, near, some (14, near)), (.intg c gd loop mode, lim sum, some (12, lim sum))]
   (∀ row ∈ rows, Issues s row.1 (opOf row.1) 0 k) ∧
   (∀ row ∈ rows, LawReady s c [n] [] none) ∧
   (∀ row ∈ rows,
     let vs := if row.1 = .clampw c gd loop mode ∧ mode.getLsbD 0 = true then [lim x, bool32 (rNe (lim x) x)] else [row.2.1]
     r.kind = 2 ∧ r.state = 1 ∧ r.is .setOk = true ∧ r.is .staged = false ∧
       (row.1 = .rate c gd loop mode → fLt 0 (r.coef 6) = true) ∧ fIsNaN row.2.1 = false ∧
       Straight (s.putGroup c gd vs) c ((s.core c).pc + 4))) ∧
  (let s : State := gprs (core (words (words
       loopState (loopAddr 3) [(0, 2), (1, 0x1001), (12, 0x3e99999a), (14, 0x40466666),
       (17, 0x3f000000), (20, 0xc0a00000), (21, 0x40a00000), (22, 0x3e800000)]) (loopAddr 4) []) true) [(8, 0x408ccccd)]
   let c : CoreId := 2
   let gd : Gpr := 8
   let loop : BitVec 14 := 3
   let mode : BitVec 6 := 1
   let k : RunTask := ⟨true, 0, 7⟩
   let n := loop.toNat
   let r := s.loopRec n
   let x := s.ra c gd
   let lim := fun u => rClamp u (r.coef 4) (r.coef 5)
   let rows : List (Instr × Word × Option (Nat × Word)) := [(.intgLoad c gd loop mode, lim x, some (12, lim x))]
   (∀ row ∈ rows, Issues s row.1 (opOf row.1) 0 k) ∧
   (∀ row ∈ rows, LawReady s c [n] [] none) ∧
   (∀ row ∈ rows,
     let vs := if row.1 = .clampw c gd loop mode ∧ mode.getLsbD 0 = true then [lim x, bool32 (rNe (lim x) x)] else [row.2.1]
     r.kind = 2 ∧ r.state = 1 ∧ r.is .setOk = true ∧ r.is .staged = false ∧
       (row.1 = .rate c gd loop mode → fLt 0 (r.coef 6) = true) ∧ fIsNaN row.2.1 = false ∧
       Straight (s.putGroup c gd vs) c ((s.core c).pc + 4))) ∧
  (let s : State := gprs (core (st [(F.KEEP_STAT_VALID, 0, 0,
       0)] (words (words loopState (loopAddr 3) [(0, 0), (1, 0x31002), (8, 0x0)]) (loopAddr 4) [])) true) [(8,
       0x42c80000)]
   let c : CoreId := 2
   let gd : Gpr := 8
   let loop : BitVec 14 := 3
   let mode : BitVec 6 := 0
   let k : RunTask := ⟨true, 0, 7⟩
   let n := loop.toNat
   let st := (s.loopRec n).at 1
   let rows : List (Instr × Word) := [(.swapkStatus c gd loop mode, st), (.prime c gd loop mode, st &&& ~~~3)]
   (∀ row ∈ rows, Issues s row.1 (opOf row.1) 0 k) ∧
   (∀ row ∈ rows, LawReady s c [n] [] none) ∧
   (∀ row ∈ rows, Straight (s.put c gd row.2) c ((s.core c).pc + 4))) ∧
  (let s : State := gprs (core (st [(F.KEEP_STAT_VALID, 0, 0,
       0)] (words (words loopState (loopAddr 3) [(0, 0), (1, 0x31002), (8, 0x0)]) (loopAddr 4) [])) true) [(8,
       0x42c80000)]
   let c : CoreId := 2
   let gd : Gpr := 8
   let loop : BitVec 14 := 3
   let mode : BitVec 6 := 1
   let k : RunTask := ⟨true, 0, 7⟩
   let n := loop.toNat
   let st := (s.loopRec n).at 1
   let src := ((s.loopRec n).at 8).toNat
   let keep : Prop := src / 2 ^ 30 = 2
   let rows : List (Instr × Word) := [(.swapkArm c gd loop mode, st ||| 0x80), (.primeFetch c gd loop mode, (if keep ∧
       s.bit F.KEEP_STAT_VALID = false then st ||| 0x200 else st) &&& ~~~3)]
   (∀ row ∈ rows, Issues s row.1 (opOf row.1) 0 k) ∧
   (∀ row ∈ rows, LawReady s c [n] [] none) ∧
   (∀ row ∈ rows, Straight (s.put c gd row.2) c ((s.core c).pc + 4))) ∧
  (let s : State := gprs (core (st [(F.KEEP_STAT_VALID, 0, 0,
       0)] (words (words loopState (loopAddr 3) [(0, 0), (1, 0x31002), (8, 0x0)]) (loopAddr 4) [])) true) [(8,
       0x42c80000)]
   let c : CoreId := 2
   let gd : Gpr := 8
   let loop : BitVec 14 := 3
   let mode : BitVec 6 := 2
   let k : RunTask := ⟨true, 0, 7⟩
   let n := loop.toNat
   let st := (s.loopRec n).at 1
   let rows : List (Instr × Word) := [(.swapkCancel c gd loop mode, st &&& ~~~0x80)]
   (∀ row ∈ rows, Issues s row.1 (opOf row.1) 0 k) ∧
   (∀ row ∈ rows, LawReady s c [n] [] none) ∧
   (∀ row ∈ rows, Straight (s.put c gd row.2) c ((s.core c).pc + 4))) := by
  repeat' first
    | decide +kernel
    | exact rows_issue _ _ _ _ (by decide +kernel)
    | exact issues_of (by decide +kernel)
    | exact fun _ _ => lawReady_of (by decide +kernel)
    | exact lawReady_of (by decide +kernel)
    | apply And.intro

/-- Every clause of `TickAndWindows` is about some state. -/
theorem witness_TickAndWindows :
  (let s : State := st [(F.SPAN_CTL_RUN, 0, 0, 1)] up
   s.serves [] ∧ s.running = true) ∧
  (let s : State := st [(F.SYS_START_STAT_STEP, 0, 0, (Step.admission).code), (F.PIERCTL_STAT_LOADER_BUSY, 0, 0, 0)] up
   s.serves [] ∧ s.atStep .admission = true ∧ s.bit F.PIERCTL_STAT_LOADER_BUSY = false) ∧
  (let s : State := run
   let rows : List (Instr × Nat × Win) := [(.commitWindowClose, 1600, Win.opened),
       (.writeClose, s.spanCyc - 8000, Win.writeClosed), (.inputClose, s.spanCyc - 4000, Win.inputClosed)]
   (∀ row ∈ rows, s.serves [] ∧ s.running = true ∧ s.port.waiting = [])) := by
  refine ⟨?_, ?_, ?_⟩ <;> decide +kernel

/-- Every clause of `JointAndStatus` is about some state. -/
theorem witness_JointAndStatus :
  (let s : State := { run with span := { run.span with due := some 4, misses := 1 } }
   s.serves [.deck] ∧ s.joint = true ∧ s.atStep .output = true ∧ s.running = true ∧ s.reached 800 ∧ s.serves [] ∧
   s.reached (s.bearPhase 384) ∧
   (let len : Nat := 4
    s.span.due = some len)) ∧
  (let s : State := st [(F.SYS_START_STAT_STEP, 0, 0, 3)] up
   s.serves [] ∧ s.joint = true ∧ (s.running = true ∨ s.atStep .admission = true) ∧
   (s.running = true → s.reached (s.spanCyc - 48))) ∧
  (let s : State := st [(F.SYS_START_STAT_STEP, 0, 0, 3)] run
   s.serves [] ∧ s.running = true ∧ s.joint = true ∧ s.span.misses = 0) ∧
  (let s : State := st [(F.SYS_PD_STAT_IS_ON, 0, 0, 70), (F.METER_STAT_PFW, 0, 0, 1),
       (F.METER_STAT_EVT, 0, 0, 5)] { run with span := { run.span with phase := deckCycles run.sel - 4800 }, pts :=
                                               { run.pts with desc := [(5, { cls := 3, ownerId := 0xDA, fmt := 2 })] } }
   let p : Nat := 5
   s.serves [.deck] ∧ s.joint = true ∧ s.running = true ∧ s.coherent = true ∧ s.inputClosed = false ∧
   s.reached (s.spanCyc - 4800) ∧ s.domOn .sol = false ∧ s.domOn .mot = false ∧ s.domOn .fan = false ∧
   s.domOn .meter = true ∧ s.pointsOf 3 0xDA = [p] ∧ (s.desc p).cls = 3 ∧ (s.desc p).ownerId = 0xDA) := by
  refine ⟨?_, ?_, ?_, ?_⟩ <;> decide +kernel

/-- Every clause of `SpanChangeAndStart` is about some state. -/
theorem witness_SpanChangeAndStart :
  (let s : State := st [(F.SPAN_CHG_STAT_STATE, 0, 0, 0)] run
   let sel := s.rd F.SPAN_CHG_CTL_NEW_SEL
   let f := s.rd48 F.SPAN_CHG_FRAME_LO F.SPAN_CHG_FRAME_HI
   s.serves [] ∧ s.rd F.SPAN_CHG_STAT_STATE ≠ 1 ∧ s.spanReason sel f ≠ 0) ∧
  (let s : State := st [(F.SPAN_CHG_STAT_STATE, 0, 0, 2)] run
   s.serves [] ∧ s.rd F.SPAN_CHG_STAT_STATE = 2) ∧
  (let s : State := st [(F.SPAN_CHG_CTL_NEW_SEL, 0, 0, 0), (F.SPAN_CHG_FRAME_LO, 0, 0, 5000)] run
   let sel := s.rd F.SPAN_CHG_CTL_NEW_SEL
   let f := s.rd48 F.SPAN_CHG_FRAME_LO F.SPAN_CHG_FRAME_HI
   s.serves [] ∧ s.rd F.SPAN_CHG_STAT_STATE ≠ 1 ∧ s.spanReason sel f = 0) ∧
  (let s : State := st [(F.SPAN_CHG_STAT_STATE, 0, 0, 1)] { run with span := { run.span with armed := some (102, 2) } }
   s.serves [] ∧ s.rd F.SPAN_CHG_STAT_STATE = 1 ∧
   (let f' : Nat := 102
    let sel' : Nat := 2
    s.span.armed = some (f', sel') ∧ s.frame + 1 < f')) ∧
  (let s : State := st [(F.SPAN_CHG_STAT_STATE, 0, 0, 1)] { run with span := { run.span with armed := some (101, 2) } }
   s.serves [] ∧ s.rd F.SPAN_CHG_STAT_STATE = 1 ∧
   (let f' : Nat := 101
    let sel' : Nat := 2
    s.span.armed = some (f', sel') ∧ f' ≤ s.frame + 1)) ∧
  (let s : State := st [(F.SYS_START_STAT_STEP, 0, 0, (Step.join).code)] run
   s.serves [] ∧ s.atStep .join = true) ∧
  (let s : State := st [(F.SYS_START_STAT_STEP, 0, 0, (Step.config).code)] run
   s.serves [] ∧ s.atStep .config = true) ∧
  (let s : State := st [(F.SYS_START_STAT_STEP, 0, 0, 7), (F.TWIN_STAT_OWN_OUT, 0, 0, 0),
       (F.TWIN_STAT_DRIVING, 0, 0, 0)] { run with span := { run.span with phase := deckCycles run.sel - 400 } }
   s.serves [] ∧ s.atStep .coherent = true ∧ s.running = true ∧ (s.roleIs .off = true ∨ s.roleIs .active = true) ∧
   s.bit F.TWIN_STAT_OWN_IN = false ∧ s.bit F.HEALTH_THERM_STAT_HALT_HOT = false ∧ s.dbg.frozen = false ∧
   s.reached (s.spanCyc - 400)) := by
  refine ⟨?_, ?_, ?_, ?_, ?_, ?_, ?_, ?_⟩ <;> decide +kernel

/-- Every clause of `ConverterAndCalibration` is about some state. -/
theorem witness_ConverterAndCalibration :
  (let s : State := st [(F.CONV_SEQ_CTL_EN, 31, 0, 1)] run
   let n : Fin 32 := 1
   s.reaches [.conv] ∧ s.bit F.CONV_REF_CTL = false ∧ (∃ k < 32, s.bit F.CONV_SEQ_CTL_EN k = true) ∧
   s.bit F.CONV_SEQ_CTL_EN n = false ∧ Sparse.find? s.conv.runs n = none) ∧
  (let s : State := ({ convOn with conv := { convOn.conv with runs := Sparse.put [] 1 { delivered := 2 } } } : State)
   let n : Fin 32 := 1
   s.reaches [.conv] ∧ s.bit F.CONV_REF_CTL = true ∧ (∀ k < 32, s.bit F.CONV_SEQ_CTL_EN k = false) ∧
   s.bit F.CONV_SEQ_CTL_EN n = false ∧ s.seqRefusal n = 0 ∧ (∀ kv ∈ s.conv.jobs, kv.2.seq ≠ n) ∧
   (let r : SeqRun := { delivered := 2 }
    Sparse.find? s.conv.runs n = some r ∧ r.waiting = [] ∧ r.delivered < 128)) ∧
  (let s : State := st [(F.CONV_CAL_CTL_ROT_EN, 0, 0, 1), (F.CONV_CAL_STAT_SLOT, 0, 0, 15)] convOn
   let m : Fin 128 := 1
   let k := s.rd F.CONV_CAL_STAT_SLOT
   s.reaches [.conv] ∧ k < 16 ∧ s.slotReady k = true ∧ s.bit F.SENS_CHK_CFG_EN m = false ∧ s.chkRefusal m = 1) ∧
  (let s : State := st [(F.SENS_CHK_THR_LO, 1, 0, 5), (F.SENS_CHK_THR_HI, 1, 0, 6)] run
   let m : Fin 128 := 1
   s.reaches [.conv] ∧ s.bit F.SENS_CHK_CFG_EN m = false ∧ s.chkRefusal m = 0) ∧
  (let s : State := inSlot (st [(F.CONV_CAL_STAT_SLOT, 0, 0, 14), (F.CONV_CAL_CTL_ROT_EN, 0, 0, 1)] convOn) (some [(1#32,
       1000#32), (2, 1000), (3, 1000), (4, 1000), (5, 1000), (6, 1000)])
   let cs : List (Word × Word) := [(1#32, 1000#32), (2, 1000), (3, 1000), (4, 1000), (5, 1000), (6, 1000)]
   let k := s.rd F.CONV_CAL_STAT_SLOT
   s.reaches [.conv] ∧ s.conv.formed = some cs ∧ cs.length = 6 ∧ s.conv.inSlot = true ∧ k < 15 ∧ s.groupBusy k = false) ∧
  (let s : State := inSlot (st ((List.range 6).map fun g => (F.CONV_FACT_GAIN, 15, g,
       1000)) (st ((List.range 6).map fun g => (F.CONV_FACT_OFS, 15, g, 0)) (st [(F.CONV_CAL_STAT_SLOT, 0, 0,
       15)] convOn))) none
   let cs : List (Word × Word) := [(1#32, 1000#32), (2, 1000), (3, 1000), (4, 1000), (5, 1000), (6, 1000)]
   let k := s.rd F.CONV_CAL_STAT_SLOT
   s.reaches [.conv] ∧ s.conv.inSlot = true ∧ s.conv.formed = none ∧ cs.length = 6 ∧
   (∀ c ∈ cs.zipIdx, s.coefBad k c.2 c.1 = false)) := by
  refine ⟨?_, ?_, ?_, ?_, ?_, ?_⟩ <;> decide +kernel

/-- Every clause of `SequencersConvert` is about some state. -/
theorem witness_SequencersConvert :
  (let s : State := phaseSet convOn [(F.CONV_SEQ_TRIG_PHASE, 1, 0, 0), (F.CONV_SEQ_STAT_STATE, 1, 0, 1)]
   let n : Fin 32 := 1
   let p := s.bearPhase (s.rd F.CONV_SEQ_TRIG_PHASE n * convCycles s.sel / 65536)
   let rows : List (Instr × State × Nat) := [(.seqStart n, s, 2), (.phaseTrigger n, s.toPhase p, 0)]
   (∀ row ∈ rows,
     let u := row.2.1
     let at' := u.convAbs + row.2.2
     let one : Bool := u.running && Sparse.find? u.conv.trigAt n == some at'
     s.reaches [.conv] ∧ (row.1 = .phaseTrigger n → s.running = true ∧ s.rd F.CONV_SEQ_TRIG_SRC n = 2 ∧ s.divSpan n = true ∧
       s.span.phase ≤ p ∧ p < s.spanCyc) ∧ one = false ∧ u.rd F.CONV_SEQ_STAT_STATE n = 1 ∧ u.hasRing n = false)) ∧
  (let s : State := phaseSet convRing [(F.CONV_SEQ_TRIG_PHASE, 1, 0, 0), (F.CONV_SEQ_STAT_STATE, 1, 0, 1)]
   let n : Fin 32 := 1
   let p := s.bearPhase (s.rd F.CONV_SEQ_TRIG_PHASE n * convCycles s.sel / 65536)
   let rows : List (Instr × State × Nat) := [(.seqStart n, s, 2), (.phaseTrigger n, s.toPhase p, 0)]
   (∀ row ∈ rows,
     let u := row.2.1
     let at' := u.convAbs + row.2.2
     let size := 2 ^ u.rd F.CONV_SEQ_RING_CFG_SIZE n
     let w := u.rd F.CONV_SEQ_RING_WR n % size
     let one : Bool := u.running && Sparse.find? u.conv.trigAt n == some at'
     s.reaches [.conv] ∧ (row.1 = .phaseTrigger n → s.running = true ∧ s.rd F.CONV_SEQ_TRIG_SRC n = 2 ∧ s.divSpan n = true ∧
       s.span.phase ≤ p ∧ p < s.spanCyc) ∧ one = false ∧ u.rd F.CONV_SEQ_STAT_STATE n = 1 ∧ u.hasRing n = true ∧
       u.domOn .deck = true ∧ (w + 1) % size ≠ u.rd F.CONV_SEQ_RING_RD n % size)) ∧
  (let s : State := phaseSet convOn [(F.CONV_SEQ_TRIG_PHASE, 1, 0, 0), (F.CONV_SEQ_STAT_STATE, 1, 0, 2)]
   let n : Fin 32 := 1
   let p := s.bearPhase (s.rd F.CONV_SEQ_TRIG_PHASE n * convCycles s.sel / 65536)
   let rows : List (Instr × State × Nat) := [(.seqStart n, s, 2), (.phaseTrigger n, s.toPhase p, 0)]
   (∀ row ∈ rows,
     let u := row.2.1
     let at' := u.convAbs + row.2.2
     let one : Bool := u.running && Sparse.find? u.conv.trigAt n == some at'
     s.reaches [.conv] ∧ (row.1 = .phaseTrigger n → s.running = true ∧ s.rd F.CONV_SEQ_TRIG_SRC n = 2 ∧ s.divSpan n = true ∧
       s.span.phase ≤ p ∧ p < s.spanCyc) ∧ one = false ∧ u.rd F.CONV_SEQ_STAT_STATE n = 2 ∧
       u.bit F.CONV_SEQ_STAT_PENDING n = false)) ∧
  (let s : State := triggered (phaseSet convOn [(F.CONV_SEQ_TRIG_PHASE, 1, 0, 0), (F.CONV_SEQ_STAT_STATE, 1, 0, 2),
       (F.CONV_SEQ_STAT_PENDING, 1, 0, 1)]) []
   let n : Fin 32 := 1
   let p := s.bearPhase (s.rd F.CONV_SEQ_TRIG_PHASE n * convCycles s.sel / 65536)
   let rows : List (Instr × State × Nat) := [(.seqStart n, s, 2), (.phaseTrigger n, s.toPhase p, 0)]
   (∀ row ∈ rows,
     let u := row.2.1
     let at' := u.convAbs + row.2.2
     let one : Bool := u.running && Sparse.find? u.conv.trigAt n == some at'
     s.reaches [.conv] ∧ (row.1 = .phaseTrigger n → s.running = true ∧ s.rd F.CONV_SEQ_TRIG_SRC n = 2 ∧ s.divSpan n = true ∧
       s.span.phase ≤ p ∧ p < s.spanCyc) ∧ one = false ∧ u.rd F.CONV_SEQ_STAT_STATE n = 2 ∧
       u.bit F.CONV_SEQ_STAT_PENDING n = true ∧ u.conv.dropSeen.contains n.val = true ∧
       u.rd F.CONV_SEQ_OVR n < 2 ^ F.CONV_SEQ_OVR.width - 1)) ∧
  (let s : State := triggered (phaseSet convOn [(F.CONV_SEQ_TRIG_PHASE, 1, 0, 0), (F.CONV_SEQ_STAT_STATE, 1, 0, 1)]) [(1, 0)]
   let n : Fin 32 := 1
   let p := s.bearPhase (s.rd F.CONV_SEQ_TRIG_PHASE n * convCycles s.sel / 65536)
   let rows : List (Instr × State × Nat) := [(.phaseTrigger n, s.toPhase p, 0)]
   (∀ row ∈ rows,
     let u := row.2.1
     let at' := u.convAbs + row.2.2
     let one : Bool := u.running && Sparse.find? u.conv.trigAt n == some at'
     s.reaches [.conv] ∧ (row.1 = .phaseTrigger n → s.running = true ∧ s.rd F.CONV_SEQ_TRIG_SRC n = 2 ∧ s.divSpan n = true ∧
       s.span.phase ≤ p ∧ p < s.spanCyc) ∧ one = true ∧ u.rd F.CONV_SEQ_STAT_STATE n ≠ 0)) ∧
  (let s : State := triggered (phaseSet convOn [(F.CONV_SEQ_TRIG_PHASE, 1, 0, 0), (F.CONV_SEQ_STAT_STATE, 1, 0, 1)]) [(1,
       (phaseSet convOn [(F.CONV_SEQ_TRIG_PHASE, 1, 0, 0), (F.CONV_SEQ_STAT_STATE, 1, 0, 1)]).convAbs+2)]
   let n : Fin 32 := 1
   let p := s.bearPhase (s.rd F.CONV_SEQ_TRIG_PHASE n * convCycles s.sel / 65536)
   let rows : List (Instr × State × Nat) := [(.seqStart n, s, 2)]
   (∀ row ∈ rows,
     let u := row.2.1
     let at' := u.convAbs + row.2.2
     let one : Bool := u.running && Sparse.find? u.conv.trigAt n == some at'
     s.reaches [.conv] ∧ (row.1 = .phaseTrigger n → s.running = true ∧ s.rd F.CONV_SEQ_TRIG_SRC n = 2 ∧ s.divSpan n = true ∧
       s.span.phase ≤ p ∧ p < s.spanCyc) ∧ one = true ∧ u.rd F.CONV_SEQ_STAT_STATE n ≠ 0)) ∧
  (let s : State := phaseSet convOn [(F.CONV_SEQ_TRIG_PHASE, 1, 0, 0), (F.CONV_SEQ_STAT_STATE, 1, 0, 2)]
   let n : Fin 32 := 1
   let p := s.bearPhase (s.rd F.CONV_SEQ_TRIG_PHASE n * convCycles s.sel / 65536)
   let rows : List (Instr × State × Nat) := [(.seqStart n, s, 2), (.phaseTrigger n, s.toPhase p, 0)]
   (∀ row ∈ rows, s.reaches [.conv] ∧ (row.1 = .phaseTrigger n → s.running = true ∧ s.rd F.CONV_SEQ_TRIG_SRC n = 2 ∧
       s.divSpan n = true ∧ s.span.phase ≤ p ∧ p < s.spanCyc) ∧ s.rd F.CONV_SEQ_STAT_STATE n = 2 ∧
       Sparse.find? s.conv.runs n = none ∧ s.conv.selfTrig.contains n.val = false ∧ s.hasRing n = false)) ∧
  (let s : State := inRun (st [(F.CONV_SEQ_CTL_ENTRIES, 1, 0, 3), (F.CONV_SEQ_ENT_A_CHANNEL, 1, 1, 17),
       (F.CONV_SEQ_ENT_A_SETTLE, 1, 1, 3)] convOn) { started := 1, delivered := 0 } []
   let x : Fin 17 := 1
   s.serves [.conv] ∧ s.sliceBusy x = false ∧ s.isRetired 2 x = false ∧
   (let g : Nat := 1
    let n : Nat := 1
    let j : Nat := 1
    let r : SeqRun := { started := 1, delivered := 0 }
    s.groupServed x = some g ∧ s.groupBusy g = false ∧ s.granted g = some (n, j) ∧ Sparse.find? s.conv.runs n = some r)) ∧
  (let s : State := inRun (st [(F.CONV_SEQ_CTL_ENTRIES, 1, 0, 3), (F.CONV_SEQ_ENT_A_CHANNEL, 1, 1, 17),
       (F.CONV_SEQ_ENT_A_SETTLE, 1, 1, 3)] convOn) { started := 2, delivered := 0, ringNext := 0 } (Sparse.put [] 1 someJob)
   let x : Fin 17 := 1
   s.serves [.conv] ∧
   (let b : ConvJob := someJob
    let c : Conv := { code := 100, ovr := false, compl := false }
    let r : SeqRun := { started := 2, delivered := 0, ringNext := 0 }
    Sparse.find? s.conv.jobs x = some b ∧ b.dropped = false ∧ b.unserved = false ∧ c.ovr = false ∧
    s.rd F.CONV_SEQ_ENT_A_AVG b.seq b.entry = 0 ∧ s.rd F.CONV_SEQ_ENT_A_DEST b.seq b.entry = 0 ∧
    s.rd F.CONV_SEQ_ENT_A_FMT b.seq b.entry = 0 ∧ s.chksOf b.seq b.entry = [] ∧ Sparse.find? s.conv.runs b.seq = some r ∧
    r.ringNext ≠ b.entry ∧ Sparse.find? r.waiting r.ringNext = none ∧ r.delivered + 1 ≠ s.rd F.CONV_SEQ_CTL_ENTRIES b.seq)) := by
  refine ⟨?_, ?_, ?_, ?_, ?_, ?_, ?_, ?_, ?_⟩ <;> decide +kernel

end Sys2Proof.Tests
end

