-- ==== Sys2Proof/Tests/Witness3.lean ====
section
/-! SUPPORT. Witnesses, part 3: for every statement with hypotheses, states and operands that meet those of each clause. -/

namespace Sys2Proof.Tests

set_option Elab.async false

open Sys2Proof Sys2Proof.Machine

/-- Every clause of `SolenoidCommands` is about some state. -/
theorem witness_SolenoidCommands :
  (let s : State := st [(F.SOL_CH_CFG_SRC, 1, 0, 1), (F.SOL_CH_CFG_EN, 1, 0, 1), (F.SOL_CH_STAT_STATE, 1, 0, 1),
       (F.SOL_CH_STAT_ARMED, 1, 0, 1)] solSet
   let n : Fin 32 := 1
   let k := n.val / 4
   let pick := s.solReg n = true ∧ s.solIs n .idle = true ∧ s.bit F.SOL_CH_STAT_ARMED n = true ∧
     (s.solCh n).deferred = none ∧ s.throttling = false
   let hot := s.bit F.SOL_CH_STAT_OVER n = true ∧ s.rd F.SOL_CH_I2T_CFG_POLICY n = 0
   let free := s.solQueue k = [] ∧ s.solFits n = true
   s.reaches [.sol] ∧ s.solIs n .off = false ∧ pick ∧ ¬ hot ∧ free) ∧
  (let s : State := st [(F.SOL_CH_STAT_STATE, 1, 0, (SolState.hold).code)] (st [(F.SOL_CH_CFG_SRC, 1, 0, 1),
       (F.SOL_CH_CFG_EN, 1, 0, 1), (F.SOL_CH_STAT_STATE, 1, 0, 1), (F.SOL_CH_STAT_ARMED, 1, 0, 1)] solSet)
   let n : Fin 32 := 1
   s.reaches [.sol] ∧ s.solReg n = true ∧ s.solIs n .hold = true ∧ s.takesCommands = true ∧
   (s.solIs n .hold = true ∨ s.solIs n .release = true ∨ s.solIs n .fault = true)) ∧
  (let s : State := st [(F.SOL_CH_CFG_EN, 1, 0, 0)] run
   let n : Fin 32 := 1
   s.reaches [.sol] ∧ s.bit F.SOL_CH_CFG_EN n = false ∧ s.solRefusal n ≠ 0) ∧
  (let s : State := st [(F.SOL_CH_STAT_STATE, 1, 0, (SolState.pick).code)] run
   let n : Fin 32 := 1
   let pick := s.solReg n = true ∧ s.solIs n .idle = true ∧ s.bit F.SOL_CH_STAT_ARMED n = true ∧
     (s.solCh n).deferred = none ∧ s.throttling = false
   s.reaches [.sol] ∧ s.takesCommands = true ∧ s.solIs n .pick = true) ∧
  (let s : State := st [(F.SOL_CH_STAT_STATE, 1, 0, (SolState.wait).code)] run
   let n : Fin 32 := 1
   s.reaches [.sol] ∧ s.takesCommands = true ∧ s.solIs n .wait = true) ∧
  (let s : State := st [(F.SOL_CH_STAT_STATE, 1, 0, (SolState.fault).code)] run
   let n : Fin 32 := 1
   s.reaches [.sol] ∧ s.takesCommands = true ∧ s.solIs n .fault = true ∧ (s.solCh n).last ≤ s.rd F.SOL_CH_LIM_IOFF n ∧
   s.solTested n = false) ∧
  (let s : State := st [(F.SOL_CH_STAT_STATE, 1, 0, (SolState.fault).code)] ((run |>.solMod 1 fun c => { c with last := 37 }))
   let n : Fin 32 := 1
   s.reaches [.sol] ∧ s.takesCommands = true ∧ s.solIs n .fault = true ∧
   (s.rd F.SOL_CH_LIM_IOFF n < (s.solCh n).last ∨ s.solTested n = true)) ∧
  (let s : State := st [(F.SOL_CH_CFG_EN, 1, 0, 0)] solSet
   let n : Fin 32 := 1
   s.reaches [.sol] ∧ s.bit F.SOL_CH_CFG_EN n = false ∧ s.solRefusal n = 0) ∧
  (let s : State := st [(F.SOL_CH_STAT_OVER, 1, 0, 1)] (st [(F.SOL_CH_CFG_SRC, 1, 0, 1), (F.SOL_CH_CFG_EN, 1, 0, 1),
       (F.SOL_CH_STAT_STATE, 1, 0, 1), (F.SOL_CH_STAT_ARMED, 1, 0, 1)] solSet)
   let n : Fin 32 := 1
   let pick := s.solReg n = true ∧ s.solIs n .idle = true ∧ s.bit F.SOL_CH_STAT_ARMED n = true ∧
     (s.solCh n).deferred = none ∧ s.throttling = false
   let hot := s.bit F.SOL_CH_STAT_OVER n = true ∧ s.rd F.SOL_CH_I2T_CFG_POLICY n = 0
   s.reaches [.sol] ∧ pick ∧ hot) ∧
  (let s : State := st [(F.SOL_CH_STAT_STATE, 1, 0, (SolState.idle).code)] (st [(F.SOL_CH_CFG_SRC, 1, 0, 1),
       (F.SOL_CH_CFG_EN, 1, 0, 1), (F.SOL_CH_STAT_STATE, 1, 0, 1), (F.SOL_CH_STAT_ARMED, 1, 0, 1)] solSet)
   let n : Fin 32 := 1
   s.reaches [.sol] ∧ s.solReg n = true ∧ s.solIs n .idle = true) ∧
  (let s : State := st [(F.SOL_CH_PROF_PICK_I, 3, 0, 1800), (F.SOL_CH_STAT_STATE, 3, 0, 3)] (st [(F.SOL_CH_CFG_SRC, 1, 0, 1),
       (F.SOL_CH_CFG_EN, 1, 0, 1), (F.SOL_CH_STAT_STATE, 1, 0, 1), (F.SOL_CH_STAT_ARMED, 1, 0, 1)] solSet)
   let n : Fin 32 := 1
   let k := n.val / 4
   let pick := s.solReg n = true ∧ s.solIs n .idle = true ∧ s.bit F.SOL_CH_STAT_ARMED n = true ∧
     (s.solCh n).deferred = none ∧ s.throttling = false
   let hot := s.bit F.SOL_CH_STAT_OVER n = true ∧ s.rd F.SOL_CH_I2T_CFG_POLICY n = 0
   let free := s.solQueue k = [] ∧ s.solFits n = true
   s.reaches [.sol] ∧ pick ∧ ¬ hot ∧ ¬ free) := by
  refine ⟨?_, ?_, ?_, ?_, ?_, ?_, ?_, ?_, ?_, ?_, ?_⟩ <;> decide +kernel

/-- Every clause of `SolenoidEvents` is about some state. -/
theorem witness_SolenoidEvents :
  (let s : State := st [(F.SOL_CH_CFG_SRC, 1, 0, 1), (F.SOL_CH_CFG_EN, 1, 0, 1), (F.SOL_CH_STAT_STATE, 1, 0, 1),
       (F.SOL_CH_STAT_ARMED, 1, 0, 1)] solSet
   let n : Fin 32 := 1
   let rolled := s.solMod n (bucketRoll (s.nowUs / 1000000))
   let sum := rolled.i2tSum n
   s.serves [.sol] ∧ s.solIs n .off = false ∧ s.bit F.SOL_CH_STAT_OVER n = false ∧ sum ≤ s.rd F.SOL_CH_I2T_LIM n ∧
   s.solIs n .fault = false ∧ s.drives = true ∧
   (let raw : List Int := [5, -7, 1200]
    raw ≠ []) ∧
   (let p : SolPer := ⟨true, false, 2, 1, 100, 5, 5000⟩
    let d : SolCh := { isOn := true, sinceOn := 3, target := 90 }
    let x : Int := 100
    p.avg = false ∧ d.isOn = true ∧ p.blank + 1 ≤ d.sinceOn ∧ (d.target : Int) ≤ x) ∧
   (let reason : BitVec 4 := 7
    (reason = 1 ∨ reason = 7))) ∧
  (let s : State := st [(F.SOL_CH_STAT_STATE, 1, 0, (SolState.off).code)] solSet
   let n : Fin 32 := 1
   s.serves [.sol] ∧ s.solIs n .off = true) ∧
  (let s : State := st [(F.SOL_CH_STAT_STATE, 1, 0, (SolState.wait).code)] solSet
   let n : Fin 32 := 1
   s.serves [.sol] ∧ s.solIs n .wait = true) ∧
  (let s : State := st [(F.SOL_CH_STAT_STATE, 1, 0, (SolState.pick).code), (F.SOL_CH_STAT_MOTION, 1, 0, 1)] solSet
   let n : Fin 32 := 1
   s.serves [.sol] ∧ s.solIs n .pick = true ∧ s.rd F.SOL_CH_STAT_MOTION n = 1) ∧
  (let s : State := st [(F.SOL_CH_STAT_STATE, 1, 0, 5)] solSet |>.solMod 1 fun c => { c with last := 7, low := 4 }
   let n : Fin 32 := 1
   let c := s.solCh n
   s.serves [.sol] ∧ s.solIs n .release = true ∧ 4 ≤ c.low ∧ c.kept = false) ∧
  (let s : State := st [(F.SOL_CH_STAT_STATE, 1, 0, 5)] solSet |>.solMod 1 fun c => { c with last := 700, low := 0 }
   let n : Fin 32 := 1
   let c := s.solCh n
   s.serves [.sol] ∧ s.drives = true ∧ (s.solIs n .release = true ∨ s.solIs n .fault = true) ∧
   (s.rd F.SOL_CH_LIM_IOFF n : Int) < c.last) ∧
  (let s : State := st [(F.SOL_CH_STAT_STATE, 1, 0, (SolState.pick).code), (F.SOL_CH_STAT_MOTION, 1, 0, 0),
       (F.SOL_CH_CFG_NMFAULT, 1, 0, 0)] solSet
   let n : Fin 32 := 1
   s.serves [.sol] ∧ s.solIs n .pick = true ∧ s.rd F.SOL_CH_STAT_MOTION n ≠ 1 ∧ s.bit F.SOL_CH_CFG_NMFAULT n = false) ∧
  (let s : State := st [(F.SOL_CH_STAT_OVER, 1, 0, 0), (F.SOL_CH_I2T_CFG_POLICY, 1, 0,
       3)] (st [(F.SOL_CH_I2T_LIM, 1, 0, 100)] ((st [(F.SOL_CH_CFG_SRC, 1, 0, 1), (F.SOL_CH_CFG_EN, 1, 0, 1),
       (F.SOL_CH_STAT_STATE, 1, 0, 1), (F.SOL_CH_STAT_ARMED, 1, 0,
       1)] solSet).solMod 1 fun c => { c with runSum := 1000000000, buckets := [1000000000] }))
   let n : Fin 32 := 1
   let rolled := s.solMod n (bucketRoll (s.nowUs / 1000000))
   let sum := rolled.i2tSum n
   s.serves [.sol] ∧ s.bit F.SOL_CH_STAT_OVER n = false ∧ s.rd F.SOL_CH_I2T_LIM n < sum ∧ s.rd F.SOL_CH_I2T_CFG_POLICY n ≠ 2) := by
  refine ⟨?_, ?_, ?_, ?_, ?_, ?_, ?_, ?_⟩ <;> decide +kernel

/-- Every clause of `FanCommands` is about some state. -/
theorem witness_FanCommands :
  (let s : State := st [(F.FAN_CH_STAT_STATE, 1, 0,
       2)] (run.fanMod 1 fun c => { c with attempts := 3, intervals := [30000, 29000], duty := 4000 })
   let n : Fin 16 := 1
   s.reaches [.fan] ∧ s.bit F.FAN_CH_CFG_EN n = false ∧ s.fanRefusal n = 0 ∧ s.takesCommands = true ∧ s.fanStarting n = true) ∧
  (let s : State := run
   let n : Fin 16 := 1
   s.reaches [.fan] ∧ s.fanStarting n = false) ∧
  (let s : State := st [(F.FAN_CH_STAT_STATE, 1, 0, (FanState.run).code)] run
   let n : Fin 16 := 1
   s.reaches [.fan] ∧ s.takesCommands = true ∧ s.fanIs n .run = true ∧ s.fanEndedNow n = false) ∧
  (let s : State := st [(F.FAN_CH_STAT_STATE, 1, 0, (FanState.fault).code)] run
   let n : Fin 16 := 1
   s.reaches [.fan] ∧ s.takesCommands = true ∧ s.fanIs n .fault = true ∧ s.gateTested (gateUnit 2 n) = false) ∧
  (let s : State := st [(F.FAN_CH_STAT_STATE, 1, 0, (FanState.locked).code)] run
   let n : Fin 16 := 1
   s.reaches [.fan] ∧ s.takesCommands = true ∧ s.fanIs n .locked = true) ∧
  (let s : State := st [(F.FAN_CH_CFG_EN, 1, 0, 0)] (st [(F.FAN_CH_RPM_RPM_MIN, 1, 0, 100)] run)
   let n : Fin 16 := 1
   s.reaches [.fan] ∧ s.bit F.FAN_CH_CFG_EN n = false ∧ s.fanRefusal n ≠ 0) := by
  refine ⟨?_, ?_, ?_, ?_, ?_, ?_⟩ <;> decide +kernel

/-- Every clause of `FanEvents` is about some state. -/
theorem witness_FanEvents :
  (let s : State := st [(F.FAN_CH_STAT_STATE, 1, 0, 4), (F.FAN_CH_CFG_PPR, 1, 0,
       1)] (run.fanMod 1 fun c => { c with attempts := 3, intervals := [30000, 29000], duty := 4000 })
   let n : Fin 16 := 1
   let ppr := s.rd F.FAN_CH_CFG_PPR n + 1
   s.serves [.fan] ∧ (s.fanIs n .run = true ∨ s.fanIs n .tachLost = true ∧ (s.fanCh n).edges = 1) ∧ s.fanIs n .run = true ∧
   s.rd F.FAN_CH_DUTY_DMIN n ≤ s.rd F.FAN_CH_DUTY_DMAX n ∧ s.rd F.FAN_CH_CFG_DRIVE n = 0 ∧ (s.fanCh n).duty ≤ 8000 ∧
   s.drives = true ∧ s.fanIs n .off = false ∧ s.fanIs n .fault = false ∧
   (let time : Nat := 3
    let is := (time :: (s.fanCh n).intervals).take ppr
    let rev := if is.length < ppr then time * ppr else is.sum
    0 < rev ∧ 600000000 / rev < 65536)) ∧
  (let s : State := st [(F.FAN_CH_CFG_DRIVE, 1, 0, 1)] (st [(F.FAN_CH_STAT_STATE, 1, 0, 1)] run)
   let n : Fin 16 := 1
   s.serves [.fan] ∧ s.fanIs n .off = false ∧ s.rd F.FAN_CH_CFG_DRIVE n ≠ 0 ∧ s.drives = true ∧ s.fanIs n .fault = false) ∧
  (let s : State := run
   let n : Fin 16 := 1
   s.serves [.fan] ∧ s.fanIs n .kick = false ∧ s.fanIs n .run = false ∧ s.fanIs n .tachLost = false) ∧
  (let s : State := st [(F.FAN_CH_STAT_STATE, 1, 0, (FanState.retry).code)] run
   let n : Fin 16 := 1
   let more := s.rd F.FAN_CH_STAT_ATTEMPT n < (s.fanCh n).attempts
   s.serves [.fan] ∧ s.fanIs n .retry = true ∧ ¬ more) ∧
  (let s : State := st [(F.FAN_CH_STAT_STATE, 1, 0, (FanState.tachLost).code)] run
   let n : Fin 16 := 1
   let i := s.rdS F.FAN_CH_IMEAN n
   s.serves [.fan] ∧ s.drives = true ∧ s.fanIs n .tachLost = true ∧ i ≤ s.rd F.FAN_CH_ISENSE_I_OPEN n) ∧
  (let s : State := st [(F.FAN_CH_STAT_STATE, 1, 0, (FanState.kick).code), (F.FAN_CH_STAT_TACH_SEEN, 1, 0, 0)] run
   let n : Fin 16 := 1
   let more := s.rd F.FAN_CH_STAT_ATTEMPT n < (s.fanCh n).attempts
   s.serves [.fan] ∧ s.fanIs n .kick = true ∧ s.bit F.FAN_CH_STAT_TACH_SEEN n = false ∧ ¬ more) ∧
  (let s : State := st [(F.FAN_CH_STAT_STATE, 1, 0, (FanState.kick).code), (F.FAN_CH_STAT_TACH_SEEN, 1, 0, 1)] run
   let n : Fin 16 := 1
   s.serves [.fan] ∧ s.fanIs n .kick = true ∧ s.bit F.FAN_CH_STAT_TACH_SEEN n = true) ∧
  (let s : State := st [(F.FAN_CH_STAT_STATE, 1, 0,
       (FanState.retry).code)] ((run.fanMod 1 fun c => { c with attempts := 3, intervals := [30000, 29000], duty := 4000 }))
   let n : Fin 16 := 1
   let more := s.rd F.FAN_CH_STAT_ATTEMPT n < (s.fanCh n).attempts
   s.serves [.fan] ∧ s.fanIs n .retry = true ∧ more ∧ s.rd F.FAN_CH_STAT_ATTEMPT n < 15) ∧
  (let s : State := st [(F.FAN_CH_STAT_STATE, 1, 0, (FanState.kick).code), (F.FAN_CH_STAT_TACH_SEEN, 1, 0,
       0)] ((run.fanMod 1 fun c => { c with attempts := 3, intervals := [30000, 29000], duty := 4000 }))
   let n : Fin 16 := 1
   let more := s.rd F.FAN_CH_STAT_ATTEMPT n < (s.fanCh n).attempts
   s.serves [.fan] ∧ s.fanIs n .kick = true ∧ s.bit F.FAN_CH_STAT_TACH_SEEN n = false ∧ more) ∧
  (let s : State := st [(F.FAN_CH_STAT_STATE, 1, 0, (FanState.run).code), (F.FAN_CH_CFG_DRIVE, 1, 0,
       1)] (st [(F.FAN_CH_ISENSE_I_OPEN, 1, 0, 50), (F.FAN_CH_ISENSE_I_STALL, 1, 0, 500), (F.FAN_CH_IMEAN, 1, 0, 51),
       (F.FAN_CH_CFG_DRIVE, 1, 0, 1)] (run.fanMod 1 fun c
       => { c with attempts := 3, intervals := [30000, 29000], duty := 4000 }))
   let n : Fin 16 := 1
   let i := s.rdS F.FAN_CH_IMEAN n
   s.serves [.fan] ∧ s.fanIs n .run = true ∧ s.rd F.FAN_CH_CFG_DRIVE n ≠ 0 ∧ s.rd F.FAN_CH_ISENSE_I_OPEN n < i ∧
   i < s.rd F.FAN_CH_ISENSE_I_STALL n) := by
  refine ⟨?_, ?_, ?_, ?_, ?_, ?_, ?_, ?_, ?_, ?_⟩ <;> decide +kernel

/-- Every clause of `MotorCommands` is about some state. -/
theorem witness_MotorCommands :
  (let s : State := motSet |>.motMod 1 fun c => { c with homing := true }
   let n : Fin 12 := 1
   s.reaches [.mot] ∧ s.motReg n = true ∧ s.motOpen n = true ∧ (s.motCh n).homing = true ∧ s.takesCommands = true) ∧
  (let s : State := st [(F.MOT_CH_CFG_EN, 1, 0, 0)] run
   let n : Fin 12 := 1
   s.reaches [.mot] ∧ s.bit F.MOT_CH_CFG_EN n = false ∧ s.motRefusal n = 0) ∧
  (let s : State := st [(F.MOT_CH_STAT_STATE, 1, 0, (MotState.fault).code)] run
   let n : Fin 12 := 1
   s.reaches [.mot] ∧ s.takesCommands = true ∧ s.motIs n .fault = true ∧
   ((s.motCh n).still = false ∨ s.gateTested (gateUnit 1 n) = true)) ∧
  (let s : State := st [(F.MOT_CH_CFG_EN, 1, 0, 0)] (st [(F.MOT_CH_PWM, 1, 0, 5001)] run)
   let n : Fin 12 := 1
   s.reaches [.mot] ∧ s.bit F.MOT_CH_CFG_EN n = false ∧ s.motRefusal n ≠ 0) ∧
  (let s : State := motSet |>.motMod 1 fun c => { c with stopReq := false }
   let n : Fin 12 := 1
   s.reaches [.mot] ∧ s.motReg n = true ∧ s.motOpen n = true ∧ (s.motCh n).homing = false) ∧
  (let s : State := st [(F.MOT_CH_STAT_STATE, 1, 0, (MotState.idle).code)] (st [(F.MOT_CH_CFG_EN, 1, 0, 1),
       (F.MOT_CH_CFG_SRC, 1, 0, 1), (F.MOT_CH_STAT_STATE, 1, 0, 1), (F.MOT_CH_STAT_ARMED, 1, 0, 1)] run)
   let n : Fin 12 := 1
   let home : Bool := true
   let next : Nat → State → State := fun k u => u.motMod n fun c => { c with next := some k }
   s.reaches [.mot] ∧ s.motReg n = true ∧ s.motIs n .idle = true ∧ (s.motCh n).next = none ∧
   (home = true ∨ s.bit F.MOT_CH_STAT_HOMED n = true)) ∧
  (let s : State := st [(F.MOT_CH_STAT_OUTCOME, 1, 0, 1)] (st [(F.MOT_CH_CFG_EN, 1, 0, 1), (F.MOT_CH_CFG_SRC, 1, 0, 1),
       (F.MOT_CH_STAT_STATE, 1, 0, 6)] run |>.motMod 1 fun c => { c with still := false })
   let n : Fin 12 := 1
   s.reaches [.mot] ∧ s.takesCommands = true ∧ s.motOpen n = false ∧ (s.motMoving n = true ∨ s.rd F.MOT_CH_STAT_OUTCOME n ≠ 0)) ∧
  (let s : State := st [(F.MOT_CH_STAT_STATE, 1, 0, (MotState.fault).code)] ((st [(F.MOT_CH_CFG_EN, 1, 0, 1),
       (F.MOT_CH_CFG_SRC, 1, 0, 1), (F.MOT_CH_STAT_STATE, 1, 0, 9)] run |>.motMod 1 fun c => { c with still := true }))
   let n : Fin 12 := 1
   s.reaches [.mot] ∧ s.takesCommands = true ∧ s.motIs n .fault = true ∧ (s.motCh n).still = true ∧
   s.gateTested (gateUnit 1 n) = false) ∧
  (let s : State := st [(F.MOT_CH_STAT_STATE, 1, 0, (MotState.idle).code), (F.MOT_CH_STAT_HOMED, 1, 0,
       0)] (st [(F.MOT_CH_CFG_EN, 1, 0, 1), (F.MOT_CH_CFG_SRC, 1, 0, 1), (F.MOT_CH_STAT_STATE, 1, 0, 1),
       (F.MOT_CH_STAT_ARMED, 1, 0, 1)] run)
   let n : Fin 12 := 1
   let home : Bool := false
   let next : Nat → State → State := fun k u => u.motMod n fun c => { c with next := some k }
   s.reaches [.mot] ∧ s.motReg n = true ∧ s.motIs n .idle = true ∧ (s.motCh n).next = none ∧ home = false ∧
   s.bit F.MOT_CH_STAT_HOMED n = false) := by
  refine ⟨?_, ?_, ?_, ?_, ?_, ?_, ?_, ?_, ?_⟩ <;> decide +kernel

/-- Every clause of `MotorEvents` is about some state. -/
theorem witness_MotorEvents :
  (let s : State := motSet |>.motMod 1 fun c => { c with homing := true }
   let n : Fin 12 := 1
   let was := (s.motCh n).lines.getD 0
   s.serves [.mot] ∧ s.motIs n .off = false ∧ s.rd F.MOT_CH_CFG_POSSRC n = 0 ∧ hallSector was = none ∧
   (s.motCh n).homing = true ∧ s.motIs n .run = true ∧ s.motOpen n = true ∧ s.homeAllowed n = true ∧ s.motIs n .fault = false ∧
   (let reason : BitVec 4 := 3
    (reason = 1 ∨ reason = 3))) ∧
  (let s : State := st [(F.MOT_CH_CFG_POSSRC, 1, 0,
       1)] ((motSet |>.motMod 1 fun c => { c with stopReq := true, lines := some 4 }))
   let n : Fin 12 := 1
   let was := (s.motCh n).lines.getD 0
   s.serves [.mot] ∧ s.motIs n .off = false ∧ s.rd F.MOT_CH_CFG_POSSRC n = 1 ∧
   (let a : Bool := false
    let b : Bool := false
    let d := (encPhase a b + 4 - encPhase (was.getLsbD 2) (was.getLsbD 1)) % 4
    d = 3) ∧
   (let a : Bool := false
    let b : Bool := true
    let d := (encPhase a b + 4 - encPhase (was.getLsbD 2) (was.getLsbD 1)) % 4
    d = 2)) ∧
  (let s : State := st [(F.MOT_CH_STAT_STATE, 1, 0, (MotState.idle).code)] run
   let n : Fin 12 := 1
   s.serves [.mot] ∧ s.motIs n .idle = true ∧ (s.motCh n).driven = false ∧
   (let v : BitVec 16 := 24000
    let calm : BitVec 16 → Prop := fun v => 10500 ≤ v.toNat ∧ v.toNat ≤ 62000 ∧ (s.motCh n).ocRun = 0 ∧
      (s.motCh n).next = none
    calm v)) ∧
  (let s : State := st [(F.MOT_CH_STAT_STATE, 1, 0, (MotState.align).code)] run
   let n : Fin 12 := 1
   s.serves [.mot] ∧ s.motIs n .align = true) ∧
  (let s : State := st [(F.MOT_CH_STAT_STATE, 1, 0, (MotState.engage).code)] run
   let n : Fin 12 := 1
   s.serves [.mot] ∧ s.motIs n .engage = true ∧ s.solIs (s.rd F.MOT_CH_BRAKE_BRK_CH n) .release = false) ∧
  (let s : State := st [(F.MOT_CH_STAT_STATE, 1, 0, (MotState.brakeWait).code)] run
   let n : Fin 12 := 1
   let brake := s.rd F.MOT_CH_BRAKE_BRK_CH n
   s.serves [.mot] ∧ s.motIs n .brakeWait = true ∧ (s.solCh brake).moved = false) ∧
  (let s : State := st [(F.MOT_CH_STAT_STATE, 1, 0, (MotState.run).code), (F.MOT_CH_CFG_POSSRC, 1, 0, 2),
       (F.MOT_CH_STAT_SL_LOCK, 1, 0, 0)] run
   let n : Fin 12 := 1
   s.serves [.mot] ∧ s.motIs n .run = true ∧ s.rd F.MOT_CH_CFG_POSSRC n = 2 ∧ s.bit F.MOT_CH_STAT_SL_LOCK n = false) ∧
  (let s : State := motSet |>.motMod 1 fun c => { c with sector := some 5 }
   let n : Fin 12 := 1
   s.serves [.mot] ∧ s.motIs n .off = false ∧ s.rd F.MOT_CH_CFG_POSSRC n = 0 ∧
   (let h : BitVec 3 := 1
    let x : Nat := 0
    let y : Nat := 5
    hallSector h = some x ∧ (s.motCh n).sector = some y ∧ x = (y + 1) % 6 ∧ y < 6)) ∧
  (let s : State := motSet |>.motMod 1 fun c => { c with sector := some 0 }
   let n : Fin 12 := 1
   s.serves [.mot] ∧ s.motIs n .off = false ∧ s.rd F.MOT_CH_CFG_POSSRC n = 0 ∧
   (let h : BitVec 3 := 5
    let x : Nat := 5
    let y : Nat := 0
    hallSector h = some x ∧ (s.motCh n).sector = some y ∧ y = (x + 1) % 6)) ∧
  (let s : State := motSet |>.motMod 1 fun c => { c with sector := some 2 }
   let n : Fin 12 := 1
   s.serves [.mot] ∧ s.motIs n .off = false ∧ s.rd F.MOT_CH_CFG_POSSRC n = 0 ∧
   (let h : BitVec 3 := 1
    let x : Nat := 0
    let y : Nat := 2
    hallSector h = some x ∧ (s.motCh n).sector = some y ∧ x ≠ y ∧ x ≠ (y + 1) % 6 ∧ y ≠ (x + 1) % 6)) ∧
  (let s : State := st [(F.MOT_CH_CFG_POSSRC, 1, 0, 1)] ((st [(F.MOT_CH_CFG_EN, 1, 0, 1), (F.MOT_CH_CFG_SRC, 1, 0, 1),
       (F.MOT_CH_STAT_STATE, 1, 0, 1)] run |>.motMod 1 fun c => { c with sector := none, lines := some 4 }))
   let n : Fin 12 := 1
   let was := (s.motCh n).lines.getD 0
   s.serves [.mot] ∧ s.motIs n .off = false ∧ s.rd F.MOT_CH_CFG_POSSRC n = 1 ∧
   (let a : Bool := true
    let b : Bool := true
    let d := (encPhase a b + 4 - encPhase (was.getLsbD 2) (was.getLsbD 1)) % 4
    d = 1)) ∧
  (let s : State := st [(F.MOT_CH_REV_REV_DIST, 1, 0, 50)] ((st [(F.MOT_CH_CFG_EN, 1, 0, 1), (F.MOT_CH_CFG_SRC, 1, 0, 1),
       (F.MOT_CH_STAT_STATE, 1, 0, 5)] run |>.motMod 1 fun c => { c with still := true, entryForward := true }))
   let n : Fin 12 := 1
   s.serves [.mot] ∧ s.rd F.MOT_CH_CFG_POSSRC n ≠ 2 ∧ (s.motCh n).still = true ∧ s.motIs n .reverse = true ∧
   (s.rdS F.MOT_CH_OBS_POS n - s.motPos n) * (if (s.motCh n).entryForward then 1 else -1) < s.rd F.MOT_CH_REV_REV_DIST n ∧
   (let v : BitVec 16 := 24000
    let calm : BitVec 16 → Prop := fun v => 10500 ≤ v.toNat ∧ v.toNat ≤ 62000 ∧ (s.motCh n).ocRun = 0 ∧
      (s.motCh n).next = none
    calm v)) ∧
  (let s : State := st [(F.MOT_CH_STAT_STATE, 1, 0, (MotState.run).code), (F.MOT_CH_STAT_OUTCOME, 1, 0, 0),
       (F.MOT_CH_CFG_POSSRC, 1, 0, 3)] ((motSet |>.motMod 1 fun c => { c with stopReq := true }))
   let n : Fin 12 := 1
   s.serves [.mot] ∧ s.motIs n .run = true ∧ (s.motCh n).stopReq = true ∧ s.rd F.MOT_CH_STAT_OUTCOME n = 0 ∧
   s.rd F.MOT_CH_CFG_POSSRC n ≠ 2 ∧ (s.motCh n).still = false ∧
   (let v : BitVec 16 := 24000
    let calm : BitVec 16 → Prop := fun v => 10500 ≤ v.toNat ∧ v.toNat ≤ 62000 ∧ (s.motCh n).ocRun = 0 ∧
      (s.motCh n).next = none
    calm v)) ∧
  (let s : State := st [(F.MOT_CH_CFG_POSSRC, 1, 0, 3), (F.MOT_CH_STAT_STATE, 1, 0, (MotState.stopping).code),
       (F.MOT_CH_BRAKE_BRK_EN, 1, 0, 0)] ((st [(F.MOT_CH_CFG_EN, 1, 0, 1), (F.MOT_CH_CFG_SRC, 1, 0, 1),
       (F.MOT_CH_STAT_STATE, 1, 0, 6)] run |>.motMod 1 fun c => { c with still := true }))
   let n : Fin 12 := 1
   s.serves [.mot] ∧ s.rd F.MOT_CH_CFG_POSSRC n ≠ 2 ∧ (s.motCh n).still = true ∧ s.motIs n .stopping = true ∧
   s.bit F.MOT_CH_BRAKE_BRK_EN n = false ∧
   (let v : BitVec 16 := 24000
    let calm : BitVec 16 → Prop := fun v => 10500 ≤ v.toNat ∧ v.toNat ≤ 62000 ∧ (s.motCh n).ocRun = 0 ∧
      (s.motCh n).next = none
    calm v)) := by
  refine ⟨?_, ?_, ?_, ?_, ?_, ?_, ?_, ?_, ?_, ?_, ?_, ?_, ?_, ?_⟩ <;> decide +kernel

/-- Every clause of `MeterLatches` is about some state. -/
theorem witness_MeterLatches :
  (let s : State := { run with meter := { run.meter with capture := some ({ acc := [(3,
                                                                            (9,
                                                                            9))], frame := 2^40+7, offset := 3, cycles :=
                                                                            7, samples := 9, clip := 0, noloadSeen :=
                                                                            0, notrack := true, cmd := true, revP :=
                                                                            0, revQ := 1 } : LatchSet) } }
   let q := s.rd F.METER_LOAD_Q
   s.reaches [.meter] ∧ s.bit F.METER_LAT_STAT_LOCKED = false ∧ s.rd F.METER_LAT_STAT_NEWEST < 2 ∧
   s.bit F.METER_CTL_RUN = false ∧ isEnergy q = true ∧ s.bit F.METER_PF_CTL_BLK_EN = true ∧
   (let c : LatchSet := ({ acc := [(3, (9,
                           9))], frame := 2^40+7, offset := 3, cycles := 7, samples := 9, clip := 0, noloadSeen :=
                           0, notrack := true, cmd := true, revP := 0, revQ := 1 } : LatchSet)
    s.meter.capture = some c)) ∧
  (let s : State := st [(F.METER_LAT_STAT_LOCKED, 0, 0, 1)] (st [(F.METER_LAT_STAT_LOCKED, 0, 0, 1),
       (F.METER_LAT_STAT_LOCK_BANK, 0, 0, 1), (F.METER_LAT_STAT_NEWEST, 0, 0, 0), (F.METER_BANK_SEQ, 1, 0, 5),
       (F.METER_PF_CTL_BLK_EN, 0, 0, 1)] run)
   let v : Word := 5
   let locked := s.rd F.METER_LAT_STAT_LOCK_BANK
   s.reaches [.meter] ∧ s.bit F.METER_LAT_STAT_LOCKED = true ∧ s.rd F.METER_BANK_SEQ locked = v.toNat) ∧
  (let s : State := st [(F.METER_CTL_RUN, 0, 0, 1)] run
   s.reaches [.meter] ∧ s.bit F.METER_CTL_RUN = true) ∧
  (let s : State := { run with meter := { run.meter with latchNow := true, latSamples := 41 } }
   s.reaches [.meter] ∧ s.meter.latchNow = true) := by
  refine ⟨?_, ?_, ?_, ?_⟩ <;> decide +kernel

/-- Every clause of `MeterEvents` is about some state. -/
theorem witness_MeterEvents :
  (let s : State := run
   s.serves [.meter] ∧ s.bit F.METER_STAT_TRACKING = false ∧
   (let line : Fin 3 := 2
    (s.bit F.METER_STAT_TRACKING = false ∨ s.phases.contains line.val = false)) ∧
   (let cause : BitVec 2 := 1
    (cause = 1 ∧ s.mainsLow = false ∨ cause = 2 ∨ cause = 3))) ∧
  (let s : State := st [(F.METER_ZSW_CFG_EN, 3, 0, 1), (F.METER_ZSW_STAT_PENDING, 3, 0, 1), (F.METER_ZSW_CFG_LINE, 3, 0, 2),
       (F.METER_ZSW_CFG_EDGE, 3, 0, 1), (F.METER_STAT_TRACKING, 0, 0, 1), (F.METER_STAT_FREF_USED, 0, 0, 2)] run
   s.serves [.meter] ∧ s.bit F.METER_STAT_TRACKING = true ∧
   (let line : Fin 3 := 2
    s.phases.contains line.val = true ∧ s.rd F.METER_STAT_FREF_USED = line)) ∧
  (let s : State := st [(F.METER_PF_CTL_BLK_EN, 0, 0, 1)] run
   s.serves [.meter] ∧ s.bit F.METER_PF_STAT_PFW = false ∧ s.bit F.METER_PF_CTL_BLK_EN = true ∧
   (let cause : BitVec 2 := 0
    (cause = 0 ∨ cause = 1 ∧ s.mainsLow = true))) ∧
  (let s : State := { run with meter := { run.meter with pulsing := [1] } }
   s.serves [.meter] ∧
   (let k : Fin 4 := 1
    s.meter.pulsing.contains k.val = true)) ∧
  (let s : State := st [(F.METER_PF_STAT_PFW, 0, 0, 1), (F.METER_PF_CTL_BLK_EN, 0, 0, 0)] run
   s.serves [.meter] ∧ s.bit F.METER_PF_STAT_PFW = true ∧ s.mainsLow = false ∧ s.bit F.METER_PF_CTL_BLK_EN = false) ∧
  (let s : State := st [(F.METER_PF_STAT_PFW, 0, 0, 1), (F.METER_PF_CTL_BLK_EN, 0, 0, 1)] run
   s.serves [.meter] ∧ s.bit F.METER_PF_STAT_PFW = true ∧ s.mainsLow = false ∧ s.bit F.METER_PF_CTL_BLK_EN = true) ∧
  (let s : State := { run with meter := { run.meter with zswTarget := [(3, true)], zswTimed := [3] } }
   s.serves [.meter] ∧ s.drives = true ∧
   (let k : Fin 4 := 3
    let b : Bool := true
    Sparse.find? s.meter.zswTarget k = some b ∧ s.meter.zswTimed.contains k.val = true)) ∧
  (let s : State := { run with meter := { run.meter with freqCycles := 500, freqTime := 1280000000 } }
   s.serves [.meter] ∧ s.meter.freqTime ≠ 0) ∧
  (let s : State := st [(F.METER_EP_CFG_EN, 1, 0, 1), (F.TWIN_STAT_DRIVING, 0, 0,
       1)] (st [(F.METER_EP_STAT_BACKLOG, 1, 0, 65535)] run)
   s.serves [.meter] ∧ s.driving = true ∧
   (let k : Fin 4 := 1
    s.meter.pulsing.contains k.val = false ∧ s.bit F.METER_EP_CFG_EN k = true ∧ 0 < s.rd F.METER_EP_STAT_BACKLOG k ∧
    s.rd F.METER_EP_STAT_BACKLOG k < 65536)) ∧
  (let s : State := st [(F.METER_PF_CTL_BLK_EN, 0, 0,
       1)] ({ run with meter := { run.meter with snap := some (2, 77, [(1, 2), (3, 4)]) } })
   s.serves [.meter] ∧ s.bit F.METER_PF_CTL_BLK_EN = true ∧
   (let cause : Nat := 2
    let frame : Nat := 77
    let es : List (Nat × Nat) := [(1, 2), (3, 4)]
    s.meter.snap = some (cause, frame, es))) ∧
  (let s : State := st [(F.METER_PF_STAT_PFW, 0, 0, 1)] (st [(F.METER_PF_CTL_MAINS_K, 0, 0, 3),
       (F.METER_PF_CTL_BLK_EN, 0, 0, 1)] ({ run with meter := { run.meter with mainsHalves := 4 } }))
   s.serves [.meter] ∧ s.bit F.METER_PF_STAT_PFW = true ∧ s.mainsLow = true) := by
  refine ⟨?_, ?_, ?_, ?_, ?_, ?_, ?_, ?_, ?_, ?_, ?_⟩ <;> decide +kernel

/-- Every clause of `TwinRoles` is about some state. -/
theorem witness_TwinRoles :
  (let s : State := st [(F.TWIN_STAT_ROLE, 0, 0, (Role.arbitrate).code)] twinOn
   s.serves [.deck, .link] ∧ s.paired = true ∧ s.roleIs .arbitrate = true) ∧
  (let s : State := twinOn
   let ownIn : Bool := false
   let driven := s.bit F.TWIN_STAT_OWN_OUT && !ownIn
   s.serves [.deck, .link] ∧ s.paired = true ∧ driven = s.driving) ∧
  (let s : State := st [(F.TWIN_STAT_DRIVING, 0, 0, 1)] twinOn
   let ownIn : Bool := true
   let driven := s.bit F.TWIN_STAT_OWN_OUT && !ownIn
   s.serves [.deck, .link] ∧ s.paired = true ∧ driven = false ∧ s.driving = true) ∧
  (let s : State := st [(F.TWIN_STAT_DRIVING, 0, 0, 0)] twinOn
   let ownIn : Bool := false
   let driven := s.bit F.TWIN_STAT_OWN_OUT && !ownIn
   s.serves [.deck, .link] ∧ s.paired = true ∧ driven = true ∧ s.driving = false) ∧
  (let s : State := st [(F.TWIN_STAT_OWN_OUT, 0, 0, 1), (F.TWIN_STAT_OWN_IN, 0, 0, 1), (F.TWIN_STAT_DRIVING, 0, 0, 0)] twinOn
   s.serves [.deck, .link] ∧ s.paired = true ∧ s.bit F.TWIN_STAT_OWN_OUT = true ∧ s.bit F.TWIN_STAT_OWN_IN = true ∧
   s.driving = false) ∧
  (let s : State := st [(F.TWIN_STAT_OWN_IN, 0, 0,
       0)] (({ twinOn with twin := { twinOn.twin with contending := true } } : State))
   s.serves [.deck, .link] ∧ s.paired = true ∧ s.twin.contending = true ∧ s.bit F.TWIN_STAT_OWN_IN = false) ∧
  (let s : State := st [(F.TWIN_STAT_OWN_IN, 0, 0,
       1)] (({ twinOn with twin := { twinOn.twin with contending := true } } : State))
   s.serves [.deck, .link] ∧ s.paired = true ∧ s.twin.contending = true ∧ s.bit F.TWIN_STAT_OWN_IN = true ∧
   s.twinAlive = false) ∧
  (let s : State := st [(F.TWIN_STAT_OWN_IN, 0, 0,
       1)] (({ twinLinked with twin := { twinLinked.twin with contending := true } } : State))
   s.serves [.deck, .link] ∧ s.paired = true ∧ s.twin.contending = true ∧ s.bit F.TWIN_STAT_OWN_IN = true ∧ s.twinAlive = true) ∧
  (let s : State := st [(F.TWIN_STAT_OWN_IN, 0, 0,
       0)] judging
   let waiting := s.roleIs .standby = true ∧ s.running = true ∧ s.reached (s.spanCyc - 800) ∧ s.dbg.thawed = false
   s.serves [.deck, .link] ∧ s.paired = true ∧ waiting ∧ s.bit F.TWIN_STAT_OWN_IN = false) ∧
  (let s : State := st [(F.TWIN_STAT_OWN_IN, 0, 0,
       1)] judging
   let waiting := s.roleIs .standby = true ∧ s.running = true ∧ s.reached (s.spanCyc - 800) ∧ s.dbg.thawed = false
   s.serves [.deck, .link] ∧ s.paired = true ∧ waiting ∧ s.bit F.TWIN_STAT_OWN_IN = true ∧ s.heartbeatSeen = false ∧
   s.twinAlive = false ∧ s.dbg.relink = false) ∧
  (let s : State := st [(F.TWIN_STAT_ROLE, 0, 0, (Role.active).code), (F.SPAN_CTL_RUN, 0, 0, 1),
       (F.TWIN_STAT_OWN_OUT, 0, 0, 1)]
       (({ ({ twinLinked with twin := { twinLinked.twin with releaseAt := some 101 } } : State) with span := { (({ twinLinked with twin := { twinLinked.twin with releaseAt := some 101 } } : State)).span with phase := deckCycles run.sel - 400 } } : State))
   s.serves [.deck, .link] ∧ s.paired = true ∧ s.twin.releaseAt = some (s.frame + 1) ∧ s.roleIs .active = true ∧
   s.running = true ∧ s.reached (s.spanCyc - 800) ∧ s.twinAlive = true ∧ s.bit F.TWIN_STAT_OWN_OUT = true) ∧
  (let s : State := st [(F.TWIN_STAT_ROLE, 0, 0, (Role.standby).code), (F.SPAN_CTL_RUN, 0, 0, 1),
       (F.TWIN_STAT_DRIVING, 0, 0, 0)]
       (({ ({ twinLinked with twin := { twinLinked.twin with takeoverAt := some 101 } } : State) with span := { (({ twinLinked with twin := { twinLinked.twin with takeoverAt := some 101 } } : State)).span with phase := deckCycles run.sel - 400 } } : State))
   s.serves [.deck, .link] ∧ s.paired = true ∧ s.twin.takeoverAt = some (s.frame + 1) ∧ s.roleIs .standby = true ∧
   s.running = true ∧ s.reached (s.spanCyc - 400) ∧ s.driving = false ∧ s.rd F.TWIN_COUNT_TAKEOVERS < 255) ∧
  (let s : State := st [(F.TWIN_STAT_OWN_IN, 0, 0,
       1)] (({ st [(F.TWIN_STAT_ROLE, 0, 0, 3)] (({ twinLinked with twin := { twinLinked.twin with heartbeatFrame := some 100, mirrorComplete := true } } : State)) with span := { (st [(F.TWIN_STAT_ROLE, 0, 0, 3)] (({ twinLinked with twin := { twinLinked.twin with heartbeatFrame := some 100, mirrorComplete := true } } : State))).span with phase := deckCycles run.sel - 400 } } : State))
   let waiting := s.roleIs .standby = true ∧ s.running = true ∧ s.reached (s.spanCyc - 800) ∧ s.dbg.thawed = false
   s.serves [.deck, .link] ∧ s.paired = true ∧ waiting ∧ s.bit F.TWIN_STAT_OWN_IN = true ∧ s.spanComplete = true) := by
  refine ⟨?_, ?_, ?_, ?_, ?_, ?_, ?_, ?_, ?_, ?_, ?_, ?_, ?_⟩ <;> decide +kernel

end Sys2Proof.Tests
end

