-- ==== Sys2Proof/Tests/Witness4.lean ====
section
/-! SUPPORT. Witnesses, part 4: for every statement with hypotheses, states and operands that meet those of each clause. -/

namespace Sys2Proof.Tests

set_option Elab.async false

open Sys2Proof Sys2Proof.Machine

/-- Every clause of `TwinLink` is about some state. -/
theorem witness_TwinLink :
  (let s : State := st [(F.TWIN_STAT_ROLE, 0, 0, 3)] twinLinked
   let l : Fin 2 := 1
   let usable := s.isRetired 4 (2 + l.val) = false ∧ s.laneTested (2 + l.val) = false
   s.serves [.deck, .link] ∧ s.paired = true ∧ s.twinAlive = true ∧ s.roleIs .standby = true ∧
   s.span.phase + 800 < s.spanCyc ∧ (s.roleIs .active = true ∨ s.roleIs .standby = true) ∧
   (∀ n < 24, s.activeCrc n = s.partnerCrc n) ∧ s.bit (laneFld (1 - l.val)) = true ∧ usable ∧ s.roleIs .linkfault = false ∧
   (s.roleIs .standby = false ∨ s.twinAlive = true) ∧ s.treIs .off = true) ∧
  (let s : State := st [(F.TWIN_STAT_ROLE, 0, 0, (Role.active).code), (F.TWIN_STAT_SYNC, 0, 0,
       1)] (st [(F.TWIN_REL_FRAME_LO, 0, 0, 104)] twinLinked)
   let l : Fin 2 := 0
   let r := s.rd48 F.TWIN_REL_FRAME_LO F.TWIN_REL_FRAME_HI
   s.serves [.deck, .link] ∧ s.paired = true ∧ s.roleIs .active = true ∧ s.bit F.TWIN_STAT_SYNC = true ∧ s.frame + 4 ≤ r ∧
   s.bit (laneFld l) = true ∧ s.bit (laneFld (1 - l.val)) = false) ∧
  (let s : State := st [(F.TWIN_STAT_ROLE, 0, 0, 3)] twinOn
   let l : Fin 2 := 1
   let usable := s.isRetired 4 (2 + l.val) = false ∧ s.laneTested (2 + l.val) = false
   s.serves [.deck, .link] ∧ s.paired = true ∧ usable ∧ s.roleIs .standby = true ∧ s.twinAlive = false ∧
   s.bit F.TWIN_STAT_SYNC = false ∧ s.twin.aligning = false) ∧
  (let s : State := st [(F.TWIN_STAT_ROLE, 0, 0, 4)] twinOn
   let l : Fin 2 := 1
   let usable := s.isRetired 4 (2 + l.val) = false ∧ s.laneTested (2 + l.val) = false
   s.serves [.deck, .link] ∧ s.paired = true ∧ usable ∧ s.roleIs .linkfault = true) ∧
  (let s : State := st [(F.HEALTH_RET_LANE, 0, 0, 15)] twinLinked
   let l : Fin 2 := 1
   let usable := s.isRetired 4 (2 + l.val) = false ∧ s.laneTested (2 + l.val) = false
   s.serves [.deck, .link] ∧ s.paired = true ∧ ¬ usable) ∧
  (let s : State := st [(F.TWIN_STAT_ROLE, 0, 0, (Role.active).code), (F.TWIN_STAT_SYNC, 0, 0, 0)] twinOn
   let r := s.rd48 F.TWIN_REL_FRAME_LO F.TWIN_REL_FRAME_HI
   s.serves [.deck, .link] ∧ s.paired = true ∧ s.roleIs .active = true ∧ (s.bit F.TWIN_STAT_SYNC = false ∨ r < s.frame + 4)) ∧
  (let s : State := ({ twinLinked with twin := { twinLinked.twin with releaseAt := some 102 } } : State)
   s.serves [.deck, .link] ∧ s.paired = true ∧
   (let r' : Nat := 102
    s.twin.releaseAt = some r' ∧ s.frame + 1 < r')) ∧
  (let s : State := ({ twinLinked with twin := { twinLinked.twin with releaseAt := some 101 } } : State)
   s.serves [.deck, .link] ∧ s.paired = true ∧
   (let r' : Nat := 101
    s.twin.releaseAt = some r' ∧ r' ≤ s.frame + 1)) ∧
  (let s : State := (({ twinLinked with twin := { twinLinked.twin with aligning := true } } : State))
   s.serves [.deck, .link] ∧ s.paired = true ∧ s.twin.aligning = true) := by
  refine ⟨?_, ?_, ?_, ?_, ?_, ?_, ?_, ?_, ?_⟩ <;> decide +kernel

/-- Every clause of `TrestleRing` is about some state. -/
theorem witness_TrestleRing :
  (let s : State := st [(F.TRESTLE_STAT_STATE, 0, 0, 4), (F.TRESTLE_PORT_STAT_LINK, 1, 0, 2),
       (F.TRESTLE_PORT_STAT_LINK, 0, 0, 2)] ringOn
   let p : Fin 2 := 1
   s.serves [.deck, .link] ∧ s.rd F.TRESTLE_PORT_STAT_LINK p ≠ 0 ∧ s.inRing = true ∧
   (s.portUp 0 = true ∨ s.portUp 1 = true) ∧ s.treIs .run = true ∧
   (let m : Member := { id := 55, uid := Config.uid, elig := true, hopE := 0, req := 3 }
    m.id = s.devId ∧ m.uid = Config.uid) ∧
   (let f : PubFrame := ({ port := 1, launcher := 56, pub := 56, commit := 102, late := false, origin := 100, count :=
                           1, hops := 0, body := updateBytes someUpdate, crcOk := false } : PubFrame)
    s.portUp f.port = true ∧ f.crcOk = false) ∧
   (let f : PubFrame := ({ port := 1, launcher := 56, pub := 56, commit := 102, late := false, origin := 100, count :=
                           1, hops := 0, body := updateBytes someUpdate, crcOk := true } : PubFrame)
    let u : Update := someUpdate
    s.portUp f.port = true ∧ f.crcOk = true ∧ f.launcher ≠ s.devId ∧ frameUpdates f = [u] ∧
    s.tre.known.contains (f.launcher, u.origin, u.seq) = false ∧ s.frame + 1 < f.commit) ∧
   (let f : PubFrame := ({ port := 1, launcher := 55, pub := 56, commit := 102, late := false, origin := 100, count :=
                           1, hops := 0, body := updateBytes someUpdate, crcOk := true } : PubFrame)
    s.portUp f.port = true ∧ f.crcOk = true ∧ f.launcher = s.devId)) ∧
  (let s : State := ({ st [(F.TRESTLE_STAT_STATE, 0, 0, 2), (F.TRESTLE_PORT_STAT_LINK, 1, 0, 2)] ringOn with tre := { ringOn.tre with sameSpans := 4, candidate := some 54 } } : State)
   s.serves [.deck, .link] ∧ 4 ≤ s.tre.sameSpans ∧ (s.treIs .elect = true ∨ s.treIs .holdover = true) ∧ s.publishes = false ∧
   (let c : Nat := 54
    s.tre.candidate = some c ∧ c < 65536)) ∧
  (let s : State := st [(F.TRESTLE_STAT_STATE, 0, 0,
       (TreState.joining).code)] (({ st [(F.TRESTLE_STAT_STATE, 0, 0, 3), (F.TRESTLE_PORT_STAT_LINK, 1, 0, 2), (F.TRESTLE_MASTER_ID, 0, 0, 3)] ringOn with tre := { ringOn.tre with lockedSpans := 8 } } : State))
   let p : Fin 2 := 1
   let up := s.bit F.TRESTLE_STAT_MASTER
   s.serves [.deck, .link] ∧ s.treIs .joining = true ∧ (up = true ∨ 8 ≤ s.tre.lockedSpans) ∧ s.portUp p = true ∧
   (s.treIs .joining = true ∨ s.treIs .run = true ∨ s.treIs .holdover = true) ∧ up = false ∧ s.tre.markerSeen = false ∧
   (let k : Marker := someMarker
    k.master = s.rd F.TRESTLE_MASTER_ID)) ∧
  (let s : State := st [(F.TRESTLE_PORT_STAT_LINK, 1, 0, 1)] ringOn
   let p : Fin 2 := 1
   s.serves [.deck, .link] ∧ s.rd F.TRESTLE_PORT_STAT_LINK p = 1 ∧ s.treIs .training = false) ∧
  (let s : State := st [(F.TRESTLE_STAT_STATE, 0, 0, (TreState.training).code)] ringOn
   s.serves [.deck, .link] ∧ s.treIs .training = true ∧ s.portUp 0 = false ∧ s.portUp 1 = false) ∧
  (let s : State := st [(F.TRESTLE_PORT_STAT_LINK, 1, 0, 0)] (st [(F.TRESTLE_STAT_STATE, 0, 0, 1)] ringOn)
   let p : Fin 2 := 1
   s.serves [.deck, .link] ∧ s.inRing = true ∧ s.rd F.TRESTLE_PORT_STAT_LINK p = 0 ∧ s.isRetired 4 p = false ∧
   s.laneTested p = false) ∧
  (let s : State := st [(F.TRESTLE_PORT_STAT_LINK, 1, 0, 1), (F.TRESTLE_STAT_STATE, 0, 0, (TreState.training).code)] ringOn
   let p : Fin 2 := 1
   s.serves [.deck, .link] ∧ s.rd F.TRESTLE_PORT_STAT_LINK p = 1 ∧ s.treIs .training = true) ∧
  (let s : State := st [(F.TRESTLE_STAT_STATE, 0, 0, 4), (F.TRESTLE_PORT_STAT_LINK, 1, 0, 2),
       (F.TRESTLE_PORT_STAT_LINK, 0, 0, 2)] ringOn
   s.serves [.deck, .link] ∧ s.inRing = true ∧ (s.portUp 0 = true ∨ s.portUp 1 = true) ∧
   (let m : Member := { id := 55, uid := Config.uid + 1, elig := true, hopE := 0, req := 3 }
    m.id = s.devId ∧ m.uid ≠ Config.uid)) ∧
  (let s : State := st [(F.TRESTLE_STAT_STATE, 0, 0, (TreState.run).code)] (st [(F.TRESTLE_STAT_STATE, 0, 0, 4),
       (F.TRESTLE_PORT_STAT_LINK, 1, 0, 2), (F.TRESTLE_PORT_STAT_LINK, 0, 0, 2)] ringOn)
   s.serves [.deck, .link] ∧ s.inRing = true ∧ (s.portUp 0 = true ∨ s.portUp 1 = true) ∧ s.treIs .run = true ∧
   (let m : Member := { id := 54, uid := Config.uid + 1, elig := true, hopE := 0, req := 3 }
    m.id ≠ s.devId)) ∧
  (let s : State := ({ st [(F.TRESTLE_STAT_STATE, 0, 0, 4), (F.TRESTLE_PORT_STAT_LINK, 1, 0, 2), (F.TRESTLE_PORT_STAT_LINK, 0, 0, 2)] ringOn with tre := { ringOn.tre with known := [(56, 100, 2)] } } : State)
   s.serves [.deck, .link] ∧ s.inRing = true ∧ s.treIs .run = true ∧
   (let f : PubFrame := ({ port := 1, launcher := 56, pub := 56, commit := 102, late := false, origin := 100, count :=
                           1, hops := 0, body := updateBytes someUpdate, crcOk := true } : PubFrame)
    let u : Update := someUpdate
    s.portUp f.port = true ∧ f.crcOk = true ∧ f.launcher ≠ s.devId ∧ frameUpdates f = [u] ∧
    s.tre.known.contains (f.launcher, u.origin, u.seq) = true)) ∧
  (let s : State := st [(F.TRESTLE_STAT_STATE, 0, 0,
       (TreState.joining).code)] (({ st [(F.TRESTLE_STAT_STATE, 0, 0, 2), (F.TRESTLE_PORT_STAT_LINK, 1, 0, 2)] ringOn with tre := { ringOn.tre with candidate := some 54, sameSpans := 4 } } : State))
   s.serves [.deck, .link] ∧ 4 ≤ s.tre.sameSpans ∧ (s.treIs .joining = true ∨ s.treIs .run = true) ∧
   (let c : Nat := 54
    s.tre.candidate = some c ∧ c < 65536 ∧ s.rd F.TRESTLE_MASTER_ID ≠ c)) ∧
  (let s : State := st [(F.TRESTLE_STAT_STATE, 0, 0,
       (TreState.joining).code)] (({ st [(F.TRESTLE_STAT_STATE, 0, 0, 4), (F.TRESTLE_PORT_STAT_LINK, 1, 0, 2), (F.TRESTLE_PORT_STAT_LINK, 0, 0, 2), (F.TRESTLE_MASTER_ID, 0, 0, 56)] ringOn with tre := { ringOn.tre with markerMisses := 3, members := [({ id := 56, uid := 9, elig := true, hopE := 0, req := 3 } : Member)] } } : State))
   let up := s.bit F.TRESTLE_STAT_MASTER
   s.serves [.deck, .link] ∧ (s.treIs .joining = true ∨ s.treIs .run = true) ∧ up = false ∧ 3 ≤ s.tre.markerMisses) ∧
  (let s : State := ({ st [(F.TRESTLE_STAT_STATE, 0, 0, 4), (F.TRESTLE_PORT_STAT_LINK, 1, 0, 2), (F.TRESTLE_PORT_STAT_LINK, 0, 0, 2), (F.TRESTLE_QUOTA_GRANT, 0, 0, 2)] ringOn with tre := { ringOn.tre with waiting := [someUpdate, someUpdate] } } : State)
   s.serves [.deck, .link] ∧ s.running = true ∧ s.publishes = true ∧ s.quotaUsed s.frame < s.rd F.TRESTLE_QUOTA_GRANT ∧
   (let u : Update := someUpdate
    let us : List Update := [someUpdate]
    s.tre.waiting = u :: us)) ∧
  (let s : State := ({ st [(F.TRESTLE_STAT_STATE, 0, 0, 4), (F.TRESTLE_PORT_STAT_LINK, 1, 0, 2), (F.TRESTLE_PORT_STAT_LINK, 0, 0, 2), (F.TRESTLE_QUOTA_GRANT, 0, 0, 2)] ringOn with tre := { ringOn.tre with waiting := [someUpdate, someUpdate], used := [(100, 2)] } } : State)
   s.serves [.deck, .link] ∧ s.running = true ∧ s.publishes = true ∧ s.rd F.TRESTLE_QUOTA_GRANT ≤ s.quotaUsed s.frame ∧
   (let u : Update := someUpdate
    let us : List Update := [someUpdate]
    s.tre.waiting = u :: us)) := by
  repeat' first
    | decide +kernel
    | exact rfl
    | exact Nat.succ_ne_self _
    | apply And.intro

/-- Every clause of `KeystoneTime` is about some state. -/
theorem witness_KeystoneTime :
  (let s : State := ({ run with keep := { run.keep with shadows := [(initCode .host, ⟨2^40+5, 2, 3⟩)] } } : State)
   let i : Initiator := .host
   let b : Bool := true
   let w : Fin 32 := 1
   let trim : BitVec 10 := 1
   let reach := s.alive = true ∧ s.joint = true
   s.bit F.KEEP_STAT_ON_VBAT ≠ b ∧ Sparse.find? s.keep.shadows (initCode i) ≠ none ∧
   s.keep.expired.contains (initCode i) = false ∧ reach ∧
   (s.bit F.KEEP_STAT_LOSS = false ∨ s.bit F.KEEP_STAT_TIME_OK = false) ∧ w.val < 12 ∧
   (s.domOn .meter = false ∨ s.bit F.METER_PF_CTL_BLK_EN = true) ∧ trim ≠ 0x200 ∧ s.posted = [] ∧
   hasShadow (initCode i) = true ∧
   (let sh : Shadow := ⟨2^40+5, 2, 3⟩
    Sparse.find? s.keep.shadows (initCode i) = some sh) ∧
   (let sh : Shadow := ⟨2^40+5, 2, 3⟩
    Sparse.find? s.keep.shadows (initCode i) = some sh)) ∧
  (let s : State := run
   (let w : Fin 32 := 12
    let trim : BitVec 10 := 0x200
    let reach := s.alive = true ∧ s.joint = true
    reach ∧ 12 ≤ w.val ∧ w.val < 16 ∧ trim = 0x200) ∧
   (let w : Fin 32 := 31
    let reach := s.alive = true ∧ s.joint = true
    reach ∧ 16 ≤ w.val)) ∧
  (let s : State := st [(F.METER_PF_CTL_BLK_EN, 0, 0, 0)] run
   let w : Fin 32 := 0
   let reach := s.alive = true ∧ s.joint = true
   reach ∧ w.val < 12 ∧ s.domOn .meter = true ∧ s.bit F.METER_PF_CTL_BLK_EN = false) ∧
  (let s : State := st [(F.KEEP_STAT_LOSS, 0, 0, 1), (F.KEEP_STAT_TIME_OK, 0, 0, 1)] run
   let reach := s.alive = true ∧ s.joint = true
   reach ∧ s.bit F.KEEP_STAT_LOSS = true ∧ s.bit F.KEEP_STAT_TIME_OK = true) ∧
  (let s : State := (({ st [(F.KEEP_STAT_PENDING, 0, 0, 1), (F.METER_PF_CTL_BLK_EN, 0, 0, 1)] run with keep := { run.keep with wakeLeft := some 3 } } : State))
   s.keep.wakeLeft ≠ none) ∧
  (let s : State := (({ run with keep := { run.keep with validate := true } } : State))
   s.keep.frozen = false ∧ s.keep.cmd = none ∧ s.keep.catchUp = false ∧ s.keep.validate = true) ∧
  (let s : State := (({ run with keep := { run.keep with frozen := true, hidden := 3 } } : State))
   s.keep.frozen = true) ∧
  (let s : State := (({ run with keep := { run.keep with catchUp := true, hidden := 3 } } : State))
   s.keep.frozen = false ∧ s.keep.catchUp = true ∧ s.keep.cmd = none) ∧
  (let s : State := keepPending
   s.keep.frozen = false ∧ s.keep.catchUp = false ∧ s.bit F.KEEP_STAT_PENDING = true ∧
   (let c : KeepCmd := someKeepCmd
    s.keep.cmd = some c)) ∧
  (let s : State := keepThawing
   s.keep.frozen = false ∧ s.keep.catchUp = true ∧ s.bit F.KEEP_STAT_PENDING = true ∧
   (let c : KeepCmd := someKeepCmd
    let cmd : Instr := .commitEdge
    (cmd = .commitEdge ∨ cmd = .thawCatchup ∨ cmd = .ckLfEdge) ∧ s.keep.cmd = some c)) := by
  refine ⟨?_, ?_, ?_, ?_, ?_, ?_, ?_, ?_, ?_, ?_⟩ <;> decide +kernel

/-- Every clause of `RecorderCommands` is about some state. -/
theorem witness_RecorderCommands :
  (let s : State := ({ st [(F.EVR_STAT_RUNNING, 0, 0, 1)] run with evr := { run.evr with queue := [] } } : State)
       |>.setBucket 0x505 { missing := 2, refill := 3000 }
   let n : Fin 4 := 1
   let v : Word := 5
   let i : Initiator := .host
   let head := s.rd F.EVR_HEAD
   let tail := s.rd F.EVR_TAIL
   let ack := s.rd F.EVR_CUR_ACK n
   s.serves [.deck] ∧ s.bit F.EVR_STAT_RUNNING = true ∧ s.evr.winArmed.contains n.val = false ∧
   seqDist tail head < seqDist tail v.toNat ∧ (s.mayAck n = false ∨ seqDist ack head < seqDist ack v.toNat) ∧
   (i = .host ∨ i = .net) ∧ s.evr.clr = none ∧
   (let code : BitVec 12 := 0x505
    (s.bucket code.toNat).missing ≠ 0 ∧ max 1 (s.evrField F.EVR_CODE_B_P code.toNat) ≤ (s.bucket code.toNat).refill ∧
    (s.bucket code.toNat).supp = 0)) ∧
  (let s : State := (({ st [(F.EVR_STAT_RUNNING, 0, 0, 1), (F.EVR_HEAD, 0, 0, 5), (F.EVR_TAIL, 0, 0, 2), (F.EVR_CUR_POS, 1, 0, 4), (F.EVR_CUR_ACK, 1, 0, 2)] run with evr := { run.evr with winArmed := [1, 3] } } : State))
   let n : Fin 4 := 1
   let v : Word := 2
   let i : Initiator := .trestle
   let head := s.rd F.EVR_HEAD
   let tail := s.rd F.EVR_TAIL
   let ack := s.rd F.EVR_CUR_ACK n
   s.serves [.deck] ∧ seqDist tail v.toNat ≤ seqDist tail head ∧ s.mayAck n = true ∧ seqDist ack v.toNat ≤ seqDist ack head ∧
   i ≠ .host ∧ i ≠ .net) ∧
  (let s : State := st [(F.EVR_CUR_CFG_AUTOADV, 1, 0,
       1)] (({ st [(F.EVR_STAT_RUNNING, 0, 0, 1), (F.EVR_HEAD, 0, 0, 5), (F.EVR_CUR_POS, 1, 0, 4)] run with evr := { run.evr with winArmed := [1, 3] } } : State))
   let n : Fin 4 := 1
   let head := s.rd F.EVR_HEAD
   let pos := s.rd F.EVR_CUR_POS n
   s.serves [.deck] ∧ s.evr.winArmed.contains n.val = true ∧ s.bit F.EVR_CUR_CFG_AUTOADV n = true ∧ pos ≠ head) ∧
  (let s : State := st [(F.EVR_STAT_RUNNING, 0, 0,
       1)] (({ st [(F.EVR_STAT_RUNNING, 0, 0, 1), (F.EVR_HEAD, 0, 0, 7), (F.EVR_TAIL, 0, 0, 2)] run with evr := { run.evr with clr := some (initCode .host) } } : State))
   let i : Initiator := .host
   s.serves [.deck] ∧ (i = .host ∨ i = .net) ∧ s.evr.clr = some (initCode i) ∧ s.roleIs .standby = false ∧
   s.bit F.EVR_STAT_RUNNING = true ∧ s.evr.queue = [] ∧ s.evrField F.EVR_CODE_A_EN 2 ≠ 0 ∧
   (s.bucket 2).missing < s.evrField F.EVR_CODE_B_BURST 2 ∧ (s.bucket 2).supp = 0) ∧
  (let s : State := ({ st [(F.EVR_STAT_RUNNING, 0, 0, 1), (F.EVR_HEAD, 0, 0, 2^32-1), (F.EVR_TAIL, 0, 0, 2^32-32768)] run with evr := { run.evr with queue := [someEvent] } } : State)
   let head := s.rd F.EVR_HEAD
   let tail := s.rd F.EVR_TAIL
   s.serves [.deck] ∧ s.bit F.EVR_STAT_RUNNING = true ∧ seqDist tail head ≠ 32768 ∧ s.bit F.TWIN_CTL_EN = false ∧
   (let e : EvtEntry := someEvent
    let q : List EvtEntry := []
    s.evr.queue = e :: q ∧ e.words.length ≤ 24)) ∧
  (let s : State := ({ st [(F.EVR_STAT_RUNNING, 0, 0, 1), (F.EVR_HEAD, 0, 0, 5), (F.EVR_TAIL, 0, 0, 2^32-32763), (F.EVR_CTL_POLICY, 0, 0, 1)] run with evr := { run.evr with queue := [someEvent] } } : State)
   let head := s.rd F.EVR_HEAD
   let tail := s.rd F.EVR_TAIL
   s.serves [.deck] ∧ s.bit F.EVR_STAT_RUNNING = true ∧ seqDist tail head = 32768 ∧ s.bit F.EVR_CTL_POLICY = true ∧
   s.roleIs .standby = false ∧
   (let e : EvtEntry := someEvent
    let q : List EvtEntry := []
    s.evr.queue = e :: q ∧ e.summary = false)) := by
  refine ⟨?_, ?_, ?_, ?_, ?_, ?_⟩ <;> decide +kernel

/-- Every clause of `HealthCommands` is about some state. -/
theorem witness_HealthCommands :
  (let s : State := run
   let d : Word := 5
   let warn := d.toNat % 256
   let thr := d.toNat / 256 % 256
   let shut := d.toNat / 65536 % 256
   let good := warn ≤ 105 ∧ thr ≤ 115 ∧ shut ≤ 125 ∧ warn < thr ∧ thr < shut
   s.serves [] ∧ s.rd F.HEALTH_THERM_STAT_LEVEL ≠ 3 ∧ ¬ good ∧ s.frame % 32 < 27 ∧ s.domOn .link = true ∧
   s.testsBusy 4 = false ∧ testsOf s.health.queued 4 = [] ∧ s.health.due = [] ∧
   (let i : Initiator := .net
    let unit : BitVec 15 := 16
    unit.toNat < 17 ∧ s.isRetired 2 unit.toNat = false ∧ (i = .host ∨ i = .net)) ∧
   (let i : Initiator := .trestle
    let unit : BitVec 15 := 16
    unit.toNat < 17 ∧ s.isRetired 2 unit.toNat = false ∧ i ≠ .host ∧ i ≠ .net) ∧
   (let l : Fin 4 := 0
    s.isRetired 4 l = false)) ∧
  (let s : State := { run with health := { run.health with running := [(2, 16)] } }
   s.serves [] ∧ s.health.due = [] ∧ s.health.track.length < 64 ∧ 1 ≤ s.rd F.HEALTH_CLASS_CFG_LIMIT 2 ∧
   (let u : Nat := 16
    let rest : List (Nat × Nat) := []
    testsOf s.health.running 2 = (2, u) :: rest ∧ u < 17 ∧ s.isRetired 2 u = false) ∧
   (let u : Nat := 16
    let rest : List (Nat × Nat) := []
    testsOf s.health.running 2 = (2, u) :: rest ∧ u < 17 ∧ s.isRetired 2 u = false ∧ s.trackOf 2 u = none)) ∧
  (let s : State := st [(F.HEALTH_THERM_STAT_LEVEL, 0, 0, 3)] run
   s.serves [] ∧ s.rd F.HEALTH_THERM_STAT_LEVEL = 3) ∧
  (let s : State := { run with health := { run.health with queued := [(3, 9), (3, 11), (2, 4)] } }
   s.serves [] ∧
   (let cls : Fin 5 := 3
    let u : Nat × Nat := (3, 9)
    let us : List (Nat × Nat) := [(3, 11)]
    s.testsBusy cls = false ∧ testsOf s.health.queued cls = u :: us ∧ us.length < 8 ∧
    testsOf (s.health.queued.filter (· != u)) cls = us)) ∧
  (let s : State := st [(F.CONV_CAL_STAT_PERM, 0, 0, 1), (F.HEALTH_STAT_CALDRIFT, 0, 0, 0)] run
   s.serves [] ∧ s.bit F.CONV_CAL_STAT_PERM = true ∧ s.bit F.HEALTH_STAT_CALDRIFT = false) ∧
  (let s : State := st [(F.HEALTH_THERM_STAT_LEVEL, 0, 0, 1), (F.TWIN_CTL_EN, 0, 0, 1)] run
   let d : Word := 0x7D7369
   let warn := d.toNat % 256
   let thr := d.toNat / 256 % 256
   let shut := d.toNat / 65536 % 256
   let good := warn ≤ 105 ∧ thr ≤ 115 ∧ shut ≤ 125 ∧ warn < thr ∧ thr < shut
   s.serves [] ∧ good) ∧
  (let s : State := { run with span := { run.span with frame := 123 } , health :=
                               { run.health with track := [⟨2, 5, 1, 0⟩, ⟨1, 7, 3, 50⟩] } }
   s.serves [] ∧ 27 ≤ s.frame % 32) := by
  refine ⟨?_, ?_, ?_, ?_, ?_, ?_, ?_⟩ <;> decide +kernel

/-- Every clause of `ResetCauses` is about some state. -/
theorem witness_ResetCauses :
  (let s : State := st [(F.SYS_WDOG_CTL_EN, 0, 0, 1), (F.SYS_RST_CTL, 0, 0, 1), (F.TWIN_STAT_DRIVING, 0, 0,
       0)] { run with span := { run.span with misses := 1 }, deck := [(5, 3)] }
   let a : Fin 64 := 1
   let b : Fin 64 := 1
   let ls : List (Fin 64) := []
   let key : Word := 1
   let boot : BitVec 2 := 1
   let pref : Bool := true
   let rows : List (Instr × Nat × RstPhase × Bool) := [ (.porAssert, 0, .asserted, true),
       (.rstPin boot pref, 1, .cleared, true), (.wdogExpiry, 2, .cleared,
       s.alive && s.bit F.SYS_WDOG_CTL_EN && !s.dbg.frozen), (.wdogKick key, 2, .cleared,
       s.alive && s.bit F.SYS_WDOG_CTL_EN && key != 0x5AFE), (.twinResetOrder, 3, .cleared,
       s.alive && s.domOn .deck && s.domOn .link && s.bit F.SYS_RST_CTL && !s.driving), (.softReset, 4, .cleared, s.alive),
       (.jointFrame (a :: b :: ls), 5, .cleared, s.alive && s.joint), (.jointSilence, 5, .cleared, s.alive && s.joint),
       (.bearMarkerMiss, 5, .cleared, s.alive && s.joint && s.running && s.span.misses == 1),
       (.pllLockLoss .pllD, 6, .cleared, true), (.pllLockLoss .pllB, 6, .cleared, true)]
   (∀ row ∈ rows, row.2.2.2 = true ∧ s.power.rst = .running)) := by decide +kernel

/-- Every clause of `ResetControl` is about some state. -/
theorem witness_ResetControl :
  (let s : State := run
   s.power.rst ≠ .asserted ∧ s.serves [] ∧ s.atStep .build = false) ∧
  (let s : State := st [(F.SYS_RST_CTL, 0, 0, 0)] run
   s.serves [.deck, .link] ∧ s.bit F.SYS_RST_CTL = false) ∧
  (let s : State := st [(F.SYS_JOINT_STAT_LINK_UP, 0, 0, 1)] run
   s.serves [] ∧ s.joint = true) ∧
  (let s : State := { run with power := { run.power with rst := .asserted } }
   s.power.rst = .asserted) := by
  refine ⟨?_, ?_, ?_, ?_⟩ <;> decide +kernel

/-- Every clause of `BuildAndBoot` is about some state. -/
theorem witness_BuildAndBoot :
  (let s : State := st [(F.SYS_START_STAT_STEP, 0, 0, 1), (F.SYS_BOOT_STAT_STATE, 0, 0, BootState.loading.code),
       (F.SYS_BOOT_STAT_PINS, 0, 0, 3), (F.PIERCTL_PIER_BPSAVE, 0, 0, 0x1900000/64)] { up with power := up.power }
   (let ma : List Byte := []
    let mb : List Byte := [1]
    let pins := s.rd F.SYS_BOOT_STAT_PINS
    s.serves [.deck] ∧ s.xspiBooting = true ∧ s.power.manifests = [] ∧ pins = 3 ∧ s.serves [] ∧ s.sources = 0 ∧
    s.dbg.frozen = false ∧
    (let a : Nat := 1
     let b : Nat := 1
     manifestFault (ma.take 64) = some a ∧ manifestFault (mb.take 64) = some b)) ∧
   (let ma : List Byte := bootManifestBytes
    let mb : List Byte := [1]
    s.serves [.deck] ∧ s.xspiBooting = true ∧ s.power.manifests = [] ∧ s.power.tried = [] ∧
    manifestFault (ma.take 64) = none ∧ (manifestFault (mb.take 64)).isSome = true)) ∧
  (let s : State := st [(F.SYS_PLL_STAT_PLL_B_LOCK, 0, 0, 0)] up
   s.serves [] ∧ s.power.rst = .running ∧ s.atStep .build = true ∧ s.pllsLocked = false ∧ s.joint = true ∧ s.goodCores ≠ []) ∧
  (let s : State := st [(F.SYS_JOINT_STAT_LINK_UP, 0, 0, 0)] { up with power := { up.power with rst := .cleared } }
   s.power.rst = .cleared ∧ s.atStep .build = true ∧ s.joint = false) ∧
  (let s : State := st [(F.SYS_START_STAT_STEP, 0, 0, (Step.boot).code), (F.SYS_BOOT_STAT_STATE, 0, 0,
       (BootState.waitHost).code)] run
   let m := s.dBytes bootManifest 64
   s.serves [.deck] ∧ s.atStep .boot = true ∧ s.bootIs .waitHost = true ∧
   (let r : Nat := 1
    manifestFault m = some r ∧ r < 16)) ∧
  (let s : State := st [(F.SYS_START_STAT_STEP, 0, 0, 1), (F.SYS_BOOT_STAT_STATE, 0, 0, BootState.loading.code),
       (F.SYS_BOOT_STAT_PINS, 0, 0, 3), (F.PIERCTL_PIER_BPSAVE, 0, 0,
       0x1900000/64)] { up with power := { up.power with manifests := [bootManifestBytes, []], tried := [0] } }
   let image : List Byte := bootBytes
   s.serves [.deck] ∧ s.xspiBooting = true ∧
   (let k : Nat := 0
    let man := s.power.manifests.getD k []
    let len := manWord man 8
    let copied := s.setDBytes bootImage ((image ++ List.replicate (len - image.length) 0).take len)
    s.power.tried.getLast? = some k ∧ (copied.bootCheck man).2 = none)) ∧
  (let s : State := ((st [(F.SYS_START_STAT_STEP, 0, 0, 1), (F.SYS_BOOT_STAT_STATE, 0, 0, BootState.waitHost.code),
       (F.SYS_BOOT_STAT_PINS, 0, 0, 1), (F.PIERCTL_PIER_BPSAVE, 0, 0,
       0x1900000/64)] { up with power := up.power }).setDBytes bootImage bootBytes).setDBytes bootManifest bootManifestBytes
   let m := s.dBytes bootManifest 64
   s.serves [.deck] ∧ s.atStep .boot = true ∧ s.bootIs .waitHost = true ∧ manifestFault m = none ∧ (s.bootCheck m).2 = none) := by
  refine ⟨?_, ?_, ?_, ?_, ?_, ?_⟩ <;> decide +kernel

/-- Every clause of `PowerDomains` is about some state. -/
theorem witness_PowerDomains :
  (let s : State := st [(F.SYS_PD_CTL_ON, 0, 0, 0x3F3), (F.SYS_PD_STAT_IS_ON, 0, 0, 0x3F3)] up
   let d : Fin 10 := 2
   let on : Bool := true
   let map : BitVec 10 := 0x3F7#10
   let dom := domOf d
   let alone := ∀ k < 10, map.toNat.testBit k = if k = d.val then on else s.mapBit F.SYS_PD_CTL_ON k
   s.serves [] ∧ alone ∧ s.mapBit F.SYS_PD_CTL_ON d = !on ∧ s.mapBit F.SYS_PD_STAT_BUSY d = false ∧
   (on = true ∨ s.offRefusal dom = 0)) ∧
  (let s : State := st [(F.SYS_PD_CTL_ON, 0, 0, 0x3FF), (F.SYS_PD_STAT_IS_ON, 0, 0, 0x3FF)] up
   let d : Fin 10 := 2
   let on : Bool := false
   let map : BitVec 10 := 1019#10
   let dom := domOf d
   let alone := ∀ k < 10, map.toNat.testBit k = if k = d.val then on else s.mapBit F.SYS_PD_CTL_ON k
   s.serves [] ∧ alone ∧ s.mapBit F.SYS_PD_CTL_ON d = !on ∧ (s.mapBit F.SYS_PD_STAT_BUSY d = true ∨ on = false ∧
   s.offRefusal dom ≠ 0)) ∧
  (let s : State := { st [(F.SYS_PD_CTL_ON, 0, 0, 0x3FF), (F.SYS_PD_STAT_BUSY, 0, 0, 0x3FF)] run with power := { run.power with switching := [(9, true), (0, true)] }, deck := [(5, 3)] }
   let d : Fin 10 := 0
   s.serves [] ∧ (s.power.switching.find? fun x => x.1 == d.val) = some (d.val, true)) ∧
  (let s : State := { st [(F.SYS_PD_CTL_ON, 0, 0, 0x3FF), (F.SYS_PD_STAT_BUSY, 0, 0, 0x3FF)] run with power := { run.power with switching := [(9, true), (0, false)] }, deck := [(5, 3)] }
   let d : Fin 10 := 0
   s.serves [] ∧ (s.power.switching.find? fun x => x.1 == d.val) = some (d.val, false)) := by
  refine ⟨?_, ?_, ?_, ?_⟩ <;> decide +kernel

/-- Every clause of `BusAndDeck` is about some state. -/
theorem witness_BusAndDeck :
  (let s : State := st [(F.SPAN_STAT_WINDOW, 0, 0, Win.commit.code)] run
   (let i : Initiator := .host
    let addr : Word := 0x1900003#32
    let a := addr.toNat
    s.serves [] ∧ s.ctlAccess i a ≠ .ok ∧ s.posted = [] ∧ onBearing a = false ∧ notPier i = true ∧ deckRamBase ≤ a ∧
    (let len : Nat := 9
     s.busWaits i (.read addr len) = false ∧ s.deckReadOk i a len = true ∧ s.eccClean a len = true) ∧
    (let len : Nat := 9
     s.busWaits i (.read addr len) = false ∧ s.deckReadOk i a len = true) ∧
    (let bs : List Byte := [1, 2, 3, 4, 5, 6, 7, 8, 0, 0, 0, 0, 0, 0, 0, 0, 5, 5].take 9
     let clean := ∀ q ∈ partQuarters a bs.length, s.eccClean q 8 = true
     s.busWaits i (.write addr bs) = false ∧ s.deckWriteOk i a bs.length = true ∧ clean) ∧
    (let bs : List Byte := [1, 2, 3, 4, 5, 6, 7, 8, 0, 0, 0, 0, 0, 0, 0, 0, 5, 5].take 9
     s.busWaits i (.write addr bs) = false ∧ s.deckWriteOk i a bs.length = true)) ∧
   (let i : Initiator := .host
    let addr : Word := 0xFFFFFFFF#32
    let a := addr.toNat
    s.serves [] ∧ notPier i = true ∧
    (let len : Nat := 4
     s.busWaits i (.read addr len) = false ∧ s.deckReadOk i a len = false) ∧
    (let bs : List Byte := [1, 2, 3, 4, 5, 6, 7, 8, 0, 0, 0, 0, 0, 0, 0, 0, 5, 5].take 4
     s.busWaits i (.write addr bs) = false ∧ s.deckWriteOk i a bs.length = false)) ∧
   (let i : Initiator := .host
    s.serves [] ∧ notPier i = true ∧
    (let req : DeckReq := .read 0x00900000#32 8
     s.busWaits i req = true)) ∧
   (let i : Initiator := .pier 3
    s.serves [] ∧ notPier i = false) ∧
   (let i : Initiator := .pointEngine
    let addr : Word := 0x00300000#32
    let a := addr.toNat
    s.serves [] ∧ notPier i = true ∧ a < deckRamBase ∧
    (let bs : List Byte := [1, 2, 3, 4, 5, 6, 7, 8, 0, 0, 0, 0, 0, 0, 0, 0, 5, 5].take 4
     let clean := ∀ q ∈ partQuarters a bs.length, s.eccClean q 8 = true
     s.busWaits i (.write addr bs) = false ∧ s.deckWriteOk i a bs.length = true ∧ clean))) ∧
  (let s : State := run
   (let i : Initiator := .host
    let addr : Word := 0x40090074#32
    let a := addr.toNat
    s.serves [] ∧ onBearing a = true ∧ s.ctlAccess i a = .ok ∧ a = F.METER_LOAD_LO.base ∧ s.domOn .meter = true ∧
    s.joint = true ∧ s.posted = [] ∧
    (let r : Reg := ((findReg 0x40090074).getD (⟨0, 0, 0, 0, 0, []⟩, 0, 0)).1
     let x : Nat := ((findReg 0x40090074).getD (⟨0, 0, 0, 0, 0, []⟩, 0, 0)).2.1
     let y : Nat := ((findReg 0x40090074).getD (⟨0, 0, 0, 0, 0, []⟩, 0, 0)).2.2
     findReg a = some (r, x, y))) ∧
   (let i : Initiator := .host
    let addr : Word := 0x40080010#32
    let a := addr.toNat
    s.serves [] ∧ onBearing a = true ∧ s.ctlAccess i a = .ok ∧ findReg a = none)) ∧
  (let s : State := { run with posted := [⟨0x100, 0x40020044, 5#32⟩] }
   let i : Initiator := .host
   let addr : Word := 0x40020044#32
   let a := addr.toNat
   s.serves [] ∧ onBearing a = false ∧ s.ctlAccess i a = .ok ∧ a = F.DECK_FORCE_VAL.base ∧ s.domOn .deck = true ∧
   (let p : Posted := ⟨0x100, 0x40020044, 5#32⟩
    let rest : List Posted := []
    s.posted = p :: rest ∧ s.ctlAccess (initOf p.initiator) p.addr = .ok)) ∧
  (let s : State := st [(F.SYS_JOINT_STAT_LINK_UP, 0, 0, 0)] ({ run with posted := [⟨0x100, 0x400900FC, 9#32⟩] })
   let i : Initiator := .host
   let addr : Word := 0x400900FC#32
   let a := addr.toNat
   s.serves [] ∧ onBearing a = true ∧ s.ctlAccess i a ≠ .ok ∧
   (let p : Posted := ⟨0x100, 0x400900FC, 9#32⟩
    let rest : List Posted := []
    s.posted = p :: rest ∧ s.ctlAccess (initOf p.initiator) p.addr ≠ .ok)) ∧
  (let s : State := { run with posted := [⟨0x100, 0x40090074, 77#32⟩] }
   let addr : Word := 0x40090074#32
   s.serves [] ∧ s.domOn .meter = true ∧ s.joint = true ∧
   (let p : Posted := ⟨0x100, 0x40090074, 77#32⟩
    let rest : List Posted := []
    s.posted = p :: rest ∧ p.addr = F.METER_LOAD_LO.base)) := by
  refine ⟨?_, ?_, ?_, ?_, ?_⟩ <;> decide +kernel

end Sys2Proof.Tests
end

