-- ==== Sys2Proof/Tests/Witness5.lean ====
section
/-! SUPPORT. Witnesses, part 5: for every statement with hypotheses, states and operands that meet those of each clause. -/

namespace Sys2Proof.Tests

set_option Elab.async false

open Sys2Proof Sys2Proof.Machine

/-- Every clause of `DeckCommands` is about some state. -/
theorem witness_DeckCommands :
  (let s : State := st [(F.DECK_BLK_STAT_STATE, 1, 0, 2)] ({ run with pts := { run.pts with desc := [(5, { cls := 3 })] } })
   let i : Initiator := .host
   let n : Fin 3 := 1
   let p := s.rd F.DECK_DESC_PT
   let d := Desc.ofWords fun k => s.rd F.DECK_DESC_DATA k
   let q := s.rd F.DECK_FORCE_PT
   let first := s.rd F.DECK_BLK_FIRST n
   let count := s.rd F.DECK_BLK_SEL n
   let why := s.blkReason n first count
   let job := Sparse.find? s.pts.blk n
   s.serves [.deck] ∧ s.descRefused p d = false ∧ (i = .host ∨ i = .net) ∧ s.forceReason q ≠ 0 ∧ s.standbyIgnores q = false ∧
   s.coherent = true ∧ s.standingBy = false ∧ why ≠ 0 ∧ why ≠ 4 ∧ s.rd F.DECK_BLK_STAT_STATE n = 2 ∧
   s.rd F.DECK_BLK_STAT_STATE n ≠ 1 ∧ (job.bind (·.tick) = none ∨ s.running = true ∧ s.inWin .commit = true)) ∧
  (let s : State := st [(F.DECK_FORCE_PT, 0, 0, 5), (F.DECK_FORCE_VAL, 0, 0, 9), (F.DECK_BLK_SEL, 1, 0, 3),
       (F.DECK_BLK_FIRST, 1, 0, 5)] ({ run with pts := { run.pts with desc := [(5, { cls := 3 })] } })
   (let i : Initiator := .dbg
    let n : Fin 3 := 1
    let first := s.rd F.DECK_BLK_FIRST n
    let count := s.rd F.DECK_BLK_SEL n
    let why := s.blkReason n first count
    s.serves [.deck] ∧ i ≠ .host ∧ i ≠ .net ∧ why = 0 ∧ s.rd F.DECK_BLK_STAT_STATE n ≠ 1 ∧ s.rd F.DECK_BLK_STAT_STATE n ≠ 2) ∧
   (let i : Initiator := .net
    let q := s.rd F.DECK_FORCE_PT
    s.serves [.deck] ∧ (i = .host ∨ i = .net) ∧ s.forceReason q = 0 ∧ s.standbyIgnores q = false)) ∧
  (let s : State := st [(F.DECK_DESC_PT, 0, 0, 5), (F.DECK_BLK_STAT_STATE, 1, 0, 1),
       (F.DECK_CTL, 0, 0, 1)] ({ run with pts := { run.pts with desc := [(5, { cls := 3 })] } })
   let n : Fin 3 := 1
   let p := s.rd F.DECK_DESC_PT
   let d := Desc.ofWords fun k => s.rd F.DECK_DESC_DATA k
   let first := s.rd F.DECK_BLK_FIRST n
   let count := s.rd F.DECK_BLK_SEL n
   let why := s.blkReason n first count
   let job := Sparse.find? s.pts.blk n
   s.serves [.deck] ∧ s.descRefused p d = true ∧ why = 4 ∧ s.rd F.DECK_BLK_STAT_STATE n = 1 ∧ job.bind (·.tick) = none) ∧
  (let s : State := st [(F.TWIN_STAT_ROLE, 0, 0, 3), (F.DECK_FORCE_PT, 0, 0, 5), (F.DECK_FORCE_VAL, 0, 0, 9),
       (F.TWIN_CTL_EN, 0, 0, 1), (F.SYS_DEVICE_ID_LOCK, 0, 0, 1), (F.SYS_DEVICE_ID_ID, 0, 0,
       55)] { run with pts := { run.pts with desc := [(5, { cls := 2, pubClass := 1 })] } }
   let i : Initiator := .net
   let q := s.rd F.DECK_FORCE_PT
   s.serves [.deck] ∧ (i = .host ∨ i = .net) ∧ s.standbyIgnores q = true ∧ s.coherent = true ∧ s.standingBy = true) ∧
  (let s : State := st [(F.SYS_START_STAT_STEP, 0, 0, 5)] run
   let i : Initiator := .host
   s.serves [.deck] ∧ (i = .host ∨ i = .net) ∧ s.coherent = false) ∧
  (let s : State := st [(F.DECK_BLK_STAT_STATE, 1, 0,
       1)] { run with pts := { ({ run with pts := { run.pts with desc := [(5, { cls := 3 })] } }).pts with blk := [(1, someBlk)], seen := [(5, { value := 7 })] } }
   let n : Fin 3 := 1
   let job := Sparse.find? s.pts.blk n
   s.serves [.deck] ∧ s.rd F.DECK_BLK_STAT_STATE n = 1 ∧ job.bind (·.tick) ≠ none ∧
   (s.running = false ∨ s.inWin .commit = false) ∧
   (let j : BlkJob := someBlk
    let f : Nat := 0x100000009
    job = some j ∧ j.tick = some f ∧ deckRamBase ≤ j.base)) := by
  refine ⟨?_, ?_, ?_, ?_, ?_, ?_⟩ <;> decide +kernel

/-- Every clause of `LoadAndSwap` is about some state. -/
theorem witness_LoadAndSwap :
  (let s : State := st [(F.PIERCTL_PIER_STAT_STATE, 1, 0,
       SchedState.off.code)] { run with pier := { run.pier with loader := some (.admitting 1 0x1100000 false) } }
   let n : Fin 24 := 1
   let k := s.sch n
   let banked := s.bit F.PIERCTL_PIER_CFG_BANKED n
   s.serves [.deck] ∧ k.swapAt = none ∧ s.loadBarred n banked = false ∧ s.pier.loader ≠ none ∧ k.staged = none ∧
   k.swapDone = false ∧ s.schIs n .running = false ∧ s.schIs n .idle = false ∧
   (let a : Nat := 0x1100000
    let b : Bool := false
    let e : LoadFail := match ((st [(F.PIERCTL_PIER_STAT_STATE, 1, 0,
        SchedState.off.code)] { run with pier := { run.pier with loader := some (.admitting 1 0x1100000 false) } })).examine
        1 0x1100000 false false with | .ok _ => ⟨1, none, none⟩ | .error e => e
    s.pier.loader = some (.admitting n a b) ∧ s.loadBarred n b = false ∧ s.examine n a b false = .error e ∧ e.reason < 32) ∧
   (let a : Nat := 0x1100000
    let b : Bool := false
    let e : LoadFail := match ((st [(F.PIERCTL_PIER_STAT_STATE, 1, 0,
        SchedState.off.code)] { run with pier := { run.pier with loader := some (.admitting 1 0x1100000 false) } })).examine
        1 0x1100000 false false with | .ok _ => ⟨1, none, none⟩ | .error e => e
    s.pier.loader = some (.admitting n a b) ∧ s.loadBarred n b = false ∧ s.examine n a b false = .error e ∧ e.reason < 32 ∧
    e.at' = none ∧ e.wcet = none)) ∧
  (let s : State := (st [(F.PIERCTL_PIER_STAT_STATE, 1, 0, SchedState.running.code),
       (F.PIERCTL_PIER_CFG_BANKED, 1, 0,
       0)] { imageLoaded with pier := { run.pier with loader := some (.admitting 1 0x1100000 false) } }).modSch 1 fun k
       => { k with active := none }
   let n : Fin 24 := 1
   let k := s.sch n
   let banked := s.bit F.PIERCTL_PIER_CFG_BANKED n
   s.serves [.deck] ∧ k.swapAt = none ∧ s.loadBarred n banked = true ∧ (s.schIs n .running = true ∨ s.schIs n .idle = true) ∧
   (let a : Nat := 0x1100000
    let b : Bool := false
    s.pier.loader = some (.admitting n a b) ∧ s.loadBarred n b = true)) ∧
  (let s : State := run.modSch 1 fun k => { k with swapDone := true }
   let n : Fin 24 := 1
   let k := s.sch n
   let banked := s.bit F.PIERCTL_PIER_CFG_BANKED n
   s.serves [.deck] ∧ k.swapAt = none ∧ s.loadBarred n banked = false ∧ s.pier.loader = none ∧ k.swapDone = true) ∧
  (let s : State := run.modSch 1 fun k => { k with swapAt := some 50 }
   let n : Fin 24 := 1
   let k := s.sch n
   s.serves [.deck] ∧ k.swapAt ≠ none ∧ s.running = true ∧
   (let at' : Nat := 50
    k.swapAt = some at' ∧ at' ≤ s.frame + 1)) ∧
  (let s : State := run.modSch 1 fun k => { k with swapAt := some 200 }
   let n : Fin 24 := 1
   let k := s.sch n
   s.serves [.deck] ∧
   (let at' : Nat := 200
    k.swapAt = some at' ∧ (s.running = false ∨ s.frame + 1 < at'))) ∧
  (let s : State := st [(F.PIERCTL_SWAP_FRAME_LO, 0, 0, 101)] (run.modSch 1 fun k => { k with staged := some taskImage })
   let n : Fin 24 := 1
   let k := s.sch n
   let f := s.rd48 F.PIERCTL_SWAP_FRAME_LO F.PIERCTL_SWAP_FRAME_HI
   s.serves [.deck] ∧ k.staged ≠ none ∧ f < s.frame + 2) ∧
  (let s : State := st [(F.PIERCTL_SWAP_FRAME_LO, 0, 0, 102)] (run.modSch 1 fun k => { k with staged := some taskImage })
   let n : Fin 24 := 1
   let k := s.sch n
   let f := s.rd48 F.PIERCTL_SWAP_FRAME_LO F.PIERCTL_SWAP_FRAME_HI
   s.serves [.deck] ∧ s.frame + 2 ≤ f ∧ k.swapAt = none ∧ s.admitting = false ∧
   (let i : Image := taskImage
    k.staged = some i)) ∧
  (let s : State := st [(F.PIERCTL_SWAP_FRAME_LO, 0, 0,
       102)] (run.modSch 1 fun k => { k with staged := some taskImage, swapAt := some 300 })
   let n : Fin 24 := 1
   let k := s.sch n
   let f := s.rd48 F.PIERCTL_SWAP_FRAME_LO F.PIERCTL_SWAP_FRAME_HI
   s.serves [.deck] ∧ k.staged ≠ none ∧ s.frame + 2 ≤ f ∧ (k.swapAt ≠ none ∨ s.admitting = true)) ∧
  (let s : State := (st [(F.PIERCTL_PIER_STAT_STATE, 1, 0, SchedState.off.code), (F.PIERCTL_PIER_CFG_BANKED, 1, 0,
       0)] { imageLoaded with pier := { run.pier with loader := some (.admitting 1 0x1100000 false) } }).modSch 1 fun k
       => { k with active := none }
   let n : Fin 24 := 1
   s.serves [.deck] ∧
   (let a : Nat := 0x1100000
    let b : Bool := false
    let i : Image := (match (((st [(F.PIERCTL_PIER_STAT_STATE, 1, 0, SchedState.off.code),
        (F.PIERCTL_PIER_CFG_BANKED, 1, 0,
        0)] { imageLoaded with pier := { run.pier with loader := some (.admitting 1 0x1100000 false) } }).modSch 1 fun k
        => { k with active := none })).examine 1 0x1100000 false false with | .ok v => v | .error _ => (taskImage, none)).1
    let x : Option Nat := (match (((st [(F.PIERCTL_PIER_STAT_STATE, 1, 0, SchedState.off.code),
        (F.PIERCTL_PIER_CFG_BANKED, 1, 0,
        0)] { imageLoaded with pier := { run.pier with loader := some (.admitting 1 0x1100000 false) } }).modSch 1 fun k
        => { k with active := none })).examine 1 0x1100000 false false with | .ok v => v | .error _ => (taskImage, none)).2
    s.pier.loader = some (.admitting n a b) ∧ s.loadBarred n b = false ∧ s.examine n a b false = .ok (i, x) ∧
    s.installs n b = true)) ∧
  (let s : State := { imageLoaded with pier := { run.pier with loader := some (.copying 1 taskImage true) } }
   let n : Fin 24 := 1
   let banked := s.bit F.PIERCTL_PIER_CFG_BANKED n
   s.serves [.deck] ∧
   (let i : Image := taskImage
    s.pier.loader = some (.copying n i true) ∧ i.codeLen ≤ tcmLimit i.banked ∧ i.dataLen ≤ tcmLimit i.banked)) ∧
  (let s : State := { imageLoaded with pier := { run.pier with loader := some (.copying 1 taskImage false) } }
   let n : Fin 24 := 1
   s.serves [.deck] ∧
   (let i : Image := taskImage
    s.pier.loader = some (.copying n i false))) ∧
  (let s : State := (st [(F.PIERCTL_PIER_STAT_STATE, 1, 0, SchedState.off.code), (F.PIERCTL_PIER_CFG_BANKED, 1, 0,
       1)] { bankedLoaded with pier := { run.pier with loader := some (.admitting 1 0x1100000 true) } }).modSch 1 fun k
       => { k with active := some taskImage }
   let n : Fin 24 := 1
   s.serves [.deck] ∧
   (let a : Nat := 0x1100000
    let b : Bool := true
    let i : Image := (match (((st [(F.PIERCTL_PIER_STAT_STATE, 1, 0, SchedState.off.code),
        (F.PIERCTL_PIER_CFG_BANKED, 1, 0,
        1)] { bankedLoaded with pier := { run.pier with loader := some (.admitting 1 0x1100000 true) } }).modSch 1 fun k
        => { k with active := some taskImage })).examine 1 0x1100000 true false with | .ok v => v | .error _ => (taskImage,
        none)).1
    let x : Option Nat := (match (((st [(F.PIERCTL_PIER_STAT_STATE, 1, 0, SchedState.off.code),
        (F.PIERCTL_PIER_CFG_BANKED, 1, 0,
        1)] { bankedLoaded with pier := { run.pier with loader := some (.admitting 1 0x1100000 true) } }).modSch 1 fun k
        => { k with active := some taskImage })).examine 1 0x1100000 true false with | .ok v => v | .error _ => (taskImage,
        none)).2
    s.pier.loader = some (.admitting n a b) ∧ s.loadBarred n b = false ∧ s.examine n a b false = .ok (i, x) ∧
    s.installs n b = false)) := by
  refine ⟨?_, ?_, ?_, ?_, ?_, ?_, ?_, ?_, ?_, ?_, ?_, ?_⟩ <;> decide +kernel

/-- Every clause of `OverlayAndMigration` is about some state. -/
theorem witness_OverlayAndMigration :
  (let s : State := run
   let n : Fin 24 := 1
   let c : CoreId := 2
   let src := s.rd F.PIERCTL_PIER_OVL_SRC n * 4
   let off := s.rd F.PIERCTL_PIER_OVL_DST n * 4
   let words := s.rd F.PIERCTL_PIER_OVL_CTL_WORDS n
   let busy := s.bit F.PIERCTL_PIER_OVL_CTL_BUSY n
   let fits := ∃ i : Image, (s.sch n).active = some i ∧ i.ovlOff ≤ off ∧ off + 4 * words ≤ i.ovlOff + i.ovlLen ∧
     inOverlay src (4 * words) = true
   let copy := s.pier.overlay.find? fun x => x.1 == n.val
   s.serves [.deck] ∧ s.domOn (coreDom c) = true ∧ s.inBackground c = false ∧ (s.sch n).active = none ∧ busy = false ∧
   ¬ fits ∧ copy = none) ∧
  (let s : State := (st [(F.PIERCTL_PIER_OVL_SRC, 1, 0, 0x1100000/4), (F.PIERCTL_PIER_OVL_DST, 1, 0, 0),
       (F.PIERCTL_PIER_OVL_CTL_WORDS, 1, 0, 2), (F.PIERCTL_PIER_OVL_CTL_BUSY, 1, 0,
       0)] imageLoaded).modSch 1 fun k => { k with active := some taskImage }
   let n : Fin 24 := 1
   let src := s.rd F.PIERCTL_PIER_OVL_SRC n * 4
   let off := s.rd F.PIERCTL_PIER_OVL_DST n * 4
   let words := s.rd F.PIERCTL_PIER_OVL_CTL_WORDS n
   let busy := s.bit F.PIERCTL_PIER_OVL_CTL_BUSY n
   let fits := ∃ i : Image, (s.sch n).active = some i ∧ i.ovlOff ≤ off ∧ off + 4 * words ≤ i.ovlOff + i.ovlLen ∧
     inOverlay src (4 * words) = true
   s.serves [.deck] ∧ busy = false ∧ fits ∧
   (let i : Image := taskImage
    (s.sch n).active = some i)) ∧
  (let s : State := run.setCore 2 { task := some ⟨true, 0, 7⟩, slice := 400, pc := 8 }
   let c : CoreId := 2
   s.serves [.deck] ∧ s.domOn (coreDom c) = true ∧ s.inBackground c = true) ∧
  (let s : State := { imageLoaded with pier := { run.pier with overlay := [(2, 1, 1, 1), (1, 0x1100000, 8, 3)] } }
   let n : Fin 24 := 1
   let copy := s.pier.overlay.find? fun x => x.1 == n.val
   s.serves [.deck] ∧
   (let a : Nat := 0x1100000
    let o : Nat := 8
    let w : Nat := 3
    copy = some (n.val, a, o, w))) ∧
  (let s : State := ({ imageLoaded with pier := { run.pier with loader := some (.migrating 1 1 22) } }).modSch 1 fun k
       => { k with active := some ({ src := 0x1100000, len := 100, crc := 0, banked := false, codeLen := 8, dataLen :=
                                     4, ovlOff := 0, ovlLen := 256, tasks := [⟨5, false, 0, 0, 1000, 900, 0⟩,
                                     ⟨6, true, 1, 4, 0, 0,
                                     0⟩], claims := [], loops := [], budgetSum := 1000, wcetSum := 900, thrSafe :=
                                     false } : Image) }
   let n : Fin 24 := 1
   let src := s.rd F.PIERCTL_PIER_OVL_SRC n * 4
   s.serves [.deck] ∧ (∃ i ∈ (s.sch n).images, s.imgCrc i.src i.len ≠ i.crc) ∧
   (let old : Nat := 1
    let new : Nat := 22
    s.pier.loader = some (.migrating n old new) ∧ new < 24)) ∧
  (let s : State := (st [(F.PIERCTL_PIER_OVL_SRC, 1, 0, 0x1100000/4), (F.PIERCTL_PIER_OVL_DST, 1, 0, 0),
       (F.PIERCTL_PIER_OVL_CTL_WORDS, 1, 0, 2), (F.PIERCTL_PIER_OVL_CTL_BUSY, 1, 0,
       1)] imageLoaded).modSch 1 fun k => { k with active := some taskImage }
   let n : Fin 24 := 1
   let busy := s.bit F.PIERCTL_PIER_OVL_CTL_BUSY n
   s.serves [.deck] ∧ busy = true) ∧
  (let s : State := ({ imageLoaded with pier := { run.pier with loader := some (.migrating 1 1 22) } }).modSch 1 fun k
       => { k with active := some ({ src := 0x1100000, len := 100, crc := imageLoaded.imgCrc 0x1100000 100, banked :=
                                     false, codeLen := 8, dataLen := 4, ovlOff := 0, ovlLen := 256, tasks := [⟨5, false, 0,
                                     0, 1000, 900, 0⟩, ⟨6, true, 1, 4, 0, 0,
                                     0⟩], claims := [], loops := [], budgetSum := 1000, wcetSum := 900, thrSafe :=
                                     false } : Image) }
   let n : Fin 24 := 1
   let src := s.rd F.PIERCTL_PIER_OVL_SRC n * 4
   s.serves [.deck] ∧ (∀ i ∈ (s.sch n).images, s.imgCrc i.src i.len = i.crc) ∧
   (let old : Nat := 1
    let new : Nat := 22
    s.pier.loader = some (.migrating n old new) ∧ new < 24)) := by
  refine ⟨?_, ?_, ?_, ?_, ?_, ?_, ?_⟩ <;> decide +kernel

/-- Every clause of `HostAccesses` is about some state. -/
theorem witness_HostAccesses :
  (let s : State := st [(F.SPAN_STAT_WINDOW, 0, 0, 0)] run
   (let addr : Word := 0x100
    let data : Word := 0x11223344
    let n : BitVec 16 := 2
    let ds : List Word := [1, 2]
    let waits : HostCmd → Bool := s.hostWaits
    s.serves [.net, .deck] ∧ s.port.waiting = [] ∧ s.port.lengthOwed = false ∧ waits (.rd addr) = true ∧
    waits (.wr addr data) = true ∧ waits (.rdBurst addr n) = true ∧ waits (.wrBurst addr ds) = true) ∧
   (let addr : Word := 0x1900000
    let n : BitVec 16 := 2
    let a := addr.toNat
    let readable : Nat → Prop := fun k => s.deckReadOk .host (a + 4 * k) 4 = true ∧ s.eccClean (a + 4 * k) 4 = true
    let waits : HostCmd → Bool := s.hostWaits
    s.serves [.net, .deck] ∧ s.port.waiting = [] ∧ a % 4 = 0 ∧ 1 ≤ n.toNat ∧ n.toNat ≤ 256 ∧ (∀ k < n.toNat, readable k) ∧
    waits (.rdBurst addr n) = false)) ∧
  (let s : State := { up with deck := [(0x1900005, 3), (0x190000B,
                              9)], pts := { run.pts with seen := [(0x10, { value := 7})] } }
   (let addr : Word := 0x1900008#32
    let data : Word := 0x11223344
    let n : BitVec 16 := 257
    let ds : List Word := List.replicate 257 7
    let a := addr.toNat
    let readable : Nat → Prop := fun k => s.deckReadOk .host (a + 4 * k) 4 = true ∧ s.eccClean (a + 4 * k) 4 = true
    let waits : HostCmd → Bool := s.hostWaits
    s.serves [.net, .deck] ∧ s.port.waiting = [] ∧ a % 4 = 0 ∧ readable 0 ∧ waits (.rd addr) = false ∧
    s.deckWriteOk .host a 4 = true ∧ deckRamBase ≤ a ∧ (∀ q ∈ partQuarters a 4, s.eccClean q 8 = true) ∧
    waits (.wr addr data) = false ∧ (n.toNat = 0 ∨ 256 < n.toNat) ∧ (ds.length = 0 ∨ 256 < ds.length)) ∧
   (let addr : Word := 0x40090074#32
    let ds : List Word := [5]
    let a := addr.toNat
    s.serves [.net, .deck] ∧ s.port.waiting = [] ∧ onBearing a = true ∧ s.ctlAccess .host a = .ok ∧ 1 ≤ ds.length ∧
    ds.length ≤ 256 ∧ a % 4 = 0 ∧ a + 4 * ds.length ≤ 2 ^ 32 ∧ (∀ k < ds.length, onBearing (a + 4 * k) = true ∧
    s.ctlAccess .host (a + 4 * k) = .ok)) ∧
   (let addr : Word := 0x200000#32
    let a := addr.toNat
    let waits : HostCmd → Bool := s.hostWaits
    s.serves [.net, .deck] ∧ s.port.waiting = [] ∧ a % 4 = 0 ∧ a < deckEnd ∧ s.deckReadOk .host a 4 = false ∧
    waits (.rd addr) = false)) := by
  refine ⟨?_, ?_⟩ <;> decide +kernel

/-- Every clause of `HostCommands` is about some state. -/
theorem witness_HostCommands :
  (let s : State := st [(F.SPAN_STAT_WINDOW, 0, 0,
       1)] hostPoints
   (let p : Word := 5
    let v : Word := 0x3
    let q : Byte := 0
    let n : BitVec 16 := 3
    let d := s.desc p.toNat
    let hosts := d.cls = 6 ∧ d.ownerId = 0
    let good := q.toNat ≠ 4 ∧ q.toNat < 6
    s.serves [.net, .deck] ∧ s.port.waiting = [] ∧ p.toNat < 2 ^ 17 ∧ s.deckReadOk .host (16 * p.toNat) 16 = true ∧
    s.eccClean (16 * p.toNat) 16 = true ∧ s.hostWaits (.ptRead p) = false ∧ s.coherent = true ∧
    s.standbyIgnores p.toNat = false ∧ hosts ∧ good ∧ s.blkReason 0 p.toNat n.toNat = 0 ∧ 1 ≤ n.toNat ∧ n.toNat ≤ 64 ∧
    s.rd F.DECK_BLK_STAT_STATE 0 ≠ 2 ∧ s.forceReason p.toNat = 0 ∧ s.standingBy = false ∧
    seqDist (s.rd F.EVR_CUR_ACK 0) (s.rd F.EVR_HEAD) < seqDist (s.rd F.EVR_CUR_ACK 0) v.toNat) ∧
   (let p : Word := 0x20005
    s.serves [.net, .deck] ∧ s.port.waiting = [] ∧ 2 ^ 17 ≤ p.toNat ∧ s.hostWaits (.ptRead p) = false)) ∧
  (let s : State := st [(F.SPAN_STAT_WINDOW, 0, 0, 0)] run
   let p : Word := 5
   let v : Word := 0
   let d := s.desc p.toNat
   let hosts := d.cls = 6 ∧ d.ownerId = 0
   s.serves [.net, .deck] ∧ s.port.waiting = [] ∧ s.hostWaits (.ptRead p) = true ∧ p.toNat < 2 ^ 17 ∧ s.coherent = true ∧
   s.standbyIgnores p.toNat = false ∧ ¬hosts ∧
   seqDist (s.rd F.EVR_CUR_ACK 0) v.toNat ≤ seqDist (s.rd F.EVR_CUR_ACK 0) (s.rd F.EVR_HEAD)) ∧
  (let s : State := st [(F.DECK_BLK_STAT_STATE, 0, 0, 1), (F.EVR_HEAD, 0, 0,
       9)] hostPoints
   let p : Word := 5
   let n : BitVec 16 := 65
   s.serves [.net, .deck] ∧ s.port.waiting = [] ∧ s.blkReason 0 p.toNat n.toNat = 4 ∧ (n.toNat = 0 ∨ 64 < n.toNat)) ∧
  (let s : State := st [(F.EVR_HEAD, 0, 0, 9)] up
   let p : Word := 5
   s.serves [.net, .deck] ∧ s.port.waiting = [] ∧ p.toNat < 2 ^ 17 ∧ s.coherent = false) ∧
  (let s : State := st [(F.DECK_BLK_STAT_STATE, 0, 0, 2)] run
   let index : BitVec 16 := 1
   let n : BitVec 16 := 1
   let from' := s.rd F.DECK_BLK_BUF 0 * 65536 + 16 * index.toNat
   s.serves [.net, .deck] ∧ s.port.waiting = [] ∧ 1 ≤ n.toNat ∧ n.toNat ≤ 64 ∧ s.rd F.DECK_BLK_STAT_STATE 0 = 2 ∧
   s.deckReadOk .host from' (16 * n.toNat) = true ∧ s.eccClean from' (16 * n.toNat) = true) := by
  refine ⟨?_, ?_, ?_, ?_, ?_⟩ <;> decide +kernel

/-- Every clause of `Window` is about some state. -/
theorem witness_Window :
  (let s : State := st [(F.HOSTP_W31_CTL, 0, 0, 0), (F.HOSTP_W31_Z_F_EN, 2, 0, 1), (F.HOSTP_W31_Z_F_EN, 2, 1, 1),
       (F.HOSTP_W31_Z_F_EN, 2, 2, 1), (F.HOSTP_W31_Z_F_EN, 2, 3, 1), (F.HOSTP_W31_Z_F_EN, 2, 4, 1),
       (F.HOSTP_W31_Z_F_EN, 2, 5, 1), (F.HOSTP_W31_Z_F_POINT, 2, 4,
       44)] { run with port := { run.port with page := 2, snap := [(16, 11), (17, 12), (18, 3), (19, 14), (20, 0x1234),
                                               (21, 0x4321)], commits := [⟨20, 44, 9⟩, ⟨18, 43, 9⟩, ⟨17, 4, 9⟩] } }
   let on := s.bit F.HOSTP_W31_CTL = true
   s.serves [.net] ∧ ¬on ∧ (s.running = false ∨ s.inWin .commit = false)) ∧
  (let s : State := st [(F.HOSTP_W31_CTL, 0, 0, 1), (F.HOSTP_W31_Z_F_EN, 2, 0, 1), (F.HOSTP_W31_Z_F_EN, 2, 1, 1),
       (F.HOSTP_W31_Z_F_EN, 2, 2, 1), (F.HOSTP_W31_Z_F_EN, 2, 3, 1), (F.HOSTP_W31_Z_F_EN, 2, 4, 1),
       (F.HOSTP_W31_Z_F_EN, 2, 5, 1), (F.HOSTP_W31_Z_F_POINT, 2, 4,
       44)] { run with port := { run.port with page := 2, snap := [(16, 11), (17, 12), (18, 3), (19, 14), (20, 0x1234),
                                               (21, 0x4321)], commits := [⟨20, 44, 9⟩, ⟨18, 43, 9⟩, ⟨17, 4, 9⟩] } }
   (let a : Byte := 3#8
    let on := s.bit F.HOSTP_W31_CTL = true
    s.serves [.net] ∧ on ∧ 2 ≤ a.toNat ∧ a.toNat ≤ 5 ∧ a.toNat = 3 ∧ s.port.held = none) ∧
   (let a : Byte := 6#8
    let on := s.bit F.HOSTP_W31_CTL = true
    s.serves [.net] ∧ on ∧ (a.toNat = 6 ∨ a.toNat = 8) ∧ a.toNat = 6 ∧ s.port.held = none) ∧
   (let a : Byte := 4#8
    let d : Byte := 5#8
    let on := s.bit F.HOSTP_W31_CTL = true
    s.serves [.net] ∧ on ∧ a.toNat = 4 ∧ s.port.held = none ∧ d.toNat ≤ 7) ∧
   (let a : Byte := 7#8
    let on := s.bit F.HOSTP_W31_CTL = true
    s.serves [.net] ∧ on ∧ a.toNat = 7 ∧ s.port.held = none) ∧
   (let a : Byte := 254#8
    let on := s.bit F.HOSTP_W31_CTL = true
    s.serves [.net] ∧ on ∧ a.toNat = 0xFE) ∧
   (let a : Byte := 255#8
    let on := s.bit F.HOSTP_W31_CTL = true
    s.serves [.net] ∧ on ∧ a.toNat = 0xFF)) ∧
  (let s : State := st [(F.HOSTP_W31_CTL, 0, 0, 1), (F.HOSTP_W31_Z_F_EN, 2, 0, 1), (F.HOSTP_W31_Z_F_EN, 2, 1, 1),
       (F.HOSTP_W31_Z_F_EN, 2, 2, 1), (F.HOSTP_W31_Z_F_EN, 2, 3, 1), (F.HOSTP_W31_Z_F_EN, 2, 4, 1),
       (F.HOSTP_W31_Z_F_EN, 2, 5, 1), (F.HOSTP_W31_Z_F_POINT, 2, 4,
       44)] { run with port := { run.port with page := 2, snap := [(16, 11), (17, 12), (18, 3), (19, 14), (20, 0x1234),
                                               (21, 0x4321)], commits := [⟨20, 44, 9⟩, ⟨18, 43, 9⟩,
                                               ⟨17, 4, 9⟩], latch := some (4, 9), held := some (4, 0x77) } }
   let a : Byte := 7#8
   let on := s.bit F.HOSTP_W31_CTL = true
   s.serves [.net] ∧ on ∧ (a.toNat = 7 ∨ a.toNat = 9) ∧ a.toNat = 7 ∧
   (let b : Nat := 9
    s.port.latch = some ((a.toNat + 1) / 2, b)) ∧
   (let b : Nat := 0x77
    s.port.held = some (4, b)) ∧
   (let x : Nat × Nat := (4, 0x77)
    s.port.held = some x)) := by
  refine ⟨?_, ?_, ?_⟩ <;> decide +kernel

/-- Every clause of `MacFrames` is about some state. -/
theorem witness_MacFrames :
  (let s : State := run
   let m : Fin 2 := 1
   let f : List Byte := [1, 2]
   s.serves [.net, .deck] ∧ (s.bit F.NET_MAC_CTL_EN m = false ∧
   (m = 1 ∨ s.bootNet = false) ∨ f.length < 64 ∨ 1522 < f.length) ∧ s.rd F.NET_MAC_TXIDX_DEV m = s.rd F.NET_MAC_TXIDX_SW m ∧
   (s.mac m).sending = false) ∧
  (let s : State := st [(F.NET_MAC_CTL_EN, 1, 0, 1), (F.NET_MAC_CTL_RESOLVE, 1, 0, 0), (F.NET_MAC_ADDR_LO, 1, 0, 2),
       (F.NET_MAC_ADDR_HI, 1, 0, 0x0100), (F.NET_MAC_RXRING_BASE, 1, 0, 0x1900000/128),
       (F.NET_MAC_TXRING_BASE, 1, 0, 0x1900400/128), (F.NET_MAC_TXIDX_SW, 1, 0,
       1)] { run with deck := [(0x1900401, 0x20), (0x1900402, 0x90), (0x1900403, 1), (0x1900404, 4),
                      (0x1902000, 9)], port := { run.port with mac := [(1, { sending := true })] } }
   let m : Fin 2 := 1
   let f : List Byte := [2, 0, 0, 0, 0, 1, 2, 0, 0, 0, 0, 9, 18, 52, 7, 7, 7, 7, 7, 7, 7, 7, 7, 7, 7, 7, 7, 7, 7, 7, 7, 7, 7,
       7, 7, 7, 7, 7, 7, 7, 7, 7, 7, 7, 7, 7, 7, 7, 7, 7, 7, 7, 7, 7, 7, 7, 7, 7, 7, 7, 7, 7, 7, 7]
   let size := 2 ^ s.rd F.NET_MAC_RXRING_SIZE m
   let k := s.rd F.NET_MAC_RXIDX_DEV m % size
   let a := ringDesc (s.rd F.NET_MAC_RXRING_BASE m) k
   let plain := s.bit F.NET_MAC_CTL_EN m = true ∧ 64 ≤ f.length ∧ f.length ≤ 1522 ∧ ¬ (wordAt f 12 = 0x8808 ∧ wordAt f 14 = 1) ∧
     (s.svcView m).bit F.NET_MAC_CTL_RESOLVE m = false ∧ s.macAccepts m f = true ∧ s.svcUdp m f = none
   s.serves [.net, .deck] ∧ plain ∧ (s.dByte (a + 6)).toNat % 2 = 0 ∧ s.bit F.NET_MAC_CTL_EN m = true ∧
   s.rd F.NET_MAC_TXIDX_DEV m ≠ s.rd F.NET_MAC_TXIDX_SW m ∧ (s.mac m).pausedTo ≤ s.nowUs ∧ (s.mac m).sending = true) ∧
  (let s : State := st [(F.NET_MAC_CTL_EN, 1, 0, 1), (F.NET_MAC_CTL_RESOLVE, 1, 0, 0), (F.NET_MAC_ADDR_LO, 1, 0, 2),
       (F.NET_MAC_ADDR_HI, 1, 0, 0x0100), (F.NET_MAC_RXRING_BASE, 1, 0, 0x1900000/128),
       (F.NET_MAC_TXRING_BASE, 1, 0, 0x1900400/128), (F.NET_MAC_RXIDX_DEV, 1, 0,
       7)] { run with deck := [(0x1900071, 0x20), (0x1900072, 0x90), (0x1900073, 1),
                      (0x1900076, 1)], port := { run.port with mac := [] } }
   let m : Fin 2 := 1
   let f : List Byte := [2, 0, 0, 0, 0, 1, 2, 0, 0, 0, 0, 9, 18, 52, 7, 7, 7, 7, 7, 7, 7, 7, 7, 7, 7, 7, 7, 7, 7, 7, 7, 7, 7,
       7, 7, 7, 7, 7, 7, 7, 7, 7, 7, 7, 7, 7, 7, 7, 7, 7, 7, 7, 7, 7, 7, 7, 7, 7, 7, 7, 7, 7, 7, 7]
   let size := 2 ^ s.rd F.NET_MAC_RXRING_SIZE m
   let k := s.rd F.NET_MAC_RXIDX_DEV m % size
   let a := ringDesc (s.rd F.NET_MAC_RXRING_BASE m) k
   let buf := s.dWord a
   let plain := s.bit F.NET_MAC_CTL_EN m = true ∧ 64 ≤ f.length ∧ f.length ≤ 1522 ∧ ¬ (wordAt f 12 = 0x8808 ∧ wordAt f 14 = 1) ∧
     (s.svcView m).bit F.NET_MAC_CTL_RESOLVE m = false ∧ s.macAccepts m f = true ∧ s.svcUdp m f = none
   s.serves [.net, .deck] ∧ plain ∧ (s.dByte (a + 6)).toNat % 2 = 1 ∧ inGeneral buf f.length = true ∧
   inGeneral (a + 4) 12 = true) := by
  refine ⟨?_, ?_, ?_⟩ <;> decide +kernel

/-- Every clause of `ServiceAccess` is about some state. -/
theorem witness_ServiceAccess :
  (let s : State := st [(F.NET_MAC_CTL_SVC_EN, 1, 0, 1), (F.NET_MAC_IP4, 1, 0, 0x0100000A), (F.NET_MAC_CTL_EN, 1, 0, 1),
       (F.NET_MAC_CTL_RESOLVE, 1, 0, 0), (F.NET_MAC_ADDR_LO, 1, 0, 2), (F.NET_MAC_ADDR_HI, 1, 0, 0x0100),
       (F.NET_MAC_RXRING_BASE, 1, 0, 0x1900000/128), (F.NET_MAC_TXRING_BASE, 1, 0,
       0x1900400/128)] { run with port := { run.port with peers := [] } }
   let m : Fin 2 := 1
   let f : List Byte := [2, 0, 0, 0, 0, 1, 2, 0, 0, 0, 0, 9, 8, 0, 69, 0, 0, 33, 0, 0, 0, 0, 64, 17, 0, 0, 10, 0, 0, 9, 10,
       0, 0, 1, 18, 52, 90, 23, 0, 13, 0, 0, 86, 83, 1, 2, 0, 0, 0, 0, 0, 0, 0, 0, 0, 0, 0, 0, 0, 0, 0, 0, 0, 0]
   let at_once := s.port.waiting = [] ∧ s.macPaused m = false ∧ (s.mac m).held = []
   s.serves [.net] ∧ s.bit F.NET_MAC_MDIO_BUSY m = false ∧ at_once ∧ (s.svcView m).bit F.NET_MAC_CTL_PEER_EN m = false ∧
   s.bit F.EVR_CUR_STAT_PEND 1 = false ∧
   (let u : Udp := ((st [(F.NET_MAC_CTL_SVC_EN, 1, 0, 1), (F.NET_MAC_IP4, 1, 0, 0x0100000A), (F.NET_MAC_CTL_EN, 1, 0, 1),
        (F.NET_MAC_CTL_RESOLVE, 1, 0, 0), (F.NET_MAC_ADDR_LO, 1, 0, 2), (F.NET_MAC_ADDR_HI, 1, 0, 0x0100),
        (F.NET_MAC_RXRING_BASE, 1, 0, 0x1900000/128), (F.NET_MAC_TXRING_BASE, 1, 0,
        0x1900400/128)] { run with port := { run.port with peers := [] } }).svcUdp 1 [2, 0, 0, 0, 0, 1, 2, 0, 0, 0, 0, 9, 8,
        0, 69, 0, 0, 33, 0, 0, 0, 0, 64, 17, 0, 0, 10, 0, 0, 9, 10, 0, 0, 1, 18, 52, 90, 23, 0, 13, 0, 0, 86, 83, 1, 2, 0, 0,
        0, 0, 0, 0, 0, 0, 0, 0, 0, 0, 0, 0, 0, 0, 0, 0]).getD ⟨false, [], [], 0, 0, 0, false⟩
    let d := (f.drop (u.start + 8)).take (u.len - 8)
    let asked := 4 ≤ d.length ∧ leAt d 0 2 = 0x5356
    let old := s.port.peers.find? fun q => q.addr == u.src && q.seq == leAt d 2 2 && decide (s.nowUs ≤ q.atUs + 1000000)
    s.svcUdp m f = some u ∧ asked ∧ old = none ∧ d.drop 4 = [0])) ∧
  (let s : State := st [(F.NET_MAC_CTL_SVC_EN, 1, 0, 1), (F.NET_MAC_IP4, 1, 0, 0x0100000A), (F.NET_MAC_CTL_EN, 1, 0, 1),
       (F.NET_MAC_CTL_RESOLVE, 1, 0, 0), (F.NET_MAC_ADDR_LO, 1, 0, 2), (F.NET_MAC_ADDR_HI, 1, 0, 0x0100),
       (F.NET_MAC_RXRING_BASE, 1, 0, 0x1900000/128), (F.NET_MAC_TXRING_BASE, 1, 0, 0x1900400/128),
       (F.EVR_CUR_STAT_PEND, 1, 0, 1)] { run with port := { run.port with peers := [somePeer] } }
   let m : Fin 2 := 1
   let f : List Byte := []
   s.serves [.net] ∧ s.svcUdp m f = none ∧ s.svcOn m = true ∧ s.bit F.EVR_CUR_STAT_PEND 1 = true ∧
   (let p : SvcPeer := somePeer
    s.port.peers.getLast? = some p ∧ p.via = m)) ∧
  (let s : State := st [(F.NET_MAC_MDIO_BUSY, 1, 0, 1), (F.NET_MAC_MDIO_OP, 1, 0, 2)] run
   let m : Fin 2 := 1
   s.serves [.net] ∧ s.bit F.NET_MAC_MDIO_BUSY m = true ∧ s.rd F.NET_MAC_MDIO_OP m = 2) ∧
  (let s : State := st [(F.NET_MAC_MDIO_BUSY, 1, 0, 1), (F.NET_MAC_MDIO_OP, 1, 0, 3)] run
   let m : Fin 2 := 1
   s.serves [.net] ∧ s.bit F.NET_MAC_MDIO_BUSY m = true ∧ s.rd F.NET_MAC_MDIO_OP m ≠ 2) ∧
  (let s : State := st [(F.NET_MAC_CTL_SVC_EN, 1, 0, 1), (F.NET_MAC_IP4, 1, 0, 0x0100000A), (F.NET_MAC_CTL_EN, 1, 0, 1),
       (F.NET_MAC_CTL_RESOLVE, 1, 0, 0), (F.NET_MAC_ADDR_LO, 1, 0, 2), (F.NET_MAC_ADDR_HI, 1, 0, 0x0100),
       (F.NET_MAC_RXRING_BASE, 1, 0, 0x1900000/128), (F.NET_MAC_TXRING_BASE, 1, 0, 0x1900400/128),
       (F.NET_MAC_CTL_PEER_EN, 1, 0, 1)] { run with port := { run.port with peers := [] } }
   let m : Fin 2 := 1
   let f : List Byte := [2, 0, 0, 0, 0, 1, 2, 0, 0, 0, 0, 9, 8, 0, 69, 0, 0, 33, 0, 0, 0, 0, 64, 17, 0, 0, 10, 0, 0, 9, 10,
       0, 0, 1, 18, 52, 90, 23, 0, 13, 0, 0, 86, 83, 1, 2, 0, 0, 0, 0, 0, 0, 0, 0, 0, 0, 0, 0, 0, 0, 0, 0, 0, 0]
   s.serves [.net] ∧ (s.svcView m).bit F.NET_MAC_CTL_PEER_EN m = true ∧
   (let u : Udp := ((st [(F.NET_MAC_CTL_SVC_EN, 1, 0, 1), (F.NET_MAC_IP4, 1, 0, 0x0100000A), (F.NET_MAC_CTL_EN, 1, 0, 1),
        (F.NET_MAC_CTL_RESOLVE, 1, 0, 0), (F.NET_MAC_ADDR_LO, 1, 0, 2), (F.NET_MAC_ADDR_HI, 1, 0, 0x0100),
        (F.NET_MAC_RXRING_BASE, 1, 0, 0x1900000/128), (F.NET_MAC_TXRING_BASE, 1, 0, 0x1900400/128),
        (F.NET_MAC_CTL_PEER_EN, 1, 0, 1)] { run with port := { run.port with peers := [] } }).svcUdp 1 [2, 0, 0, 0, 0, 1, 2,
        0, 0, 0, 0, 9, 8, 0, 69, 0, 0, 33, 0, 0, 0, 0, 64, 17, 0, 0, 10, 0, 0, 9, 10, 0, 0, 1, 18, 52, 90, 23, 0, 13, 0, 0,
        86, 83, 1, 2, 0, 0, 0, 0, 0, 0, 0, 0, 0, 0, 0, 0, 0, 0, 0, 0, 0, 0]).getD ⟨false, [], [], 0, 0, 0, false⟩
    let d := (f.drop (u.start + 8)).take (u.len - 8)
    let asked := 4 ≤ d.length ∧ leAt d 0 2 = 0x5356
    s.svcUdp m f = some u ∧ asked ∧ u.src ≠ s.peerAddr m)) ∧
  (let s : State := st [(F.NET_MAC_CTL_SVC_EN, 1, 0, 1), (F.NET_MAC_IP4, 1, 0, 0x0100000A), (F.NET_MAC_CTL_EN, 1, 0, 1),
       (F.NET_MAC_CTL_RESOLVE, 1, 0, 0), (F.NET_MAC_ADDR_LO, 1, 0, 2), (F.NET_MAC_ADDR_HI, 1, 0, 0x0100),
       (F.NET_MAC_RXRING_BASE, 1, 0, 0x1900000/128), (F.NET_MAC_TXRING_BASE, 1, 0,
       0x1900400/128)] { run with port := { run.port with peers := [somePeer] } }
   let m : Fin 2 := 1
   let f : List Byte := [2, 0, 0, 0, 0, 1, 2, 0, 0, 0, 0, 9, 8, 0, 69, 0, 0, 33, 0, 0, 0, 0, 64, 17, 0, 0, 10, 0, 0, 9, 10,
       0, 0, 1, 18, 52, 90, 23, 0, 13, 0, 0, 86, 83, 1, 2, 0, 0, 0, 0, 0, 0, 0, 0, 0, 0, 0, 0, 0, 0, 0, 0, 0, 0]
   let at_once := s.port.waiting = [] ∧ s.macPaused m = false ∧ (s.mac m).held = []
   s.serves [.net] ∧ at_once ∧ (s.svcView m).bit F.NET_MAC_CTL_PEER_EN m = false ∧
   (let u : Udp := ((st [(F.NET_MAC_CTL_SVC_EN, 1, 0, 1), (F.NET_MAC_IP4, 1, 0, 0x0100000A), (F.NET_MAC_CTL_EN, 1, 0, 1),
        (F.NET_MAC_CTL_RESOLVE, 1, 0, 0), (F.NET_MAC_ADDR_LO, 1, 0, 2), (F.NET_MAC_ADDR_HI, 1, 0, 0x0100),
        (F.NET_MAC_RXRING_BASE, 1, 0, 0x1900000/128), (F.NET_MAC_TXRING_BASE, 1, 0,
        0x1900400/128)] { run with port := { run.port with peers := [somePeer] } }).svcUdp 1 [2, 0, 0, 0, 0, 1, 2, 0, 0, 0,
        0, 9, 8, 0, 69, 0, 0, 33, 0, 0, 0, 0, 64, 17, 0, 0, 10, 0, 0, 9, 10, 0, 0, 1, 18, 52, 90, 23, 0, 13, 0, 0, 86, 83, 1,
        2, 0, 0, 0, 0, 0, 0, 0, 0, 0, 0, 0, 0, 0, 0, 0, 0, 0, 0]).getD ⟨false, [], [], 0, 0, 0, false⟩
    let q : SvcPeer := somePeer
    let d := (f.drop (u.start + 8)).take (u.len - 8)
    let asked := 4 ≤ d.length ∧ leAt d 0 2 = 0x5356
    let old := s.port.peers.find? fun q => q.addr == u.src && q.seq == leAt d 2 2 && decide (s.nowUs ≤ q.atUs + 1000000)
    s.svcUdp m f = some u ∧ asked ∧ old = some q)) := by
  refine ⟨?_, ?_, ?_, ?_, ?_, ?_⟩ <;> decide +kernel

end Sys2Proof.Tests
end

