-- ==== Sys2Proof/Tests/Witness6.lean ====
section
/-! SUPPORT. Witnesses, part 6: for every statement with hypotheses, states and operands that meet those of each clause. -/

namespace Sys2Proof.Tests

set_option Elab.async false

open Sys2Proof Sys2Proof.Machine

/-- Every clause of `FieldEngines` is about some state. -/
theorem witness_FieldEngines :
  (let s : State := st [(F.FIELD_ENG_RING_BASE, 3, 0, 0x1900000/1024), (F.FIELD_ENG_MAP_BASE, 3, 0, 0x1910000/4096),
       (F.FIELD_ENG_CTL_EN, 3, 0, 1), (F.FIELD_ENG_IDX_RX_WR, 3, 0, 1), (F.FIELD_ENG_IDX_RX_RD, 3, 0,
       253)] { run with deck := [], port := { run.port with eng := [(3, {})] } }
   let e : Fin 12 := 3
   let x := s.eng e
   let mode := s.rd F.FIELD_ENG_CTL_MODE e
   let on := s.bit F.FIELD_ENG_CTL_EN e
   let w := s.rd F.FIELD_ENG_IDX_RX_WR e
   let waiting := (w + 256 - s.rd F.FIELD_ENG_IDX_RX_RD e) % 256
   let master := on = true ∧ mode = 2
   s.serves [.net, .deck] ∧ s.driving = true ∧ (on = true ∨ (e.val < 8 ∧ 4 ≤ mode) ∨ (8 ≤ e.val ∧ mode < 4)) ∧ on = true ∧
   mode = 0 ∧ s.rxSlots e ≤ waiting ∧ s.txWaiting e = 0 ∧ (x.st ≠ .answer ∨ s.replyWaits e) ∧ ¬master) ∧
  (let s : State := st [(F.TWIN_STAT_DRIVING, 0, 0, 1)] run
   let e : Fin 12 := 1
   let mode := s.rd F.FIELD_ENG_CTL_MODE e
   let on := s.bit F.FIELD_ENG_CTL_EN e
   s.serves [.net, .deck] ∧ s.driving = true ∧ on = false ∧ ((e.val < 8 ∧ mode < 4) ∨ (8 ≤ e.val ∧ 4 ≤ mode)) ∧
   (mode ≠ 1 ∨ (s.rd F.FIELD_ENG_CTL_PARITY e = 0 ∧ s.bit F.FIELD_ENG_CTL_STOP2 e = false))) ∧
  (let s : State := st [(F.FIELD_ENG_RING_BASE, 3, 0, 0x1900000/1024), (F.FIELD_ENG_MAP_BASE, 3, 0, 0x1910000/4096),
       (F.FIELD_ENG_CTL_EN, 3, 0, 1), (F.FIELD_ENG_IDX_TX_WR, 3, 0,
       1)] { run with deck := [(0x1901000, 3), (0x1901010, 1), (0x1901011, 2), (0x1901012,
                      7)], port := { run.port with eng := [(3, {})] } }
   let e : Fin 12 := 3
   let mode := s.rd F.FIELD_ENG_CTL_MODE e
   let on := s.bit F.FIELD_ENG_CTL_EN e
   let w := s.rd F.FIELD_ENG_IDX_RX_WR e
   let waiting := (w + 256 - s.rd F.FIELD_ENG_IDX_RX_RD e) % 256
   let a := s.ringSlot e (w % s.rxSlots e)
   s.serves [.net, .deck] ∧ s.driving = true ∧ on = true ∧ mode = 0 ∧ waiting < s.rxSlots e ∧ inGeneral a 1024 = true ∧
   0 < s.txWaiting e) ∧
  (let s : State := st [(F.FIELD_ENG_RING_BASE, 3, 0, 0x1900000/1024), (F.FIELD_ENG_MAP_BASE, 3, 0, 0x1910000/4096),
       (F.FIELD_ENG_CTL_EN, 3, 0, 1), (F.FIELD_ENG_CTL_MODE, 3, 0, 1), (F.FIELD_ENG_CTL_ADDR, 3, 0,
       5)] { run with deck := [], port := { run.port with eng := [(3, { st := .idle, ns := 9, ps := 6, asker := 8 })] } }
   let e : Fin 12 := 3
   let f : List Byte := []
   let x := s.eng e
   let mode := s.rd F.FIELD_ENG_CTL_MODE e
   let on := s.bit F.FIELD_ENG_CTL_EN e
   let mstp := on = true ∧ mode = 1 ∧ s.station e < 128
   s.serves [.net, .deck] ∧ s.driving = true ∧ mstp ∧ f.take 2 ≠ [0x55, 0xFF] ∧ x.st = .idle) ∧
  (let s : State := st [(F.FIELD_ENG_RING_BASE, 9, 0, 0x1900000/1024), (F.FIELD_ENG_MAP_BASE, 9, 0, 0x1910000/4096),
       (F.FIELD_ENG_CTL_EN, 9, 0, 1), (F.FIELD_ENG_CTL_MODE, 9, 0,
       4)] { run with deck := [], port := { run.port with eng := [(9, { knxQueue := [[0xBC, 1, 2]], knxTries := 3 })] } }
   let e : Fin 12 := 9
   let x := s.eng e
   s.serves [.net, .deck] ∧ s.driving = true ∧ 3 ≤ x.knxTries ∧
   (let g : List Byte := [0xBC, 1, 2]
    x.knxQueue = [g])) ∧
  (let s : State := st [(F.FIELD_ENG_RING_BASE, 9, 0, 0x1900000/1024), (F.FIELD_ENG_MAP_BASE, 9, 0, 0x1910000/4096),
       (F.FIELD_ENG_CTL_EN, 9, 0, 1), (F.FIELD_ENG_CTL_MODE, 9, 0,
       4)] { run with deck := [], port := { run.port with eng := [(9, { knxQueue := [[0xBC, 1, 2], [3]], knxTries := 2 })] } }
   let e : Fin 12 := 9
   let x := s.eng e
   s.serves [.net, .deck] ∧ s.driving = true ∧ x.knxTries < 3 ∧
   (let g : List Byte := [0xBC, 1, 2]
    let q : List (List Byte) := [[3]]
    x.knxQueue = g :: q)) ∧
  (let s : State := st [(F.FIELD_ENG_RING_BASE, 3, 0, 0x1900000/1024), (F.FIELD_ENG_MAP_BASE, 3, 0, 0x1910000/4096),
       (F.FIELD_ENG_CTL_EN, 3, 0, 1), (F.FIELD_ENG_CTL_MODE, 3, 0, 1), (F.FIELD_ENG_CTL_ADDR, 3, 0,
       5)] { run with deck := [], port := { run.port with eng := [(3, { st := .answer, ns := 9, ps := 6, asker := 8 })] } }
   let e : Fin 12 := 3
   let x := s.eng e
   let mode := s.rd F.FIELD_ENG_CTL_MODE e
   let on := s.bit F.FIELD_ENG_CTL_EN e
   let mstp := on = true ∧ mode = 1 ∧ s.station e < 128
   s.serves [.net, .deck] ∧ s.driving = true ∧ mstp ∧ x.st = .answer ∧ ¬s.replyWaits e) ∧
  (let s : State := st [(F.FIELD_ENG_RING_BASE, 3, 0, 0x1900000/1024), (F.FIELD_ENG_MAP_BASE, 3, 0, 0x1910000/4096),
       (F.FIELD_ENG_CTL_EN, 3, 0, 1), (F.FIELD_ENG_CTL_MODE, 3, 0, 1), (F.FIELD_ENG_CTL_ADDR, 3, 0,
       5)] { run with deck := [], port := { run.port with eng := [(3, { st := .noToken, ns := 9, ps := 6, asker := 8 })] } }
   let e : Fin 12 := 3
   let x := s.eng e
   let mode := s.rd F.FIELD_ENG_CTL_MODE e
   let on := s.bit F.FIELD_ENG_CTL_EN e
   let mstp := on = true ∧ mode = 1 ∧ s.station e < 128
   s.serves [.net, .deck] ∧ s.driving = true ∧ mstp ∧ x.st = .noToken) ∧
  (let s : State := st [(F.FIELD_ENG_RING_BASE, 3, 0, 0x1900000/1024), (F.FIELD_ENG_MAP_BASE, 3, 0, 0x1910000/4096),
       (F.FIELD_ENG_CTL_EN, 3, 0, 1), (F.FIELD_ENG_CTL_MODE, 3, 0, 1), (F.FIELD_ENG_CTL_ADDR, 3, 0,
       5)] { run with deck := [], port := { run.port with eng := [(3, { st := .passToken, ns := 9, ps := 6, asker := 8 })] } }
   let e : Fin 12 := 3
   let x := s.eng e
   let mode := s.rd F.FIELD_ENG_CTL_MODE e
   let on := s.bit F.FIELD_ENG_CTL_EN e
   let mstp := on = true ∧ mode = 1 ∧ s.station e < 128
   s.serves [.net, .deck] ∧ s.driving = true ∧ mstp ∧ x.st = .passToken ∧ x.retries = 0) ∧
  (let s : State := st [(F.FIELD_ENG_RING_BASE, 3, 0, 0x1900000/1024), (F.FIELD_ENG_MAP_BASE, 3, 0, 0x1910000/4096),
       (F.FIELD_ENG_CTL_EN, 3, 0, 1), (F.FIELD_ENG_CTL_MODE, 3, 0, 1), (F.FIELD_ENG_CTL_ADDR, 3, 0,
       5)] { run with deck := [], port := { run.port with eng := [(3, { st := .idle, ns := 9, ps := 6 })] } }
   let e : Fin 12 := 3
   let f : List Byte := [0x55, 0xFF, 0, 5, 8, 0, 0, 1]
   let x := s.eng e
   let mode := s.rd F.FIELD_ENG_CTL_MODE e
   let on := s.bit F.FIELD_ENG_CTL_EN e
   let mstp := on = true ∧ mode = 1 ∧ s.station e < 128
   s.serves [.net, .deck] ∧ s.driving = true ∧ mstp ∧ f.take 2 = [0x55, 0xFF] ∧ mstpFrame f = none ∧ x.st = .idle) ∧
  (let s : State := st [(F.FIELD_ENG_RING_BASE, 3, 0, 0x1900000/1024), (F.FIELD_ENG_MAP_BASE, 3, 0, 0x1910000/4096),
       (F.FIELD_ENG_CTL_EN, 3, 0, 1), (F.FIELD_ENG_CTL_MODE, 3, 0, 2), (F.FIELD_ENG_MAP_COUNT, 3, 0, 2),
       (F.FIELD_ENG_PARAM_B, 3, 0, 2)]
       { run with deck := [], port := { run.port with eng := [(3, { mbNow := some none, mbReq := [1, 2,
                                                                    3], mbTries := 1 })] } }
   let e : Fin 12 := 3
   let x := s.eng e
   s.serves [.net, .deck] ∧ s.driving = true ∧ x.mbTries < s.rd F.FIELD_ENG_PARAM_B e ∧
   (let i : Option Nat := none
    x.mbNow = some i)) ∧
  (let s : State := st [(F.FIELD_ENG_RING_BASE, 3, 0, 0x1900000/1024), (F.FIELD_ENG_MAP_BASE, 3, 0, 0x1910000/4096),
       (F.FIELD_ENG_CTL_EN, 3, 0, 1), (F.FIELD_ENG_CTL_MODE, 3, 0, 2), (F.FIELD_ENG_MAP_COUNT, 3, 0, 2),
       (F.FIELD_ENG_PARAM_B, 3, 0, 1)]
       { run with deck := [], port := { run.port with eng := [(3, { mbNow := some (some 4), mbReq := [1, 2,
                                                                    3], mbTries := 1 })] } }
   let e : Fin 12 := 3
   let x := s.eng e
   s.serves [.net, .deck] ∧ s.driving = true ∧ s.rd F.FIELD_ENG_PARAM_B e ≤ x.mbTries ∧
   (let i : Nat := 4
    x.mbNow = some (some i))) ∧
  (let s : State := st [(F.FIELD_ENG_RING_BASE, 3, 0, 0x1900000/1024), (F.FIELD_ENG_MAP_BASE, 3, 0, 0x1910000/4096),
       (F.FIELD_ENG_CTL_EN, 3, 0, 1), (F.FIELD_ENG_CTL_MODE, 3, 0, 2), (F.FIELD_ENG_MAP_COUNT, 3, 0, 2),
       (F.FIELD_ENG_PARAM_B, 3, 0, 1)]
       { run with deck := [(0x1910010, 17), (0x1910011, 3), (0x1910012, 0x34), (0x1910013, 0x12), (0x1910014, 2),
                  (0x1910015, 1)], port := { run.port with eng := [(3, {})] } }
   let e : Fin 12 := 3
   let x := s.eng e
   let mode := s.rd F.FIELD_ENG_CTL_MODE e
   let on := s.bit F.FIELD_ENG_CTL_EN e
   let master := on = true ∧ mode = 2
   s.serves [.net, .deck] ∧ s.driving = true ∧ master ∧ x.mbNow = none ∧ x.mbRing = false ∧
   (let i : Nat := 1
    s.mbPick e = some i ∧ byteAt (s.mapEntry e i).bytes 1 = 3)) := by
  refine ⟨?_, ?_, ?_, ?_, ?_, ?_, ?_, ?_, ?_, ?_, ?_, ?_, ?_⟩ <;> decide +kernel

/-- Every clause of `TransfersAndPins` is about some state. -/
theorem witness_TransfersAndPins :
  (let s : State := run
   let m : Fin 4 := 1
   let n : Fin 32 := 5
   let level : Bool := false
   let a := s.rd F.FIELD_I2C_BUF m
   let w := s.rd F.FIELD_I2C_CTL_WLEN m
   let r := s.rd F.FIELD_I2C_CTL_RLEN m
   let tx := s.rd F.FIELD_SPI_TXBUF m
   let rx := s.rd F.FIELD_SPI_RXBUF m
   let len := s.rd F.FIELD_SPI_CTL_LEN m
   let i2c := s.rd F.FIELD_I2C_CMD_STATE m
   let spi := s.rd F.FIELD_SPI_CMD_STATE m
   s.serves [.net, .deck, .fan] ∧ i2c ≠ 1 ∧ bufferBad a (w + r) = false ∧ spi ≠ 1 ∧ bufferBad tx len = false ∧
   bufferBad rx len = false ∧ s.mapBit F.GPIO_IN n = level) ∧
  (let s : State := st [(F.FIELD_I2C_BUF, 2, 0, 0x1900010), (F.FIELD_I2C_CTL_WLEN, 2, 0, 2), (F.FIELD_I2C_CTL_RLEN, 2, 0, 3),
       (F.FIELD_SPI_TXBUF, 2, 0, 0x1900010), (F.FIELD_SPI_RXBUF, 2, 0, 0x1900011), (F.FIELD_SPI_CTL_LEN, 2, 0, 3),
       (F.FIELD_I2C_CMD_STATE, 2, 0, 1), (F.FIELD_SPI_CMD_STATE, 2, 0,
       1)] { run with deck := [(0x1900010, 1), (0x1900011, 2), (0x1900012, 3)] }
   let m : Fin 4 := 2
   let n : Fin 32 := 5
   let nack : BitVec 2 := 1
   let data : List Byte := [7, 0, 9]
   let level : Bool := true
   let a := s.rd F.FIELD_I2C_BUF m
   let w := s.rd F.FIELD_I2C_CTL_WLEN m
   let r := s.rd F.FIELD_I2C_CTL_RLEN m
   let rx := s.rd F.FIELD_SPI_RXBUF m
   let len := s.rd F.FIELD_SPI_CTL_LEN m
   let i2c := s.rd F.FIELD_I2C_CMD_STATE m
   let spi := s.rd F.FIELD_SPI_CMD_STATE m
   s.serves [.net, .deck, .fan] ∧ i2c = 1 ∧ (a = 0 ∨ nack ≠ 0) ∧ a ≠ 0 ∧ inGeneral (a + w) r = true ∧ data.length = r ∧
   spi = 1 ∧ rx ≠ 0 ∧ inGeneral rx len = true ∧ data.length = len ∧ s.mapBit F.GPIO_IN n ≠ level) ∧
  (let s : State := st [(F.FIELD_I2C_BUF, 2, 0, 0x100), (F.FIELD_I2C_CTL_WLEN, 2, 0, 2), (F.FIELD_I2C_CTL_RLEN, 2, 0, 3),
       (F.FIELD_SPI_TXBUF, 2, 0, 0x100), (F.FIELD_SPI_RXBUF, 2, 0, 0x1900011), (F.FIELD_SPI_CTL_LEN, 2, 0, 3),
       (F.FIELD_I2C_CMD_STATE, 2, 0, 0), (F.FIELD_SPI_CMD_STATE, 2, 0,
       0)] { run with deck := [(0x1900010, 1), (0x1900011, 2), (0x1900012, 3)] }
   let m : Fin 4 := 2
   let a := s.rd F.FIELD_I2C_BUF m
   let w := s.rd F.FIELD_I2C_CTL_WLEN m
   let r := s.rd F.FIELD_I2C_CTL_RLEN m
   let tx := s.rd F.FIELD_SPI_TXBUF m
   let rx := s.rd F.FIELD_SPI_RXBUF m
   let len := s.rd F.FIELD_SPI_CTL_LEN m
   let i2c := s.rd F.FIELD_I2C_CMD_STATE m
   let spi := s.rd F.FIELD_SPI_CMD_STATE m
   s.serves [.net, .deck, .fan] ∧ i2c ≠ 1 ∧ bufferBad a (w + r) = true ∧ spi ≠ 1 ∧
   (bufferBad tx len = true ∨ bufferBad rx len = true)) ∧
  (let s : State := st [(F.FIELD_SPI_CTL_LEN, 2, 0, 3), (F.FIELD_I2C_CMD_STATE, 2, 0, 1),
       (F.FIELD_SPI_CMD_STATE, 2, 0, 1)] { run with deck := [(0x1900010, 1), (0x1900011, 2), (0x1900012, 3)] }
   let m : Fin 4 := 2
   let rx := s.rd F.FIELD_SPI_RXBUF m
   let spi := s.rd F.FIELD_SPI_CMD_STATE m
   s.serves [.net, .deck, .fan] ∧ spi = 1 ∧ rx = 0) := by
  refine ⟨?_, ?_, ?_, ?_⟩ <;> decide +kernel

/-- Every clause of `FreezeAndThaw` is about some state. -/
theorem witness_FreezeAndThaw :
  (let s : State := { run with dbg := { frozen := true } }
   let pin : Bool → State := fun b => { s with dbg := { s.dbg with pin := b } }
   let xIn : Bool → State := fun b => { s with dbg := { s.dbg with xIn := b } }
   let soft := { s with dbg := { s.dbg with soft := true } }
   let lone := s.dbg.xIn = false ∧ s.dbg.ring = false ∧ s.dbg.soft = false
   s.alive = true ∧ s.acceptsFreeze = true ∧ s.dbg.frozen = true ∧ lone ∧ s.dbg.pin = false ∧ s.dbg.xIn = false ∧
   s.serves [.link] ∧ s.bit F.DBG_FRZ_CTL_RING_IN = false ∧ s.dbg.gated = false) ∧
  (let s : State := st [(F.SYS_START_STAT_STEP, 0, 0, 0)] { run with dbg := {} }
   s.acceptsFreeze = false ∧ (s.dbg.frozen = false ∨ s.dbg.gated = true)) ∧
  (let s : State := st [(F.DBG_FRZ_CTL_RING_IN, 0, 0, 1)] run
   s.serves [.link] ∧ s.bit F.DBG_FRZ_CTL_RING_IN = true) ∧
  (let s : State := st [(F.TWIN_CTL_EN, 0, 0, 1), (F.SYS_DEVICE_ID_LOCK, 0, 0, 1), (F.SYS_DEVICE_ID_ID, 0, 0, 55),
       (F.TWIN_STAT_LANE_A_UP, 0, 0, 1)] { run with dbg := { run.dbg with xIn := true } }
   s.paired = true) := by
  refine ⟨?_, ?_, ?_, ?_⟩ <;> decide +kernel

/-- Every clause of `TestAccessPort` is about some state. -/
theorem witness_TestAccessPort :
  (let s : State := run
   let a := s.dbg.roAddr / 4 * 4
   s.dbg.frozen = false ∧ a < deckEnd) ∧
  (let s : State := { run with dbg := { frozen := true, gated := true, roAddr := 0x0F000001 }, deck := [(0x1900005, 7)] }
   let a := s.dbg.roAddr / 4 * 4
   s.dbg.frozen = true ∧ 0x02000000 ≤ a ∧ a < 0x10000000) ∧
  (let s : State := { run with dbg := { roAddr := 0x40090074 }, deck := [(0x1900005, 7)] }
   let idle : Nat := 0
   let a := s.dbg.roAddr / 4 * 4
   onBearing a = true ∧ idle < 32) := by
  refine ⟨?_, ?_, ?_⟩ <;> decide +kernel

end Sys2Proof.Tests
end

section
/-! The empty offsets of the control blocks (R26) and the corrected joint frame (R14): what setting one more field adds to
`Sets`, how a frame on the host port is answered, and what each bus operation does at an offset without a register. -/

namespace Sys2Proof.Machine

/-! ### Setting fields, one after another -/

/-- Nothing set: the state itself. -/
theorem Sets.refl (s : State) : Sets s s [] where
  rest := rfl
  fields := by simp
  others := fun _ _ _ _ => rfl

/-- One more field set, with a value that fits it and a key that no row before has. -/
theorem Sets.wr {u t : State} {rows : List (Fld × Nat × Nat × Nat)} (h : Sets u t rows) (f : Fld) {v : Nat} (i j : Nat)
    (fits : v < 2 ^ f.width) (new : ∀ r ∈ rows, f.key i j ≠ r.1.key r.2.1 r.2.2.1) :
    Sets u (t.wr f v i j) (rows ++ [(f, i, j, v)]) where
  rest := congrArg (fun x : State => { x with rf := (t.wr f v i j).rf }) h.rest
  fields := by
    intro r hr
    rcases List.mem_append.mp hr with hr | hr
    · rw [State.rd_wr_ne _ _ _ _ _ _ _ _ (new r hr)]
      exact h.fields r hr
    · obtain rfl := List.mem_singleton.mp hr
      rw [State.rd_wr_same, Nat.mod_eq_of_lt fits]
  others := by
    intro g x y hg
    have hne : f.key i j ≠ g.key x y := (hg (f, i, j, v) (by simp)).symm
    rw [State.rd_wr_ne _ _ _ _ _ _ _ _ hne]
    exact h.others g x y fun r hr => hg r (List.mem_append_left _ hr)

/-- One field set, with a value that fits it. -/
theorem Sets.of_wr {u t : State} {f : Fld} {v i j : Nat} (h : t = u.wr f v i j) (fits : v < 2 ^ f.width) :
    Sets u t [(f, i, j, v)] :=
  h ▸ (Sets.refl u).wr f i j fits (by simp)

/-! ### The joint -/

/-- A saturating counter that counts once holds one more, or its greatest value. -/
theorem Sets.incSat (s : State) (f : Fld) (i j : Nat) :
    Sets s (s.incSat f i j) [(f, i, j, min (2 ^ f.width - 1) (s.rd f i j + 1))] :=
  Sets.of_wr rfl (by have := Nat.two_pow_pos f.width; omega)

/-- A frame with one bad lane on the trained joint is counted, and its lane recorded (R14). -/
theorem execJointFrame_one_lane {s : State} (l : Fin 64) (h : s.serves []) (hj : s.joint = true) :
    execJointFrame [l] s = .next ((s.incSat F.SYS_JOINT_STAT_CORR_COUNT).wr F.SYS_JOINT_STAT_BAD_LANE l) := by
  unfold execJointFrame
  rw [State.act_eq _ h, hj]
  rfl

/-- Settles O8: the two writes of the corrected frame are the two rows, since the count saturates at the width of its field and
every lane number fits BAD_LANE. -/
theorem correctedJointFrame : Obligations.CorrectedJointFrame := by
  unfold Obligations.CorrectedJointFrame
  intro s l hs hj
  refine ⟨_, execJointFrame_one_lane l hs hj, ?_⟩
  have counted := Sets.incSat s F.SYS_JOINT_STAT_CORR_COUNT 0 0
  have other_key : F.SYS_JOINT_STAT_BAD_LANE.key 0 0 ≠ F.SYS_JOINT_STAT_CORR_COUNT.key 0 0 := by decide
  exact counted.wr F.SYS_JOINT_STAT_BAD_LANE 0 0 l.isLt (by simpa using other_key)

/-! ### Frames on the host port -/

/-- No control block is closed in the commit window: the regions that are lie below it (R18). -/
theorem State.windowWait_of_inControl (s : State) {a : Nat} (n : Nat) (ctl : inControl a = true) : s.windowWait a n = false := by
  have above : ¬ a < 0x00A00000 := by
    simp only [inControl, Bool.and_eq_true, decide_eq_true_eq] at ctl
    omega
  simp [State.windowWait, touches, above]

/-- A frame that needs no closed region, with none waiting before it, is served at once. -/
theorem State.hostFrame_eq_hostServe {s : State} {c : HostCmd} (cut : Bool) (free : s.hostWaits c = false)
    (first : s.port.waiting = []) : s.hostFrame c cut = s.hostServe c cut := by
  simp [State.hostFrame, free, first]

/-- A command other than STATUS that ends well, in a frame that is not cut short, is answered OK with its data (R480). -/
theorem State.hostServe_ok {s u : State} {c : HostCmd} {held : Bool} {data : List Byte} (hc : c ≠ .status)
    (run : s.hostRun whoHost c = ⟨.ok, held, data, u⟩) : Answered u (s.hostServe c false) [] .ok held data := by
  change Sets _ _ [(F.HOSTP_STAT_LAST, 0, 0, HostRes.ok.code)]
  refine Sets.of_wr ?_ (by decide)
  simp only [State.hostServe, run, hc]
  rfl

/-! ### Posted writes -/

/-- Without posted writes there is nothing to drain. -/
theorem State.drainPosted_of_posted_nil {s : State} (i : Nat) (h : s.posted = []) : s.drainPosted i = s := by
  simp only [State.drainPosted, h, List.filter_nil, State.each, List.foldl_nil]
  rw [← h]

/-! ### The bus commands where the device can act -/

section Commands

variable {s : State} (i : Initiator) (addr data : Word) (h : s.serves [])
include h

/-- REGISTER_WRITE answers what the write found, in the state it left (R5). -/
theorem exec_registerWrite : exec (.registerWrite i addr data) s =
    .next ((s.ctlWrite i addr.toNat data.toNat).2.answer i addr.toNat []
      ((s.ctlWrite i addr.toNat data.toNat).1 != .ok)) := by
  change execRegisterWrite i addr data s = _
  exact State.act_eq _ h

/-- BEARING_READ_DONE of a readable word answers it, in the state the read left (R13). -/
theorem exec_bearingReadDone_ok {w : Nat} {t : State} (bearing : onBearing addr.toNat = true)
    (read : s.ctlRead i addr.toNat = (.ok, w, t)) :
    exec (.bearingReadDone i addr) s = .next (t.answer i addr.toNat (toBytes w 4) false) := by
  change execBearingReadDone i addr s = _
  refine (State.act_eq _ h).trans ?_
  rw [bearing, read]
  rfl

/-- BEARING_WRITE_EFFECT is the effect of the oldest posted write (R13). -/
theorem exec_bearingWriteEffect_cons {p : Posted} {rest : List Posted} (posted : s.posted = p :: rest) :
    exec .bearingWriteEffect s = .next ({ s with posted := rest }.postedEffect p (initOf p.initiator)) := by
  change execBearingWriteEffect s = _
  refine (State.act_eq _ h).trans ?_
  rw [posted]

end Commands

/-- RD is a frame on the host port, while PD_NET is on (R477). -/
theorem exec_rd {s : State} (addr : Word) (h : s.serves [.net]) :
    exec (.rd addr) s = .next (s.hostFrame (.rd addr) false) := by
  change execRd addr s = _
  unfold execRd State.hostAct
  exact State.act_eq _ h

/-! ### An offset that holds no register (R26) -/

section EmptyOffset

variable (s : State) (i : Initiator) {a : Nat}

/-- No access to it is refused. -/
theorem State.ctlAccess_of_empty (aligned : a % 4 = 0) (ctl : inControl a = true) (empty : findReg a = none) :
    s.ctlAccess i a = .ok := by
  unfold State.ctlAccess
  rw [if_neg (by simp [aligned, ctl]), if_pos (by rw [empty]; rfl)]

/-- A write that takes effect there changes nothing. -/
theorem State.ctlPut_of_empty (d : Nat) (empty : findReg a = none) : s.ctlPut i a d = s := by
  -- Generalised before it is unfolded: a kernel that compares `ctlPut` at `a` with its body computes `findReg a`, and does
  -- not come back from subtracting the base of the control blocks from a free `a`.
  generalize put : s.ctlPut i = w
  delta State.ctlPut at put
  subst put
  dsimp only
  rw [empty]

/-- Nor does a posted write when its turn comes. -/
theorem State.postedEffect_of_empty (p : Posted) (empty : findReg p.addr = none) : s.postedEffect p i = s := by
  unfold State.postedEffect
  rw [s.ctlPut_of_empty i _ empty, ite_self]

/-- A read gives 0; on the bearing die the initiator's posted writes take effect before it (R13). -/
theorem State.ctlRead_of_empty (aligned : a % 4 = 0) (ctl : inControl a = true) (empty : findReg a = none) :
    s.ctlRead i a = (.ok, 0, if onBearing a then s.drainPosted (initCode i) else s) := by
  unfold State.ctlRead
  rw [s.ctlAccess_of_empty i aligned ctl empty, empty]

/-- A write is posted on the bearing die and lost on the deck die. -/
theorem State.ctlWrite_of_empty (d : Nat) (aligned : a % 4 = 0) (ctl : inControl a = true) (empty : findReg a = none) :
    s.ctlWrite i a d =
      (.ok, if onBearing a then { s with posted := s.posted ++ [⟨initCode i, a, BitVec.ofNat 32 d⟩] } else s) := by
  unfold State.ctlWrite
  rw [s.ctlAccess_of_empty i aligned ctl empty, s.ctlPut_of_empty i d empty]
  dsimp only
  split <;> rfl

/-- RD of it on the deck die runs to four bytes of 0 and changes nothing (R478). -/
theorem State.hostRun_rd_of_empty {addr : Word} (aligned : addr.toNat % 4 = 0) (ctl : inControl addr.toNat = true)
    (empty : findReg addr.toNat = none) (deck : onBearing addr.toNat = false) :
    s.hostRun whoHost (.rd addr) = ⟨.ok, false, [0, 0, 0, 0], s⟩ := by
  have read : s.busRead whoHost.init addr.toNat = (.ok, 0, s) := by
    unfold State.busRead
    rw [if_pos ctl, s.ctlRead_of_empty whoHost.init aligned ctl empty, if_neg (by simp [deck])]
  simp only [State.hostRun, State.hostReads, read]
  rfl

end EmptyOffset

/-- Settles O9: at an offset without a register an access ends well, a read shows 0 and a write has no effect, so the commands
that make such accesses change nothing but what is answered. -/
theorem emptyOffsets : Obligations.EmptyOffsets := by
  unfold Obligations.EmptyOffsets
  intro s i addr data hs a p aligned ctl empty
  have written := s.ctlWrite_of_empty i data.toNat aligned ctl empty
  have read := s.ctlRead_of_empty i aligned ctl empty
  refine ⟨fun deck => ⟨?_, ?_⟩, fun deck net first => ?_, fun bearing unposted => ⟨?_, ?_, ?_⟩⟩
  · refine ⟨_, exec_registerWrite i addr data hs, ?_⟩
    rw [written, if_neg (by simp [deck])]
    rfl
  · rw [read, if_neg (by simp [deck])]
  · refine ⟨_, exec_rd addr ⟨hs.1, by simp [net]⟩, ?_⟩
    have free : s.hostWaits (.rd addr) = false := s.windowWait_of_inControl 4 ctl
    rw [State.hostFrame_eq_hostServe false free first]
    exact State.hostServe_ok (by simp) (s.hostRun_rd_of_empty aligned ctl empty deck)
  · refine ⟨_, exec_registerWrite i addr data hs, ?_⟩
    rw [written, if_pos bearing, unposted, BitVec.ofNat_toNat, BitVec.setWidth_eq]
    rfl
  · refine ⟨_, exec_bearingWriteEffect_cons (s := { s with posted := [p] }) hs rfl, ?_⟩
    rw [State.postedEffect_of_empty _ _ p empty, ← unposted]
  · rw [if_pos bearing, State.drainPosted_of_posted_nil _ unposted] at read
    exact ⟨_, exec_bearingReadDone_ok i addr hs bearing read, rfl⟩

end Sys2Proof.Machine
end

section
/-! Setting the keystone count (R413): the recorder's work leaves the keystone alone, so the count after a commit edge is the
one the waiting command gives, and that command holds S as the registers gave it when it was accepted. -/

namespace Sys2Proof.Machine

variable (s : State)

/-! ### What leaves the keystone alone -/

@[simp] theorem State.setBucket_keep (code : Nat) (b : Bucket) : (s.setBucket code b).keep = s.keep := rfl

@[simp] theorem State.enqueue_keep (e : EvtEntry) : (s.enqueue e).keep = s.keep := by
  unfold State.enqueue
  split
  · rfl
  · split <;> rfl

@[simp] theorem State.summarize_keep (code : Nat) : (s.summarize code).keep = s.keep := by
  unfold State.summarize
  extract_lets b
  split
  · rfl
  · exact (State.enqueue_keep _ _).trans (s.setBucket_keep code _)

@[simp] theorem State.tokenReturn_keep (code : Nat) : (s.tokenReturn code).keep = s.keep := by
  unfold State.tokenReturn
  extract_lets b p
  split
  · rfl
  · exact (State.summarize_keep _ code).trans (s.setBucket_keep code _)

@[simp] theorem State.admitEvent_keep (e : EvtEntry) : (s.admitEvent e).keep = s.keep := by
  unfold State.admitEvent
  split
  · exact s.enqueue_keep e
  · split
    · rfl
    · extract_lets t b
      have token : t.keep = s.keep := s.tokenReturn_keep e.code
      split <;> simp [token]

/-- An event reads the keystone for its record and changes nothing of it (R425). -/
@[simp] theorem State.event_keep (code : Nat) (words : List Nat) : (s.event code words).keep = s.keep := by
  unfold State.event State.raise State.takeEvent
  split
  · exact s.admitEvent_keep _
  · split <;> rfl

/-- What each step of a repetition leaves alone, the repetition leaves alone. -/
theorem State.each_keep {α : Type} (l : List α) {f : State → α → State} (h : ∀ s a, (f s a).keep = s.keep) :
    (s.each l f).keep = s.keep := by
  unfold State.each
  induction l generalizing s with
  | nil => rfl
  | cons a l ih => rw [List.foldl_cons, ih, h]

/-! ### The count at a CK_LF edge -/

/-- A waiting COMMIT gives S; a waiting ADJUST adds S to the count the edge gives without it (R413, R416). -/
theorem State.commitEdge_count (c : KeepCmd) (base old : Nat) :
    (s.commitEdge c base old).keep.count = if c.adjust then (base + c.s) % 2 ^ 48 else c.s := by
  unfold State.commitEdge State.keepCopy
  simp only [State.event_keep]
  split <;> rfl

/-- With no catch-up due, a waiting command takes the edge's tick as one: no trim pulse is applied (R414). -/
theorem State.countEdge_count_of_cmd {c : KeepCmd} (n : Nat) (waiting : s.keep.cmd = some c)
    (level : s.keep.catchUp = false) :
    (s.countEdge n).keep.count = if c.adjust then (s.keep.count + 1 + c.s) % 2 ^ 48 else c.s := by
  simp [State.countEdge, State.commitEdge_count, waiting, level]

/-- An edge that completes a VALIDATE writes keystone RAM and flags, and not the count (R406). -/
theorem State.validateEdge_count : s.validateEdge.keep.count = s.keep.count := by
  unfold State.validateEdge
  split
  · rfl
  · have ram (t : State) := t.each_keep (List.range 11) fun u w => u.wr_keep F.KEEP_RAM 0 (w + 1) 0
    simp [ram]

/-- The wake timer does not touch the count (R418). -/
theorem State.wakeEdge_count (n : Nat) : (s.wakeEdge n).keep.count = s.keep.count := by
  unfold State.wakeEdge
  extract_lets _ u
  have pin : u.keep.count = s.keep.count := by
    unfold u
    split <;> rfl
  rw [← pin]
  split
  · rfl
  · split
    · rfl
    · split <;> rfl

/-- A visible edge with a waiting command and no catch-up due gives the count of that command (R413, R414). -/
theorem State.keepEdge_count_of_cmd {c : KeepCmd} (waiting : s.keep.cmd = some c) (running : s.keep.frozen = false)
    (level : s.keep.catchUp = false) :
    s.keepEdge.keep.count = if c.adjust then (s.keep.count + 1 + c.s) % 2 ^ 48 else c.s := by
  unfold State.keepEdge
  extract_lets e _ timed n _ _ edged woken
  have counted : edged.keep.count = (timed.countEdge n).keep.count := by
    have visible : ¬ timed.keep.frozen = true := by simpa [timed] using running
    unfold edged
    rw [if_neg visible]
    exact (State.wakeEdge_count _ _).trans (State.validateEdge_count _)
  have kept : woken.keep.count = edged.keep.count := by
    unfold woken
    split
    · exact edged.wakeEdge_count n
    · rfl
  exact kept.trans (counted.trans (timed.countEdge_count_of_cmd n waiting level))

/-- COMMIT_EDGE with a command pending is a visible edge (R414). -/
theorem exec_commitEdge_of_pending (pending : s.bit F.KEEP_STAT_PENDING = true) (running : s.keep.frozen = false) :
    exec .commitEdge s = .next s.keepEdge := by
  change execCommitEdge s = _
  simp [execCommitEdge, pending, running]

/-! ### COMMIT and ADJUST -/

/-- A command that finds none pending is accepted: it waits with S and its initiator, and PENDING shows it (R414). -/
theorem State.keepCommit_accepted (adjust : Bool) (i : Nat) (free : s.bit F.KEEP_STAT_PENDING = false) :
    (s.keepCommit adjust i).bit F.KEEP_STAT_PENDING = true ∧
      (s.keepCommit adjust i).keep = { s.keep with cmd := some ⟨adjust, s.keepSet, i⟩ } := by
  unfold State.keepCommit
  rw [free]
  refine ⟨?_, rfl⟩
  change ((s.wr F.KEEP_STAT_PENDING 1).rd F.KEEP_STAT_PENDING != 0) = true
  rw [State.rd_wr_same]
  rfl

/-- The commit edge after an accepted command makes the count S, or c + 1 + S (R413). -/
theorem State.keepCommit_then_commitEdge (adjust : Bool) (i : Nat) (free : s.bit F.KEEP_STAT_PENDING = false)
    (running : s.keep.frozen = false) (level : s.keep.catchUp = false) :
    Completes .commitEdge (s.keepCommit adjust i) fun t =>
      t.keep.count = if adjust then (s.keep.count + 1 + s.keepSet) % 2 ^ 48 else s.keepSet := by
  obtain ⟨pending, keep⟩ := s.keepCommit_accepted adjust i free
  have waiting : (s.keepCommit adjust i).keep.cmd = some ⟨adjust, s.keepSet, i⟩ := by rw [keep]
  have count : (s.keepCommit adjust i).keep.count = s.keep.count := by rw [keep]
  have running' : (s.keepCommit adjust i).keep.frozen = false := by rw [keep]; exact running
  have level' : (s.keepCommit adjust i).keep.catchUp = false := by rw [keep]; exact level
  exact ⟨_, exec_commitEdge_of_pending _ pending running',
    count ▸ State.keepEdge_count_of_cmd _ waiting running' level'⟩

/-- COMMIT reaches the keystone after the initiator's posted writes (R13). -/
theorem exec_commitA {s : State} (i : Initiator) (h : s.reaches []) :
    exec (.commitA i) s = .next ((s.drainPosted (initCode i)).keepCommit false (initCode i)) := by
  change execCommitA i s = _
  exact State.reach_eq _ h

/-- ADJUST reaches the keystone after the initiator's posted writes (R13). -/
theorem exec_adjust {s : State} (i : Initiator) (h : s.reaches []) :
    exec (.adjust i) s = .next ((s.drainPosted (initCode i)).keepCommit true (initCode i)) := by
  change execAdjust i s = _
  exact State.reach_eq _ h

/-- Settles O10: both commands are `keepCommit` on the state that the initiator's posted writes leave, and the commit edge that
follows an accepted one gives S, or c + 1 + S. -/
theorem countIsSet : Obligations.CountIsSet := by
  unfold Obligations.CountIsSet
  intro s i hs d free running level v
  have edge (adjust : Bool) := d.keepCommit_then_commitEdge adjust (initCode i) free running level
  exact ⟨⟨_, exec_commitA i hs, edge false⟩, ⟨_, exec_adjust i hs, edge true⟩⟩

end Sys2Proof.Machine
end

section
/-! Register fields that never meet: which fields have no bit in common, whatever their indices, and what a write of one of
them leaves of the other. -/

namespace Sys2Proof.Machine

set_option Elab.async false

/-- No occurrence of `f` begins at the same bit as one of `g`: they begin at different bits of their words, or the distance
of their addresses is no multiple of what the indices step by. -/
def Fld.apart (f g : Fld) : Bool :=
  decide (f.lo < 32 ∧ g.lo < 32 ∧ f.lo ≠ g.lo) ||
    decide (f.lo = g.lo ∧ ((f.base : Int) - g.base) % (f.s1.gcd (f.s2.gcd (g.s1.gcd g.s2)) : Nat) ≠ 0)

theorem Fld.key_ne_of_apart {f g : Fld} (h : f.apart g = true) (i j i' j' : Nat) : f.key i j ≠ g.key i' j' := by
  simp only [Fld.apart, Bool.or_eq_true, decide_eq_true_eq] at h
  unfold Fld.key
  rcases h with ⟨hf, hg, hlo⟩ | ⟨hlo, hd⟩
  · omega
  · intro same
    apply hd
    rw [hlo] at same
    have address : ((f.base : Int) + i * f.s1 + j * f.s2) = g.base + i' * g.s1 + j' * g.s2 := by
      have : f.base + i * f.s1 + j * f.s2 = g.base + i' * g.s1 + j' * g.s2 := by omega
      exact_mod_cast this
    obtain ⟨d, hdef⟩ : ∃ d, d = f.s1.gcd (f.s2.gcd (g.s1.gcd g.s2)) := ⟨_, rfl⟩
    rw [← hdef]
    have d1 : (d : Int) ∣ f.s1 := by
      rw [hdef]; exact_mod_cast Nat.gcd_dvd_left _ _
    have d2 : (d : Int) ∣ f.s2 := by
      rw [hdef]; exact_mod_cast (Nat.gcd_dvd_right _ _).trans (Nat.gcd_dvd_left _ _)
    have d3 : (d : Int) ∣ g.s1 := by
      rw [hdef]; exact_mod_cast ((Nat.gcd_dvd_right _ _).trans (Nat.gcd_dvd_right _ _)).trans (Nat.gcd_dvd_left _ _)
    have d4 : (d : Int) ∣ g.s2 := by
      rw [hdef]; exact_mod_cast ((Nat.gcd_dvd_right _ _).trans (Nat.gcd_dvd_right _ _)).trans (Nat.gcd_dvd_right _ _)
    have apart : (f.base : Int) - g.base = i' * g.s1 + j' * g.s2 - i * f.s1 - j * f.s2 := by linarith
    rw [apart]
    exact Int.emod_eq_zero_of_dvd
      ((((d3.mul_left _).add (d4.mul_left _)).sub (d1.mul_left _)).sub (d2.mul_left _))

variable {s t : State}

/-- What has one register file reads the same in every field. -/
theorem State.rd_congr (h : t.rf = s.rf) (f : Fld) (i j : Nat) : t.rd f i j = s.rd f i j := by
  unfold State.rd; rw [h]

theorem State.bit_congr (h : t.rf = s.rf) (f : Fld) (i j : Nat) : t.bit f i j = s.bit f i j := by
  unfold State.bit; rw [State.rd_congr h]

variable (s) {f g : Fld} (v i j i' j' : Nat)

theorem State.rd_wr_apart (h : f.apart g = true) : (s.wr f v i j).rd g i' j' = s.rd g i' j' :=
  s.rd_wr_ne _ _ _ _ _ _ _ (Fld.key_ne_of_apart h _ _ _ _)

theorem State.bit_wr_apart (h : f.apart g = true) : (s.wr f v i j).bit g i' j' = s.bit g i' j' := by
  unfold State.bit; rw [s.rd_wr_apart v i j i' j' h]

@[simp] theorem State.bit_wr_same : (s.wr f v i j).bit f i j = (v % 2 ^ f.width != 0) := by
  unfold State.bit; rw [s.rd_wr_same]

/-- A saturating counter reads what was added to it, up to its greatest value. -/
@[simp] theorem State.rd_addSat_same (f : Fld) (n i j : Nat) :
    (s.addSat f n i j).rd f i j = min (2 ^ f.width - 1) (s.rd f i j + n) := by
  have := Nat.two_pow_pos f.width
  rw [State.addSat, State.rd_wr_same, Nat.mod_eq_of_lt (by omega)]

@[simp] theorem State.rd_incSat_same (f : Fld) (i j : Nat) :
    (s.incSat f i j).rd f i j = min (2 ^ f.width - 1) (s.rd f i j + 1) := s.rd_addSat_same f 1 i j

theorem State.rd_incSat_apart (h : f.apart g = true) : (s.incSat f i j).rd g i' j' = s.rd g i' j' :=
  s.rd_wr_apart _ i j i' j' h

theorem State.bit_incSat_apart (h : f.apart g = true) : (s.incSat f i j).bit g i' j' = s.bit g i' j' :=
  s.bit_wr_apart _ i j i' j' h

end Sys2Proof.Machine
end

section
/-! The pier's arithmetic (R141 to R148): the flags and words the instructions compute, in the terms of the statements, and
what an instruction that writes one register or a pair leaves. -/

namespace Sys2Proof.Machine

set_option Elab.async false

/-! ### Flags and shifts as numbers -/

theorem flagZ_eq (r : Word) : flagZ r = decide (r = 0) := beq_eq_decide r 0

theorem flagN_eq (r : Word) : flagN r = r.msb := (BitVec.msb_eq_getLsbD_last r).symm

theorem flagV_eq (z : Int) : flagV z = decide (z < -2147483648 ∨ 2147483647 < z) := by
  unfold flagV
  congr 1

theorem shiftLeft_eq_ofNat (a : Word) (n : Nat) : a <<< n = BitVec.ofNat 32 (a.toNat * 2 ^ n) := by
  apply BitVec.eq_of_toNat_eq
  rw [BitVec.toNat_shiftLeft, BitVec.toNat_ofNat, Nat.shiftLeft_eq]

theorem ushiftRight_eq_ofNat (a : Word) (n : Nat) : a >>> n = BitVec.ofNat 32 (a.toNat / 2 ^ n) := by
  apply BitVec.eq_of_toNat_eq
  have small : a.toNat / 2 ^ n < 2 ^ 32 := (Nat.div_le_self _ _).trans_lt a.isLt
  rw [BitVec.toNat_ushiftRight, BitVec.toNat_ofNat, Nat.shiftRight_eq_div_pow, Nat.mod_eq_of_lt small]

theorem sshiftRight_eq_ofInt (a : Word) (n : Nat) : a.sshiftRight n = BitVec.ofInt 32 (a.toInt / 2 ^ n) := by
  rw [BitVec.sshiftRight, Int.shiftRight_eq_div_pow]
  norm_cast

/-! ### What an instruction that writes one register leaves -/

/-- The core of the instruction's figures, once the figures are known. -/
theorem Issues.core_eq {s : State} {i : Instr} {o o' : PierOp} {extra : Nat} {k : RunTask} (h : Issues s i o extra k)
    (op : pierOp i = some o') : o.core = o'.core := by
  rw [Option.some.inj (h.op.symm.trans op)]

/-- As `pierAct_plain` where `f` is false, and as `pierAct_flags` where it is true. -/
theorem State.pierAct_ifFlags {s : State} {i : Instr} {o : PierOp} {extra : Nat} {k : RunTask} {body : State → PierRes}
    {c : CoreId} {gd : Gpr} {r : Word} (f : Bool) (F : CoreSt → CoreSt) (h : Issues s i o extra k) (hc : o.core = c)
    (hF : ∀ q, (F q).pc = q.pc ∧ (F q).task = q.task ∧ (F q).slice = q.slice)
    (hb : body (s.waited o) = .next ((if f then (s.waited o).modCore c F else s.waited o).put c gd r))
    (hstr : Straight (s.put c gd r) c ((s.core c).pc + 4)) :
    ∃ t, s.pierAct i extra body = .next t ∧ CoreOnly s t c ((s.core c).pc + 4) ∧ Writes s t c gd r ∧
      t.flagsOf c = if f then (let q := F ((s.core c).spend (s.waitOf o)); (q.z, q.n, q.c, q.v, q.qs, q.fx))
        else s.flagsOf c := by
  cases f
  · exact State.pierAct_plain h hc hb hstr
  · exact State.pierAct_flags F h hc hF hb hstr

/-- A logic operation or a shift (R141): the result, and Z and N from it when `f`. -/
theorem State.pierAct_logic {s : State} {i : Instr} {o : PierOp} {k : RunTask} {body : State → PierRes} {c : CoreId}
    {gd : Gpr} {r : Word} (f : Bool) (h : Issues s i o 0 k) (hc : o.core = c)
    (hb : body (s.waited o) = (s.waited o).logicOp c gd f r) (hstr : Straight (s.put c gd r) c ((s.core c).pc + 4)) :
    ∃ t, s.pierAct i 0 body = .next t ∧ CoreOnly s t c ((s.core c).pc + 4) ∧ Writes s t c gd r ∧
      t.flagsOf c = if f then (decide (r = 0), r.msb, (s.core c).c, (s.core c).v, (s.core c).qs, (s.core c).fx)
        else s.flagsOf c := by
  obtain ⟨t, run, rest, written, flags⟩ :=
    State.pierAct_ifFlags f (fun k => { k with z := flagZ r, n := flagN r }) h hc (fun _ => ⟨rfl, rfl, rfl⟩) hb hstr
  refine ⟨t, run, rest, written, ?_⟩
  simpa [flagZ_eq, flagN_eq] using flags

/-- An addition or subtraction (R141): the result, and all of Z, N, C and V when `f`. -/
theorem State.pierAct_arith {s : State} {i : Instr} {o : PierOp} {k : RunTask} {body : State → PierRes} {c : CoreId}
    {gd : Gpr} {r : Word} (f : Bool) (carry overflow : Bool) (h : Issues s i o 0 k) (hc : o.core = c)
    (hb : body (s.waited o) = .next ((if f then (s.waited o).setZNCV c r carry overflow else s.waited o).put c gd r))
    (hstr : Straight (s.put c gd r) c ((s.core c).pc + 4)) :
    ∃ t, s.pierAct i 0 body = .next t ∧ CoreOnly s t c ((s.core c).pc + 4) ∧ Writes s t c gd r ∧
      t.flagsOf c = if f then (decide (r = 0), r.msb, carry, overflow, (s.core c).qs, (s.core c).fx) else s.flagsOf c := by
  obtain ⟨t, run, rest, written, flags⟩ :=
    State.pierAct_ifFlags f (fun k => { k with z := flagZ r, n := flagN r, c := carry, v := overflow }) h hc
      (fun _ => ⟨rfl, rfl, rfl⟩) hb hstr
  refine ⟨t, run, rest, written, ?_⟩
  simpa [flagZ_eq, flagN_eq] using flags

/-- The carry flag as the instruction's own effect finds it. -/
theorem State.waited_carry (s : State) (o : PierOp) {c : CoreId} (hc : o.core = c) :
    ((s.waited o).core c).c = (s.core c).c := by
  simp [State.waited, hc]

/-- Settles O11: each row is `addOp`, `subOp` or `logicOp` on the state after the wait, with the flags of R142 in the terms of
the operands' numbers. -/
theorem integerOpsWithFlags : Obligations.IntegerOpsWithFlags := by
  unfold Obligations.IntegerOpsWithFlags
  intro s c gd ga gb f o k row a b cy n ovf hrow h hstr
  simp only [List.mem_cons, List.not_mem_nil, or_false] at hrow
  rcases hrow with rfl | rfl | rfl | rfl | rfl | rfl | rfl | rfl | rfl | rfl | rfl | rfl
  all_goals have hc : o.core = c := h.core_eq rfl
  · refine State.pierAct_arith f _ _ h hc ?_ hstr
    simp [State.addOp, carryAdd, flagV_eq, ovf, a, b]
  · refine State.pierAct_arith f _ _ h hc ?_ hstr
    simp [State.subOp, carrySub, flagV_eq, ovf, a, b]
  · refine State.pierAct_arith f _ _ h hc ?_ hstr
    simp [State.addOp, carryAdd, flagV_eq, ovf, a, b, cy, State.waited_carry s o hc]
  · refine State.pierAct_arith f _ _ h hc ?_ hstr
    simp [State.subOp, carrySub, flagV_eq, ovf, a, b, cy, State.waited_carry s o hc]
  · exact State.pierAct_logic f h hc rfl hstr
  · exact State.pierAct_logic f h hc rfl hstr
  · exact State.pierAct_logic f h hc rfl hstr
  · exact State.pierAct_logic f h hc rfl hstr
  · refine State.pierAct_logic f h hc ?_ hstr
    rw [← shiftLeft_eq_ofNat]; rfl
  · refine State.pierAct_logic f h hc ?_ hstr
    rw [← ushiftRight_eq_ofNat]; rfl
  · refine State.pierAct_logic f h hc ?_ hstr
    rw [← sshiftRight_eq_ofInt]; rfl
  · exact State.pierAct_logic f h hc rfl hstr

/-! ### Register groups (R136) -/

/-- `u` is `w` but for general registers. -/
abbrev RegsOnly (w u : State) : Prop := ∃ gprs, u = { w with pier := { w.pier with gpr := gprs } }

theorem RegsOnly.refl (w : State) : RegsOnly w w := ⟨_, rfl⟩

theorem RegsOnly.trans {w u v : State} (h : RegsOnly w u) (h' : RegsOnly u v) : RegsOnly w v := by
  obtain ⟨p, rfl⟩ := h
  obtain ⟨q, rfl⟩ := h'
  exact ⟨q, rfl⟩

theorem RegsOnly.core {w u : State} (h : RegsOnly w u) (c : Nat) : u.core c = w.core c := by
  obtain ⟨p, rfl⟩ := h
  rfl

theorem State.setGpr_regsOnly (s : State) (c g : Nat) (v : Word) : RegsOnly s (s.setGpr c g v) := by
  unfold State.setGpr
  split <;> exact ⟨_, rfl⟩

/-- Words set from register `g` on, the first of them at position `n` of the group. -/
theorem State.gpr_each_setGpr (c g : Nat) (vs : List Word) (s : State) (n : Nat) (fits : g + n + vs.length ≤ 64)
    (c' x : Nat) (hx : x < 64) :
    (s.each (vs.zipIdx n) fun s vk => s.setGpr c (g + vk.2) vk.1).gpr c' x =
      if c' = c ∧ g + n ≤ x ∧ x < g + n + vs.length ∧ x ≠ 0 then vs.getD (x - (g + n)) 0 else s.gpr c' x := by
  induction vs generalizing s n with
  | nil => simp only [List.length_nil]; rw [if_neg (by omega)]; rfl
  | cons v vs ih =>
    simp only [List.length_cons] at fits ⊢
    have step : (s.each ((v :: vs).zipIdx n) fun s vk => s.setGpr c (g + vk.2) vk.1) =
        (s.setGpr c (g + n) v).each (vs.zipIdx (n + 1)) fun s vk => s.setGpr c (g + vk.2) vk.1 := rfl
    rw [step, ih _ (n + 1) (by omega), State.gpr_setGpr _ _ _ _ _ _ (by omega) hx]
    by_cases first : x = g + n
    · subst first
      rw [if_neg (by omega)]
      by_cases hz : g + n = 0 <;> by_cases hc : c' = c <;> simp [hz, hc]
    · rw [if_neg (by omega : ¬ (c' = c ∧ x = g + n ∧ g + n ≠ 0))]
      by_cases inside : c' = c ∧ g + (n + 1) ≤ x ∧ x < g + (n + 1) + vs.length ∧ x ≠ 0
      · rw [if_pos inside, if_pos (by omega), show x - (g + n) = x - (g + (n + 1)) + 1 by omega, List.getD_cons_succ]
      · rw [if_neg inside, if_neg (by omega)]

theorem State.gpr_putGroup (s : State) (c : CoreId) {gd : Gpr} {vs : List Word} (fits : gd.toNat + vs.length ≤ 64)
    (c' x : Nat) (hx : x < 64) :
    (s.putGroup c gd vs).gpr c' x =
      if c' = c ∧ gd.toNat ≤ x ∧ x < gd.toNat + vs.length ∧ x ≠ 0 then vs.getD (x - gd.toNat) 0 else s.gpr c' x :=
  s.gpr_each_setGpr c gd.toNat vs 0 fits c' x hx

theorem State.each_regsOnly {α : Type} {f : State → α → State} (hf : ∀ s a, RegsOnly s (f s a)) (l : List α) (s : State) :
    RegsOnly s (s.each l f) := by
  unfold State.each
  induction l generalizing s with
  | nil => exact ⟨_, rfl⟩
  | cons a l ih => exact (hf s a).trans (ih (f s a))

theorem State.putGroup_regsOnly (s : State) (c : CoreId) (gd : Gpr) (vs : List Word) : RegsOnly s (s.putGroup c gd vs) :=
  State.each_regsOnly (fun s _ => s.setGpr_regsOnly _ _ _) _ s

/-- The loop levels are general registers (R152): where those agree, the same bodies end. -/
theorem Straight.congr {s u : State} {c pc : Nat} (h : Straight s c pc) (same : ∀ g < 64, u.gpr c g = s.gpr c g) :
    Straight u c pc := by
  intro k hk on
  unfold State.levelOn State.levelBody at *
  rw [same _ (by omega)] at on ⊢
  exact h k hk on

/-- As `pierAct_put`, for an effect that writes general registers of its core, whichever they are. -/
theorem State.pierAct_regs {s w u : State} {i : Instr} {o : PierOp} {extra : Nat} {k : RunTask} {body : State → PierRes}
    {y : Bool} {c : CoreId} (h : Issues s i o extra k) (hc : o.core = c) (hw : CoreUpd s w c)
    (hsl : (w.core c).slice = ((s.waited o).core c).slice) (hu : RegsOnly w u)
    (others : ∀ c' ≠ c.val, ∀ g < 64, u.gpr c' g = s.gpr c' g) (hb : body (s.waited o) = .next u)
    (hstr : Straight u c ((s.core c).pc + 4)) :
    ∃ t, s.pierAct i extra body y = .next t ∧ CoreOnly s t c ((s.core c).pc + 4) ∧ (∀ g, t.gpr c g = u.gpr c g) ∧
      t.flagsOf c = w.flagsOf c := by
  have running : (s.core c).task = some k := hc ▸ h.task
  have health : u.health = s.health := by
    obtain ⟨p, rfl⟩ := hu
    obtain ⟨q, hq⟩ := hw.rest
    rw [hq]
  obtain ⟨kf, done, pc, task, z, n, carry, v, qs, fx, -⟩ := State.pierAct_done (y := y) h hb
    (by rw [hc, hu.core, hw.task, running]) (by rw [hc, hu.core, hsl]) health (by rw [hc]; exact hstr)
  rw [hc] at done pc z n carry v qs fx
  refine ⟨_, done, ⟨?_, ?_, ?_, ?_⟩, fun g => rfl, ?_⟩
  · obtain ⟨p, rfl⟩ := hu
    obtain ⟨q, hq⟩ := hw.rest
    rw [hq]
    exact ⟨_, _, rfl⟩
  · intro c' hc'
    refine ⟨?_, fun g hg => (State.gpr_setCore ..).trans (others c' hc' g hg)⟩
    rw [State.core_setCore_ne _ _ _ _ (Ne.symm hc'), hu.core, hw.others _ hc']
  · simp [pc]
  · simp [task, running]
  · simp [State.flagsOf, z, n, carry, v, qs, fx, hu.core]

/-- An instruction whose own effect writes a group of registers, and nothing else, completes (R136). -/
theorem State.pierAct_group {s : State} {i : Instr} {o : PierOp} {extra : Nat} {k : RunTask} {body : State → PierRes}
    {y : Bool} {c : CoreId} {gd : Gpr} {vs : List Word} (h : Issues s i o extra k) (hc : o.core = c)
    (fits : gd.toNat + vs.length ≤ 64) (hb : body (s.waited o) = .next ((s.waited o).putGroup c gd vs))
    (hstr : Straight (s.putGroup c gd vs) c ((s.core c).pc + 4)) :
    ∃ t, s.pierAct i extra body y = .next t ∧ CoreOnly s t c ((s.core c).pc + 4) ∧ WritesGroup s t c gd vs ∧
      t.flagsOf c = s.flagsOf c := by
  have waits := hc ▸ CoreUpd.waited s o
  have regs := (s.waited o).putGroup_regsOnly c gd vs
  have others : ∀ c' ≠ c.val, ∀ g < 64, ((s.waited o).putGroup c gd vs).gpr c' g = s.gpr c' g := by
    intro c' hc' g hg
    rw [State.gpr_putGroup _ _ fits _ _ hg, if_neg (fun hx => hc' hx.1), waits.gpr]
  have straight : Straight ((s.waited o).putGroup c gd vs) c ((s.core c).pc + 4) :=
    hstr.congr fun g hg => by rw [State.gpr_putGroup _ _ fits _ _ hg, State.gpr_putGroup _ _ fits _ _ hg, waits.gpr]
  obtain ⟨t, run, rest, gprs, flags⟩ := State.pierAct_regs (y := y) h hc waits rfl regs others hb straight
  refine ⟨t, run, rest, fun g hg => ?_, flags.trans (by simp [State.flagsOf, State.waited, hc])⟩
  rw [gprs, State.gpr_putGroup _ _ fits _ _ hg, waits.gpr]
  simp

/-- Code of either kind holds listed instructions only (R140). -/
theorem Issues.legal {s : State} {i : Instr} {o : PierOp} {extra : Nat} {k : RunTask} (h : Issues s i o extra k) :
    o.legal = true := by
  have held := h.held
  unfold PierOp.fpOk at held
  cases hk : k.background <;> simp_all

/-- A register pair that is listed ends with the registers (R136). -/
theorem pair_fits {gd : Gpr} (h : groupOk gd 2 = true) : gd.toNat + 2 ≤ 64 := by
  have := gd.isLt
  simp only [groupOk, Bool.and_eq_true, beq_iff_eq] at h
  omega

end Sys2Proof.Machine
end

section
/-! The integer instructions that leave the flags alone (R141, R143, R144): each result as the number the statement gives. -/

namespace Sys2Proof.Machine

set_option Elab.async false

theorem bool32_eq (b : Bool) : bool32 b = if b then 1 else 0 := rfl

theorem signExtend_eq_ofInt {n : Nat} (z : BitVec n) : z.signExtend 32 = BitVec.ofInt 32 z.toInt := rfl

theorem zeroExtend_eq_ofNat {n : Nat} (z : BitVec n) : z.zeroExtend 32 = BitVec.ofNat 32 z.toNat := by
  apply BitVec.eq_of_toNat_eq
  simp

/-- An immediate of fewer than 32 bits is the same number when it is extended with its sign. -/
theorem toInt_signExtend {n : Nat} (hn : n ≤ 32) (z : BitVec n) : (z.signExtend 32).toInt = z.toInt :=
  BitVec.toInt_signExtend_of_le hn

theorem toNat_zeroExtend {n : Nat} (hn : n ≤ 32) (z : BitVec n) : (z.zeroExtend 32).toNat = z.toNat :=
  BitVec.toNat_setWidth_of_le hn

/-- IMH joins the halves of the word (R143). -/
theorem imh_eq_ofNat (w : Word) (half : BitVec 16) :
    (w &&& 0xFFFF) ||| (half.zeroExtend 32 <<< 16) = BitVec.ofNat 32 (half.toNat * 65536 + w.toNat % 65536) := by
  apply BitVec.eq_of_toNat_eq
  have low : w.toNat &&& 65535 = w.toNat % 2 ^ 16 := Nat.and_two_pow_sub_one_eq_mod w.toNat 16
  have hi := half.isLt
  have small : half.toNat * 65536 % 4294967296 = half.toNat * 65536 := Nat.mod_eq_of_lt (by omega)
  have joined : w.toNat % 2 ^ 16 ||| half.toNat * 2 ^ 16 = half.toNat * 2 ^ 16 + w.toNat % 2 ^ 16 := by
    rw [Nat.or_comm, Nat.mul_comm, Nat.two_pow_add_eq_or_of_lt (Nat.mod_lt _ (by decide))]
  have half32 : half.toNat % 4294967296 = half.toNat := Nat.mod_eq_of_lt (by omega)
  rw [BitVec.toNat_or, BitVec.toNat_and, BitVec.toNat_shiftLeft, BitVec.toNat_ofNat, zeroExtend_eq_ofNat,
    BitVec.toNat_ofNat, Nat.shiftLeft_eq]
  change w.toNat &&& 65535 ||| half.toNat % 4294967296 * 65536 % 4294967296 = _ % 4294967296
  rw [low, half32, small]
  exact joined.trans (Nat.mod_eq_of_lt (by omega)).symm

theorem ite_slt (a b x y : Word) : (if a.slt b then x else y) = if a.toInt < b.toInt then x else y :=
  if_congr BitVec.slt_iff_toInt_lt rfl rfl

theorem ite_ult (a b x y : Word) : (if a.ult b then x else y) = if a.toNat < b.toNat then x else y :=
  if_congr BitVec.ult_iff_toNat_lt rfl rfl

/-! ### Products and quotients (R144) -/

theorem prodU_lo (a b : Word) : (prodU a b).extractLsb' 0 32 = BitVec.ofNat 32 (a.toNat * b.toNat) := by
  apply BitVec.eq_of_toNat_eq
  simp [prodU]

theorem prodU_hi (a b : Word) : (prodU a b).extractLsb' 32 32 = BitVec.ofNat 32 (a.toNat * b.toNat / 2 ^ 32) := by
  apply BitVec.eq_of_toNat_eq
  have := Nat.mul_lt_mul'' a.isLt b.isLt
  simp [prodU, Nat.shiftRight_eq_div_pow]
  omega

theorem prodS_lo (a b : Word) : (prodS a b).extractLsb' 0 32 = BitVec.ofInt 32 (a.toInt * b.toInt) := by
  apply BitVec.eq_of_toNat_eq
  simp [prodS]
  omega

theorem prodS_hi (a b : Word) : (prodS a b).extractLsb' 32 32 = BitVec.ofInt 32 (a.toInt * b.toInt / 2 ^ 32) := by
  apply BitVec.eq_of_toNat_eq
  simp [prodS, Nat.shiftRight_eq_div_pow]
  omega

/-- The quotient out of range is that of the smallest number by -1 (R144). -/
theorem smallest_by_minus_one_iff (a b : Word) :
    (a = 0x80000000 ∧ b = 0xFFFFFFFF) ↔ (a.toInt = -2147483648 ∧ b.toInt = -1) := by
  simp only [← BitVec.toInt_inj]
  rfl

theorem divS_eq (a b : Word) : divS a b =
    if b = 0 then (if 0 ≤ a.toInt then 0x7FFFFFFF else 0x80000000, 0)
    else if a.toInt = -2147483648 ∧ b.toInt = -1 then (0x7FFFFFFF, 0)
    else (BitVec.ofInt 32 (a.toInt.tdiv b.toInt), BitVec.ofInt 32 (a.toInt.tmod b.toInt)) := by
  simp only [divS, smallest_by_minus_one_iff]

/-- Settles O12: each row is `plainOp` or `pairOp` on the state after the wait, with the result as the number the row gives. -/
theorem integerOpsKeepFlags : Obligations.IntegerOpsKeepFlags := by
  unfold Obligations.IntegerOpsKeepFlags
  constructor
  · intro s c gd ga gb imm sh half o k row a b z u flag hrow h hstr
    have plain {i : Instr} {o' : PierOp} {body : State → PierRes} {r : Word} (op : pierOp i = some o') (hc : o'.core = c)
        (h : Issues s i o 0 k) (hstr : Straight (s.put c gd r) c ((s.core c).pc + 4))
        (hb : body (s.waited o) = (s.waited o).plainOp c gd r) :
        ∃ t, s.pierAct i 0 body = .next t ∧ CoreOnly s t c ((s.core c).pc + 4) ∧ Writes s t c gd r ∧
          t.flagsOf c = s.flagsOf c := State.pierAct_plain h ((h.core_eq op).trans hc) hb hstr
    simp only [List.mem_cons, List.not_mem_nil, or_false] at hrow
    rcases hrow with rfl | rfl | rfl | rfl | rfl | rfl | rfl | rfl | rfl | rfl | rfl | rfl | rfl | rfl | rfl | rfl | rfl |
      rfl | rfl | rfl | rfl | rfl
    · exact plain rfl rfl h hstr rfl
    · exact plain rfl rfl h hstr rfl
    · exact plain rfl rfl h hstr (by rw [ite_slt]; rfl)
    · exact plain rfl rfl h hstr (by rw [ite_slt]; rfl)
    · exact plain rfl rfl h hstr (by rw [ite_ult]; rfl)
    · exact plain rfl rfl h hstr (by rw [ite_ult]; rfl)
    · exact plain rfl rfl h hstr rfl
    · exact plain rfl rfl h hstr (by rw [zeroExtend_eq_ofNat]; rfl)
    · exact plain rfl rfl h hstr (by rw [zeroExtend_eq_ofNat]; rfl)
    · exact plain rfl rfl h hstr (by rw [zeroExtend_eq_ofNat]; rfl)
    · exact plain rfl rfl h hstr (by rw [shiftLeft_eq_ofNat]; rfl)
    · exact plain rfl rfl h hstr (by rw [ushiftRight_eq_ofNat]; rfl)
    · exact plain rfl rfl h hstr (by rw [sshiftRight_eq_ofInt]; rfl)
    · exact plain rfl rfl h hstr (by rw [BitVec.slt, toInt_signExtend (by decide)]; rfl)
    · exact plain rfl rfl h hstr (by rw [BitVec.ult, toNat_zeroExtend (by decide)]; rfl)
    · exact plain rfl rfl h hstr (by rw [zeroExtend_eq_ofNat])
    · exact plain rfl rfl h hstr (by rw [imh_eq_ofNat]; rfl)
    · exact plain rfl rfl h hstr (by rw [prodU_lo]; rfl)
    · exact plain rfl rfl h hstr (by rw [prodS_hi]; rfl)
    · exact plain rfl rfl h hstr (by rw [prodU_hi]; rfl)
    · exact plain rfl rfl h hstr (by rw [divS_eq, apply_ite Prod.fst, apply_ite Prod.fst]; rfl)
    · exact plain rfl rfl h hstr (by rw [divU, apply_ite Prod.fst]; rfl)
  · intro s c gd ga gb o k row a b hrow h hstr
    have paired {i : Instr} {o' : PierOp} {body : State → PierRes} {lo hi : Word} (op : pierOp i = some o')
        (hc : o'.core = c) (legal : o'.legal = groupOk gd 2) (h : Issues s i o 0 k)
        (hstr : Straight (s.putGroup c gd [lo, hi]) c ((s.core c).pc + 4))
        (hb : body (s.waited o) = (s.waited o).pairOp c gd lo hi) :
        ∃ t, s.pierAct i 0 body = .next t ∧ CoreOnly s t c ((s.core c).pc + 4) ∧ WritesGroup s t c gd [lo, hi] ∧
          t.flagsOf c = s.flagsOf c :=
      State.pierAct_group h ((h.core_eq op).trans hc)
        (pair_fits (legal ▸ Option.some.inj (h.op.symm.trans op) ▸ h.legal)) hb hstr
    simp only [List.mem_cons, List.not_mem_nil, or_false] at hrow
    rcases hrow with rfl | rfl | rfl | rfl
    · exact paired rfl rfl rfl h hstr (by rw [prodS_lo, prodS_hi]; rfl)
    · exact paired rfl rfl rfl h hstr (by rw [prodU_lo, prodU_hi]; rfl)
    · exact paired rfl rfl rfl h hstr (by rw [divS_eq]; rfl)
    · exact paired rfl rfl rfl h hstr rfl

end Sys2Proof.Machine
end

section
/-! The Q31 and binary32 instructions (R145 to R148): saturation with its sticky flag, and the exception flag. -/

namespace Sys2Proof.Machine

set_option Elab.async false

/-- The saturation of R145, as the nearest number of the range and whether the result lay outside it. -/
theorem sat31_eq (z : Int) : sat31 z =
    (BitVec.ofInt 32 (max (-2147483648) (min 2147483647 z)), decide (z < -2147483648 ∨ 2147483647 < z)) := by
  unfold sat31
  by_cases above : 2 ^ 31 - 1 < z
  · rw [if_pos above, min_eq_left (by omega), max_eq_right (by omega), decide_eq_true (by omega)]
    rfl
  · rw [if_neg above, min_eq_right (by omega)]
    by_cases below : z < -2 ^ 31
    · rw [if_pos below, max_eq_left (by omega), decide_eq_true (by omega)]
      rfl
    · rw [if_neg below, max_eq_right (by omega), decide_eq_false (by omega)]

theorem and_0x7FFFFFFF_eq_ofNat (w : Word) : w &&& 0x7FFFFFFF = BitVec.ofNat 32 (w.toNat % 2 ^ 31) := by
  apply BitVec.eq_of_toNat_eq
  have low : w.toNat &&& 2147483647 = w.toNat % 2 ^ 31 := Nat.and_two_pow_sub_one_eq_mod w.toNat 31
  rw [BitVec.toNat_and, BitVec.toNat_ofNat, Nat.mod_eq_of_lt (by omega)]
  exact low

theorem xor_0x80000000_eq_ofNat (w : Word) : w ^^^ 0x80000000 = BitVec.ofNat 32 ((w.toNat + 2 ^ 31) % 2 ^ 32) := by
  apply BitVec.eq_of_getLsbD_eq
  intro i hi
  have top : (0x80000000 : Word).getLsbD i = decide (i = 31) := by
    rw [show (0x80000000 : Word) = BitVec.twoPow 32 31 from rfl, BitVec.getLsbD_twoPow]
    simp [eq_comm]
  rw [BitVec.getLsbD_xor, top, BitVec.getLsbD_ofNat, Nat.testBit_mod_two_pow, Nat.add_comm]
  by_cases h : i = 31
  · subst h
    rw [Nat.testBit_two_pow_add_eq]
    simp [BitVec.getLsbD]
  · rw [Nat.testBit_two_pow_add_gt (by omega)]
    simp [h, hi, BitVec.getLsbD]

/-- An instruction that may set the sticky flag QS (R145). -/
theorem State.pierAct_stickyQs {s : State} {i : Instr} {o : PierOp} {k : RunTask} {body : State → PierRes} {c : CoreId}
    {gd : Gpr} {r : Word} (q : Bool) (h : Issues s i o 0 k) (hc : o.core = c)
    (hb : body (s.waited o) = .next (((s.waited o).stickyQs c q).put c gd r))
    (hstr : Straight (s.put c gd r) c ((s.core c).pc + 4)) :
    ∃ t, s.pierAct i 0 body = .next t ∧ CoreOnly s t c ((s.core c).pc + 4) ∧ Writes s t c gd r ∧
      t.flagsOf c = ((s.core c).z, (s.core c).n, (s.core c).c, (s.core c).v, (s.core c).qs || q, (s.core c).fx) := by
  obtain ⟨t, run, rest, written, flags⟩ :=
    State.pierAct_ifFlags q (fun k => { k with qs := true }) h hc (fun _ => ⟨rfl, rfl, rfl⟩) hb hstr
  refine ⟨t, run, rest, written, ?_⟩
  cases q <;> simpa [State.flagsOf] using flags

/-- An instruction that may set the sticky flag FX (R146). -/
theorem State.pierAct_stickyFx {s : State} {i : Instr} {o : PierOp} {k : RunTask} {body : State → PierRes} {c : CoreId}
    {gd : Gpr} {r : Word} (x : Bool) (h : Issues s i o 0 k) (hc : o.core = c)
    (hb : body (s.waited o) = .next (((s.waited o).stickyFx c x).put c gd r))
    (hstr : Straight (s.put c gd r) c ((s.core c).pc + 4)) :
    ∃ t, s.pierAct i 0 body = .next t ∧ CoreOnly s t c ((s.core c).pc + 4) ∧ Writes s t c gd r ∧
      t.flagsOf c = ((s.core c).z, (s.core c).n, (s.core c).c, (s.core c).v, (s.core c).qs, (s.core c).fx || x) := by
  obtain ⟨t, run, rest, written, flags⟩ :=
    State.pierAct_ifFlags x (fun k => { k with fx := true }) h hc (fun _ => ⟨rfl, rfl, rfl⟩) hb hstr
  refine ⟨t, run, rest, written, ?_⟩
  cases x <;> simpa [State.flagsOf] using flags

/-- Both sticky flags, where set, are the only change of the core. -/
theorem CoreUpd.sticky {s w : State} {c : CoreId} (h : CoreUpd s w c) (q x : Bool) :
    CoreUpd s ((w.stickyQs c q).stickyFx c x) c := by
  have one : CoreUpd s (w.stickyQs c q) c := by
    cases q
    · exact h
    · exact h.mod (fun k => { k with qs := true }) (fun _ => rfl) (fun _ => rfl)
  cases x
  · exact one
  · exact one.mod (fun k => { k with fx := true }) (fun _ => rfl) (fun _ => rfl)

/-- Settles O13: each row is `qOp`, `fOp` or `plainOp`, that is a sticky flag and a result in gd; FTOQ may set both flags. -/
theorem fractionAndFloatResults : Obligations.FractionAndFloatResults := by
  unfold Obligations.FractionAndFloatResults
  refine ⟨?_, ?_, ?_⟩
  · intro s c gd ga gb o k row a b d p hrow r h hstr
    have fraction {i : Instr} {o' : PierOp} {body : State → PierRes} {z : Int} (op : pierOp i = some o') (hc : o'.core = c)
        (h : Issues s i o 0 k)
        (hstr : Straight (s.put c gd (BitVec.ofInt 32 (max (-2147483648) (min 2147483647 z)))) c ((s.core c).pc + 4))
        (hb : body (s.waited o) = (s.waited o).qOp c gd z) :=
      State.pierAct_stickyQs (decide (z < -2147483648 ∨ 2147483647 < z)) h ((h.core_eq op).trans hc)
        (hb.trans (by rw [State.qOp, sat31_eq])) hstr
    simp only [List.mem_cons, List.not_mem_nil, or_false] at hrow
    rcases hrow with rfl | rfl | rfl | rfl | rfl | rfl | rfl | rfl
    · exact fraction rfl rfl h hstr rfl
    · exact fraction rfl rfl h hstr rfl
    · exact fraction rfl rfl h hstr rfl
    · exact fraction rfl rfl h hstr rfl
    · exact fraction rfl rfl h hstr rfl
    · exact fraction rfl rfl h hstr rfl
    · exact fraction rfl rfl h hstr (by rw [Int.natCast_natAbs]; rfl)
    · exact fraction rfl rfl h hstr rfl
  · intro s c gd ga gb o k row a b d flag hrow h hstr
    have float {i : Instr} {o' : PierOp} {body : State → PierRes} {r : Word × Bool} (op : pierOp i = some o')
        (hc : o'.core = c) (h : Issues s i o 0 k) (hstr : Straight (s.put c gd r.1) c ((s.core c).pc + 4))
        (hb : body (s.waited o) = (s.waited o).fOp c gd r) :=
      State.pierAct_stickyFx r.2 h ((h.core_eq op).trans hc) hb hstr
    simp only [List.mem_cons, List.not_mem_nil, or_false] at hrow
    rcases hrow with rfl | rfl | rfl | rfl | rfl | rfl | rfl | rfl | rfl | rfl | rfl | rfl | rfl | rfl | rfl | rfl | rfl |
      rfl | rfl | rfl
    · exact float rfl rfl h hstr rfl
    · exact float rfl rfl h hstr rfl
    · exact float rfl rfl h hstr rfl
    · exact float rfl rfl h hstr rfl
    · exact float rfl rfl h hstr rfl
    · exact float rfl rfl h hstr rfl
    · exact float rfl rfl h hstr rfl
    · exact float rfl rfl h hstr rfl
    · exact float rfl rfl h hstr rfl
    · exact float rfl rfl h hstr (by rw [and_0x7FFFFFFF_eq_ofNat]; rfl)
    · exact float rfl rfl h hstr (by rw [xor_0x80000000_eq_ofNat]; rfl)
    · exact float rfl rfl h hstr rfl
    · exact float rfl rfl h hstr rfl
    · exact float rfl rfl h hstr rfl
    · exact float rfl rfl h hstr rfl
    · exact float rfl rfl h hstr rfl
    · exact float rfl rfl h hstr rfl
    · exact float rfl rfl h hstr rfl
    · exact float rfl rfl h hstr rfl
    · exact float rfl rfl h hstr rfl
  · intro s c gd ga o k z h hstr
    have hc : o.core = c := h.core_eq rfl
    have sticky : CoreUpd s (((s.waited o).stickyQs c z.2.1).stickyFx c z.2.2) c :=
      (hc ▸ CoreUpd.waited s o : CoreUpd s (s.waited o) c).sticky z.2.1 z.2.2
    have slice : ((((s.waited o).stickyQs c z.2.1).stickyFx c z.2.2).core c).slice = ((s.waited o).core c).slice := by
      cases z.2.1 <;> cases z.2.2 <;> simp [State.stickyQs, State.stickyFx, State.modCore]
    obtain ⟨t, run, rest, written, flags⟩ := State.pierAct_put (y := false) h hc sticky slice (body := fun u =>
        .next (((u.stickyQs c (fToQ (u.ra c ga)).2.1).stickyFx c (fToQ (u.ra c ga)).2.2).put c gd
          (BitVec.ofInt 32 (fToQ (u.ra c ga)).1))) rfl hstr
    refine ⟨t, run, rest, written, flags.trans ?_⟩
    cases z.2.1 <;> cases z.2.2 <;> simp [State.stickyQs, State.stickyFx, State.modCore, State.flagsOf, State.waited, hc]

end Sys2Proof.Machine
end

section
/-! Branches and jumps (R149, R150, R153): how an instruction that issues ends by what its own effect comes to, and what a jump
leaves of the counted loops. -/

namespace Sys2Proof.Machine

set_option Elab.async false

/-! ### How an instruction that issues ends -/

/-- What follows the own effect of an instruction of task `k` that issues on `s`: the last part of `State.pierRun`. -/
def State.conclude (s : State) (o : PierOp) (k : RunTask) (extra : Nat) (r : PierRes) : State :=
  let c := o.core
  let spent (u : State) : State := u.modCore c fun q => q.spend (s.costOf o extra)
  let clk := ((s.waited o).core c).clk
  let issue := if (s.core c).joins o then clk - 1 else clk
  match r with
  | .trap cause => (spent (s.waited o)).trap c cause
  | .memUe => (spent (s.waited o)).trap c 5 1
  | .deckUe u => (spent u).trap c 4
  | .owner u => (spent u).trap c 3
  | .wait => (s.waited o).modCore c fun q => { q with stall := true }
  | .next u => u.pierDone o (s.costOf o extra) issue ((s.core c).joins o) ((s.core c).pc + 4)
  | .jump u pc => (if k.background then u.leaveLevels c pc else u).pierDone o (s.costOf o extra) issue ((s.core c).joins o) pc
  | .yield u =>
    let (v, pc) := u.endOfBody c ((s.core c).pc + 4) 4
    let v := v.modCore c fun q => { q.spend (s.costOf o extra) with pc := pc, pair := none }
    if k.background then v.bpLeave c else v.fpNext c (k.order + 1)

/-- An instruction that issues waits for its registers and ends by its own effect. -/
theorem State.pierRun_eq_conclude {s : State} {i : Instr} {o : PierOp} {extra : Nat} {k : RunTask} (body : State → PierRes)
    (y : Bool) (h : Issues s i o extra k) : s.pierRun o extra body y = s.conclude o k extra (body (s.waited o)) := by
  have held : (!(if k.background then o.legal else o.fpOk)) = false := by rw [h.held]; rfl
  have budget : (!k.background && (decide ((s.core o.core).bc < s.waitOf o + s.costOf o extra) ||
      ((s.core o.core).bc == s.waitOf o + s.costOf o extra && !y))) = false := by
    have fits := h.fits
    cases bg : k.background
    · simp only [bg, Bool.false_eq_true, if_false] at fits
      have later : (s.core o.core).bc ≠ s.waitOf o + s.costOf o extra := by omega
      simp [later, show ¬ (s.core o.core).bc < s.waitOf o + s.costOf o extra by omega]
    · rfl
  have fetched : (s.setCore o.core ((s.core o.core).spend (s.waitOf o))).fetched o.core (s.core o.core).pc = s.waited o :=
    State.fetched_clean h.clean
  have wait : (if (s.core o.core).joins o = true then 0 else (s.core o.core).readyAt o.reads - (s.core o.core).clk) =
    s.waitOf o := rfl
  have cost : (if (s.core o.core).joins o = true then 0 else o.cost + extra) = s.costOf o extra := rfl
  have pc : ((s.waited o).core o.core).pc = (s.core o.core).pc := by simp [State.waited]
  unfold State.pierRun
  simp only [h.task]
  rw [if_neg (by simp [h.going, h.free, h.fetched]), if_neg (by simp [h.inCode, h.aligned]), if_neg (by simp [h.clean]),
    held, if_neg Bool.false_ne_true, wait, cost, budget, if_neg Bool.false_ne_true, fetched]
  unfold State.conclude
  cases body (s.waited o) <;> simp only [pc]

theorem State.pierAct_eq_conclude {s : State} {i : Instr} {o : PierOp} {extra : Nat} {k : RunTask}
    (body : State → PierRes) (y : Bool) (h : Issues s i o extra k) :
    s.pierAct i extra body y = .next (s.conclude o k extra (body (s.waited o))) := by
  unfold State.pierAct
  rw [h.op]
  exact (State.act_eq _ h.serves).trans (by rw [State.pierRun_eq_conclude body y h])

/-- A test of a core's memory holds off background code only (R453). -/
theorem State.bpPreempt_of_tested {u : State} {c : Nat} {kf : CoreSt} {k : RunTask} (task : kf.task = some k)
    (untested : k.background = true → u.tcmTested c = false) :
    (if (u.setCore c kf).tcmTested c then (u.setCore c kf).bpPreempt c else u.setCore c kf) = u.setCore c kf := by
  cases bg : k.background
  · simp [State.bpPreempt, task, bg]
  · have same : (u.setCore c kf).tcmTested c = u.tcmTested c := rfl
    rw [same, untested bg, if_neg Bool.false_ne_true]

/-- An instruction that is done where no loop body ends: code goes on at `pc`, and nothing but its core's state changes. -/
theorem State.pierDone_straight {u : State} {o : PierOp} {k : RunTask} {cost issue pc : Nat} {joined : Bool}
    (task : (u.core o.core).task = some k) (goes : k.background = true → cost < (u.core o.core).slice)
    (untested : k.background = true → u.tcmTested o.core = false) (straight : Straight u o.core pc) :
    ∃ kf : CoreSt, u.pierDone o cost issue joined pc = u.setCore o.core kf ∧ kf.pc = pc ∧ kf.task = some k ∧
      (u.setCore o.core kf).flagsOf o.core = u.flagsOf o.core ∧ kf.stall = (u.core o.core).stall := by
  have slice : (k.background && ((u.core o.core).spend cost).slice == 0) = false := by
    cases bg : k.background
    · rfl
    · have left : (u.core o.core).slice - cost ≠ 0 := by have := goes bg; omega
      simp [CoreSt.spend, task, bg, left]
  unfold State.pierDone
  simp only [task, State.endOfBody_straight straight 4 (Nat.le_refl 4), State.modCore, State.core_setCore_same,
    CoreSt.setReady, slice]
  rw [if_neg Bool.false_ne_true, State.bpPreempt_of_tested (k := k) (by simp [task]) untested]
  exact ⟨_, rfl, rfl, by simp [task], by simp [State.flagsOf], by simp⟩

/-! ### Jumps and the counted loops (R153) -/

/-- A jump that lands in every active body, or just after it, leaves none. -/
theorem State.leaveLevels_inside {u : State} {c pc : Nat} (h : Inside u c pc) : u.leaveLevels c pc = u := by
  unfold State.leaveLevels
  rw [List.find?_eq_none.mpr]
  intro k hk
  have := h k (by simpa using hk)
  simp
  intro on
  exact this on

theorem State.clearLevel_regsOnly (u : State) (c k : Nat) : RegsOnly u (u.clearLevel c k) :=
  (u.setGpr_regsOnly _ _ _).trans (State.setGpr_regsOnly _ _ _ _)

theorem State.leaveLevels_regsOnly (u : State) (c pc : Nat) : RegsOnly u (u.leaveLevels c pc) := by
  unfold State.leaveLevels
  split
  · exact ⟨_, rfl⟩
  · exact State.each_regsOnly (fun s j => s.clearLevel_regsOnly c j) _ u

theorem State.gpr_clearLevel (u : State) (c k : Nat) (hk : k < 4) (c' g : Nat) (hg : g < 64) :
    (u.clearLevel c k).gpr c' g = if c' = c ∧ (g = 56 + 2 * k ∨ g = 57 + 2 * k) then 0 else u.gpr c' g := by
  unfold State.clearLevel
  rw [State.gpr_setGpr _ _ _ _ _ _ (by omega) hg, State.gpr_setGpr _ _ _ _ _ _ (by omega) hg]
  grind

theorem State.gpr_each_clearLevel (c : Nat) (l : List Nat) (hl : ∀ k ∈ l, k < 4) (u : State) (c' g : Nat) (hg : g < 64) :
    (u.each l fun s j => s.clearLevel c j).gpr c' g =
      if c' = c ∧ ∃ k ∈ l, g = 56 + 2 * k ∨ g = 57 + 2 * k then 0 else u.gpr c' g := by
  induction l generalizing u with
  | nil => simp [State.each]
  | cons k l ih =>
    have step : (u.each (k :: l) fun s j => s.clearLevel c j) = (u.clearLevel c k).each l fun s j => s.clearLevel c j := rfl
    rw [step, ih (fun j hj => hl j (List.mem_cons_of_mem k hj)), State.gpr_clearLevel _ _ _ (hl k List.mem_cons_self) _ _ hg]
    by_cases hc : c' = c <;> by_cases first : g = 56 + 2 * k ∨ g = 57 + 2 * k <;> simp [hc, first]

/-- A jump out of the body of level `d`, and of no level before it, clears the levels from `d` on. -/
theorem State.gpr_leaveLevels {u : State} {c d pc : Nat} (h : Leaves u c d pc) (c' g : Nat) (hg : g < 64) :
    (u.leaveLevels c pc).gpr c' g = if c' = c ∧ 56 + 2 * d ≤ g then 0 else u.gpr c' g := by
  obtain ⟨hd, on, out, before⟩ := h
  have found : (List.range 4).find? (fun k => u.levelOn c k && !((u.levelBody c k).1 ≤ pc && pc ≤ (u.levelBody c k).2)) =
      some d := by
    rw [List.find?_range_eq_some]
    refine ⟨?_, List.mem_range.mpr hd, fun j hj => ?_⟩
    · rw [on, Bool.true_and, ← Bool.decide_and, Bool.not_eq_true', decide_eq_false_iff_not]
      exact out
    · have inside := before j hj
      cases onj : u.levelOn c j
      · rfl
      · simp [(inside onj).1, (inside onj).2.le]
  have cleared : (∃ k ∈ (List.range 4).filter (d ≤ ·), g = 56 + 2 * k ∨ g = 57 + 2 * k) ↔ 56 + 2 * d ≤ g := by
    simp only [List.mem_filter, List.mem_range, decide_eq_true_eq]
    constructor
    · rintro ⟨k, ⟨_, _⟩, _⟩
      omega
    · intro _
      exact ⟨(g - 56) / 2, by omega, by omega⟩
  unfold State.leaveLevels
  rw [found]
  dsimp only
  rw [State.gpr_each_clearLevel c _ (fun k hk => by simp at hk; omega) u c' g hg]
  simp only [cleared]

/-- No body ends at the target of such a jump any more. -/
theorem State.leaveLevels_straight {u : State} {c d pc : Nat} (h : Leaves u c d pc) : Straight (u.leaveLevels c pc) c pc := by
  intro k hk on
  unfold State.levelOn at on
  rw [State.gpr_leaveLevels h c _ (by omega)] at on
  by_cases inner : d ≤ k
  · rw [if_pos ⟨rfl, by omega⟩] at on
    simp at on
  · rw [if_neg (by omega)] at on
    have same : (u.leaveLevels c pc).levelBody c k = u.levelBody c k := by
      unfold State.levelBody
      rw [State.gpr_leaveLevels h c _ (by omega), if_neg (by omega)]
    rw [same]
    have := (h.2.2.2 k (by omega) on).2
    omega

/-! ### An instruction that jumps -/

/-- An instruction whose own effect writes general registers of its core and goes on at `pc`. -/
theorem State.pierAct_jump {s u v : State} {i : Instr} {o : PierOp} {extra : Nat} {k : RunTask} {body : State → PierRes}
    {c : CoreId} {pc : Nat} (h : Issues s i o extra k) (hc : o.core = c) (hb : body (s.waited o) = .jump u pc)
    (left : (if k.background then u.leaveLevels c pc else u) = v) (hv : RegsOnly (s.waited o) v)
    (others : ∀ c' ≠ c.val, ∀ g < 64, v.gpr c' g = s.gpr c' g) (straight : Straight v c pc) :
    ∃ t, s.pierAct i extra body = .next t ∧ CoreOnly s t c pc ∧ (∀ g, t.gpr c g = v.gpr c g) ∧
      t.flagsOf c = s.flagsOf c := by
  have waits : CoreUpd s (s.waited o) c := hc ▸ CoreUpd.waited s o
  have running : (s.core c).task = some k := hc ▸ h.task
  have goes : k.background = true → s.costOf o extra < (v.core c).slice := by
    intro bg
    have fits := h.fits
    rw [if_pos bg, hc] at fits
    rw [hv.core]
    simp only [State.waited, hc, State.core_setCore_same, CoreSt.spend, running, bg, if_true]
    omega
  have untested : k.background = true → v.tcmTested c = false := by
    intro bg
    obtain ⟨p, rfl⟩ := hv
    exact hc ▸ h.untested bg
  obtain ⟨kf, done, pc', task, flags, -⟩ := State.pierDone_straight (o := o) (cost := s.costOf o extra)
    (issue := if (s.core o.core).joins o then ((s.waited o).core o.core).clk - 1 else ((s.waited o).core o.core).clk)
    (joined := (s.core o.core).joins o) (by rw [hc, hv.core, waits.task, running]) (hc ▸ goes) (hc ▸ untested) (hc ▸ straight)
  have ends : s.conclude o k extra (body (s.waited o)) = v.setCore o.core kf := by
    rw [hb, ← done, ← left, ← hc]
    rfl
  rw [hc] at ends
  refine ⟨v.setCore c kf, (State.pierAct_eq_conclude body false h).trans (by rw [ends]), ⟨?_, ?_, ?_, ?_⟩, fun g => rfl, ?_⟩
  · obtain ⟨p, rfl⟩ := hv
    exact ⟨_, _, rfl⟩
  · intro c' hc'
    refine ⟨?_, fun g hg => (State.gpr_setCore ..).trans (others c' hc' g hg)⟩
    rw [State.core_setCore_ne _ _ _ _ (Ne.symm hc'), hv.core, waits.others _ hc']
  · simp [pc']
  · simp [task, running]
  · rw [hc] at flags
    rw [flags]
    simp [State.flagsOf, hv.core, State.waited, hc]

/-- A jump to where every active body goes on, or is just over, changes no level. -/
theorem State.pierAct_jump_inside {s u : State} {i : Instr} {o : PierOp} {extra : Nat} {k : RunTask}
    {body : State → PierRes} {c : CoreId} {pc : Nat} (h : Issues s i o extra k) (hc : o.core = c)
    (hb : body (s.waited o) = .jump u pc) (hu : RegsOnly (s.waited o) u)
    (others : ∀ c' ≠ c.val, ∀ g < 64, u.gpr c' g = s.gpr c' g) (straight : Straight u c pc)
    (inside : k.background = true → Inside u c pc) :
    ∃ t, s.pierAct i extra body = .next t ∧ CoreOnly s t c pc ∧ (∀ g, t.gpr c g = u.gpr c g) ∧
      t.flagsOf c = s.flagsOf c := by
  refine State.pierAct_jump h hc hb ?_ hu others straight
  cases bg : k.background
  · rfl
  · exact State.leaveLevels_inside (inside bg)

/-- A jump of background code out of the body of level `d` clears the levels from `d` on (R153). -/
theorem State.pierAct_jump_leaves {s u : State} {i : Instr} {o : PierOp} {extra : Nat} {k : RunTask}
    {body : State → PierRes} {c : CoreId} {pc d : Nat} (h : Issues s i o extra k) (hc : o.core = c)
    (hb : body (s.waited o) = .jump u pc) (hu : RegsOnly (s.waited o) u)
    (others : ∀ c' ≠ c.val, ∀ g < 64, u.gpr c' g = s.gpr c' g) (bg : k.background = true) (leaves : Leaves u c d pc) :
    ∃ t, s.pierAct i extra body = .next t ∧ CoreOnly s t c pc ∧ t.flagsOf c = s.flagsOf c ∧
      ∀ g < 64, t.gpr c g = if 56 + 2 * d ≤ g then 0 else u.gpr c g := by
  obtain ⟨t, run, rest, gprs, flags⟩ := State.pierAct_jump h hc hb (if_pos bg) (hu.trans (u.leaveLevels_regsOnly c pc))
    (fun c' hc' g hg => by
      rw [State.gpr_leaveLevels leaves _ _ hg, if_neg (fun x => hc' x.1), others c' hc' g hg])
    (State.leaveLevels_straight leaves)
  refine ⟨t, run, rest, flags, fun g hg => ?_⟩
  rw [gprs, State.gpr_leaveLevels leaves _ _ hg]
  simp

end Sys2Proof.Machine
end

section
/-! What raising an event leaves alone (R427 to R432): the recorder's queue and buckets change, a standby's outbox, and the
count of lost events; every other part of the device stays as it was. -/

namespace Sys2Proof.Machine

set_option Elab.async false

/-- `t` is `s` but for the recorder's state, the mirror's outbox and the count of events lost to a full queue. -/
structure EventOnly (s t : State) : Prop where
  rest : ∃ evr outbox, t = { s with rf := t.rf, evr := evr, twin := { s.twin with outbox := outbox } }
  rd : ∀ f i j, f.key i j ≠ F.EVR_QLOST.key 0 0 → t.rd f i j = s.rd f i j

namespace EventOnly

variable {s t u : State}

theorem refl (s : State) : EventOnly s s := ⟨⟨_, _, rfl⟩, fun _ _ _ _ => rfl⟩

theorem trans (h : EventOnly s t) (h' : EventOnly t u) : EventOnly s u := by
  refine ⟨?_, fun f i j hf => (h'.rd f i j hf).trans (h.rd f i j hf)⟩
  obtain ⟨e, o, ht⟩ := h.rest
  obtain ⟨e', o', hu⟩ := h'.rest
  refine ⟨e', o', ?_⟩
  rw [hu, ht]

theorem evr (s : State) (e : EvrSt) : EventOnly s { s with evr := e } := ⟨⟨_, _, rfl⟩, fun _ _ _ _ => rfl⟩

theorem lost (s : State) : EventOnly s (s.incSat F.EVR_QLOST) :=
  ⟨⟨_, _, rfl⟩, fun _ _ _ hf => s.rd_wr_ne _ _ _ _ _ _ _ (Ne.symm hf)⟩

theorem setBucket (s : State) (code : Nat) (b : Bucket) : EventOnly s (s.setBucket code b) := EventOnly.evr s _

theorem enqueue (s : State) (e : EvtEntry) : EventOnly s (s.enqueue e) := by
  unfold State.enqueue
  split
  · exact ⟨⟨_, _, rfl⟩, fun _ _ _ _ => rfl⟩
  · split
    · exact lost s
    · exact EventOnly.evr s _

theorem summarize (s : State) (code : Nat) : EventOnly s (s.summarize code) := by
  unfold State.summarize
  extract_lets b
  split
  · exact refl s
  · exact (setBucket s code _).trans (enqueue _ _)

theorem tokenReturn (s : State) (code : Nat) : EventOnly s (s.tokenReturn code) := by
  unfold State.tokenReturn
  extract_lets b p
  split
  · exact refl s
  · exact (setBucket s code _).trans (summarize _ code)

theorem admitEvent (s : State) (e : EvtEntry) : EventOnly s (s.admitEvent e) := by
  unfold State.admitEvent
  split
  · exact enqueue s e
  · split
    · exact refl s
    · extract_lets t b
      have token : EventOnly s t := tokenReturn s e.code
      split
      · exact token.trans ((setBucket t e.code _).trans (enqueue _ e))
      · exact token.trans (setBucket t e.code _)

theorem takeEvent (s : State) (e : EvtEntry) : EventOnly s (s.takeEvent e) := by
  unfold State.takeEvent
  split
  · exact admitEvent s e
  · split
    · exact lost s
    · exact EventOnly.evr s _

theorem raise (s : State) (code index : Nat) (words : List Nat) (pier : Option Nat) :
    EventOnly s (s.raise code index words pier) := takeEvent s _

theorem event (s : State) (code : Nat) (words : List Nat) : EventOnly s (s.event code words) := takeEvent s _

theorem eventAt (s : State) (code : Nat) (words : List Nat) (stamp : Nat × Nat) :
    EventOnly s (s.eventAt code words stamp) := takeEvent s _

theorem sortEvents (s : State) (n : Nat) : EventOnly s (s.sortEvents n) := EventOnly.evr s _

theorem each {α : Type} (l : List α) {f : State → α → State} (h : ∀ s a, EventOnly s (f s a)) (s : State) :
    EventOnly s (s.each l f) := by
  unfold State.each
  induction l generalizing s with
  | nil => exact refl s
  | cons a l ih => exact (h s a).trans (ih _)

section

variable (h : EventOnly s t)
include h

theorem pending : t.pending = s.pending := by obtain ⟨e, o, ht⟩ := h.rest; rw [ht]
theorem deck : t.deck = s.deck := by obtain ⟨e, o, ht⟩ := h.rest; rw [ht]
theorem span : t.span = s.span := by obtain ⟨e, o, ht⟩ := h.rest; rw [ht]
theorem pts : t.pts = s.pts := by obtain ⟨e, o, ht⟩ := h.rest; rw [ht]
theorem pier : t.pier = s.pier := by obtain ⟨e, o, ht⟩ := h.rest; rw [ht]
theorem conv : t.conv = s.conv := by obtain ⟨e, o, ht⟩ := h.rest; rw [ht]
theorem sens : t.sens = s.sens := by obtain ⟨e, o, ht⟩ := h.rest; rw [ht]
theorem sol : t.sol = s.sol := by obtain ⟨e, o, ht⟩ := h.rest; rw [ht]
theorem mot : t.mot = s.mot := by obtain ⟨e, o, ht⟩ := h.rest; rw [ht]
theorem fan : t.fan = s.fan := by obtain ⟨e, o, ht⟩ := h.rest; rw [ht]
theorem meter : t.meter = s.meter := by obtain ⟨e, o, ht⟩ := h.rest; rw [ht]
theorem tre : t.tre = s.tre := by obtain ⟨e, o, ht⟩ := h.rest; rw [ht]
theorem keep : t.keep = s.keep := by obtain ⟨e, o, ht⟩ := h.rest; rw [ht]
theorem health : t.health = s.health := by obtain ⟨e, o, ht⟩ := h.rest; rw [ht]
theorem power : t.power = s.power := by obtain ⟨e, o, ht⟩ := h.rest; rw [ht]
theorem port : t.port = s.port := by obtain ⟨e, o, ht⟩ := h.rest; rw [ht]
theorem posted : t.posted = s.posted := by obtain ⟨e, o, ht⟩ := h.rest; rw [ht]
theorem resp : t.resp = s.resp := by obtain ⟨e, o, ht⟩ := h.rest; rw [ht]
theorem busHeld : t.busHeld = s.busHeld := by obtain ⟨e, o, ht⟩ := h.rest; rw [ht]
theorem dbg : t.dbg = s.dbg := by obtain ⟨e, o, ht⟩ := h.rest; rw [ht]
theorem freeCtr : t.freeCtr = s.freeCtr := by obtain ⟨e, o, ht⟩ := h.rest; rw [ht]

theorem bit (f : Fld) (i j : Nat) (hf : f.key i j ≠ F.EVR_QLOST.key 0 0) : t.bit f i j = s.bit f i j := by
  unfold State.bit; rw [h.rd f i j hf]

theorem core (c : Nat) : t.core c = s.core c := by unfold State.core; rw [h.pier]
theorem gpr (c g : Nat) : t.gpr c g = s.gpr c g := by unfold State.gpr; rw [h.pier]

end

end EventOnly

/-! ### `raise`, part by part -/

section

variable (s : State) (code index : Nat) (words : List Nat) (pier : Option Nat)

theorem State.event_eq_raise : s.event code words = s.raise code 0xFF words := rfl

@[simp] theorem State.raise_pending : (s.raise code index words pier).pending = s.pending := (EventOnly.raise s code index words pier).pending
@[simp] theorem State.raise_deck : (s.raise code index words pier).deck = s.deck := (EventOnly.raise s code index words pier).deck
@[simp] theorem State.raise_span : (s.raise code index words pier).span = s.span := (EventOnly.raise s code index words pier).span
@[simp] theorem State.raise_pts : (s.raise code index words pier).pts = s.pts := (EventOnly.raise s code index words pier).pts
@[simp] theorem State.raise_pier : (s.raise code index words pier).pier = s.pier := (EventOnly.raise s code index words pier).pier
@[simp] theorem State.raise_conv : (s.raise code index words pier).conv = s.conv := (EventOnly.raise s code index words pier).conv
@[simp] theorem State.raise_sens : (s.raise code index words pier).sens = s.sens := (EventOnly.raise s code index words pier).sens
@[simp] theorem State.raise_sol : (s.raise code index words pier).sol = s.sol := (EventOnly.raise s code index words pier).sol
@[simp] theorem State.raise_mot : (s.raise code index words pier).mot = s.mot := (EventOnly.raise s code index words pier).mot
@[simp] theorem State.raise_fan : (s.raise code index words pier).fan = s.fan := (EventOnly.raise s code index words pier).fan
@[simp] theorem State.raise_meter : (s.raise code index words pier).meter = s.meter := (EventOnly.raise s code index words pier).meter
@[simp] theorem State.raise_tre : (s.raise code index words pier).tre = s.tre := (EventOnly.raise s code index words pier).tre
@[simp] theorem State.raise_keep : (s.raise code index words pier).keep = s.keep := (EventOnly.raise s code index words pier).keep
@[simp] theorem State.raise_health : (s.raise code index words pier).health = s.health := (EventOnly.raise s code index words pier).health
@[simp] theorem State.raise_power : (s.raise code index words pier).power = s.power := (EventOnly.raise s code index words pier).power
@[simp] theorem State.raise_port : (s.raise code index words pier).port = s.port := (EventOnly.raise s code index words pier).port
@[simp] theorem State.raise_posted : (s.raise code index words pier).posted = s.posted := (EventOnly.raise s code index words pier).posted
@[simp] theorem State.raise_resp : (s.raise code index words pier).resp = s.resp := (EventOnly.raise s code index words pier).resp
@[simp] theorem State.raise_busHeld : (s.raise code index words pier).busHeld = s.busHeld := (EventOnly.raise s code index words pier).busHeld
@[simp] theorem State.raise_dbg : (s.raise code index words pier).dbg = s.dbg := (EventOnly.raise s code index words pier).dbg
@[simp] theorem State.raise_freeCtr : (s.raise code index words pier).freeCtr = s.freeCtr := (EventOnly.raise s code index words pier).freeCtr
@[simp] theorem State.raise_core (c : Nat) : (s.raise code index words pier).core c = s.core c :=
  (EventOnly.raise s code index words pier).core c
@[simp] theorem State.raise_gpr (c g : Nat) : (s.raise code index words pier).gpr c g = s.gpr c g :=
  (EventOnly.raise s code index words pier).gpr c g

variable {code index words pier}

theorem State.raise_rd (f : Fld) (i j : Nat) (hf : f.key i j ≠ F.EVR_QLOST.key 0 0) :
    (s.raise code index words pier).rd f i j = s.rd f i j := (EventOnly.raise s code index words pier).rd f i j hf

theorem State.raise_bit (f : Fld) (i j : Nat) (hf : f.key i j ≠ F.EVR_QLOST.key 0 0) :
    (s.raise code index words pier).bit f i j = s.bit f i j := (EventOnly.raise s code index words pier).bit f i j hf

theorem State.raise_rd_apart {f : Fld} (i j : Nat) (hf : f.apart F.EVR_QLOST = true) :
    (s.raise code index words pier).rd f i j = s.rd f i j := s.raise_rd f i j (Fld.key_ne_of_apart hf _ _ _ _)

theorem State.raise_bit_apart {f : Fld} (i j : Nat) (hf : f.apart F.EVR_QLOST = true) :
    (s.raise code index words pier).bit f i j = s.bit f i j := s.raise_bit f i j (Fld.key_ne_of_apart hf _ _ _ _)

end

end Sys2Proof.Machine
end

section
/-! Traps (R121 to R124): what the trap registers of the schedule show, and that nothing that follows a trap in the same cycle
changes them. -/

namespace Sys2Proof.Machine

set_option Elab.async false

/-! ### What the turns of a core leave of the registers -/

/-- `t` is `s` but for the general registers and the states of the cores. -/
abbrev CoresOnly (s t : State) : Prop := ∃ gprs cores, t = { s with pier := { s.pier with gpr := gprs, core := cores } }

theorem CoresOnly.refl (s : State) : CoresOnly s s := ⟨_, _, rfl⟩

theorem CoresOnly.trans {s t u : State} (h : CoresOnly s t) (h' : CoresOnly t u) : CoresOnly s u := by
  obtain ⟨_, _, rfl⟩ := h
  obtain ⟨_, _, rfl⟩ := h'
  exact ⟨_, _, rfl⟩

theorem CoresOnly.rf {s t : State} (h : CoresOnly s t) : t.rf = s.rf := by obtain ⟨_, _, rfl⟩ := h; rfl
theorem CoresOnly.shadow {s t : State} (h : CoresOnly s t) : t.pier.shadow = s.pier.shadow := by
  obtain ⟨_, _, rfl⟩ := h; rfl

theorem RegsOnly.coresOnly {s t : State} (h : RegsOnly s t) : CoresOnly s t := by
  obtain ⟨_, rfl⟩ := h; exact ⟨_, _, rfl⟩

theorem CoresOnly.modCore {s t : State} (h : CoresOnly s t) (c : Nat) (f : CoreSt → CoreSt) : CoresOnly s (t.modCore c f) :=
  h.trans ⟨_, _, rfl⟩

theorem State.modCore_coresOnly (s : State) (c : Nat) (f : CoreSt → CoreSt) : CoresOnly s (s.modCore c f) := ⟨_, _, rfl⟩

theorem State.clearGprs_coresOnly (s : State) (c : Nat) : CoresOnly s (s.clearGprs c) := ⟨_, _, rfl⟩

theorem State.bpStart_coresOnly (s : State) (c n : Nat) (t : TaskEntry) : CoresOnly s (s.bpStart c n t) := by
  have start : RegsOnly (s.clearGprs c) (if (s.shadowOf n t.order).started
      then (s.clearGprs c).each (s.shadowOf n t.order).regs.zipIdx fun s wg => s.setGpr c (wg.2 + 1) wg.1
      else (s.clearGprs c).setGpr c 2 (BitVec.ofNat 32 t.taskNo)) := by
    split
    · exact State.each_regsOnly (fun s wg => s.setGpr_regsOnly c _ _) _ _
    · exact State.setGpr_regsOnly _ c 2 _
  unfold State.bpStart
  exact ((s.clearGprs_coresOnly c).trans start.coresOnly).modCore _ _

/-- A turn changes registers and cores only (R104). -/
theorem State.bpTurn_coresOnly (s : State) (c : Nat) : CoresOnly s (s.bpTurn c) := by
  unfold State.bpTurn
  dsimp only
  split
  · exact CoresOnly.refl s
  · split
    · exact CoresOnly.refl s
    · split
      · exact CoresOnly.refl s
      · exact s.bpStart_coresOnly c _ _

theorem State.fpStart_coresOnly (s : State) (c : Nat) (t : TaskEntry) : CoresOnly s (s.fpStart c t) := by
  unfold State.fpStart
  exact ((s.clearGprs_coresOnly c).trans (((State.setGpr_regsOnly _ _ _ _).trans (State.setGpr_regsOnly _ _ _ _)).trans
    (State.setGpr_regsOnly _ _ _ _)).coresOnly).modCore _ _

theorem State.each_rf {α : Type} (l : List α) {f : State → α → State} (h : ∀ s a, (f s a).rf = s.rf) (s : State) :
    (s.each l f).rf = s.rf := by
  unfold State.each
  induction l generalizing s with
  | nil => rfl
  | cons a l ih => exact (ih _).trans (h s a)

theorem State.undoWrites_rf (s : State) (c : Nat) : (s.undoWrites c).rf = s.rf := by
  unfold State.undoWrites
  apply State.each_rf
  intro s w
  rfl

theorem State.markOverran_rf (s : State) (no : Nat) : (s.markOverran no).rf = s.rf := by
  unfold State.markOverran; split <;> rfl

/-- What `fpNext` does after the last frame-partition task: FP_END when a task ended, and the turn of background code. -/
def State.fpOver (s : State) (c lo : Nat) : State :=
  let k := s.core c
  let s' := if lo = 0 then s else s.wr F.PIERCTL_PIER_FP_END (k.clk - coreCycles k.half 1600) (s.schedOf c)
  (s'.modCore c fun k => { k with fpDone := true, task := none, pair := none }).bpTurn c

theorem State.fpNext_eq_fpOver {s : State} {c lo : Nat}
    (last : ∀ img, (s.sch (s.schedOf c)).active = some img → nextTask (img.kind false) lo = none) :
    s.fpNext c lo = s.fpOver c lo := by
  unfold State.fpNext
  dsimp only
  cases active : (s.sch (s.schedOf c)).active with
  | none => rfl
  | some img =>
    dsimp only
    rw [last img active]
    rfl

/-- A frame-partition task follows, or none. -/
theorem State.fpNext_cases (s : State) (c lo : Nat) :
    (∃ t, s.fpNext c lo = s.fpStart c t) ∨ s.fpNext c lo = s.fpOver c lo := by
  by_cases last : ∀ img, (s.sch (s.schedOf c)).active = some img → nextTask (img.kind false) lo = none
  · exact .inr (State.fpNext_eq_fpOver last)
  · push Not at last
    obtain ⟨img, active, more⟩ := last
    obtain ⟨t, ht⟩ := Option.ne_none_iff_exists'.mp more
    refine .inl ⟨t, ?_⟩
    unfold State.fpNext
    dsimp only
    rw [active]
    dsimp only
    rw [ht]

/-- The next frame-partition task, or the end of the last one, shows in FP_END alone. -/
theorem State.fpNext_rd (s : State) (c lo : Nat) (f : Fld) (i j : Nat)
    (hf : f.key i j ≠ F.PIERCTL_PIER_FP_END.key (s.schedOf c) 0) : (s.fpNext c lo).rd f i j = s.rd f i j := by
  rcases s.fpNext_cases c lo with ⟨t, start⟩ | ends
  · rw [start]
    exact State.rd_congr (s.fpStart_coresOnly c _).rf f i j
  · rw [ends]
    unfold State.fpOver
    dsimp only
    rw [State.rd_congr (State.bpTurn_coresOnly _ c).rf, State.rd_congr (State.modCore_coresOnly _ c _).rf]
    split
    · rfl
    · exact s.rd_wr_ne _ _ _ _ _ _ _ (Ne.symm hf)

/-! ### The trap registers -/

/-- A register of the trap record of schedule `n`, and no other that a trap or the turn after it writes. -/
structure TrapField (f : Fld) (n : Nat) : Prop where
  lost : f.key n 0 ≠ F.EVR_QLOST.key 0 0
  fpEnd : ∀ m, f.key n 0 ≠ F.PIERCTL_PIER_FP_END.key m 0
  running : ∀ m, f.key n 0 ≠ F.PIERCTL_PIER_BP_CTL_RUNNING.key m 0

theorem trapField_cause (n : Nat) : TrapField F.PIERCTL_PIER_TRAP_INFO_CAUSE n := by
  constructor <;> simp only [Fld.key, F.PIERCTL_PIER_TRAP_INFO_CAUSE, F.EVR_QLOST, F.PIERCTL_PIER_FP_END,
    F.PIERCTL_PIER_BP_CTL_RUNNING] <;> intros <;> omega

theorem trapField_task (n : Nat) : TrapField F.PIERCTL_PIER_TRAP_INFO_TASK n := by
  constructor <;> simp only [Fld.key, F.PIERCTL_PIER_TRAP_INFO_TASK, F.EVR_QLOST, F.PIERCTL_PIER_FP_END,
    F.PIERCTL_PIER_BP_CTL_RUNNING] <;> intros <;> omega

theorem trapField_valid (n : Nat) : TrapField F.PIERCTL_PIER_TRAP_INFO_VALID n := by
  constructor <;> simp only [Fld.key, F.PIERCTL_PIER_TRAP_INFO_VALID, F.EVR_QLOST, F.PIERCTL_PIER_FP_END,
    F.PIERCTL_PIER_BP_CTL_RUNNING] <;> intros <;> omega

theorem trapField_pc {n : Nat} (hn : n < 24) : TrapField F.PIERCTL_PIER_TRAP_PC n := by
  constructor <;> simp only [Fld.key, F.PIERCTL_PIER_TRAP_PC, F.EVR_QLOST, F.PIERCTL_PIER_FP_END,
    F.PIERCTL_PIER_BP_CTL_RUNNING] <;> intros <;> omega

theorem trapField_overruns (n : Nat) : TrapField F.PIERCTL_PIER_TRAP_COUNT_OVERRUNS n := by
  constructor <;> simp only [Fld.key, F.PIERCTL_PIER_TRAP_COUNT_OVERRUNS, F.EVR_QLOST, F.PIERCTL_PIER_FP_END,
    F.PIERCTL_PIER_BP_CTL_RUNNING] <;> intros <;> omega

theorem trapField_other (n : Nat) : TrapField F.PIERCTL_PIER_TRAP_COUNT_OTHER n := by
  constructor <;> simp only [Fld.key, F.PIERCTL_PIER_TRAP_COUNT_OTHER, F.EVR_QLOST, F.PIERCTL_PIER_FP_END,
    F.PIERCTL_PIER_BP_CTL_RUNNING] <;> intros <;> omega

/-- A trap other than cause 5 leaves the trap registers as `trapRecord` wrote them. -/
theorem State.trap_rd {s : State} {c cause : Nat} {k : RunTask} (task : (s.core c).task = some k) (hcause : cause ≠ 5)
    {f : Fld} {n : Nat} (hf : TrapField f n) : (s.trap c cause).rd f n 0 = (s.trapRecord c cause).rd f n 0 := by
  unfold State.trap
  simp only [task, if_neg hcause]
  cases k.background
  · rw [if_neg Bool.false_ne_true, if_neg Bool.false_ne_true, State.fpNext_rd _ _ _ _ _ _ (hf.fpEnd _)]
    exact State.rd_congr ((State.markOverran_rf _ _).trans (State.undoWrites_rf _ _)) f n 0
  · rw [if_pos rfl, if_pos rfl, State.rd_congr (State.bpTurn_coresOnly _ _).rf, State.rd_congr (State.modCore_coresOnly _ _ _).rf]
    unfold State.clrMap
    split
    · exact State.rd_wr_ne _ _ _ _ _ _ _ _ (Ne.symm (hf.running _))
    · rfl

/-- What the trap registers show (R124): task, cause, PC of the trapping instruction, and one trap counted. -/
structure TrapShown (s t : State) (c code : Nat) (k : RunTask) : Prop where
  cause : t.rd F.PIERCTL_PIER_TRAP_INFO_CAUSE (s.schedOf c) = code % 2 ^ 3
  task : t.rd F.PIERCTL_PIER_TRAP_INFO_TASK (s.schedOf c) = k.taskNo % 2 ^ 16
  valid : t.bit F.PIERCTL_PIER_TRAP_INFO_VALID (s.schedOf c) = true
  pc : t.rd F.PIERCTL_PIER_TRAP_PC (s.schedOf c) = (s.core c).pc % 2 ^ F.PIERCTL_PIER_TRAP_PC.width
  overruns : code = 1 → t.rd F.PIERCTL_PIER_TRAP_COUNT_OVERRUNS (s.schedOf c) =
    min 65535 (s.rd F.PIERCTL_PIER_TRAP_COUNT_OVERRUNS (s.schedOf c) + 1)
  others : code ≠ 1 → t.rd F.PIERCTL_PIER_TRAP_COUNT_OTHER (s.schedOf c) =
    min 65535 (s.rd F.PIERCTL_PIER_TRAP_COUNT_OTHER (s.schedOf c) + 1)

/-- A core runs one of the 24 schedules. -/
theorem State.schedOf_lt (s : State) {c : Nat} (hc : c < 24) : s.schedOf c < 24 := by
  unfold State.schedOf
  cases found : (List.range 24).find? fun n => s.rd F.PIERCTL_PIER_STAT_PHYS n == c && (s.sch n).active.isSome with
  | none => exact hc
  | some n => simpa using List.mem_of_find?_eq_some found

/-- The registers as `trapRecord` writes them, before its event. -/
def State.trapRegs (s : State) (n task code pc : Nat) : State :=
  let s := ((s.wr F.PIERCTL_PIER_TRAP_INFO_TASK task n).wr F.PIERCTL_PIER_TRAP_INFO_CAUSE code n).wrB
    F.PIERCTL_PIER_TRAP_INFO_VALID true n
  let s := s.wr F.PIERCTL_PIER_TRAP_PC pc n
  if code = 1 then s.incSat F.PIERCTL_PIER_TRAP_COUNT_OVERRUNS n else s.incSat F.PIERCTL_PIER_TRAP_COUNT_OTHER n

theorem State.trapRecord_rd {s : State} {c code : Nat} {k : RunTask} (task : (s.core c).task = some k) {f : Fld} {n : Nat}
    (hf : TrapField f n) :
    (s.trapRecord c code).rd f n 0 = (s.trapRegs (s.schedOf c) k.taskNo code (s.core c).pc).rd f n 0 := by
  have record : s.trapRecord c code =
      (s.trapRegs (s.schedOf c) k.taskNo code (s.core c).pc).raise (0x1FF + code) (s.schedOf c) [] (some c) := by
    unfold State.trapRecord
    dsimp only
    rw [task]
    rfl
  rw [record, State.raise_rd _ f n 0 hf.lost]

/-- A trap other than cause 5 shows in the trap registers of the core's schedule (R124). -/
theorem State.trap_shown {s : State} {c code : Nat} {k : RunTask} (hc : c < 24) (task : (s.core c).task = some k)
    (hcode : code ≠ 5) : TrapShown s (s.trap c code) c code k := by
  have hn := s.schedOf_lt hc
  have shown {f : Fld} (hf : TrapField f (s.schedOf c)) := (State.trap_rd task hcode hf).trans (State.trapRecord_rd task hf)
  unfold State.trapRegs at shown
  simp only [State.wrB_eq] at shown
  refine ⟨?_, ?_, ?_, ?_, fun one => ?_, fun other => ?_⟩
  · rw [shown (trapField_cause _)]
    split <;> simp (disch := decide) only [State.rd_incSat_apart, State.rd_wr_apart, State.rd_incSat_same, State.rd_wr_same] <;> rfl
  · rw [shown (trapField_task _)]
    split <;> simp (disch := decide) only [State.rd_incSat_apart, State.rd_wr_apart, State.rd_incSat_same, State.rd_wr_same] <;> rfl
  · rw [State.bit, shown (trapField_valid _)]
    split <;> simp (disch := decide) only [State.rd_incSat_apart, State.rd_wr_apart, State.rd_incSat_same, State.rd_wr_same] <;> rfl
  · rw [shown (trapField_pc hn)]
    split <;> simp (disch := decide) only [State.rd_incSat_apart, State.rd_wr_apart, State.rd_incSat_same, State.rd_wr_same]
  · rw [shown (trapField_overruns _), if_pos one]
    simp (disch := decide) only [State.rd_incSat_apart, State.rd_wr_apart, State.rd_incSat_same, State.rd_wr_same]
    rfl
  · rw [shown (trapField_other _), if_neg other]
    simp (disch := decide) only [State.rd_incSat_apart, State.rd_wr_apart, State.rd_incSat_same, State.rd_wr_same]
    rfl

end Sys2Proof.Machine
end

section
/-! Branches, CALL and JMPR (R149, R150): the target of an offset, and the two ways a jump ends. -/

namespace Sys2Proof.Machine

set_option Elab.async false

theorem State.inBackground_waited {s : State} {o : PierOp} {k : RunTask} {c : CoreId} (hc : o.core = c)
    (task : (s.core c).task = some k) : (s.waited o).inBackground c = k.background := by
  simp [State.inBackground, State.waited, hc, task]

/-- The target of an offset: unsigned in frame-partition code, signed in background code (R149). -/
theorem State.target_waited {s : State} {o : PierOp} {k : RunTask} {c : CoreId} (hc : o.core = c)
    (task : (s.core c).task = some k) (off : BitVec 14) :
    (s.waited o).target c off =
      ((((s.core c).pc : Int) + 4 * (if k.background then off.toInt else off.toNat)) % 2 ^ 32).toNat := by
  have offset : (if k.background then off.signExtend 32 else off.zeroExtend 32 : Word) =
      BitVec.ofInt 32 (if k.background then off.toInt else off.toNat) := by
    cases k.background
    · exact zeroExtend_eq_ofNat off
    · exact signExtend_eq_ofInt off
  have pc : ((s.waited o).core c).pc = (s.core c).pc := by simp [State.waited, hc]
  unfold State.target
  dsimp only
  rw [State.inBackground_waited hc task, pc, offset]
  have sum : (BitVec.ofNat 32 (s.core c).pc + 4 * BitVec.ofInt 32 (if k.background then off.toInt else off.toNat) : Word) =
      BitVec.ofInt 32 ((s.core c).pc + 4 * (if k.background then off.toInt else off.toNat)) := by
    rw [BitVec.ofInt_add, BitVec.ofInt_mul]
    rfl
  rw [sum, BitVec.toNat_ofInt]
  rfl

/-- An instruction without an effect of its own goes on to the next word. -/
theorem State.pierAct_nothing {s : State} {i : Instr} {o : PierOp} {extra : Nat} {k : RunTask} {body : State → PierRes}
    {c : CoreId} (h : Issues s i o extra k) (hc : o.core = c) (hb : body (s.waited o) = .next (s.waited o))
    (hstr : Straight s c ((s.core c).pc + 4)) :
    ∃ t, s.pierAct i extra body = .next t ∧ CoreOnly s t c ((s.core c).pc + 4) ∧ KeepsGprs s t c ∧
      t.flagsOf c = s.flagsOf c := by
  obtain ⟨t, run, rest, gprs, flags⟩ := State.pierAct_regs (y := false) h hc (hc ▸ CoreUpd.waited s o) rfl
    (RegsOnly.refl _) (fun c' _ g _ => (CoreUpd.waited s o).gpr c' g) hb (hstr.congr fun _ _ => rfl)
  exact ⟨t, run, rest, fun g _ => gprs g, flags.trans (by simp [State.flagsOf, State.waited, hc])⟩

/-- A conditional branch (R149), by whether its condition holds. -/
theorem State.branch_completes {s : State} {i : Instr} {o : PierOp} {k : RunTask} {c : CoreId} {off : BitVec 14}
    {taken : Bool} (h : Issues s i o taken.toNat k) (hc : o.core = c) (run : exec i s = s.branch i c off taken) :
    let nxt := if taken then (((s.core c).pc + 4 * (if k.background then off.toInt else off.toNat)) % 2 ^ 32 : Int).toNat
      else (s.core c).pc + 4
    (Straight s c nxt → (taken = true → k.background = true → Inside s c nxt) →
      Completes i s fun t => CoreOnly s t c nxt ∧ KeepsGprs s t c ∧ t.flagsOf c = s.flagsOf c) ∧
    (∀ d, taken = true → k.background = true → Leaves s c d nxt →
      Completes i s fun t => CoreOnly s t c nxt ∧ t.flagsOf c = s.flagsOf c ∧
        ∀ g < 64, t.gpr c g = if 56 + 2 * d ≤ g then 0 else s.gpr c g) := by
  intro nxt
  have task : (s.core c).task = some k := hc ▸ h.task
  unfold Completes
  rw [run, State.branch]
  cases taken
  · exact ⟨fun straight _ => State.pierAct_nothing h hc rfl straight, fun _ taken => by simp at taken⟩
  · have same : ∀ c' ≠ c.val, ∀ g < 64, (s.waited o).gpr c' g = s.gpr c' g := fun c' _ g _ => (CoreUpd.waited s o).gpr c' g
    let body (u : State) : PierRes := if true then .jump u (u.target c off) else .next u
    have jumps : body (s.waited o) = .jump (s.waited o) nxt := congrArg _ (State.target_waited hc task off)
    refine ⟨fun straight inside => ?_, fun d _ bg leaves => ?_⟩
    · obtain ⟨t, run, rest, gprs, flags⟩ := State.pierAct_jump_inside (body := body) h hc jumps (RegsOnly.refl _) same
        (straight.congr fun _ _ => rfl) (inside rfl)
      exact ⟨t, run, rest, fun g _ => gprs g, flags⟩
    · exact State.pierAct_jump_leaves (body := body) (u := s.waited o) h hc jumps (RegsOnly.refl _) same bg leaves

/-- An instruction that links and jumps (R150): gd takes the address after it, and code goes on at the target. -/
theorem State.link_jump_completes {s : State} {i : Instr} {o : PierOp} {k : RunTask} {c : CoreId} {gd : Gpr} {pc : Nat}
    {body : State → PierRes} (h : Issues s i o 0 k) (hc : o.core = c)
    (hb : body (s.waited o) = .jump ((s.waited o).put c gd ((s.waited o).link c)) pc) :
    let link := BitVec.ofNat 32 ((s.core c).pc + 4)
    (Straight (s.put c gd link) c pc → (k.background = true → Inside (s.put c gd link) c pc) →
      ∃ t, s.pierAct i 0 body = .next t ∧ CoreOnly s t c pc ∧ Writes s t c gd link ∧ t.flagsOf c = s.flagsOf c) ∧
    (∀ d, k.background = true → Leaves (s.put c gd link) c d pc →
      ∃ t, s.pierAct i 0 body = .next t ∧ CoreOnly s t c pc ∧ t.flagsOf c = s.flagsOf c ∧
        ∀ g < 64, t.gpr c g = if 56 + 2 * d ≤ g then 0 else (s.put c gd link).gpr c g) := by
  intro link
  have linked : (s.waited o).link c = link := by simp [State.link, State.waited, hc, link]
  rw [linked] at hb
  have hgd : gd.toNat < 64 := gd.isLt
  have regs : RegsOnly (s.waited o) ((s.waited o).put c gd link) := State.setGpr_regsOnly _ _ _ _
  have gpr (c' g : Nat) : ((s.waited o).put c gd link).gpr c' g = (s.put c gd link).gpr c' g := by
    unfold State.put State.setGpr
    split <;> rfl
  have others : ∀ c' ≠ c.val, ∀ g < 64, ((s.waited o).put c gd link).gpr c' g = s.gpr c' g := by
    intro c' hc' g hg
    rw [gpr, State.put, State.gpr_setGpr _ _ _ _ _ _ hgd hg, if_neg (fun x => hc' x.1)]
  have level (j : Nat) : ((s.waited o).put c gd link).levelOn c j = (s.put c gd link).levelOn c j := by
    unfold State.levelOn; rw [gpr]
  have body' (j : Nat) : ((s.waited o).put c gd link).levelBody c j = (s.put c gd link).levelBody c j := by
    unfold State.levelBody; rw [gpr]
  refine ⟨fun straight inside => ?_, fun d bg leaves => ?_⟩
  · obtain ⟨t, run, rest, gprs, flags⟩ := State.pierAct_jump_inside h hc hb regs others (straight.congr fun g _ => gpr c g)
      (fun bg j hj => by rw [level, body']; exact inside bg j hj)
    refine ⟨t, run, rest, fun g hg => ?_, flags⟩
    rw [gprs, gpr, State.put, State.gpr_setGpr _ _ _ _ _ _ hgd hg]
    by_cases first : g = gd.toNat <;> simp [first]
  · obtain ⟨t, run, rest, flags, gprs⟩ := State.pierAct_jump_leaves h hc hb regs others bg
      (show Leaves ((s.waited o).put c gd link) c d pc by simpa only [Leaves, level, body'] using leaves)
    exact ⟨t, run, rest, flags, fun g hg => by rw [gprs g hg, gpr]⟩

/-- What a trap shows of a core does not depend on the time it has spent. -/
theorem TrapShown.of_same {s u t : State} {c code : Nat} {k : RunTask} (h : TrapShown u t c code k) (rf : u.rf = s.rf)
    (sched : u.schedOf c = s.schedOf c) (pc : (u.core c).pc = (s.core c).pc) : TrapShown s t c code k := by
  obtain ⟨cause, task, valid, shownPc, overruns, others⟩ := h
  rw [sched] at cause task valid shownPc overruns others
  rw [pc] at shownPc
  rw [State.rd_congr rf] at overruns others
  exact ⟨cause, task, valid, shownPc, overruns, others⟩

/-- An instruction whose own effect is a trap other than cause 5 shows in the trap registers (R124). -/
theorem State.pierAct_trap {s : State} {i : Instr} {o : PierOp} {extra code : Nat} {k : RunTask} {body : State → PierRes}
    {c : CoreId} (h : Issues s i o extra k) (hc : o.core = c) (hb : body (s.waited o) = .trap code) (hcode : code ≠ 5) :
    ∃ t, s.pierAct i extra body = .next t ∧ TrapShown s t c code k := by
  refine ⟨_, State.pierAct_eq_conclude body false h, ?_⟩
  rw [hb]
  unfold State.conclude
  rw [hc]
  exact (State.trap_shown c.isLt (by simp [State.modCore, State.waited, hc, hc ▸ h.task]) hcode).of_same rfl rfl
    (by simp [State.modCore, State.waited, hc])

theorem bne_eq_decide_ne (a b : Word) : (a != b) = decide (a ≠ b) := by
  rw [bne, beq_eq_decide, decide_not]

theorem not_slt_eq_decide_le (a b : Word) : (!a.slt b) = decide (b.toInt ≤ a.toInt) := by
  rw [BitVec.slt, ← decide_not, decide_eq_decide, not_lt]

theorem not_ult_eq_decide_le (a b : Word) : (!a.ult b) = decide (b.toNat ≤ a.toNat) := by
  rw [BitVec.ult, ← decide_not, decide_eq_decide, not_lt]

/-- Settles O14: each branch is `State.branch` with its condition, CALL and JMPR link and jump, and the misaligned JMPR traps. -/
theorem branchesAndJumps : Obligations.BranchesAndJumps := by
  unfold Obligations.BranchesAndJumps
  constructor
  · intro s c ga gb off o k row a b pc hrow nxt h
    simp only [List.mem_cons, List.not_mem_nil, or_false] at hrow
    rcases hrow with rfl | rfl | rfl | rfl | rfl | rfl
    all_goals have hc : o.core = c := h.core_eq rfl
    · exact State.branch_completes h hc (congrArg (s.branch (.beq c ga gb off) c off) (beq_eq_decide a b))
    · exact State.branch_completes h hc (congrArg (s.branch (.bne c ga gb off) c off) (bne_eq_decide_ne a b))
    · exact State.branch_completes h hc rfl
    · exact State.branch_completes h hc (congrArg (s.branch (.bge c ga gb off) c off) (not_slt_eq_decide_le a b))
    · exact State.branch_completes h hc rfl
    · exact State.branch_completes h hc (congrArg (s.branch (.bgeu c ga gb off) c off) (not_ult_eq_decide_le a b))
  · intro s c gd ga off o k pc link
    constructor
    · intro row hrow h aligned
      simp only [List.mem_cons, List.not_mem_nil, or_false] at hrow
      rcases hrow with rfl | rfl
      all_goals have hc : o.core = c := h.core_eq rfl
      · exact State.link_jump_completes h hc (congrArg _ (State.target_waited hc (hc ▸ h.task) off))
      · exact State.link_jump_completes h hc (if_neg (not_not_intro aligned))
    · intro h misaligned
      have hc : o.core = c := h.core_eq rfl
      obtain ⟨t, run, shown⟩ := State.pierAct_trap (code := 2)
        (body := fun s => if (s.ra c ga).toNat % 4 ≠ 0 then .trap 2 else .jump (s.put c gd (s.link c)) (s.ra c ga).toNat)
        h hc (if_pos misaligned) (by decide)
      exact ⟨t, run, shown.cause, shown.valid, shown.pc⟩

end Sys2Proof.Machine
end

section
/-! Counted loops (R151, R152): what LOOP writes, and the end-of-body step of the innermost active level. -/

namespace Sys2Proof.Machine

set_option Elab.async false

/-- The field of 10 bits that holds the passes less one: 0 gives 1,024 passes (R151). -/
theorem passes_sub_one (count : BitVec 10) : (count - 1).toNat = if count = 0 then 1023 else count.toNat - 1 := by
  have := count.isLt
  split
  · next h => subst h; rfl
  · next h =>
    have pos : count.toNat ≠ 0 := fun z => h (BitVec.eq_of_toNat_eq z)
    rw [BitVec.toNat_sub]
    change (2 ^ 10 - 1 + count.toNat) % 2 ^ 10 = _
    omega

/-- INDEX one up, modulo 1,024, and every other field kept (R152). -/
theorem nextPass_eq (w : Word) : nextPass w = BitVec.ofNat 32 (w.toNat / 2 ^ 10 * 2 ^ 10 + (w.toNat + 1) % 2 ^ 10) := by
  have upper : w &&& ~~~0x3FF#32 = (w >>> 10) <<< 10 := by
    have mask : ∀ i < 32, (~~~0x3FF#32).getLsbD i = !decide (i < 10) := by decide
    apply BitVec.eq_of_getLsbD_eq
    intro i hi
    rw [BitVec.getLsbD_and, mask i hi, BitVec.getLsbD_shiftLeft, BitVec.getLsbD_ushiftRight]
    by_cases low : i < 10
    · simp [low]
    · simp [low, hi, show 10 + (i - 10) = i by omega]
  have lower : ((w + 1) &&& 0x3FF#32).toNat = (w.toNat + 1) % 2 ^ 10 := by
    rw [BitVec.toNat_and, BitVec.toNat_add]
    exact (Nat.and_two_pow_sub_one_eq_mod _ 10).trans (Nat.mod_mod_of_dvd _ (by decide))
  have small := w.isLt
  apply BitVec.eq_of_toNat_eq
  have shifted : ((w >>> 10) <<< 10).toNat = 2 ^ 10 * (w.toNat / 2 ^ 10) := by
    rw [BitVec.toNat_shiftLeft, BitVec.toNat_ushiftRight, Nat.shiftRight_eq_div_pow, Nat.shiftLeft_eq]
    omega
  rw [nextPass, BitVec.toNat_or, upper, lower, shifted, BitVec.toNat_ofNat,
    ← Nat.two_pow_add_eq_or_of_lt (Nat.mod_lt _ (by decide))]
  omega

/-- The own effect of LOOP (R151), as `execLoopA` gives it. -/
def State.loopTaken (s : State) (c : CoreId) (count : BitVec 10) (body : BitVec 16) : PierRes :=
  let d := (List.range 4).countP fun k => s.levelOn c k
  if d = 4 then .trap 2
  else
    let s := s.setGpr c (56 + 2 * d) (BitVec.ofNat 32 (2 ^ 31 + (count - 1).toNat * 2 ^ 10))
    .next (s.setGpr c (57 + 2 * d) (BitVec.ofNat 32 (body.toNat * 2 ^ 16 + ((s.core c).pc + 4) / 4 % 2 ^ 15)))

/-- With no active level below `n` whose body ends at `pc`, the end-of-body step of those levels does nothing. -/
theorem State.endOfBody_of_ne {s : State} {c pc : Nat} (n : Nat)
    (h : ∀ j < n, s.levelOn c j = true → (s.levelBody c j).2 ≠ pc) : s.endOfBody c pc n = (s, pc) := by
  induction n with
  | zero => rfl
  | succ n ih =>
    unfold State.endOfBody
    by_cases on : s.levelOn c n = true
    · rw [if_neg (by simp [on]), if_pos (Ne.symm (h n (by omega) on))]
    · rw [if_pos (by simpa using on), ih fun j hj => h j (by omega)]

/-- Inactive levels take no part in the end-of-body step. -/
theorem State.endOfBody_inactive {s : State} {c pc d n : Nat} (hn : d < n)
    (off : ∀ j < n, d < j → s.levelOn c j = false) : s.endOfBody c pc n = s.endOfBody c pc (d + 1) := by
  induction n with
  | zero => omega
  | succ n ih =>
    rcases Nat.lt_succ_iff_lt_or_eq.mp hn with below | rfl
    · rw [State.endOfBody, if_pos (by simp [off n (by omega) below]), ih below fun j hj => off j (by omega)]
    · rfl

/-- Settles O15: LOOP writes the pair of registers of the first inactive level; of the end-of-body step only the innermost
active level is left, and what it does there is the branch of its definition. -/
theorem countedLoops : Obligations.CountedLoops := by
  unfold Obligations.CountedLoops
  constructor
  · intro s c count body o k d last hi lo hd h hstr
    have hc : o.core = c := h.core_eq rfl
    have waits : CoreUpd s (s.waited o) c := hc ▸ CoreUpd.waited s o
    let u := ((s.waited o).setGpr c (56 + 2 * d) hi).setGpr c (57 + 2 * d) lo
    have gpr (c' g : Nat) (hg : g < 64) : u.gpr c' g =
        if c' = c ∧ g = 56 + 2 * d then hi else if c' = c ∧ g = 57 + 2 * d then lo else s.gpr c' g := by
      rw [State.gpr_setGpr _ _ _ _ _ _ (by omega) hg, State.gpr_setGpr _ _ _ _ _ _ (by omega) hg, waits.gpr]
      grind
    have done : (s.waited o).loopTaken c count body = .next u := by
      have open' : (List.range 4).countP (fun k => (s.waited o).levelOn c k) ≠ 4 := by
        intro four
        exact absurd (four ▸ hd : (4 : Nat) < 4) (by decide)
      unfold State.loopTaken
      dsimp only
      rw [if_neg open', passes_sub_one, State.core_setGpr, waits.pc]
      rfl
    obtain ⟨t, run, rest, gprs, flags⟩ := State.pierAct_regs (y := false)
      (body := fun s => s.loopTaken c count body) h hc waits rfl
      ((State.setGpr_regsOnly _ _ _ _).trans (State.setGpr_regsOnly _ _ _ _))
      (fun c' hc' g hg => by rw [gpr c' g hg, if_neg (fun x => hc' x.1), if_neg (fun x => hc' x.1)]) done
      (hstr.congr fun g hg => by
        rw [gpr c g hg, State.gpr_setGpr _ _ _ _ _ _ (by omega) hg, State.gpr_setGpr _ _ _ _ _ _ (by omega) hg]
        grind)
    refine ⟨t, run, rest, flags.trans (by simp [State.flagsOf, State.waited, hc]), fun g hg => ?_⟩
    rw [gprs, gpr c g hg]
    simp
  · intro s c d hd on off w pc
    rw [State.endOfBody_inactive hd off, State.endOfBody, if_neg (by simp [on]), if_neg (not_not_intro rfl)]
    dsimp only
    refine ⟨fun more => ?_, fun done last => ?_⟩
    · rw [if_neg more, nextPass_eq]
    · rw [if_pos done]
      refine State.endOfBody_of_ne d fun j hj onj => ?_
      have kept (g : Nat) (hg : g < 56 + 2 * d) : (s.clearLevel c d).gpr c g = s.gpr c g := by
        rw [State.gpr_clearLevel _ _ _ hd _ _ (by omega), if_neg (by omega)]
      unfold State.levelOn at onj
      rw [kept _ (by omega)] at onj
      have := last j hj onj
      unfold State.levelBody at this ⊢
      rwa [kept _ (by omega)]

end Sys2Proof.Machine
end

section
/-! The local data memory (R154): the bytes of a number, runs of bytes in a core's memories, loads and stores. -/

namespace Sys2Proof.Machine

set_option Elab.async false

/-! ### Bytes of a number (R3) -/

theorem leBytes_lt (f : Nat → Byte) (a n : Nat) : leBytes f a n < 256 ^ n := by
  induction n generalizing a with
  | zero => exact Nat.one_pos
  | succ n ih =>
    have low := (f a).isLt
    have high := ih (a + 1)
    rw [leBytes, Nat.pow_succ]
    omega

@[simp] theorem length_toBytes (v n : Nat) : (toBytes v n).length = n := by
  induction n generalizing v with
  | zero => rfl
  | succ n ih => simp [toBytes, ih]

theorem getD_toBytes (v n k : Nat) (hk : k < n) : (toBytes v n).getD k 0 = BitVec.ofNat 8 (v / 256 ^ k) := by
  induction n generalizing v k with
  | zero => omega
  | succ n ih =>
    cases k with
    | zero => simp [toBytes]
    | succ k => rw [toBytes, List.getD_cons_succ, ih _ _ (by omega), Nat.div_div_eq_div_mul, Nat.pow_succ, Nat.mul_comm]

/-- A number that fits its width, as two's complement. -/
theorem signed_of_lt {w v : Nat} (h : v < 2 ^ w) :
    signed w v = if v < 2 ^ (w - 1) then (v : Int) else (v : Int) - 2 ^ w := by
  unfold signed
  rw [Nat.mod_eq_of_lt h]

/-! ### Runs of bytes in a core's memories -/

theorem State.tcmByte_each_setTcmByte (a : Nat) (bs : List Byte) (s : State) (n x : Nat) :
    (s.each (bs.zipIdx n) fun s bk => s.setTcmByte (a + bk.2) bk.1).tcmByte x =
      if a + n ≤ x ∧ x < a + n + bs.length then bs.getD (x - (a + n)) 0 else s.tcmByte x := by
  induction bs generalizing s n with
  | nil => simp only [List.length_nil]; rw [if_neg (by omega)]; rfl
  | cons b bs ih =>
    have step : (s.each ((b :: bs).zipIdx n) fun s bk => s.setTcmByte (a + bk.2) bk.1) =
        (s.setTcmByte (a + n) b).each (bs.zipIdx (n + 1)) fun s bk => s.setTcmByte (a + bk.2) bk.1 := rfl
    rw [step, ih, State.tcmByte_setTcmByte, List.length_cons]
    by_cases first : x = a + n
    · subst first
      rw [if_neg (by omega), if_pos rfl, if_pos (by omega)]
      simp
    · rw [if_neg (Ne.symm first : a + n ≠ x)]
      by_cases inside : a + (n + 1) ≤ x ∧ x < a + (n + 1) + bs.length
      · rw [if_pos inside, if_pos (by omega), show x - (a + n) = x - (a + (n + 1)) + 1 by omega, List.getD_cons_succ]
      · rw [if_neg inside, if_neg (by omega)]

theorem State.tcmByte_setTcmBytes (s : State) (a : Nat) (bs : List Byte) (x : Nat) :
    (s.setTcmBytes a bs).tcmByte x = if a ≤ x ∧ x < a + bs.length then bs.getD (x - a) 0 else s.tcmByte x :=
  State.tcmByte_each_setTcmByte a bs s 0 x

/-- A write of bytes of a core's memories changes nothing but those memories. -/
theorem State.setTcmBytes_rest (s : State) (a : Nat) (bs : List Byte) :
    ∃ m, s.setTcmBytes a bs = { s with pier := { s.pier with tcm := m } } := by
  have each (l : List (Byte × Nat)) (s : State) :
      ∃ m, (s.each l fun s bk => s.setTcmByte (a + bk.2) bk.1) = { s with pier := { s.pier with tcm := m } } := by
    induction l generalizing s with
    | nil => exact ⟨_, rfl⟩
    | cons x l ih =>
      obtain ⟨m, hm⟩ := ih (s.setTcmByte (a + x.2) x.1)
      exact ⟨m, hm⟩
  exact each _ s

/-! ### Loads and stores -/

/-- A local load that finds no memory error, at an address within its space and aligned. -/
theorem State.localLoad_ok {s : State} {i : Instr} {o : PierOp} {k : RunTask} {c : CoreId} {gd ga : Gpr} {imm : BitVec 14}
    {size : Nat} {ext : Nat → Word} (h : Issues s i o 0 k) (hc : o.core = c) (within : s.addrOf c ga imm < s.pierSpace c)
    (aligned : s.addrOf c ga imm % size = 0)
    (hstr : Straight (s.put c gd (ext (leBytes (fun b => s.tcmByte (s.dataKey c b)) (s.addrOf c ga imm) size))) c
      ((s.core c).pc + 4)) :
    ∃ t, s.pierAct i 0 (fun s => s.localLoad c gd ga imm .ok size ext) = .next t ∧ CoreOnly s t c ((s.core c).pc + 4) ∧
      Writes s t c gd (ext (leBytes (fun b => s.tcmByte (s.dataKey c b)) (s.addrOf c ga imm) size)) ∧
      t.flagsOf c = s.flagsOf c := by
  refine State.pierAct_plain h hc ?_ hstr
  have ok : (s.waited o).localOk c ((s.waited o).addrOf c ga imm) size = true := by
    have same : (s.waited o).localOk c ((s.waited o).addrOf c ga imm) size = s.localOk c (s.addrOf c ga imm) size := rfl
    rw [same]
    simp [State.localOk, within, aligned]
  unfold State.localLoad
  dsimp only
  rw [ok, if_neg (by decide)]
  rfl

/-- A local store, at an address within its space and aligned. -/
theorem State.localStore_ok {s : State} {i : Instr} {o : PierOp} {k : RunTask} {c : CoreId} {gd ga : Gpr} {imm : BitVec 14}
    {size : Nat} (h : Issues s i o 0 k) (hc : o.core = c) (within : s.addrOf c ga imm < s.pierSpace c)
    (aligned : s.addrOf c ga imm % size = 0) (hstr : Straight s c ((s.core c).pc + 4)) :
    ∃ t, s.pierAct i 0 (fun s => s.localStore c gd ga imm size) = .next t ∧
      (∃ cores m, t = { s with pier := { s.pier with core := cores, tcm := m } }) ∧
      (∀ x, t.tcmByte x = if s.dataKey c (s.addrOf c ga imm) ≤ x ∧ x < s.dataKey c (s.addrOf c ga imm) + size
        then BitVec.ofNat 8 ((s.ra c gd).toNat / 256 ^ (x - s.dataKey c (s.addrOf c ga imm))) else s.tcmByte x) ∧
      (∀ c', c' ≠ c → t.core c' = s.core c') ∧ (t.core c).pc = (s.core c).pc + 4 ∧ t.flagsOf c = s.flagsOf c := by
  let u := (s.waited o).setTcmBytes (s.dataKey c (s.addrOf c ga imm)) (toBytes (s.ra c gd).toNat size)
  obtain ⟨m, hu⟩ : ∃ m, u = { s.waited o with pier := { (s.waited o).pier with tcm := m } } := State.setTcmBytes_rest _ _ _
  have core (c' : Nat) : u.core c' = (s.waited o).core c' := by rw [hu]; rfl
  have waits : CoreUpd s (s.waited o) c := hc ▸ CoreUpd.waited s o
  have stored : (s.waited o).localStore c gd ga imm size = .next u := by
    have same : (s.waited o).localOk c ((s.waited o).addrOf c ga imm) size = s.localOk c (s.addrOf c ga imm) size := rfl
    unfold State.localStore
    dsimp only
    rw [same, if_neg (by simp [State.localOk, within, aligned])]
    rfl
  obtain ⟨kf, run, pc, task, z, n, carry, v, qs, fx, -⟩ := State.pierAct_done (y := false)
    (body := fun s => s.localStore c gd ga imm size) h stored
    (by rw [hc, core, waits.task, ← hc, h.task]) (by rw [core]) (by rw [hu]; rfl)
    (by rw [hc]; exact hstr.congr fun g _ => by rw [hu]; rfl)
  rw [hc, core] at z n carry v qs fx
  rw [hc] at run pc
  refine ⟨_, run, ⟨_, m, by rw [hu]; rfl⟩, fun x => ?_, fun c' hc' => ?_, by simpa using pc, ?_⟩
  · have byte : (u.setCore c kf).tcmByte x = u.tcmByte x := rfl
    rw [byte, State.tcmByte_setTcmBytes, length_toBytes]
    by_cases inside : s.dataKey c (s.addrOf c ga imm) ≤ x ∧ x < s.dataKey c (s.addrOf c ga imm) + size
    · rw [if_pos inside, if_pos inside, getD_toBytes _ _ _ (by omega)]
    · rw [if_neg inside, if_neg inside]
      rfl
  · have other : c'.val ≠ c.val := fun same => hc' (Fin.ext same)
    rw [State.core_setCore_ne _ _ _ _ (Ne.symm other), core, waits.others _ other]
  · simp [State.flagsOf, z, n, carry, v, qs, fx, State.waited, hc]

/-- Settles O16: each row is `localLoad` without an ECC error, or `localStore`. -/
theorem localMemory : Obligations.LocalMemory := by
  unfold Obligations.LocalMemory
  constructor
  · intro s c gd ga imm o k row a v sx hrow within aligned h hstr
    have half : signed 16 (v 2) = if v 2 < 2 ^ (16 - 1) then (v 2 : Int) else (v 2 : Int) - 2 ^ 16 :=
      signed_of_lt (leBytes_lt _ _ 2)
    have byte : signed 8 (v 1) = if v 1 < 2 ^ (8 - 1) then (v 1 : Int) else (v 1 : Int) - 2 ^ 8 :=
      signed_of_lt (leBytes_lt _ _ 1)
    simp only [List.mem_cons, List.not_mem_nil, or_false] at hrow
    rcases hrow with rfl | rfl | rfl | rfl | rfl
    all_goals have hc : o.core = c := h.core_eq rfl
    · exact State.localLoad_ok (size := 4) (ext := BitVec.ofNat 32) h hc within aligned hstr
    · have := State.localLoad_ok (size := 2) (ext := fun v => BitVec.ofInt 32 (signed 16 v)) (gd := gd) h hc within aligned
      simp only [sx, ← half] at hstr ⊢
      exact this hstr
    · exact State.localLoad_ok (size := 2) (ext := BitVec.ofNat 32) h hc within aligned hstr
    · have := State.localLoad_ok (size := 1) (ext := fun v => BitVec.ofInt 32 (signed 8 v)) (gd := gd) h hc within aligned
      simp only [sx, ← byte] at hstr ⊢
      exact this hstr
    · exact State.localLoad_ok (size := 1) (ext := BitVec.ofNat 32) h hc within aligned hstr
  · intro s c gd ga imm o k row a hrow within aligned h hstr
    simp only [List.mem_cons, List.not_mem_nil, or_false] at hrow
    rcases hrow with rfl | rfl | rfl
    · exact State.localStore_ok h (h.core_eq rfl) within aligned hstr
    · exact State.localStore_ok h (h.core_eq rfl) within aligned hstr
    · exact State.localStore_ok h (h.core_eq rfl) within aligned hstr

end Sys2Proof.Machine
end

section
/-! TGET, KGET, CSRR and CSRW (R163, R165, R166). -/

namespace Sys2Proof.Machine

set_option Elab.async false

/-- The core's own registers as an instruction's effect finds them after its wait. -/
theorem State.core_waited {s : State} {o : PierOp} {c : CoreId} (hc : o.core = c) :
    (s.waited o).core c = (s.core c).spend (s.waitOf o) := by
  simp [State.waited, hc]

theorem CoreSt.spend_flags (k : CoreSt) (d : Nat) : (k.spend d).flags = k.flags := by simp [CoreSt.flags]

@[simp] theorem CoreSt.spend_clk (k : CoreSt) (d : Nat) : (k.spend d).clk = k.clk + d := by
  unfold CoreSt.spend; split <;> (try split) <;> rfl

/-- The budget of a running task after `d` cycles: a background task has none that falls (R50). -/
theorem CoreSt.spend_bc {k : CoreSt} {t : RunTask} (task : k.task = some t) (d : Nat) :
    (k.spend d).bc = k.bc - if t.background then 0 else d := by
  unfold CoreSt.spend
  rw [task]
  cases bg : t.background <;> simp [bg]

/-- Settles O17: TGET and KGET write a pair, CSRR one register with the CSR as it stands after the wait, and CSRW changes
the flags alone. -/
theorem timeAndCsrs : Obligations.TimeAndCsrs := by
  unfold Obligations.TimeAndCsrs
  constructor
  · intro s c gd o k row hrow lo hi h hstr
    simp only [List.mem_cons, List.not_mem_nil, or_false] at hrow
    have listed {i : Instr} {o' : PierOp} (h : Issues s i o 0 k) (op : pierOp i = some o') (legal : o'.legal = groupOk gd 2) :
        gd.toNat + 2 ≤ 64 := pair_fits (legal ▸ Option.some.inj (h.op.symm.trans op) ▸ h.legal)
    rcases hrow with rfl | rfl
    · exact State.pierAct_group h (h.core_eq rfl) (listed h rfl rfl) rfl hstr
    · exact State.pierAct_group h (h.core_eq rfl) (listed h rfl rfl) rfl hstr
  · intro s c g o k w
    constructor
    · intro n v hrow h hstr
      have hc : o.core = c := h.core_eq rfl
      have task : (s.core c).task = some k := hc ▸ h.task
      have shown : (s.waited o).csr c n.toNat = v := by
        simp only [List.mem_cons, List.not_mem_nil, or_false, Prod.mk.injEq] at hrow
        unfold State.csr
        rw [State.core_waited hc, State.inBackground_waited hc task]
        rcases hrow with ⟨hn, rfl⟩ | ⟨hn, rfl⟩ | ⟨hn, rfl⟩ | ⟨hn, rfl⟩ | ⟨hn, rfl⟩ | ⟨hn, rfl⟩ | ⟨hn, rfl⟩ | ⟨hn, rfl⟩
        all_goals rw [hn]
        · exact CoreSt.spend_flags _ _
        · exact CoreSt.spend_bc task _
        · simp [task]
        · rfl
        · rfl
        · rfl
        · exact CoreSt.spend_clk _ _
        · rfl
      exact State.pierAct_plain h hc (by rw [← shown]) hstr
    · intro n h hstr
      have hc : o.core = c := h.core_eq rfl
      have waits : CoreUpd s (s.waited o) c := hc ▸ CoreUpd.waited s o
      by_cases zero : n = 0
      · obtain ⟨t, run, rest, gprs, flags⟩ := State.pierAct_regs (y := false)
          (body := fun s => .next (if n = 0 then s.modCore c (·.withFlags (s.ra c g).toNat) else s)) h hc
          (waits.mod (·.withFlags w.toNat) (fun _ => rfl) (fun _ => rfl)) (by simp [State.modCore, CoreSt.withFlags])
          (RegsOnly.refl _) (fun _ _ _ _ => rfl) (by rw [if_pos zero]; rfl) (hstr.congr fun _ _ => rfl)
        refine ⟨t, run, rest, fun g _ => gprs g, flags.trans ?_⟩
        rw [if_pos zero]
        simp [State.flagsOf, State.modCore, CoreSt.withFlags, BitVec.getLsbD]
      · obtain ⟨t, run, rest, gprs, flags⟩ := State.pierAct_nothing
          (body := fun s => .next (if n = 0 then s.modCore c (·.withFlags (s.ra c g).toNat) else s)) h hc
          (by rw [if_neg zero]) hstr
        exact ⟨t, run, rest, gprs, flags.trans (by rw [if_neg zero])⟩

end Sys2Proof.Machine
end

section
/-! EVT, YIELD and the traps (R164, R167, R168): an event that passes its code's bucket, the end of a task's turn, and what
the trap registers show. -/

namespace Sys2Proof.Machine

set_option Elab.async false

/-! ### An event that is taken -/

/-- With nothing suppressed of a code there is no summary to write (R432). -/
theorem State.summarize_of_supp_zero {s : State} {code : Nat} (h : (s.bucket code).supp = 0) : s.summarize code = s := by
  unfold State.summarize
  exact if_pos h

@[simp] theorem State.bucket_setBucket (s : State) (code : Nat) (b : Bucket) : (s.setBucket code b).bucket code = b := by
  simp [State.bucket, State.setBucket]

/-- A token that returns, with no summary due, makes the tokens taken one fewer at most (R431). -/
theorem State.tokenReturn_of_supp_zero {s : State} {code : Nat} (h : (s.bucket code).supp = 0) :
    ∃ b : Bucket, (s.tokenReturn code).bucket code = b ∧ b.missing ≤ (s.bucket code).missing ∧
      (s.tokenReturn code).evr.queue = s.evr.queue ∧ (s.tokenReturn code).rf = s.rf ∧
      (s.tokenReturn code).evr.inForce = s.evr.inForce := by
  unfold State.tokenReturn
  extract_lets b p
  split
  · exact ⟨_, rfl, le_refl _, rfl, rfl, rfl⟩
  · rw [State.summarize_of_supp_zero (by rw [State.bucket_setBucket]; exact h)]
    exact ⟨_, State.bucket_setBucket _ _ _, Nat.sub_le _ _, rfl, rfl, rfl⟩

/-- An event of an enabled code with a token left and no summary due joins the queue, where there is room (R429 to R431). -/
theorem State.raise_queue {s : State} {code : Nat} (index : Nat) (words : List Nat) (pier : Option Nat)
    (runs : s.bit F.EVR_STAT_RUNNING = true) (normal : code ≠ 1) (enabled : s.evrField F.EVR_CODE_A_EN code ≠ 0)
    (token : (s.bucket code).missing < s.evrField F.EVR_CODE_B_BURST code) (none' : (s.bucket code).supp = 0)
    (room : s.evr.queue.length < 256) (own : s.roleIs .standby = false) :
    (s.raise code index words pier).evr.queue = s.evr.queue ++ [s.entry code index words pier] := by
  obtain ⟨b, hb, fewer, queue, rf, inForce⟩ := State.tokenReturn_of_supp_zero none'
  have burst : (s.tokenReturn code).evrField F.EVR_CODE_B_BURST code = s.evrField F.EVR_CODE_B_BURST code := by
    unfold State.evrField
    rw [inForce, State.rd_congr rf]
  unfold State.raise State.takeEvent State.admitEvent
  have code' : (s.entry code index words pier).code = code := rfl
  dsimp only
  rw [if_pos runs, code', if_neg normal, if_neg enabled, hb, burst, if_pos (by omega)]
  unfold State.enqueue
  have role (b : Bucket) : ((s.tokenReturn code).setBucket code b).roleIs .standby = false := by
    unfold State.roleIs at own ⊢
    rwa [State.rd_congr (s := s) (show ((s.tokenReturn code).setBucket code b).rf = s.rf from rf)]
  have queue' (b : Bucket) : ((s.tokenReturn code).setBucket code b).evr.queue = s.evr.queue := queue
  rw [role, Bool.false_and, if_neg Bool.false_ne_true, queue', if_neg (by omega)]

/-- The first two source words of an event stand first in its snapshot (R427). -/
theorem State.snapshot_take_two (s : State) (pier : Option Nat) (list : Nat) (a b : Word) :
    (s.snapshot pier list [a.toNat, b.toNat]).take 2 = [a, b] := by
  simp [State.snapshot]

/-! ### The end of a turn -/

/-- Mirroring puts items into the outbox of the twin link, and nothing else (R368). -/
theorem State.mirror_rest (s : State) (m : MirrorItem) : ∃ twin, s.mirror m = { s with twin := twin } := by
  unfold State.mirror
  split
  · split <;> exact ⟨_, rfl⟩
  · exact ⟨_, rfl⟩

theorem State.mirrorLine_rest (s : State) (a : Nat) : ∃ twin, s.mirrorLine a = { s with twin := twin } := by
  unfold State.mirrorLine
  dsimp only
  split
  · exact s.mirror_rest _
  · exact ⟨_, rfl⟩

theorem State.mirrorRange_rest (s : State) (a len : Nat) : ∃ twin, s.mirrorRange a len = { s with twin := twin } := by
  have each (l : List Nat) (s : State) : ∃ twin, s.each l State.mirrorLine = { s with twin := twin } := by
    induction l generalizing s with
    | nil => exact ⟨_, rfl⟩
    | cons x l ih =>
      obtain ⟨tw, h⟩ := s.mirrorLine_rest x
      obtain ⟨tw', h'⟩ := ih (s.mirrorLine x)
      exact ⟨tw', h'.trans (by rw [h])⟩
  unfold State.mirrorRange
  split
  · exact ⟨_, rfl⟩
  · exact each _ s

theorem State.setDBytes_rest (bs : List Byte) (s : State) (a : Nat) : ∃ d, s.setDBytes a bs = { s with deck := d } := by
  induction bs generalizing s a with
  | nil => exact ⟨_, rfl⟩
  | cons b bs ih =>
    obtain ⟨d, h⟩ := ih (s.setDByte a b) (a + 1)
    exact ⟨d, h⟩

/-- Keeping a shadow writes its slot of the deck (R105) and leaves the cores alone. -/
theorem State.saveShadow_pier (s : State) (n order : Nat) (b : BpShadow) :
    (s.saveShadow n order b).pier = { s.pier with shadow := Sparse.put s.pier.shadow (n * 4 + order) b } := by
  unfold State.saveShadow
  dsimp only
  split
  · obtain ⟨tw, h⟩ := State.mirrorRange_rest (({ s with pier := { s.pier with shadow := Sparse.put s.pier.shadow (n * 4 + order) b } } : State).setDBytes _ _) _ _
    rw [h]
    obtain ⟨d, h'⟩ := State.setDBytes_rest _ ({ s with pier := { s.pier with shadow := Sparse.put s.pier.shadow (n * 4 + order) b } } : State) _
    rw [h']
  · rfl

/-- A background task that leaves its core has its registers, PC and flags in its shadow (R105), whichever task runs there
next. -/
theorem State.bpLeave_shadow {s : State} {c : Nat} {k : RunTask} (task : (s.core c).task = some k) (bg : k.background = true) :
    (s.bpLeave c).shadowOf (s.schedOf c) k.order =
      { started := true, regs := (List.range 63).map fun g => s.gpr c (g + 1), pc := (s.core c).pc
        flags := (s.core c).flags, slice := 0 } := by
  unfold State.bpLeave
  rw [task]
  dsimp only
  rw [if_pos bg]
  unfold State.shadowOf
  rw [(State.bpTurn_coresOnly _ c).shadow]
  unfold State.bpSave
  dsimp only
  rw [task]
  dsimp only
  rw [(State.modCore_coresOnly _ c _).shadow, State.saveShadow_pier]
  simp [Sparse.get_put]

theorem turnTask_none (l : List TaskEntry) (lo : Nat) : turnTask l lo 0 = none := by
  have empty (n : Nat) : nextTask [] n = none := by
    unfold nextTask
    rw [List.findSome?_eq_none_iff]
    intro k _
    split <;> rfl
  simp [turnTask, empty]

/-- A register that does not name the core of a schedule leaves which schedule a core runs (R126). -/
theorem State.schedOf_wr (s : State) {f : Fld} (v i j c : Nat) (h : f.apart F.PIERCTL_PIER_STAT_PHYS = true) :
    (s.wr f v i j).schedOf c = s.schedOf c := by
  unfold State.schedOf
  simp only [s.rd_wr_apart v i j _ _ h]
  rfl

/-- With no background task to run, no turn follows (R104). -/
theorem State.bpTurn_none {s : State} {c : Nat} (none' : s.rd F.PIERCTL_PIER_BP_CTL_RUNNING (s.schedOf c) = 0) :
    s.bpTurn c = s := by
  unfold State.bpTurn
  dsimp only
  split
  · rfl
  · split
    · rfl
    · rw [none', turnTask_none]

/-- The last frame-partition task of the span ends, and no background task is there: the core has no task left (R102). -/
theorem State.fpNext_last {s : State} {c lo : Nat} (idle : s.rd F.PIERCTL_PIER_BP_CTL_RUNNING (s.schedOf c) = 0)
    (last : ∀ img, (s.sch (s.schedOf c)).active = some img → nextTask (img.kind false) lo = none) :
    ((s.fpNext c lo).core c).task = none ∧ ((s.fpNext c lo).core c).fpDone = true := by
  rw [State.fpNext_eq_fpOver last]
  unfold State.fpOver
  dsimp only
  rw [State.bpTurn_none]
  · simp [State.modCore]
  · rw [State.rd_congr (State.modCore_coresOnly _ c _).rf]
    split
    · exact idle
    · rw [State.rd_wr_apart _ _ _ _ _ _ (by decide)]
      change s.rd F.PIERCTL_PIER_BP_CTL_RUNNING ((s.wr F.PIERCTL_PIER_FP_END _ _).schedOf c) 0 = 0
      rw [State.schedOf_wr _ _ _ _ _ (by decide)]
      exact idle

theorem exec_illegalInstruction {s : State} {c : CoreId} (h : s.serves [coreDom c]) :
    exec (.illegalInstruction c) s = .next (if (s.core c).stopped || (s.core c).stall then s else s.trap c 2) := by
  change execIllegalInstruction c s = _
  exact State.act_eq _ h

theorem exec_budgetOverrun {s : State} {c : CoreId} {k : RunTask} (h : s.serves [coreDom c])
    (task : (s.core c).task = some k) (frame : k.background = false) :
    exec (.budgetOverrun c) s = .next ((s.setCore c { (s.core c).spend (s.core c).bc with pair := none }).trap c 1) := by
  change execBudgetOverrun c s = _
  refine (State.act_eq _ h).trans ?_
  simp only [task, frame, Bool.false_eq_true, if_false]

/-- Settles O18: the event is appended to the queue, a turn ends by `fpNext` or `bpLeave`, and each trap is `trap` on the state
after the wait. -/
theorem eventsYieldAndTraps : Obligations.EventsYieldAndTraps := by
  unfold Obligations.EventsYieldAndTraps
  refine ⟨?_, ?_, ?_⟩
  · intro s c gd ga code o k n runs enabled token none' room own h hstr
    have hc : o.core = c := h.core_eq rfl
    have waits : CoreUpd s (s.waited o) c := hc ▸ CoreUpd.waited s o
    let words := [(s.ra c gd).toNat, (s.ra c ga).toNat]
    let u := (s.waited o).raise n (s.schedOf c) words (some c.val)
    have normal : n ≠ 1 := by simp only [n]; omega
    have queue : u.evr.queue = s.evr.queue ++ [(s.waited o).entry n (s.schedOf c) words (some c.val)] :=
      State.raise_queue (s := s.waited o) _ _ _ runs normal enabled token none' room own
    obtain ⟨kf, run, pc, task, z, hn, carry, v, qs, fx, -⟩ := State.pierAct_done (y := false) (u := u)
      (body := fun s => .next (s.raise (0xF00 + code.toNat) (s.schedOf c) [(s.ra c gd).toNat, (s.ra c ga).toNat] (some c.val)))
      h rfl (by rw [hc, State.raise_core, waits.task, ← hc, h.task]) (by rw [State.raise_core]) (State.raise_health ..)
      (by rw [hc]; exact hstr.congr fun g _ => by rw [State.raise_gpr]; rfl)
    rw [hc, State.raise_core] at z hn carry v qs fx
    rw [hc] at run pc
    refine ⟨_, run, fun g _ => by rw [State.gpr_setCore, State.raise_gpr]; rfl, ?_, by simpa using pc,
      ⟨_, queue, rfl, rfl, ?_, State.snapshot_take_two _ _ _ _ _⟩⟩
    · simp [State.flagsOf, z, hn, carry, v, qs, fx, State.waited, hc]
    · simp [State.entry, waits.task, hc ▸ h.task]
  · intro s c o k h hstr
    have hc : o.core = c := h.core_eq rfl
    have straight : Straight (s.waited o) c ((s.core c).pc + 4) := hstr.congr fun _ _ => rfl
    let v := (s.waited o).modCore c fun q => { q.spend (s.costOf o 0) with pc := (s.core c).pc + 4, pair := none }
    have run : exec (.yieldA c) s = .next (if k.background then v.bpLeave c else v.fpNext c (k.order + 1)) := by
      refine (State.pierAct_eq_conclude .yield true h).trans (congrArg _ ?_)
      unfold State.conclude
      simp only [hc, State.endOfBody_straight straight 4 (Nat.le_refl 4)]
      rfl
    have task : (v.core c).task = some k := by simp [v, State.modCore, State.waited, hc, hc ▸ h.task]
    refine ⟨fun frame idle last => ⟨_, run, ?_⟩, fun bg => ⟨_, run, ?_⟩⟩
    · rw [frame, if_neg Bool.false_ne_true]
      exact State.fpNext_last idle last
    · rw [if_pos bg]
      refine (State.bpLeave_shadow task bg).trans ?_
      have flags : (v.core c).flags = (s.core c).flags := by simp [v, State.modCore, State.waited, hc, CoreSt.flags]
      have pc : (v.core c).pc = (s.core c).pc + 4 := by simp [v, State.modCore]
      rw [flags, pc]
      rfl
  · intro s c o k row n hrow serves task going free issues frame
    have shown : Completes row.1 s fun t => TrapShown s t c row.2 k := by
      simp only [List.mem_cons, List.not_mem_nil, or_false] at hrow
      rcases hrow with rfl | rfl | rfl
      · have h := issues rfl
        exact State.pierAct_trap (body := fun _ => .trap 6) h (h.core_eq rfl) rfl
          (show 6 ≠ 5 by decide)
      · refine ⟨_, exec_illegalInstruction serves, ?_⟩
        rw [going, free]
        exact State.trap_shown c.isLt task (by decide)
      · refine ⟨_, exec_budgetOverrun serves task (frame rfl), ?_⟩
        exact (State.trap_shown c.isLt (by simp [task]) (by decide)).of_same rfl rfl (by simp)
    have small : row.2 % 2 ^ 3 = row.2 := by
      simp only [List.mem_cons, List.not_mem_nil, or_false] at hrow
      rcases hrow with rfl | rfl | rfl <;> rfl
    obtain ⟨t, run, trap⟩ := shown
    exact ⟨t, run, trap.cause.trans small, trap.task, trap.valid, trap.pc, trap.overruns, trap.others⟩

end Sys2Proof.Machine
end

section
/-! Instructions that reach the deck (R17, R18, R21, R155, R156): what they do where their access does not wait, and where it
does. -/

namespace Sys2Proof.Machine

set_option Elab.async false

/-! ### How an instruction that reaches the deck ends -/

/-- An instruction whose own effect is done, whatever it changed, goes on to the next word where no body ends. -/
theorem State.conclude_next {s u : State} {i : Instr} {o : PierOp} {extra : Nat} {k : RunTask} {c : CoreId}
    (h : Issues s i o extra k) (hc : o.core = c) (task : (u.core c).task = some k)
    (slice : (u.core c).slice = ((s.waited o).core c).slice) (untested : k.background = true → u.tcmTested c = false)
    (straight : Straight u c ((s.core c).pc + 4)) :
    ∃ kf : CoreSt, s.conclude o k extra (.next u) = u.setCore c kf ∧ kf.pc = (s.core c).pc + 4 ∧ kf.task = some k ∧
      (u.setCore c kf).flagsOf c = u.flagsOf c ∧ kf.stall = (u.core c).stall := by
  have running : (s.core c).task = some k := hc ▸ h.task
  have goes : k.background = true → s.costOf o extra < (u.core c).slice := by
    intro bg
    have fits := h.fits
    rw [if_pos bg, hc] at fits
    rw [slice, State.core_waited hc]
    simp only [CoreSt.spend, running, bg, if_true]
    omega
  have done := State.pierDone_straight (o := o) (cost := s.costOf o extra)
    (issue := if (s.core o.core).joins o then ((s.waited o).core o.core).clk - 1 else ((s.waited o).core o.core).clk)
    (joined := (s.core o.core).joins o) (hc ▸ task) (hc ▸ goes) (hc ▸ untested) (hc ▸ straight)
  rw [hc] at done
  unfold State.conclude
  rw [hc]
  exact done

theorem State.deckAct_eq_conclude {s : State} {i : Instr} {o : PierOp} {k : RunTask} (body : State → PierRes)
    (h : Issues s i o 0 k) :
    s.deckAct i body = .next (State.keepHeld s (s.conclude o k 0 (body (s.waited o))) o.core i
      (s.running && s.inWin .commit)) := by
  unfold State.deckAct
  rw [h.op]
  exact (State.act_eq _ h.serves).trans (by rw [State.pierRun_eq_conclude body false h])

/-- An instruction that reaches the deck, and whose access does not wait, goes on to the next word. -/
theorem State.deckAct_next {s u : State} {i : Instr} {o : PierOp} {k : RunTask} {c : CoreId} {body : State → PierRes}
    (h : Issues s i o 0 k) (hc : o.core = c) (hb : body (s.waited o) = .next u) (task : (u.core c).task = some k)
    (slice : (u.core c).slice = ((s.waited o).core c).slice) (untested : k.background = true → u.tcmTested c = false)
    (going : (u.core c).stall = false) (straight : Straight u c ((s.core c).pc + 4)) :
    ∃ kf : CoreSt, s.deckAct i body = .next (u.setCore c kf) ∧ kf.pc = (s.core c).pc + 4 ∧ kf.task = some k ∧
      (u.setCore c kf).flagsOf c = u.flagsOf c := by
  obtain ⟨kf, done, pc, task', flags, stall⟩ := State.conclude_next h hc task slice untested straight
  refine ⟨kf, ?_, pc, task', flags⟩
  rw [State.deckAct_eq_conclude body h, hb, done, State.keepHeld_free (by simp [hc, stall, going])]

/-- What an effect leaves of its core so that the instruction's end does not see it: the core's own state, and the tests. -/
theorem State.deckAct_same_core {s u : State} {i : Instr} {o : PierOp} {k : RunTask} {c : CoreId} {body : State → PierRes}
    (h : Issues s i o 0 k) (hc : o.core = c) (hb : body (s.waited o) = .next u) (core : u.pier.core = (s.waited o).pier.core)
    (untested : k.background = true → u.tcmTested c = false) (straight : Straight u c ((s.core c).pc + 4)) :
    ∃ kf : CoreSt, s.deckAct i body = .next (u.setCore c kf) ∧ kf.pc = (s.core c).pc + 4 ∧ kf.task = some k ∧
      (u.setCore c kf).flagsOf c = s.flagsOf c := by
  have same (c' : Nat) : u.core c' = (s.waited o).core c' := by unfold State.core; rw [core]
  have running : (s.core c).task = some k := hc ▸ h.task
  have free : (s.core c).stall = false := hc ▸ h.free
  obtain ⟨kf, run, pc, task, flags⟩ := State.deckAct_next h hc hb (by rw [same, State.core_waited hc]; simpa using running)
    (by rw [same]) untested (by rw [same, State.core_waited hc]; simpa using free) straight
  refine ⟨kf, run, pc, task, flags.trans ?_⟩
  simp [State.flagsOf, same, State.core_waited hc]

/-- A read from the deck that does not wait writes its group of registers, and nothing else. -/
theorem State.deckAct_group {s : State} {i : Instr} {o : PierOp} {k : RunTask} {body : State → PierRes} {c : CoreId}
    {gd : Gpr} {vs : List Word} (h : Issues s i o 0 k) (hc : o.core = c) (fits : gd.toNat + vs.length ≤ 64)
    (hb : body (s.waited o) = .next ((s.waited o).putGroup c gd vs))
    (hstr : Straight (s.putGroup c gd vs) c ((s.core c).pc + 4)) :
    ∃ t, s.deckAct i body = .next t ∧ CoreOnly s t c ((s.core c).pc + 4) ∧ WritesGroup s t c gd vs ∧
      t.flagsOf c = s.flagsOf c := by
  have waits : CoreUpd s (s.waited o) c := hc ▸ CoreUpd.waited s o
  obtain ⟨gprs, regs⟩ := (s.waited o).putGroup_regsOnly c gd vs
  have reads (c' g : Nat) (hg : g < 64) := State.gpr_putGroup (s.waited o) c fits c' g hg
  obtain ⟨kf, run, pc, task, flags⟩ := State.deckAct_same_core h hc hb (by rw [regs]) (fun bg => by rw [regs]; exact hc ▸ h.untested bg)
    (hstr.congr fun g hg => by rw [reads _ _ hg, State.gpr_putGroup _ _ fits _ _ hg, waits.gpr])
  refine ⟨_, run, ⟨?_, fun c' hc' => ⟨?_, fun g hg => ?_⟩, ?_, ?_⟩, fun g hg => ?_, flags⟩
  · rw [regs]
    exact ⟨_, _, rfl⟩
  · rw [State.core_setCore_ne _ _ _ _ (Ne.symm hc'), regs]
    exact waits.others _ hc'
  · rw [State.gpr_setCore, reads _ _ hg, if_neg (fun x => hc' x.1), waits.gpr]
  · simp [pc]
  · simp [task, show (s.core c).task = some k from hc ▸ h.task]
  · rw [State.gpr_setCore, reads _ _ hg, waits.gpr]
    simp

/-- An access that waits for the end of the commit window leaves its instruction undone, kept by the core that stalls (R18). -/
theorem State.deckAct_waits {s : State} {i : Instr} {o : PierOp} {k : RunTask} {body : State → PierRes} {c : CoreId}
    (h : Issues s i o 0 k) (hc : o.core = c) (hb : body (s.waited o) = .wait)
    (window : (s.running && s.inWin .commit) = true) :
    ∃ t, s.deckAct i body = .next t ∧ CoreOnly s t c (s.core c).pc ∧ KeepsGprs s t c ∧ (t.core c).stall = true ∧
      (t.core c).held = some i := by
  have free : (s.core c).stall = false := hc ▸ h.free
  refine ⟨_, State.deckAct_eq_conclude body h, ?_⟩
  rw [hb]
  unfold State.conclude State.keepHeld
  simp only [hc, window, free, State.modCore, State.core_setCore_same, Bool.not_false, Bool.and_self, if_true]
  refine ⟨⟨⟨_, _, rfl⟩, fun c' hc' => ⟨?_, fun g _ => rfl⟩, ?_, ?_⟩, fun g _ => rfl, ?_, ?_⟩
  · rw [State.core_setCore_ne _ _ _ _ (Ne.symm hc'), State.core_setCore_ne _ _ _ _ (Ne.symm hc')]
    exact (hc ▸ CoreUpd.waited s o : CoreUpd s (s.waited o) c).others _ hc'
  · simp [State.core_waited hc]
  · simp [State.core_waited hc]
  · simp
  · simp

/-! ### Where an access may be made -/

theorem State.commit_of_windowWait {s : State} {a n : Nat} (h : s.windowWait a n = true) :
    (s.running && s.inWin .commit) = true := by
  unfold State.windowWait at h
  exact (Bool.and_eq_true_iff.mp h).1

/-- A pier writes to deck SRAM above the point regions only (R65). -/
theorem State.deckRam_of_pier_write {s : State} {c a n : Nat} (h : s.deckWriteOk (s.pierInit c) a n = true) (some' : 0 < n) :
    deckRamBase ≤ a := by
  simp only [State.deckWriteOk, State.pierInit, touches, Bool.and_eq_true, Bool.not_eq_true', Bool.and_eq_false_iff,
    decide_eq_false_iff_not, Bool.or_eq_true] at h
  obtain ⟨⟨⟨⟨-, planes⟩, points⟩, -⟩, -⟩ := h
  unfold deckRamBase
  rcases points with points | impossible
  · omega
  · cases impossible

/-- Bytes that a pier stores: the bytes read back, the ECC errors they cover are gone, the mirror may send them. -/
theorem State.deckPut_ram {s : State} {a : Nat} {bs : List Byte} (h : deckRamBase ≤ a) :
    ∃ d e tw, s.deckPut a bs = { s with deck := d, health := e, twin := tw } ∧ e.running = s.health.running ∧
      ∀ b, (s.deckPut a bs).dByte b = if a ≤ b ∧ b < a + bs.length then bs.getD (b - a) 0 else s.dByte b := by
  unfold State.deckPut
  rw [if_neg (by omega)]
  obtain ⟨tw, htw⟩ := State.mirrorRange_rest ((s.setDBytes a bs).eccClear a bs.length) a bs.length
  obtain ⟨d, hd⟩ := State.setDBytes_rest bs s a
  have byte (b : Nat) := State.dByte_setDBytes s a bs b
  rw [htw]
  refine ⟨d, ((s.setDBytes a bs).eccClear a bs.length).health, tw, ?_, ?_, byte⟩
  · rw [hd]
    rfl
  · rw [hd]
    rfl

/-- The bytes of a run of words, least significant byte first (R3). -/
theorem getD_flatMap_toBytes (ws : List Word) (k : Nat) (hk : k < 4 * ws.length) :
    (ws.flatMap fun w => toBytes w.toNat 4).getD k 0 = BitVec.ofNat 8 ((ws.getD (k / 4) 0).toNat / 256 ^ (k % 4)) := by
  induction ws generalizing k with
  | nil => simp at hk
  | cons w ws ih =>
    rw [List.flatMap_cons]
    by_cases first : k < 4
    · rw [List.getD_append _ _ _ _ (by simpa using first), getD_toBytes _ _ _ first, Nat.div_eq_of_lt first,
        Nat.mod_eq_of_lt first]
      rfl
    · rw [List.getD_append_right _ _ _ _ (by simpa using Nat.le_of_not_lt first), length_toBytes, ih _ (by simp at hk; omega)]
      have quotient : k / 4 = (k - 4) / 4 + 1 := by omega
      have remainder : k % 4 = (k - 4) % 4 := by omega
      rw [quotient, remainder, List.getD_cons_succ]

/-! ### Loads, stores, compare-and-swap (R155, R156) -/

/-- A deck load from an aligned address that the deck admits, which finds no ECC error. -/
theorem State.deckLoad_ok {s : State} {i : Instr} {o : PierOp} {k : RunTask} {c : CoreId} {gd ga : Gpr} {imm : BitVec 14}
    {n : Nat} (h : Issues s i o 0 k) (hc : o.core = c) (fits : gd.toNat + n ≤ 64) :
    let a := s.addrOf c ga imm
    let vs := (List.range n).map fun j => BitVec.ofNat 32 (s.deckWord (a + 4 * j))
    a % (4 * n) = 0 → s.deckReadOk (s.pierInit c) a (4 * n) = true → s.eccClean a (4 * n) = true →
    s.windowWait a (4 * n) = false → Straight (s.putGroup c gd vs) c ((s.core c).pc + 4) →
    ∃ t, s.deckAct i (fun s => s.deckLoad c gd ga imm .ok n) = .next t ∧ CoreOnly s t c ((s.core c).pc + 4) ∧
      WritesGroup s t c gd vs ∧ t.flagsOf c = s.flagsOf c := by
  intro a vs aligned admits clean now straight
  refine State.deckAct_group h hc (by simpa [vs] using fits) ?_ straight
  change (if !(a % (4 * n) == 0 && s.deckReadOk (s.pierInit c) a (4 * n)) then PierRes.trap 4
    else if s.windowWait a (4 * n) then .wait
    else if (s.waited o).eccBad a (4 * n) .ok then .deckUe ((s.waited o).eccFound a (4 * n) .ok)
    else .next (((s.waited o).eccFound a (4 * n) .ok).putGroup c gd vs)) = _
  have clean' : (s.waited o).eccClean a (4 * n) = true := clean
  rw [if_neg (by simp [aligned, admits]), if_neg (by simp [now]), State.eccBad_clean clean', if_neg Bool.false_ne_true,
    State.eccFound_clean clean']

/-- A deck store to an aligned address that the deck admits, whose partly covered quarters hold no ECC error. -/
theorem State.deckStore_ok {s : State} {i : Instr} {o : PierOp} {k : RunTask} {c : CoreId} {gd ga : Gpr} {imm : BitVec 14}
    {n : Nat} (h : Issues s i o 0 k) (hc : o.core = c) (some' : 0 < n) :
    let a := s.addrOf c ga imm
    a % (4 * n) = 0 → s.deckWriteOk (s.pierInit c) a (4 * n) = true → s.windowWait a (4 * n) = false →
    (∀ q ∈ partQuarters a (4 * n), s.eccClean q 8 = true) → Straight s c ((s.core c).pc + 4) →
    ∃ t, s.deckAct i (fun s => s.deckStore c gd ga imm n) = .next t ∧
      (∀ b, t.dByte b = if a ≤ b ∧ b < a + 4 * n
        then BitVec.ofNat 8 ((s.gpr c (gd.toNat + (b - a) / 4)).toNat / 256 ^ ((b - a) % 4)) else s.dByte b) ∧
      (∀ x, t.tcmByte x = s.tcmByte x) ∧ KeepsGprs s t c ∧ (∀ f i j, t.rd f i j = s.rd f i j) ∧
      (t.core c).pc = (s.core c).pc + 4 ∧ t.flagsOf c = s.flagsOf c := by
  intro a aligned admits now clean straight
  let bs := (s.raGroup c gd n).flatMap fun w => toBytes w.toNat 4
  have words : (s.raGroup c gd n).length = n := by simp [State.raGroup]
  have bytes : bs.length = 4 * n := by simp [bs, List.length_flatMap, words, Nat.mul_comm]
  obtain ⟨d, e, tw, put, tests, stored⟩ := State.deckPut_ram (s := s.waited o) (bs := bs)
    (State.deckRam_of_pier_write admits (by omega))
  have effect : (s.waited o).deckStore c gd ga imm n = .next ((s.waited o).deckPut a bs) := by
    have clean' : (s.waited o).partRead a (4 * n) .ok = (false, s.waited o) := State.partRead_of_clean _ clean
    unfold State.deckStore
    change (if !(a % (4 * n) == 0 && s.deckWriteOk (s.pierInit c) a (4 * n)) then PierRes.trap 4
      else if s.windowWait a (4 * n) then .wait
      else if ((s.waited o).partRead a (4 * n) .ok).1 then .deckUe ((s.waited o).partRead a (4 * n) .ok).2
      else .next (((s.waited o).partRead a (4 * n) .ok).2.deckPut a bs)) = _
    rw [if_neg (by simp [aligned, admits]), if_neg (by simp [now]), clean', if_neg Bool.false_ne_true]
  obtain ⟨kf, run, pc, -, flags⟩ := State.deckAct_same_core (body := fun s => s.deckStore c gd ga imm n) h hc effect
    (by rw [put])
    (fun bg => by rw [put]; unfold State.tcmTested; rw [tests]; exact hc ▸ h.untested bg)
    (straight.congr fun g _ => by rw [put]; rfl)
  refine ⟨_, run, fun b => ?_, fun x => by rw [put]; rfl, fun g _ => by rw [put]; rfl, fun f i j => by rw [put]; rfl,
    by simp [pc], flags⟩
  have byte : (((s.waited o).deckPut a bs).setCore c kf).dByte b = ((s.waited o).deckPut a bs).dByte b := rfl
  rw [byte, stored, bytes]
  by_cases inside : a ≤ b ∧ b < a + 4 * n
  · rw [if_pos inside, if_pos inside, getD_flatMap_toBytes _ _ (by rw [words]; omega)]
    have member : (b - a) / 4 < n := by omega
    simp [State.raGroup, List.getD_eq_getElem?_getD, member]
  · rw [if_neg inside, if_neg inside]
    rfl

/-- A compare-and-swap of an aligned word that the deck admits, which holds no ECC error. -/
theorem State.dcas_ok {s : State} {o : PierOp} {k : RunTask} {c : CoreId} {gd ga gb : Gpr}
    (h : Issues s (.dcas c gd ga gb .ok) o 0 k) :
    let a := (s.ra c ga).toNat
    let old := BitVec.ofNat 32 (s.deckWord a)
    a % 4 = 0 → s.deckReadOk (s.pierInit c) a 4 = true → s.deckWriteOk (s.pierInit c) a 4 = true →
    s.eccClean a 4 = true → s.windowWait a 4 = false → Straight (s.put c gd old) c ((s.core c).pc + 4) →
    Completes (.dcas c gd ga gb .ok) s fun t =>
      Writes s t c gd old ∧ (t.core c).pc = (s.core c).pc + 4 ∧
      (∀ b, t.dByte b = if old = s.ra c gd ∧ a ≤ b ∧ b < a + 4
        then BitVec.ofNat 8 ((s.ra c gb).toNat / 256 ^ (b - a)) else s.dByte b) ∧
      (∀ x, t.tcmByte x = s.tcmByte x) ∧ ∀ f i j, t.rd f i j = s.rd f i j := by
  intro a old aligned reads writes clean now straight
  have hc : o.core = c := h.core_eq rfl
  let w := if old = s.ra c gd then (s.waited o).deckPut a (toBytes (s.ra c gb).toNat 4) else s.waited o
  obtain ⟨d, e, tw, hw, tests, stored⟩ : ∃ d e tw, w = { s.waited o with deck := d, health := e, twin := tw } ∧
      e.running = s.health.running ∧ ∀ b, w.dByte b = if old = s.ra c gd ∧ a ≤ b ∧ b < a + 4
        then BitVec.ofNat 8 ((s.ra c gb).toNat / 256 ^ (b - a)) else s.dByte b := by
    by_cases equal : old = s.ra c gd
    · obtain ⟨d, e, tw, put, tests, stored⟩ := State.deckPut_ram (s := s.waited o) (bs := toBytes (s.ra c gb).toNat 4)
        (State.deckRam_of_pier_write writes (by omega))
      refine ⟨d, e, tw, (if_pos equal).trans put, tests, fun b => ?_⟩
      rw [show w = _ from if_pos equal, stored, length_toBytes]
      by_cases inside : a ≤ b ∧ b < a + 4
      · rw [if_pos inside, if_pos ⟨equal, inside⟩, getD_toBytes _ _ _ (by omega)]
      · rw [if_neg inside, if_neg (fun x => inside x.2)]
        rfl
    · refine ⟨_, _, _, if_neg equal, rfl, fun b => ?_⟩
      rw [show w = _ from if_neg equal, if_neg (fun x => equal x.1)]
      rfl
  have clean' : (s.waited o).eccClean a 4 = true := clean
  obtain ⟨body, exec', effect⟩ : ∃ body, exec (.dcas c gd ga gb .ok) s = s.deckAct (.dcas c gd ga gb .ok) body ∧
      body (s.waited o) = .next (w.put c gd old) := by
    refine ⟨_, rfl, ?_⟩
    change (if !(a % 4 == 0 && s.deckReadOk (s.pierInit c) a 4 && s.deckWriteOk (s.pierInit c) a 4) then PierRes.trap 4
      else if s.windowWait a 4 then .wait
      else if (s.waited o).eccBad a 4 .ok then .deckUe ((s.waited o).eccFound a 4 .ok)
      else .next ((if old = ((s.waited o).eccFound a 4 .ok).ra c gd
        then ((s.waited o).eccFound a 4 .ok).deckPut a (toBytes (((s.waited o).eccFound a 4 .ok).ra c gb).toNat 4)
        else (s.waited o).eccFound a 4 .ok).put c gd old)) = _
    rw [if_neg (by simp [aligned, reads, writes]), if_neg (by simp [now]), State.eccBad_clean clean',
      if_neg Bool.false_ne_true, State.eccFound_clean clean']
    rfl
  obtain ⟨gprs, regs⟩ := w.setGpr_regsOnly c gd.toNat old
  have read (g : Nat) (hg : g < 64) : (w.setGpr c gd.toNat old).gpr c g = if g = gd.toNat ∧ g ≠ 0 then old else s.gpr c g := by
    rw [State.gpr_setGpr _ _ _ _ _ _ gd.isLt hg, show w.gpr c g = s.gpr c g by rw [hw]; rfl]
    by_cases at' : g = gd.toNat <;> simp [at', eq_comm]
  obtain ⟨kf, run, pc, -, -⟩ := State.deckAct_same_core (body := body) h hc effect
    (by rw [State.put, regs, hw])
    (fun bg => by rw [State.put, regs, hw]; unfold State.tcmTested; dsimp only; rw [tests]; exact hc ▸ h.untested bg)
    (straight.congr fun g hg => by
      rw [State.put, read g hg, State.put, State.gpr_setGpr _ _ _ _ _ _ gd.isLt hg]
      by_cases at' : g = gd.toNat <;> simp [at', eq_comm])
  refine ⟨_, exec'.trans run, fun g hg => ?_, by simp [pc], fun b => ?_, fun x => ?_, fun f i j => ?_⟩
  · rw [State.gpr_setCore, State.put, read g hg]
  · have byte : ((w.put c gd old).setCore c kf).dByte b = w.dByte b := by rw [State.put, regs]; rfl
    rw [byte, stored]
  · rw [State.put, regs, hw]; rfl
  · rw [State.put, regs, hw]; rfl

/-- A register group that is listed ends with the registers (R136). -/
theorem group_fits {g : Gpr} {n : Nat} (h : groupOk g n = true) (divides : 64 % n = 0) : g.toNat + n ≤ 64 := by
  have below := g.isLt
  simp only [groupOk, Bool.and_eq_true, beq_iff_eq] at h
  obtain ⟨x, hx⟩ := Nat.dvd_of_mod_eq_zero h.1
  obtain ⟨y, hy⟩ := Nat.dvd_of_mod_eq_zero divides
  have less : x < y := by
    by_contra more
    have := Nat.mul_le_mul_left n (Nat.le_of_not_lt more)
    omega
  have := Nat.mul_le_mul_left n less
  rw [Nat.mul_succ] at this
  omega

theorem opLoad_fits {c : CoreId} {gd ga : Gpr} {n l cost : Nat} {o : PierOp} (h : o.legal = true)
    (op : opLoad c gd ga n l cost = o) (divides : 64 % n = 0) : gd.toNat + n ≤ 64 := by
  subst op
  by_cases one : n = 1
  · have := gd.isLt
    omega
  · exact group_fits (by simpa [opLoad, one] using h) divides

theorem State.deckLoad_waits {s : State} {o : PierOp} {c : CoreId} {gd ga : Gpr} {imm : BitVec 14} {n : Nat}
    (aligned : s.addrOf c ga imm % (4 * n) = 0) (admits : s.deckReadOk (s.pierInit c) (s.addrOf c ga imm) (4 * n) = true)
    (waits : s.windowWait (s.addrOf c ga imm) (4 * n) = true) : (s.waited o).deckLoad c gd ga imm .ok n = .wait := by
  let a := s.addrOf c ga imm
  change (if !(a % (4 * n) == 0 && s.deckReadOk (s.pierInit c) a (4 * n)) then PierRes.trap 4
    else if s.windowWait a (4 * n) then .wait else _) = _
  rw [if_neg (by simp [a, aligned, admits]), if_pos waits]

theorem State.deckStore_waits {s : State} {o : PierOp} {c : CoreId} {gd ga : Gpr} {imm : BitVec 14} {n : Nat}
    (aligned : s.addrOf c ga imm % (4 * n) = 0) (admits : s.deckWriteOk (s.pierInit c) (s.addrOf c ga imm) (4 * n) = true)
    (waits : s.windowWait (s.addrOf c ga imm) (4 * n) = true) : (s.waited o).deckStore c gd ga imm n = .wait := by
  let a := s.addrOf c ga imm
  change (if !(a % (4 * n) == 0 && s.deckWriteOk (s.pierInit c) a (4 * n)) then PierRes.trap 4
    else if s.windowWait a (4 * n) then .wait else _) = _
  rw [if_neg (by simp [a, aligned, admits]), if_pos waits]

/-- Settles O19: by whether the access waits, and by what the instruction does at the deck. -/
theorem deckMemory : Obligations.DeckMemory := by
  unfold Obligations.DeckMemory
  refine ⟨?_, ?_, ?_, fun s c gd ga gb o k aligned reads writes clean now h => State.dcas_ok h aligned reads writes clean now⟩
  · intro s c gd ga imm o k row a hrow n aligned reads writes wait h
    have window := State.commit_of_windowWait wait
    simp only [List.mem_cons, List.not_mem_nil, or_false] at hrow
    rcases hrow with rfl | rfl | rfl | rfl | rfl | rfl
    · exact State.deckAct_waits h (h.core_eq rfl) (State.deckLoad_waits aligned (reads rfl) wait) window
    · exact State.deckAct_waits h (h.core_eq rfl) (State.deckLoad_waits aligned (reads rfl) wait) window
    · exact State.deckAct_waits h (h.core_eq rfl) (State.deckLoad_waits aligned (reads rfl) wait) window
    · exact State.deckAct_waits h (h.core_eq rfl) (State.deckStore_waits aligned (writes rfl) wait) window
    · exact State.deckAct_waits h (h.core_eq rfl) (State.deckStore_waits aligned (writes rfl) wait) window
    · exact State.deckAct_waits h (h.core_eq rfl) (State.deckStore_waits aligned (writes rfl) wait) window
  · intro s c gd ga imm o k row a hrow vs aligned admits clean now h straight
    simp only [List.mem_cons, List.not_mem_nil, or_false] at hrow
    rcases hrow with rfl | rfl | rfl
    · exact State.deckLoad_ok h (h.core_eq rfl) (opLoad_fits h.legal (Option.some.inj h.op) rfl) aligned admits clean now straight
    · exact State.deckLoad_ok h (h.core_eq rfl) (opLoad_fits h.legal (Option.some.inj h.op) rfl) aligned admits clean now straight
    · exact State.deckLoad_ok h (h.core_eq rfl) (opLoad_fits h.legal (Option.some.inj h.op) rfl) aligned admits clean now straight
  · intro s c gd ga imm o k row a hrow aligned admits now clean h straight
    simp only [List.mem_cons, List.not_mem_nil, or_false] at hrow
    rcases hrow with rfl | rfl | rfl
    · exact State.deckStore_ok h (h.core_eq rfl) (by decide) aligned admits now clean straight
    · exact State.deckStore_ok h (h.core_eq rfl) (by decide) aligned admits now clean straight
    · exact State.deckStore_ok h (h.core_eq rfl) (by decide) aligned admits now clean straight

end Sys2Proof.Machine
end

section
/-! Point reads and writes of a pier (R75 to R77, R160): a read brings the words of a record; an accepted write enters the next
plane, and what the mirror and the ring are told of it stays in their own parts of the device. -/

namespace Sys2Proof.Machine

set_option Elab.async false

/-! ### What telling the mirror and the ring of a write changes (R368, R391) -/

/-- `t` is `s` but for the registers, the ring, the twin link and the recorder. -/
abbrev LinksOnly (s t : State) : Prop := ∃ rf tre twin evr, t = { s with rf := rf, tre := tre, twin := twin, evr := evr }

namespace LinksOnly

variable {s t u : State}

theorem refl (s : State) : LinksOnly s s := ⟨_, _, _, _, rfl⟩

theorem trans (h : LinksOnly s t) (h' : LinksOnly t u) : LinksOnly s u := by
  obtain ⟨rf, tre, twin, evr, rfl⟩ := h
  obtain ⟨rf', tre', twin', evr', rfl⟩ := h'
  exact ⟨rf', tre', twin', evr', rfl⟩

theorem tre (s : State) (x : TreSt) : LinksOnly s { s with tre := x } := ⟨_, _, _, _, rfl⟩

theorem wr (s : State) (f : Fld) (v i j : Nat) : LinksOnly s (s.wr f v i j) := ⟨_, _, _, _, rfl⟩

theorem event (s : State) (code : Nat) (words : List Nat) : LinksOnly s (s.event code words) := by
  obtain ⟨e, o, h⟩ := (EventOnly.event s code words).rest
  exact ⟨_, _, _, _, h⟩

theorem mirror (s : State) (m : MirrorItem) : LinksOnly s (s.mirror m) := by
  obtain ⟨tw, h⟩ := s.mirror_rest m
  exact ⟨_, _, _, _, h⟩

theorem each {α : Type} (l : List α) {f : State → α → State} (h : ∀ s a, LinksOnly s (f s a)) (s : State) :
    LinksOnly s (s.each l f) := by
  unfold State.each
  induction l generalizing s with
  | nil => exact refl s
  | cons a l ih => exact (h s a).trans (ih _)

theorem treSend (s : State) (p : Nat) (x : Nat → TreOut) : LinksOnly s (s.treSend p x) := by
  unfold State.treSend
  split
  · exact LinksOnly.tre s _
  · exact refl s

theorem sendFrames (s : State) (ps : List PubUpdate) : LinksOnly s (s.sendFrames ps) := by
  refine each _ (fun s g => ?_) s
  split
  · exact refl s
  · exact (treSend s 0 _).trans (treSend _ 1 _)

theorem launch (s : State) (f : Nat) (u : Update) : LinksOnly s (s.launch f u) := by
  unfold State.launch
  extract_lets n c s₁ late p ring s₂ s₃
  have counted : LinksOnly s s₂ := (LinksOnly.tre s _).trans (LinksOnly.tre s₁ _)
  split
  · exact wr s _ _ _ _
  · split
    · exact counted
    · have sent : LinksOnly s s₃ := counted.trans (wr s₂ _ _ _ _)
      split
      · exact sent
      · exact sent.trans ((LinksOnly.tre s₃ _).trans (event _ _ _))

theorem publishAs (s : State) (o p : Nat) (r : PtRec) : LinksOnly s (s.publishAs o p r) := by
  unfold State.publishAs
  extract_lets d u t ring s₁
  split
  · exact refl s
  · split
    · exact (launch s o u).trans (sendFrames t _)
    · split
      · exact LinksOnly.tre s _
      · have dropped : LinksOnly s s₁ := wr s _ _ _ _
        split
        · exact dropped
        · exact dropped.trans ((LinksOnly.tre s₁ _).trans (event _ _ _))

theorem announce (s : State) (o p : Nat) (r : PtRec) : LinksOnly s (s.announce o p r) := by
  unfold State.announce
  extract_lets s₁
  have mirrored : LinksOnly s s₁ := by
    unfold s₁
    split
    · exact mirror s _
    · exact refl s
  exact mirrored.trans (publishAs s₁ o p _)

end LinksOnly

/-! ### Reads (R160) -/

/-- The register group of an instruction of either kind of code ends with the registers (R136, R140). -/
theorem listed_fits {s : State} {i : Instr} {o o' : PierOp} {extra : Nat} {k : RunTask} {g : Gpr} {n : Nat}
    (h : Issues s i o extra k) (op : pierOp i = some o') (legal : o'.legal = groupOk g n) (divides : 64 % n = 0) :
    g.toNat + n ≤ 64 :=
  group_fits (legal ▸ Option.some.inj (h.op.symm.trans op) ▸ h.legal) divides

/-- A read of a plane that does not wait and finds no ECC error. -/
theorem State.planeRead_ok {s : State} {c : CoreId} {g : Gpr} {a len : Nat} {ws : List Word} (now : s.windowWait 0 1 = false)
    (clean : s.eccClean a len = true) : s.planeRead c g a len ws = .next (s.putGroup c g ws) := by
  unfold State.planeRead
  rw [if_neg (by simp [now]), State.eccBad_clean clean, State.eccFound_clean clean]
  rfl

/-- The owner's task reads the next-plane record, other background code the seen one (R77, R162). -/
theorem State.nextRead_ok {s : State} {c : CoreId} {g : Gpr} {p n : Nat} :
    let d := s.desc p
    let mine : Prop := d.cls = 1 ∧ d.ownerId = s.taskOf c
    (mine ∨ s.inBackground c = true) → s.windowWait 0 1 = false →
    s.eccClean ((if decide mine then 0x00200000 else 0) + 16 * p) (4 * n) = true →
    s.nextRead c g p n = .next (s.putGroup c g
      ((List.range n).map fun j => BitVec.ofNat 32 ((if decide mine then s.nextRec p else s.seen p).word d j))) := by
  intro d mine who now clean
  unfold State.nextRead
  rw [if_neg (by simp [now])]
  by_cases owner : mine
  · simp only [owner, decide_true, if_true] at clean ⊢
    rw [if_pos owner]
    exact State.planeRead_ok now clean
  · simp only [owner, decide_false, Bool.false_eq_true, if_false, false_or, Nat.zero_add] at who clean ⊢
    rw [if_neg owner, if_pos who]
    unfold State.pointRead
    simp only [Nat.mul_zero, Nat.add_zero, Nat.zero_add, State.seenWord]
    exact State.planeRead_ok now clean

/-! ### Writes (R75, R76, R79, R95) -/

/-- Code that remembers a point's next-plane value at dispatch keeps all else of its core (R52). -/
theorem State.noteWrite_pier (s : State) (c p : Nat) :
    ∃ l, (s.noteWrite c p).pier = (s.modCore c fun k => { k with wrote := l }).pier ∨ (s.noteWrite c p).pier = s.pier := by
  unfold State.noteWrite
  split
  · exact ⟨[], .inr rfl⟩
  · exact ⟨(s.core c).wrote ++ [(p, Sparse.find? s.pts.next p)], .inl rfl⟩

/-- The record an accepted write gives a point (R79, R95). -/
theorem State.record_value (s : State) (d : Desc) (v : Word) (q : Quality) :
    let r := s.record d v q (s.frame, s.offset)
    r.value = (d.clampVal v).1 ∧ r.qual = q ∧ r.origin = s.devId ∧ r.frame = s.frame ∧ r.offset = s.offset := by
  unfold State.record
  exact ⟨rfl, rfl, rfl, rfl, rfl⟩

/-- The owner's write between the close of the commit window and write-close enters the next plane. -/
theorem State.pointWrite_ok {s : State} {c : CoreId} {p : Nat} {v : Word} {q : Quality} (coherent : s.coherent = true)
    (heeds : s.standbyIgnores p = false) (early : s.writeClosed = false) (now : s.windowWait 0 1 = false)
    (soft : (s.desc p).cls = 1) (own : (s.desc p).ownerId = s.taskOf c)
    (carries : (q == .forced || q == .late || q == .unbound) = false) :
    ∃ t, s.pointWrite c p v q = .next t ∧
      t.pts = { s.pts with next := Sparse.put s.pts.next p (s.record (s.desc p) v q (s.frame, s.offset)) } ∧
      t.pier = (s.noteWrite c p).pier ∧ t.health.running = s.health.running := by
  let r := s.record (s.desc p) v q (s.frame, s.offset)
  have open' : (s.running && s.inWin .commit) = false := by
    unfold State.windowWait at now
    simpa [touches] using now
  obtain ⟨rf, tre, twin, evr, told⟩ := LinksOnly.announce (s.enterNext p r) s.frame p r
  have accepted : s.acceptWrite p r = (s.enterNext p r).announce s.frame p r := by
    unfold State.acceptWrite
    rw [if_neg (by simp [early]), if_neg (by simp [open'])]
  have soft' : s.softWrite p 1 (s.taskOf c) v q = (.ok, (s.enterNext p r).announce s.frame p r) := by
    unfold State.softWrite
    rw [if_neg (by simp [coherent]), if_neg (by simp [heeds]), if_pos ⟨soft, own⟩, accepted]
  have written : s.pierWrite c p v q =
      (.ok, { (s.enterNext p r).announce s.frame p r with pier := (s.noteWrite c p).pier }) := by
    unfold State.pierWrite
    simp only [soft', carries, Bool.false_eq_true, if_false, early]
  refine ⟨{ (s.enterNext p r).announce s.frame p r with pier := (s.noteWrite c p).pier }, ?_, ?_, rfl, ?_⟩
  · unfold State.pointWrite
    rw [if_neg (by simp [now]), written]
  · rw [told]
    rfl
  · rw [told]
    rfl

/-- An instruction that makes such a write. -/
theorem State.deckAct_write {s : State} {i : Instr} {o : PierOp} {k : RunTask} {body : State → PierRes} {c : CoreId}
    {p : Nat} {v : Word} {q : Quality} (h : Issues s i o 0 k) (hc : o.core = c)
    (hb : body (s.waited o) = (s.waited o).pointWrite c p v q) (coherent : s.coherent = true)
    (heeds : s.standbyIgnores p = false) (early : s.writeClosed = false) (now : s.windowWait 0 1 = false)
    (soft : (s.desc p).cls = 1) (own : (s.desc p).ownerId = k.taskNo)
    (carries : (q == .forced || q == .late || q == .unbound) = false) (straight : Straight s c ((s.core c).pc + 4)) :
    ∃ t, s.deckAct i body = .next t ∧
      (∃ r, Sparse.find? t.pts.next p = some r ∧ r.value = ((s.desc p).clampVal v).1 ∧
        r.qual = q ∧ r.origin = s.devId ∧ r.frame = s.frame ∧ r.offset = s.offset) ∧
      (∀ p', p' ≠ p → Sparse.find? t.pts.next p' = Sparse.find? s.pts.next p') ∧
      KeepsGprs s t c ∧ (t.core c).pc = (s.core c).pc + 4 ∧ t.flagsOf c = s.flagsOf c := by
  have task : (s.core c).task = some k := hc ▸ h.task
  have free : (s.core c).stall = false := hc ▸ h.free
  have number : (s.waited o).taskOf c = k.taskNo := by simp [State.taskOf, State.core_waited hc, task]
  obtain ⟨u, write, pts, pier, tests⟩ := State.pointWrite_ok (s := s.waited o) (c := c) (v := v) coherent heeds early now soft
    (own.trans number.symm) carries
  obtain ⟨l, noted⟩ := (s.waited o).noteWrite_pier c p
  have core : ∃ wrote, u.core c = { (s.waited o).core c with wrote := wrote } := by
    unfold State.core
    rw [pier]
    rcases noted with noted | noted
    · exact ⟨l, by rw [noted]; exact State.core_setCore_same _ _ _⟩
    · exact ⟨((s.waited o).core c).wrote, by rw [noted]; rfl⟩
  have gprs (g : Nat) : u.gpr c g = s.gpr c g := by
    unfold State.gpr
    rw [pier]
    rcases noted with noted | noted <;> rw [noted] <;> rfl
  obtain ⟨wrote, core⟩ := core
  obtain ⟨kf, run, pc, -, flags⟩ := State.deckAct_next h hc (hb.trans write) (by rw [core, State.core_waited hc]; simpa using task)
    (by rw [core]) (fun bg => by unfold State.tcmTested; rw [tests]; exact hc ▸ h.untested bg)
    (by rw [core, State.core_waited hc]; simpa using free) (straight.congr fun g _ => gprs g)
  have next : u.pts.next = Sparse.put s.pts.next p (s.record (s.desc p) v q (s.frame, s.offset)) := by rw [pts]; rfl
  refine ⟨_, run, ⟨_, ?_, s.record_value _ v q⟩, fun p' hp' => ?_, fun g _ => (State.gpr_setCore ..).trans (gprs g),
    by simp [pc], flags.trans ?_⟩
  · change Sparse.find? u.pts.next p = _
    rw [next, Sparse.find?_put]
    simp
  · change Sparse.find? u.pts.next p' = _
    rw [next, Sparse.find?_put, if_neg (Ne.symm hp')]
  · simp [State.flagsOf, core, State.core_waited hc]

/-- The qualities that PSTQ may carry (R76). -/
theorem carries_of_code (q : BitVec 3) (h : q.toNat ≤ 3 ∨ q.toNat = 5) :
    (Quality.ofCode q.toNat == .forced || Quality.ofCode q.toNat == .late || Quality.ofCode q.toNat == .unbound) = false := by
  revert h
  revert q
  decide

/-- Settles O20: reads by `planeRead` and `nextRead`, writes by `pointWrite`. -/
theorem pointAccess : Obligations.PointAccess := by
  unfold Obligations.PointAccess
  refine ⟨?_, ?_, ?_⟩
  · intro s c g p o k row w x hrow now clean h straight
    have single : g.toNat + 1 ≤ 64 := g.isLt
    simp only [List.mem_append, List.mem_cons, List.not_mem_nil, or_false] at hrow
    rcases hrow with (rfl | rfl | rfl | rfl) | hrow
    · exact State.deckAct_group h (h.core_eq rfl) single (State.planeRead_ok now clean) straight
    · exact State.deckAct_group h (h.core_eq rfl) (listed_fits (n := 2) h rfl rfl rfl)
        (State.planeRead_ok now clean) straight
    · exact State.deckAct_group h (h.core_eq rfl) (listed_fits (n := 4) h rfl rfl rfl)
        (State.planeRead_ok now clean) straight
    · exact State.deckAct_group h (h.core_eq rfl) single (State.planeRead_ok now clean) straight
    · by_cases inside : x < 2 ^ 17
      · rw [if_pos inside, List.mem_singleton] at hrow
        subst hrow
        refine State.deckAct_group h (h.core_eq rfl) single ?_ straight
        change (if 2 ^ 17 ≤ x then PierRes.trap 4 else (s.waited o).pointRead c g x 0 1) = _
        rw [if_neg (by omega)]
        exact State.planeRead_ok now clean
      · rw [if_neg inside] at hrow
        cases hrow
  · intro s c g p o k row hrow d mine r vs who now clean h straight
    have hc : o.core = c := by
      simp only [List.mem_cons, List.not_mem_nil, or_false] at hrow
      rcases hrow with rfl | rfl <;> exact h.core_eq rfl
    have task : (s.core c).task = some k := hc ▸ h.task
    have number : (s.waited o).taskOf c = k.taskNo := by simp [State.taskOf, State.core_waited hc, task]
    have reads : (s.waited o).nextRead c g p.toNat row.2 = .next ((s.waited o).putGroup c g vs) := by
      have := State.nextRead_ok (s := s.waited o) (c := c) (g := g) (p := p.toNat) (n := row.2)
      rw [number, State.inBackground_waited hc task] at this
      exact this who now clean
    simp only [List.mem_cons, List.not_mem_nil, or_false] at hrow
    rcases hrow with rfl | rfl
    · exact State.deckAct_group h hc g.isLt reads straight
    · exact State.deckAct_group h hc (listed_fits (n := 2) h rfl rfl rfl) reads straight
  · intro s c g p q o k row x hrow inside code coherent heeds early now soft own h straight
    have carries : (Quality.ofCode q.toNat == .forced || Quality.ofCode q.toNat == .late ||
        Quality.ofCode q.toNat == .unbound) = false := by
      exact carries_of_code q code
    simp only [List.mem_cons, List.not_mem_nil, or_false] at hrow
    rcases hrow with rfl | rfl | rfl
    · exact State.deckAct_write h (h.core_eq rfl) rfl coherent heeds early now soft own rfl straight
    · exact State.deckAct_write h (h.core_eq rfl) rfl coherent heeds early now soft own carries straight
    · refine State.deckAct_write h (h.core_eq rfl) ?_ coherent heeds early now soft own rfl straight
      change (if 2 ^ 17 ≤ x then PierRes.trap 4 else (s.waited o).pointWrite c x (s.ra c g) .good) = _
      rw [if_neg (by omega)]

end Sys2Proof.Machine
end

section
/-! CLW, CSW and FENCE (R13, R157, R158): an access to a control block ends as any instruction whose effect is done. -/

namespace Sys2Proof.Machine

set_option Elab.async false

/-- An instruction whose effect is done, whatever it changed, goes on to the next word where no body ends. -/
theorem State.pierAct_next {s u : State} {i : Instr} {o : PierOp} {extra : Nat} {k : RunTask} {c : CoreId}
    {body : State → PierRes} (h : Issues s i o extra k) (hc : o.core = c) (hb : body (s.waited o) = .next u)
    (task : (u.core c).task = some k) (slice : (u.core c).slice = ((s.waited o).core c).slice)
    (untested : k.background = true → u.tcmTested c = false) (straight : Straight u c ((s.core c).pc + 4)) :
    ∃ kf : CoreSt, s.pierAct i extra body = .next (u.setCore c kf) ∧ kf.pc = (s.core c).pc + 4 ∧ kf.task = some k ∧
      (u.setCore c kf).flagsOf c = u.flagsOf c := by
  obtain ⟨kf, done, pc, task', flags, -⟩ := State.conclude_next h hc task slice untested straight
  exact ⟨kf, by rw [State.pierAct_eq_conclude body false h, hb, done], pc, task', flags⟩

/-- Such an instruction whose effect leaves cores, registers of the cores and tests alone. -/
theorem State.pierAct_elsewhere {s u : State} {i : Instr} {o : PierOp} {extra : Nat} {k : RunTask} {c : CoreId}
    {body : State → PierRes} (h : Issues s i o extra k) (hc : o.core = c) (hb : body (s.waited o) = .next u)
    (pier : u.pier = (s.waited o).pier) (health : u.health = s.health) (straight : Straight s c ((s.core c).pc + 4)) :
    ∃ kf : CoreSt, s.pierAct i extra body = .next (u.setCore c kf) ∧ kf.pc = (s.core c).pc + 4 ∧ kf.task = some k := by
  have core (c' : Nat) : u.core c' = (s.waited o).core c' := by unfold State.core; rw [pier]
  have gpr (g : Nat) : u.gpr c g = s.gpr c g := by unfold State.gpr; rw [pier]; rfl
  have task : (s.core c).task = some k := hc ▸ h.task
  obtain ⟨kf, run, pc, task', -⟩ := State.pierAct_next h hc hb (by rw [core, State.core_waited hc]; simpa using task)
    (by rw [core]) (fun bg => by unfold State.tcmTested; rw [health]; exact hc ▸ h.untested bg)
    (straight.congr fun g _ => gpr g)
  exact ⟨kf, run, pc, task'⟩

/-- A core is the initiator of its schedule's accesses (R538). -/
theorem State.initCode_pierInit (s : State) (c : CoreId) : initCode (s.pierInit c) = s.schedOf c := by
  simp [State.pierInit, initCode, Nat.mod_eq_of_lt (s.schedOf_lt c.isLt)]

/-- Posted writes to offsets without a register leave with no effect (R26). -/
theorem State.drainPosted_of_empty {s : State} {n : Nat} (empty : ∀ p ∈ s.posted, p.initiator = n → findReg p.addr = none) :
    s.drainPosted n = { s with posted := s.posted.filter fun p => p.initiator != n } := by
  have none' (l : List Posted) (hl : ∀ p ∈ l, findReg p.addr = none) (u : State) :
      (u.each l fun s p => s.postedEffect p (initOf p.initiator)) = u := by
    induction l generalizing u with
    | nil => rfl
    | cons p l ih =>
      have step : (u.each (p :: l) fun s p => s.postedEffect p (initOf p.initiator)) =
        (u.postedEffect p (initOf p.initiator)).each l fun s p => s.postedEffect p (initOf p.initiator) := rfl
      rw [step, State.postedEffect_of_empty u _ p (hl p List.mem_cons_self), ih (fun q hq => hl q (List.mem_cons_of_mem _ hq))]
  unfold State.drainPosted
  refine none' _ (fun p hp => ?_) _
  rw [List.mem_filter] at hp
  exact empty p hp.1 (by simpa using hp.2)

/-- A store that the block admits is posted on the bearing die (R13). -/
theorem State.ctlWrite_bearing {s : State} {i : Initiator} {a : Nat} (d : Nat) (access : s.ctlAccess i a = .ok)
    (bearing : onBearing a = true) :
    s.ctlWrite i a d = (.ok, { s with posted := s.posted ++ [⟨initCode i, a, BitVec.ofNat 32 d⟩] }) := by
  -- `ctlPut` is generalised first: a kernel that unfolds it computes `findReg a`.
  generalize put : s.ctlPut i = w
  delta State.ctlWrite
  rw [access, put]
  dsimp only
  rw [if_pos bearing]

/-- It takes effect at once on the deck die (R13). -/
theorem State.ctlWrite_deck {s : State} {i : Initiator} {a : Nat} (d : Nat) (access : s.ctlAccess i a = .ok)
    (deck : onBearing a = false) : s.ctlWrite i a d = (.ok, s.ctlPut i a d) := by
  generalize put : s.ctlPut i = w
  delta State.ctlWrite
  rw [access, put]
  dsimp only
  rw [if_neg (by rw [deck]; decide)]

theorem State.domOn_congr {s t : State} (rf : t.rf = s.rf) (d : Dom) : t.domOn d = s.domOn d := by
  unfold State.domOn State.mapBit
  simp only [State.bit_congr rf, State.rd_congr rf]

/-- How an access ends depends on registers alone (R4, R540). -/
theorem State.ctlAccess_congr {s t : State} (rf : t.rf = s.rf) (i : Initiator) : t.ctlAccess i = s.ctlAccess i := by
  have joint : t.joint = s.joint := by unfold State.joint; simp only [State.bit_congr rf]
  have block : t.blockOn = s.blockOn := by
    delta State.blockOn
    simp only [State.domOn_congr rf]
  delta State.ctlAccess
  rw [joint, block]

theorem access_waited {s : State} {i : Initiator} {a : Nat} (o : PierOp) (access : s.ctlAccess i a = .ok) :
    (s.waited o).ctlAccess i a = .ok := by
  rw [← access, ← State.ctlAccess_congr (s := s) (t := s.waited o) rfl]

/-- A store that is admitted, as an instruction. -/
theorem exec_csw_effect {s u : State} {c : CoreId} {gd ga : Gpr} {imm : BitVec 14} {o : PierOp}
    (write : (s.waited o).ctlWrite (s.pierInit c) (s.addrOf c ga imm) (s.ra c gd).toNat = (.ok, u)) :
    ∃ body, exec (.csw c gd ga imm) s = s.pierAct (.csw c gd ga imm) 0 body ∧ body (s.waited o) = .next u := by
  refine ⟨_, rfl, ?_⟩
  have address : (s.waited o).addrOf c ga imm = s.addrOf c ga imm := rfl
  have who : (s.waited o).pierInit c = s.pierInit c := rfl
  rw [address, who, State.waited_ra, write]

/-- A load that is admitted, as an instruction. -/
theorem exec_clw_effect {s u : State} {c : CoreId} {gd ga : Gpr} {imm : BitVec 14} {o : PierOp} {w : Nat}
    (read : (s.waited o).ctlRead (s.pierInit c) (s.addrOf c ga imm) = (.ok, w, u)) :
    ∃ body, exec (.clw c gd ga imm) s = s.pierAct (.clw c gd ga imm) (if onBearing (s.addrOf c ga imm) then 150 else 0) body ∧
      body (s.waited o) = .next (u.put c gd (BitVec.ofNat 32 w)) := by
  refine ⟨_, rfl, ?_⟩
  have address : (s.waited o).addrOf c ga imm = s.addrOf c ga imm := rfl
  have who : (s.waited o).pierInit c = s.pierInit c := rfl
  dsimp only
  rw [address, who, read]

section

variable {s : State} {c : CoreId} {gd ga : Gpr} {imm : BitVec 14} {o : PierOp} {k : RunTask}

/-- A control-block load takes the word that the read gives. -/
theorem clw_completes {w : Nat} {u : State}
    (read : (s.waited o).ctlRead (s.pierInit c) (s.addrOf c ga imm) = (.ok, w, u)) (task : (u.core c).task = some k)
    (slice : (u.core c).slice = ((s.waited o).core c).slice) (untested : u.tcmTested c = false)
    (h : Issues s (.clw c gd ga imm) o (if onBearing (s.addrOf c ga imm) then 150 else 0) k)
    (straight : Straight (u.put c gd (BitVec.ofNat 32 w)) c ((s.core c).pc + 4)) :
    Completes (.clw c gd ga imm) s fun t => Writes u t c gd (BitVec.ofNat 32 w) ∧ (t.core c).pc = (s.core c).pc + 4 := by
  have hc : o.core = c := h.core_eq rfl
  obtain ⟨gprs, regs⟩ := u.setGpr_regsOnly c gd.toNat (BitVec.ofNat 32 w)
  obtain ⟨body, exec', effect⟩ := exec_clw_effect (gd := gd) read
  have core (c' : Nat) : (u.put c gd (BitVec.ofNat 32 w)).core c' = u.core c' := by rw [State.put, regs]; rfl
  obtain ⟨kf, run, pc, -, -⟩ := State.pierAct_next h hc effect (by rw [core, task]) (by rw [core, slice])
    (fun _ => by rw [State.put, regs]; exact untested) straight
  refine ⟨_, exec'.trans run, fun g hg => ?_, by simp [pc]⟩
  rw [State.gpr_setCore, State.put, State.gpr_setGpr _ _ _ _ _ _ gd.isLt hg]
  by_cases at' : g = gd.toNat <;> simp [at', eq_comm]

variable (access : s.ctlAccess (s.pierInit c) (s.addrOf c ga imm) = .ok) (h : Issues s (.csw c gd ga imm) o 0 k)
include access h

theorem csw_bearing_completes (bearing : onBearing (s.addrOf c ga imm) = true) (straight : Straight s c ((s.core c).pc + 4)) :
    Completes (.csw c gd ga imm) s fun t =>
      t.posted = s.posted ++ [⟨s.schedOf c, s.addrOf c ga imm, s.ra c gd⟩] ∧ KeepsGprs s t c ∧
      (∀ f i j, t.rd f i j = s.rd f i j) ∧ (t.core c).pc = (s.core c).pc + 4 := by
  have hc : o.core = c := h.core_eq rfl
  have write := State.ctlWrite_bearing (s := s.waited o) (s.ra c gd).toNat (access_waited o access) bearing
  rw [State.initCode_pierInit, BitVec.ofNat_toNat, BitVec.setWidth_eq] at write
  obtain ⟨body, exec', effect⟩ := exec_csw_effect write
  obtain ⟨kf, run, pc, -⟩ := State.pierAct_elsewhere h hc effect rfl rfl straight
  exact ⟨_, exec'.trans run, rfl, fun g _ => rfl, fun f i j => rfl, by simp [pc]⟩

variable (deck : onBearing (s.addrOf c ga imm) = false)
include deck

theorem csw_empty_completes (empty : findReg (s.addrOf c ga imm) = none) (straight : Straight s c ((s.core c).pc + 4)) :
    Completes (.csw c gd ga imm) s fun t => CoreOnly s t c ((s.core c).pc + 4) ∧ KeepsGprs s t c := by
  have hc : o.core = c := h.core_eq rfl
  have write := State.ctlWrite_deck (s := s.waited o) (s.ra c gd).toNat (access_waited o access) deck
  rw [State.ctlPut_of_empty _ _ _ empty] at write
  obtain ⟨body, exec', effect⟩ := exec_csw_effect write
  obtain ⟨t, run, rest, gprs, -⟩ := State.pierAct_nothing h hc effect straight
  exact ⟨t, exec'.trans run, rest, gprs⟩

theorem csw_deck_completes {put : State}
    (made : (s.waited o).ctlPut (s.pierInit c) (s.addrOf c ga imm) (s.ra c gd).toNat = put)
    (task : (put.core c).task = some k) (slice : (put.core c).slice = ((s.waited o).core c).slice)
    (untested : put.tcmTested c = false) (straight : Straight put c ((s.core c).pc + 4)) :
    Completes (.csw c gd ga imm) s fun t => ∃ kf, t = put.setCore c kf ∧ kf.pc = (s.core c).pc + 4 := by
  have hc : o.core = c := h.core_eq rfl
  have write := State.ctlWrite_deck (s := s.waited o) (s.ra c gd).toNat (access_waited o access) deck
  rw [made] at write
  obtain ⟨body, exec', effect⟩ := exec_csw_effect write
  obtain ⟨kf, run, pc, -, -⟩ := State.pierAct_next h hc effect task slice (fun _ => untested) straight
  exact ⟨_, exec'.trans run, kf, rfl, pc⟩

end

/-- A fence lets every posted write of its schedule take effect (R158). -/
theorem fence_completes {s : State} {c : CoreId} {o : PierOp} {k : RunTask}
    (empty : ∀ p ∈ s.posted, p.initiator = s.schedOf c → findReg p.addr = none) (h : Issues s (.fence c) o 0 k)
    (straight : Straight s c ((s.core c).pc + 4)) :
    Completes (.fence c) s fun t => t.posted = s.posted.filter (fun p => p.initiator != s.schedOf c) ∧ KeepsGprs s t c ∧
      (∀ f i j, t.rd f i j = s.rd f i j) ∧ (t.core c).pc = (s.core c).pc + 4 := by
  have hc : o.core = c := h.core_eq rfl
  have drained : (s.waited o).drainPosted (s.schedOf c) =
      { s.waited o with posted := s.posted.filter fun p => p.initiator != s.schedOf c } :=
    State.drainPosted_of_empty (s := s.waited o) empty
  obtain ⟨kf, run, pc, -⟩ := State.pierAct_elsewhere (body := fun s => .next (s.drainPosted (s.schedOf c))) h hc
    (congrArg PierRes.next drained) rfl rfl straight
  exact ⟨_, run, rfl, fun g _ => rfl, fun f i j => rfl, by simp [pc]⟩

/-- Settles O21: a load by `ctlRead`, a store by `ctlWrite`, a fence by `drainPosted`. -/
theorem controlBlocksAndFence : Obligations.ControlBlocksAndFence := by
  unfold Obligations.ControlBlocksAndFence
  refine ⟨fun s c gd ga imm o k => ⟨?_, ?_, ?_, ?_⟩, fun s c o k empty h straight => fence_completes empty h straight⟩
  · exact fun w u read task slice untested h straight => clw_completes read task slice untested h straight
  · exact fun bearing access h straight => csw_bearing_completes access h bearing straight
  · exact fun deck access empty h straight => csw_empty_completes access h deck empty straight
  · exact fun deck access task slice untested h straight =>
      csw_deck_completes access h deck rfl task slice untested straight

end Sys2Proof.Machine
end

section
/-! Loop records (R171 to R176): the words of a record in the deck, its STATUS bits, and the checks before a law. -/

namespace Sys2Proof.Machine

set_option Elab.async false

/-! ### Words of the deck (R3) -/

theorem leBytes_congr {f g : Nat → Byte} {a n : Nat} (h : ∀ b, a ≤ b → b < a + n → f b = g b) :
    leBytes f a n = leBytes g a n := by
  induction n generalizing a with
  | zero => rfl
  | succ n ih => rw [leBytes, leBytes, h a (by omega) (by omega), ih fun b _ _ => h b (by omega) (by omega)]

/-- The bytes of a number read back as that number (R3). -/
theorem leBytes_toBytes (f : Nat → Byte) (a v n : Nat) (h : ∀ k < n, f (a + k) = (toBytes v n).getD k 0) :
    leBytes f a n = v % 256 ^ n := by
  induction n generalizing a v with
  | zero => simp [leBytes, Nat.mod_one]
  | succ n ih =>
    have first := h 0 (by omega)
    have rest : leBytes f (a + 1) n = v / 256 % 256 ^ n := by
      refine ih (a + 1) (v / 256) fun k hk => ?_
      have := h (k + 1) (by omega)
      rw [show a + 1 + k = a + (k + 1) by omega, this, toBytes, List.getD_cons_succ]
    rw [leBytes, rest, show f a = BitVec.ofNat 8 v by simpa [toBytes] using first, BitVec.toNat_ofNat, Nat.pow_succ 256,
      Nat.mul_comm (256 ^ n), Nat.mod_mul]

theorem State.dWord_lt (s : State) (a : Nat) : s.dWord a < 2 ^ 32 := leBytes_lt _ _ 4

/-- A word that is written reads back; every other aligned word is left alone. -/
theorem State.dWord_setDWord {s : State} {a b v : Nat} (ha : a % 4 = 0) (hb : b % 4 = 0) :
    (s.setDWord a v).dWord b = if a = b then v % 2 ^ 32 else s.dWord b := by
  unfold State.dWord State.setDWord
  by_cases same : a = b
  · subst same
    rw [if_pos rfl]
    refine leBytes_toBytes _ _ v 4 fun k hk => ?_
    rw [State.dByte_setDBytes, length_toBytes, if_pos (by omega), Nat.add_sub_cancel_left]
  · rw [if_neg same]
    refine leBytes_congr fun x _ _ => ?_
    rw [State.dByte_setDBytes, length_toBytes, if_neg (by omega)]

/-! ### Records (R172) -/

/-- A record has its 32 words. -/
abbrev LoopRec.Full (r : LoopRec) : Prop := r.w.length = 32

theorem State.loopRec_full (s : State) (n : Nat) : (s.loopRec n).Full := by simp [LoopRec.Full, State.loopRec]

theorem LoopRec.put_full {r : LoopRec} (h : r.Full) (k : Nat) (v : Word) : (r.put k v).Full := by
  simpa [LoopRec.Full, LoopRec.put] using h

theorem LoopRec.at_put {r : LoopRec} (h : r.Full) {k : Nat} (hk : k < 32) (v : Word) (j : Nat) :
    (r.put k v).at j = if k = j then v else r.at j := by
  unfold LoopRec.at LoopRec.put
  by_cases same : k = j
  · subst same
    rw [if_pos rfl, List.getD_eq_getElem?_getD, List.getElem?_set_self (by rw [h]; exact hk)]
    rfl
  · rw [if_neg same, List.getD_eq_getElem?_getD, List.getElem?_set_ne same, List.getD_eq_getElem?_getD]

theorem State.loopRec_at (s : State) (n : Nat) {k : Nat} (hk : k < 32) :
    (s.loopRec n).at k = BitVec.ofNat 32 (s.dWord (loopAddr n + 4 * k)) := by
  unfold LoopRec.at State.loopRec
  rw [List.getD_eq_getElem?_getD]
  simp [hk]

theorem State.loopRec_congr {s t : State} (h : t.deck = s.deck) (n : Nat) : t.loopRec n = s.loopRec n := by
  unfold State.loopRec State.dWord State.dByte
  rw [h]

theorem State.at_setLoopWord (s : State) (n : Nat) {k : Nat} (hk : k < 32) (v : Word) (m : Nat) {j : Nat} (hj : j < 32) :
    ((s.setLoopWord n k v).loopRec m).at j = if n = m ∧ k = j then v else (s.loopRec m).at j := by
  rw [State.loopRec_at _ _ hj, State.loopRec_at _ _ hj, State.setLoopWord,
    State.dWord_setDWord (by unfold loopAddr; omega) (by unfold loopAddr; omega)]
  by_cases same : n = m ∧ k = j
  · obtain ⟨rfl, rfl⟩ := same
    have below := v.isLt
    rw [if_pos rfl, if_pos ⟨rfl, rfl⟩, Nat.mod_eq_of_lt below, BitVec.ofNat_toNat, BitVec.setWidth_eq]
  · rw [if_neg same, if_neg (by unfold loopAddr; omega)]

theorem State.setLoopWord_rest (s : State) (n k : Nat) (v : Word) : ∃ d, s.setLoopWord n k v = { s with deck := d } :=
  State.setDBytes_rest _ s _

theorem State.at_each_setLoopWord (n : Nat) (r : LoopRec) (l : List Nat) (hl : ∀ k ∈ l, k < 32) (s : State) (m : Nat) {j : Nat}
    (hj : j < 32) :
    ((s.each l fun s k => s.setLoopWord n k (r.at k)).loopRec m).at j =
      if n = m ∧ j ∈ l then r.at j else (s.loopRec m).at j := by
  induction l generalizing s with
  | nil => simp [State.each]
  | cons k l ih =>
    have step : (s.each (k :: l) fun s k => s.setLoopWord n k (r.at k)) =
        (s.setLoopWord n k (r.at k)).each l fun s k => s.setLoopWord n k (r.at k) := rfl
    rw [step, ih (fun x hx => hl x (List.mem_cons_of_mem _ hx)), State.at_setLoopWord _ _ (hl k List.mem_cons_self) _ _ hj]
    by_cases later : n = m ∧ j ∈ l
    · rw [if_pos later, if_pos ⟨later.1, List.mem_cons_of_mem _ later.2⟩]
    · rw [if_neg later]
      by_cases first : n = m ∧ k = j
      · obtain ⟨rfl, rfl⟩ := first
        rw [if_pos ⟨rfl, rfl⟩, if_pos ⟨rfl, List.mem_cons_self⟩]
      · rw [if_neg first, if_neg]
        rintro ⟨h, mem⟩
        rcases List.mem_cons.mp mem with e | mem
        · exact first ⟨h, e.symm⟩
        · exact later ⟨h, mem⟩

theorem State.each_setLoopWord_rest (n : Nat) (r : LoopRec) (l : List Nat) (s : State) :
    ∃ d, (s.each l fun s k => s.setLoopWord n k (r.at k)) = { s with deck := d } := by
  induction l generalizing s with
  | nil => exact ⟨_, rfl⟩
  | cons k l ih =>
    obtain ⟨d, h⟩ := s.setLoopWord_rest n k (r.at k)
    obtain ⟨d', h'⟩ := ih (s.setLoopWord n k (r.at k))
    exact ⟨d', h'.trans (by rw [h])⟩

/-- What instructions write of a record (R172): STATUS, PRIME_VAL, the state words and the active set. -/
def savedWords : List Nat := [1, 9, 12, 13, 14, 15, 16, 17, 18, 19, 20, 21, 22, 23]

theorem State.saveLoop_rest (s : State) (n : Nat) (r : LoopRec) :
    ∃ tw, s.saveLoop n r = { s.each savedWords fun s k => s.setLoopWord n k (r.at k) with twin := tw } :=
  State.mirror_rest _ _

theorem State.at_saveLoop (s : State) (n : Nat) (r : LoopRec) (m : Nat) {j : Nat} (hj : j < 32) :
    ((s.saveLoop n r).loopRec m).at j = if n = m ∧ j ∈ savedWords then r.at j else (s.loopRec m).at j := by
  obtain ⟨tw, h⟩ := s.saveLoop_rest n r
  rw [State.loopRec_congr (s := s.each savedWords fun s k => s.setLoopWord n k (r.at k)) (by rw [h]),
    State.at_each_setLoopWord n r savedWords (by decide) s m hj]

/-! ### STATUS (R176) -/

/-- `r'` is `r` but for STATUS. -/
def StatusOnly (r r' : LoopRec) : Prop := r.Full → r'.Full ∧ ∀ j ≠ 1, r'.at j = r.at j

namespace StatusOnly

variable {r r' : LoopRec}

theorem refl (r : LoopRec) : StatusOnly r r := fun full => ⟨full, fun _ _ => rfl⟩

theorem field (h : StatusOnly r r') (lo n v : Nat) : StatusOnly r (r'.field lo n v) := fun full =>
  ⟨LoopRec.put_full (h full).1 _ _, fun j hj => by
    rw [LoopRec.field, LoopRec.at_put (h full).1 (by decide), if_neg (Ne.symm hj), (h full).2 j hj]⟩

theorem mark (h : StatusOnly r r') (f : LoopFlag) (v : Bool) : StatusOnly r (r'.mark f v) := h.field _ _ _

theorem toState (h : StatusOnly r r') (k : Nat) : StatusOnly r (r'.toState k) := h.field _ _ _

theorem putOq (h : StatusOnly r r') (q : Quality) : StatusOnly r (r'.putOq q) := h.field _ _ _

end StatusOnly

/-! ### What an execution leaves of its core -/

/-- `t` is `s` for the end of an instruction of core `c`: its core has the same task, flags and rest but for the note of a point
write, and the same tests run. -/
structure SameCore (s t : State) (c : Nat) : Prop where
  core : ∃ wrote stall, t.core c = { s.core c with wrote := wrote, stall := stall }
  tests : t.health.running = s.health.running

/-- Such a `t` in which no register of a core and no byte of the deck changed. -/
structure Aside (s t : State) (c : Nat) : Prop extends SameCore s t c where
  gpr : t.pier.gpr = s.pier.gpr
  deck : t.deck = s.deck

theorem SameCore.trans {s t u : State} {c : Nat} (h : SameCore s t c) (h' : SameCore t u c) : SameCore s u c := by
  obtain ⟨w, x, hc⟩ := h.core
  obtain ⟨w', x', hc'⟩ := h'.core
  exact ⟨⟨w', x', by rw [hc', hc]⟩, h'.tests.trans h.tests⟩

theorem SameCore.of_pier {s t : State} {c : Nat} (core : t.pier.core = s.pier.core) (tests : t.health.running = s.health.running) :
    SameCore s t c :=
  ⟨⟨(s.core c).wrote, (s.core c).stall, by unfold State.core; rw [core]⟩, tests⟩

namespace Aside

variable {s t u : State} {c : Nat}

theorem refl (s : State) (c : Nat) : Aside s s c := ⟨SameCore.of_pier rfl rfl, rfl, rfl⟩

theorem trans (h : Aside s t c) (h' : Aside t u c) : Aside s u c :=
  ⟨h.toSameCore.trans h'.toSameCore, h'.gpr.trans h.gpr, h'.deck.trans h.deck⟩

theorem of_pier (pier : t.pier = s.pier) (tests : t.health.running = s.health.running) (deck : t.deck = s.deck) : Aside s t c :=
  ⟨SameCore.of_pier (by rw [pier]) tests, by rw [pier], deck⟩

theorem raise (s : State) (code index : Nat) (words : List Nat) (pier : Option Nat) : Aside s (s.raise code index words pier) c :=
  of_pier (State.raise_pier ..) (by rw [State.raise_health]) (State.raise_deck ..)

/-- An accepted write leaves cores, tests and the deck SRAM alone. -/
theorem acceptWrite (s : State) (p : Nat) (r : PtRec) : Aside s (s.acceptWrite p r) c := by
  have told (u : State) (o : Nat) (r : PtRec) : Aside u (u.announce o p r) c := by
    obtain ⟨rf, tre, twin, evr, h⟩ := LinksOnly.announce u o p r
    exact of_pier (by rw [h]) (by rw [h]) (by rw [h])
  unfold State.acceptWrite
  split
  · refine Aside.trans ?_ (told _ _ _)
    exact of_pier rfl rfl rfl
  · split
    · refine Aside.trans ?_ (told _ _ _)
      exact of_pier rfl rfl rfl
    · refine Aside.trans ?_ (told _ _ _)
      exact of_pier rfl rfl rfl

theorem softWrite (s : State) (p w id : Nat) (v : Word) (q : Quality) : Aside s (s.softWrite p w id v q).2 c := by
  unfold State.softWrite
  split
  · exact refl s c
  · split
    · exact of_pier rfl rfl rfl
    · dsimp only
      split
      · exact acceptWrite s p _
      · exact refl s c

/-- A point write of core `c` changes no more of its core than the note of the point and its stall (R45, R52). -/
theorem pierWrite (s : State) (c : CoreId) (p : Nat) (v : Word) (q : Quality) : Aside s (s.pierWrite c p v q).2 c := by
  have soft : Aside s (s.softWrite p 1 (s.taskOf c) v q).2 c := softWrite s p 1 _ v q
  unfold State.pierWrite
  dsimp only
  split
  next t accepted =>
    rw [accepted] at soft
    split
    · exact refl s c
    · have noted : Aside s { t with pier := (s.noteWrite c p).pier } c := by
        obtain ⟨l, pier⟩ := s.noteWrite_pier c p
        refine ⟨⟨?_, soft.tests⟩, ?_, soft.deck⟩
        · unfold State.core
          rcases pier with pier | pier
          · exact ⟨l, (s.core c).stall, by dsimp only; rw [pier]; exact State.core_setCore_same _ _ _⟩
          · exact ⟨(s.core c).wrote, (s.core c).stall, by dsimp only; rw [pier]; rfl⟩
        · dsimp only
          rcases pier with pier | pier <;> rw [pier]
          rfl
      dsimp only
      split
      · refine noted.trans ⟨⟨⟨_, true, State.core_setCore_same _ _ _⟩, rfl⟩, rfl, rfl⟩
      · exact noted
  next other => exact soft

theorem lawWrite (s : State) (c : CoreId) (out : Option Nat) (u : Word) (q : Quality) : Aside s (s.lawWrite c out u q) c := by
  unfold State.lawWrite
  split
  · exact pierWrite s c _ u q
  · exact refl s c

theorem lawEvents (s : State) (c n : Nat) (res : LawRes) : Aside s (s.lawEvents c n res) c := by
  unfold State.lawEvents
  extract_lets s₀ s₁ pier
  have committed : Aside s s₁ c := by
    unfold s₁
    split
    · exact refl s c
    · split
      · exact (raise s _ _ _ _).trans (raise s₀ _ _ _ _)
      · exact raise s _ _ _ _
  split
  · refine committed.trans (Aside.trans ?_ (raise _ _ _ _ _))
    exact ⟨SameCore.of_pier rfl rfl, rfl, rfl⟩
  · exact committed

end Aside

/-! ### The end of an execution -/

theorem SameCore.saveLoop (s : State) (n : Nat) (r : LoopRec) (c : Nat) : SameCore s (s.saveLoop n r) c := by
  obtain ⟨tw, h⟩ := s.saveLoop_rest n r
  obtain ⟨d, h'⟩ := State.each_setLoopWord_rest n r savedWords s
  exact SameCore.of_pier (by rw [h, h']) (by rw [h, h'])

theorem State.saveLoop_gpr (s : State) (n : Nat) (r : LoopRec) : (s.saveLoop n r).pier.gpr = s.pier.gpr := by
  obtain ⟨tw, h⟩ := s.saveLoop_rest n r
  obtain ⟨d, h'⟩ := State.each_setLoopWord_rest n r savedWords s
  rw [h, h']

/-- The record is written back with CFGERR and HOLD as they are (R182, R183). -/
theorem State.lawMark_saves (s : State) (c n : Nat) (prev r : LoopRec) (cause : Option Nat) (hold : Bool) :
    ∃ u, Aside s u c ∧ s.lawMark c n prev r cause hold = u.saveLoop n ((r.mark .cfgErr cause.isSome).mark .hold hold) := by
  unfold State.lawMark
  extract_lets s₁ s₂
  have first : Aside s s₁ c := by
    unfold s₁
    split
    · exact Aside.raise s _ _ _ _
    · exact Aside.refl s c
  refine ⟨s₂, ?_, rfl⟩
  unfold s₂
  split
  · exact first.trans (Aside.raise s₁ _ _ _ _)
  · exact first

theorem SameCore.put (s : State) (c : CoreId) (g : Gpr) (v : Word) : SameCore s (s.put c g v) c := by
  obtain ⟨gprs, h⟩ := s.setGpr_regsOnly c g.toNat v
  exact SameCore.of_pier (by rw [State.put, h]) (by rw [State.put, h])

theorem State.put_deck (s : State) (c : CoreId) (g : Gpr) (v : Word) : (s.put c g v).deck = s.deck := by
  obtain ⟨gprs, h⟩ := s.setGpr_regsOnly c g.toNat v
  rw [State.put, h]

/-- Registers of cores that agree read the same. -/
theorem State.gpr_congr {s t : State} (h : t.pier.gpr = s.pier.gpr) (c g : Nat) : t.gpr c g = s.gpr c g := by
  unfold State.gpr
  rw [h]

/-- How the executions of a law end that leave a result: the record, the result in gd, and the output point (R182, R184). -/
theorem State.lawMark_put_write (s : State) (c : CoreId) (n : Nat) (gd : Gpr) (prev r : LoopRec) (cause : Option Nat)
    (hold : Bool) (v u : Word) (out : Option Nat) (q : Quality) :
    let t := ((s.lawMark c n prev r cause hold).put c gd v).lawWrite c out u q
    SameCore s t c ∧ (∀ g < 64, t.gpr c g = (s.put c gd v).gpr c g) ∧
      ∀ m, ∀ j < 32, (t.loopRec m).at j =
        if n = m ∧ j ∈ savedWords then ((r.mark .cfgErr cause.isSome).mark .hold hold).at j else (s.loopRec m).at j := by
  intro t
  obtain ⟨w, aside, saved⟩ := s.lawMark_saves c n prev r cause hold
  let x := w.saveLoop n ((r.mark .cfgErr cause.isSome).mark .hold hold)
  have written : Aside (x.put c gd v) t c := by
    unfold t
    rw [saved]
    exact Aside.lawWrite _ c out u q
  refine ⟨((aside.toSameCore.trans (SameCore.saveLoop w n _ c)).trans (SameCore.put x c gd v)).trans written.toSameCore,
    fun g hg => ?_, fun m j hj => ?_⟩
  · have same (c' g : Nat) : x.gpr c' g = s.gpr c' g :=
      State.gpr_congr ((State.saveLoop_gpr w n _).trans aside.gpr) c' g
    rw [State.gpr_congr written.gpr, State.put, State.gpr_setGpr _ _ _ _ _ _ gd.isLt hg, State.put,
      State.gpr_setGpr _ _ _ _ _ _ gd.isLt hg, same]
  · rw [State.loopRec_congr (written.deck.trans (State.put_deck x c gd v)), State.at_saveLoop _ _ _ _ hj,
      State.loopRec_congr aside.deck]

end Sys2Proof.Machine
end

section
/-! PIDS, BIQ and CASC (R182 to R192): the checks before a law, the arithmetic of a normal step, and the step's end. -/

namespace Sys2Proof.Machine

set_option Elab.async false

/-! ### The checks before a law -/

/-- An instruction whose checks pass goes on to its law (R21, R184). -/
theorem State.lawStart_ok {s : State} {c : CoreId} {ls : List Nat} {ins : List (Option Nat)} {out : Option Nat}
    (go : State → PierRes) (h : LawReady s c ls ins out) : s.lawStart c ls ins out go = go s := by
  have clean (l : List (Nat × Nat)) (hl : ∀ x ∈ l, s.eccClean x.1 x.2 = true) :
      (s.each l fun s x => s.eccFound x.1 x.2 .ok) = s ∧ (l.any fun x => s.eccBad x.1 x.2 .ok) = false := by
    induction l with
    | nil => exact ⟨rfl, rfl⟩
    | cons x l ih =>
      obtain ⟨found, bad⟩ := ih fun y hy => hl y (List.mem_cons_of_mem _ hy)
      have first := hl x List.mem_cons_self
      have step : (s.each (x :: l) fun s x => s.eccFound x.1 x.2 .ok) =
        (s.eccFound x.1 x.2 .ok).each l fun s x => s.eccFound x.1 x.2 .ok := rfl
      rw [step, State.eccFound_clean first, found, List.any_cons, State.eccBad_clean first, bad]
      exact ⟨rfl, rfl⟩
  obtain ⟨found, bad⟩ := clean _ h.readable
  have holds : ls.all (s.holdsLoop c) = true := List.all_eq_true.mpr h.held
  unfold State.lawStart
  rw [if_neg (by simp [h.opened])]
  dsimp only
  rw [found, bad, if_neg Bool.false_ne_true, holds, h.owned, if_pos (by decide)]

theorem LawReady.waited {s : State} {o : PierOp} {c : CoreId} {ls : List Nat} {ins : List (Option Nat)} {out : Option Nat}
    (hc : o.core = c) (h : LawReady s c ls ins out) : LawReady (s.waited o) c ls ins out := by
  have task : (s.waited o).taskOf c = s.taskOf c := by simp [State.taskOf, State.core_waited hc]
  refine ⟨h.opened, h.readable, fun n hn => ?_, ?_, h.fmt⟩
  · have := h.held n hn
    unfold State.holdsLoop at this ⊢
    rw [task]
    exact this
  · have := h.owned
    unfold State.ownsOut at this ⊢
    rw [task]
    exact this

/-- A law instruction that is done goes on to the next word. -/
theorem State.deckAct_law {s u : State} {i : Instr} {o : PierOp} {k : RunTask} {c : CoreId} {body : State → PierRes}
    (h : Issues s i o 0 k) (hc : o.core = c) (opened : s.windowWait 0 1 = false) (hb : body (s.waited o) = .next u)
    (same : SameCore (s.waited o) u c) (straight : Straight u c ((s.core c).pc + 4)) :
    ∃ kf : CoreSt, s.deckAct i body = .next (u.setCore c kf) ∧ kf.pc = (s.core c).pc + 4 ∧
      (u.setCore c kf).flagsOf c = s.flagsOf c := by
  obtain ⟨wrote, stall, core⟩ := same.core
  have running : (s.core c).task = some k := hc ▸ h.task
  have window : (s.running && s.inWin .commit) = false := by
    unfold State.windowWait at opened
    simpa [touches] using opened
  obtain ⟨kf, done, pc, -, flags, -⟩ := State.conclude_next h hc (by rw [core, State.core_waited hc]; simpa using running)
    (by rw [core]) (fun bg => by unfold State.tcmTested; rw [same.tests]; exact hc ▸ h.untested bg) straight
  refine ⟨kf, ?_, pc, flags.trans ?_⟩
  · rw [State.deckAct_eq_conclude body h, hb, done, window]
    rfl
  · simp [State.flagsOf, core, State.core_waited hc]

/-! ### A normal PID step (R188) -/

/-- Neither rate limit nor saturation nor wind-up acts: the integrator takes its step and the output is the sum. -/
theorem LoopRec.pidRun_normal {r : LoopRec} {i : PidIn} :
    let q := r.pidTerms i
    let int := rAdd (r.at 12) (rMul (r.coef 1) q.e)
    let u := rAdd (rAdd (rAdd q.p int) q.d) i.ff
    fLt 0 (r.coef 6) = false → fLt (r.coef 5) u = false → fLt u (r.coef 4) = false → fIsNaN u = false →
    ∃ r', r.pidRun i false = some (r', rClamp u (r.coef 4) (r.coef 5)) ∧
      StatusOnly (r.pidState int q.dfn (rClamp u (r.coef 4) (r.coef 5))) r' := by
  intro q int u slow below above number
  unfold LoopRec.pidRun
  dsimp only
  rw [slow, if_neg Bool.false_ne_true]
  have free : (false || (fLt (r.coef 5) u && fLt 0 (rMul (r.coef 1) q.e)) ||
      (fLt u (r.coef 4) && fLt (rMul (r.coef 1) q.e) 0)) = false := by rw [below, above]; rfl
  simp only [u, int, q] at free number ⊢
  simp only [free, number, Bool.false_eq_true, if_false]
  exact ⟨_, rfl, ((((StatusOnly.refl _).mark _ _).mark _ _).mark _ _).toState _⟩

theorem LoopRec.pidState_full {r : LoopRec} (h : r.Full) (i df u : Word) : (r.pidState i df u).Full :=
  LoopRec.put_full (LoopRec.put_full (LoopRec.put_full h 12 i) 13 df) 14 u

/-- The state words after a step (R172). -/
theorem LoopRec.at_pidState {r : LoopRec} (h : r.Full) (i df u : Word) :
    (r.pidState i df u).at 12 = i ∧ (r.pidState i df u).at 13 = df ∧ (r.pidState i df u).at 14 = u := by
  have first := LoopRec.put_full h 12 i
  have second := LoopRec.put_full first 13 df
  unfold LoopRec.pidState
  refine ⟨?_, ?_, ?_⟩
  · rw [LoopRec.at_put second (by decide), if_neg (by decide), LoopRec.at_put first (by decide), if_neg (by decide),
      LoopRec.at_put h (by decide), if_pos rfl]
  · rw [LoopRec.at_put second (by decide), if_neg (by decide), LoopRec.at_put first (by decide), if_pos rfl]
  · rw [LoopRec.at_put second (by decide), if_pos rfl]

/-- A loop in RUN with a set, no set staged and usable inputs steps (R183, R200). -/
theorem LoopRec.ready_of_set {r : LoopRec} {usable : Bool} (go : LoopRec → LawRes) (set : r.is .setOk = true)
    (fresh : r.is .staged = false) (ok : usable = true) : r.ready usable go = go r := by
  unfold LoopRec.ready
  simp [set, fresh, ok]

theorem LoopRec.isInit_of_run {r : LoopRec} (run : r.state = 1) : r.isInit = false := by
  simp [LoopRec.isInit, run]

/-- The law of such a loop outside tracking and wind-up is a normal step. -/
theorem State.pidLaw_run {s : State} {n : Nat} {r : LoopRec} {track : Bool} (run : r.state = 1) (set : r.is .setOk = true)
    (fresh : r.is .staged = false) (wound : r.is .windup = false) (bound : (s.pidIn r track).absent = false)
    (usable : (s.pidIn r track).usable = true) (free : (s.pidIn r track).trk = none) :
    s.pidLaw n r track false = lawOut r .good false (r.pidRun (s.pidIn r track) false) := by
  unfold State.pidLaw
  dsimp only
  rw [bound, if_neg Bool.false_ne_true, LoopRec.isInit_of_run run, if_neg Bool.false_ne_true,
    LoopRec.ready_of_set _ set fresh usable, fresh]
  have unwound : r.unwind (s.pidIn r track) = r := by
    unfold LoopRec.unwind
    simp [wound]
  simp only [LoopRec.pidStep, unwound, free, Bool.false_eq_true, if_false, Bool.not_false, if_true]

/-! ### The end of a step with an output -/

/-- An execution that comes to an output, with no commit and no fall-back, ends with that output in gd and its record in the
deck, STATUS apart (R182, R184). -/
theorem State.lawEnd_out (s : State) (c : CoreId) (n : Nat) (gd : Gpr) (prev r : LoopRec) (out : Option Nat) (u : Word)
    (q : Quality) (primed : Bool) (full : r.Full) :
    let t := s.lawEnd c n gd prev out false { r, k := .out u q primed }
    SameCore s t c ∧ (∀ g < 64, t.gpr c g = (s.put c gd u).gpr c g) ∧
      ∀ j < 32, j ≠ 1 → (t.loopRec n).at j = if j ∈ savedWords then r.at j else (s.loopRec n).at j := by
  intro t
  obtain ⟨same, gprs, words⟩ := s.lawMark_put_write c n gd prev (r.putOq q) none false u u out q
  have quiet : s.lawEvents c n { r, k := .out u q primed } = s := rfl
  have ends : t = ((s.lawMark c n prev (r.putOq q) none false).put c gd u).lawWrite c out u q := by
    unfold t State.lawEnd
    dsimp only
    rw [quiet]
    rfl
  rw [ends]
  refine ⟨same, gprs, fun j hj status => ?_⟩
  rw [words n j hj, (((((StatusOnly.refl r).putOq q).mark _ _).mark _ _) full).2 j status]
  simp

/-- A law instruction that ends so. -/
theorem State.deckAct_out {s : State} {i : Instr} {o : PierOp} {k : RunTask} {c : CoreId} {body : State → PierRes} {n : Nat}
    {gd : Gpr} {prev r : LoopRec} {out : Option Nat} {u : Word} {q : Quality} {primed : Bool} (h : Issues s i o 0 k)
    (hc : o.core = c) (opened : s.windowWait 0 1 = false)
    (hb : body (s.waited o) = .next ((s.waited o).lawEnd c n gd prev out false { r, k := .out u q primed }))
    (full : r.Full) (straight : Straight (s.put c gd u) c ((s.core c).pc + 4)) :
    ∃ t, s.deckAct i body = .next t ∧ Writes s t c gd u ∧ (t.core c).pc = (s.core c).pc + 4 ∧ t.flagsOf c = s.flagsOf c ∧
      ∀ j < 32, j ≠ 1 → j ∈ savedWords → (t.loopRec n).at j = r.at j := by
  obtain ⟨same, gprs, words⟩ := (s.waited o).lawEnd_out c n gd prev r out u q primed full
  have put (g : Nat) (hg : g < 64) : ((s.waited o).put c gd u).gpr c g = if g = gd.toNat ∧ g ≠ 0 then u else s.gpr c g := by
    rw [State.put, State.gpr_setGpr _ _ _ _ _ _ gd.isLt hg]
    by_cases at' : g = gd.toNat
    · simp [at', State.waited]
    · simp [at', State.waited]
  obtain ⟨kf, run, pc, flags⟩ := State.deckAct_law h hc opened hb same (straight.congr fun g hg => by
    rw [gprs g hg, State.put, State.gpr_setGpr _ _ _ _ _ _ gd.isLt hg, State.put, State.gpr_setGpr _ _ _ _ _ _ gd.isLt hg]
    rfl)
  refine ⟨_, run, fun g hg => ?_, by simp [pc], flags, fun j hj status saved => ?_⟩
  · rw [State.gpr_setCore, gprs g hg, put g hg]
  · have cored (kf : CoreSt) : (((s.waited o).lawEnd c n gd prev out false { r, k := .out u q primed }).setCore c kf).loopRec n =
        ((s.waited o).lawEnd c n gd prev out false { r, k := .out u q primed }).loopRec n := State.loopRec_congr rfl n
    rw [cored, words j hj status, if_pos saved]

/-- Settles O22: the law comes to the output of `pidRun_normal`. -/
theorem pidsNormalStep : Obligations.PidsNormalStep := by
  unfold Obligations.PidsNormalStep
  intro s c gd loop mode o k n r i q int u ready kind run set fresh wound bound usable free slow below above number h straight
  have hc : o.core = c := h.core_eq rfl
  obtain ⟨r', step, words⟩ := LoopRec.pidRun_normal (r := r) (i := i) slow below above number
  obtain ⟨full, same⟩ := words (LoopRec.pidState_full (s.loopRec_full n) _ _ _)
  have law : (s.waited o).pidLaw n r (mode.getLsbD 0) false = { r := r', k := .out (rClamp u (r.coef 4) (r.coef 5)) .good false } := by
    rw [State.pidLaw_run (s := s.waited o) run set fresh wound bound usable free]
    exact congrArg (lawOut r .good false) step
  obtain ⟨body, exec', effect⟩ : ∃ body, exec (.pids c gd loop mode) s = s.deckAct (.pids c gd loop mode) body ∧
      body (s.waited o) = .next ((s.waited o).lawEnd c n gd r (r.outPoint mode) false
        { r := r', k := .out (rClamp u (r.coef 4) (r.coef 5)) .good false }) := by
    refine ⟨_, rfl, ?_⟩
    refine (State.lawStart_ok _ (ready.waited hc)).trans ?_
    have record : (s.waited o).loopRec loop.toNat = r := rfl
    have fmt : (s.waited o).outBad (r.outPoint mode) = false := ready.fmt
    dsimp only
    rw [record, fmt, kind, law]
    rfl
  obtain ⟨t, done, writes, pc, flags, saved⟩ := State.deckAct_out h hc ready.opened effect full straight
  obtain ⟨at12, at13, at14⟩ := LoopRec.at_pidState (s.loopRec_full n) int q.dfn (rClamp u (r.coef 4) (r.coef 5))
  refine ⟨t, exec'.trans done, writes, pc, flags, ?_, ?_, ?_⟩
  · exact (saved 12 (by decide) (by decide) (by decide)).trans ((same 12 (by decide)).trans at12)
  · exact (saved 13 (by decide) (by decide) (by decide)).trans ((same 13 (by decide)).trans at13)
  · exact (saved 14 (by decide) (by decide) (by decide)).trans ((same 14 (by decide)).trans at14)

end Sys2Proof.Machine
end

section
/-! BIQ, and CASC between two outer steps (R190 to R192). -/

namespace Sys2Proof.Machine

set_option Elab.async false

/-! ### BIQ (R190) -/

theorem LoopRec.biqStep_number {r : LoopRec} {x : Word} :
    let y := rAdd (rMul (r.coef 0) x) (r.at 12)
    let s1 := rAdd (rSub (rMul (r.coef 1) x) (rMul (r.coef 3) y)) (r.at 13)
    fIsNaN y = false → ∃ r', r.biqStep x = some (r', rClamp y (r.coef 4) (r.coef 5)) ∧
      StatusOnly (r.pidState s1 (r.biqS2 x y) y) r' := by
  intro y s1 number
  unfold LoopRec.biqStep
  simp only [y] at number ⊢
  simp only [number, Bool.false_eq_true, if_false]
  exact ⟨_, rfl, (((((StatusOnly.refl _).mark _ _).mark _ _).toState _).mark _ _).mark _ _⟩

theorem State.biqLaw_run {s : State} {n : Nat} {r : LoopRec} {x : Word} (run : r.state = 1) (set : r.is .setOk = true)
    (fresh : r.is .staged = false) : s.biqLaw n r x true = lawOut r .good false (r.biqStep x) := by
  unfold State.biqLaw
  rw [LoopRec.isInit_of_run run, if_neg Bool.false_ne_true, LoopRec.ready_of_set _ set fresh rfl, fresh]
  rfl

theorem biq_completes {s : State} {c : CoreId} {gd : Gpr} {loop : BitVec 14} {mode : BitVec 6} {o : PierOp} {k : RunTask} :
    let n := loop.toNat
    let r := s.loopRec n
    let x := s.ra c gd
    let y := rAdd (rMul (r.coef 0) x) (r.at 12)
    let u := rClamp y (r.coef 4) (r.coef 5)
    LawReady s c [n] [] (r.outPoint mode) → r.kind = 1 → r.state = 1 → r.is .setOk = true → r.is .staged = false →
    mode.getLsbD 0 = true → fIsNaN x = false → fIsNaN y = false →
    Issues s (.biq c gd loop mode) o 0 k → Straight (s.put c gd u) c ((s.core c).pc + 4) →
    Completes (.biq c gd loop mode) s fun t =>
      Writes s t c gd u ∧ (t.core c).pc = (s.core c).pc + 4 ∧ t.flagsOf c = s.flagsOf c ∧
      (t.loopRec n).at 12 = rAdd (rSub (rMul (r.coef 1) x) (rMul (r.coef 3) y)) (r.at 13) ∧
      (t.loopRec n).at 13 = rSub (rMul (r.coef 2) x) (rMul (r.coef 6) y) ∧ (t.loopRec n).at 14 = y := by
  intro n r x y u ready kind run set fresh reg numberX numberY h straight
  have hc : o.core = c := h.core_eq rfl
  obtain ⟨r', step, words⟩ := LoopRec.biqStep_number (r := r) (x := x) numberY
  obtain ⟨full, same⟩ := words (LoopRec.pidState_full (s.loopRec_full n) _ _ _)
  have law : (s.waited o).biqLaw n r x true = { r := r', k := .out u .good false } := by
    rw [State.biqLaw_run (s := s.waited o) run set fresh]
    exact congrArg (lawOut r .good false) step
  obtain ⟨body, exec', effect⟩ : ∃ body, exec (.biq c gd loop mode) s = s.deckAct (.biq c gd loop mode) body ∧
      body (s.waited o) = .next ((s.waited o).lawEnd c n gd r (r.outPoint mode) false { r := r', k := .out u .good false }) := by
    refine ⟨_, rfl, ?_⟩
    have record : (s.waited o).loopRec loop.toNat = r := rfl
    have operand : (s.waited o).ra c gd = x := rfl
    have fmt : (s.waited o).outBad (r.outPoint mode) = false := ready.fmt
    have held := ready.waited hc
    dsimp only
    rw [record, reg, if_pos rfl]
    refine (State.lawStart_ok (ins := [none]) _ ⟨held.opened, held.readable, held.held, held.owned, held.fmt⟩).trans ?_
    rw [fmt, kind, operand, numberX, if_pos rfl]
    exact congrArg (fun l => PierRes.next ((s.waited o).lawEnd c n gd r (r.outPoint mode) false l)) law
  obtain ⟨t, done, writes, pc, flags, saved⟩ := State.deckAct_out h hc ready.opened effect full straight
  obtain ⟨at12, at13, at14⟩ := LoopRec.at_pidState (s.loopRec_full n)
    (rAdd (rSub (rMul (r.coef 1) x) (rMul (r.coef 3) y)) (r.at 13)) (r.biqS2 x y) y
  refine ⟨t, exec'.trans done, writes, pc, flags, ?_, ?_, ?_⟩
  · exact (saved 12 (by decide) (by decide) (by decide)).trans ((same 12 (by decide)).trans at12)
  · exact (saved 13 (by decide) (by decide) (by decide)).trans ((same 13 (by decide)).trans at13)
  · exact (saved 14 (by decide) (by decide) (by decide)).trans ((same 14 (by decide)).trans at14)

/-! ### CASC between outer steps (R191, R192) -/

theorem SameCore.setLoopWord (s : State) (n k : Nat) (v : Word) (c : Nat) : SameCore s (s.setLoopWord n k v) c := by
  obtain ⟨d, h⟩ := s.setLoopWord_rest n k v
  exact SameCore.of_pier (by rw [h]) (by rw [h])

theorem State.setLoopWord_gpr (s : State) (n k : Nat) (v : Word) : (s.setLoopWord n k v).pier.gpr = s.pier.gpr := by
  obtain ⟨d, h⟩ := s.setLoopWord_rest n k v
  rw [h]

/-- The end of a CASC execution puts the setpoint into both records and into gd, and keeps the outer loop's state words. -/
theorem State.cascEnd_words (s : State) (c : CoreId) {n inner : Nat} (gd : Gpr) (prev : LoopRec) (out : Option Nat)
    (sp u : Word) (phase : Nat) (q : Quality) (hold : Bool) (other : inner ≠ n) :
    let t := s.cascEnd c n inner gd prev (s.loopRec n) out sp u phase q hold
    SameCore s t c ∧ (∀ g < 64, t.gpr c g = (s.put c gd sp).gpr c g) ∧ (t.loopRec inner).at 10 = sp ∧
      (t.loopRec n).at 10 = sp ∧ (t.loopRec n).at 14 = (s.loopRec n).at 14 ∧ (t.loopRec n).at 12 = (s.loopRec n).at 12 := by
  intro t
  let r' := ((s.loopRec n).putOq q).field 16 16 phase
  let s₁ := s.setLoopWord n 10 sp
  obtain ⟨w, aside, saved⟩ := s₁.lawMark_saves c n prev r' none hold
  let s₂ := w.saveLoop n ((r'.mark .cfgErr (none : Option Nat).isSome).mark .hold hold)
  let s₃ := s₂.setLoopWord inner 10 sp
  have written : Aside (s₃.put c gd sp) t c := by
    unfold t State.cascEnd
    dsimp only
    rw [saved]
    exact Aside.lawWrite _ c out u q
  have status : StatusOnly (s.loopRec n) ((r'.mark .cfgErr (none : Option Nat).isSome).mark .hold hold) :=
    ((((StatusOnly.refl _).putOq q).field _ _ _).mark _ _).mark _ _
  have words (m : Nat) {j : Nat} (hj : j < 32) : (t.loopRec m).at j =
      if inner = m ∧ 10 = j then sp
      else if n = m ∧ j ∈ savedWords then ((r'.mark .cfgErr (none : Option Nat).isSome).mark .hold hold).at j
      else if n = m ∧ 10 = j then sp else (s.loopRec m).at j := by
    rw [State.loopRec_congr (written.deck.trans (State.put_deck s₃ c gd sp)), State.at_setLoopWord _ _ (by decide) _ _ hj,
      State.at_saveLoop _ _ _ _ hj, State.loopRec_congr aside.deck, State.at_setLoopWord _ _ (by decide) _ _ hj]
  refine ⟨?_, fun g hg => ?_, ?_, ?_, ?_, ?_⟩
  · exact ((((SameCore.setLoopWord s n 10 sp c).trans aside.toSameCore).trans (SameCore.saveLoop w n _ c)).trans
      (SameCore.setLoopWord s₂ inner 10 sp c)).trans ((SameCore.put s₃ c gd sp).trans written.toSameCore)
  · have same (c' g : Nat) : s₃.gpr c' g = s.gpr c' g := by
      refine State.gpr_congr ?_ c' g
      rw [State.setLoopWord_gpr, State.saveLoop_gpr, aside.gpr, State.setLoopWord_gpr]
    rw [State.gpr_congr written.gpr, State.put, State.gpr_setGpr _ _ _ _ _ _ gd.isLt hg, State.put,
      State.gpr_setGpr _ _ _ _ _ _ gd.isLt hg, same]
  · rw [words inner (by decide), if_pos ⟨rfl, rfl⟩]
  · rw [words n (by decide), if_neg (fun x => other x.1), if_neg (fun x => absurd x.2 (by decide)), if_pos ⟨rfl, rfl⟩]
  · rw [words n (by decide), if_neg (fun x => other x.1), if_pos ⟨rfl, by decide⟩,
      (status (s.loopRec_full n)).2 14 (by decide)]
  · rw [words n (by decide), if_neg (fun x => other x.1), if_pos ⟨rfl, by decide⟩,
      (status (s.loopRec_full n)).2 12 (by decide)]

/-- Between two outer steps the setpoint is formed, and no step is made. -/
theorem State.cascRun_between {s : State} {c : CoreId} {gd : Gpr} {n : Nat} {out : Option Nat} :
    let r := s.loopRec n
    let inner := (r.at 11).toNat / 2 ^ 16 % 2 ^ 14
    let m := (r.at 11).toNat % 2 ^ 16
    let phase := (r.at 1).toNat / 2 ^ 16
    (s.loopRec inner).kind = 0 → inner ≠ n → r.state = 1 → (s.pidIn r false).absent = false → 0 < phase → phase < m →
    s.cascRun c gd n r out = s.cascEnd c n inner gd r r out (r.cascSp phase m) (r.at 14) ((phase + 1) % m)
      (Quality.ofCode ((r.at 1).toNat / 2 ^ 13 % 8)) false := by
  intro r inner m phase kind other run bound began before
  have due : (r.isInit || phase == 0 || decide (m ≤ phase)) = false := by
    rw [LoopRec.isInit_of_run run]
    simp only [Bool.false_or, Bool.or_eq_false_iff, beq_eq_false_iff_ne, decide_eq_false_iff_not]
    omega
  unfold State.cascRun
  dsimp only
  rw [bound, if_neg Bool.false_ne_true, if_neg (by simp only [not_or, not_not]; exact ⟨by omega, other, kind⟩)]
  simp only [m, phase] at due
  rw [due]
  rfl

theorem casc_completes {s : State} {c : CoreId} {gd : Gpr} {loop : BitVec 14} {mode : BitVec 6} {o : PierOp} {k : RunTask} :
    let n := loop.toNat
    let r := s.loopRec n
    let inner := (r.at 11).toNat / 2 ^ 16 % 2 ^ 14
    let m : Nat := (r.at 11).toNat % 2 ^ 16
    let phase : Nat := (r.at 1).toNat / 2 ^ 16
    let sp := r.cascSp phase m
    LawReady s c [n, inner] r.pidPoints (r.outPoint mode) → r.kind = 0 → (s.loopRec inner).kind = 0 → inner ≠ n →
    r.state = 1 → (s.pidIn r false).absent = false → 0 < phase → phase < m →
    Issues s (.casc c gd loop mode) o 0 k → Straight (s.put c gd sp) c ((s.core c).pc + 4) →
    Completes (.casc c gd loop mode) s fun t =>
      Writes s t c gd sp ∧ (t.core c).pc = (s.core c).pc + 4 ∧ (t.loopRec inner).at 10 = sp ∧ (t.loopRec n).at 10 = sp ∧
      (t.loopRec n).at 14 = r.at 14 ∧ (t.loopRec n).at 12 = r.at 12 := by
  intro n r inner m phase sp ready kind kindInner other run bound began before h straight
  have hc : o.core = c := h.core_eq rfl
  obtain ⟨body, exec', effect⟩ : ∃ body, exec (.casc c gd loop mode) s = s.deckAct (.casc c gd loop mode) body ∧
      body (s.waited o) = .next ((s.waited o).cascEnd c n inner gd r r (r.outPoint mode) sp (r.at 14) ((phase + 1) % m)
        (Quality.ofCode ((r.at 1).toNat / 2 ^ 13 % 8)) false) := by
    refine ⟨_, rfl, ?_⟩
    have record : (s.waited o).loopRec loop.toNat = r := rfl
    have fmt : (s.waited o).outBad (r.outPoint mode) = false := ready.fmt
    refine (State.lawStart_ok _ (ready.waited hc)).trans ?_
    dsimp only
    rw [record, fmt, kind]
    exact congrArg PierRes.next (State.cascRun_between (s := s.waited o) kindInner other run bound began before)
  obtain ⟨same, gprs, words⟩ := (s.waited o).cascEnd_words c gd r (r.outPoint mode) sp (r.at 14) ((phase + 1) % m)
    (Quality.ofCode ((r.at 1).toNat / 2 ^ 13 % 8)) false other
  obtain ⟨kf, done, pc, -⟩ := State.deckAct_law h hc ready.opened effect same (straight.congr fun g hg => by
    refine (gprs g hg).trans ?_
    rw [State.put, State.gpr_setGpr _ _ _ _ _ _ gd.isLt hg, State.put, State.gpr_setGpr _ _ _ _ _ _ gd.isLt hg]
    rfl)
  refine ⟨_, exec'.trans done, fun g hg => ?_, by simp [pc], words⟩
  refine (gprs g hg).trans ?_
  rw [State.put, State.gpr_setGpr _ _ _ _ _ _ gd.isLt hg]
  by_cases at' : g = gd.toNat
  · simp [at', State.waited]
  · simp [at', State.waited]

/-- Settles O23: BIQ ends with an output, CASC between outer steps by `cascEnd`. -/
theorem biquadAndCascade : Obligations.BiquadAndCascade := by
  unfold Obligations.BiquadAndCascade
  refine ⟨fun s c gd loop mode o k => biq_completes, ?_⟩
  intro s c gd loop mode o k n r inner m phase sp ready kind kindInner other run bound began before h straight
  have formed : r.cascSp phase m = sp := by
    unfold LoopRec.cascSp
    by_cases between : (r.at 11).getLsbD 30 = true ∧ phase + 1 ≠ m
    · simp only [sp, if_pos between, between.1, between.2, Bool.not_true, Bool.false_or, decide_false, Bool.false_eq_true,
        if_false]
    · simp only [sp, if_neg between]
      rw [if_pos (by simpa [imp_iff_not_or] using between)]
  have := casc_completes ready kind kindInner other run bound began before h (formed ▸ straight)
  rwa [formed] at this

end Sys2Proof.Machine
end

section
/-! CLAMPW, RATE, INTG, SWAPK and PRIME (R195 to R208): bits of STATUS, what a GEN law leaves, and what a command of a set does. -/

namespace Sys2Proof.Machine

set_option Elab.async false

/-! ### Bits of STATUS (R176) -/

theorem and_not_add_and {w : Nat} (a m : BitVec w) : (a &&& ~~~m) + (a &&& m) = a := by
  rw [BitVec.add_eq_or_of_and_eq_zero]
  · ext i hi
    simp only [BitVec.getElem_or, BitVec.getElem_and, BitVec.getElem_not]
    cases a[i] <;> cases m[i] <;> rfl
  · ext i hi
    simp only [BitVec.getElem_and, BitVec.getElem_not, BitVec.getElem_zero]
    cases a[i] <;> cases m[i] <;> rfl

theorem and_not_add {w : Nat} (a m : BitVec w) : (a &&& ~~~m) + m = a ||| m := by
  rw [BitVec.add_eq_or_of_and_eq_zero]
  · ext i hi
    simp only [BitVec.getElem_or, BitVec.getElem_and, BitVec.getElem_not]
    cases a[i] <;> cases m[i] <;> rfl
  · ext i hi
    simp only [BitVec.getElem_and, BitVec.getElem_not, BitVec.getElem_zero]
    cases a[i] <;> cases m[i] <;> rfl

/-- The bits of a mask taken out of a number. -/
theorem ofNat_sub_and (a m : Word) : BitVec.ofNat 32 (a.toNat - (a &&& m).toNat) = a &&& ~~~m := by
  have le : (a &&& m).toNat ≤ a.toNat := by rw [BitVec.toNat_and]; exact Nat.and_le_left
  have sum := congrArg BitVec.toNat (and_not_add_and a m)
  have below := a.isLt
  have below' := (a &&& ~~~m).isLt
  have below'' := (a &&& m).isLt
  rw [BitVec.toNat_add] at sum
  apply BitVec.eq_of_toNat_eq
  rw [BitVec.toNat_ofNat]
  omega

theorem and_twoPow_toNat (a : Word) {b : Nat} (hb : b < 32) : (a &&& BitVec.twoPow 32 b).toNat = a.toNat / 2 ^ b % 2 * 2 ^ b := by
  rw [← Nat.toNat_testBit, BitVec.and_twoPow, BitVec.testBit_toNat]
  cases a.getLsbD b
  · simp
  · simp [BitVec.toNat_twoPow_of_lt hb]

theorem LoopFlag.bit_lt (f : LoopFlag) : f.bit < 32 := by cases f <;> decide

theorem LoopRec.at_one_mark {r : LoopRec} (h : r.Full) (f : LoopFlag) (v : Bool) :
    (r.mark f v).at 1 = if v then r.at 1 ||| BitVec.twoPow 32 f.bit else r.at 1 &&& ~~~BitVec.twoPow 32 f.bit := by
  have cleared := ofNat_sub_and (r.at 1) (BitVec.twoPow 32 f.bit)
  rw [and_twoPow_toNat _ f.bit_lt] at cleared
  unfold LoopRec.mark LoopRec.setFlag LoopRec.field
  rw [LoopRec.at_put h (by decide), if_pos rfl, Nat.pow_one, BitVec.ofNat_add, cleared]
  cases v
  · simp
  · rw [if_pos rfl, ← and_not_add]
    congr 1
    apply BitVec.eq_of_toNat_eq
    rw [BitVec.toNat_twoPow, BitVec.toNat_ofNat]
    simp

theorem LoopRec.at_one_init {r : LoopRec} (h : r.Full) : (r.toState 0).at 1 = r.at 1 &&& ~~~3 := by
  have low : (r.at 1 &&& 3).toNat = (r.at 1).toNat % 4 := by
    rw [BitVec.toNat_and]
    exact Nat.and_two_pow_sub_one_eq_mod _ 2
  rw [← ofNat_sub_and, low]
  unfold LoopRec.toState LoopRec.field
  rw [LoopRec.at_put h (by decide), if_pos rfl]
  norm_num

/-! ### An instruction of a set (R199, R208) -/

/-- An instruction that writes the record and brings its STATUS in gd. -/
theorem State.deckAct_status {s w : State} {i : Instr} {o : PierOp} {k : RunTask} {c : CoreId} {body : State → PierRes} {n : Nat}
    {gd : Gpr} {r : LoopRec} (h : Issues s i o 0 k) (hc : o.core = c) (opened : s.windowWait 0 1 = false)
    (same : SameCore (s.waited o) w c) (gprs : w.pier.gpr = s.pier.gpr)
    (hb : body (s.waited o) = w.lawStatus c gd n r)
    (straight : Straight (s.put c gd (r.at 1)) c ((s.core c).pc + 4)) :
    ∃ t, s.deckAct i body = .next t ∧ Writes s t c gd (r.at 1) ∧ (t.core c).pc = (s.core c).pc + 4 ∧
      t.flagsOf c = s.flagsOf c ∧ ∀ j < 32, (t.loopRec n).at j = if j ∈ savedWords then r.at j else (w.loopRec n).at j := by
  let u := (w.saveLoop n r).put c gd (r.at 1)
  have read (g : Nat) (hg : g < 64) : u.gpr c g = (s.put c gd (r.at 1)).gpr c g := by
    have same (c' g : Nat) : (w.saveLoop n r).gpr c' g = s.gpr c' g :=
      State.gpr_congr ((State.saveLoop_gpr w n r).trans gprs) c' g
    change ((w.saveLoop n r).setGpr c gd.toNat (r.at 1)).gpr c g = _
    rw [State.gpr_setGpr _ _ _ _ _ _ gd.isLt hg, State.put, State.gpr_setGpr _ _ _ _ _ _ gd.isLt hg, same]
  obtain ⟨kf, done, pc, flags⟩ := State.deckAct_law (u := u) h hc opened hb
    ((same.trans (SameCore.saveLoop w n r c)).trans (SameCore.put _ c gd _)) (straight.congr read)
  refine ⟨_, done, fun g hg => ?_, by simp [pc], flags, fun j hj => ?_⟩
  · rw [State.gpr_setCore, read g hg, State.put, State.gpr_setGpr _ _ _ _ _ _ gd.isLt hg]
    by_cases at' : g = gd.toNat <;> simp [at', eq_comm]
  · have record : (u.setCore c kf).loopRec n = (w.saveLoop n r).loopRec n := State.loopRec_congr (State.put_deck _ c gd _) n
    rw [record, State.at_saveLoop _ _ _ _ hj]
    simp

theorem completes_of_status {s w : State} {i : Instr} {o : PierOp} {k : RunTask} {c : CoreId} {go : State → PierRes} {n : Nat}
    {gd : Gpr} {r : LoopRec} {v : Word} (h : Issues s i o 0 k) (hc : o.core = c) (ready : LawReady s c [n] [] none)
    (exec' : exec i s = s.deckAct i fun s => s.lawStart c [n] [] none go) (goes : go (s.waited o) = w.lawStatus c gd n r)
    (bit : r.at 1 = v) (same : SameCore (s.waited o) w c) (gprs : w.pier.gpr = s.pier.gpr)
    (straight : Straight (s.put c gd v) c ((s.core c).pc + 4)) :
    Completes i s fun t => Writes s t c gd v ∧ (t.core c).pc = (s.core c).pc + 4 ∧ t.flagsOf c = s.flagsOf c ∧
      ∀ j < 32, (t.loopRec n).at j = if j ∈ savedWords then r.at j else (w.loopRec n).at j := by
  subst bit
  obtain ⟨t, done, rest⟩ := State.deckAct_status (n := n)
    (body := fun s => s.lawStart c [n] [] none go) h hc ready.opened same gprs
    ((State.lawStart_ok go (ready.waited hc)).trans goes) straight
  exact ⟨t, exec'.trans done, rest⟩

/-! ### INIT and the keystone's prime value (R204, R208) -/

/-- A loop that enters INIT keeps every word but STATUS. -/
theorem State.enterInit_words (s : State) (n : Nat) {j : Nat} (hj : j < 32) :
    ((s.enterInit n).loopRec n).at j = if j = 1 then (s.loopRec n).at 1 &&& ~~~3 else (s.loopRec n).at j := by
  have record (p : PierSt) : ({ s with pier := p } : State).loopRec n = s.loopRec n := rfl
  unfold State.enterInit
  rw [State.at_setLoopWord _ _ (by decide) _ _ hj, record, LoopRec.at_one_init (s.loopRec_full n)]
  simp only [true_and]
  by_cases one : j = 1
  · rw [if_pos one.symm, if_pos one]
  · rw [if_neg (Ne.symm one), if_neg one]

theorem SameCore.enterInit (s : State) (n c : Nat) : SameCore s (s.enterInit n) c := by
  unfold State.enterInit
  refine SameCore.trans ?_ (SameCore.setLoopWord _ _ _ _ _)
  exact SameCore.of_pier rfl rfl

theorem State.enterInit_gpr (s : State) (n : Nat) : (s.enterInit n).pier.gpr = s.pier.gpr := by
  unfold State.enterInit
  rw [State.setLoopWord_gpr]

theorem SameCore.mirrorLine (s : State) (a c : Nat) :
    SameCore s (s.mirrorLine a) c ∧ (s.mirrorLine a).pier.gpr = s.pier.gpr ∧ (s.mirrorLine a).deck = s.deck := by
  obtain ⟨tw, h⟩ := s.mirrorLine_rest a
  rw [h]
  exact ⟨SameCore.of_pier rfl rfl, rfl, rfl⟩

/-- What FETCH leaves of the record: PRIME_VAL from the keystone, or PRIME_FB where the keystone's words are not valid. -/
theorem State.keepFetch_words (s : State) (n c : Nat) :
    let src := ((s.loopRec n).at 8).toNat
    let keep : Prop := src / 2 ^ 30 = 2
    SameCore s (s.keepFetch n) c ∧ (s.keepFetch n).pier.gpr = s.pier.gpr ∧
      ((s.keepFetch n).loopRec n).at 1 = (if keep ∧ s.bit F.KEEP_STAT_VALID = false then (s.loopRec n).at 1 ||| 0x200 else (s.loopRec n).at 1) ∧
      ((s.keepFetch n).loopRec n).at 9 = (if keep ∧ s.bit F.KEEP_STAT_VALID = true
        then BitVec.ofNat 32 (s.keepWord (16 + src / 2 ^ 24 % 16)) else (s.loopRec n).at 9) := by
  intro src keep
  unfold State.keepFetch
  extract_lets r src' rest
  have same (m : List Nat) : SameCore s { s with pier := { s.pier with keepMissed := m } } c := SameCore.of_pier rfl rfl
  by_cases from' : keep
  · have from'' : ¬ src' / 2 ^ 30 ≠ 2 := not_not.mpr from'
    rw [if_neg from'']
    cases valid : s.bit F.KEEP_STAT_VALID
    · rw [if_neg Bool.false_ne_true]
      refine ⟨(same _).trans (SameCore.setLoopWord _ _ _ _ _), State.setLoopWord_gpr _ _ _ _, ?_, ?_⟩
      · rw [State.at_setLoopWord _ _ (by decide) _ _ (by decide), if_pos ⟨rfl, rfl⟩, if_pos ⟨from', rfl⟩]
        exact LoopRec.at_one_mark (s.loopRec_full n) .primeFb true
      · rw [State.at_setLoopWord _ _ (by decide) _ _ (by decide), if_neg (by simp), if_neg (by simp)]
        rfl
    · rw [if_pos rfl]
      have fetched := (same rest).trans (SameCore.setLoopWord _ n 9 (BitVec.ofNat 32 (s.keepWord (16 + src' / 2 ^ 24 % 16))) c)
      have word (j : Nat) (hj : j < 32) := State.at_setLoopWord ({ s with pier := { s.pier with keepMissed := rest } } : State) n
        (k := 9) (by decide) (BitVec.ofNat 32 (s.keepWord (16 + src' / 2 ^ 24 % 16))) n hj
      have gprs := State.setLoopWord_gpr ({ s with pier := { s.pier with keepMissed := rest } } : State) n 9
        (BitVec.ofNat 32 (s.keepWord (16 + src' / 2 ^ 24 % 16)))
      generalize State.setLoopWord _ n 9 _ = v at fetched word gprs ⊢
      obtain ⟨mirrored, regs, deck⟩ := SameCore.mirrorLine v (loopAddr n + 36) c
      refine ⟨fetched.trans mirrored, regs.trans gprs, ?_, ?_⟩
      · rw [State.loopRec_congr deck, word 1 (by decide), if_neg (by simp), if_neg (by simp)]
        rfl
      · rw [State.loopRec_congr deck, word 9 (by decide), if_pos ⟨rfl, rfl⟩, if_pos ⟨from', rfl⟩]
  · rw [if_pos from']
    refine ⟨same _, rfl, ?_, ?_⟩
    · rw [if_neg fun x => from' x.1]
      rfl
    · rw [if_neg fun x => from' x.1]
      rfl

/-! ### CLAMPW, RATE and INTG (R195 to R198) -/

/-- A GEN law on a running loop whose result is a number: the record written back, the result in gd, and in a pair whether it
acted. -/
theorem State.genRun_number {s : State} {c : CoreId} {gd : Gpr} {n : Nat} {pair : Bool} {law : LoopRec → Option GenRes}
    {g : GenRes} (kind : (s.loopRec n).kind = 2) (set : (s.loopRec n).is .setOk = true)
    (fresh : (s.loopRec n).is .staged = false) (run : (s.loopRec n).state = 1) (result : law (s.loopRec n) = some g)
    (own : g.fb = false) (number : fIsNaN g.v = false) :
    s.genRun c gd n pair law =
      ((if pair then s.setGpr c (gd.toNat + 1) (bool32 g.acted) else s).lawMark c n (s.loopRec n) g.r none false).put c gd g.v := by
  have commit : (s.loopRec n).genCommit = (s.loopRec n, none, none) := by
    unfold LoopRec.genCommit
    simp [fresh]
  have events : s.lawEvents c n { r := g.r, k := .hold false, commit := none, fb := g.fb } = s := by
    unfold State.lawEvents
    rw [own]
    rfl
  have acted : BitVec.ofNat 32 (g.acted.toNat % 2) = bool32 g.acted := by cases g.acted <;> rfl
  unfold State.genRun
  dsimp only
  rw [if_neg (not_not.mpr kind), commit]
  dsimp only
  rw [set, Bool.not_true, if_neg Bool.false_ne_true, result]
  dsimp only
  rw [events, number, if_neg Bool.false_ne_true, if_neg Bool.false_ne_true]
  dsimp only
  rw [acted, LoopRec.isInit_of_run run, if_neg Bool.false_ne_true]

/-- A result in gd, and in a pair what comes with it, are written as a group. -/
theorem State.gpr_put_pair {s w : State} {c : CoreId} {gd : Gpr} {pair : Bool} {v x : Word}
    (same : ∀ y, w.gpr c y = s.gpr c y) (fits : pair = true → groupOk gd 2 = true) {y : Nat} (hy : y < 64) :
    ((if pair then w.setGpr c (gd.toNat + 1) x else w).put c gd v).gpr c y =
      (s.putGroup c gd (if pair = true then [v, x] else [v])).gpr c y := by
  have below := gd.isLt
  rw [State.put, State.gpr_setGpr _ _ _ _ _ _ below hy]
  cases pair
  · simp only [Bool.false_eq_true, if_false]
    rw [State.gpr_putGroup _ _ (by simp; omega) _ _ hy, same]
    simp only [List.length_singleton]
    by_cases at' : y = gd.toNat
    · simp [at']
    · rw [if_neg (fun z => at' z.2.1), if_neg (by omega)]
  · have even : gd.toNat % 2 = 0 ∧ gd.toNat ≠ 0 := by simpa [groupOk] using fits rfl
    simp only [if_true]
    rw [State.gpr_putGroup _ _ (by simp; omega) _ _ hy, State.gpr_setGpr _ _ _ _ _ _ (by omega) hy, same]
    simp only [List.length_cons, List.length_nil]
    by_cases low : y = gd.toNat
    · simp [low, even]
    · rw [if_neg (fun z => low z.2.1)]
      by_cases high : y = gd.toNat + 1
      · simp [high]
      · rw [if_neg (fun z => high z.2.1), if_neg (by omega)]

/-- A law instruction of this kind. -/
theorem State.deckAct_gen {s : State} {i : Instr} {o : PierOp} {k : RunTask} {c : CoreId} {body : State → PierRes} {n : Nat}
    {gd : Gpr} {law : LoopRec → Option GenRes} {g : GenRes} {pair : Bool} (h : Issues s i o 0 k) (hc : o.core = c)
    (opened : s.windowWait 0 1 = false) (hb : body (s.waited o) = .next ((s.waited o).genRun c gd n pair law))
    (kind : (s.loopRec n).kind = 2) (set : (s.loopRec n).is .setOk = true) (fresh : (s.loopRec n).is .staged = false)
    (run : (s.loopRec n).state = 1) (result : law (s.loopRec n) = some g) (own : g.fb = false)
    (number : fIsNaN g.v = false) (fits : pair = true → groupOk gd 2 = true) :
    let vs := if pair = true then [g.v, bool32 g.acted] else [g.v]
    Straight (s.putGroup c gd vs) c ((s.core c).pc + 4) →
    ∃ t, s.deckAct i body = .next t ∧ WritesGroup s t c gd vs ∧ (t.core c).pc = (s.core c).pc + 4 ∧
      t.flagsOf c = s.flagsOf c ∧ ∀ j < 32, j ≠ 1 → j ∈ savedWords → g.r.Full → (t.loopRec n).at j = g.r.at j := by
  intro vs straight
  have effect := hb.trans (congrArg PierRes.next
    (State.genRun_number (s := s.waited o) (c := c) (gd := gd) (pair := pair) kind set fresh run result own number))
  obtain ⟨same, gprs, words⟩ := (if pair then (s.waited o).setGpr c (gd.toNat + 1) (bool32 g.acted) else
    s.waited o).lawMark_put_write c n gd (s.loopRec n) g.r none false g.v 0 none .good
  have paired : SameCore (s.waited o) (if pair then (s.waited o).setGpr c (gd.toNat + 1) (bool32 g.acted) else s.waited o) c := by
    cases pair
    · exact SameCore.of_pier rfl rfl
    · obtain ⟨m, hm⟩ := (s.waited o).setGpr_regsOnly c (gd.toNat + 1) (bool32 g.acted)
      rw [if_pos rfl, hm]
      exact SameCore.of_pier rfl rfl
  have length : gd.toNat + vs.length ≤ 64 := by
    unfold vs
    cases paired : pair
    · exact gd.isLt
    · exact pair_fits (fits paired)
  have read (y : Nat) (hy : y < 64) := State.gpr_put_pair (s := s) (w := s.waited o) (c := c) (gd := gd) (v := g.v)
    (x := bool32 g.acted) (fun _ => rfl) fits hy
  have quiet (x : State) : x.lawWrite c none 0 .good = x := rfl
  have record : (s.waited o).loopRec n = s.loopRec n := rfl
  rw [quiet] at same gprs words
  rw [record] at effect
  generalize ((if pair then (s.waited o).setGpr c (gd.toNat + 1) (bool32 g.acted) else s.waited o).lawMark c n (s.loopRec n)
    g.r none false).put c gd g.v = u at effect same gprs words
  obtain ⟨kf, done, pc, flags⟩ := State.deckAct_law h hc opened effect (paired.trans same)
    (straight.congr fun y hy => (gprs y hy).trans (read y hy))
  refine ⟨_, done, fun y hy => ?_, by simp [pc], flags, fun j hj status saved full => ?_⟩
  · refine (gprs y hy).trans ((read y hy).trans ?_)
    rw [State.gpr_putGroup _ _ length _ _ hy]
    simp
  · refine (words n j hj).trans ?_
    rw [if_pos ⟨rfl, saved⟩]
    exact ((((StatusOnly.refl g.r).mark _ _).mark _ _) full).2 j status

section

variable {s : State} {c : CoreId} {gd : Gpr} {loop : BitVec 14} {mode : BitVec 6} {o : PierOp} {k : RunTask}
  (ready : LawReady s c [loop.toNat] [] none) (kind : (s.loopRec loop.toNat).kind = 2)
  (run : (s.loopRec loop.toNat).state = 1) (set : (s.loopRec loop.toNat).is .setOk = true)
  (fresh : (s.loopRec loop.toNat).is .staged = false)
include ready kind run set fresh

theorem clampw_completes (h : Issues s (.clampw c gd loop mode) o 0 k) :
    let r := s.loopRec loop.toNat
    let x := s.ra c gd
    let v := rClamp x (r.coef 4) (r.coef 5)
    let vs := if mode.getLsbD 0 = true then [v, bool32 (rNe v x)] else [v]
    fIsNaN v = false → Straight (s.putGroup c gd vs) c ((s.core c).pc + 4) →
    Completes (.clampw c gd loop mode) s fun t =>
      WritesGroup s t c gd vs ∧ (t.core c).pc = (s.core c).pc + 4 ∧ t.flagsOf c = s.flagsOf c := by
  intro r x v vs number straight
  have hc : o.core = c := (h.core_eq rfl).trans (by split <;> rfl)
  have fits : mode.getLsbD 0 = true → groupOk gd 2 = true := by
    intro pair
    have legal := h.legal
    rw [← Option.some.inj h.op, if_pos pair] at legal
    exact (Bool.and_eq_true_iff.mp legal).2
  obtain ⟨body, exec', law, g, effect, result, value⟩ : ∃ body, exec (.clampw c gd loop mode) s =
      s.deckAct (.clampw c gd loop mode) body ∧ ∃ law g,
        body (s.waited o) = .next ((s.waited o).genRun c gd loop.toNat (mode.getLsbD 0) law) ∧
        law r = some g ∧ g.v = v ∧ g.acted = rNe v x ∧ g.fb = false :=
    ⟨_, rfl, _, _, State.lawStart_ok _ (ready.waited hc), rfl, rfl, rfl, rfl⟩
  obtain ⟨value, acted, own⟩ := value
  have gen := State.deckAct_gen (c := c) (gd := gd) h hc ready.opened effect kind set fresh run result own (value ▸ number) fits
  rw [value, acted] at gen
  obtain ⟨t, done, writes, pc, flags, -⟩ := gen straight
  exact ⟨t, exec'.trans done, writes, pc, flags⟩

theorem rate_completes (h : Issues s (.rate c gd loop mode) o 0 k) :
    let r := s.loopRec loop.toNat
    let v := rClamp (s.ra c gd) (rSub (r.at 14) (r.coef 6)) (rAdd (r.at 14) (r.coef 6))
    fLt 0 (r.coef 6) = true → fIsNaN v = false → Straight (s.putGroup c gd [v]) c ((s.core c).pc + 4) →
    Completes (.rate c gd loop mode) s fun t =>
      WritesGroup s t c gd [v] ∧ (t.core c).pc = (s.core c).pc + 4 ∧ t.flagsOf c = s.flagsOf c ∧
        (t.loopRec loop.toNat).at 14 = v := by
  intro r v limited number straight
  have hc : o.core = c := h.core_eq rfl
  have choice : (r.isInit || !fLt 0 (r.coef 6)) = false := by rw [LoopRec.isInit_of_run run, limited]; rfl
  obtain ⟨body, exec', effect⟩ : ∃ body, exec (.rate c gd loop mode) s = s.deckAct (.rate c gd loop mode) body ∧
      ∃ law, body (s.waited o) = .next ((s.waited o).genRun c gd loop.toNat false law) ∧
        law r = some { v, acted := rNe v (s.ra c gd), r := (r.put 14 v).mark .rlim (rNe v (s.ra c gd)) } := by
    refine ⟨_, rfl, _, State.lawStart_ok _ (ready.waited hc), ?_⟩
    dsimp only
    rw [choice, LoopRec.isInit_of_run run, if_neg Bool.false_ne_true, if_neg Bool.false_ne_true]
    rfl
  obtain ⟨law, effect, result⟩ := effect
  obtain ⟨t, done, writes, pc, flags, words⟩ := State.deckAct_gen h hc ready.opened effect kind set fresh run result rfl
    number (fun x => absurd x Bool.false_ne_true) straight
  have full := LoopRec.put_full (s.loopRec_full loop.toNat) 14 v
  obtain ⟨full', same⟩ := (StatusOnly.refl _).mark .rlim (rNe v (s.ra c gd)) full
  refine ⟨t, exec'.trans done, writes, pc, flags, ?_⟩
  refine (words 14 (by decide) (by decide) (by decide) full').trans ((same 14 (by decide)).trans ?_)
  rw [LoopRec.at_put (s.loopRec_full _) (by decide), if_pos rfl]

/-- INTG in either form: I becomes the clamped value (R197). -/
theorem State.deckAct_intg {i : Instr} {body : State → PierRes} {law : LoopRec → Option GenRes} {u : Word}
    (h : Issues s i o 0 k) (hc : o.core = c)
    (hb : body (s.waited o) = .next ((s.waited o).genRun c gd loop.toNat false law))
    (result : law (s.loopRec loop.toNat) = some (intgRes (s.loopRec loop.toNat) u false)) :
    let r := s.loopRec loop.toNat
    let v := rClamp u (r.coef 4) (r.coef 5)
    fIsNaN v = false → Straight (s.putGroup c gd [v]) c ((s.core c).pc + 4) →
    ∃ t, s.deckAct i body = .next t ∧ WritesGroup s t c gd [v] ∧ (t.core c).pc = (s.core c).pc + 4 ∧
      t.flagsOf c = s.flagsOf c ∧ (t.loopRec loop.toNat).at 12 = v := by
  intro r v number straight
  obtain ⟨t, done, writes, pc, flags, words⟩ := State.deckAct_gen h hc ready.opened hb kind set fresh run result rfl
    number (fun x => absurd x Bool.false_ne_true) straight
  have full := LoopRec.put_full (s.loopRec_full loop.toNat) 12 v
  obtain ⟨full', same⟩ := (StatusOnly.refl _).mark .windup (rNe v u) full
  refine ⟨t, done, writes, pc, flags, ?_⟩
  refine (words 12 (by decide) (by decide) (by decide) full').trans ((same 12 (by decide)).trans ?_)
  rw [LoopRec.at_put (s.loopRec_full _) (by decide), if_pos rfl]

theorem intg_completes (h : Issues s (.intg c gd loop mode) o 0 k) :
    let r := s.loopRec loop.toNat
    let v := rClamp (rAdd (r.at 12) (rMul (r.coef 1) (s.ra c gd))) (r.coef 4) (r.coef 5)
    fIsNaN v = false → Straight (s.putGroup c gd [v]) c ((s.core c).pc + 4) →
    Completes (.intg c gd loop mode) s fun t =>
      WritesGroup s t c gd [v] ∧ (t.core c).pc = (s.core c).pc + 4 ∧ t.flagsOf c = s.flagsOf c ∧
        (t.loopRec loop.toNat).at 12 = v := by
  intro r v number straight
  have hc : o.core = c := h.core_eq rfl
  obtain ⟨body, exec', law, effect, result⟩ : ∃ body, exec (.intg c gd loop mode) s = s.deckAct (.intg c gd loop mode) body ∧
      ∃ law, body (s.waited o) = .next ((s.waited o).genRun c gd loop.toNat false law) ∧
        law r = some (intgRes r (rAdd (r.at 12) (rMul (r.coef 1) (s.ra c gd))) false) := by
    refine ⟨_, rfl, _, State.lawStart_ok _ (ready.waited hc), ?_⟩
    dsimp only
    rw [LoopRec.isInit_of_run run, if_neg Bool.false_ne_true]
    rfl
  obtain ⟨t, done, rest⟩ := State.deckAct_intg ready kind run set fresh h hc effect result number straight
  exact ⟨t, exec'.trans done, rest⟩

theorem intgLoad_completes (h : Issues s (.intgLoad c gd loop mode) o 0 k) :
    let r := s.loopRec loop.toNat
    let v := rClamp (s.ra c gd) (r.coef 4) (r.coef 5)
    fIsNaN v = false → Straight (s.putGroup c gd [v]) c ((s.core c).pc + 4) →
    Completes (.intgLoad c gd loop mode) s fun t =>
      WritesGroup s t c gd [v] ∧ (t.core c).pc = (s.core c).pc + 4 ∧ t.flagsOf c = s.flagsOf c ∧
        (t.loopRec loop.toNat).at 12 = v := by
  intro r v number straight
  have hc : o.core = c := h.core_eq rfl
  exact State.deckAct_intg ready kind run set fresh h hc (State.lawStart_ok _ (ready.waited hc)) rfl number straight

end

/-- Settles O24: the laws of a GEN loop by `genRun`, the commands of a set by `lawStatus`. -/
theorem genericLawsAndSets : Obligations.GenericLawsAndSets := by
  unfold Obligations.GenericLawsAndSets
  refine ⟨?_, ?_⟩
  · intro s c gd loop mode o k row n r x lim near sum hrow vs ready kind run set fresh limited number h straight
    simp only [List.mem_cons, List.not_mem_nil, or_false] at hrow
    rcases hrow with rfl | rfl | rfl | rfl
    · have shape : vs = if mode.getLsbD 0 = true then [lim x, bool32 (rNe (lim x) x)] else [lim x] := by simp [vs]
      rw [shape] at straight ⊢
      obtain ⟨t, done, writes, pc, flags⟩ := clampw_completes ready kind run set fresh h number straight
      exact ⟨t, done, writes, pc, flags, fun wv none' => by cases none'⟩
    · have shape : vs = [near] := if_neg fun z => by cases z.1
      rw [shape] at straight ⊢
      obtain ⟨t, done, writes, pc, flags, word⟩ := rate_completes ready kind run set fresh h (limited rfl) number straight
      exact ⟨t, done, writes, pc, flags, fun wv some' => by cases some'; exact word⟩
    · have shape : vs = [lim sum] := if_neg fun z => by cases z.1
      rw [shape] at straight ⊢
      obtain ⟨t, done, writes, pc, flags, word⟩ := intg_completes ready kind run set fresh h number straight
      exact ⟨t, done, writes, pc, flags, fun wv some' => by cases some'; exact word⟩
    · have shape : vs = [lim x] := if_neg fun z => by cases z.1
      rw [shape] at straight ⊢
      obtain ⟨t, done, writes, pc, flags, word⟩ := intgLoad_completes ready kind run set fresh h number straight
      exact ⟨t, done, writes, pc, flags, fun wv some' => by cases some'; exact word⟩
  · intro s c gd loop mode o k row n st src keep hrow ready h straight
    have full := s.loopRec_full n
    simp only [List.mem_cons, List.not_mem_nil, or_false] at hrow
    rcases hrow with rfl | rfl | rfl | rfl | rfl
    · obtain ⟨t, done, writes, pc, flags, words⟩ := completes_of_status h (h.core_eq rfl) ready rfl rfl rfl
        (SameCore.of_pier rfl rfl) rfl straight
      exact ⟨t, done, writes, pc, flags, words 1 (by decide), fun z => by cases z⟩
    · have bit : ((s.loopRec n).mark .staged true).at 1 = st ||| 0x80 := LoopRec.at_one_mark full .staged true
      obtain ⟨t, done, writes, pc, flags, words⟩ := completes_of_status h (h.core_eq rfl) ready rfl rfl bit
        (SameCore.of_pier rfl rfl) rfl straight
      exact ⟨t, done, writes, pc, flags, (words 1 (by decide)).trans bit, fun z => by cases z⟩
    · have bit : ((s.loopRec n).mark .staged false).at 1 = st &&& ~~~0x80 := LoopRec.at_one_mark full .staged false
      obtain ⟨t, done, writes, pc, flags, words⟩ := completes_of_status h (h.core_eq rfl) ready rfl rfl bit
        (SameCore.of_pier rfl rfl) rfl straight
      exact ⟨t, done, writes, pc, flags, (words 1 (by decide)).trans bit, fun z => by cases z⟩
    · let w := (s.waited o).enterInit n
      have bit : (w.loopRec n).at 1 = st &&& ~~~3 := (s.waited o).enterInit_words n (by decide)
      obtain ⟨t, done, writes, pc, flags, words⟩ := completes_of_status h (h.core_eq rfl) ready rfl rfl bit
        (SameCore.enterInit _ n c) (State.enterInit_gpr _ n) straight
      exact ⟨t, done, writes, pc, flags, (words 1 (by decide)).trans bit, fun z => by cases z⟩
    · obtain ⟨same, gprs, at1, at9⟩ := (s.waited o).keepFetch_words n c
      let w := ((s.waited o).keepFetch n).enterInit n
      have bit : (w.loopRec n).at 1 = (if keep ∧ s.bit F.KEEP_STAT_VALID = false then st ||| 0x200 else st) &&& ~~~3 := by
        refine (((s.waited o).keepFetch n).enterInit_words n (by decide)).trans ?_
        rw [if_pos rfl, at1]
        rfl
      have val : (w.loopRec n).at 9 = if keep ∧ s.bit F.KEEP_STAT_VALID = true
          then BitVec.ofNat 32 (s.keepWord (16 + src / 2 ^ 24 % 16)) else (s.loopRec n).at 9 := by
        refine (((s.waited o).keepFetch n).enterInit_words n (by decide)).trans ?_
        rw [if_neg (by decide), at9]
        rfl
      obtain ⟨t, done, writes, pc, flags, words⟩ := completes_of_status h (h.core_eq rfl) ready rfl rfl bit
        (same.trans (SameCore.enterInit _ n c)) ((State.enterInit_gpr _ n).trans gprs) straight
      exact ⟨t, done, writes, pc, flags, (words 1 (by decide)).trans bit, fun _ => (words 9 (by decide)).trans val⟩

end Sys2Proof.Machine
end

section
/-! The encoding of pier instructions (R138 to R140): the fields of a word, a word from its fields, and both ways of each format. -/

namespace Sys2Proof.Machine

set_option Elab.async false

/-! ### Fields of a word -/

theorem bitsOf_eq (w : Word) (hi lo : Nat) : bitsOf w hi lo = (w.extractLsb' lo (hi + 1 - lo)).toNat := by
  rw [bitsOf, BitVec.extractLsb'_toNat, Nat.shiftRight_eq_div_pow]

theorem gprOf_eq (w : Word) (lo : Nat) : gprOf w lo = w.extractLsb' lo 6 := by
  have width : lo + 5 + 1 - lo = 6 := by omega
  rw [gprOf, bitsOf_eq, width, BitVec.ofNat_toNat, BitVec.setWidth_eq]

/-- A field that holds a number is the number of that width. -/
theorem extract_of_bitsOf {w : Word} {hi lo n : Nat} {x : BitVec (hi + 1 - lo)} (h : bitsOf w hi lo = n) (hx : x.toNat = n) :
    w.extractLsb' lo (hi + 1 - lo) = x :=
  BitVec.eq_of_toNat_eq ((bitsOf_eq w hi lo).symm.trans (h.trans hx.symm))

/-- The bits that a mask of `len` ones from `lo` takes from a word are 0 when that field is. -/
theorem and_eq_zero_iff {w m : Word} (lo len : Nat) (hm : ∀ i < 32, m.getLsbD i = (decide (lo ≤ i) && decide (i < lo + len)))
    (fits : lo + len ≤ 32) : w &&& m = 0 ↔ w.extractLsb' lo len = 0 := by
  constructor
  · intro h
    ext i hi
    have bit := congrArg (fun x : Word => x.getLsbD (lo + i)) h
    simp only [BitVec.getLsbD_and, hm (lo + i) (by omega)] at bit
    simpa [BitVec.getElem_extractLsb', hi] using bit
  · intro h
    ext i hi
    rw [BitVec.getElem_and, BitVec.getElem_eq_testBit_toNat m, BitVec.testBit_toNat, hm i hi]
    by_cases inside : lo ≤ i ∧ i < lo + len
    · have bit := congrArg (fun x : BitVec len => x.getLsbD (i - lo)) h
      simp only [BitVec.getLsbD_extractLsb', BitVec.getLsbD_zero, show i - lo < len by omega, decide_true, Bool.true_and,
        show lo + (i - lo) = i by omega] at bit
      rw [← BitVec.getLsbD_eq_getElem, bit]
      simp
    · have outside : (decide (lo ≤ i) && decide (i < lo + len)) = false := by simpa using inside
      simp [outside]

theorem zeroUnder_eq {w m : Word} {i : Instr} (lo len : Nat)
    (hm : ∀ k < 32, m.getLsbD k = (decide (lo ≤ k) && decide (k < lo + len))) (fits : lo + len ≤ 32) :
    zeroUnder w m i = if w.extractLsb' lo len = 0 then some i else none := by
  unfold zeroUnder
  simp only [and_eq_zero_iff lo len hm fits]

/-! ### A word from its fields -/

/-- Two neighbouring fields are one. -/
theorem append_extract (w : Word) {hi lo n m : Nat} (h : hi = lo + m) :
    w.extractLsb' hi n ++ w.extractLsb' lo m = w.extractLsb' lo (n + m) :=
  BitVec.extractLsb'_append_extractLsb'_eq_extractLsb' h

section

variable {w : Word} {op : BitVec 6} (hop : bitsOf w 31 26 = op.toNat)
include hop

theorem op_of_bitsOf : op = w.extractLsb' 26 6 := (extract_of_bitsOf hop rfl).symm

theorem wordA_of_fields {fn : Byte} (hfn : w.extractLsb' 0 8 = fn) : wordA op (fldGd w) (fldGa w) (fldGb w) fn = w := by
  rw [wordA, fldGd, fldGa, fldGb, gprOf_eq, gprOf_eq, gprOf_eq, op_of_bitsOf hop, ← hfn]
  simp (disch := decide) only [append_extract]
  exact BitVec.extractLsb'_eq_self

theorem wordI_of_fields : wordI op (fldGd w) (fldGa w) (fldImm w) = w := by
  rw [wordI, fldGd, fldGa, fldImm, gprOf_eq, gprOf_eq, op_of_bitsOf hop]
  simp (disch := decide) only [append_extract]
  exact BitVec.extractLsb'_eq_self

theorem wordS_of_fields (zero : w.extractLsb' 5 9 = 0) : wordS op (fldGd w) (fldGa w) (w.extractLsb' 0 5) = w := by
  rw [wordS, fldGd, fldGa, gprOf_eq, gprOf_eq, op_of_bitsOf hop, ← zero]
  simp (disch := decide) only [append_extract]
  exact BitVec.extractLsb'_eq_self

theorem wordP_of_fields {q : BitVec 3} (hq : w.extractLsb' 17 3 = q) : wordP op (fldGd w) q (w.extractLsb' 0 17) = w := by
  rw [wordP, fldGd, gprOf_eq, op_of_bitsOf hop, ← hq]
  simp (disch := decide) only [append_extract]
  exact BitVec.extractLsb'_eq_self

theorem wordM_of_fields (ten : op = 0x0A) (zero : w.extractLsb' 16 3 = 0) :
    wordM (w.getLsbD 19) (fldGd w) (w.extractLsb' 0 16) = w := by
  have high : w.extractLsb' 19 1 = BitVec.ofBool (w.getLsbD 19) := by
    ext k hk
    have first : k = 0 := by omega
    subst first
    simp
  rw [wordM, fldGd, gprOf_eq, ← ten, op_of_bitsOf hop, ← high, ← zero]
  simp (disch := decide) only [append_extract]
  exact BitVec.extractLsb'_eq_self

theorem wordLoop_of_fields : op ++ w.extractLsb' 16 10 ++ w.extractLsb' 0 16 = w := by
  rw [op_of_bitsOf hop]
  simp (disch := decide) only [append_extract]
  exact BitVec.extractLsb'_eq_self

theorem wordL_of_fields : wordL op (fldGd w) (w.extractLsb' 6 14) (w.extractLsb' 0 6) = w := by
  rw [wordL, fldGd, gprOf_eq, op_of_bitsOf hop]
  simp (disch := decide) only [append_extract]
  exact BitVec.extractLsb'_eq_self

end

/-! ### What a word decodes to has that word (R138 to R140) -/

/-- The instruction `i` of core `c` has the word `w`. -/
def Encodes (c : CoreId) (i : Instr) (w : Word) : Prop := pierEncode i = some w ∧ (pierOp i).map (·.core) = some c.val

section

variable {c : CoreId} {w : Word} {i : Instr}

theorem decodeMul_encodes (hop : bitsOf w 31 26 = 0x0B) (h : decodeMul c w = some i) : Encodes c i w := by
  unfold decodeMul at h
  dsimp only at h
  split at h
  all_goals cases h
  all_goals exact ⟨congrArg some (wordA_of_fields (op := 0x0B) hop (extract_of_bitsOf (hi := 7) ‹bitsOf w 7 0 = _› rfl)), rfl⟩

theorem decodeAlu_encodes (hop : bitsOf w 31 26 = 0x00) (h : decodeAlu c w = some i) : Encodes c i w := by
  have fn {n : BitVec 7} (hn : bitsOf w 6 0 = n.toNat) : w.extractLsb' 0 8 = fnS (w.getLsbD 7) n := by
    have top : w.extractLsb' 7 1 = BitVec.ofBool (w.getLsbD 7) := by
      ext k hk
      have first : k = 0 := by omega
      subst first
      simp
    have low : w.extractLsb' 0 7 = n := extract_of_bitsOf (hi := 6) hn rfl
    rw [fnS, ← top, ← low, append_extract w (by decide)]
  have fnPlain {v : Nat} {b : Byte} (hn : bitsOf w 6 0 = v) (small : (BitVec.ofNat 7 v).toNat = v)
      (plain : w.getLsbD 7 = false) (same : fnS false (BitVec.ofNat 7 v) = b) : w.extractLsb' 0 8 = b :=
    (fn (hn.trans small.symm)).trans (by rw [plain, same])
  unfold decodeAlu at h
  dsimp only at h
  split at h
  case h_13 | h_14 | h_15 | h_16 | h_17 | h_18 =>
    all_goals
      split at h
      · cases h
      · have plain : w.getLsbD 7 = false := by simpa using ‹¬ w.getLsbD 7 = true›
        cases h
        exact ⟨congrArg some (wordA_of_fields (op := 0x00) hop (fnPlain ‹bitsOf w 6 0 = _› rfl plain rfl)), rfl⟩
  all_goals cases h
  all_goals exact ⟨congrArg some (wordA_of_fields (op := 0x00) hop (fn ‹bitsOf w 6 0 = _›)), rfl⟩

/-- A word whose gb must be 0. -/
theorem noGb_eq {k : Instr} (h : noGb w k = some i) : i = k ∧ fldGb w = 0 := by
  unfold noGb at h
  split at h
  · exact ⟨(Option.some.inj h).symm, ‹_›⟩
  · cases h

theorem wordA_noGb {op : BitVec 6} {fn : Byte} (hop : bitsOf w 31 26 = op.toNat) (hfn : bitsOf w 7 0 = fn.toNat)
    (zero : fldGb w = 0) : wordA op (fldGd w) (fldGa w) 0 fn = w := by
  rw [← zero]
  exact wordA_of_fields hop (extract_of_bitsOf (hi := 7) hfn rfl)

theorem decodeQ31_encodes (hop : bitsOf w 31 26 = 0x0C) (h : decodeQ31 c w = some i) : Encodes c i w := by
  unfold decodeQ31 at h
  dsimp only at h
  split at h
  case h_6 | h_7 =>
    all_goals
      obtain ⟨rfl, zero⟩ := noGb_eq h
      exact ⟨congrArg some (wordA_noGb (op := 0x0C) hop ‹bitsOf w 7 0 = _› zero), rfl⟩
  all_goals cases h
  all_goals exact ⟨congrArg some (wordA_of_fields (op := 0x0C) hop (extract_of_bitsOf (hi := 7) ‹bitsOf w 7 0 = _› rfl)), rfl⟩

theorem decodeF32_encodes (hop : bitsOf w 31 26 = 0x0D) (h : decodeF32 c w = some i) : Encodes c i w := by
  unfold decodeF32 at h
  dsimp only at h
  split at h
  case h_7 | h_10 | h_11 | h_16 | h_17 | h_18 | h_19 | h_20 | h_21 =>
    all_goals
      obtain ⟨rfl, zero⟩ := noGb_eq h
      exact ⟨congrArg some (wordA_noGb (op := 0x0D) hop ‹bitsOf w 7 0 = _› zero), rfl⟩
  all_goals cases h
  all_goals exact ⟨congrArg some (wordA_of_fields (op := 0x0D) hop (extract_of_bitsOf (hi := 7) ‹bitsOf w 7 0 = _› rfl)), rfl⟩

theorem decodePoint_encodes {op : Nat} (hop : bitsOf w 31 26 = op) (h : decodePoint c op w = some i) : Encodes c i w := by
  unfold decodePoint at h
  dsimp only at h
  split at h
  case h_10 =>
    cases h
    exact ⟨congrArg some (wordP_of_fields (op := 0x35) hop (by rw [bitsOf_eq, BitVec.ofNat_toNat]; exact (BitVec.setWidth_eq _).symm)), rfl⟩
  all_goals cases h
  all_goals exact ⟨congrArg some (wordP_of_fields hop (extract_of_bitsOf (hi := 19) ‹bitsOf w 19 17 = _› rfl)), rfl⟩

theorem decodeLaw_encodes {op : Nat} (hop : bitsOf w 31 26 = op) (h : decodeLaw c op w = some i) : Encodes c i w := by
  unfold decodeLaw at h
  dsimp only at h
  split at h
  case h_4 =>
    split at h
    case h_4 => cases h
    all_goals cases h
    all_goals exact ⟨congrArg some (wordL_of_fields (op := 0x3B) hop), rfl⟩
  case h_5 =>
    cases h
    refine ⟨congrArg some (wordL_of_fields (op := 0x3C) hop), ?_⟩
    unfold pierOp
    dsimp only
    split <;> rfl
  case h_7 =>
    split at h
    all_goals cases h
    all_goals exact ⟨congrArg some (wordL_of_fields (op := 0x3E) hop), rfl⟩
  case h_8 =>
    split at h
    all_goals cases h
    all_goals exact ⟨congrArg some (wordL_of_fields (op := 0x3F) hop), rfl⟩
  all_goals cases h
  all_goals exact ⟨congrArg some (wordL_of_fields hop), rfl⟩

theorem zeroUnder_some {m : Word} {k : Instr} (lo len : Nat) (h : zeroUnder w m k = some i)
    (hm : ∀ j < 32, m.getLsbD j = (decide (lo ≤ j) && decide (j < lo + len))) (fits : lo + len ≤ 32) :
    i = k ∧ w.extractLsb' lo len = 0 := by
  rw [zeroUnder_eq lo len hm fits] at h
  split at h
  · exact ⟨(Option.some.inj h).symm, ‹_›⟩
  · cases h

theorem fldGd_eq (w : Word) : fldGd w = w.extractLsb' 20 6 := gprOf_eq w 20

theorem fldGa_eq (w : Word) : fldGa w = w.extractLsb' 14 6 := gprOf_eq w 14

theorem fldGb_eq (w : Word) : fldGb w = w.extractLsb' 8 6 := gprOf_eq w 8

/-- A field within low bits that are known. -/
theorem extract_of_low {n lo len : Nat} {x : BitVec n} (h : w.extractLsb' 0 n = x) (within : lo + len ≤ n) :
    w.extractLsb' lo len = x.extractLsb' lo len := by
  rw [← h]
  ext k hk
  simp [show lo + k < n by omega]

theorem extract_of_mod {n v : Nat} (h : w.toNat % 2 ^ n = v) : w.extractLsb' 0 n = BitVec.ofNat n v := by
  apply BitVec.eq_of_toNat_eq
  rw [BitVec.extractLsb'_toNat, BitVec.toNat_ofNat, ← h]
  simp

theorem pierDecodeRaw_encodes (h : pierDecodeRaw c w = some i) : Encodes c i w := by
  unfold pierDecodeRaw at h
  dsimp only at h
  split at h
  case h_1 => exact decodeAlu_encodes ‹_› h
  case h_12 => exact decodeMul_encodes ‹_› h
  case h_13 => exact decodeQ31_encodes ‹_› h
  case h_14 => exact decodeF32_encodes ‹_› h
  case h_6 | h_7 | h_8 =>
    all_goals
      obtain ⟨rfl, zero⟩ := zeroUnder_some 5 9 h (by decide) (by decide)
      exact ⟨congrArg some (wordS_of_fields ‹_› zero), rfl⟩
  case h_11 =>
    obtain ⟨rfl, zero⟩ := zeroUnder_some 16 3 h (by decide) (by decide)
    have word := wordM_of_fields (op := 0x0A) ‹_› rfl zero
    split
    next high => exact ⟨congrArg some (by rw [high] at word; exact word), rfl⟩
    next low => exact ⟨congrArg some (by rw [Bool.eq_false_of_not_eq_true low] at word; exact word), rfl⟩
  case h_21 =>
    obtain ⟨rfl, zero⟩ := zeroUnder_some 14 6 h (by decide) (by decide)
    exact ⟨congrArg some ((congrArg (wordI 0x16 _ · _) ((fldGa_eq w).trans zero).symm).trans (wordI_of_fields ‹_›)), rfl⟩
  case h_22 =>
    obtain ⟨rfl, zero⟩ := zeroUnder_some 0 14 h (by decide) (by decide)
    exact ⟨congrArg some ((congrArg (wordI 0x17 _ _) zero.symm).trans (wordI_of_fields ‹_›)), rfl⟩
  case h_23 =>
    cases h
    exact ⟨congrArg some (wordLoop_of_fields ‹_›), rfl⟩
  case h_24 =>
    obtain ⟨rfl, zero⟩ := zeroUnder_some 8 6 h (by decide) (by decide)
    exact ⟨congrArg some ((congrArg (wordA 0x19 _ _ · _) ((fldGb_eq w).trans zero).symm).trans (wordA_of_fields ‹_› rfl)), rfl⟩
  case h_25 =>
    obtain ⟨rfl, zero⟩ := zeroUnder_some 14 6 h (by decide) (by decide)
    exact ⟨congrArg some ((congrArg (wordI 0x1A _ · _) ((fldGa_eq w).trans zero).symm).trans (wordI_of_fields ‹_›)), rfl⟩
  case h_26 =>
    obtain ⟨rfl, zero⟩ := zeroUnder_some 20 6 h (by decide) (by decide)
    exact ⟨congrArg some ((congrArg (wordI 0x1B · _ _) ((fldGd_eq w).trans zero).symm).trans (wordI_of_fields ‹_›)), rfl⟩
  case h_27 =>
    obtain ⟨rfl, zero⟩ := zeroUnder_some 0 26 h (by decide) (by decide)
    refine ⟨congrArg some (Eq.trans ?_ (wordI_of_fields (op := 0x1C) ‹_›)), rfl⟩
    rw [fldGd_eq, fldGa_eq, fldImm, extract_of_low zero (by decide), extract_of_low zero (by decide), extract_of_low zero (by decide)]
    rfl
  case h_42 =>
    obtain ⟨rfl, zero⟩ := zeroUnder_some 0 8 h (by decide) (by decide)
    exact ⟨congrArg some (wordA_of_fields ‹_› zero), rfl⟩
  case h_45 =>
    split at h
    case h_3 => cases h
    all_goals cases h
    all_goals
      refine ⟨congrArg some (Eq.trans ?_ (wordA_of_fields (op := 0x36) ‹_› rfl)), rfl⟩
      have low := extract_of_mod ‹w.toNat % 2 ^ 20 = _›
      rw [fldGa_eq, fldGb_eq, extract_of_low low (by decide), extract_of_low low (by decide), extract_of_low low (by decide)]
      rfl
  case h_46 =>
    split at h
    case h_3 => cases h
    all_goals cases h
    all_goals
      refine ⟨congrArg some (Eq.trans ?_ (wordA_of_fields (op := 0x37) ‹_› rfl)), rfl⟩
      have low := extract_of_mod ‹w.toNat % 2 ^ 26 = _›
      rw [fldGd_eq, fldGa_eq, fldGb_eq, extract_of_low low (by decide), extract_of_low low (by decide),
        extract_of_low low (by decide), extract_of_low low (by decide)]
      rfl
  case h_47 =>
    split at h
    · exact decodeLaw_encodes rfl h
    · exact decodePoint_encodes rfl h
  all_goals cases h
  all_goals exact ⟨congrArg some (wordI_of_fields ‹_›), rfl⟩

end

end Sys2Proof.Machine
end

section
/-! Decoding the word of an instruction gives the instruction back (R138 to R140). -/

namespace Sys2Proof.Machine

set_option Elab.async false

/-! ### The fields of each format -/

section

variable (op : BitVec 6) (d a b : Gpr)

/-- A field of a word that was put together from fields. -/
theorem bitsOf_of_extract {w : Word} {hi lo : Nat} {x : BitVec (hi + 1 - lo)} (h : w.extractLsb' lo (hi + 1 - lo) = x) :
    bitsOf w hi lo = x.toNat := by
  rw [bitsOf_eq, h]

theorem extract_wordA (fn : Byte) :
    (wordA op d a b fn).extractLsb' 26 6 = op ∧ (wordA op d a b fn).extractLsb' 20 6 = d ∧
      (wordA op d a b fn).extractLsb' 14 6 = a ∧ (wordA op d a b fn).extractLsb' 8 6 = b ∧
      (wordA op d a b fn).extractLsb' 0 8 = fn := by
  unfold wordA
  simp (disch := decide) only [BitVec.extractLsb'_append_eq_of_le, BitVec.extractLsb'_append_eq_of_add_le,
    BitVec.extractLsb'_eq_self, Nat.reduceSub, and_self]

theorem extract_wordI (i : BitVec 14) :
    (wordI op d a i).extractLsb' 26 6 = op ∧ (wordI op d a i).extractLsb' 20 6 = d ∧
      (wordI op d a i).extractLsb' 14 6 = a ∧ (wordI op d a i).extractLsb' 0 14 = i := by
  unfold wordI
  simp (disch := decide) only [BitVec.extractLsb'_append_eq_of_le, BitVec.extractLsb'_append_eq_of_add_le,
    BitVec.extractLsb'_eq_self, Nat.reduceSub, and_self]

theorem extract_wordS (sh : BitVec 5) :
    (wordS op d a sh).extractLsb' 26 6 = op ∧ (wordS op d a sh).extractLsb' 20 6 = d ∧
      (wordS op d a sh).extractLsb' 14 6 = a ∧ (wordS op d a sh).extractLsb' 5 9 = 0 ∧ (wordS op d a sh).extractLsb' 0 5 = sh := by
  unfold wordS
  simp (disch := decide) only [BitVec.extractLsb'_append_eq_of_le, BitVec.extractLsb'_append_eq_of_add_le,
    BitVec.extractLsb'_eq_self, Nat.reduceSub, and_self]

theorem extract_wordP (q : BitVec 3) (p : PtNum) :
    (wordP op d q p).extractLsb' 26 6 = op ∧ (wordP op d q p).extractLsb' 20 6 = d ∧
      (wordP op d q p).extractLsb' 17 3 = q ∧ (wordP op d q p).extractLsb' 0 17 = p := by
  unfold wordP
  simp (disch := decide) only [BitVec.extractLsb'_append_eq_of_le, BitVec.extractLsb'_append_eq_of_add_le,
    BitVec.extractLsb'_eq_self, Nat.reduceSub, and_self]

theorem extract_wordL (l : BitVec 14) (m : BitVec 6) :
    (wordL op d l m).extractLsb' 26 6 = op ∧ (wordL op d l m).extractLsb' 20 6 = d ∧
      (wordL op d l m).extractLsb' 6 14 = l ∧ (wordL op d l m).extractLsb' 0 6 = m := by
  unfold wordL
  simp (disch := decide) only [BitVec.extractLsb'_append_eq_of_le, BitVec.extractLsb'_append_eq_of_add_le,
    BitVec.extractLsb'_eq_self, Nat.reduceSub, and_self]

theorem extract_wordM (h : Bool) (i : BitVec 16) :
    (wordM h d i).extractLsb' 26 6 = 0x0A ∧ (wordM h d i).extractLsb' 20 6 = d ∧ (wordM h d i).getLsbD 19 = h ∧
      (wordM h d i).extractLsb' 16 3 = 0 ∧ (wordM h d i).extractLsb' 0 16 = i := by
  have bit : (wordM h d i).extractLsb' 19 1 = BitVec.ofBool h := by
    unfold wordM
    simp (disch := decide) only [BitVec.extractLsb'_append_eq_of_le, BitVec.extractLsb'_append_eq_of_add_le,
      BitVec.extractLsb'_eq_self, Nat.reduceSub]
  have bit' : (wordM h d i).getLsbD 19 = h := by
    have := congrArg (fun x : BitVec 1 => x.getLsbD 0) bit
    simpa using this
  refine ⟨?_, ?_, bit', ?_, ?_⟩
  all_goals
    unfold wordM
    simp (disch := decide) only [BitVec.extractLsb'_append_eq_of_le, BitVec.extractLsb'_append_eq_of_add_le,
      BitVec.extractLsb'_eq_self, Nat.reduceSub]

end

/-! ### The discriminants of the decoder -/

theorem opOf_eq (w : Word) : bitsOf w 31 26 = (w.extractLsb' 26 6).toNat := bitsOf_eq w 31 26

theorem fnOf_eq (w : Word) : bitsOf w 7 0 = (w.extractLsb' 0 8).toNat := bitsOf_eq w 7 0

theorem qOf_eq (w : Word) : bitsOf w 19 17 = (w.extractLsb' 17 3).toNat := bitsOf_eq w 19 17

/-- The function number below the S bit. -/
theorem codeOf_eq (w : Word) : bitsOf w 6 0 = (w.extractLsb' 0 7).toNat := bitsOf_eq w 6 0

theorem extract_fnS (op : BitVec 6) (d a b : Gpr) (s : Bool) (fn : BitVec 7) :
    (wordA op d a b (fnS s fn)).extractLsb' 0 7 = fn ∧ (wordA op d a b (fnS s fn)).getLsbD 7 = s := by
  have top : (wordA op d a b (fnS s fn)).extractLsb' 7 1 = BitVec.ofBool s := by
    unfold wordA fnS
    simp (disch := decide) only [BitVec.extractLsb'_append_eq_of_le, BitVec.extractLsb'_append_eq_of_add_le,
      BitVec.extractLsb'_eq_self, Nat.reduceSub]
  refine ⟨?_, by simpa using congrArg (fun x : BitVec 1 => x.getLsbD 0) top⟩
  unfold wordA fnS
  simp (disch := decide) only [BitVec.extractLsb'_append_eq_of_add_le, BitVec.extractLsb'_eq_self]

theorem zeroUnder_of_zero {w m : Word} {i : Instr} (lo len : Nat) (zero : w.extractLsb' lo len = 0)
    (hm : ∀ k < 32, m.getLsbD k = (decide (lo ≤ k) && decide (k < lo + len))) (fits : lo + len ≤ 32) :
    zeroUnder w m i = some i := by
  rw [zeroUnder_eq lo len hm fits, if_pos zero]

/-! ### Each format -/

section

variable {c : CoreId} {op : BitVec 6} {d a b : Gpr}

/-- An instruction of format I without a field that must be 0. -/
theorem decode_wordI {i : BitVec 14} {k : Gpr → Gpr → BitVec 14 → Instr}
    (raw : ∀ w, bitsOf w 31 26 = op.toNat → pierDecodeRaw c w = some (k (fldGd w) (fldGa w) (fldImm w))) :
    pierDecodeRaw c (wordI op d a i) = some (k d a i) := by
  obtain ⟨hop, hd, ha, hi⟩ := extract_wordI op d a i
  rw [raw _ ((opOf_eq _).trans (congrArg _ hop)), fldGd_eq, fldGa_eq, fldImm, hd, ha, hi]

/-- A load of format I: no word says what its access finds in the ECC. -/
theorem decode_load {i : BitVec 14} {k : Gpr → Gpr → BitVec 14 → Ecc → Instr}
    (raw : ∀ w, bitsOf w 31 26 = op.toNat → pierDecodeRaw c w = some (k (fldGd w) (fldGa w) (fldImm w) .ok)) :
    pierDecodeRaw c (wordI op d a i) = some (k d a i .ok) :=
  decode_wordI (k := fun d a i => k d a i .ok) raw

/-- An instruction of format A by its function byte. -/
theorem decode_wordA {fn : Byte} {k : Gpr → Gpr → Gpr → Instr}
    (raw : ∀ w, bitsOf w 31 26 = op.toNat → bitsOf w 7 0 = fn.toNat →
      pierDecodeRaw c w = some (k (fldGd w) (fldGa w) (fldGb w))) : pierDecodeRaw c (wordA op d a b fn) = some (k d a b) := by
  obtain ⟨hop, hd, ha, hb, hfn⟩ := extract_wordA op d a b fn
  rw [raw _ ((opOf_eq _).trans (congrArg _ hop)) ((fnOf_eq _).trans (congrArg _ hfn)), fldGd_eq, fldGa_eq, fldGb_eq, hd, ha, hb]

/-- An instruction of format A whose gb is 0. -/
theorem decode_noGb {fn : Byte} {k : Gpr → Gpr → Instr}
    (raw : ∀ w, bitsOf w 31 26 = op.toNat → bitsOf w 7 0 = fn.toNat →
      pierDecodeRaw c w = noGb w (k (fldGd w) (fldGa w))) : pierDecodeRaw c (wordA op d a 0 fn) = some (k d a) := by
  obtain ⟨hop, hd, ha, hb, hfn⟩ := extract_wordA op d a 0 fn
  rw [raw _ ((opOf_eq _).trans (congrArg _ hop)) ((fnOf_eq _).trans (congrArg _ hfn)), fldGd_eq, fldGa_eq, hd, ha, noGb,
    fldGb_eq, hb, if_pos rfl]

/-- An instruction of the ALU group, with its S bit. -/
theorem decode_alu {s : Bool} {fn : BitVec 7} {k : Gpr → Gpr → Gpr → Bool → Option Instr}
    (raw : ∀ w, bitsOf w 6 0 = fn.toNat → decodeAlu c w = k (fldGd w) (fldGa w) (fldGb w) (w.getLsbD 7)) :
    pierDecodeRaw c (wordA 0x00 d a b (fnS s fn)) = k d a b s := by
  obtain ⟨hop, hd, ha, hb, hfn⟩ := extract_wordA 0x00 d a b (fnS s fn)
  obtain ⟨code, flag⟩ := extract_fnS 0x00 d a b s fn
  have alu : pierDecodeRaw c (wordA 0x00 d a b (fnS s fn)) = decodeAlu c (wordA 0x00 d a b (fnS s fn)) := by
    unfold pierDecodeRaw
    rw [opOf_eq, hop]
    rfl
  rw [alu, raw _ ((codeOf_eq _).trans (congrArg _ code)), fldGd_eq, fldGa_eq, fldGb_eq, hd, ha, hb, flag]

/-- A point instruction by its q. -/
theorem decode_wordP {q : BitVec 3} {p : PtNum} {k : Gpr → PtNum → Instr}
    (raw : ∀ w, bitsOf w 31 26 = op.toNat → bitsOf w 19 17 = q.toNat →
      pierDecodeRaw c w = some (k (fldGd w) (w.extractLsb' 0 17))) : pierDecodeRaw c (wordP op d q p) = some (k d p) := by
  obtain ⟨hop, hd, hq, hp⟩ := extract_wordP op d q p
  rw [raw _ ((opOf_eq _).trans (congrArg _ hop)) ((qOf_eq _).trans (congrArg _ hq)), fldGd_eq, hd, hp]

/-- A loop-law instruction by its mode. -/
theorem decode_wordL {l : BitVec 14} {m : BitVec 6} {k : Gpr → BitVec 14 → BitVec 6 → Instr}
    (raw : ∀ w, bitsOf w 31 26 = op.toNat → w.extractLsb' 0 6 = m →
      pierDecodeRaw c w = some (k (fldGd w) (w.extractLsb' 6 14) (w.extractLsb' 0 6))) :
    pierDecodeRaw c (wordL op d l m) = some (k d l m) := by
  obtain ⟨hop, hd, hl, hm⟩ := extract_wordL op d l m
  rw [raw _ ((opOf_eq _).trans (congrArg _ hop)) hm, fldGd_eq, hd, hl, hm]

theorem decode_wordS {sh : BitVec 5} {k : Gpr → Gpr → BitVec 5 → Instr}
    (raw : ∀ w, bitsOf w 31 26 = op.toNat →
      pierDecodeRaw c w = zeroUnder w 0x3FE0 (k (fldGd w) (fldGa w) (w.extractLsb' 0 5))) :
    pierDecodeRaw c (wordS op d a sh) = some (k d a sh) := by
  obtain ⟨hop, hd, ha, zero, hs⟩ := extract_wordS op d a sh
  rw [raw _ ((opOf_eq _).trans (congrArg _ hop)), zeroUnder_of_zero 5 9 zero (by decide) (by decide), fldGd_eq, fldGa_eq,
    hd, ha, hs]

end

/-! ### Each group -/

section

variable {c : CoreId} {w : Word}

theorem decode_of_mul (hop : bitsOf w 31 26 = 0x0B) : pierDecodeRaw c w = decodeMul c w := by
  unfold pierDecodeRaw
  rw [hop]
  rfl

theorem decode_of_q31 (hop : bitsOf w 31 26 = 0x0C) : pierDecodeRaw c w = decodeQ31 c w := by
  unfold pierDecodeRaw
  rw [hop]
  rfl

theorem decode_of_f32 (hop : bitsOf w 31 26 = 0x0D) : pierDecodeRaw c w = decodeF32 c w := by
  unfold pierDecodeRaw
  rw [hop]
  rfl

/-- The opcodes of the point instructions and of the loop laws. -/
theorem decode_of_point {op : Nat} (hop : bitsOf w 31 26 = op) (range : op ∈ [0x31, 0x32, 0x33, 0x34, 0x35]) :
    pierDecodeRaw c w = decodePoint c op w := by
  unfold pierDecodeRaw
  simp only [List.mem_cons, List.not_mem_nil, or_false] at range
  rcases range with rfl | rfl | rfl | rfl | rfl <;> rw [hop] <;> rfl

theorem decode_of_law {op : Nat} (hop : bitsOf w 31 26 = op)
    (range : op ∈ [0x38, 0x39, 0x3A, 0x3B, 0x3C, 0x3D, 0x3E, 0x3F]) : pierDecodeRaw c w = decodeLaw c op w := by
  unfold pierDecodeRaw
  simp only [List.mem_cons, List.not_mem_nil, or_false] at range
  rcases range with rfl | rfl | rfl | rfl | rfl | rfl | rfl | rfl <;> rw [hop] <;> rfl

end

/-! ### Each instruction -/

section

variable {c : CoreId} {op : BitVec 6} {d a b : Gpr}

/-- An instruction of the ALU group that has no S bit. -/
theorem decode_aluPlain {fn8 : Byte} {k : Gpr → Gpr → Gpr → Instr} (same : fn8 = fnS false (fn8.setWidth 7))
    (raw : ∀ w, bitsOf w 6 0 = (fn8.setWidth 7).toNat →
      decodeAlu c w = if w.getLsbD 7 then none else some (k (fldGd w) (fldGa w) (fldGb w))) :
    pierDecodeRaw c (wordA 0x00 d a b fn8) = some (k d a b) := by
  rw [same, decode_alu (k := fun d a b s => if s then none else some (k d a b)) raw]
  rfl

theorem decode_wordM {h : Bool} {i : BitVec 16} :
    pierDecodeRaw c (wordM h d i) = some (if h then .imh c d i else .iml c d i) := by
  obtain ⟨hop, hd, hh, zero, hi⟩ := extract_wordM d h i
  have raw : pierDecodeRaw c (wordM h d i) = zeroUnder (wordM h d i) 0x00070000
      (if (wordM h d i).getLsbD 19 then .imh c (fldGd (wordM h d i)) ((wordM h d i).extractLsb' 0 16)
        else .iml c (fldGd (wordM h d i)) ((wordM h d i).extractLsb' 0 16)) := by
    unfold pierDecodeRaw
    rw [opOf_eq, hop]
    rfl
  rw [raw, zeroUnder_of_zero 16 3 zero (by decide) (by decide), fldGd_eq, hd, hh, hi]

/-- An instruction of format I whose ga is 0. -/
theorem decode_noGa {i : BitVec 14} {k : Gpr → BitVec 14 → Instr}
    (raw : ∀ w, bitsOf w 31 26 = op.toNat → pierDecodeRaw c w = zeroUnder w 0x000FC000 (k (fldGd w) (fldImm w))) :
    pierDecodeRaw c (wordI op d 0 i) = some (k d i) := by
  obtain ⟨hop, hd, ha, hi⟩ := extract_wordI op d 0 i
  rw [raw _ ((opOf_eq _).trans (congrArg _ hop)), zeroUnder_of_zero 14 6 ha (by decide) (by decide), fldGd_eq, fldImm, hd, hi]

theorem decode_jmpr : pierDecodeRaw c (wordI 0x17 d a 0) = some (.jmpr c d a) := by
  obtain ⟨hop, hd, ha, hi⟩ := extract_wordI 0x17 d a 0
  have raw (w : Word) (h : bitsOf w 31 26 = 0x17) :
      pierDecodeRaw c w = zeroUnder w 0x00003FFF (.jmpr c (fldGd w) (fldGa w)) := by
    unfold pierDecodeRaw
    rw [h]
    rfl
  rw [raw _ ((opOf_eq _).trans (congrArg _ hop)), zeroUnder_of_zero 0 14 hi (by decide) (by decide), fldGd_eq, fldGa_eq, hd, ha]

theorem decode_csrw {i : BitVec 14} : pierDecodeRaw c (wordI 0x1B 0 a i) = some (.csrw c a i) := by
  obtain ⟨hop, hd, ha, hi⟩ := extract_wordI 0x1B 0 a i
  have raw (w : Word) (h : bitsOf w 31 26 = 0x1B) :
      pierDecodeRaw c w = zeroUnder w 0x03F00000 (.csrw c (fldGa w) (fldImm w)) := by
    unfold pierDecodeRaw
    rw [h]
    rfl
  rw [raw _ ((opOf_eq _).trans (congrArg _ hop)), zeroUnder_of_zero 20 6 hd (by decide) (by decide), fldGa_eq, fldImm, ha, hi]

theorem decode_trapA : pierDecodeRaw c (wordI 0x1C 0 0 0) = some (.trapA c) := rfl

theorem decode_loopA {n : BitVec 10} {body : BitVec 16} :
    pierDecodeRaw c ((0x18 : BitVec 6) ++ n ++ body) = some (.loopA c n body) := by
  have hop : ((0x18 : BitVec 6) ++ n ++ body).extractLsb' 26 6 = 0x18 := by
    simp (disch := decide) only [BitVec.extractLsb'_append_eq_of_le, BitVec.extractLsb'_eq_self, Nat.reduceSub]
  have hn : ((0x18 : BitVec 6) ++ n ++ body).extractLsb' 16 10 = n := by
    simp (disch := decide) only [BitVec.extractLsb'_append_eq_of_le, BitVec.extractLsb'_append_eq_of_add_le,
      BitVec.extractLsb'_eq_self, Nat.reduceSub]
  have hb : ((0x18 : BitVec 6) ++ n ++ body).extractLsb' 0 16 = body := by
    simp (disch := decide) only [BitVec.extractLsb'_append_eq_of_add_le, BitVec.extractLsb'_eq_self]
  have raw (w : Word) (h : bitsOf w 31 26 = 0x18) :
      pierDecodeRaw c w = some (.loopA c (w.extractLsb' 16 10) (w.extractLsb' 0 16)) := by
    unfold pierDecodeRaw
    rw [h]
    rfl
  rw [raw _ ((opOf_eq _).trans (congrArg _ hop)), hn, hb]

theorem decode_evt {code : Byte} : pierDecodeRaw c (wordA 0x19 d a 0 code) = some (.evt c d a code) := by
  obtain ⟨hop, hd, ha, hb, hfn⟩ := extract_wordA 0x19 d a 0 code
  have raw (w : Word) (h : bitsOf w 31 26 = 0x19) :
      pierDecodeRaw c w = zeroUnder w 0x00003F00 (.evt c (fldGd w) (fldGa w) (w.extractLsb' 0 8)) := by
    unfold pierDecodeRaw
    rw [h]
    rfl
  rw [raw _ ((opOf_eq _).trans (congrArg _ hop)), zeroUnder_of_zero 8 6 hb (by decide) (by decide), fldGd_eq, fldGa_eq,
    hd, ha, hfn]

theorem decode_dcas : pierDecodeRaw c (wordA 0x2E d a b 0x00) = some (.dcas c d a b .ok) := by
  obtain ⟨hop, hd, ha, hb, hfn⟩ := extract_wordA 0x2E d a b 0x00
  have raw (w : Word) (h : bitsOf w 31 26 = 0x2E) :
      pierDecodeRaw c w = zeroUnder w 0x000000FF (.dcas c (fldGd w) (fldGa w) (fldGb w) .ok) := by
    unfold pierDecodeRaw
    rw [h]
    rfl
  rw [raw _ ((opOf_eq _).trans (congrArg _ hop)), zeroUnder_of_zero 0 8 hfn (by decide) (by decide), fldGd_eq, fldGa_eq,
    fldGb_eq, hd, ha, hb]

/-- TGET and KGET by the twenty bits below gd. -/
theorem decode_time {fn : Byte} {k : Gpr → Instr}
    (raw : ∀ w, bitsOf w 31 26 = 0x36 → w.toNat % 2 ^ 20 = fn.toNat → pierDecodeRaw c w = some (k (fldGd w))) :
    pierDecodeRaw c (wordA 0x36 d 0 0 fn) = some (k d) := by
  obtain ⟨hop, hd, -⟩ := extract_wordA 0x36 d 0 0 fn
  have low : (wordA 0x36 d 0 0 fn).toNat % 2 ^ 20 = fn.toNat := by
    have hfn := fn.isLt
    simp only [wordA, BitVec.toNat_append, ← Nat.shiftLeft_add_eq_or_of_lt (BitVec.isLt _)]
    simp only [Nat.shiftLeft_eq, BitVec.ofNat_eq_ofNat, BitVec.toNat_ofNat]
    omega
  rw [raw _ ((opOf_eq _).trans (congrArg _ hop)) low, fldGd_eq, hd]

theorem decode_pstq {q : BitVec 3} {p : PtNum} : pierDecodeRaw c (wordP 0x35 d q p) = some (.pstq c d p q) := by
  obtain ⟨hop, hd, hq, hp⟩ := extract_wordP 0x35 d q p
  have raw (w : Word) (h : bitsOf w 31 26 = 0x35) :
      pierDecodeRaw c w = some (.pstq c (fldGd w) (w.extractLsb' 0 17) (BitVec.ofNat 3 (bitsOf w 19 17))) :=
    (decode_of_point h (by decide)).trans (by unfold decodePoint; generalize bitsOf w 19 17 = q; rfl)
  rw [raw _ ((opOf_eq _).trans (congrArg _ hop)), qOf_eq, fldGd_eq, hd, hp, hq, BitVec.ofNat_toNat, BitVec.setWidth_eq]

theorem decode_yieldA : pierDecodeRaw c (wordA 0x37 0 0 0 0x00) = some (.yieldA c) := rfl

theorem decode_fence : pierDecodeRaw c (wordA 0x37 0 0 0 0x01) = some (.fence c) := rfl

end

/-- Instruction `i` has a word, which decodes to it on the core it names (R140). -/
def Decodes (i : Instr) (core : Nat) : Prop :=
  ∃ w, pierEncode i = some w ∧ ∀ c : CoreId, core = c.val → pierDecodeRaw c w = some (eccFree i)

theorem decodes_of {i : Instr} {w : Word} {c : CoreId} (enc : pierEncode i = some w)
    (dec : pierDecodeRaw c w = some (eccFree i)) : Decodes i c.val :=
  ⟨w, enc, fun c' hc => by rwa [← Fin.ext hc]⟩

/-- The mode bits that choose an instruction are among those that its figures require. -/
theorem mode_of_legal {c : CoreId} {gd : Gpr} {mode : BitVec 6} {bits mask m k w : Nat} {reads : Bool}
    (h : (opLaw c gd mode bits mask m k w reads).legal = true) : mode.toNat &&& mask = m := by
  simp only [opLaw, Bool.and_eq_true, beq_iff_eq] at h
  exact h.2

theorem mode_low {mode : BitVec 6} {m : Nat} (h : mode.toNat &&& 1 = m) : mode.getLsbD 0 = decide (m = 1) := by
  rw [← h, BitVec.getLsbD, Nat.testBit_zero, Nat.and_one_is_mod]

theorem mode_pair {mode : BitVec 6} {m : Nat} (h : mode.toNat &&& 3 = m) : mode.toNat % 4 = m := by
  rw [← h]
  exact (Nat.and_two_pow_sub_one_eq_mod _ 2).symm

/-- A listed instruction has a word, which decodes to it (R140). -/
theorem decode_encode {i : Instr} {o : PierOp} (h : pierOp i = some o) (legal : o.legal = true) : Decodes i o.core := by
  cases i
  all_goals cases h
  case swapkStatus | swapkArm | swapkCancel =>
    all_goals
      exact decodes_of rfl (decode_wordL fun w hop hm => (decode_of_law hop (by decide)).trans (by
        unfold decodeLaw
        rw [hm]
        dsimp only
        rw [mode_pair (mode_of_legal legal)]
        rfl))
  case intg | intgLoad | prime | primeFetch =>
    all_goals
      exact decodes_of rfl (decode_wordL fun w hop hm => (decode_of_law hop (by decide)).trans (by
        unfold decodeLaw
        rw [hm]
        dsimp only
        rw [mode_low (mode_of_legal legal)]
        rfl))
  case clampw c gd loop mode =>
    rw [show ∀ k : PierOp, (if mode.getLsbD 0 then { k with writes := regGroup gd 2, legal := k.legal && groupOk gd 2 } else k).core = k.core from
      fun k => by split <;> rfl]
    exact decodes_of rfl (decode_wordL fun w hop _ => (decode_of_law hop (by decide)).trans rfl)
  all_goals
    refine decodes_of rfl ?_
    dsimp only [eccFree]
  case add | sub | adc | sbc | andA | orA | xorA | andn | shl | shr | sar | ror =>
    all_goals exact decode_alu (k := fun d a b s => some _) fun w hfn => by unfold decodeAlu; rw [hfn]; rfl
  case lts | ltu | minA | maxA | minu | maxu =>
    all_goals exact decode_aluPlain rfl fun w hfn => by unfold decodeAlu; rw [hfn]; rfl
  case mulA | mulhs | mulhu | mulp | mulpu | divA | divu | divm | divmu =>
    all_goals exact decode_wordA fun w hop hfn => (decode_of_mul hop).trans (by unfold decodeMul; rw [hfn]; rfl)
  case qadd | qsub | qmul | qmac | qmsu | qshl =>
    all_goals exact decode_wordA fun w hop hfn => (decode_of_q31 hop).trans (by unfold decodeQ31; rw [hfn]; rfl)
  case qneg | qabs =>
    all_goals exact decode_noGb fun w hop hfn => (decode_of_q31 hop).trans (by unfold decodeQ31; rw [hfn]; rfl)
  case fadd | fsub | fmul | fma | fms | fdiv | fmin | fmax | fceq | fclt | fcle | fcun =>
    all_goals exact decode_wordA fun w hop hfn => (decode_of_f32 hop).trans (by unfold decodeF32; rw [hfn]; rfl)
  case fsqrt | fabs | fneg | itof | utof | qtof | ftoi | ftou | ftoq =>
    all_goals exact decode_noGb fun w hop hfn => (decode_of_f32 hop).trans (by unfold decodeF32; rw [hfn]; rfl)
  case iml | imh => all_goals exact decode_wordM
  case shli | shri | sari =>
    all_goals exact decode_wordS fun w hop => by unfold pierDecodeRaw; rw [hop]; rfl
  case call | csrr =>
    all_goals exact decode_noGa fun w hop => by unfold pierDecodeRaw; rw [hop]; rfl
  case csrw => exact decode_csrw
  case jmpr => exact decode_jmpr
  case trapA => exact decode_trapA
  case loopA => exact decode_loopA
  case evt => exact decode_evt
  case dcas => exact decode_dcas
  case yieldA => exact decode_yieldA
  case fence => exact decode_fence
  case tget | kget =>
    all_goals exact decode_time fun w hop low => by unfold pierDecodeRaw; rw [hop]; dsimp only; rw [low]; rfl
  case pstq => exact decode_pstq
  case pld | pldP | pldR | pldX | pldN | pldNp | pst | pstX | pq =>
    all_goals exact decode_wordP fun w hop hq =>
      (decode_of_point hop (by decide)).trans (by unfold decodePoint; rw [hq]; rfl)
  case pids | biq | casc | rate =>
    all_goals exact decode_wordL fun w hop _ =>
      (decode_of_law hop (by decide)).trans rfl
  case lw | lh | lhu | lb | lbu | dlw | dlq | dll =>
    all_goals exact decode_load fun w hop => by unfold pierDecodeRaw; rw [hop]; rfl
  all_goals exact decode_wordI fun w hop => by unfold pierDecodeRaw; rw [hop]; rfl

/-- A listed instruction is well formed exactly when its figures are legal (R138, R140). -/
theorem wellFormed_listed {i : Instr} {o : PierOp} (h : pierOp i = some o) : wellFormed i = o.legal := by
  unfold wellFormed
  split
  case h_11 => rw [h]; rfl
  all_goals cases h

/-- What an access finds in the ECC is no part of the figures. -/
theorem pierOp_eccFree (i : Instr) : pierOp (eccFree i) = pierOp i := by
  unfold eccFree
  split <;> rfl

theorem pierDecode_of_raw {c : CoreId} {w : Word} {i : Instr} {o : PierOp} (raw : pierDecodeRaw c w = some i)
    (listed : pierOp i = some o) (legal : o.legal = true) : pierDecode c w = some i := by
  rw [pierDecode, raw, Option.filter_some, listed, if_pos (by simpa using legal)]

theorem raw_of_pierDecode {c : CoreId} {w : Word} {i : Instr} (h : pierDecode c w = some i) :
    pierDecodeRaw c w = some i ∧ ((pierOp i).map (·.legal)).getD false = true := by
  rw [pierDecode, Option.filter_eq_some_iff] at h
  exact h

/-- Every listed instruction has a code word (R138). -/
theorem encode_listed {i : Instr} {o : PierOp} (h : pierOp i = some o) : ∃ w, pierEncode i = some w := by
  cases i
  all_goals cases h
  all_goals exact ⟨_, rfl⟩

end Sys2Proof.Machine

namespace Sys2Proof

open Machine

/-- Settles O6: each format's fields are read back from the word, and the decoder's discriminants find the instruction. -/
theorem decodeOfEncode : Obligations.DecodeOfEncode := by
  unfold Obligations.DecodeOfEncode
  intro i o c listed hc wf
  have legal : o.legal = true := (wellFormed_listed listed).symm.trans wf
  obtain ⟨w, enc, dec⟩ := decode_encode listed legal
  exact ⟨w, enc, pierDecode_of_raw (dec c hc) ((pierOp_eccFree i).trans listed) legal⟩

/-- Settles O7: what the raw decoder accepts encodes back to its word, and the filter keeps only what is legal. -/
theorem encodeOfDecode : Obligations.EncodeOfDecode := by
  unfold Obligations.EncodeOfDecode
  refine ⟨fun i w c h => ?_, fun i o listed _ => encode_listed listed⟩
  obtain ⟨raw, legal⟩ := raw_of_pierDecode h
  obtain ⟨enc, core⟩ := pierDecodeRaw_encodes raw
  obtain ⟨o, listed⟩ : ∃ o, pierOp i = some o := by
    cases hp : pierOp i with
    | none => rw [hp] at core; cases core
    | some o => exact ⟨o, rfl⟩
  rw [listed] at legal
  exact ⟨enc, (wellFormed_listed listed).trans legal, core⟩

end Sys2Proof
end

section
/-! What every operation of the model keeps: the commands that wait, and the canonical form of the memories (R465). One rule per
operation; the rule of an operation that calls others is the chain of theirs. -/

namespace Sys2Proof.Machine

set_option Elab.async false

/-- How much is kept: the queue and the form of the memories; the clock of the span as well; the whole record of the span and
its length as well. -/
inductive Extent where
  | memory | clock | span

/-- The whole record of the span is to be kept. -/
def Extent.wholeSpan : Extent → Bool
  | .span => true
  | _ => false

/-- The register fields of the span that only its own instants write. -/
def clockFlds : List Fld := [F.SPAN_STAT_WINDOW, F.SPAN_CTL_RUN, F.SPAN_BEAR_STAT_ALIGN_ERR]

/-- No occurrence of `f` is the length of the span or one of the fields of the clock: `f` lies above them, or beside each of them. -/
def Fld.offClock (f : Fld) : Bool :=
  Nat.blt F.SPAN_BEAR_STAT_ALIGN_ERR.base f.base || (F.SPAN_STAT_CUR_SEL :: clockFlds).all fun g => f.apart g

/-- `t` stands in the same cycle of the same span as `s`, in the same window. -/
structure SameClock (s t : State) : Prop where
  frame : t.span.frame = s.span.frame
  phase : t.span.phase = s.span.phase
  rd : ∀ f ∈ clockFlds, t.rd f = s.rd f
  waiting : t.port.waiting = s.port.waiting

/-- `t` holds the commands that wait in `s`, and its memories in canonical form where `s` does; and what `ex` names beyond that. -/
structure Keeps (ex : Extent) (s t : State) : Prop where
  pending : t.pending = s.pending
  form : s.memoryWf = true → t.memoryWf = true
  clock : ex ≠ .memory → SameClock s t
  span : ex = .span → t.span = s.span ∧ t.sel = s.sel

/-- A command completes, in a state that keeps what `s` holds. -/
def Ends (ex : Extent) (s : State) : Out → Prop
  | .next t => Keeps ex s t
  | _ => False

/-- The state, if any, that an instruction's own effect leaves keeps what `s` holds. -/
def Fine (ex : Extent) (s : State) : PierRes → Prop
  | .next t | .jump t _ | .deckUe t | .owner t | .yield t => Keeps ex s t
  | _ => True

variable {ex : Extent} {s u v : State} {α : Type}

theorem SameClock.rfl : SameClock s s := ⟨Eq.refl _, Eq.refl _, fun _ _ => Eq.refl _, Eq.refl _⟩

theorem SameClock.trans (h : SameClock s u) (hv : SameClock u v) : SameClock s v :=
  ⟨hv.frame.trans h.frame, hv.phase.trans h.phase, fun f hf => (hv.rd f hf).trans (h.rd f hf), hv.waiting.trans h.waiting⟩

theorem Keeps.rfl : Keeps ex s s := ⟨Eq.refl _, id, fun _ => .rfl, fun _ => ⟨Eq.refl _, Eq.refl _⟩⟩

theorem Keeps.trans (h : Keeps ex s u) (hv : Keeps ex u v) : Keeps ex s v :=
  ⟨hv.pending.trans h.pending, hv.form ∘ h.form, fun he => (h.clock he).trans (hv.clock he),
    fun he => ⟨(hv.span he).1.trans (h.span he).1, (hv.span he).2.trans (h.span he).2⟩⟩

/-- An update of any fields but the queue, the deck, the piers, the registers, the span and the ports. -/
theorem Keeps.same {pts conv sens sol mot fan meter twin tre keep evr health power posted resp busHeld dbg freeCtr}
    (h : Keeps ex s u) :
    Keeps ex s ⟨u.pending, u.rf, u.deck, u.span, pts, u.pier, conv, sens, sol, mot, fan, meter, twin, tre, keep, evr, health,
      power, u.port, posted, resp, busHeld, dbg, freeCtr⟩ :=
  ⟨h.pending, h.form, fun he => (h.clock he).trans ⟨Eq.refl _, Eq.refl _, fun _ _ => Eq.refl _, Eq.refl _⟩, h.span⟩

/-- An update of the ports that leaves the requests that wait alone. -/
theorem Keeps.ports {pts conv sens sol mot fan meter twin tre keep evr health power port posted resp busHeld dbg freeCtr}
    (h : Keeps ex s u) (waiting : port.waiting = u.port.waiting := by rfl) :
    Keeps ex s ⟨u.pending, u.rf, u.deck, u.span, pts, u.pier, conv, sens, sol, mot, fan, meter, twin, tre, keep, evr, health,
      power, port, posted, resp, busHeld, dbg, freeCtr⟩ :=
  ⟨h.pending, h.form, fun he => (h.clock he).trans ⟨Eq.refl _, Eq.refl _, fun _ _ => Eq.refl _, waiting⟩, h.span⟩

/-- An update of any fields but the queue, the deck and the piers. -/
theorem Keeps.rest
    {rf span pts conv sens sol mot fan meter twin tre keep evr health power port posted resp busHeld dbg freeCtr}
    (h : Keeps .memory s u) :
    Keeps .memory s ⟨u.pending, rf, u.deck, span, pts, u.pier, conv, sens, sol, mot, fan, meter, twin, tre, keep, evr, health,
      power, port, posted, resp, busHeld, dbg, freeCtr⟩ :=
  ⟨h.pending, h.form, fun he => absurd (Eq.refl _) he, nofun⟩

/-- A write of any register field. -/
theorem Keeps.wrAny {f v i j} (h : Keeps .memory s u) : Keeps .memory s (u.wr f v i j) := h.rest

/-- An update of the span's record, and of the ring's, in the same cycle of the same span. -/
theorem Keeps.inSpan {span tre} (h : Keeps ex s u) (part : ex.wholeSpan = false := by trivial)
    (frame : span.frame = u.span.frame := by rfl) (phase : span.phase = u.span.phase := by rfl) :
    Keeps ex s { u with span := span, tre := tre } :=
  ⟨h.pending, h.form, fun he => (h.clock he).trans ⟨frame, phase, fun _ _ => Eq.refl _, Eq.refl _⟩,
    fun whole => absurd (whole ▸ part) nofun⟩

/-- The queue and the memories alone. -/
theorem Keeps.memory (h : Keeps ex s u) : Keeps .memory s u := ⟨h.pending, h.form, fun he => absurd (Eq.refl _) he, nofun⟩

/-- Where the span's record is kept, so is the clock. -/
theorem Keeps.timed (h : Keeps .span s u) : Keeps .clock s u := ⟨h.pending, h.form, fun _ => h.clock nofun, nofun⟩

/-- An update of the deck and the piers that keeps the canonical form of their memories; and of the errors in them. -/
theorem Keeps.memories {deck pier health} (h : Keeps ex s u)
    (form : u.memoryWf = true → State.memoryWf { u with deck := deck, pier := pier, health := health } = true) :
    Keeps ex s { u with deck := deck, pier := pier, health := health } :=
  ⟨h.pending, fun wf => form (h.form wf),
    fun he => (h.clock he).trans ⟨Eq.refl _, Eq.refl _, fun _ _ => Eq.refl _, Eq.refl _⟩, h.span⟩

/-- An update of the piers that leaves their memories alone. -/
theorem Keeps.piers {gpr core sched shadow loader loadQueue migrateQueue overlay fbSeen keepMissed spares}
    (h : Keeps ex s u) :
    Keeps ex s { u with pier :=
      ⟨gpr, core, u.pier.tcm, sched, shadow, loader, loadQueue, migrateQueue, overlay, fbSeen, keepMissed, spares⟩ } :=
  ⟨h.pending, h.form, fun he => (h.clock he).trans ⟨Eq.refl _, Eq.refl _, fun _ _ => Eq.refl _, Eq.refl _⟩, h.span⟩

/-- The same of a state given by its fields. -/
theorem Keeps.of_eq (h : Keeps ex s u) (pending : v.pending = u.pending) (deck : v.deck = u.deck)
    (tcm : v.pier.tcm = u.pier.tcm) (rf : v.rf = u.rf) (span : v.span = u.span) (waiting : v.port.waiting = u.port.waiting) :
    Keeps ex s v :=
  ⟨pending.trans h.pending, fun wf => State.memoryWf_same (h.form wf) deck tcm,
    fun he => (h.clock he).trans ⟨by rw [span], by rw [span], fun f _ => State.rd_congr rf f 0 0, waiting⟩,
    fun he => ⟨span.trans (h.span he).1, (State.rd_congr rf F.SPAN_STAT_CUR_SEL 0 0).trans (h.span he).2⟩⟩

theorem clockFlds_fixed {f : Fld} (h : f ∈ F.SPAN_STAT_CUR_SEL :: clockFlds) : f.s1 = 0 ∧ f.s2 = 0 ∧ f.lo < 32 ∧ f.base ≤ F.SPAN_BEAR_STAT_ALIGN_ERR.base := by
  revert f
  decide

/-- A write of a field that is not the clock's leaves the clock's fields alone. -/
theorem State.rd_wr_offClock {f g : Fld} {v i j : Nat} (off : f.offClock = true) (hg : g ∈ F.SPAN_STAT_CUR_SEL :: clockFlds) :
    (s.wr f v i j).rd g = s.rd g := by
  unfold Fld.offClock at off
  rw [Bool.or_eq_true] at off
  rcases off with above | beside
  · obtain ⟨one, two, low, base⟩ := clockFlds_fixed hg
    refine s.rd_wr_ne _ _ _ _ _ _ _ ?_
    have higher := Nat.ble_eq.mp above
    unfold Fld.key
    rw [one, two]
    omega
  · exact State.rd_wr_apart s v i j 0 0 (List.all_eq_true.mp beside g hg)

theorem State.rd_wr_curSel {g : Fld} {v : Nat} (hg : g ∈ clockFlds) : (s.wr F.SPAN_STAT_CUR_SEL v).rd g = s.rd g := by
  have apart : ∀ f ∈ clockFlds, F.SPAN_STAT_CUR_SEL.apart f = true := by decide
  exact State.rd_wr_apart s v 0 0 0 0 (apart g hg)

/-- A register field that is not the clock's. -/
theorem Keeps.wr {f v i j} (h : Keeps ex s u) (off : f.offClock = true := by rfl) : Keeps ex s (u.wr f v i j) :=
  ⟨h.pending, h.form,
    fun he => (h.clock he).trans
      ⟨Eq.refl _, Eq.refl _, fun _ hg => State.rd_wr_offClock off (List.mem_cons_of_mem _ hg), Eq.refl _⟩,
    fun he => (h.span he).imp id (State.rd_wr_offClock off (List.mem_cons_self ..)).trans⟩

/-- The length of the span. -/
theorem Keeps.wrSel {v} (h : Keeps ex s u) (part : ex.wholeSpan = false := by trivial) :
    Keeps ex s (u.wr F.SPAN_STAT_CUR_SEL v) :=
  ⟨h.pending, h.form,
    fun he => (h.clock he).trans ⟨Eq.refl _, Eq.refl _, fun _ hg => State.rd_wr_curSel hg, Eq.refl _⟩,
    fun whole => absurd (whole ▸ part) nofun⟩

theorem Keeps.ite {c : Prop} {_ : Decidable c} (h : Keeps ex s u) (hv : Keeps ex s v) : Keeps ex s (if c then u else v) := by
  split
  · exact h
  · exact hv

theorem Keeps.also {c : Prop} {_ : Decidable c} (h : Keeps ex s u) (hv : Keeps ex s u → Keeps ex s v) : Keeps ex s (if c then v else u) :=
  (hv h).ite h

theorem Keeps.unless {c : Prop} {_ : Decidable c} (h : Keeps ex s u) (hv : Keeps ex s u → Keeps ex s v) : Keeps ex s (if c then u else v) :=
  h.ite (hv h)

theorem Keeps.both {c : Prop} {_ : Decidable c} {v w : State} (h : Keeps ex s u) (hv : Keeps ex s u → Keeps ex s v)
    (hw : Keeps ex s u → Keeps ex s w) : Keeps ex s (if c then v else w) :=
  (hv h).ite (hw h)

theorem Keeps.foldl {l : List α} {f : State → α → State} (h : Keeps ex s u) (hf : ∀ t x, Keeps ex s t → Keeps ex s (f t x)) :
    Keeps ex s (l.foldl f u) := by
  induction l generalizing u with
  | nil => exact h
  | cons x l ih => exact ih (hf u x h)

/-- A fold that carries a value beside the state. -/
theorem Keeps.foldlSnd {β : Type} {l : List α} {f : β × State → α → β × State} {z : β × State} (h : Keeps ex s z.2)
    (hf : ∀ b t x, Keeps ex s t → Keeps ex s (f (b, t) x).2) : Keeps ex s (l.foldl f z).2 := by
  induction l generalizing z with
  | nil => exact h
  | cons x l ih => exact ih (hf z.1 z.2 x h)

theorem Keeps.foldlFst {β : Type} {l : List α} {f : State × β → α → State × β} {z : State × β} (h : Keeps ex s z.1)
    (hf : ∀ b t x, Keeps ex s t → Keeps ex s (f (t, b) x).1) : Keeps ex s (l.foldl f z).1 := by
  induction l generalizing z with
  | nil => exact h
  | cons x l ih => exact ih (hf z.2 z.1 x h)

end Sys2Proof.Machine
end

section
/-! What the operations of Ops.lean keep. -/

namespace Sys2Proof.Machine

set_option Elab.async false

variable {ex : Extent} {s u : State}

section
variable {f : Fld} {i j : Nat} (h : Keeps ex s u) (off : f.offClock = true := by rfl)
include h off

theorem Keeps.wrB {b} : Keeps ex s (u.wrB f b i j) := h.wr off

theorem Keeps.addSat {k} : Keeps ex s (u.addSat f k i j) := h.wr off

theorem Keeps.incSat : Keeps ex s (u.incSat f i j) := h.addSat off

theorem Keeps.wrS {z} : Keeps ex s (u.wrS f z i j) := h.wr off

theorem Keeps.setMap {k} : Keeps ex s (u.setMap f k i j) := h.wr off

theorem Keeps.clrMap {k} : Keeps ex s (u.clrMap f k i j) := (h.wr off).ite h

end

theorem Keeps.wr48 {lo hi v i} (h : Keeps ex s u) (low : lo.offClock = true := by rfl) (high : hi.offClock = true := by rfl) :
    Keeps ex s (u.wr48 lo hi v i) :=
  (h.wr low).wr high

theorem Keeps.each {α l} {f : State → α → State} (h : Keeps ex s u) (hf : ∀ t x, Keeps ex s t → Keeps ex s (f t x)) : Keeps ex s
    (u.each l f) :=
  h.foldl fun _ _ h => hf _ _ h

theorem Keeps.fresh (h : Keeps ex s u) : Keeps ex s (u.fresh).2 :=
  h.same

theorem Keeps.act {ds} {f : State → State} (h : Keeps ex s u) (hf : ∀ t, Keeps ex s t → Keeps ex s (f t)) : Ends ex s (u.act ds
    f) := by
  unfold State.act
  split
  · exact hf _ h
  · exact h

theorem Keeps.reach {ds} {f : State → State} (h : Keeps ex s u) (hf : ∀ t, Keeps ex s t → Keeps ex s (f t)) : Ends ex s (u.reach
    ds f) :=
  h.act fun _ h => (hf _ h).ite h

theorem Keeps.setDByte {a b} (h : Keeps ex s u) : Keeps ex s (u.setDByte a b) :=
  h.memories (State.setDByte_memoryWf a b)

theorem Keeps.setDBytes {bs a} (h : Keeps ex s u) : Keeps ex s (u.setDBytes a bs) := by
  induction bs generalizing u a with
  | nil => exact h
  | cons b bs ih => exact ih h.setDByte

theorem Keeps.setDWord {a v} (h : Keeps ex s u) : Keeps ex s (u.setDWord a v) :=
  h.setDBytes

theorem Keeps.eccClear {a len} (h : Keeps ex s u) : Keeps ex s (u.eccClear a len) :=
  h.same

end Sys2Proof.Machine
end

section
/-! What the operations of Events.lean keep. -/

namespace Sys2Proof.Machine

set_option Elab.async false

variable {ex : Extent} {s u : State}

theorem Keeps.setCore {c k} (h : Keeps ex s u) : Keeps ex s (u.setCore c k) :=
  h.piers

theorem Keeps.setGpr {c g v} (h : Keeps ex s u) : Keeps ex s (u.setGpr c g v) :=
  h.ite h.piers

theorem Keeps.setSch {n k} (h : Keeps ex s u) : Keeps ex s (u.setSch n k) :=
  h.piers

theorem Keeps.mirror {m} (h : Keeps ex s u) : Keeps ex s (u.mirror m) :=
  (h.same.ite h.same).ite h

theorem Keeps.setBucket {code b} (h : Keeps ex s u) : Keeps ex s (u.setBucket code b) :=
  h.same

theorem Keeps.enqueue {e} (h : Keeps ex s u) : Keeps ex s (u.enqueue e) :=
  h.same.ite (h.incSat.ite h.same)

theorem Keeps.summarize {code} (h : Keeps ex s u) : Keeps ex s (u.summarize code) :=
  h.ite h.setBucket.enqueue

theorem Keeps.tokenReturn {c} (h : Keeps ex s u) : Keeps ex s (u.tokenReturn c) :=
  h.ite h.setBucket.summarize

theorem Keeps.admitEvent {e} (h : Keeps ex s u) : Keeps ex s (u.admitEvent e) :=
  h.enqueue.ite (h.ite (h.tokenReturn.both (fun h => h.setBucket.enqueue) fun h => h.setBucket))

theorem Keeps.takeEvent {e} (h : Keeps ex s u) : Keeps ex s (u.takeEvent e) :=
  h.admitEvent.ite (h.incSat.ite h.same)

theorem Keeps.raise {code index words pier} (h : Keeps ex s u) : Keeps ex s (u.raise code index words pier) :=
  h.takeEvent

theorem Keeps.unraise {code index} (h : Keeps ex s u) : Keeps ex s (u.unraise code index) :=
  h.ite h.same.setBucket

theorem Keeps.event {code words} (h : Keeps ex s u) : Keeps ex s (u.event code words) :=
  h.raise

theorem Keeps.eventAt {code words stamp} (h : Keeps ex s u) : Keeps ex s (u.eventAt code words stamp) :=
  h.takeEvent

theorem Keeps.sortEvents {n} (h : Keeps ex s u) : Keeps ex s (u.sortEvents n) :=
  h.same

theorem Keeps.inCycle {f : State → State} (h : Keeps ex s u) (hf : ∀ t, Keeps ex s t → Keeps ex s (f t)) : Keeps ex s (u.inCycle
    f) :=
  (hf _ h).sortEvents

theorem Keeps.moveTail {t} (h : Keeps ex s u) : Keeps ex s (u.moveTail t) :=
  h.wr.each fun _ _ h => (h.wr.ite h).also fun h => h.wr.addSat.unless fun h => h.same.raise

theorem Keeps.tailFromAcks (h : Keeps ex s u) : Keeps ex s u.tailFromAcks := by
  unfold State.tailFromAcks
  dsimp only
  split
  · exact h
  · exact h.ite h.moveTail

theorem Keeps.returnSummary {e} (h : Keeps ex s u) : Keeps ex s (u.returnSummary e) :=
  h.ite h.setBucket

theorem Keeps.pendCursors {sev} (h : Keeps ex s u) : Keeps ex s (u.pendCursors sev) :=
  h.each fun _ _ h => h.wrB.ite h

theorem Keeps.storeRecord {seq sev ws} (h : Keeps ex s u) : Keeps ex s (u.storeRecord seq sev ws) :=
  (h.incSat.moveTail.ite h).setDBytes.wr.pendCursors

theorem Keeps.writeRecord {e} (h : Keeps ex s u) : Keeps ex s (u.writeRecord e) :=
  h.incSat.returnSummary.ite (h.storeRecord.also fun h => h.mirror.wr)

theorem Keeps.recordNext (h : Keeps ex s u) : Keeps ex s u.recordNext := by
  unfold State.recordNext
  split
  · exact h
  · exact h.same.writeRecord

theorem Keeps.evrTick (h : Keeps ex s u) : Keeps ex s u.evrTick :=
  h.same.each fun _ _ h => h.summarize

end Sys2Proof.Machine
end

section
/-! What the operations of Points.lean keep. -/

namespace Sys2Proof.Machine

set_option Elab.async false

variable {ex : Extent} {s u : State}

theorem Keeps.useQuota {f} (h : Keeps ex s u) : Keeps ex s (u.useQuota f) :=
  h.same

theorem Keeps.treSend {p x} (h : Keeps ex s u) : Keeps ex s (u.treSend p x) :=
  h.same.ite h

theorem Keeps.treSendBoth {x} (h : Keeps ex s u) : Keeps ex s (u.treSendBoth x) :=
  h.treSend.treSend

theorem Keeps.sendFrames {ps} (h : Keeps ex s u) : Keeps ex s (u.sendFrames ps) :=
  h.each (fun _ _ h => (by
    split
    · exact h
    · exact h.treSendBoth))

theorem Keeps.launch {f u'} (h : Keeps ex s u) : Keeps ex s (u.launch f u') :=
  h.incSat.ite (h.useQuota.same.unless fun h => h.incSat.unless fun h => h.same.event)

theorem Keeps.publishAs {o p r} (h : Keeps ex s u) : Keeps ex s (u.publishAs o p r) :=
  h.ite (h.launch.sendFrames.ite (h.same.ite (h.incSat.unless fun h => h.same.event)))

theorem Keeps.publish {o p r} (h : Keeps ex s u) : Keeps ex s (u.publish o p r) :=
  h.publishAs

theorem Keeps.enterNext {p r} (h : Keeps ex s u) : Keeps ex s (u.enterNext p r) :=
  h.same.eccClear

theorem Keeps.announce {o p r} (h : Keeps ex s u) : Keeps ex s (u.announce o p r) :=
  (h.mirror.ite h).publish

theorem Keeps.acceptWrite {p r} (h : Keeps ex s u) : Keeps ex s (u.acceptWrite p r) :=
  h.same.incSat.announce.ite (h.same.announce.ite h.enterNext.announce)

theorem Keeps.ownEvent {p w} (h : Keeps ex s u) : Keeps ex s (u.ownEvent p w) :=
  h.event

theorem Keeps.ownRefused {p w} (h : Keeps ex s u) : Keeps ex s (u.ownRefused p w) :=
  h.incSat.wr.wr.ownEvent

theorem Keeps.softWrite {p w id v q} (h : Keeps ex s u) : Keeps ex s (u.softWrite p w id v q).2 := by
  unfold State.softWrite
  split
  · exact h
  · split
    · dsimp only
      exact h.incSat
    · dsimp only
      split
      · dsimp only
        exact h.acceptWrite
      · exact h

theorem Keeps.enterResult {p r} (h : Keeps ex s u) : Keeps ex s (u.enterResult p r) :=
  h.same.announce.ite h.enterNext.announce

theorem Keeps.hwWrite {p cls id v fault cal stamp} (h : Keeps ex s u) : Keeps ex s (u.hwWrite p cls id v fault cal stamp) :=
  h.ite (h.ownRefused.ite h.enterResult)

theorem Keeps.hwRaw {p cls id raw fault cal stamp} (h : Keeps ex s u) : Keeps ex s (u.hwRaw p cls id raw fault cal stamp) :=
  h.hwWrite

theorem Keeps.stageDesc {p d} (h : Keeps ex s u) : Keeps ex s (u.stageDesc p d) :=
  h.same.mirror

theorem Keeps.queueForce {p v} (h : Keeps ex s u) : Keeps ex s (u.queueForce p v) := by
  unfold State.queueForce
  dsimp only
  split
  · exact h.same.mirror.publishAs
  · exact h.same.mirror

theorem Keeps.force {p v} (h : Keeps ex s u) : Keeps ex s (u.force p v).2 := by
  unfold State.force
  dsimp only
  split
  · dsimp only
    exact h.incSat
  · split
    · dsimp only
      exact h.wr.wrB.event
    · dsimp only
      exact h.wrB.queueForce

theorem Keeps.releaseAll (h : Keeps ex s u) : Keeps ex s u.releaseAll :=
  h.queueForce.ite ((h.each fun _ _ h => h.queueForce).also fun h => h.incSat)

theorem Keeps.release {p} (h : Keeps ex s u) : Keeps ex s (u.release p).2 := by
  unfold State.release
  dsimp only
  split
  · dsimp only
    exact h.wrB
  · split
    · split
      · dsimp only
        exact h.wrB.incSat
      · dsimp only
        exact h.wrB.queueForce
    · dsimp only
      exact h.wrB.releaseAll

theorem Keeps.flipEvents {p d0 d1 f0 f1 cmd shown} (h : Keeps ex s u) : Keeps ex s (u.flipEvents p d0 d1 f0 f1 cmd shown)
    := by
  unfold State.flipEvents
  dsimp only
  split
  · exact (h.event.ite h).also fun h => h.event
  · exact (h.event.ite h).also fun h => h.event

theorem Keeps.flipPoint {desc rem hot p} {s0 : State} (h : Keeps ex s u) : Keeps ex s (s0.flipPoint desc rem hot u p) :=
  h.same.flipEvents

theorem Keeps.publishRelease {p} {old : State} (h : Keeps ex s u) : Keeps ex s (old.publishRelease u p) :=
  h.ite h.publishAs

theorem Keeps.flip {hot} (h : Keeps ex s u) : Keeps ex s (u.flip hot) :=
  (((h.foldl fun _ _ h => h.flipPoint).same.addSat.each fun _ _ h => h.ownEvent).each fun _ _ h =>
      h.publishRelease).foldl fun _ _ h => h.enterNext

theorem Keeps.startValues {old : State} (h : Keeps ex s u) : Keeps ex s (old.startValues u) :=
  h.each fun _ _ h => h.same.eccClear

theorem Keeps.applyHeld (h : Keeps ex s u) : Keeps ex s u.applyHeld :=
  h.same.foldl fun _ _ h => h.enterNext

end Sys2Proof.Machine
end

section
/-! What the operations of Common.lean keep. -/

namespace Sys2Proof.Machine

set_option Elab.async false

variable {ex : Extent} {s u : State}

theorem Keeps.free (h : Keeps ex s u) (k : Nat) : Keeps ex s (u.free k).2 :=
  h.same

theorem Keeps.feed {cls id raw fault stamp} (h : Keeps ex s u) : Keeps ex s (u.feed cls id raw fault stamp) :=
  h.each fun _ _ h => h.hwRaw

theorem Keeps.feedSubst {cls id raw stamp} (h : Keeps ex s u) : Keeps ex s (u.feedSubst cls id raw stamp) :=
  h.ite (h.each fun _ _ h => h.enterResult)

theorem Keeps.mirrorLine {a} (h : Keeps ex s u) : Keeps ex s (u.mirrorLine a) :=
  h.mirror.ite h

theorem Keeps.mirrorRange {a len} (h : Keeps ex s u) : Keeps ex s (u.mirrorRange a len) :=
  h.ite (h.each fun _ _ h => h.mirrorLine)

theorem Keeps.countTransient {cls unit} (h : Keeps ex s u) : Keeps ex s (u.countTransient cls unit) := by
  unfold State.countTransient
  split
  · exact h.same
  · dsimp only
    split
    · exact h.same
    · split
      · exact h
      · exact h.same.event

theorem Keeps.verdict {cls unit pass} (h : Keeps ex s u) : Keeps ex s (u.verdict cls unit pass) :=
  ((h.countTransient.ite h).wr.wr.wr.wrB.both (fun h => h.incSat) fun h => h.incSat).event.also fun h => h.same

theorem Keeps.retireRow {row source} (h : Keeps ex s u) : Keeps ex s (u.retireRow row source) :=
  h.wrB.event.ite h.same.wr.event

theorem Keeps.retireClass {cls} {f : State → ℕ → ℕ → State} (h : Keeps ex s u) (hf : ∀ t x y, Keeps ex s t → Keeps ex s (f t x
    y)) : Keeps ex s (u.retireClass cls f) :=
  h.same.each fun _ _ h => h.ite (hf _ _ _ h)

theorem Keeps.showQueue {cls} (h : Keeps ex s u) : Keeps ex s (u.showQueue cls) :=
  h.wr

theorem Keeps.startTest {cls unit} (h : Keeps ex s u) : Keeps ex s (u.startTest cls unit) :=
  h.ite (h.ite (h.same.ite (h.same.showQueue.ite h.wrB.verdict)))

end Sys2Proof.Machine
end

section
/-! What the operations of Meter.lean keep. -/

namespace Sys2Proof.Machine

set_option Elab.async false

variable {ex : Extent} {s u : State}

theorem Keeps.epulseKick {k} (h : Keeps ex s u) : Keeps ex s (u.epulseKick k) :=
  h.wr.same.ite h

theorem Keeps.epulseCount {q n} (h : Keeps ex s u) : Keeps ex s (u.epulseCount q n) :=
  h.ite (h.each fun _ _ h => h.ite (h.wr.also fun h => h.wrB.raise).epulseKick)

theorem Keeps.addTo {q n f} (h : Keeps ex s u) : Keeps ex s (u.addTo q n f) :=
  h.same.epulseCount

theorem Keeps.addEnergy {qs num den} (h : Keeps ex s u) : Keeps ex s (u.addEnergy qs num den) :=
  h.same.each fun _ _ h => h.addTo

theorem Keeps.subEnergy {imp exp num den} (h : Keeps ex s u) : Keeps ex s (u.subEnergy imp exp num den) :=
  h.ite (h.addEnergy.ite (h.addEnergy.ite h))

theorem Keeps.integrate {c c1} (h : Keeps ex s u) : Keeps ex s (u.integrate c c1).2 :=
  h.same

theorem Keeps.lineValue {c hist} (h : Keeps ex s u) : Keeps ex s (u.lineValue c hist).2 := by
  unfold State.lineValue
  dsimp only
  split
  · split
    · exact h.integrate
    · exact h
  · exact Keeps.free (by
      split
      · exact h.integrate
      · exact h) 11

theorem Keeps.lineValues {codes} (h : Keeps ex s u) : Keeps ex s (u.lineValues codes).2 :=
  Keeps.foldlSnd (z := ([], u)) h fun _ _ _ h => h.lineValue

theorem Keeps.noload {x k sum w} (h : Keeps ex s u) : Keeps ex s (u.noload x k sum w).2 := by
  unfold State.noload
  dsimp only
  split
  · dsimp only
    exact h.same.also fun h => h.setMap
  · dsimp only
    exact h.same.clrMap

theorem Keeps.route {qp qm z w} (h : Keeps ex s u) : Keeps ex s (u.route qp qm z w) :=
  h.ite h.addEnergy

theorem Keeps.accumulatePhase {w x} (h : Keeps ex s u) : Keeps ex s (u.accumulatePhase w x).2 :=
  ((h.noload.noload.noload.also fun h => h.route).also fun h => h.route).also fun h => h.route

theorem Keeps.accumulateAll (h : Keeps ex s u) : Keeps ex s u.accumulateAll := by
  unfold State.accumulateAll
  have phases (l : List Nat) (w : Nat) :
      Keeps ex s (l.foldl (fun ((p, q, a), s) x =>
        let ((p', q', a'), s) := s.accumulatePhase w x
        ((p + p', q + q', a + a'), s)) (((0, 0, 0) : Int × Int × Nat), u)).2 :=
    Keeps.foldlSnd (z := ((0, 0, 0), u)) h fun _ _ _ h => h.accumulatePhase
  exact (phases _ _).ite (phases _ _).route.route.route

theorem Keeps.takeLatch (h : Keeps ex s u) : Keeps ex s u.takeLatch :=
  h.same

theorem Keeps.countCycle {t} (h : Keeps ex s u) : Keeps ex s (u.countCycle t) :=
  h.same

theorem Keeps.latchQuantity {b c q} (h : Keeps ex s u) : Keeps ex s (u.latchQuantity b c q) :=
  h.wr.wr.wr.wr.also fun h => h.feed

theorem Keeps.latchComplete (h : Keeps ex s u) : Keeps ex s u.latchComplete := by
  unfold State.latchComplete
  split
  · exact h
  · exact (h.same.each fun _ _ h => h.latchQuantity).wr.wr.wr.wr.wr.wr.wrB.wrB.wr.wr.wr.wr.wr.wr

theorem Keeps.noteClips {codes} (h : Keeps ex s u) : Keeps ex s (u.noteClips codes) :=
  h.each fun _ _ h => h.ite (h.setMap.same.also fun h => h.raise)

theorem Keeps.udin (h : Keeps ex s u) : Keeps ex s (u.udin).2 := by
  unfold State.udin
  split
  · exact h
  · exact h.free 12

theorem Keeps.voltEvents (h : Keeps ex s u) : Keeps ex s u.voltEvents := by
  unfold State.voltEvents
  dsimp only
  split
  · exact h
  · split
    · exact Keeps.event (by
        split
        · exact Keeps.event (by
            split
            · exact h.udin.same.wr.event
            · exact h.udin.same.wr)
        · split
          · exact h.udin.same.wr.event
          · exact h.udin.same.wr)
    · split
      · exact Keeps.event (by
          split
          · exact h.udin.same.wr.event
          · exact h.udin.same.wr)
      · split
        · exact h.udin.same.wr.event
        · exact h.udin.same.wr

theorem Keeps.trackLine (h : Keeps ex s u) : Keeps ex s u.trackLine :=
  (h.udin.also fun h => h.each fun _ _ h => h.same).both (fun h => h.same.both (fun h => h.same) fun h => h.same.ite
      h.same.wrB.event) (fun h => (by
    dsimp only
    split
    · exact h
    · exact h.wrB.wr.same.event))

theorem Keeps.frefWritten (h : Keeps ex s u) : Keeps ex s u.frefWritten :=
  h.ite (h.ite h.wr.same)

theorem Keeps.putMeas {q v fault flagged} (h : Keeps ex s u) : Keeps ex s (u.putMeas q v fault flagged) :=
  h.wr.unless fun h => h.feedSubst.ite h.feed

theorem Keeps.windowEnd (h : Keeps ex s u) : Keeps ex s u.windowEnd :=
  h.same.unless fun h => ((((h.each fun _ _ h => h.putMeas).each fun _ _ h => h.putMeas).each fun _ _ h =>
      h.putMeas).each fun _ _ h => h.putMeas).each fun _ _ h => h.putMeas

theorem Keeps.cycleEnd (h : Keeps ex s u) : Keeps ex s u.cycleEnd :=
  h.putMeas.same.unless fun h => h.windowEnd

theorem Keeps.residueSnap {cause} (h : Keeps ex s u) : Keeps ex s (u.residueSnap cause) :=
  h.same

theorem Keeps.setResidue {bs} (h : Keeps ex s u) : Keeps ex s (u.setResidue bs) :=
  h.each fun _ _ h => h.wr

theorem Keeps.writeResidue (h : Keeps ex s u) : Keeps ex s u.writeResidue := by
  unfold State.writeResidue
  split
  · exact h
  · exact h.same.also fun h => h.setResidue.wrB.wr

theorem Keeps.setResidueState {b} (h : Keeps ex s u) : Keeps ex s (u.setResidueState b) :=
  h.wr

theorem Keeps.raisePfw {cause} (h : Keeps ex s u) : Keeps ex s (u.raisePfw cause) :=
  h.ite (h.wrB.wrB.wrB.event.same.also fun h => h.residueSnap)

theorem Keeps.clearPfw (h : Keeps ex s u) : Keeps ex s u.clearPfw :=
  h.ite (h.wrB.wrB.event.also fun h => h.setResidueState)

theorem Keeps.halfCycle (h : Keeps ex s u) : Keeps ex s u.halfCycle :=
  ((h.voltEvents.also fun h => h.raisePfw).same.trackLine.also fun h => h.cycleEnd).same

theorem Keeps.nominalCount (h : Keeps ex s u) : Keeps ex s u.nominalCount :=
  h.same.ite ((h.same.also fun h => h.halfCycle).ite h.same.halfCycle.countCycle)

theorem Keeps.meterSample {raw} (h : Keeps ex s u) : Keeps ex s (u.meterSample raw) :=
  h.noteClips.same.lineValues.same.accumulateAll.same.nominalCount.also fun h => h.takeLatch

theorem Keeps.checkBlock (h : Keeps ex s u) : Keeps ex s u.checkBlock :=
  h.wr.event

theorem Keeps.startRun (h : Keeps ex s u) : Keeps ex s u.startRun :=
  h.wrB.same.each fun _ _ h => h.wr.ite h.wr

theorem Keeps.writeSaveMark {v} (h : Keeps ex s u) : Keeps ex s (u.writeSaveMark v) :=
  h.wr.same.ite h.wrB

theorem Keeps.loadQuantity (h : Keeps ex s u) : Keeps ex s u.loadQuantity :=
  h.ite h.same

theorem Keeps.openBank (h : Keeps ex s u) : Keeps ex s u.openBank :=
  h.ite h.wrB.wr

theorem Keeps.closeBank (h : Keeps ex s u) : Keeps ex s u.closeBank :=
  h.wrB

theorem Keeps.latchAtOnce (h : Keeps ex s u) : Keeps ex s u.latchAtOnce :=
  h.same

theorem Keeps.consumeBlock (h : Keeps ex s u) : Keeps ex s u.consumeBlock :=
  h.setResidueState.ite h

theorem Keeps.zswSet {k b} (h : Keeps ex s u) : Keeps ex s (u.zswSet k b) :=
  h.wrB.wrB.same

theorem Keeps.zswCancel {k} (h : Keeps ex s u) : Keeps ex s (u.zswCancel k) :=
  h.zswSet

theorem Keeps.zswApply {k} (h : Keeps ex s u) : Keeps ex s (u.zswApply k) :=
  h.ite (h.wrB.same.both (fun h => h.zswCancel) fun h => h.zswSet.wrB.ite (h.ite h.wrB.same))

theorem Keeps.zswMark {line rising} (h : Keeps ex s u) : Keeps ex s (u.zswMark line rising) :=
  h.each fun _ _ h => h.same.ite h

theorem Keeps.meterStatusSample (h : Keeps ex s u) : Keeps ex s u.meterStatusSample :=
  h.wr.feed

theorem Keeps.execMeterSampleReady {codes} (h : Keeps ex s u) : Ends ex s (execMeterSampleReady codes u) :=
  h.act fun _ h => h.inCycle fun _ h => h.meterSample

theorem Keeps.execLatchDone (h : Keeps ex s u) : Ends ex s (execLatchDone u) :=
  h.act fun _ h => h.latchComplete

theorem Keeps.execHalfCycleEnd (h : Keeps ex s u) : Ends ex s (execHalfCycleEnd u) :=
  h.act fun _ h => (h.inCycle fun _ h => h.halfCycle).ite h

theorem Keeps.execFreqInterval (h : Keeps ex s u) : Ends ex s (execFreqInterval u) := by
  refine h.act fun u h => ?_
  by_cases none : u.meter.freqTime = 0
  · simp only [if_pos none]
    exact (h.free 14).same.putMeas
  · simp only [if_neg none]
    exact h.same.putMeas

theorem Keeps.execZswSwitch {k} (h : Keeps ex s u) : Ends ex s (execZswSwitch k u) :=
  h.act (fun _ h => (by
    split
    · exact h.zswSet.ite h
    · exact h))

theorem Keeps.execLatchNow (h : Keeps ex s u) : Ends ex s (execLatchNow u) :=
  h.reach fun _ h => h.latchAtOnce

theorem Keeps.execLatOpen (h : Keeps ex s u) : Ends ex s (execLatOpen u) :=
  h.reach fun _ h => h.openBank

theorem Keeps.execLatClose (h : Keeps ex s u) : Ends ex s (execLatClose u) :=
  h.reach fun _ h => h.closeBank

theorem Keeps.execMeterLoad (h : Keeps ex s u) : Ends ex s (execMeterLoad u) :=
  h.reach fun _ h => h.loadQuantity

theorem Keeps.execSaveMark {v} (h : Keeps ex s u) : Ends ex s (execSaveMark v u) :=
  h.reach fun _ h => h.writeSaveMark

theorem Keeps.execConsume (h : Keeps ex s u) : Ends ex s (execConsume u) :=
  h.reach fun _ h => h.consumeBlock

theorem Keeps.execMeterRun (h : Keeps ex s u) : Ends ex s (execMeterRun u) :=
  h.reach fun _ h => h.ite h.startRun

theorem Keeps.execEpulseTimer {k} (h : Keeps ex s u) : Ends ex s (execEpulseTimer k u) :=
  h.act fun _ h => h.same.ite h.same.epulseKick

theorem Keeps.execPfwRaise {cause} (h : Keeps ex s u) : Ends ex s (execPfwRaise cause u) :=
  h.act fun _ h => (h.wr.ite h).also fun h => h.raisePfw

theorem Keeps.execResidueWritten (h : Keeps ex s u) : Ends ex s (execResidueWritten u) :=
  h.act fun _ h => h.writeResidue

theorem Keeps.execPfwClear (h : Keeps ex s u) : Ends ex s (execPfwClear u) :=
  h.act fun _ h => h.wr.ite (h.ite h.wr.clearPfw)

end Sys2Proof.Machine
end

section
/-! What the operations of Sol.lean keep. -/

namespace Sys2Proof.Machine

set_option Elab.async false

variable {ex : Extent} {s u : State}

theorem Keeps.solMod {n f} (h : Keeps ex s u) : Keeps ex s (u.solMod n f) :=
  h.same

theorem Keeps.solTo {n k} (h : Keeps ex s u) : Keeps ex s (u.solTo n k) :=
  h.wr

theorem Keeps.solOutcome {n o} (h : Keeps ex s u) : Keeps ex s (u.solOutcome n o) :=
  h.wr

theorem Keeps.solUnqueue {n} (h : Keeps ex s u) : Keeps ex s (u.solUnqueue n) :=
  h.same

theorem Keeps.solEnterPick {n} (h : Keeps ex s u) : Keeps ex s (u.solEnterPick n) := by
  unfold State.solEnterPick
  exact h.solTo.solOutcome.wr.wrB.solMod

theorem Keeps.solServe {k fuel} (h : Keeps ex s u) : Keeps ex s (u.solServe k fuel) := by
  induction fuel generalizing u with
  | zero => exact h
  | succ fuel ih =>
    unfold State.solServe
    split
    · exact h
    · exact (ih h.solUnqueue.solEnterPick).ite h

theorem Keeps.solSlowCheck {k} (h : Keeps ex s u) : Keeps ex s (u.solSlowCheck k) :=
  h.each (fun _ _ h => (by
    split
    · split
      · exact h.wrB.raise
      · exact h
    · exact h))

theorem Keeps.solGroup {k} (h : Keeps ex s u) : Keeps ex s (u.solGroup k) :=
  h.solServe.solSlowCheck.wr.wr.wrB

theorem Keeps.solEnterRelease {n} (h : Keeps ex s u) : Keeps ex s (u.solEnterRelease n) :=
  h.solTo.solMod.solGroup

theorem Keeps.solAborted {n} (h : Keeps ex s u) : Keeps ex s (u.solAborted n) :=
  h.solOutcome.raise.solMod.both (fun h => h.solUnqueue.solTo.solGroup) fun h => h.solEnterRelease

theorem Keeps.solRequest {n} (h : Keeps ex s u) : Keeps ex s (u.solRequest n) :=
  h.wrB.both (fun h => h.incSat.raise) fun h => h.solEnterPick.solGroup.ite h.solTo.same.solGroup

theorem Keeps.solAsk {n} (h : Keeps ex s u) : Keeps ex s (u.solAsk n) :=
  h.solMod.ite h.solRequest

theorem Keeps.solOn {n} (h : Keeps ex s u) : Keeps ex s (u.solOn n) :=
  (h.solAsk.ite h).ite (h.solMod.ite h)

theorem Keeps.solOff {n} (h : Keeps ex s u) : Keeps ex s (u.solOff n) :=
  h.ite (h.wrB.solMod.both (fun h => h.solAborted) fun h => h.solEnterRelease.ite h)

theorem Keeps.brakeCmd {n on} (h : Keeps ex s u) : Keeps ex s (u.brakeCmd n on) :=
  (h.solMod.solOn.ite h.solOff).ite h

theorem Keeps.solRecord {n reason} (h : Keeps ex s u) : Keeps ex s (u.solRecord n reason) :=
  h.wr.raise

theorem Keeps.solFaultIn {n reason} (h : Keeps ex s u) : Keeps ex s (u.solFaultIn n reason) :=
  h.ite (h.solRecord.ite ((h.unraise.ite h).solRecord.also fun h => h.solOutcome).solUnqueue.solMod.solTo)

theorem Keeps.solFault {n reason} (h : Keeps ex s u) : Keeps ex s (u.solFault n reason) :=
  h.solFaultIn.solGroup

theorem Keeps.solCommit {n} (h : Keeps ex s u) : Keeps ex s (u.solCommit n) :=
  h.solOutcome.solTo.solMod.solGroup

theorem Keeps.solPickEnd {n} (h : Keeps ex s u) : Keeps ex s (u.solPickEnd n) :=
  h.ite (h.solCommit.ite (h.wr.raise.both (fun h => h.solFault) fun h => h.solCommit))

theorem Keeps.solReleaseDone {n} (h : Keeps ex s u) : Keeps ex s (u.solReleaseDone n) :=
  h.ite (h.wrS.solTo.solMod.solGroup.also fun h => h.solAsk)

theorem Keeps.solGroupTimeout {n} (h : Keeps ex s u) : Keeps ex s (u.solGroupTimeout n) :=
  h.ite h.solUnqueue.solTo.solOutcome.wr.wrB.solMod.incSat.raise.solGroup

theorem Keeps.solClear {n} (h : Keeps ex s u) : Keeps ex s (u.solClear n) :=
  h.solTo.wrB.solGroup.ite h

theorem Keeps.solAbort {n} (h : Keeps ex s u) : Keeps ex s (u.solAbort n) :=
  h.solAborted.ite (h.wrB.ite (h.solMod.ite (h.wrB.ite h)))

theorem Keeps.solEnable {n} (h : Keeps ex s u) : Keeps ex s (u.solEnable n) :=
  h.ite (h.wr.unless fun h => h.wrB.solTo.wrB.wr.solMod.solGroup)

theorem Keeps.solEndStroke {n} (h : Keeps ex s u) : Keeps ex s (u.solEndStroke n) :=
  h.solOutcome.ite h

theorem Keeps.solDisable {n} (h : Keeps ex s u) : Keeps ex s (u.solDisable n) :=
  h.wrB.ite h.solEndStroke.solUnqueue.wrB.solTo.wrB.solMod.solGroup

theorem Keeps.solForceIdle {n} (h : Keeps ex s u) : Keeps ex s (u.solForceIdle n) :=
  h.ite h.solEndStroke.solUnqueue.solTo.solMod

theorem Keeps.solEnergy {n sum} (h : Keeps ex s u) : Keeps ex s (u.solEnergy n sum) :=
  (h.free 20).subEnergy.solMod.ite h.subEnergy.solMod

theorem Keeps.solPeriodStart {n} (h : Keeps ex s u) : Keeps ex s (u.solPeriodStart n) := by
  unfold State.solPeriodStart
  exact h.solMod

theorem Keeps.solPeriodEnd {n} (h : Keeps ex s u) : Keeps ex s (u.solPeriodEnd n) :=
  h.solMod.solEnergy

theorem Keeps.solTake {n x} (h : Keeps ex s u) : Keeps ex s (u.solTake n x) :=
  (Keeps.also (by
    split
    · exact (h.solPeriodStart.ite h).solMod.wr.wr.wr.solMod
    · exact (h.solPeriodStart.ite h).solMod) fun h => h.solFault).solMod.also fun h => h.solPeriodEnd

theorem Keeps.solPeriod {n raw vsol} (h : Keeps ex s u) : Keeps ex s (u.solPeriod n raw vsol) :=
  h.wr.unless fun h => h.each fun _ _ h => h.inCycle fun _ h => h.solTake

theorem Keeps.solRestart (h : Keeps ex s u) : Keeps ex s u.solRestart :=
  h.each fun _ _ h => (h.ite h.solPeriodEnd).solMod

theorem Keeps.solI2t {n} (h : Keeps ex s u) : Keeps ex s (u.solI2t n) :=
  (h.solMod.wr.both (fun h => h.wrB.raise) fun h => h.wrB.raise.ite h).also fun h => h.solFault

theorem Keeps.solApply {n} (h : Keeps ex s u) : Keeps ex s (u.solApply n) :=
  h.ite (((h.solMod.ite h).also fun h => h.solRequest).unless (fun h => (by
    split
    · exact h.wrB.both (fun h => h.solOn) fun h => h.solOff
    · exact h.wrB
    · exact (h.ite h.wrB.raise).solOff)))

theorem Keeps.solWord {n w} (h : Keeps ex s u) : Keeps ex s (u.solWord n w).2 := by
  unfold State.solWord
  split
  · exact h
  · exact h
  · exact h
  · exact h
  · dsimp only
    split
    · exact h.free 21
    · exact h

theorem Keeps.solStatus {n} (h : Keeps ex s u) : Keeps ex s (u.solStatus n) :=
  h.each fun _ _ h => h.ite h.solWord.feed

theorem Keeps.solPickCmd {n} (h : Keeps ex s u) : Keeps ex s (u.solPickCmd n) :=
  h.solOn.ite h

theorem Keeps.solOffCmd {n} (h : Keeps ex s u) : Keeps ex s (u.solOffCmd n) :=
  h.solOff.ite h

theorem Keeps.solAbortCmd {n} (h : Keeps ex s u) : Keeps ex s (u.solAbortCmd n) :=
  h.solAbort.ite h

theorem Keeps.solClearCmd {n} (h : Keeps ex s u) : Keeps ex s (u.solClearCmd n) :=
  h.solClear.ite h

theorem Keeps.execSolEnable {n} (h : Keeps ex s u) : Ends ex s (execSolEnable n u) :=
  h.reach fun _ h => h.inCycle fun _ h => h.solEnable

theorem Keeps.execSolDisable {n} (h : Keeps ex s u) : Ends ex s (execSolDisable n u) :=
  h.reach fun _ h => h.inCycle fun _ h => h.solDisable

theorem Keeps.execSolPick {n} (h : Keeps ex s u) : Ends ex s (execSolPick n u) :=
  h.reach fun _ h => h.inCycle fun _ h => h.solPickCmd

theorem Keeps.execSolOff {n} (h : Keeps ex s u) : Ends ex s (execSolOff n u) :=
  h.reach fun _ h => h.inCycle fun _ h => h.solOffCmd

theorem Keeps.execSolAbort {n} (h : Keeps ex s u) : Ends ex s (execSolAbort n u) :=
  h.reach fun _ h => h.inCycle fun _ h => h.solAbortCmd

theorem Keeps.execSolClear {n} (h : Keeps ex s u) : Ends ex s (execSolClear n u) :=
  h.reach fun _ h => h.inCycle fun _ h => h.solClearCmd

theorem Keeps.execSolPwmPeriod {n samples vsol} (h : Keeps ex s u) : Ends ex s (execSolPwmPeriod n samples vsol u) :=
  h.act fun _ h => h.solPeriod

theorem Keeps.execPickEnd {n} (h : Keeps ex s u) : Ends ex s (execPickEnd n u) :=
  h.act fun _ h => h.inCycle fun _ h => h.solPickEnd

theorem Keeps.execSolReleaseDone {n} (h : Keeps ex s u) : Ends ex s (execSolReleaseDone n u) :=
  h.act fun _ h => h.inCycle fun _ h => h.solReleaseDone

theorem Keeps.execGrpWaitExpiry {n} (h : Keeps ex s u) : Ends ex s (execGrpWaitExpiry n u) :=
  h.act fun _ h => h.inCycle fun _ h => h.solGroupTimeout

theorem Keeps.execI2tUpdate {n} (h : Keeps ex s u) : Ends ex s (execI2tUpdate n u) :=
  h.act fun _ h => h.inCycle fun _ h => h.solI2t

theorem Keeps.execNodecayExpiry {n} (h : Keeps ex s u) : Ends ex s (execNodecayExpiry n u) :=
  h.act fun _ h => h.inCycle fun _ h => h.solFault.ite h

end Sys2Proof.Machine
end

section
/-! What the operations of Mot.lean keep. -/

namespace Sys2Proof.Machine

set_option Elab.async false

variable {ex : Extent} {s u : State}

theorem Keeps.motMod {n f} (h : Keeps ex s u) : Keeps ex s (u.motMod n f) :=
  h.same

theorem Keeps.motBrake {n on} (h : Keeps ex s u) : Keeps ex s (u.motBrake n on) :=
  h.brakeCmd.ite h

theorem Keeps.motEnterIdle {n} (h : Keeps ex s u) : Keeps ex s (u.motEnterIdle n) := by
  unfold State.motEnterIdle
  exact h.wr.wrS.motMod

theorem Keeps.motEnter {n k} (h : Keeps ex s u) : Keeps ex s (u.motEnter n k) := by
  unfold State.motEnter
  split
  · exact h.motEnterIdle
  · dsimp only
    split
    · exact (h.wr.motMod.also fun h => h.wrB).motBrake
    · exact (h.wr.motMod.also fun h => h.wrB).motBrake
    · exact (h.wr.motMod.also fun h => h.wrB).motBrake
    · exact (h.wr.motMod.also fun h => h.wrB).motBrake
    · exact h.wr.motMod.also fun h => h.wrB

theorem Keeps.motNext {n k} (h : Keeps ex s u) : Keeps ex s (u.motNext n k) :=
  h.motMod

theorem Keeps.motOutcome {n out reason r} (h : Keeps ex s u) : Keeps ex s (u.motOutcome n out reason r) :=
  ((h.ite h.wr).also fun h => (h.unraise.ite h).wr.motMod).wrB

theorem Keeps.motFault {n reason} (h : Keeps ex s u) : Keeps ex s (u.motFault n reason) :=
  h.ite ((h.raise.also fun h => h.wrB.wrB).both (fun h => h.motOutcome.motEnter) fun h => h.wr)

theorem Keeps.motStart {n home} (h : Keeps ex s u) : Keeps ex s (u.motStart n home) :=
  h.ite (h.wrB.both (fun h => h.wrB.raise) fun h => h.wr.motMod.motNext)

theorem Keeps.motStop {n} (h : Keeps ex s u) : Keeps ex s (u.motStop n) :=
  h.ite (h.motOutcome.motNext.ite h.motMod)

theorem Keeps.motAbort {n} (h : Keeps ex s u) : Keeps ex s (u.motAbort n) :=
  h.motOutcome.raise.motNext.ite (h.wrB.ite h)

theorem Keeps.motClear {n} (h : Keeps ex s u) : Keeps ex s (u.motClear n) :=
  h.motEnterIdle.ite h

theorem Keeps.motEnable {n} (h : Keeps ex s u) : Keeps ex s (u.motEnable n) :=
  h.ite (h.wr.unless (fun h => Keeps.motMod (by
    split
    · dsimp only
      exact h.wrB.wr.wrB.wr.wrB.wrB.wr
    · exact h.wrB.wr.wrB.wr.wrB.wrB.wr.free 35)))

theorem Keeps.motDisable {n} (h : Keeps ex s u) : Keeps ex s (u.motDisable n) := by
  unfold State.motDisable
  exact ((h.wr.ite h).also fun h => h.motBrake).wrB.wr.wrB.wrB.motMod

theorem Keeps.motForceIdle {n} (h : Keeps ex s u) : Keeps ex s (u.motForceIdle n) :=
  h.ite ((h.wr.ite h).both (fun h => h.motMod) fun h => h.motEnterIdle).wrB

theorem Keeps.motCount {n up} (h : Keeps ex s u) : Keeps ex s (u.motCount n up) := by
  unfold State.motCount
  exact h.wrS.motMod

theorem Keeps.hallStep {n h'} (h : Keeps ex s u) : Keeps ex s (u.hallStep n h') := by
  unfold State.hallStep
  split
  · exact h
  · dsimp only
    split
    · exact h.motMod
    · exact h.ite (h.motCount.motMod.ite h.motMod.motFault)

theorem Keeps.encStep {n x a b} (h : Keeps ex s u) : Keeps ex s (u.encStep n x a b) := by
  unfold State.encStep
  split
  · exact h
  · exact h.motCount
  · exact h.motCount
  · exact h.motFault

theorem Keeps.motLoopStep {n} (h : Keeps ex s u) : Keeps ex s (u.motLoopStep n) := by
  unfold State.motLoopStep
  exact h.wrS.wrS.motMod

theorem Keeps.obstruction {n len} (h : Keeps ex s u) : Keeps ex s (u.obstruction n len) := by
  unfold State.obstruction
  split
  · exact h.motMod
  · split
    · exact h.motMod
    · dsimp only
      exact h.motMod.ite (h.motMod.unless (fun h => (by
        split
        · exact h.wr.raise.motOutcome.motEnter
        · exact h.wr.raise.motOutcome.motEnter
        · exact h.wr.raise.motOutcome.motEnter)))

theorem Keeps.travel {n} (h : Keeps ex s u) : Keeps ex s (u.travel n) :=
  h.ite (h.ite h.raise.motOutcome.motEnter)

theorem Keeps.brakeFailed {n} (h : Keeps ex s u) : Keeps ex s (u.brakeFailed n) := by
  unfold State.brakeFailed
  exact h.raise.motOutcome.motEnter

theorem Keeps.brakePoll {n} (h : Keeps ex s u) : Keeps ex s (u.brakePoll n) :=
  h.ite ((h.ite h.motEnter).ite (h.brakeFailed.ite h))

theorem Keeps.motStill {n} (h : Keeps ex s u) : Keeps ex s (u.motStill n) :=
  (h.motEnter.ite h.motEnterIdle).ite (h.motEnter.ite (h.motEnterIdle.ite h))

theorem Keeps.reversed {n} (h : Keeps ex s u) : Keeps ex s (u.reversed n) :=
  h.ite (h.motEnter.ite h)

theorem Keeps.observerCount {n x} (h : Keeps ex s u) : Keeps ex s (u.observerCount n x) := by
  unfold State.observerCount
  exact Keeps.motMod (by
    split
    · exact h
    · split
      · exact h.motCount
      · exact h.motCount.motCount
      · exact h.motCount.motCount
      · exact h.motCount
      · exact h)

theorem Keeps.observer {n len} (h : Keeps ex s u) : Keeps ex s (u.observer n len) :=
  h.ite ((((h.free 30).free 32).free 33).observerCount.motMod.both (fun h => h.wrB.ite h) fun h => h.motMod.ite
      (h.motFault.ite h))

theorem Keeps.motEnergy {n} (h : Keeps ex s u) : Keeps ex s (u.motEnergy n) :=
  h.ite ((h.free 34).subEnergy.motMod.ite h.subEnergy.motMod)

theorem Keeps.motHomeFound {n} (h : Keeps ex s u) : Keeps ex s (u.motHomeFound n) :=
  h.ite h.raise.wr.wrB.motOutcome.motNext

theorem Keeps.motTests {n vmot} (h : Keeps ex s u) : Keeps ex s (u.motTests n vmot) :=
  h.ite (h.motFault.ite (h.motFault.ite h))

theorem Keeps.motTurn {n} (h : Keeps ex s u) : Keeps ex s (u.motTurn n) := by
  unfold State.motTurn
  split
  · exact h.motEnter
  · exact h.wr.motEnter.ite h

theorem Keeps.motVgdLow (h : Keeps ex s u) : Keeps ex s u.motVgdLow :=
  h.same

theorem Keeps.motPeriod {n xs vmot} (h : Keeps ex s u) : Keeps ex s (u.motPeriod n xs vmot) :=
  h.wr.unless fun h => (((((h.motMod.ite h).motEnergy.wrB.motMod.motTests.also fun h =>
      h.brakePoll.travel.obstruction).motTurn.brakePoll.observer.travel.obstruction.reversed.also fun h =>
      h.motHomeFound).also fun h => h.motStill).also fun h => h.motLoopStep).motMod

theorem Keeps.motGpio {g level} (h : Keeps ex s u) : Keeps ex s (u.motGpio g level) :=
  h.ite (h.each fun _ _ h => h.motHomeFound.ite h)

theorem Keeps.motPointBad {n p was cmd} (h : Keeps ex s u) : Keeps ex s (u.motPointBad n p was cmd) := by
  unfold State.motPointBad
  split
  · exact h.ite h.raise
  · exact h

theorem Keeps.motRun {n v} (h : Keeps ex s u) : Keeps ex s (u.motRun n v) :=
  (h.motMod.also fun h => h.motStart).ite h.wrB.motStop

theorem Keeps.motApply {n} (h : Keeps ex s u) : Keeps ex s (u.motApply n) :=
  h.ite (h.ite (h.motPointBad.motPointBad.wrB.motMod.both (fun h => h.motOutcome.motNext) (fun h => (by
    dsimp only
    split
    · exact Keeps.motRun (by
        split
        · exact h.motMod
        · exact h)
    · split
      · exact h.motMod
      · exact h))))

theorem Keeps.motTick {n} (h : Keeps ex s u) : Keeps ex s (u.motTick n) :=
  h.ite h.wrS.motMod

theorem Keeps.motMean {n m} (h : Keeps ex s u) : Keeps ex s (u.motMean n m).2 := by
  unfold State.motMean
  extract_lets den
  clear_value den
  split
  · exact h.free 36
  · exact h

theorem Keeps.feedF {cls id v fault stamp} (h : Keeps ex s u) : Keeps ex s (u.feedF cls id v fault stamp) :=
  h.each fun _ _ h => h.hwWrite

theorem Keeps.feedMean {n id m fault} (h : Keeps ex s u) : Keeps ex s (u.feedMean n id m fault) := by
  have mean : Keeps ex s (u.motMean n m).2 := h.motMean
  unfold State.feedMean
  generalize u.motMean n m = p at *
  obtain ⟨v, t⟩ := p
  split
  · exact h
  · exact mean.feedF

theorem Keeps.motStatus {n} (h : Keeps ex s u) : Keeps ex s (u.motStatus n) :=
  h.feed.feed.feed.feedMean.feedMean.feed

theorem Keeps.motStartCmd {n home} (h : Keeps ex s u) : Keeps ex s (u.motStartCmd n home) :=
  h.motStart.ite h

theorem Keeps.motStopCmd {n} (h : Keeps ex s u) : Keeps ex s (u.motStopCmd n) :=
  h.motStop.ite h

theorem Keeps.motAbortCmd {n} (h : Keeps ex s u) : Keeps ex s (u.motAbortCmd n) :=
  h.motAbort.ite h

theorem Keeps.motClearCmd {n} (h : Keeps ex s u) : Keeps ex s (u.motClearCmd n) :=
  h.motClear.ite h

theorem Keeps.execMotEnable {n} (h : Keeps ex s u) : Ends ex s (execMotEnable n u) :=
  h.reach fun _ h => h.inCycle fun _ h => h.motEnable

theorem Keeps.execMotDisable {n} (h : Keeps ex s u) : Ends ex s (execMotDisable n u) :=
  h.reach fun _ h => h.inCycle fun _ h => h.motDisable

theorem Keeps.execMoveMot {n} (h : Keeps ex s u) : Ends ex s (execMoveMot n u) :=
  h.reach fun _ h => h.inCycle fun _ h => h.motStartCmd

theorem Keeps.execHomeMot {n} (h : Keeps ex s u) : Ends ex s (execHomeMot n u) :=
  h.reach fun _ h => h.inCycle fun _ h => h.motStartCmd

theorem Keeps.execMotStop {n} (h : Keeps ex s u) : Ends ex s (execMotStop n u) :=
  h.reach fun _ h => h.inCycle fun _ h => h.motStopCmd

theorem Keeps.execMotAbort {n} (h : Keeps ex s u) : Ends ex s (execMotAbort n u) :=
  h.reach fun _ h => h.inCycle fun _ h => h.motAbortCmd

theorem Keeps.execMotClear {n} (h : Keeps ex s u) : Ends ex s (execMotClear n u) :=
  h.reach fun _ h => h.inCycle fun _ h => h.motClearCmd

theorem Keeps.execMotPeriodStart {n ia ib ic vmot} (h : Keeps ex s u) : Ends ex s (execMotPeriodStart n ia ib ic vmot u) :=
  h.act fun _ h => h.inCycle fun _ h => h.motPeriod

theorem Keeps.motEdge {n e} (h : Keeps ex s u) : Keeps ex s (u.motEdge n e) :=
  h.motMod.unless (fun h => (by
    split
    · exact h.hallStep.ite h
    · exact h.encStep.ite h))

theorem Keeps.execPositionEdge {n e} (h : Keeps ex s u) : Ends ex s (execPositionEdge n e u) :=
  h.act fun _ h => h.inCycle fun _ h => h.motEdge

theorem Keeps.execHallInvalidPersist {n} (h : Keeps ex s u) : Ends ex s (execHallInvalidPersist n u) :=
  h.act fun _ h => h.inCycle fun _ h => h.motFault.ite h

theorem Keeps.execStandstill {n} (h : Keeps ex s u) : Ends ex s (execStandstill n u) :=
  h.act fun _ h => h.inCycle fun _ h => h.ite h.motMod

theorem Keeps.execAlignEnd {n} (h : Keeps ex s u) : Ends ex s (execAlignEnd n u) :=
  h.act fun _ h => h.inCycle fun _ h => h.ite h.motMod.wrB

theorem Keeps.execSlLockTimeout {n} (h : Keeps ex s u) : Ends ex s (execSlLockTimeout n u) :=
  h.act fun _ h => h.inCycle fun _ h => h.motFault.ite h

theorem Keeps.execBrakeTimeout {n} (h : Keeps ex s u) : Ends ex s (execBrakeTimeout n u) :=
  h.act fun _ h => h.inCycle fun _ h => h.brakeFailed.ite h

theorem Keeps.execEngageEnd {n} (h : Keeps ex s u) : Ends ex s (execEngageEnd n u) :=
  h.act fun _ h => h.inCycle fun _ h => h.motEnterIdle.ite h

theorem Keeps.execHomeFound {n} (h : Keeps ex s u) : Ends ex s (execHomeFound n u) :=
  h.act fun _ h => h.inCycle fun _ h => h.motHomeFound.ite h

end Sys2Proof.Machine
end

section
/-! What the operations of Fan.lean keep. -/

namespace Sys2Proof.Machine

set_option Elab.async false

variable {ex : Extent} {s u : State}

theorem Keeps.fanMod {n f} (h : Keeps ex s u) : Keeps ex s (u.fanMod n f) :=
  h.same

theorem Keeps.fanTo {n k} (h : Keeps ex s u) : Keeps ex s (u.fanTo n k) :=
  (h.wr.unless fun h => h.wr).unless fun h => h.fanMod

theorem Keeps.fanKick {n} (h : Keeps ex s u) : Keeps ex s (u.fanKick n) := by
  unfold State.fanKick
  exact h.wr.wrB.fanTo.fanMod

theorem Keeps.fanNewStart {n k} (h : Keeps ex s u) : Keeps ex s (u.fanNewStart n k) :=
  h.wr.wr.fanMod

theorem Keeps.fanStart {n} (h : Keeps ex s u) : Keeps ex s (u.fanStart n) :=
  h.wrB.wr.fanNewStart.fanKick

theorem Keeps.fanLock {n} (h : Keeps ex s u) : Keeps ex s (u.fanLock n) :=
  h.fanTo.wr.raise

theorem Keeps.fanAborted {n abort} (h : Keeps ex s u) : Keeps ex s (u.fanAborted n abort) := by
  unfold State.fanAborted
  exact h.wr.fanTo.wrB.raise.fanMod

theorem Keeps.fanSee {n t} (h : Keeps ex s u) : Keeps ex s (u.fanSee n t) :=
  h.fanMod.both (fun h => h.fanAborted.ite (h.ite (h.fanTo.wrB.ite h.wrB))) fun h => h.fanStart.ite h

theorem Keeps.fanApply {n} (h : Keeps ex s u) : Keeps ex s (u.fanApply n) := by
  unfold State.fanApply
  split
  · exact h
  · split
    · exact h.fanSee
    · dsimp only
      split
      · exact h.wrB
      · exact h.wrB.fanSee
      · exact (h.ite h.wrB.raise).fanSee

theorem Keeps.fanRegTarget {n} (h : Keeps ex s u) : Keeps ex s (u.fanRegTarget n) :=
  h.fanSee.ite h

theorem Keeps.fanEnable {n} (h : Keeps ex s u) : Keeps ex s (u.fanEnable n) :=
  h.ite (h.wr.unless fun h => h.wrB.fanTo.wrB.wr.wr.fanMod.fanRegTarget)

theorem Keeps.fanDisable {n} (h : Keeps ex s u) : Keeps ex s (u.fanDisable n) :=
  (h.fanAborted.ite h).wrB.fanTo.wrB.wr

theorem Keeps.fanForceIdle {n} (h : Keeps ex s u) : Keeps ex s (u.fanForceIdle n) :=
  h.ite (h.wr.ite h).fanTo.wrB.wr

theorem Keeps.fanAbort {n} (h : Keeps ex s u) : Keeps ex s (u.fanAbort n) :=
  h.fanAborted.ite ((h.wrB.fanMod.ite h).ite (h.ite h.wrB))

theorem Keeps.fanRestart {n} (h : Keeps ex s u) : Keeps ex s (u.fanRestart n) :=
  h.fanStart.ite h

theorem Keeps.fanClear {n} (h : Keeps ex s u) : Keeps ex s (u.fanClear n) :=
  (h.fanTo.wrB.ite h).wr

theorem Keeps.fanFault {n reason} (h : Keeps ex s u) : Keeps ex s (u.fanFault n reason) :=
  h.ite ((h.ite (h.unraise.wr.fanTo.ite (h.fanTo.also fun h => h.fanMod))).wr.both (fun h => h.raise) fun h =>
      h.raise)

/-- The speed shown, where it is not drawn. -/
theorem Keeps.shownRpm {n trev : Nat} (h : Keeps ex s u) : Keeps ex s
    (let rpm := 600000000 / trev
    let (rpm, t) := if trev = 0 ∨ 0xFFFF < rpm then u.free 40 else (rpm, u)
    t.wr F.FAN_CH_MEAS_RPM rpm n) := by
  dsimp only
  split
  next drawn => exact (h.free 40).wr
  next => exact h.wr

theorem Keeps.tachEdge {n t} (h : Keeps ex s u) : Keeps ex s (u.tachEdge n t) := by
  unfold State.tachEdge
  exact (h.fanMod.wr.both (fun h => h.fanTo.ite h) fun h => h.wrB.ite h).also fun h => h.shownRpm

theorem Keeps.fanStall {n} (h : Keeps ex s u) : Keeps ex s (u.fanStall n) := by
  unfold State.fanStall
  exact h.wr.raise.fanNewStart.fanTo

theorem Keeps.fanOpen {n} (h : Keeps ex s u) : Keeps ex s (u.fanOpen n) :=
  h.wr.fanFault

theorem Keeps.tachLoss {n} (h : Keeps ex s u) : Keeps ex s (u.tachLoss n) :=
  h.ite (h.fanStall.ite (h.wr.raise.fanTo.fanMod.ite (h.fanOpen.ite h.fanStall)))

theorem Keeps.tachLostTest {n} (h : Keeps ex s u) : Keeps ex s (u.tachLostTest n) :=
  h.ite (h.fanOpen.ite (h.fanStall.ite h))

theorem Keeps.fanLoop {n} (h : Keeps ex s u) : Keeps ex s (u.fanLoop n) :=
  h.ite h.fanMod

theorem Keeps.fanEnergy {n xs vin} (h : Keeps ex s u) : Keeps ex s (u.fanEnergy n xs vin) :=
  (h.free 41).subEnergy.ite h.subEnergy

theorem Keeps.fanPeriod {n raw vin} (h : Keeps ex s u) : Keeps ex s (u.fanPeriod n raw vin) :=
  h.wr.unless (fun h => (Keeps.fanEnergy (by
    split
    · exact h.fanMod.wrS
    · exact h.fanMod)).also fun h => h.fanFault)

theorem Keeps.fanStatus {n} (h : Keeps ex s u) : Keeps ex s (u.fanStatus n) :=
  h.feed.feed.feed.feed

theorem Keeps.fanCmd {f : State → State} (h : Keeps ex s u) (hf : ∀ t, Keeps ex s t → Keeps ex s (f t)) : Keeps ex s (u.fanCmd f)
    :=
  (hf _ h).ite h

theorem Keeps.execFanEnable {n} (h : Keeps ex s u) : Ends ex s (execFanEnable n u) :=
  h.reach fun _ h => h.inCycle fun _ h => h.fanEnable

theorem Keeps.execFanDisable {n} (h : Keeps ex s u) : Ends ex s (execFanDisable n u) :=
  h.reach fun _ h => h.inCycle fun _ h => h.fanDisable

theorem Keeps.execFanAbort {n} (h : Keeps ex s u) : Ends ex s (execFanAbort n u) :=
  h.reach fun _ h => h.inCycle fun _ h => h.fanCmd fun _ h => h.fanAbort

theorem Keeps.execFanRestart {n} (h : Keeps ex s u) : Ends ex s (execFanRestart n u) :=
  h.reach fun _ h => h.inCycle fun _ h => h.fanCmd fun _ h => h.fanRestart

theorem Keeps.execFanClear {n} (h : Keeps ex s u) : Ends ex s (execFanClear n u) :=
  h.reach fun _ h => h.inCycle fun _ h => h.fanCmd fun _ h => h.fanClear

theorem Keeps.execTachEdge {n interval} (h : Keeps ex s u) : Ends ex s (execTachEdge n interval u) :=
  h.act fun _ h => h.inCycle fun _ h => h.tachEdge

theorem Keeps.execStartTimeout {n} (h : Keeps ex s u) : Ends ex s (execStartTimeout n u) :=
  h.act fun _ h => h.inCycle fun _ h => (h.fanTo.ite h.fanLock).ite h

theorem Keeps.execKickEnd {n} (h : Keeps ex s u) : Ends ex s (execKickEnd n u) :=
  h.act fun _ h => h.inCycle fun _ h => h.fanTo.wr.fanMod.ite h

theorem Keeps.execRetryGapEnd {n} (h : Keeps ex s u) : Ends ex s (execRetryGapEnd n u) :=
  h.act fun _ h => h.inCycle fun _ h => (h.fanKick.ite h.fanLock).ite h

theorem Keeps.execFanLoopStep {n} (h : Keeps ex s u) : Ends ex s (execFanLoopStep n u) :=
  h.act fun _ h => h.inCycle fun _ h => h.fanLoop

theorem Keeps.execTachLoss {n} (h : Keeps ex s u) : Ends ex s (execTachLoss n u) :=
  h.act fun _ h => h.inCycle fun _ h => h.tachLoss

theorem Keeps.execTachLostTest {n} (h : Keeps ex s u) : Ends ex s (execTachLostTest n u) :=
  h.act fun _ h => h.inCycle fun _ h => h.tachLostTest

theorem Keeps.execFanPwmPeriod {n samples vin} (h : Keeps ex s u) : Ends ex s (execFanPwmPeriod n samples vin u) :=
  h.act fun _ h => h.fanPeriod

end Sys2Proof.Machine
end

section
/-! What the operations of DriveOff.lean keep. -/

namespace Sys2Proof.Machine

set_option Elab.async false

variable {ex : Extent} {s u : State}

theorem Keeps.outputsOff (h : Keeps ex s u) : Keeps ex s u.outputsOff :=
  ((((h.each fun _ _ h => h.solForceIdle).each fun _ _ h => h.solGroup).each fun _ _ h => h.motForceIdle).each
      fun _ _ h => h.fanForceIdle).each fun _ _ h => h.zswCancel

theorem Keeps.gatesAbandon (h : Keeps ex s u) : Keeps ex s u.gatesAbandon :=
  h.same

theorem Keeps.gatesResume (h : Keeps ex s u) : Keeps ex s u.gatesResume :=
  h.same

theorem Keeps.drivingUpdate (h : Keeps ex s u) : Keeps ex s u.drivingUpdate :=
  h.ite ((h.wrB.gatesResume.each fun _ _ h => h.epulseKick).ite (h.inCycle fun _ h => h.wrB.outputsOff.gatesAbandon))

theorem Keeps.ownRaise (h : Keeps ex s u) : Keeps ex s u.ownRaise :=
  h.wrB.drivingUpdate

theorem Keeps.releaseEvent (h : Keeps ex s u) : Keeps ex s u.releaseEvent :=
  (h.free 70).event

theorem Keeps.ownDrop (h : Keeps ex s u) : Keeps ex s u.ownDrop :=
  h.ite h.wrB.drivingUpdate.releaseEvent

theorem Keeps.execDrivingChange {ownIn} (h : Keeps ex s u) : Ends ex s (execDrivingChange ownIn u) :=
  h.wrB.also fun h => h.drivingUpdate

end Sys2Proof.Machine
end

section
/-! What the operations of Start.lean keep. -/

namespace Sys2Proof.Machine

set_option Elab.async false

variable {ex : Extent} {s u : State}

theorem Keeps.toStep {k} (h : Keeps ex s u) : Keeps ex s (u.toStep k) :=
  h.wr

theorem Keeps.localTick {src} (h : Keeps ex s u) : Keeps ex s (u.localTick src) :=
  h.wr.ite h

theorem Keeps.setRole {r} (h : Keeps ex s u) : Keeps ex s (u.setRole r) :=
  h.wr.unless fun h => h.localTick

theorem Keeps.joinDone (h : Keeps ex s u) : Keeps ex s u.joinDone :=
  h.toStep

theorem Keeps.treTo {k} (h : Keeps ex s u) : Keeps ex s (u.treTo k) :=
  (h.same.ite (h.same.ite h)).wr.also fun h => h.joinDone

theorem Keeps.roleDone (h : Keeps ex s u) : Keeps ex s u.roleDone :=
  h.toStep.treTo.ite (h.wr.ite h).joinDone

theorem Keeps.admitOver (h : Keeps ex s u) : Keeps ex s u.admitOver :=
  h.toStep.setRole.ite h.roleDone

end Sys2Proof.Machine
end

section
/-! What the operations of Twin.lean keep. -/

namespace Sys2Proof.Machine

set_option Elab.async false

variable {ex : Extent} {s u : State}

theorem Keeps.setFrame {f} (h : Keeps .memory s u) : Keeps .memory s (u.setFrame f) :=
  h.rest

theorem Keeps.discipline {err} (h : Keeps .memory s u) : Keeps .memory s (u.discipline err) :=
  h.rest

theorem Keeps.syncLost {r} (h : Keeps ex s u) : Keeps ex s (u.syncLost r) :=
  h.ite h.wrB.wr.event

theorem Keeps.setPartnerCrc {n crc} (h : Keeps ex s u) : Keeps ex s (u.setPartnerCrc n crc) :=
  h.same

theorem Keeps.startAlign (h : Keeps ex s u) : Keeps ex s u.startAlign := by
  unfold State.startAlign
  dsimp only
  split
  · exact h.wrB.wr.same.wr.event
  · exact h.wrB.wr.same.wr.same

theorem Keeps.enterStandby (h : Keeps ex s u) : Keeps ex s u.enterStandby :=
  h.setRole.syncLost.wrB.both (fun h => h.startAlign) fun h => h.wr

theorem Keeps.dropRole (h : Keeps ex s u) : Keeps ex s u.dropRole :=
  h.ite (h.enterStandby.ite h.setRole)

theorem Keeps.execTwinHandshake {id pref role crcs} (h : Keeps ex s u) : Ends ex s (execTwinHandshake id pref role crcs u)
    :=
  h.act fun _ h => h.ite (h.wrB.wr.wr.same.both (fun h => h.event) fun h => h.ite ((h.event.both (fun h =>
      h.setRole.also fun h => h.same) fun h => h.enterStandby).unless fun h => h.roleDone))

theorem Keeps.execArbTimeout (h : Keeps ex s u) : Ends ex s (execArbTimeout u) :=
  h.act fun _ h => h.ite (((h.enterStandby.ite h.setRole).ite (h.setRole.also fun h => h.same)).unless fun h =>
      h.roleDone)

theorem Keeps.execContention (h : Keeps ex s u) : Ends ex s (execContention u) :=
  h.act fun _ h => h.ite h.ownDrop.event.same

theorem Keeps.execContentionRecheck (h : Keeps ex s u) : Ends ex s (execContentionRecheck u) :=
  h.act fun _ h => h.ite (h.same.both (fun h => h.ownRaise) fun h => h.enterStandby.ite h.setRole)

theorem Keeps.winBad (h : Keeps ex s u) : Keeps ex s u.winBad :=
  h.wrB

theorem Keeps.mirrorLoop {n} (h : Keeps ex s u) : Keeps ex s (u.mirrorLoop n) :=
  h.mirror

theorem Keeps.sendBeat (h : Keeps ex s u) : Keeps ex s u.sendBeat :=
  (h.free 71).same

theorem Keeps.mirrorClose (h : Keeps ex s u) : Keeps ex s u.mirrorClose :=
  h.ite ((h.foldl fun _ _ h => h.mirror).sendBeat.ite h.same)

theorem Keeps.partnerEvent {e} (h : Keeps ex s u) : Keeps ex s (u.partnerEvent e) :=
  h.enqueue.both (fun h => h.syncLost) fun h => h.setPartnerCrc.ite h

theorem Keeps.execMirrorFrame {items} (h : Keeps ex s u) : Ends ex s (execMirrorFrame items u) :=
  h.act (fun _ h => h.ite ((h.same.ite h.same).ite ((h.each (fun _ _ h => (by
    split
    · exact h.partnerEvent
    · exact h))).ite h)))

theorem Keeps.execHeartbeat {frame count crcOk} (h : Keeps ex s u) : Ends ex s (execHeartbeat frame count crcOk u) :=
  h.act fun _ h => h.ite h.same

theorem Keeps.spanMissed (h : Keeps ex s u) : Keeps ex s u.spanMissed :=
  h.incSat.syncLost

theorem Keeps.judge (h : Keeps ex s u) : Keeps ex s u.judge :=
  h.ite ((h.spanMissed.ite h).both (fun h => h.same) fun h => h.setRole.event.ite h)

theorem Keeps.takeover (h : Keeps ex s u) : Keeps ex s u.takeover :=
  h.ite (h.setRole.ownRaise.incSat.also fun h => h.incSat).wr48.event

theorem Keeps.putWords {a ws} (h : Keeps ex s u) : Keeps ex s (u.putWords a ws) :=
  h.setDBytes

theorem Keeps.mirrorSwap {n f crc} (h : Keeps ex s u) : Keeps ex s (u.mirrorSwap n f crc) :=
  h.setSch.wrB.same.ite (h.setSch.wrB.ite h.same)

theorem Keeps.mirrorMot {n pos homed aligned alignPos} (h : Keeps ex s u) : Keeps ex s (u.mirrorMot n pos homed aligned
    alignPos) := by
  unfold State.mirrorMot
  exact h.wr.wrB.wrB.same.motMod

theorem Keeps.mirrorActive {kind n on} (h : Keeps ex s u) : Keeps ex s (u.mirrorActive kind n on) :=
  h.same

theorem Keeps.mirrorRecord {seq ws} (h : Keeps ex s u) : Keeps ex s (u.mirrorRecord seq ws) := by
  unfold State.mirrorRecord
  dsimp only
  split
  · exact h.storeRecord
  · exact h.storeRecord.same

/-- The state with a deck in canonical form. -/
theorem Keeps.newDeck {deck} (h : Keeps ex s u) (wf : Sparse.wf 0 u.deck = true → Sparse.wf 0 deck = true) :
    Keeps ex s { u with deck := deck } :=
  h.memories fun hs => (State.memoryWf_iff _).mpr (((State.memoryWf_iff u).mp hs).imp wf id)

theorem Sparse.wf_foldl_set {α : Type} [DecidableEq α] {d : α} {l : List (Nat × α)} {m : Sparse α}
    (wf : Sparse.wf d m = true) : Sparse.wf d (l.foldl (fun m kv => m.set d kv.1 kv.2) m) = true := by
  induction l generalizing m with
  | nil => exact wf
  | cons kv l ih => exact ih (Sparse.wf_set kv.1 kv.2 wf)

theorem Keeps.putArea {a len bytes} (h : Keeps ex s u) : Keeps ex s (u.putArea a len bytes) := by
  unfold State.putArea
  exact (h.newDeck fun wf => Sparse.wf_foldl_set (Sparse.wf_filter wf _)).eccClear

theorem Keeps.putTable {l} (h : Keeps ex s u) : Keeps ex s (u.putTable l) :=
  h.each fun _ _ h => h.same

theorem Keeps.mirrorForce {c} (h : Keeps ex s u) : Keeps ex s (u.mirrorForce c) :=
  h.same

theorem Keeps.putPlane {fs cs} (h : Keeps ex s u) : Keeps ex s (u.putPlane fs cs) :=
  h.same

theorem Keeps.mirrorApply {x} (h : Keeps ex s u) (part : ex.wholeSpan = false := by trivial) : Keeps ex s (u.mirrorApply x) := by
  unfold State.mirrorApply
  split
  · exact h.same
  · exact h.foldl fun _ _ h => h.setDWord
  · exact h.putWords
  · exact h.same
  · exact h.mirrorForce
  · exact h.wrB.wrB.solMod.mirrorActive
  · exact h.mirrorMot.mirrorActive
  · exact h.wr.mirrorActive
  · exact h.same.wr
  · exact h.mirrorRecord
  · exact h
  · exact h.mirrorSwap
  · exact h.inSpan
  · exact h.moveTail
  · exact h.putTable
  · exact h.putArea
  · exact h.putPlane
  · exact h.wr.wr

theorem Keeps.resumeChannel {kn} (h : Keeps ex s u) : Keeps ex s (u.resumeChannel kn) := by
  unfold State.resumeChannel
  split
  · exact h.wrB
  · exact h.wrB
  · exact h.wrB

theorem Keeps.restorePoint {p} (h : Keeps ex s u) : Keeps ex s (u.restorePoint p) := by
  unfold State.restorePoint
  split
  · exact h.same
  · exact h.same

theorem Keeps.alignProgress (h : Keeps ex s u) : Keeps ex s u.alignProgress :=
  h.wr.ite h

theorem Keeps.takeoverFinish (h : Keeps ex s u) : Keeps ex s u.takeoverFinish :=
  (((h.foldl fun _ _ h => h.restorePoint).foldl fun _ _ h => h.resumeChannel).same.foldl fun _ _ h =>
      h.enqueue).unless fun h => h.syncLost

theorem Keeps.syncSet (h : Keeps ex s u) : Keeps ex s u.syncSet :=
  h.same.wrB.wr.event

theorem Keeps.standbyTick {take} (h : Keeps ex s u) (part : ex.wholeSpan = false := by trivial) : Keeps ex s (u.standbyTick take) :=
  (((h.foldl fun _ _ h => h.mirrorApply).ite h).also fun h => h.foldl fun _ _ h => h.mirrorApply).same.both (fun h =>
      h.takeoverFinish) fun h => ((h.syncSet.ite h).same.unless fun h => (h.each fun _ _ h =>
      h.setPartnerCrc).syncLost).also fun h => h.startAlign

theorem Keeps.activeTick (h : Keeps ex s u) : Keeps ex s u.activeTick :=
  ((h.wr.wr.also fun h => h.syncLost).same.both (fun h => h.syncSet) fun h => h.startAlign.ite h).also fun h =>
      h.same.ownRaise

theorem Keeps.pairSwaps (h : Keeps ex s u) : Keeps ex s u.pairSwaps :=
  h.each (fun _ _ h => (by
    split
    · exact h.setPartnerCrc.ite h
    · exact h))

theorem Keeps.mirrorTick (h : Keeps ex s u) (part : ex.wholeSpan = false := by trivial) : Keeps ex s u.mirrorTick :=
  h.ite (h.pairSwaps.alignProgress.both (fun h => h.standbyTick) fun h => h.standbyTick.ite (h.activeTick.ite
      (h.enterStandby.ite h)))

theorem Keeps.relArm (h : Keeps ex s u) : Keeps ex s u.relArm :=
  h.ite (h.wr.ite h.wr.same)

theorem Keeps.relCancel (h : Keeps ex s u) : Keeps ex s u.relCancel := by
  unfold State.relCancel
  split
  · exact h.wr.same.ite h.wrB
  · exact h.wrB.ite h

theorem Keeps.relDrop (h : Keeps ex s u) : Keeps ex s u.relDrop :=
  h.ite h.same.ownDrop.wr.dropRole

theorem Keeps.realign (h : Keeps ex s u) : Keeps ex s u.realign :=
  h.wrB.startAlign.ite h

theorem Keeps.execAlignDone {items} (h : Keeps ex s u) : Ends ex s (execAlignDone items u) :=
  h.act fun _ h => h.ite h.same.wrB.wr

theorem laneFld_offClock (l : Nat) : (laneFld l).offClock = true := by
  unfold laneFld
  split <;> rfl

theorem Keeps.twinLaneDown {l} (h : Keeps ex s u) : Keeps ex s (u.twinLaneDown l) :=
  (h.wrB (laneFld_offClock l)).unless fun h => h.same.also fun h => h.syncLost

theorem Keeps.execTwinLaneDown {l} (h : Keeps ex s u) : Ends ex s (execTwinLaneDown l u) :=
  h.act fun _ h => h.twinLaneDown

theorem Keeps.execTwinLaneUp {l} (h : Keeps ex s u) : Ends ex s (execTwinLaneUp l u) :=
  h.act fun _ h => h.ite ((h.wrB (laneFld_offClock l)).same.both (fun h => h.enterStandby) fun h => h.startAlign.ite h)

theorem Keeps.execPlannedRelease (h : Keeps ex s u) : Ends ex s (execPlannedRelease u) :=
  h.act fun _ h => h.relArm

theorem Keeps.execReleaseCancel (h : Keeps ex s u) : Ends ex s (execReleaseCancel u) :=
  h.act fun _ h => h.relCancel

theorem Keeps.execRealign (h : Keeps ex s u) : Ends ex s (execRealign u) :=
  h.act fun _ h => h.realign

theorem Keeps.execTwinTickMarker {frame} (h : Keeps .memory s u) : Ends .memory s (execTwinTickMarker frame u) :=
  h.act fun _ h => h.fresh.wr.setFrame.discipline.ite h

end Sys2Proof.Machine
end

section
/-! What the operations of Trestle.lean keep. -/

namespace Sys2Proof.Machine

set_option Elab.async false

variable {ex : Extent} {s u : State}

theorem Keeps.portsDown (h : Keeps ex s u) : Keeps ex s u.portsDown :=
  h.each fun _ _ h => h.wr

theorem Keeps.leaveRing {k r} (h : Keeps ex s u) : Keeps ex s (u.leaveRing k r) :=
  h.wr.portsDown.wrB.wrB.localTick.treTo

theorem Keeps.treDisable (h : Keeps ex s u) : Keeps ex s u.treDisable :=
  h.leaveRing

theorem Keeps.masterFrame (h : Keeps ex s u) : Keeps ex s (u.masterFrame).2 :=
  h.free 71

theorem Keeps.announceD {a d} (h : Keeps ex s u) : Keeps ex s (u.announceD a d) :=
  h.same.wr48.wr.wrB

theorem Keeps.masterUpdate (h : Keeps ex s u) : Keeps ex s u.masterUpdate :=
  h.ite ((h.wr.wr.unless fun h => h.masterFrame.announceD).unless fun h => h.masterFrame.same)

theorem Keeps.reportHops (h : Keeps ex s u) : Keeps ex s u.reportHops :=
  h.treSendBoth.ite h

theorem Keeps.execLaneBlockLock {p} (h : Keeps ex s u) : Ends ex s (execLaneBlockLock p u) :=
  h.act fun _ h => h.wr.ite h

theorem Keeps.execTrainingDone {p rt nbr} (h : Keeps ex s u) : Ends ex s (execTrainingDone p rt nbr u) :=
  h.act fun _ h => h.ite (h.wr.wr.wr.raise.reportHops.also fun h => h.same.treTo)

theorem Keeps.portDown {p cause} (h : Keeps ex s u) : Keeps ex s (u.portDown p cause) :=
  h.ite h.wr.incSat.wrB.raise.reportHops.masterUpdate

theorem Keeps.execLaneLockLoss {p cause} (h : Keeps ex s u) : Ends ex s (execLaneLockLoss p cause u) :=
  h.act fun _ h => h.portDown

theorem Keeps.execRingTrainTimeout (h : Keeps ex s u) : Ends ex s (execRingTrainTimeout u) :=
  h.act fun _ h => h.leaveRing.ite h

theorem Keeps.execAnnounceFrame {m lowest} (h : Keeps ex s u) : Ends ex s (execAnnounceFrame m lowest u) :=
  h.act fun _ h => h.ite ((h.ite h.treSendBoth).both (fun h => h.leaveRing.event.ite h.wrB.masterUpdate) fun h =>
      (h.same.also fun h => h.wrB).both (fun h => h.leaveRing.event) fun h => (h.ite h.same).masterUpdate)

theorem Keeps.execElectionSettled (h : Keeps ex s u) : Ends ex s (execElectionSettled u) :=
  h.act (fun _ h => (by
    split
    · exact h
    · exact h.ite (((h.wr.wrB.also fun h => h.localTick).wr.same.also fun h => h.event).both (fun h => h.treTo)
        fun h => h.treTo.ite h).masterUpdate))

theorem Keeps.execJoinLocked (h : Keeps ex s u) : Ends ex s (execJoinLocked u) :=
  h.act fun _ h => h.treTo.ite h

theorem Keeps.takeAnnouncements {k} (h : Keeps .memory s u) : Keeps .memory s (u.takeAnnouncements k) := by
  unfold State.takeAnnouncements
  dsimp only
  split
  · exact Keeps.also (by
      split
      · exact Keeps.same (by
          split
          · exact h.wr.wr.wrB.also fun h => h.announceD
          · exact h.wr.wr.wrB.unless fun h => h.wr)
      · split
        · exact h.wr.wr.wrB.also fun h => h.announceD
        · exact h.wr.wr.wrB.unless fun h => h.wr) fun h => h.rest
  · exact Keeps.also (by
      split
      · exact Keeps.same (by
          split
          · exact h.wr.wr.wrB.also fun h => h.announceD
          · exact h.wr.wr.wrB.unless fun h => h.wr)
      · split
        · exact h.wr.wr.wrB.also fun h => h.announceD
        · exact h.wr.wr.wrB.unless fun h => h.wr) fun h => h.rest

theorem Keeps.adoptFrame {f} (h : Keeps .memory s u) : Keeps .memory s (u.adoptFrame f) :=
  h.ite h.setFrame.event

theorem Keeps.execTreTickMarker {p k} (h : Keeps .memory s u) : Ends .memory s (execTreTickMarker p k u) :=
  h.act fun _ h => (h.treSend.ite h).unless fun h => (h.wr.event.ite
      h).adoptFrame.wrS.wr.discipline.same.takeAnnouncements

theorem Keeps.execMasterMarkerMiss (h : Keeps ex s u) : Ends ex s (execMasterMarkerMiss u) :=
  h.act fun _ h => h.ite h.localTick.treTo.event.same.same

theorem Keeps.takeUpdate {f u'} (h : Keeps ex s u) : Keeps ex s (u.takeUpdate f u') :=
  h.ite (h.same.both (fun h => h.same) fun h => h.incSat.event.same.ite h)

theorem Keeps.execUpdateFrame {f} (h : Keeps ex s u) : Ends ex s (execUpdateFrame f u) :=
  h.act fun _ h => h.ite (h.incSat.ite (h.ite (h.treSend.also fun h => h.each fun _ _ h => h.takeUpdate)))

theorem Keeps.launchWaiting {us} (h : Keeps ex s u) : Keeps ex s (u.launchWaiting us) := by
  induction us generalizing u with
  | nil => exact h.same
  | cons x us ih => exact (ih h.launch).ite h.same

theorem Keeps.execQueueLaunch (h : Keeps ex s u) : Ends ex s (execQueueLaunch u) :=
  h.act fun _ h => h.launchWaiting.sendFrames.ite h

theorem Keeps.changeD (h : Keeps ex s u) : Keeps ex s u.changeD := by
  unfold State.changeD
  split
  · exact h.same.wr.wrB.event.ite h
  · exact h

theorem Keeps.changeGrant (h : Keeps ex s u) : Keeps ex s u.changeGrant := by
  unfold State.changeGrant
  split
  · exact h.wr.same.ite h
  · exact h

theorem Keeps.treTick (h : Keeps ex s u) : Keeps ex s u.treTick :=
  (h.same.changeD.changeGrant.masterUpdate.also fun h => h.treSendBoth).also fun h => h.treSendBoth

end Sys2Proof.Machine
end

section
/-! What the operations of Keep.lean keep. -/

namespace Sys2Proof.Machine

set_option Elab.async false

variable {ex : Extent} {s u : State}

theorem Keeps.execSupplySwitch {toVbat} (h : Keeps ex s u) : Ends ex s (execSupplySwitch toVbat u) := by
  unfold Machine.execSupplySwitch
  split
  · exact h
  · dsimp only
    exact h.wrB.also fun h => h.incSat

theorem Keeps.lossLatch (h : Keeps ex s u) : Keeps ex s u.lossLatch :=
  h.wrB.wrB.wrB.wr.wrB.same

theorem Keeps.execLossLatch (h : Keeps ex s u) : Ends ex s (execLossLatch u) :=
  h.lossLatch

theorem Keeps.execOscStopDetect (h : Keeps ex s u) : Ends ex s (execOscStopDetect u) :=
  h.wrB.wrB

theorem Keeps.keepValidate (h : Keeps ex s u) : Keeps ex s u.keepValidate :=
  h.same.ite h.wrB

theorem Keeps.keepCommit {adjust i} (h : Keeps ex s u) : Keeps ex s (u.keepCommit adjust i) :=
  h.wrB.ite h.wrB.same

theorem Keeps.execValidate (h : Keeps ex s u) : Ends ex s (execValidate u) :=
  h.reach fun _ h => h.keepValidate

theorem Keeps.wakeEnd (h : Keeps ex s u) : Keeps ex s u.wakeEnd :=
  h.wrB.same

theorem Keeps.wakeEdge {n} (h : Keeps ex s u) : Keeps ex s (u.wakeEdge n) :=
  (h.ite h.same).both (fun h => h.same) (fun h => (by
    split
    · exact h
    · exact h.wakeEnd.same.ite h.same))

theorem Keeps.keepCopy (h : Keeps ex s u) : Keeps ex s u.keepCopy :=
  h.same

theorem Keeps.commitEdge {c base old} (h : Keeps ex s u) : Keeps ex s (u.commitEdge c base old) :=
  (h.same.wrB.unless fun h => h.wrB.wrB).keepCopy.event

theorem Keeps.validateEdge (h : Keeps ex s u) : Keeps ex s u.validateEdge :=
  h.ite (h.same.wr.each fun _ _ h => h.wr).wrB.wrB.event

theorem Keeps.countEdge {n} (h : Keeps ex s u) : Keeps ex s (u.countEdge n) := by
  unfold State.countEdge
  dsimp only
  split
  · split
    · exact h.same.commitEdge
    · exact h.same.same.keepCopy
  · split
    · exact h.commitEdge
    · exact h.same.keepCopy

theorem Keeps.keepEdge (h : Keeps ex s u) : Keeps ex s u.keepEdge :=
  ((h.same.both (fun h => h.same) fun h => h.countEdge.validateEdge.wakeEdge).also fun h => h.wakeEdge).same

theorem Keeps.execCkLfEdge (h : Keeps ex s u) : Ends ex s (execCkLfEdge u) :=
  h.keepEdge

theorem Keeps.execCommitEdge (h : Keeps ex s u) : Ends ex s (execCommitEdge u) :=
  h.keepEdge.ite h

theorem Keeps.execValidateEdge (h : Keeps ex s u) : Ends ex s (execValidateEdge u) :=
  h.keepEdge.ite h

theorem Keeps.execThawCatchup (h : Keeps ex s u) : Ends ex s (execThawCatchup u) :=
  h.keepEdge.ite h

theorem Keeps.execWakePeriodEnd (h : Keeps ex s u) : Ends ex s (execWakePeriodEnd u) :=
  h.wakeEnd.ite h

theorem Keeps.wakeEnWritten {was} (h : Keeps ex s u) : Keeps ex s (u.wakeEnWritten was) :=
  h.same.ite (h.same.ite h)

theorem Keeps.tkLo {i} (h : Keeps ex s u) : Keeps ex s (u.tkLo i).2 := by
  unfold State.tkLo
  dsimp only
  split
  · exact h
  · dsimp only
    exact h.same

theorem Keeps.tkFlg {i} (h : Keeps ex s u) : Keeps ex s (u.tkFlg i).2 := by
  unfold State.tkFlg
  split
  · exact h
  · exact h

theorem Keeps.tkHi {i} (h : Keeps ex s u) : Keeps ex s (u.tkHi i).2 := by
  unfold State.tkHi
  dsimp only
  split
  · dsimp only
    exact h.same
  · exact h

theorem Keeps.execShadowExpiry {i} (h : Keeps ex s u) : Ends ex s (execShadowExpiry i u) :=
  h.ite (h.same.also fun h => h.event)

theorem Keeps.keepRam {w d} (h : Keeps ex s u) : Keeps ex s (u.keepRam w d) :=
  (h.wr.ite h).ite (h.ite h.wr)

theorem Keeps.execKeepRamWrite {w d} (h : Keeps ex s u) : Ends ex s (execKeepRamWrite w d u) :=
  h.reach fun _ h => h.keepRam

theorem Keeps.keepTrim {d} (h : Keeps ex s u) : Keeps ex s (u.keepTrim d) :=
  h.ite h.wr

theorem Keeps.execTrimWrite {d} (h : Keeps ex s u) : Ends ex s (execTrimWrite d u) :=
  h.reach fun _ h => h.keepTrim

end Sys2Proof.Machine
end

section
/-! What the operations of Recorder.lean keep. -/

namespace Sys2Proof.Machine

set_option Elab.async false

variable {ex : Extent} {s u : State}

theorem Keeps.evrAct {f : State → State} (h : Keeps ex s u) (hf : ∀ t, Keeps ex s t → Keeps ex s (f t)) : Ends ex s (u.evrAct f)
    :=
  h.act fun _ h => (hf _ h).ite h

theorem Keeps.evrStart (h : Keeps ex s u) : Keeps ex s u.evrStart :=
  h.ite h.wrB.same

theorem Keeps.execRecordWrite (h : Keeps ex s u) : Ends ex s (execRecordWrite u) :=
  h.evrAct fun _ h => h.recordNext

theorem Keeps.execTokenReturn {code} (h : Keeps ex s u) : Ends ex s (execTokenReturn code u) :=
  h.evrAct fun _ h => h.tokenReturn

theorem Keeps.winLatch {n} (h : Keeps ex s u) : Keeps ex s (u.winLatch n) :=
  (h.each fun _ _ h => h.wr).same

theorem Keeps.winAdvance {n} (h : Keeps ex s u) : Keeps ex s (u.winAdvance n) :=
  h.ite (h.same.also fun h => h.wr)

theorem Keeps.execWinLatch {n} (h : Keeps ex s u) : Ends ex s (execWinLatch n u) :=
  h.act fun _ h => h.winLatch

theorem Keeps.execWinAdvance {n} (h : Keeps ex s u) : Ends ex s (execWinAdvance n u) :=
  h.act fun _ h => h.winAdvance

theorem Keeps.curPos {n v} (h : Keeps ex s u) : Keeps ex s (u.curPos n v) :=
  h.wr.ite h.wrB

theorem Keeps.curAck {n v} (h : Keeps ex s u) : Keeps ex s (u.curAck n v).2 := by
  unfold State.curAck
  dsimp only
  split
  · dsimp only
    exact h.wr.tailFromAcks
  · dsimp only
    exact h.wrB

theorem Keeps.execCurPosWrite {n v} (h : Keeps ex s u) : Ends ex s (execCurPosWrite n v u) :=
  h.act fun _ h => h.curPos

theorem Keeps.execCurAckWrite {n v} (h : Keeps ex s u) : Ends ex s (execCurAckWrite n v u) :=
  h.act fun _ h => h.curAck

theorem Keeps.evrClear {i} (h : Keeps ex s u) : Keeps ex s (u.evrClear i) :=
  (h.same.foldl fun _ _ h => h.returnSummary).mirror.moveTail.same.event.recordNext.same

theorem Keeps.evrClr {i v} (h : Keeps ex s u) : Keeps ex s (u.evrClr i v) := by
  unfold State.evrClr
  split
  · exact h.ite h.same
  · split
    · exact h.same.ite h
    · exact h.same.also fun h => h.evrClear

theorem Keeps.execClrFirst {i} (h : Keeps ex s u) : Ends ex s (execClrFirst i u) :=
  h.act fun _ h => h.evrClr

theorem Keeps.execClrSecond {i} (h : Keeps ex s u) : Ends ex s (execClrSecond i u) :=
  h.act fun _ h => h.evrClr

theorem Keeps.execClrExpiry (h : Keeps ex s u) : Ends ex s (execClrExpiry u) :=
  h.act fun _ h => h.same

end Sys2Proof.Machine
end

section
/-! What the operations of PierCore.lean keep. -/

namespace Sys2Proof.Machine

set_option Elab.async false

variable {ex : Extent} {s u : State}

theorem Keeps.schTo {n k} (h : Keeps ex s u) : Keeps ex s (u.schTo n k) :=
  h.wr

theorem Keeps.modCore {c f} (h : Keeps ex s u) : Keeps ex s (u.modCore c f) :=
  h.setCore

theorem Keeps.modSch {n f} (h : Keeps ex s u) : Keeps ex s (u.modSch n f) :=
  h.setSch

theorem Keeps.clearGprs {c} (h : Keeps ex s u) : Keeps ex s (u.clearGprs c) :=
  h.piers

theorem Keeps.saveShadow {n order b} (h : Keeps ex s u) : Keeps ex s (u.saveShadow n order b) :=
  h.piers.also fun h => h.setDBytes.mirrorRange

theorem Keeps.bpSave {c slice next} (h : Keeps ex s u) : Keeps ex s (u.bpSave c slice next) := by
  unfold State.bpSave
  dsimp only
  split
  · exact h
  · exact h.saveShadow.modCore

theorem Keeps.bpStart {c n t} (h : Keeps ex s u) : Keeps ex s (u.bpStart c n t) := by
  unfold State.bpStart
  exact (h.clearGprs.both (fun h => h.each fun _ _ h => h.setGpr) fun h => h.setGpr).modCore

theorem Keeps.bpTurn {c} (h : Keeps ex s u) : Keeps ex s (u.bpTurn c) := by
  unfold State.bpTurn
  dsimp only
  split
  · exact h
  · split
    · exact h
    · split
      · exact h
      · exact h.bpStart

theorem Keeps.bpPreempt {c} (h : Keeps ex s u) : Keeps ex s (u.bpPreempt c) := by
  unfold State.bpPreempt
  dsimp only
  split
  · exact h.bpSave.ite h
  · exact h

theorem Keeps.bpLeave {c} (h : Keeps ex s u) : Keeps ex s (u.bpLeave c) := by
  unfold State.bpLeave
  split
  · exact h.bpSave.bpTurn.ite h
  · exact h

theorem Keeps.fpStart {c t} (h : Keeps ex s u) : Keeps ex s (u.fpStart c t) := by
  unfold State.fpStart
  exact h.clearGprs.setGpr.setGpr.setGpr.modCore

theorem Keeps.fpNext {c lo} (h : Keeps ex s u) : Keeps ex s (u.fpNext c lo) := by
  unfold State.fpNext
  dsimp only
  split
  · exact (h.ite h.wr).modCore.bpTurn
  · split
    · exact (h.ite h.wr).modCore.bpTurn
    · exact h.fpStart

theorem Keeps.markIdle {n} (h : Keeps ex s u) : Keeps ex s (u.markIdle n) :=
  h.ite h.same

theorem Keeps.dispatchCore {c} (h : Keeps ex s u) : Keeps ex s (u.dispatchCore c) :=
  h.modCore.both (fun h => h.markIdle) fun h => h.bpTurn.ite h.bpPreempt.modCore.fpNext

theorem Keeps.overrunRest {c} (h : Keeps ex s u) : Keeps ex s (u.overrunRest c) :=
  h.same

theorem Keeps.undoWrites {c} (h : Keeps ex s u) : Keeps ex s (u.undoWrites c) :=
  h.each fun _ _ h => h.same

theorem Keeps.markOverran {no} (h : Keeps ex s u) : Keeps ex s (u.markOverran no) :=
  h.ite h.same

theorem Keeps.coreStop {c} (h : Keeps ex s u) : Keeps ex s (u.coreStop c) := by
  unfold State.coreStop
  exact (Keeps.overrunRest (by
    split
    · exact h.ite h.undoWrites
    · exact h)).modCore

theorem Keeps.showSpares (h : Keeps ex s u) : Keeps ex s u.showSpares :=
  h.wr.each fun _ _ h => h.schTo.ite h

theorem Keeps.loseSched {n code words} (h : Keeps ex s u) : Keeps ex s (u.loseSched n code words) :=
  h.schTo.raise.also fun h => h.ownDrop.dropRole

theorem Keeps.retireCore {c} (h : Keeps ex s u) : Keeps ex s (u.retireCore c) := by
  unfold State.retireCore
  exact h.coreStop.both (fun h => h.piers.showSpares) (fun h => (by
    split
    · exact h
    · dsimp only
      exact h.loseSched.ite ((h.free 90).piers.showSpares.both (fun h => h.piers) fun h => h.piers.wrB)))

theorem Keeps.retireTcm {unit source} (h : Keeps ex s u) : Keeps ex s (u.retireTcm unit source) := by
  unfold State.retireTcm
  exact h.setMap.event.retireCore

theorem Keeps.tcmError {unit} (h : Keeps ex s u) : Keeps ex s (u.tcmError unit) :=
  h.startTest.retireClass fun _ _ _ h => h.retireTcm

theorem Keeps.trapRecord {c cause} (h : Keeps ex s u) : Keeps ex s (u.trapRecord c cause) :=
  (h.wr.wr.wrB.wr.both (fun h => h.incSat) fun h => h.incSat).raise

theorem Keeps.untestedReturn {c unit} (h : Keeps ex s u) : Keeps ex s (u.untestedReturn c unit) :=
  h.ite h.modSch

theorem Keeps.trap {c cause mem} (h : Keeps ex s u) : Keeps ex s (u.trap c cause mem) := by
  unfold State.trap
  split
  · exact h
  · exact (h.trapRecord.also fun h => h.clrMap).both (fun h => h.coreStop.tcmError.untestedReturn) fun h =>
      h.modCore.bpTurn.ite h.undoWrites.markOverran.fpNext

theorem Keeps.coreRun {c t n} (h : Keeps ex s u) : Keeps ex s (u.coreRun c t n) := by
  induction n generalizing u with
  | zero => exact h.modCore
  | succ n ih =>
    unfold State.coreRun
    dsimp only
    split
    · exact h
    · split
      · exact h.setCore
      · exact h.setCore.ite (h.setCore.ite ((ih h.setCore.bpLeave).ite (ih h.setCore.trap)))

theorem Keeps.coreTo {c t} (h : Keeps ex s u) : Keeps ex s (u.coreTo c t) :=
  h.coreRun

/-- Where time has passed to `p`, before the cores run on. -/
def State.atPhase (s : State) (p : Nat) : State := { s with span := { s.span with phase := max p s.span.phase } }

/-- The cores that run on move no clock but their own. -/
theorem State.toPhase_keeps (s : State) (p : Nat) : Keeps ex (s.atPhase p) (s.toPhase p) :=
  Keeps.rfl.each fun _ _ h => h.coreTo

theorem Keeps.toPhase {p} (h : Keeps .memory s u) : Keeps .memory s (u.toPhase p) :=
  h.rest.each fun _ _ h => h.coreTo

theorem Keeps.clearLevel {c k} (h : Keeps ex s u) : Keeps ex s (u.clearLevel c k) :=
  h.setGpr.setGpr

theorem Keeps.endOfBody {c pc k} (h : Keeps ex s u) : Keeps ex s (u.endOfBody c pc k).1 := by
  induction k generalizing u with
  | zero => exact h
  | succ k ih =>
    unfold State.endOfBody
    split
    · exact ih h
    · split
      · exact h
      · dsimp only
        split
        · exact ih h.clearLevel
        · exact h.setGpr

theorem Keeps.leaveLevels {c pc} (h : Keeps ex s u) : Keeps ex s (u.leaveLevels c pc) := by
  unfold State.leaveLevels
  split
  · exact h
  · exact h.each fun _ _ h => h.clearLevel

theorem Keeps.pierDone {o cost issue joined npc} (h : Keeps ex s u) : Keeps ex s (u.pierDone o cost issue joined npc) := by
  unfold State.pierDone
  dsimp only
  split
  · exact h
  · exact h.endOfBody.modCore.both (fun h => h.bpLeave) fun h => h.bpPreempt.ite h

theorem Keeps.codeFound {c pc} (h : Keeps ex s u) : Keeps ex s (u.codeFound c pc) :=
  h.same

theorem Keeps.fetched {c pc} (h : Keeps ex s u) : Keeps ex s (u.fetched c pc) :=
  h.codeFound.tcmError.ite h

theorem Keeps.pierRun {o extra isYield} {body : State → PierRes} (h : Keeps ex s u)
    (hbody : ∀ t, Keeps ex s t → Fine ex s (body t)) : Keeps ex s (u.pierRun o extra body isYield) := by
  unfold State.pierRun
  dsimp only
  split
  · exact h
  · refine h.ite (h.trap.ite (h.codeFound.trap.ite (h.trap.ite (h.setCore.trap.ite ?_))))
    generalize begun : (u.setCore o.core ((u.core o.core).spend
      (if (u.core o.core).joins o then 0 else (u.core o.core).readyAt o.reads - (u.core o.core).clk))).fetched o.core
        (u.core o.core).pc = w
    have hw : Keeps ex s w := begun ▸ h.setCore.fetched
    have fine := hbody w hw
    split
    next eq => exact hw.modCore.trap
    next eq => exact hw.modCore.trap
    next t eq => rw [eq] at fine; exact Keeps.trap (Keeps.modCore fine)
    next t eq => rw [eq] at fine; exact Keeps.trap (Keeps.modCore fine)
    next eq => exact hw.modCore
    next t eq => rw [eq] at fine; exact Keeps.pierDone fine
    next t pc eq => rw [eq] at fine; exact Keeps.pierDone (Keeps.ite (Keeps.leaveLevels fine) fine)
    next t eq =>
      rw [eq] at fine
      have ended {f} : Keeps ex s (((t.endOfBody o.core ((w.core o.core).pc + 4) 4).1).modCore o.core f) :=
        Keeps.modCore (Keeps.endOfBody fine)
      exact ended.bpLeave.ite ended.fpNext

theorem Keeps.keepHeld {c i waits} {was : State} (h : Keeps ex s u) : Keeps ex s (was.keepHeld u c i waits) :=
  h.modCore.ite h

theorem Keeps.pierAct {i extra isYield} {body : State → PierRes} (h : Keeps ex s u) (hbody : ∀ t, Keeps ex s t → Fine ex s
    (body t)) : Ends ex s (u.pierAct i extra body isYield) := by
  unfold State.pierAct
  split
  · exact h
  · exact h.act fun _ h => h.pierRun fun _ h => hbody _ h

theorem Keeps.deckAct {i} {body : State → PierRes} (h : Keeps ex s u) (hbody : ∀ t, Keeps ex s t → Fine ex s (body t)) : Ends
    ex s (u.deckAct i body) := by
  unfold State.deckAct
  split
  · exact h
  · exact h.act fun _ h => (h.pierRun fun _ h => hbody _ h).keepHeld

end Sys2Proof.Machine
end

section
/-! What the operations of Operands.lean keep. -/

namespace Sys2Proof.Machine

set_option Elab.async false

variable {ex : Extent} {s u : State}

theorem Keeps.put {c g v} (h : Keeps ex s u) : Keeps ex s (u.put c g v) :=
  h.setGpr

theorem Keeps.putGroup {c g vs} (h : Keeps ex s u) : Keeps ex s (u.putGroup c g vs) :=
  h.each fun _ _ h => h.setGpr

theorem Keeps.setZN {c r} (h : Keeps ex s u) : Keeps ex s (u.setZN c r) :=
  h.modCore

theorem Keeps.setZNCV {c r carry over'} (h : Keeps ex s u) : Keeps ex s (u.setZNCV c r carry over') :=
  h.modCore

theorem Keeps.stickyQs {c b} (h : Keeps ex s u) : Keeps ex s (u.stickyQs c b) :=
  h.modCore.ite h

theorem Keeps.stickyFx {c b} (h : Keeps ex s u) : Keeps ex s (u.stickyFx c b) :=
  h.modCore.ite h

theorem Keeps.setTcmByte {a b} (h : Keeps ex s u) : Keeps ex s (u.setTcmByte a b) :=
  h.memories (State.setTcmByte_memoryWf a b)

theorem Keeps.setTcmBytes {a bs} (h : Keeps ex s u) : Keeps ex s (u.setTcmBytes a bs) :=
  h.each fun _ _ h => h.setTcmByte

theorem Keeps.localLoad {c gd ga imm ecc size ext} (h : Keeps ex s u) : Fine ex s (u.localLoad c gd ga imm ecc size ext) :=
    by
  unfold State.localLoad
  dsimp only
  split
  · exact trivial
  · split
    · exact h.put
    · exact h.put.tcmError
    · exact trivial

theorem Keeps.localStore {c gd ga imm size} (h : Keeps ex s u) : Fine ex s (u.localStore c gd ga imm size) := by
  unfold State.localStore
  dsimp only
  split
  · exact trivial
  · exact h.setTcmBytes

end Sys2Proof.Machine
end

section
/-! What the operations of Sens.lean keep. -/

namespace Sys2Proof.Machine

set_option Elab.async false

variable {ex : Extent} {s u : State}

theorem Keeps.iexApply {k} (h : Keeps ex s u) : Keeps ex s (u.iexApply k) :=
  h.ite (h.wrB.ite h).wr.same

theorem Keeps.iexSample {k compl} (h : Keeps ex s u) : Keeps ex s (u.iexSample k compl) :=
  h.wrB.also fun h => h.wrB

theorem Keeps.chkMod {m f} (h : Keeps ex s u) : Keeps ex s (u.chkMod m f) :=
  h.same

theorem Keeps.chkEnable {m} (h : Keeps ex s u) : Keeps ex s (u.chkEnable m) :=
  h.ite (h.wr.unless fun h => h.wrB.wr.wrB.wr.wrB.chkMod)

theorem Keeps.chkKind {m n j opened c compl} (h : Keeps ex s u) : Keeps ex s (u.chkKind m n j opened c compl) :=
  h.wr.both (fun h => h.raise) fun h => h.raise

theorem Keeps.chkFaulty {m n j opened c compl} (h : Keeps ex s u) : Keeps ex s (u.chkFaulty m n j opened c compl) :=
  (h.wr.unless fun h => h.chkKind).ite (h.wr.ite h.wrB.wr.incSat.chkKind.chkMod)

theorem Keeps.chkClean {m} (h : Keeps ex s u) : Keeps ex s (u.chkClean m) :=
  h.wr.ite (h.wr.ite h.wrB.wr.raise)

theorem Keeps.chkEvaluate {m n j k hold c compl} (h : Keeps ex s u) : Keeps ex s (u.chkEvaluate m n j k hold c compl) := by
  unfold State.chkEvaluate
  split
  · exact h.wrB
  · exact h.wrB.chkFaulty
  · exact h.wrB.chkFaulty
  · exact h.wrB.chkClean

theorem Keeps.sensResult {n j k hold c compl reaches} (h : Keeps ex s u) :
    Keeps ex s (u.sensResult n j k hold c compl reaches).1 :=
  Keeps.foldlFst (z := (u, false)) h fun _ _ _ h => (h.chkEvaluate.ite h).unless fun h => h.chkMod

theorem Keeps.sensDrop (h : Keeps ex s u) : Keeps ex s u.sensDrop :=
  h.each fun _ _ h => h.chkMod

theorem Keeps.sensForget (h : Keeps ex s u) : Keeps ex s u.sensForget :=
  h.each fun _ _ h => h.chkMod

theorem Keeps.sensSpans (h : Keeps ex s u) : Keeps ex s u.sensSpans :=
  h.each fun _ _ h => h.chkMod

theorem Keeps.sensTick (h : Keeps ex s u) : Keeps ex s u.sensTick :=
  h.each fun _ _ h => h.chkMod

theorem Keeps.hotTest {m p} (h : Keeps ex s u) : Keeps ex s (u.hotTest m p) :=
  h.ite h.wrB.raise.chkMod

theorem Keeps.hotTests {faulted} (h : Keeps ex s u) : Keeps ex s (u.hotTests faulted) :=
  h.each fun _ _ h => (h.hotTest.ite h).ite (h.hotTest.ite h)

theorem Keeps.execSensChkEnable {m} (h : Keeps ex s u) : Ends ex s (execSensChkEnable m u) :=
  h.reach fun _ h => h.chkEnable

end Sys2Proof.Machine
end

section
/-! What the operations of Conv.lean keep. -/

namespace Sys2Proof.Machine

set_option Elab.async false

variable {ex : Extent} {s u : State}

theorem Keeps.boundary {g} (h : Keeps ex s u) : Keeps ex s (u.boundary g) := by
  unfold State.boundary
  dsimp only
  split
  · exact h.iexApply
  · exact h.iexApply.unless fun h => h.same.wr.wrB

theorem Keeps.ringPut {n r} (h : Keeps ex s u) : Keeps ex s (u.ringPut n r) :=
  ((h.incSat.unless fun h => h.same.raise).ite h).unless fun h => ((h.wr.ite h).also fun h => h.setDBytes).wr

theorem Keeps.setRun {n r} (h : Keeps ex s u) : Keeps ex s (u.setRun n r) :=
  h.same

theorem Keeps.runStart {n t} (h : Keeps ex s u) : Keeps ex s (u.runStart n t) :=
  h.wr.wrB.setRun.also fun h => h.ringPut

theorem Keeps.trigger {k n} (h : Keeps ex s u) : Keeps ex s (u.trigger k n) :=
  (h.ite h.same).unless fun h => h.runStart.ite (h.ite (h.wrB.ite (h.incSat.unless fun h => h.same.raise)))

theorem Keeps.triggerAll {k p} (h : Keeps ex s u) : Keeps ex s (u.triggerAll k p) :=
  h.each fun _ _ h => h.trigger

theorem Keeps.tickTriggers (h : Keeps ex s u) : Keeps ex s u.tickTriggers :=
  h.triggerAll

theorem Keeps.zcTriggers {line rising} (h : Keeps ex s u) : Keeps ex s (u.zcTriggers line rising) :=
  h.triggerAll

theorem Keeps.gpioTriggers {g rising} (h : Keeps ex s u) : Keeps ex s (u.gpioTriggers g rising) :=
  h.triggerAll

theorem Keeps.runCommit {n} (h : Keeps ex s u) : Keeps ex s (u.runCommit n) :=
  (h.wr.wr.wr.same.unless fun h => h.wr).triggerAll.also fun h => h.same

theorem Keeps.ringFlush {n all k} (h : Keeps ex s u) : Keeps ex s (u.ringFlush n all k) := by
  induction k generalizing u with
  | zero => exact h
  | succ k ih =>
    unfold State.ringFlush
    split
    · exact h
    · split
      · exact h
      · exact ih (h.setRun.ite h.setRun.ringPut)

theorem Keeps.deliver {n j x} (h : Keeps ex s u) : Keeps ex s (u.deliver n j x) := by
  unfold State.deliver
  split
  · exact h
  · exact h.setRun.ringFlush.also fun h => h.runCommit

theorem Keeps.runAbort {n} (h : Keeps ex s u) : Keeps ex s (u.runAbort n) := by
  unfold State.runAbort
  split
  · exact h
  · exact h.ringFlush.same.wr.wr.wrB.wr.raise

theorem Keeps.seqAbort {n} (h : Keeps ex s u) : Keeps ex s (u.seqAbort n) :=
  h.runAbort.ite h.wrB

theorem Keeps.seqEnable {n} (h : Keeps ex s u) : Keeps ex s (u.seqEnable n) :=
  h.ite (h.wr.unless fun h => h.wrB.wr.wr.wr)

theorem Keeps.seqDisable {n} (h : Keeps ex s u) : Keeps ex s (u.seqDisable n) :=
  h.runAbort.wrB.wr.wrB.same

theorem Keeps.entryStart {x t} (h : Keeps ex s u) : Keeps ex s (u.entryStart x t) := by
  unfold State.entryStart
  split
  · exact h
  · split
    · exact h
    · split
      · exact h
      · dsimp only
        split
        · exact h.same.setRun
        · exact h.same

theorem Keeps.overRange {g n j code} (h : Keeps ex s u) : Keeps ex s (u.overRange g n j code) :=
  h.incSat.setMap.unless fun h => h.same.raise

theorem Keeps.entryFinish {b cs recov} (h : Keeps ex s u) : Keeps ex s (u.entryFinish b cs recov) :=
  ((h.overRange.ite h).sensResult.also fun h => h.hwRaw).deliver

theorem Keeps.entryComplete {x cs} (h : Keeps ex s u) : Keeps ex s (u.entryComplete x cs) := by
  unfold State.entryComplete
  split
  · exact h
  · exact h.ite ((h.same.unless fun h => h.iexSample).unless fun h => h.entryFinish).boundary

theorem Keeps.slotStart (h : Keeps ex s u) : Keeps ex s u.slotStart :=
  h.ite (h.same.unless fun h => h.wr)

theorem Keeps.slotEnd (h : Keeps ex s u) : Keeps ex s u.slotEnd := by
  unfold State.slotEnd
  dsimp only
  split
  · exact h
  · exact h.ite ((h.each fun _ _ h => h.wr.wr).wr.wr.same.unless fun h => h.incSat.unless fun h => h.wrB.event)

theorem Keeps.sliceCleared {k} (h : Keeps ex s u) : Keeps ex s (u.sliceCleared k) :=
  h.wrB.ite h

theorem Keeps.sliceRetired {k} (h : Keeps ex s u) : Keeps ex s (u.sliceRetired k) :=
  (h.same.wrB.both (fun h => h.same.wrB) fun h => h.ite h.same).unless fun h => h.boundary

theorem Keeps.retireSlice {k source} (h : Keeps ex s u) : Keeps ex s (u.retireSlice k source) :=
  h.setMap.event.sliceRetired

theorem Keeps.sliceError {k} (h : Keeps ex s u) : Keeps ex s (u.sliceError k) :=
  h.startTest.retireClass fun _ _ _ h => h.retireSlice

theorem Keeps.slotCheck {cs} (h : Keeps ex s u) : Keeps ex s (u.slotCheck cs) := by
  unfold State.slotCheck
  dsimp only
  split
  · exact h
  · split
    · exact h.same
    · exact h.same.wrB.raise.sliceError

theorem Keeps.refEnable (h : Keeps ex s u) : Keeps ex s u.refEnable :=
  h.ite h.wrB.same

theorem Keeps.refDisable (h : Keeps ex s u) : Keeps ex s u.refDisable :=
  h.ite h.wrB.wrB.wr

theorem Keeps.execRefEnable (h : Keeps ex s u) : Ends ex s (execRefEnable u) :=
  h.reach fun _ h => h.refEnable

theorem Keeps.execRefReady (h : Keeps ex s u) : Ends ex s (execRefReady u) :=
  h.act fun _ h => h.wrB.ite h

theorem Keeps.execRefDisable (h : Keeps ex s u) : Ends ex s (execRefDisable u) :=
  h.reach fun _ h => h.refDisable

theorem Keeps.execSeqEnable {n} (h : Keeps ex s u) : Ends ex s (execSeqEnable n u) :=
  h.reach fun _ h => h.seqEnable

theorem Keeps.execSeqDisable {n} (h : Keeps ex s u) : Ends ex s (execSeqDisable n u) :=
  h.reach fun _ h => h.seqDisable

theorem Keeps.execSeqStart {n} (h : Keeps ex s u) : Ends ex s (execSeqStart n u) :=
  h.reach fun _ h => h.trigger

theorem Keeps.execSeqAbort {n} (h : Keeps ex s u) : Ends ex s (execSeqAbort n u) :=
  h.reach fun _ h => h.seqAbort

theorem Keeps.execPhaseTrigger {n} (h : Keeps .memory s u) : Ends .memory s (execPhaseTrigger n u) :=
  h.act fun _ h => h.toPhase.trigger.ite h

theorem Keeps.execEntryStart {slice t} (h : Keeps ex s u) : Ends ex s (execEntryStart slice t u) :=
  h.act fun _ h => h.entryStart

theorem Keeps.execEntryComplete {slice convs} (h : Keeps ex s u) : Ends ex s (execEntryComplete slice convs u) :=
  h.act fun _ h => h.entryComplete

theorem Keeps.execPendingRunStart {n} (h : Keeps ex s u) : Ends ex s (execPendingRunStart n u) :=
  h.act fun _ h => (h.runStart.also fun h => h.same.trigger).ite h

theorem Keeps.execCalSlotStart (h : Keeps ex s u) : Ends ex s (execCalSlotStart u) :=
  h.act fun _ h => h.slotStart

theorem Keeps.execCalCoeffCheck {coefs} (h : Keeps ex s u) : Ends ex s (execCalCoeffCheck coefs u) :=
  h.act fun _ h => h.slotCheck

theorem Keeps.execCalSlotEnd (h : Keeps ex s u) : Ends ex s (execCalSlotEnd u) :=
  h.act fun _ h => h.slotEnd

theorem Keeps.execRotEnWrite {b} (h : Keeps ex s u) : Ends ex s (execRotEnWrite b u) :=
  h.reach fun _ h => h.wrB

end Sys2Proof.Machine
end

section
/-! What the operations of Deck.lean keep. -/

namespace Sys2Proof.Machine

set_option Elab.async false

variable {ex : Extent} {s u : State}

theorem Keeps.enginePut {a bs} (h : Keeps ex s u) : Keeps ex s (u.enginePut a bs) :=
  (h.each fun _ _ h => h.same).ite (h.each fun _ _ h => h.wrB.ite h.stageDesc)

theorem Keeps.deckPut {a bs} (h : Keeps ex s u) : Keeps ex s (u.deckPut a bs) :=
  h.enginePut.eccClear.ite h.setDBytes.eccClear.mirrorRange

theorem Keeps.poison {q} (h : Keeps ex s u) : Keeps ex s (u.poison q) :=
  h.ite h.same

theorem Keeps.rowError {a} (h : Keeps ex s u) : Keeps ex s (u.rowError a) :=
  h.startTest.retireClass fun _ _ _ h => h.retireRow

theorem Keeps.eccError {a ecc} (h : Keeps ex s u) : Keeps ex s (u.eccError a ecc) := by
  unfold State.eccError
  split
  · exact h
  · exact h.rowError
  · exact h.rowError.poison

theorem Keeps.eccFound {a len ecc} (h : Keeps ex s u) : Keeps ex s (u.eccFound a len ecc) :=
  h.eccError.same.each fun _ _ h => h.eccError

theorem Keeps.answer {i a data refused} (h : Keeps ex s u) : Keeps ex s (u.answer i a data refused) :=
  h.same

theorem Keeps.deckRead {i a len ecc} (h : Keeps ex s u) : Keeps ex s (u.deckRead i a len ecc).2 := by
  unfold State.deckRead
  split
  · exact h
  · dsimp only
    exact h.eccFound

theorem Keeps.partRead {a len ecc} (h : Keeps ex s u) : Keeps ex s (u.partRead a len ecc).2 :=
  Keeps.foldlSnd (z := (false, u)) h fun _ _ _ h => h.eccFound

theorem Keeps.deckWrite {i a bs ecc} (h : Keeps ex s u) : Keeps ex s (u.deckWrite i a bs ecc).2 := by
  unfold State.deckWrite
  split
  · exact h
  · dsimp only
    split
    · dsimp only
      exact h.partRead
    · dsimp only
      exact h.partRead.deckPut

theorem Keeps.busServe {x} (h : Keeps ex s u) : Keeps ex s (u.busServe x) := by
  unfold State.busServe
  split
  · exact h.deckRead.answer
  · exact h.deckWrite.answer

theorem Keeps.execDeckAccess {i req ecc} (h : Keeps ex s u) : Ends ex s (execDeckAccess i req ecc u) :=
  h.act fun _ h => h.ite (h.same.ite h.busServe)

end Sys2Proof.Machine
end

section
/-! What the operations of PierFlow.lean keep. -/

namespace Sys2Proof.Machine

set_option Elab.async false

variable {ex : Extent} {s u : State}

theorem Keeps.branch {i c off taken} (h : Keeps ex s u) : Ends ex s (u.branch i c off taken) :=
  h.pierAct (fun _ h => (by
    split
    · exact h
    · exact h))

theorem Keeps.execBeq {c ga gb off} (h : Keeps ex s u) : Ends ex s (execBeq c ga gb off u) :=
  h.branch

theorem Keeps.execBne {c ga gb off} (h : Keeps ex s u) : Ends ex s (execBne c ga gb off u) :=
  h.branch

theorem Keeps.execBlt {c ga gb off} (h : Keeps ex s u) : Ends ex s (execBlt c ga gb off u) :=
  h.branch

theorem Keeps.execBge {c ga gb off} (h : Keeps ex s u) : Ends ex s (execBge c ga gb off u) :=
  h.branch

theorem Keeps.execBltu {c ga gb off} (h : Keeps ex s u) : Ends ex s (execBltu c ga gb off u) :=
  h.branch

theorem Keeps.execBgeu {c ga gb off} (h : Keeps ex s u) : Ends ex s (execBgeu c ga gb off u) :=
  h.branch

theorem Keeps.execCall {c gd off} (h : Keeps ex s u) : Ends ex s (execCall c gd off u) :=
  h.pierAct fun _ h => h.put

theorem Keeps.execJmpr {c gd ga} (h : Keeps ex s u) : Ends ex s (execJmpr c gd ga u) :=
  h.pierAct (fun _ h => (by
    dsimp only
    split
    · exact trivial
    · exact h.put))

theorem Keeps.execLoopA {c count body} (h : Keeps ex s u) : Ends ex s (execLoopA c count body u) :=
  h.pierAct (fun _ h => (by
    dsimp only
    split
    · exact trivial
    · exact h.setGpr.setGpr))

theorem Keeps.execLw {c gd ga imm ecc} (h : Keeps ex s u) : Ends ex s (execLw c gd ga imm ecc u) :=
  h.pierAct fun _ h => h.localLoad

theorem Keeps.execLh {c gd ga imm ecc} (h : Keeps ex s u) : Ends ex s (execLh c gd ga imm ecc u) :=
  h.pierAct fun _ h => h.localLoad

theorem Keeps.execLhu {c gd ga imm ecc} (h : Keeps ex s u) : Ends ex s (execLhu c gd ga imm ecc u) :=
  h.pierAct fun _ h => h.localLoad

theorem Keeps.execLb {c gd ga imm ecc} (h : Keeps ex s u) : Ends ex s (execLb c gd ga imm ecc u) :=
  h.pierAct fun _ h => h.localLoad

theorem Keeps.execLbu {c gd ga imm ecc} (h : Keeps ex s u) : Ends ex s (execLbu c gd ga imm ecc u) :=
  h.pierAct fun _ h => h.localLoad

theorem Keeps.execSw {c gd ga imm} (h : Keeps ex s u) : Ends ex s (execSw c gd ga imm u) :=
  h.pierAct fun _ h => h.localStore

theorem Keeps.execSh {c gd ga imm} (h : Keeps ex s u) : Ends ex s (execSh c gd ga imm u) :=
  h.pierAct fun _ h => h.localStore

theorem Keeps.execSb {c gd ga imm} (h : Keeps ex s u) : Ends ex s (execSb c gd ga imm u) :=
  h.pierAct fun _ h => h.localStore

theorem Keeps.execTget {c gd} (h : Keeps ex s u) : Ends ex s (execTget c gd u) :=
  h.pierAct fun _ h => h.putGroup

theorem Keeps.execKget {c gd} (h : Keeps ex s u) : Ends ex s (execKget c gd u) :=
  h.pierAct fun _ h => h.putGroup

theorem Keeps.execEvt {c gd ga code} (h : Keeps ex s u) : Ends ex s (execEvt c gd ga code u) :=
  h.pierAct fun _ h => h.raise

theorem Keeps.execCsrr {c g csr} (h : Keeps ex s u) : Ends ex s (execCsrr c g csr u) :=
  h.pierAct fun _ h => h.put

theorem Keeps.execCsrw {c g csr} (h : Keeps ex s u) : Ends ex s (execCsrw c g csr u) :=
  h.pierAct fun _ h => h.modCore.ite h

theorem Keeps.execYieldA {c} (h : Keeps ex s u) : Ends ex s (execYieldA c u) :=
  h.pierAct fun _ h => h

theorem Keeps.execTrapA {c} (h : Keeps ex s u) : Ends ex s (execTrapA c u) :=
  h.pierAct fun _ h => trivial

end Sys2Proof.Machine
end

section
/-! What the operations of PierDeck.lean keep. -/

namespace Sys2Proof.Machine

set_option Elab.async false

variable {ex : Extent} {s u : State}

theorem Keeps.deckLoad {c gd ga imm ecc n} (h : Keeps ex s u) : Fine ex s (u.deckLoad c gd ga imm ecc n) := by
  unfold State.deckLoad
  dsimp only
  split
  · exact trivial
  · split
    · exact trivial
    · split
      · exact h.eccFound
      · exact h.eccFound.putGroup

theorem Keeps.deckStore {c gd ga imm n} (h : Keeps ex s u) : Fine ex s (u.deckStore c gd ga imm n) := by
  unfold State.deckStore
  dsimp only
  split
  · exact trivial
  · split
    · exact trivial
    · split
      · exact h.partRead
      · exact h.partRead.deckPut

theorem Keeps.execDlw {c gd ga imm ecc} (h : Keeps ex s u) : Ends ex s (execDlw c gd ga imm ecc u) :=
  h.deckAct fun _ h => h.deckLoad

theorem Keeps.execDlq {c gd ga imm ecc} (h : Keeps ex s u) : Ends ex s (execDlq c gd ga imm ecc u) :=
  h.deckAct fun _ h => h.deckLoad

theorem Keeps.execDll {c gd ga imm ecc} (h : Keeps ex s u) : Ends ex s (execDll c gd ga imm ecc u) :=
  h.deckAct fun _ h => h.deckLoad

theorem Keeps.execDsw {c gd ga imm} (h : Keeps ex s u) : Ends ex s (execDsw c gd ga imm u) :=
  h.deckAct fun _ h => h.deckStore

theorem Keeps.execDsq {c gd ga imm} (h : Keeps ex s u) : Ends ex s (execDsq c gd ga imm u) :=
  h.deckAct fun _ h => h.deckStore

theorem Keeps.execDsl {c gd ga imm} (h : Keeps ex s u) : Ends ex s (execDsl c gd ga imm u) :=
  h.deckAct fun _ h => h.deckStore

theorem Keeps.execDcas {c gd ga gb ecc} (h : Keeps ex s u) : Ends ex s (execDcas c gd ga gb ecc u) :=
  h.deckAct (fun _ h => (by
    dsimp only
    split
    · exact trivial
    · split
      · exact trivial
      · split
        · exact h.eccFound
        · exact (h.eccFound.also fun h => h.deckPut).put))

theorem Keeps.planeRead {c g a len ws} (h : Keeps ex s u) : Fine ex s (u.planeRead c g a len ws) := by
  unfold State.planeRead
  split
  · exact trivial
  · dsimp only
    split
    · exact h.eccFound
    · exact h.eccFound.putGroup

theorem Keeps.pointRead {c g p lo n} (h : Keeps ex s u) : Fine ex s (u.pointRead c g p lo n) :=
  h.planeRead

theorem Keeps.execPld {c g p} (h : Keeps ex s u) : Ends ex s (execPld c g p u) :=
  h.deckAct fun _ h => h.pointRead

theorem Keeps.execPldP {c g p} (h : Keeps ex s u) : Ends ex s (execPldP c g p u) :=
  h.deckAct fun _ h => h.pointRead

theorem Keeps.execPldR {c g p} (h : Keeps ex s u) : Ends ex s (execPldR c g p u) :=
  h.deckAct fun _ h => h.pointRead

theorem Keeps.execPldX {c g p} (h : Keeps ex s u) : Ends ex s (execPldX c g p u) :=
  h.deckAct (fun _ h => (by
    dsimp only
    split
    · exact trivial
    · exact h.pointRead))

theorem Keeps.nextRead {c g p n} (h : Keeps ex s u) : Fine ex s (u.nextRead c g p n) := by
  unfold State.nextRead
  dsimp only
  split
  · exact trivial
  · split
    · exact h.planeRead
    · split
      · exact h.pointRead
      · exact trivial

theorem Keeps.execPldN {c g p} (h : Keeps ex s u) : Ends ex s (execPldN c g p u) :=
  h.deckAct fun _ h => h.nextRead

theorem Keeps.execPldNp {c g p} (h : Keeps ex s u) : Ends ex s (execPldNp c g p u) :=
  h.deckAct fun _ h => h.nextRead

theorem Keeps.execPq {c g p} (h : Keeps ex s u) : Ends ex s (execPq c g p u) :=
  h.deckAct fun _ h => h.planeRead

theorem Keeps.noteWrite {c p} (h : Keeps ex s u) : Keeps ex s (u.noteWrite c p) :=
  h.ite h.modCore

theorem Keeps.pierWrite {c p v q} (h : Keeps ex s u) : Keeps ex s (u.pierWrite c p v q).2 := by
  have soft : Keeps ex s (u.softWrite p 1 (u.taskOf c) v q).2 := h.softWrite
  have note : Keeps ex s (u.noteWrite c p) := h.noteWrite
  unfold State.pierWrite
  dsimp only
  generalize u.softWrite p 1 (u.taskOf c) v q = r at *
  obtain ⟨res, t⟩ := r
  have noted : Keeps ex s { t with pier := (u.noteWrite c p).pier } :=
    ⟨soft.pending, fun wf => (State.memoryWf_iff _).mpr
        ⟨((State.memoryWf_iff t).mp (soft.form wf)).1, ((State.memoryWf_iff (u.noteWrite c p)).mp (note.form wf)).2⟩,
      fun he => (soft.clock he).trans ⟨Eq.refl _, Eq.refl _, fun _ _ => Eq.refl _, Eq.refl _⟩, soft.span⟩
  cases res
  case ok =>
    dsimp only
    split
    · exact h
    · exact noted.modCore.ite noted
  all_goals exact soft

theorem Keeps.pointWrite {c p v q} (h : Keeps ex s u) : Fine ex s (u.pointWrite c p v q) := by
  have written : Keeps ex s (u.pierWrite c p v q).2 := h.pierWrite
  unfold State.pointWrite
  generalize u.pierWrite c p v q = r at *
  split
  · trivial
  · obtain ⟨res, t⟩ := r
    cases res
    case refused =>
      dsimp only
      split
      · exact Keeps.ownRefused written
      · exact Keeps.ownEvent written
    all_goals exact written

theorem Keeps.execPst {c g p} (h : Keeps ex s u) : Ends ex s (execPst c g p u) :=
  h.deckAct fun _ h => h.pointWrite

theorem Keeps.execPstX {c g p} (h : Keeps ex s u) : Ends ex s (execPstX c g p u) :=
  h.deckAct (fun _ h => (by
    dsimp only
    split
    · exact trivial
    · exact h.pointWrite))

theorem Keeps.execPstq {c g p q} (h : Keeps ex s u) : Ends ex s (execPstq c g p q u) :=
  h.deckAct fun _ h => h.pointWrite

end Sys2Proof.Machine
end

section
/-! What the operations of LoopLaw.lean keep. -/

namespace Sys2Proof.Machine

set_option Elab.async false

variable {ex : Extent} {s u : State}

theorem Keeps.setLoopWord {n k v} (h : Keeps ex s u) : Keeps ex s (u.setLoopWord n k v) :=
  h.setDWord

theorem Keeps.saveLoop {n r} (h : Keeps ex s u) : Keeps ex s (u.saveLoop n r) :=
  (h.each fun _ _ h => h.setLoopWord).mirrorLoop

theorem Keeps.enterInit {n} (h : Keeps ex s u) : Keeps ex s (u.enterInit n) :=
  h.piers.setLoopWord

theorem Keeps.keepFetch {n} (h : Keeps ex s u) : Keeps ex s (u.keepFetch n) :=
  h.piers.ite (h.piers.setLoopWord.mirrorLine.ite h.piers.setLoopWord)

theorem Keeps.giveLoop {n} (h : Keeps ex s u) : Keeps ex s (u.giveLoop n) :=
  (h.each fun _ _ h => h.setLoopWord).enterInit.mirrorRange

theorem Keeps.lawEvents {c n res} (h : Keeps ex s u) : Keeps ex s (u.lawEvents c n res) :=
  Keeps.also (by
    split
    · exact h
    · dsimp only
      split
      · exact h.raise.raise
      · exact h.raise) fun h => h.piers.raise

theorem Keeps.lawMark {c n prev r cause hold} (h : Keeps ex s u) : Keeps ex s (u.lawMark c n prev r cause hold) :=
  (Keeps.also (by
    split
    · exact h.raise
    · exact h) fun h => h.raise).saveLoop

theorem Keeps.lawWrite {c out u' q} (h : Keeps ex s u) : Keeps ex s (u.lawWrite c out u' q) := by
  unfold State.lawWrite
  split
  · exact h.pierWrite
  · exact h

theorem Keeps.lawRefuse {c n gd r cause} (h : Keeps ex s u) : Keeps ex s (u.lawRefuse c n gd r cause) :=
  h.raise.saveLoop.put

theorem Keeps.lawEnd {c n gd prev out badOut res} (h : Keeps ex s u) : Keeps ex s (u.lawEnd c n gd prev out badOut res) :=
    by
  unfold State.lawEnd
  dsimp only
  split
  · exact h.lawRefuse
  · exact h.lawEvents.lawRefuse
  · exact h.lawRefuse
  · exact h.lawEvents.lawMark.put.lawWrite
  · exact h.lawEvents.lawMark.put.lawWrite.stickyFx
  · exact h.lawEvents.lawMark.put.lawWrite
  · exact h.lawEvents.lawMark.put.lawWrite

theorem Keeps.lawStart {c ls ins out} {go : State → PierRes} (h : Keeps ex s u) (hgo : ∀ t, Keeps ex s t → Fine ex s (go t)) :
    Fine ex s (u.lawStart c ls ins out go) := by
  unfold State.lawStart
  split
  · exact trivial
  · dsimp only
    split
    · exact h.each fun _ _ h => h.eccFound
    · split
      · exact hgo _ (h.each fun _ _ h => h.eccFound)
      · split
        · split
          · split
            · exact (h.each fun _ _ h => h.eccFound).ownEvent
            · exact trivial
          · exact trivial
        · split
          · split
            · exact (h.each fun _ _ h => h.eccFound).ownRefused
            · exact (h.each fun _ _ h => h.eccFound).incSat
          · exact (h.each fun _ _ h => h.eccFound).incSat

theorem Keeps.execPids {c gd loop mode} (h : Keeps ex s u) : Ends ex s (execPids c gd loop mode u) :=
  h.deckAct fun _ h => h.lawStart fun _ h => h.lawEnd

theorem Keeps.execBiq {c gd loop mode} (h : Keeps ex s u) : Ends ex s (execBiq c gd loop mode u) :=
  h.deckAct fun _ h => h.lawStart fun _ h => h.lawEnd

theorem Keeps.cascEnd {c n inner gd prev r out sp u' phase q hold} (h : Keeps ex s u) : Keeps ex s (u.cascEnd c n inner gd
    prev r out sp u' phase q hold) :=
  h.setLoopWord.lawMark.setLoopWord.put.lawWrite

theorem Keeps.cascRun {c gd n r out} (h : Keeps ex s u) : Keeps ex s (u.cascRun c gd n r out) := by
  unfold State.cascRun
  dsimp only
  split
  · exact h.lawEnd
  · split
    · exact h.lawEnd
    · split
      · exact h.cascEnd
      · split
        · exact h.lawEnd
        · exact h.lawEvents.cascEnd
        · exact h.lawEvents.cascEnd.stickyFx
        · exact h.lawEvents.cascEnd.stickyFx

theorem Keeps.execCasc {c gd loop mode} (h : Keeps ex s u) : Ends ex s (execCasc c gd loop mode u) :=
  h.deckAct (fun _ h => h.lawStart (fun _ h => (by
    dsimp only
    split
    · exact h.lawEnd
    · split
      · exact h.lawEnd
      · exact h.cascRun)))

theorem Keeps.genRun {c gd n pair law} (h : Keeps ex s u) : Keeps ex s (u.genRun c gd n pair law) := by
  unfold State.genRun
  dsimp only
  split
  · exact h.lawRefuse.also fun h => h.setGpr
  · split
    · exact h.lawRefuse.also fun h => h.setGpr
    · split
      · split
        · exact h.lawRefuse.also fun h => h.setGpr
        · exact h.lawRefuse.also fun h => h.setGpr
      · exact (h.lawEvents.also (fun h => Keeps.setGpr (by
          split
          · exact h.free 81
          · dsimp only
            exact h))).both (fun h => (Keeps.put (by
          split
          · exact h.raise.saveLoop
          · exact h.saveLoop)).stickyFx) fun h => h.lawMark.put

theorem Keeps.execClampw {c gd loop mode} (h : Keeps ex s u) : Ends ex s (execClampw c gd loop mode u) :=
  h.deckAct fun _ h => h.lawStart fun _ h => h.genRun

theorem Keeps.execRate {c gd loop mode} (h : Keeps ex s u) : Ends ex s (execRate c gd loop mode u) :=
  h.deckAct fun _ h => h.lawStart fun _ h => h.genRun

theorem Keeps.execIntg {c gd loop mode} (h : Keeps ex s u) : Ends ex s (execIntg c gd loop mode u) :=
  h.deckAct fun _ h => h.lawStart fun _ h => h.genRun

theorem Keeps.execIntgLoad {c gd loop mode} (h : Keeps ex s u) : Ends ex s (execIntgLoad c gd loop mode u) :=
  h.deckAct fun _ h => h.lawStart fun _ h => h.genRun

theorem Keeps.lawStatus {c gd n r} (h : Keeps ex s u) : Fine ex s (u.lawStatus c gd n r) :=
  h.saveLoop.put

theorem Keeps.execSwapkStatus {c gd loop mode} (h : Keeps ex s u) : Ends ex s (execSwapkStatus c gd loop mode u) :=
  h.deckAct fun _ h => h.lawStart fun _ h => h.lawStatus

theorem Keeps.execSwapkArm {c gd loop mode} (h : Keeps ex s u) : Ends ex s (execSwapkArm c gd loop mode u) :=
  h.deckAct fun _ h => h.lawStart fun _ h => h.lawStatus

theorem Keeps.execSwapkCancel {c gd loop mode} (h : Keeps ex s u) : Ends ex s (execSwapkCancel c gd loop mode u) :=
  h.deckAct fun _ h => h.lawStart fun _ h => h.lawStatus

theorem Keeps.execPrime {c gd loop mode} (h : Keeps ex s u) : Ends ex s (execPrime c gd loop mode u) :=
  h.deckAct fun _ h => h.lawStart fun _ h => h.enterInit.lawStatus

theorem Keeps.execPrimeFetch {c gd loop mode} (h : Keeps ex s u) : Ends ex s (execPrimeFetch c gd loop mode u) :=
  h.deckAct fun _ h => h.lawStart fun _ h => h.keepFetch.enterInit.lawStatus

end Sys2Proof.Machine
end

section
/-! What the operations of PierCtl.lean keep. -/

namespace Sys2Proof.Machine

set_option Elab.async false

variable {ex : Extent} {s u : State}

theorem Keeps.fillTcm {lo size bs} (h : Keeps ex s u) : Keeps ex s (u.fillTcm lo size bs) :=
  h.memories (State.fillTcm_memoryWf lo size bs)

theorem Keeps.copyImage {c i bankB} (h : Keeps ex s u) : Keeps ex s (u.copyImage c i bankB) :=
  h.fillTcm.fillTcm

theorem Keeps.loadTo {k} (h : Keeps ex s u) : Keeps ex s (u.loadTo k) :=
  h.wr

theorem Keeps.loadAccept (h : Keeps ex s u) : Keeps ex s u.loadAccept :=
  h.wr.wrB

theorem Keeps.loadRefuse {n reason} (h : Keeps ex s u) : Keeps ex s (u.loadRefuse n reason) :=
  h.loadTo.wr.raise

theorem Keeps.loaderNext (h : Keeps ex s u) : Keeps ex s u.loaderNext := by
  unfold State.loaderNext
  dsimp only
  split
  · exact h.piers.piers
  · split
    · exact h.piers.piers
    · exact h.piers.wrB

theorem Keeps.execLoadSched {sched} (h : Keeps ex s u) : Ends ex s (execLoadSched sched u) :=
  h.act fun _ h => h.loadRefuse.ite (h.loadRefuse.ite (h.loadAccept.loadTo.modSch.both (fun h => h.piers) fun h =>
      h.piers.wrB))

theorem Keeps.giveLoops {ls kept} (h : Keeps ex s u) : Keeps ex s (u.giveLoops ls kept) :=
  h.each fun _ _ h => h.giveLoop.also fun h => h.setLoopWord

theorem Keeps.showImage {n i bankB} (h : Keeps ex s u) : Keeps ex s (u.showImage n i bankB) :=
  h.wr.wr.wrB.wrB.wr

theorem Keeps.freshBackground {n} (h : Keeps ex s u) : Keeps ex s (u.freshBackground n) :=
  h.piers

theorem Keeps.clearCore {c} (h : Keeps ex s u) : Keeps ex s (u.clearCore c) :=
  h.modCore

theorem Keeps.install {n i} (h : Keeps ex s u) : Keeps ex s (u.install n i) := by
  unfold State.install
  exact h.copyImage.showImage.freshBackground.clearCore.wrB.modSch

theorem Keeps.execAdmissionDone (h : Keeps ex s u) : Ends ex s (execAdmissionDone u) :=
  h.act (fun _ h => (by
    split
    · split
      · exact h.loadRefuse.loaderNext
      · split
        · exact (Keeps.loadRefuse (by
            split
            · exact Keeps.wr (by
                split
                · exact h.wr.wr
                · exact h)
            · split
              · exact h.wr.wr
              · exact h)).loaderNext
        · exact ((Keeps.raise (by
            split
            · exact h.wr
            · exact h)).also fun h => (h.each fun _ _ h => h.stageDesc).giveLoops.modSch).piers
    · exact h))

theorem Keeps.execBankCopyDone (h : Keeps ex s u) : Ends ex s (execBankCopyDone u) :=
  h.act (fun _ h => (by
    split
    · exact (h.install.schTo.modSch.loadTo.ite h.copyImage.modSch.wrB.loadTo).loaderNext
    · exact h))

theorem Keeps.execSwapArm {sched} (h : Keeps ex s u) : Ends ex s (execSwapArm sched u) :=
  h.act (fun _ h => (by
    dsimp only
    split
    · exact h.loadRefuse
    · exact h.loadRefuse.ite (h.loadRefuse.ite h.loadAccept.loadTo.modSch.wrB.mirror)))

theorem Keeps.execSwapCancel {sched} (h : Keeps ex s u) : Ends ex s (execSwapCancel sched u) :=
  h.act (fun _ h => (by
    dsimp only
    split
    · exact h.wrB.ite h
    · exact h.wrB.ite h.loadAccept.loadTo.modSch.wrB.mirror))

theorem Keeps.swapWrites (h : Keeps ex s u) : Keeps ex s u.swapWrites :=
  h.each (fun _ _ h => (by
    dsimp only
    split
    · exact h.ite ((h.each fun _ _ h => h.same).each fun _ _ h => h.keepFetch)
    · exact h))

theorem Keeps.swapNow {n f i} (h : Keeps ex s u) : Keeps ex s (u.swapNow n f i) :=
  h.giveLoops.showImage.freshBackground.clearCore.modSch.wrB.wrB.loadTo.raise

theorem Keeps.execStopSched {sched} (h : Keeps ex s u) : Ends ex s (execStopSched sched u) :=
  h.act fun _ h => h.loadAccept.modSch.ite h

theorem Keeps.bpRestart {n mask} (h : Keeps ex s u) : Keeps ex s (u.bpRestart n mask) :=
  (h.each fun _ _ h => h.piers.setMap).bpTurn

theorem Keeps.execBpRestart {sched mask} (h : Keeps ex s u) : Ends ex s (execBpRestart sched mask u) :=
  h.act fun _ h => h.bpRestart

theorem Keeps.execBpSliceExpiry {c} (h : Keeps ex s u) : Ends ex s (execBpSliceExpiry c u) :=
  h.act fun _ h => h.setCore.bpLeave.ite h

theorem Keeps.execOvlStart {sched} (h : Keeps ex s u) : Ends ex s (execOvlStart sched u) :=
  h.act fun _ h => h.ite (h.piers.wrB.ite h.wrB)

theorem Keeps.execOvlCopyDone {sched} (h : Keeps ex s u) : Ends ex s (execOvlCopyDone sched u) :=
  h.act (fun _ h => (by
    dsimp only
    split
    · exact h
    · exact h.setTcmBytes.piers.wrB))

theorem Keeps.execBudgetOverrun {c} (h : Keeps ex s u) : Ends ex s (execBudgetOverrun c u) :=
  h.act (fun _ h => (by
    dsimp only
    split
    · exact h.ite h.setCore.trap
    · exact h))

theorem Keeps.execIllegalInstruction {c} (h : Keeps ex s u) : Ends ex s (execIllegalInstruction c u) :=
  h.act fun _ h => h.ite h.trap

theorem Keeps.pickSpares (h : Keeps ex s u) : Keeps ex s u.pickSpares :=
  h.piers.showSpares

theorem Keeps.loadSlots {n} (h : Keeps ex s u) : Keeps ex s (u.loadSlots n) :=
  h.each fun _ _ h => h.piers

theorem Keeps.execMigrationCopyDone (h : Keeps ex s u) : Ends ex s (execMigrationCopyDone u) :=
  h.act (fun _ h => (by
    split
    · exact Keeps.loaderNext (by
        split
        · exact h.piers.showSpares.loseSched
        · exact ((h.each fun _ _ h => h.copyImage).each fun _ _ h => h.copyImage).wr.loadSlots.setCore.modSch.raise)
    · exact h))

theorem Keeps.clockCore {n} (h : Keeps ex s u) : Keeps ex s (u.clockCore n) := by
  unfold State.clockCore
  exact h.wrB.modCore

theorem Keeps.schedTick {n} (h : Keeps ex s u) : Keeps ex s (u.schedTick n) :=
  ((Keeps.also (by
    split
    · exact (h.clearCore.schTo.modSch.ite h).also fun h => h.swapNow
    · exact h.clearCore.schTo.modSch.ite h) fun h => h.schTo.modSch).also fun h => h.modSch.modCore).unless fun h =>
        h.clockCore

theorem Keeps.pierTick (h : Keeps ex s u) : Keeps ex s u.pierTick :=
  ((h.each fun _ _ h => h.schedTick).each fun _ _ h => h.modCore).each fun _ _ h => h.ite (h.bpPreempt.ite h.bpTurn)

theorem Keeps.dispatchAll (h : Keeps ex s u) : Keeps ex s u.dispatchAll :=
  h.each fun _ _ h => h.dispatchCore.ite h

theorem Keeps.primeAll (h : Keeps ex s u) : Keeps ex s u.primeAll :=
  h.each fun _ _ h => h.keepFetch.enterInit

end Sys2Proof.Machine
end

section
/-! What the operations of Health.lean keep. -/

namespace Sys2Proof.Machine

set_option Elab.async false

variable {ex : Extent} {s u : State}

theorem Keeps.solDisarm (h : Keeps ex s u) : Keeps ex s u.solDisarm :=
  h.each fun _ _ h => h.wrB

theorem Keeps.shutdown (h : Keeps ex s u) : Keeps ex s u.shutdown := by
  unfold State.shutdown
  exact h.ownDrop.solDisarm.wrB.same.also fun h => h.setRole

theorem Keeps.coolDown (h : Keeps ex s u) : Keeps ex s u.coolDown :=
  h.wrB.both (fun h => h.enterStandby.also fun h => h.roleDone) fun h => h.same

theorem Keeps.thermTo {new sensor} (h : Keeps ex s u) : Keeps ex s (u.thermTo new sensor) := by
  unfold State.thermTo
  exact h.ite (h.wr.event.both (fun h => h.shutdown) fun h => h.coolDown.ite h)

theorem Keeps.thermMax (h : Keeps ex s u) : Keeps ex s u.thermMax :=
  (h.free 92).wr.wrS.ite (h.wrS.both (fun h => h.wr) fun h => (h.free 92).wr)

theorem Keeps.thermEval {i t} (h : Keeps ex s u) : Keeps ex s (u.thermEval i t) :=
  (h.wrS.both (fun h => h.setMap.event) fun h => h.clrMap).thermMax.thermTo

theorem Keeps.execThermalComparator {i} (h : Keeps ex s u) : Ends ex s (execThermalComparator i u) :=
  h.act fun _ h => h.thermTo

theorem Keeps.thrWrite {w} (h : Keeps ex s u) : Keeps ex s (u.thrWrite w) :=
  h.wr.wr.wr.ite h

theorem Keeps.execThrWrite {d} (h : Keeps ex s u) : Ends ex s (execThrWrite d u) :=
  h.act fun _ h => h.thrWrite

theorem Keeps.supplyEval {j v} (h : Keeps ex s u) : Keeps ex s (u.supplyEval j v) :=
  h.wr.unless fun h => h.same.setMap.event.ite (h.same.setMap.event.ite (h.clrMap.event.ite h))

theorem Keeps.refEval {dev} (h : Keeps ex s u) : Keeps ex s (u.refEval dev) :=
  h.wr.ite (h.wrS.both (fun h => h.same.wrB.event) fun h => h.same.ite h.wrB)

theorem Keeps.calEval (h : Keeps ex s u) : Keeps ex s u.calEval :=
  h.ite (h.each fun _ _ h => h.event)

theorem Keeps.execCaldriftTimer (h : Keeps ex s u) : Ends ex s (execCaldriftTimer u) :=
  h.act fun _ h => h.wrB.event.ite h

theorem Keeps.retireGate {kind ch} (h : Keeps ex s u) : Keeps ex s (u.retireGate kind ch) := by
  unfold State.retireGate
  split
  · exact h.solDisable.wr
  · exact h.motDisable.wr
  · exact h.fanDisable.wr
  · exact h.each fun _ _ h => h.solDisable.wr

theorem Keeps.laneDown {l} (h : Keeps ex s u) : Keeps ex s (u.laneDown l) :=
  h.twinLaneDown.ite (h.free 93).portDown

theorem retGate_offClock (kind : Nat) : (retGate kind).offClock = true := by
  unfold retGate
  split <;> rfl

theorem Keeps.retire {cls unit source} (h : Keeps ex s u) : Keeps ex s (u.retire cls unit source) := by
  unfold State.retire
  split
  · exact h
  · split
    · exact h.retireRow
    · exact h.retireTcm
    · exact h.retireSlice
    · exact (h.setMap (retGate_offClock _)).event.retireGate
    · exact h.setMap.event.laneDown

theorem Keeps.retireDue (h : Keeps ex s u) : Keeps ex s u.retireDue :=
  h.same.each fun _ _ h => h.retire

theorem Keeps.retireWrite {i cmd cls unit} (h : Keeps ex s u) : Keeps ex s (u.retireWrite i cmd cls unit) :=
  h.ite (h.wr.wr.wrB.also fun h => h.retire)

theorem Keeps.execHealthRetire {i cls unit} (h : Keeps ex s u) : Ends ex s (execHealthRetire i cls unit u) :=
  h.act fun _ h => h.retireWrite

theorem Keeps.testBegins {cls unit} (h : Keeps ex s u) : Keeps ex s (u.testBegins cls unit) :=
  h.ite (h.laneDown.ite (h.bpPreempt.ite h))

theorem Keeps.unitError {cls unit} (h : Keeps ex s u) : Keeps ex s (u.unitError cls unit) :=
  h.startTest.testBegins.retireDue

theorem Keeps.unitReturns {cls unit} (h : Keeps ex s u) : Keeps ex s (u.unitReturns cls unit) := by
  unfold State.unitReturns
  split
  · exact h.modSch.ite h.bpTurn
  · exact h.sliceCleared
  · exact h

theorem Keeps.execSelftestDone {cls pass} (h : Keeps ex s u) : Ends ex s (execSelftestDone cls pass u) :=
  h.act (fun _ h => (by
    split
    · exact h
    · exact h.ite (h.same.verdict.retireDue.unless fun h => h.unitReturns)))

theorem Keeps.execSelftestQueuedStart {cls} (h : Keeps ex s u) : Ends ex s (execSelftestQueuedStart cls u) :=
  h.act (fun _ h => (by
    split
    · exact h.same.showQueue.testBegins
    · exact h))

theorem Keeps.execLaneErroredBlocks {l} (h : Keeps ex s u) : Ends ex s (execLaneErroredBlocks l u) :=
  h.act fun _ h => h.unitError

theorem Keeps.execTrackExpiry (h : Keeps ex s u) : Ends ex s (execTrackExpiry u) :=
  h.act fun _ h => h.ite h.same

theorem Keeps.healthLatch (h : Keeps ex s u) : Keeps ex s u.healthLatch :=
  h.same.also fun h => h.ownRaise

theorem Keeps.healthEval {frame m} (h : Keeps ex s u) : Keeps ex s (u.healthEval frame m) :=
  h.retireDue.both (fun h => h.thermEval) fun h => h.supplyEval.ite (h.refEval.ite (h.supplyEval.ite (h.calEval.ite
      h)))

end Sys2Proof.Machine
end

section
/-! What the operations of Faults.lean keep. -/

namespace Sys2Proof.Machine

set_option Elab.async false

variable {ex : Extent} {s u : State}

theorem Keeps.solSwitchFault {k} (h : Keeps ex s u) : Keeps ex s (u.solSwitchFault k) :=
  (h.each fun _ _ h => h.solFaultIn).solGroup.unitError

theorem Keeps.solDetect {n reason} (h : Keeps ex s u) : Keeps ex s (u.solDetect n reason) := by
  unfold State.solDetect
  split
  · exact h.ite h.solFault
  · exact h.ite h.solFault.unitError
  · exact h.solSwitchFault
  · exact h.solRecord.ite h.solFault
  · exact h

theorem Keeps.execSolChannelFault {n reason} (h : Keeps ex s u) : Ends ex s (execSolChannelFault n reason u) :=
  h.act fun _ h => h.inCycle fun _ h => h.solDetect

theorem Keeps.motDetect {n reason} (h : Keeps ex s u) : Keeps ex s (u.motDetect n reason) := by
  unfold State.motDetect
  split
  · exact h
  · split
    · exact h.motFault
    · exact h.motFault.unitError
    · exact h.motFault
    · exact h

theorem Keeps.execMotChannelFault {n reason} (h : Keeps ex s u) : Ends ex s (execMotChannelFault n reason u) :=
  h.act fun _ h => h.inCycle fun _ h => h.motDetect

theorem Keeps.fanDetect {n reason} (h : Keeps ex s u) : Keeps ex s (u.fanDetect n reason) := by
  unfold State.fanDetect
  split
  · exact h
  · split
    · exact h.ite h.fanFault
    · exact h.fanFault.unitError
    · exact h

theorem Keeps.execFanChannelFault {n reason} (h : Keeps ex s u) : Ends ex s (execFanChannelFault n reason u) :=
  h.act fun _ h => h.inCycle fun _ h => h.fanDetect

theorem Keeps.execZeroCrossMark {line rising} (h : Keeps ex s u) : Ends ex s (execZeroCrossMark line rising u) :=
  h.act fun _ h => h.ite ((h.countCycle.ite h).zswMark.also fun h => h.zcTriggers)

theorem Keeps.beforeTick {d} {f : State → State} (h : Keeps .memory s u) (hf : ∀ t, Keeps .memory s t → Keeps .memory s (f t)) : Keeps .memory s
    (u.beforeTick d f) :=
  (hf _ h.toPhase).ite h

theorem Keeps.execHeartbeatDeadline (h : Keeps .memory s u) : Ends .memory s (execHeartbeatDeadline u) :=
  h.act fun _ h => h.beforeTick fun _ h => h.judge

theorem Keeps.execTakeover (h : Keeps .memory s u) : Ends .memory s (execTakeover u) :=
  h.act fun _ h => h.beforeTick fun _ h => h.takeover

theorem Keeps.execReleaseDrop (h : Keeps .memory s u) : Ends .memory s (execReleaseDrop u) :=
  h.act fun _ h => h.beforeTick fun _ h => h.relDrop

theorem Keeps.execVgdLow {low} (h : Keeps ex s u) : Ends ex s (execVgdLow low u) :=
  (h.motVgdLow.ite h).same

end Sys2Proof.Machine
end

section
/-! What the operations of Reset.lean keep. -/

namespace Sys2Proof.Machine

set_option Elab.async false

variable {s u : State}

theorem Keeps.clearBlock {b} (h : Keeps .memory s u) : Keeps .memory s (u.clearBlock b) :=
  h.rest

theorem Keeps.wiped {r} (h : Keeps .memory s u) : Keeps .memory s (u.wiped r) :=
  ⟨h.pending, fun _ => State.wiped_memoryWf u r, fun he => absurd (Eq.refl _) he, nofun⟩

theorem Keeps.resetResidue {c} (h : Keeps .memory s u) : Keeps .memory s (u.resetResidue c) :=
  h.residueSnap.writeResidue.ite h

theorem Keeps.samplePins (h : Keeps .memory s u) : Keeps .memory s u.samplePins :=
  h.wr.wrB

theorem Keeps.setPins {boot pref} (h : Keeps .memory s u) : Keeps .memory s (u.setPins boot pref) :=
  h.same

theorem Keeps.resetBy {c r} (h : Keeps .memory s u) : Keeps .memory s (u.resetBy c r) :=
  h.setMap.same.ite ((h.resetResidue.wiped.wr.wr.each fun _ _ h => h.wrAny).unless fun h => h.samplePins).wrB

theorem Keeps.resetReleased {c first} (h : Keeps .memory s u) : Keeps .memory s (u.resetReleased c first) :=
  (h.resetBy.each fun _ _ h => h.event).also fun h => h.releaseEvent

theorem Keeps.execPorAssert (h : Keeps .memory s u) : Ends .memory s (execPorAssert u) :=
  h.resetBy

theorem Keeps.execPorRelease {boot rolePref} (h : Keeps .memory s u) : Ends .memory s (execPorRelease boot rolePref u) :=
  h.same.setPins.samplePins.ite h.setPins

theorem Keeps.execRstPin {boot rolePref} (h : Keeps .memory s u) : Ends .memory s (execRstPin boot rolePref u) :=
  h.setPins.resetBy.samplePins

theorem Keeps.execWdogEnable (h : Keeps .memory s u) : Ends .memory s (execWdogEnable u) :=
  h.act fun _ h => h.wrB

theorem Keeps.execWdogKick {v} (h : Keeps .memory s u) : Ends .memory s (execWdogKick v u) :=
  h.act fun _ h => h.wr.also fun h => h.resetBy

theorem Keeps.execWdogExpiry (h : Keeps .memory s u) : Ends .memory s (execWdogExpiry u) :=
  h.act fun _ h => h.resetBy.ite h

theorem Keeps.execSoftReset (h : Keeps .memory s u) : Ends .memory s (execSoftReset u) :=
  h.act fun _ h => h.resetBy

theorem Keeps.resetOrder (h : Keeps .memory s u) : Keeps .memory s u.resetOrder :=
  h.same.ite h

theorem Keeps.execTwinResetCmd (h : Keeps .memory s u) : Ends .memory s (execTwinResetCmd u) :=
  h.act fun _ h => h.wr.wr.resetOrder

theorem Keeps.execTwinResetOrder (h : Keeps .memory s u) : Ends .memory s (execTwinResetOrder u) :=
  h.act fun _ h => h.resetBy.ite h.event

theorem Keeps.execJointFrame {badLanes} (h : Keeps .memory s u) : Ends .memory s (execJointFrame badLanes u) :=
  h.act (fun _ h => (by
    split
    · exact h
    · split
      · exact h
      · exact h.incSat.wr
      · exact h.resetReleased))

theorem Keeps.execJointSilence (h : Keeps .memory s u) : Ends .memory s (execJointSilence u) :=
  h.act fun _ h => h.resetReleased.ite h

theorem Keeps.clockLost {k} (h : Keeps .memory s u) : Keeps .memory s (u.clockLost k) := by
  unfold State.clockLost
  dsimp only
  split
  · exact h.wrB.wrB.resetReleased
  · exact h.wrB.wrB.resetReleased
  · exact h.wrB.wrB.event.twinLaneDown.twinLaneDown.laneDown.laneDown
  · exact h.wrB.wrB.event
  · exact h.wrB.wrB.same.event

theorem Keeps.execPllLockLoss {k} (h : Keeps .memory s u) : Ends .memory s (execPllLockLoss k u) :=
  h.ite h.clockLost

theorem Keeps.execDeviceIdLock (h : Keeps .memory s u) : Ends .memory s (execDeviceIdLock u) :=
  h.act fun _ h => h.wrB

end Sys2Proof.Machine
end

section
/-! What the operations of Freeze.lean keep. -/

namespace Sys2Proof.Machine

set_option Elab.async false

variable {ex : Extent} {s u : State}

theorem Keeps.showXOut (h : Keeps ex s u) : Keeps ex s u.showXOut :=
  h.same

theorem Keeps.freezeNow (h : Keeps ex s u) : Keeps ex s u.freezeNow :=
  h.wr.wr.wr48.same.ownDrop.solDisarm

theorem Keeps.lanesDown (h : Keeps ex s u) : Keeps ex s u.lanesDown :=
  h.twinLaneDown.twinLaneDown.laneDown.laneDown

theorem Keeps.dropTasks (h : Keeps ex s u) : Keeps ex s u.dropTasks :=
  h.each (fun _ _ h => (by
    split
    · exact h.ite h.modCore
    · exact h.modCore))

theorem Keeps.rejoin (h : Keeps ex s u) : Keeps ex s u.rejoin :=
  (h.wrB.wr.ite h).treTo

theorem Keeps.abandonSpan (h : Keeps .memory s u) : Keeps .memory s u.abandonSpan := by
  unfold State.abandonSpan
  exact (((h.same.each fun _ _ h => h.seqAbort).sensDrop.dropTasks.lanesDown.also fun h => h.syncLost).also fun h =>
      h.rejoin).also fun h => h.rest.wrAny

theorem Keeps.thawNow (h : Keeps .memory s u) : Keeps .memory s u.thawNow := by
  unfold State.thawNow
  exact h.wrB.same.eventAt.event.abandonSpan

theorem Keeps.freezeUpdate (h : Keeps .memory s u) : Keeps .memory s u.freezeUpdate := by
  unfold State.freezeUpdate
  split
  · exact h
  · dsimp only
    exact ((h.ite h.freezeNow).ite (h.thawNow.ite h)).showXOut

theorem Keeps.thawTick (h : Keeps ex s u) : Keeps ex s u.thawTick :=
  h.ite (h.same.also fun h => h.ownRaise)

theorem Keeps.softFreeze (h : Keeps .memory s u) : Keeps .memory s u.softFreeze :=
  h.ite h.wrB.same.freezeUpdate

theorem Keeps.execFreezePin {level} (h : Keeps .memory s u) : Ends .memory s (execFreezePin level u) :=
  h.same.freezeUpdate

theorem Keeps.execFrzXInChange {level} (h : Keeps .memory s u) : Ends .memory s (execFrzXInChange level u) :=
  h.same.freezeUpdate

theorem Keeps.execFreezeMarker {p} (h : Keeps .memory s u) : Ends .memory s (execFreezeMarker p u) :=
  h.act fun _ h => h.same.also fun h => h.same.freezeUpdate

theorem Keeps.execDbgFreeze (h : Keeps .memory s u) : Ends .memory s (execDbgFreeze u) :=
  h.act fun _ h => h.softFreeze

theorem Keeps.execClockGate (h : Keeps ex s u) : Ends ex s (execClockGate u) :=
  h.wrB.same.ite h

theorem Keeps.tap {ir} (h : Keeps ex s u) : Keeps ex s (u.tap ir) :=
  h.same

theorem Keeps.tapCtl (h : Keeps ex s u) : Keeps ex s u.tapCtl :=
  h.tap.same

theorem Keeps.execRoFreeze (h : Keeps .memory s u) : Ends .memory s (execRoFreeze u) :=
  h.tapCtl.softFreeze

theorem Keeps.execRoThaw (h : Keeps .memory s u) : Ends .memory s (execRoThaw u) :=
  h.tapCtl.wrB.same.freezeUpdate

theorem Keeps.captureCells {k} (h : Keeps ex s u) : Keeps ex s (u.captureCells k) := by
  unfold State.captureCells
  exact (h.free k).same

theorem Keeps.tapBypass (h : Keeps ex s u) : Keeps ex s u.tapBypass :=
  h.tap.same

theorem Keeps.execExtest (h : Keeps ex s u) : Ends ex s (execExtest u) :=
  h.tap.captureCells.ite h.tapBypass

theorem Keeps.execSamplePreload {cells} (h : Keeps ex s u) : Ends ex s (execSamplePreload cells u) :=
  h.tap.captureCells.same

theorem Keeps.execIdcode (h : Keeps ex s u) : Ends ex s (execIdcode u) :=
  h.tap.same

theorem Keeps.execBypass (h : Keeps ex s u) : Ends ex s (execBypass u) :=
  h.tapBypass

theorem Keeps.execRoAddr {a} (h : Keeps ex s u) : Ends ex s (execRoAddr a u) :=
  h.tap.same

theorem Keeps.roCapture {idle} (h : Keeps ex s u) : Keeps ex s (u.roCapture idle) :=
  h.same.ite h.same

theorem Keeps.execRoData {idle} (h : Keeps ex s u) : Ends ex s (execRoData idle u) :=
  h.tap.roCapture

end Sys2Proof.Machine
end

section
/-! What the operations of Boot.lean keep. -/

namespace Sys2Proof.Machine

set_option Elab.async false

variable {s u : State}

theorem Keeps.bootTo {k} (h : Keeps .memory s u) : Keeps .memory s (u.bootTo k) :=
  h.wr

theorem Keeps.buildJoint (h : Keeps .memory s u) : Keeps .memory s u.buildJoint :=
  h.ite (h.wrB.refEnable.ite h.toStep)

theorem Keeps.execBuildOutStart {plls joint} (h : Keeps .memory s u) : Ends .memory s (execBuildOutStart plls joint u) :=
  h.ite h.event.same.wrB.wrB.wrB.wrB.wrB.buildJoint

theorem Keeps.execBuildPllTimeout (h : Keeps .memory s u) : Ends .memory s (execBuildPllTimeout u) :=
  h.act fun _ h => h.toStep.ite h

theorem Keeps.execPllRelock {k} (h : Keeps .memory s u) : Ends .memory s (execPllRelock k u) :=
  h.act (fun _ h => (by
    dsimp only
    split
    · exact h.wrAny.same
    · exact h.wrAny.buildJoint))

theorem Keeps.retireAll {failed} (h : Keeps .memory s u) : Keeps .memory s (u.retireAll failed) :=
  h.each fun _ _ h => h.retire

theorem Keeps.keepCheck (h : Keeps .memory s u) : Keeps .memory s u.keepCheck :=
  (h.event.ite h).also fun h => h.event

theorem Keeps.waitHost {source} (h : Keeps .memory s u) : Keeps .memory s (u.waitHost source) :=
  h.wr.bootTo

theorem Keeps.bootBegin (h : Keeps .memory s u) : Keeps .memory s u.bootBegin := by
  unfold State.bootBegin
  dsimp only
  split
  · exact h.toStep.waitHost
  · exact h.toStep.waitHost
  · exact h.toStep.wr.bootTo

theorem Keeps.execBuildTestsDone {ms failed} (h : Keeps .memory s u) : Ends .memory s (execBuildTestsDone ms failed u) :=
  h.act fun _ h => h.ite (h.retireAll.pickSpares.keepCheck.evrStart.wr.checkBlock.event.both (fun h => h.toStep)
      fun h => h.bootBegin)

theorem Keeps.bootPrepare (h : Keeps .memory s u) : Keeps .memory s u.bootPrepare :=
  (h.wrB.unless fun h => h.wr.wr).unless fun h => (h.free 95).wr

theorem Keeps.bootRun {i} (h : Keeps .memory s u) : Keeps .memory s (u.bootRun i) :=
  (h.raise.each fun _ _ h => h.stageDesc).giveLoops.install.schTo.bpTurn

theorem Keeps.bootDone {seq digest} (h : Keeps .memory s u) : Keeps .memory s (u.bootDone seq digest) :=
  (h.wr.each fun _ _ h => h.wrAny).bootTo.event.toStep.freezeUpdate

theorem Keeps.bootFault {reason} (h : Keeps .memory s u) : Keeps .memory s (u.bootFault reason) :=
  h.wr.same

theorem Keeps.bootCheck {m} (h : Keeps .memory s u) : Keeps .memory s (u.bootCheck m).1 := by
  unfold State.bootCheck
  dsimp only
  split
  · dsimp only
    exact h
  · split
    · dsimp only
      exact h
    · split
      · dsimp only
        exact Keeps.loadRefuse (by
          split
          · exact h.bootPrepare.wr.wr
          · exact h.bootPrepare)
      · dsimp only
        exact h.bootPrepare.bootRun.bootDone

theorem Keeps.xspiOut (h : Keeps .memory s u) : Keeps .memory s u.xspiOut :=
  h.waitHost.ite h.event.bootTo.toStep

theorem Keeps.trySlot (h : Keeps .memory s u) : Keeps .memory s u.trySlot := by
  unfold State.trySlot
  split
  · exact h.wr.same
  · exact h.xspiOut

theorem Keeps.execXspiAnswer {manA manB} (h : Keeps .memory s u) : Ends .memory s (execXspiAnswer manA manB u) :=
  h.act (fun _ h => h.ite (Keeps.trySlot (by
    split
    · exact h.same.bootFault
    · exact h.same)))

theorem Keeps.execBootSlotLoaded {image} (h : Keeps .memory s u) : Ends .memory s (execBootSlotLoaded image u) := by
  refine h.act fun u h => ?_
  split
  · exact h
  next k _ =>
    dsimp only
    split
    · exact h
    · generalize copied : u.setDBytes bootImage _ = w
      have checked : Keeps .memory s (w.bootCheck (u.power.manifests.getD k [])).1 := Keeps.bootCheck (copied ▸ h.setDBytes)
      generalize w.bootCheck _ = r at *
      obtain ⟨t, reason⟩ := r
      cases reason with
      | none => exact checked
      | some r => exact Keeps.trySlot (Keeps.bootFault checked)

theorem Keeps.execNoflash (h : Keeps .memory s u) : Ends .memory s (execNoflash u) :=
  h.act fun _ h => h.bootFault.xspiOut.ite h

theorem Keeps.execBootGo (h : Keeps .memory s u) : Ends .memory s (execBootGo u) := by
  refine h.act fun u h => ?_
  split
  · exact h
  · have checked : Keeps .memory s (u.bootCheck (u.dBytes bootManifest 64)).1 := h.bootCheck
    dsimp only
    generalize u.bootCheck _ = r at *
    split
    · exact h.bootFault
    · obtain ⟨t, reason⟩ := r
      cases reason with
      | none => exact checked
      | some r => exact Keeps.bootFault checked

end Sys2Proof.Machine
end

section
/-! What the operations of Field.lean keep. -/

namespace Sys2Proof.Machine

set_option Elab.async false

variable {ex : Extent} {s u : State}

theorem Keeps.engMod {e f} (h : Keeps ex s u) : Keeps ex s (u.engMod e f) :=
  h.ports

theorem Keeps.engSend {e f} (h : Keeps ex s u) : Keeps ex s (u.engSend e f) :=
  h.engMod.ite h

theorem Keeps.engStep {e} (h : Keeps ex s u) : Keeps ex s (u.engStep e) :=
  h.engMod

theorem Keeps.txTake {e} (h : Keeps ex s u) : Keeps ex s (u.txTake e) :=
  h.wr

theorem Keeps.putGeneral {a bs} (h : Keeps ex s u) : Keeps ex s (u.putGeneral a bs) :=
  h.setDBytes.mirrorRange.ite h

theorem Keeps.fldStore {e type f} (h : Keeps ex s u) : Keeps ex s (u.fldStore e type f) :=
  h.wrB.raise.ite (Keeps.free (by
    split
    · exact h
    · exact h.free 60) 61).putGeneral.putGeneral.wr

theorem Keeps.fldBad {e} (h : Keeps ex s u) : Keeps ex s (u.fldBad e) :=
  (h.free 62).raise

theorem Keeps.fldError {e} (h : Keeps ex s u) : Keeps ex s (u.fldError e) :=
  h.incSat.fldBad

theorem Keeps.fieldWrite {e i p v fault} (h : Keeps ex s u) : Keeps ex s (u.fieldWrite e i p v fault) := by
  have soft {x q r} (eq : u.softWrite p 5 (e * 2 ^ 16 + i) x q = r) : Keeps ex s r.2 := eq ▸ h.softWrite
  unfold State.fieldWrite
  dsimp only
  split
  next eq => exact Keeps.ownRefused (soft eq)
  next eq => exact soft eq

theorem Keeps.fieldFloat {e i p v} (h : Keeps ex s u) : Keeps ex s (u.fieldFloat e i p v) :=
  h.fieldWrite.ite (h.free 63).fieldWrite

theorem Keeps.sendFloat {p} (h : Keeps ex s u) : Keeps ex s (u.sendFloat p).2 := by
  unfold State.sendFloat
  split
  · exact h
  · exact h.free 68

theorem Keeps.sendInt {p lo hi} (h : Keeps ex s u) : Keeps ex s (u.sendInt p lo hi).2 := by
  unfold State.sendInt
  dsimp only
  split
  · exact h
  · exact h.free 64

theorem Keeps.mbRequest {m} (h : Keeps ex s u) : Keeps ex s (u.mbRequest m).2 := by
  unfold State.mbRequest
  dsimp only
  split
  · exact h
  · split
    · split
      · exact h.sendFloat
      · exact h.sendInt
    · split
      · exact h.sendFloat
      · exact h.sendInt

theorem Keeps.mbSend {e now req} (h : Keeps ex s u) : Keeps ex s (u.mbSend e now req) :=
  h.engMod.engSend

theorem Keeps.mbTransaction {e} (h : Keeps ex s u) : Keeps ex s (u.mbTransaction e) :=
  h.engStep.unless (fun h => (by
    dsimp only
    split
    · exact h.mbRequest.engMod.mbSend
    · exact h.ite h.txTake.engMod.mbSend))

theorem Keeps.mbMapped {e i f} (h : Keeps ex s u) : Keeps ex s (u.mbMapped e i f) :=
  (h.incSat.raise.unless fun h => (h.free 65).fieldWrite).ite (h.ite (h.fieldFloat.ite h.fieldWrite))

theorem Keeps.mbReceive {e f ok} (h : Keeps ex s u) : Keeps ex s (u.mbReceive e f ok) := by
  unfold State.mbReceive
  dsimp only
  split
  · exact h.fldError
  · split
    · exact h.fldStore.ite h
    · split
      · exact h
      · split
        · exact h
        · split
          · exact h.engMod.fldStore
          · exact h.engMod.mbMapped

theorem Keeps.mbTimeout {e} (h : Keeps ex s u) : Keeps ex s (u.mbTimeout e) := by
  unfold State.mbTimeout
  dsimp only
  split
  · exact h.engStep
  · exact h.engStep.both (fun h => h.engMod.engSend) (fun h => (by
      split
      · exact h.engMod.incSat.raise
      · exact (h.engMod.incSat.free 66).raise))

theorem Keeps.mstpTo {e k} (h : Keeps ex s u) : Keeps ex s (u.mstpTo e k) :=
  h.engMod.wrB

theorem Keeps.mstpSend {e type dest d} (h : Keeps ex s u) : Keeps ex s (u.mstpSend e type dest d) :=
  h.engSend

theorem Keeps.passToken {e} (h : Keeps ex s u) : Keeps ex s (u.passToken e) :=
  h.engMod.mstpSend.mstpTo

theorem Keeps.pollFor {e p} (h : Keeps ex s u) : Keeps ex s (u.pollFor e p) :=
  h.engMod.mstpSend.mstpTo

theorem Keeps.doneToken {e k} (h : Keeps ex s u) : Keeps ex s (u.doneToken e k) := by
  induction k generalizing u with
  | zero => exact h
  | succ k ih =>
    have alone : Keeps ex s (((u.engMod e fun x => { x with tokens := x.tokens + 1 }).engMod e
        fun x => { x with frames := 0 }).mstpTo e .useToken) := h.engMod.engMod.mstpTo
    unfold State.doneToken
    exact h.pollFor.ite ((h.engMod.passToken.ite (alone.ite (ih alone))).ite
      (h.pollFor.ite (h.engMod.pollFor.ite h.engMod.passToken)))

theorem Keeps.takeToken {e} (h : Keeps ex s u) : Keeps ex s (u.takeToken e) :=
  h.engMod.mstpTo.unless fun h => h.doneToken

theorem Keeps.afterFrame {e} (h : Keeps ex s u) : Keeps ex s (u.afterFrame e) :=
  h.mstpTo.ite h.doneToken

theorem Keeps.pollFailed {e} (h : Keeps ex s u) : Keeps ex s (u.pollFailed e) :=
  h.takeToken.ite (h.passToken.ite (h.pollFor.ite h.engMod.takeToken))

theorem Keeps.mstpIdleRx {e type dest src d} (h : Keeps ex s u) : Keeps ex s (u.mstpIdleRx e type dest src d) :=
  h.mstpTo.both (fun h => h.engMod.takeToken.ite h) fun h => (h.mstpSend.ite h).ite (h.ite (h.mstpSend.ite
      ((h.fldStore.also fun h => h.engMod.mstpTo).ite h)))

theorem Keeps.mstpBad {e} (h : Keeps ex s u) : Keeps ex s (u.mstpBad e) := by
  unfold State.mstpBad
  dsimp only
  split
  · exact h.fldError.doneToken
  · exact h.fldError.pollFailed
  · exact h.fldError

theorem Keeps.mstpValid {e f} (h : Keeps ex s u) : Keeps ex s (u.mstpValid e f) := by
  unfold State.mstpValid
  split
  · split
    · exact h.fldStore.afterFrame.ite (h.afterFrame.ite h.mstpTo)
    · exact h.engMod.passToken.ite h.mstpIdleRx
    · exact h
    · exact h
    · exact h.mstpIdleRx

theorem Keeps.mstpReceive {e f ok} (h : Keeps ex s u) : Keeps ex s (u.mstpReceive e f ok) := by
  unfold State.mstpReceive
  split
  · exact h
  · split
    · exact h.mstpValid.ite h.mstpBad
    · exact h.mstpBad

theorem Keeps.mstpTimer {e} (h : Keeps ex s u) : Keeps ex s (u.mstpTimer e) :=
  h.engStep.unless (fun h => (by
    dsimp only
    split
    · exact h.mstpTo
    · exact h.engMod.pollFor
    · exact h.doneToken
    · exact h.engMod.mstpSend.ite h.engMod.pollFor
    · exact h.pollFailed
    · exact h
    · exact h))

theorem Keeps.replyPostponed {e} (h : Keeps ex s u) : Keeps ex s (u.replyPostponed e) :=
  h.engStep.also fun h => h.mstpSend.mstpTo

theorem Keeps.mstpTransmit {e} (h : Keeps ex s u) : Keeps ex s (u.mstpTransmit e) := by
  unfold State.mstpTransmit
  dsimp only
  split
  · exact h.txTake.engMod.mstpSend.both (fun h => h.mstpTo) fun h => h.afterFrame
  · exact h.txTake.mstpSend.mstpTo.ite h
  · exact h

theorem Keeps.knxSend {e f} (h : Keeps ex s u) : Keeps ex s (u.knxSend e f) :=
  h.ite (h.engMod.also fun h => h.engSend)

theorem Keeps.knxNext {e} (h : Keeps ex s u) : Keeps ex s (u.knxNext e) := by
  unfold State.knxNext
  dsimp only
  split
  · exact h.engMod.engSend
  · exact h.engMod

theorem Keeps.sendDpt9 {p} (h : Keeps ex s u) : Keeps ex s (u.sendDpt9 p).2 := by
  unfold State.sendDpt9
  dsimp only
  split
  · dsimp only
    exact h.sendFloat.free 67
  · dsimp only
    exact h.sendFloat.free 67

theorem Keeps.dptBytes {p t} (h : Keeps ex s u) : Keeps ex s ((u.dptBytes p t).2).2 := by
  unfold State.dptBytes
  split
  · exact h.sendInt
  · exact h.sendInt
  · exact h.sendInt
  · exact h.sendDpt9
  · exact h.sendFloat

theorem Keeps.knxEntrySend {e i m apci} (h : Keeps ex s u) : Keeps ex s (u.knxEntrySend e i m apci) :=
  h.ite h.dptBytes.engMod.knxSend

theorem Keeps.knxTick (h : Keeps ex s u) : Keeps ex s u.knxTick :=
  h.each fun _ _ h => h.ite (h.engStep.each fun _ _ h => h.knxEntrySend.ite h)

theorem Keeps.knxWrite {e i m f} (h : Keeps ex s u) : Keeps ex s (u.knxWrite e i m f) := by
  unfold State.knxWrite
  dsimp only
  split
  · exact h.fieldWrite
  · exact h.fieldWrite
  · exact h.fieldWrite
  · exact h.fieldFloat
  · exact h.fieldFloat

theorem Keeps.knxReceive {e f ok} (h : Keeps ex s u) : Keeps ex s (u.knxReceive e f ok) :=
  h.knxNext.ite (h.ite (h.fldBad.ite ((h.ite h.engSend).both (fun h => h.fldStore) fun h => (h.each fun _ _ h =>
      h.knxWrite).ite ((h.each fun _ _ h => h.knxEntrySend).ite h.fldStore))))

theorem Keeps.knxRepeat {e} (h : Keeps ex s u) : Keeps ex s (u.knxRepeat e) := by
  unfold State.knxRepeat
  dsimp only
  split
  · exact h.engStep
  · exact h.engStep.both (fun h => h.knxNext) fun h => h.engMod.engSend

theorem Keeps.fldEnable {e} (h : Keeps ex s u) : Keeps ex s (u.fldEnable e) :=
  h.ite (h.ite h.wrB.engMod)

theorem Keeps.fldDisable {e} (h : Keeps ex s u) : Keeps ex s (u.fldDisable e) :=
  h.wrB.wrB.engMod

theorem Keeps.fldReceive {e f ok} (h : Keeps ex s u) : Keeps ex s (u.fldReceive e f ok) :=
  h.engStep.both (fun h => h.fldStore.ite h.fldBad) fun h => h.mstpReceive.ite (h.mbReceive.ite (h.knxReceive.ite h))

theorem Keeps.fldTransmit {e} (h : Keeps ex s u) : Keeps ex s (u.fldTransmit e) :=
  h.engStep.unless fun h => h.txTake.engSend.ite (h.mstpTransmit.ite (h.txTake.engSend.ite (h.txTake.knxSend.ite h)))

theorem Keeps.execFldEnable {e} (h : Keeps ex s u) : Ends ex s (execFldEnable e u) :=
  h.act fun _ h => h.fldEnable

theorem Keeps.execFldRxFrame {e f ok} (h : Keeps ex s u) : Ends ex s (execFldRxFrame e f ok u) :=
  h.act fun _ h => h.fldReceive

theorem Keeps.execFldTxFrame {e} (h : Keeps ex s u) : Ends ex s (execFldTxFrame e u) :=
  h.act fun _ h => h.fldTransmit

theorem Keeps.execMstpTimer {e} (h : Keeps ex s u) : Ends ex s (execMstpTimer e u) :=
  h.act fun _ h => h.mstpTimer

theorem Keeps.execReplyPostponed {e} (h : Keeps ex s u) : Ends ex s (execReplyPostponed e u) :=
  h.act fun _ h => h.replyPostponed

theorem Keeps.execMbTransaction {e} (h : Keeps ex s u) : Ends ex s (execMbTransaction e u) :=
  h.act fun _ h => h.mbTransaction

theorem Keeps.execMbReplyTimeout {e} (h : Keeps ex s u) : Ends ex s (execMbReplyTimeout e u) :=
  h.act fun _ h => h.mbTimeout

theorem Keeps.execKnxRepeat {e} (h : Keeps ex s u) : Ends ex s (execKnxRepeat e u) :=
  h.act fun _ h => h.knxRepeat

end Sys2Proof.Machine
end

section
/-! What the operations of Net.lean keep. -/

namespace Sys2Proof.Machine

set_option Elab.async false

variable {ex : Extent} {s u : State}

theorem Keeps.macMod {m f} (h : Keeps ex s u) : Keeps ex s (u.macMod m f) :=
  h.ports

theorem Keeps.macSend {m f} (h : Keeps ex s u) : Keeps ex s (u.macSend m f) :=
  h.macMod.ite h.macMod

theorem Keeps.macStep {m} (h : Keeps ex s u) : Keeps ex s (u.macStep m) :=
  h.macMod.ite h.macMod

theorem Keeps.svcView {m} (h : Keeps .memory s u) : Keeps .memory s (u.svcView m) :=
  h.rest.ite h

theorem Keeps.macStore {m f crcOk} (h : Keeps ex s u) : Keeps ex s (u.macStore m f crcOk) :=
  h.incSat.raise.ite ((h.incSat.ite h).also fun h => h.incSat).putGeneral.putGeneral.wr

theorem Keeps.pause {m f} (h : Keeps ex s u) : Keeps ex s (u.pause m f) :=
  h.macMod.ite h

theorem Keeps.netReceive {m f crcOk} (h : Keeps ex s u) : Keeps ex s (u.netReceive m f crcOk) :=
  h.macStep.unless (fun h => Keeps.unless (by
    split
    · exact (h.pause.ite h).macSend
    · exact h.pause.ite h) fun h => h.macStore)

theorem Keeps.netKick {m} (h : Keeps ex s u) : Keeps ex s (u.netKick m) :=
  h.macStep.unless fun h => h.macMod

theorem Keeps.netSent {m} (h : Keeps ex s u) : Keeps ex s (u.netSent m) :=
  h.macStep.unless fun h => h.putGeneral.wr.macMod

theorem Keeps.mdioGo {m} (h : Keeps ex s u) : Keeps ex s (u.mdioGo m) :=
  h.wrB

theorem Keeps.mdioDone {m d} (h : Keeps ex s u) : Keeps ex s (u.mdioDone m d) :=
  h.ite (h.wrB.also fun h => h.wr)

theorem Keeps.execNetRxFrame {m f crcOk} (h : Keeps ex s u) : Ends ex s (execNetRxFrame m f crcOk u) :=
  h.act fun _ h => h.netReceive

theorem Keeps.execNetTxKick {m} (h : Keeps ex s u) : Ends ex s (execNetTxKick m u) :=
  h.act fun _ h => h.netKick

theorem Keeps.execNetTxDone {m} (h : Keeps ex s u) : Ends ex s (execNetTxDone m u) :=
  h.act fun _ h => h.netSent

theorem Keeps.execMdioGo {m} (h : Keeps ex s u) : Ends ex s (execMdioGo m u) :=
  h.act fun _ h => h.mdioGo

theorem Keeps.execMdioDone {m data} (h : Keeps ex s u) : Ends ex s (execMdioDone m data u) :=
  h.act fun _ h => h.mdioDone

theorem Keeps.execEthLinkChange {m up speed} (h : Keeps ex s u) : Ends ex s (execEthLinkChange m up speed u) :=
  h.act fun _ h => h.wrB.wr

end Sys2Proof.Machine
end

section
/-! What the operations of DeckRegs.lean keep. -/

namespace Sys2Proof.Machine

set_option Elab.async false

variable {ex : Extent} {s u : State}

theorem Keeps.execDescRead (h : Keeps ex s u) : Ends ex s (execDescRead u) :=
  h.act fun _ h => h.each fun _ _ h => h.wr

theorem Keeps.execDescWrite (h : Keeps ex s u) : Ends ex s (execDescWrite u) :=
  h.act fun _ h => h.wrB.ite h.stageDesc

theorem Keeps.execDescLockSet (h : Keeps ex s u) : Ends ex s (execDescLockSet u) :=
  h.act fun _ h => h.wrB

theorem Keeps.execForce {i} (h : Keeps ex s u) : Ends ex s (execForce i u) :=
  h.act fun _ h => h.force.ite h

theorem Keeps.execReleaseA {i} (h : Keeps ex s u) : Ends ex s (execReleaseA i u) :=
  h.act fun _ h => h.release.ite h

theorem Keeps.execReleaseAll {i} (h : Keeps ex s u) : Ends ex s (execReleaseAll i u) :=
  h.act fun _ h => h.release.ite h

theorem Keeps.blkStartOf {n first count} (h : Keeps ex s u) : Keeps ex s (u.blkStartOf n first count) :=
  h.wr.unless fun h => h.wr.ite h.wrB.wr.same

theorem Keeps.blkStart {n} (h : Keeps ex s u) : Keeps ex s (u.blkStart n) :=
  h.blkStartOf

theorem Keeps.blkCancel {n} (h : Keeps ex s u) : Keeps ex s (u.blkCancel n) := by
  unfold State.blkCancel
  split
  · exact h.wr.same
  · exact h.wrB
  · exact h.wrB
  · exact h

theorem Keeps.blkRelease {n} (h : Keeps ex s u) : Keeps ex s (u.blkRelease n) :=
  h.ite h.wr

theorem Keeps.blkTick (h : Keeps ex s u) : Keeps ex s u.blkTick :=
  h.same

theorem Keeps.blkFinish {n} (h : Keeps ex s u) : Keeps ex s (u.blkFinish n) := by
  unfold State.blkFinish
  split
  · exact h
  · split
    · exact h
    · exact h.same.deckPut.wr.wr48

theorem Keeps.blkFlush (h : Keeps ex s u) : Keeps ex s u.blkFlush :=
  h.each fun _ _ h => h.blkFinish

theorem Keeps.execDeckBlkStart {n} (h : Keeps ex s u) : Ends ex s (execDeckBlkStart n u) :=
  h.act fun _ h => h.blkStart

theorem Keeps.execDeckBlkCancel {n} (h : Keeps ex s u) : Ends ex s (execDeckBlkCancel n u) :=
  h.act fun _ h => h.blkCancel

theorem Keeps.execDeckBlkRelease {n} (h : Keeps ex s u) : Ends ex s (execDeckBlkRelease n u) :=
  h.act fun _ h => h.blkRelease

theorem Keeps.execBlkCopyDone {n} (h : Keeps ex s u) : Ends ex s (execBlkCopyDone n u) :=
  h.act fun _ h => h.ite h.blkFinish

end Sys2Proof.Machine
end

section
/-! What the operations of Gpio.lean keep. -/

namespace Sys2Proof.Machine

set_option Elab.async false

variable {ex : Extent} {s u : State}

theorem Keeps.i2cGo {m} (h : Keeps ex s u) : Keeps ex s (u.i2cGo m) :=
  h.ite (h.wr.ite h.wr.ports)

theorem Keeps.i2cDone {m nack data} (h : Keeps ex s u) : Keeps ex s (u.i2cDone m nack data) :=
  h.ite (h.ite h.putGeneral).wr

theorem Keeps.i2cTimeout {m} (h : Keeps ex s u) : Keeps ex s (u.i2cTimeout m) :=
  h.wr.ite h

theorem Keeps.spiGo {m} (h : Keeps ex s u) : Keeps ex s (u.spiGo m) :=
  h.ite (h.wr.ite h.wr.ports)

theorem Keeps.spiDone {m data} (h : Keeps ex s u) : Keeps ex s (u.spiDone m data) :=
  h.ite (h.ite h.putGeneral).wr

theorem Keeps.gpioAccept {n level} (h : Keeps ex s u) : Keeps ex s (u.gpioAccept n level) :=
  h.ite (((h.setMap.ite h.clrMap).wr.also fun h => h.gpioTriggers).also fun h => h.motGpio)

theorem Keeps.gpioSample (h : Keeps ex s u) : Keeps ex s u.gpioSample :=
  h.ports

theorem Keeps.gpioSnap (h : Keeps ex s u) : Keeps ex s u.gpioSnap :=
  h.wr.ite h

theorem Keeps.gpioOut {v} (h : Keeps ex s u) : Keeps ex s (u.gpioOut v) :=
  h.ports.ite h.wr

theorem Keeps.gpioApply (h : Keeps ex s u) : Keeps ex s u.gpioApply := by
  unfold State.gpioApply
  split
  · exact h
  · exact h.ports.wr

theorem Keeps.execI2cGo {m} (h : Keeps ex s u) : Ends ex s (execI2cGo m u) :=
  h.act fun _ h => h.i2cGo

theorem Keeps.execI2cDone {m nack data} (h : Keeps ex s u) : Ends ex s (execI2cDone m nack data u) :=
  h.act fun _ h => h.i2cDone

theorem Keeps.execI2cStretchTimeout {m} (h : Keeps ex s u) : Ends ex s (execI2cStretchTimeout m u) :=
  h.act fun _ h => h.i2cTimeout

theorem Keeps.execSpiGo {m} (h : Keeps ex s u) : Ends ex s (execSpiGo m u) :=
  h.act fun _ h => h.spiGo

theorem Keeps.execSpiDone {m data} (h : Keeps ex s u) : Ends ex s (execSpiDone m data u) :=
  h.act fun _ h => h.spiDone

theorem Keeps.execGpioEdge {n level} (h : Keeps ex s u) : Ends ex s (execGpioEdge n level u) :=
  h.act fun _ h => h.inCycle fun _ h => h.gpioAccept

end Sys2Proof.Machine
end

section
/-! What the operations of PowerDom.lean keep. -/

namespace Sys2Proof.Machine

set_option Elab.async false

variable {s u : State}

theorem Keeps.pdRequest {d on} (h : Keeps .memory s u) : Keeps .memory s (u.pdRequest d on) :=
  h.ite (h.wrB.wr.wr.ite ((h.setMap.ite h.clrMap).setMap.rest.also fun h => h.residueSnap))

theorem Keeps.pdWrite {pier on} (h : Keeps .memory s u) : Keeps .memory s (u.pdWrite pier on) :=
  h.each fun _ _ h => h.ite h.pdRequest

theorem Keeps.execPdSwitchRequest {on} (h : Keeps .memory s u) : Ends .memory s (execPdSwitchRequest on u) :=
  h.act fun _ h => h.pdWrite

theorem Keeps.loseHalf {d} (h : Keeps .memory s u) : Keeps .memory s (u.loseHalf d) := by
  unfold State.loseHalf
  refine Keeps.showSpares ⟨h.pending, fun wf => (State.memoryWf_iff _).mpr ?_, fun he => absurd (Eq.refl _) he, nofun⟩
  obtain ⟨deck, tcm⟩ := (State.memoryWf_iff u).mp (h.form wf)
  exact ⟨deck, Sparse.wf_filter tcm _⟩

theorem Keeps.loseDeck (h : Keeps .memory s u) : Keeps .memory s u.loseDeck := by
  have bare : Keeps .memory s { u with deck := [], pts := {}, health := { u.health with poisoned := [], upsets := [] } } :=
    Keeps.rest (u := { u with deck := [] }) (h.newDeck fun _ => Eq.refl _)
  have kept : Keeps .memory s
      { u with pts := { seen := u.pts.seen, own := u.pts.own, desc := u.pts.desc, forces := u.pts.forces } } := h.rest
  unfold State.loseDeck
  exact (kept.ite bare).rest.sensForget.clearBlock.clearBlock.wrB

theorem Keeps.lose {d} (h : Keeps .memory s u) : Keeps .memory s (u.lose d) := by
  unfold State.lose
  split
  · exact h.loseHalf
  · exact h.loseHalf
  · exact h.loseDeck
  · exact h.lanesDown
  · exact h.rest.clearBlock.clearBlock.clearBlock.clearBlock
  · exact h.rest.clearBlock.clearBlock.wr
  · dsimp only
    exact h.writeResidue.rest.clearBlock
  · exact h.rest.clearBlock
  · exact h.rest.clearBlock
  · dsimp only
    exact h.rest.clearBlock.wr.rest

theorem Keeps.showRetired {kind n f code} (h : Keeps .memory s u) : Keeps .memory s (u.showRetired kind n f code) :=
  h.each fun _ _ h => h.wrAny

theorem Keeps.spareHalf {d} (h : Keeps .memory s u) : Keeps .memory s (u.spareHalf d) :=
  h.piers.showSpares

theorem Keeps.showRetiredHsw (h : Keeps .memory s u) : Keeps .memory s u.showRetiredHsw :=
  h.each fun _ _ h => h.wr

theorem Keeps.regain {d} (h : Keeps .memory s u) : Keeps .memory s (u.regain d) := by
  unfold State.regain
  split
  · exact h.spareHalf
  · exact h.spareHalf
  · exact h.rest.wrB.wrB.evrStart
  · exact h.refEnable.each fun _ _ h => h.sliceRetired
  · exact h.checkBlock
  · exact h.showRetired.showRetiredHsw
  · exact h.showRetired
  · exact h.showRetired
  · exact h

theorem Keeps.pdDone {d on failed} (h : Keeps .memory s u) : Keeps .memory s (u.pdDone d on failed) :=
  (h.rest.clrMap.both (fun h => h.setMap.retireAll.regain) fun h => h.lose.clrMap).event

theorem Keeps.execPdSwitchDone {d failed} (h : Keeps .memory s u) : Ends .memory s (execPdSwitchDone d failed u) :=
  h.act (fun _ h => (by
    split
    · exact h.pdDone
    · exact h))

end Sys2Proof.Machine
end

section
/-! What the operations of W31.lean keep. -/

namespace Sys2Proof.Machine

set_option Elab.async false

variable {ex : Extent} {s u : State}

theorem Keeps.w31Act {f : State → State} (h : Keeps ex s u) (hf : ∀ t, Keeps ex s t → Keeps ex s (f t)) : Ends ex s (u.w31Act f)
    :=
  h.act fun _ h => (hf _ h).ite h

theorem Keeps.w31Field {z f} (h : Keeps ex s u) : Keeps ex s (u.w31Field z f).2 := by
  unfold State.w31Field
  dsimp only
  split
  · exact h
  · exact h.free 82

theorem Keeps.w31Snap (h : Keeps ex s u) : Keeps ex s u.w31Snap :=
  h.ite (h.ports.each fun _ _ h => h.w31Field.ports)

theorem Keeps.w31Show (h : Keeps ex s u) : Keeps ex s u.w31Show := by
  unfold State.w31Show
  split
  · exact h
  · exact h.ports

theorem Keeps.w31Read {a} (h : Keeps ex s u) : Keeps ex s (u.w31Read a).2 := by
  unfold State.w31Read
  dsimp only
  split
  · dsimp only
    exact h.ports
  · split
    · exact h
    · exact h
  · exact h

theorem Keeps.w31Get {a} (h : Keeps ex s u) : Ends ex s (u.w31Get a) := by
  refine h.act fun u h => ?_
  by_cases on : u.bit F.HOSTP_W31_CTL = true
  · simp only [if_pos on]
    exact h.w31Read.ports
  · simp only [if_neg on]
    exact h.ports

theorem Keeps.w31Commit {f b} (h : Keeps ex s u) : Keeps ex s (u.w31Commit f b) :=
  h.ite (h.incSat.ite h).ports

theorem Keeps.w31Abandon (h : Keeps ex s u) : Keeps ex s u.w31Abandon :=
  h.ite h.ports.incSat

theorem Keeps.w31Page {d} (h : Keeps ex s u) : Keeps ex s (u.w31Page d) :=
  h.w31Abandon.ports

theorem Keeps.w31Write {a d} (h : Keeps ex s u) : Keeps ex s (u.w31Write a d) := by
  unfold State.w31Write
  split
  · exact h.w31Commit
  · exact h.w31Commit
  · exact Keeps.ports (by
      split
      · exact h.ite h.w31Abandon
      · exact h)
  · split
    · exact h.ports.w31Commit
    · exact h.incSat
  · exact h.w31Abandon
  · exact h.incSat
  · exact h.w31Page
  · exact h

theorem Keeps.w31Due (h : Keeps ex s u) : Keeps ex s u.w31Due :=
  h.ports

theorem Keeps.w31Present (h : Keeps ex s u) : Keeps ex s u.w31Present := by
  unfold State.w31Present
  refine h.ports.each fun u c h => ?_
  have soft {r} (eq : u.softWrite c.pt 6 0 c.value .good = r) : Keeps ex s r.2 := eq ▸ h.softWrite
  split
  next eq => exact soft eq
  next eq => exact (Keeps.ownRefused (soft eq)).incSat
  next eq => exact (soft eq).incSat

theorem Keeps.execW31Read {a} (h : Keeps ex s u) : Ends ex s (execW31Read a u) :=
  h.w31Get

theorem Keeps.execW31ReadL {a} (h : Keeps ex s u) : Ends ex s (execW31ReadL a u) :=
  h.w31Get

theorem Keeps.execW31ReadH {a} (h : Keeps ex s u) : Ends ex s (execW31ReadH a u) :=
  h.w31Get

theorem Keeps.execW31Write {a d} (h : Keeps ex s u) : Ends ex s (execW31Write a d u) :=
  h.w31Act fun _ h => h.w31Write

theorem Keeps.execW31WriteL {a d} (h : Keeps ex s u) : Ends ex s (execW31WriteL a d u) :=
  h.w31Act fun _ h => h.w31Write

theorem Keeps.execW31WriteH {a d} (h : Keeps ex s u) : Ends ex s (execW31WriteH a d u) :=
  h.w31Act fun _ h => h.w31Write

theorem Keeps.execW31PageWrite {d} (h : Keeps ex s u) : Ends ex s (execW31PageWrite d u) :=
  h.w31Act fun _ h => h.w31Page

theorem Keeps.execW31SnapshotDone (h : Keeps ex s u) : Ends ex s (execW31SnapshotDone u) :=
  h.act fun _ h => h.ite h.w31Show

end Sys2Proof.Machine
end

section
/-! What the operations of Span.lean keep. -/

namespace Sys2Proof.Machine

set_option Elab.async false

variable {ex : Extent} {s u : State}

theorem Keeps.startTick (h : Keeps ex s u) : Keeps ex s u.startTick := by
  unfold State.startTick
  split
  · split
    · exact h.same.primeAll
    · exact h
  · exact (h.toStep.event.also fun h => h.startAlign).ite h

theorem Keeps.startCoherent {p} {old : State} (h : Keeps ex s u) : Keeps ex s (old.startCoherent u p) :=
  h.toStep.startValues.ite h

theorem Keeps.spanSwitch (h : Keeps ex s u) (part : ex.wholeSpan = false := by trivial) : Keeps ex s u.spanSwitch := by
  unfold State.spanSwitch
  split
  · exact h
  · exact h.ite (h.inSpan.unless fun h => h.inSpan.wrSel.wr.event)

theorem Keeps.bearPredict (h : Keeps ex s u) (part : ex.wholeSpan = false := by trivial) : Keeps ex s u.bearPredict :=
  h.inSpan

theorem Keeps.nextFrame {first} (h : Keeps .memory s u) : Keeps .memory s (u.nextFrame first) :=
  (h.ite h.rest).rest.wrAny

theorem Keeps.deckTick (h : Keeps ex s u) (part : ex.wholeSpan = false := by trivial) : Keeps ex s u.deckTick :=
  (((h.startTick.also fun h => h.sensForget).also fun h =>
      h.sensTick).mirrorTick.treTick.flip.hotTests.startCoherent.also fun h => h.same.startValues).pierTick.blkTick

theorem Keeps.upsetsArise (h : Keeps ex s u) : Keeps ex s u.upsetsArise :=
  h.same

/-- What a tick does before the frame number goes up. -/
def State.spanEnds (s : State) : State :=
  let s := s.thawTick
  let s := if s.domOn .deck then s.blkFlush else s
  s.healthLatch

/-- What a tick does after the frame number has gone up, `ended` being the one before. -/
def State.spanBegins (s : State) (n ended : Nat) (meas : Option Nat) : State :=
  let s := if s.domOn .deck then s.evrTick else s
  let s := s.spanSwitch.bearPredict
  let s := if s.domOn .conv then s.sensSpans else s
  let s := if s.domOn .deck then s.deckTick else s
  let s := s.gpioSnap.knxTick.w31Due.w31Snap
  let s := match meas with
    | some m => s.healthEval ended m
    | none => s
  (s.sortEvents n).upsetsArise

theorem State.tickWork_eq (s : State) (meas : Option Nat) :
    s.tickWork meas = (s.spanEnds.nextFrame meas.isNone).spanBegins s.evr.queue.length s.frame meas := rfl

theorem Keeps.spanEnds (h : Keeps ex s u) : Keeps ex s u.spanEnds :=
  (h.thawTick.also fun h => h.blkFlush).healthLatch

theorem Keeps.spanBegins {n ended meas} (h : Keeps ex s u) (part : ex.wholeSpan = false := by trivial) : Keeps ex s (u.spanBegins n ended meas) :=
  (Keeps.sortEvents (by
    split
    · exact ((((h.evrTick.ite h).spanSwitch.bearPredict.also fun h => h.sensSpans).also fun h =>
        h.deckTick).gpioSnap.knxTick.w31Due.w31Snap).healthEval
    · exact (((h.evrTick.ite h).spanSwitch.bearPredict.also fun h => h.sensSpans).also fun h =>
        h.deckTick).gpioSnap.knxTick.w31Due.w31Snap)).upsetsArise

theorem Keeps.tickWork {meas} (h : Keeps .memory s u) : Keeps .memory s (u.tickWork meas) :=
  h.spanEnds.nextFrame.spanBegins

theorem Keeps.execTick {meas} (h : Keeps .memory s u) : Ends .memory s (execTick meas u) :=
  h.act fun _ h => h.toPhase.tickWork.ite h

theorem Keeps.instant {p} {f : State → State} (h : Keeps .memory s u) (hf : ∀ t, Keeps .memory s t → Keeps .memory s (f t)) : Keeps .memory s
    (u.instant p f) :=
  (hf _ h.toPhase).ite h

theorem Keeps.execTickMarkerSend {len} (h : Keeps .memory s u) : Ends .memory s (execTickMarkerSend len u) :=
  h.act fun _ h => h.ite (h.instant fun _ h => h).rest

theorem Keeps.execCommandSetSend (h : Keeps .memory s u) : Ends .memory s (execCommandSetSend u) :=
  h.act fun _ h => h.ite (h.instant fun _ h => h.rest)

theorem Keeps.applyChannels (h : Keeps ex s u) : Keeps ex s u.applyChannels :=
  ((((h.each fun _ _ h => h.solApply).ite h).also fun h => h.each fun _ _ h => h.motApply).also fun h => h.each
      fun _ _ h => h.fanApply).also fun h => h.each fun _ _ h => h.zswApply

theorem Keeps.execApplyInstant (h : Keeps .memory s u) : Ends .memory s (execApplyInstant u) :=
  h.act fun _ h => h.ite (h.instant fun _ h => h.inCycle fun _ h => ((h.rest.also fun h => h.solRestart).rest.also
      fun h => h.applyChannels).also fun h => h.gpioApply)

theorem Keeps.execWriteClose (h : Keeps .memory s u) : Ends .memory s (execWriteClose u) :=
  h.act fun _ h => h.instant fun _ h => (h.mirrorClose.ite h).wrAny

theorem Keeps.execStatusSample (h : Keeps .memory s u) : Ends .memory s (execStatusSample u) :=
  h.act fun _ h => h.ite (h.instant fun _ h => ((((h.each fun _ _ h => h.solStatus).ite h).also fun h => h.each
      fun _ _ h => h.motStatus).also fun h => h.each fun _ _ h => h.fanStatus).also fun h => h.meterStatusSample)

theorem Keeps.execInputClose (h : Keeps .memory s u) : Ends .memory s (execInputClose u) :=
  h.act fun _ h => h.instant fun _ h => (h.wrAny.also fun h => h.gpioSample).also fun h => h.swapWrites

theorem Keeps.bearSpan (h : Keeps ex s u) : Keeps ex s u.bearSpan :=
  ((h.tickTriggers.ite h).also fun h => h.each fun _ _ h => h.motTick).same

theorem Keeps.execBearTick {err} (h : Keeps .memory s u) : Ends .memory s (execBearTick err u) :=
  h.act (fun _ h => (by
    split
    · exact h
    · exact h.rest.wrAny.inCycle fun _ h => (h.incSat.event.ite h).bearSpan))

theorem Keeps.execBearMarkerMiss (h : Keeps .memory s u) : Ends .memory s (execBearMarkerMiss u) :=
  h.act fun _ h => h.ite (h.rest.incSat.event.both (fun h => h.resetReleased) fun h => h.bearSpan)

theorem Keeps.spanArm (h : Keeps .memory s u) : Keeps .memory s u.spanArm :=
  h.ite (h.wr.wrB.both (fun h => h.wr) fun h => (h.wr.rest.also fun h => h.same).mirror)

theorem Keeps.spanCancel (h : Keeps .memory s u) : Keeps .memory s u.spanCancel := by
  unfold State.spanCancel
  split
  · exact h.wrB.ite h.wr.rest.mirror
  · exact h.wrB
  · exact h

theorem Keeps.execSpanArm (h : Keeps .memory s u) : Ends .memory s (execSpanArm u) :=
  h.act fun _ h => h.spanArm

theorem Keeps.execSpanCancel (h : Keeps .memory s u) : Ends .memory s (execSpanCancel u) :=
  h.act fun _ h => h.spanCancel

theorem Keeps.startGo (h : Keeps ex s u) : Keeps ex s u.startGo :=
  h.toStep.ite h

theorem Keeps.execStartGo (h : Keeps ex s u) : Ends ex s (execStartGo u) :=
  h.act fun _ h => h.startGo

theorem Keeps.execAdmitDone (h : Keeps .memory s u) : Ends .memory s (execAdmitDone u) :=
  h.act fun _ h => h.ite h.wrAny.wrB.wrAny.admitOver.tickWork

theorem Keeps.execJoinTimeout (h : Keeps ex s u) : Ends ex s (execJoinTimeout u) :=
  h.act fun _ h => h.wrB.joinDone.ite h

theorem Keeps.execOutputStep (h : Keeps .memory s u) : Ends .memory s (execOutputStep u) :=
  h.act fun _ h => h.ite (h.instant fun _ h => h.ownRaise.ite h)

end Sys2Proof.Machine
end

section
/-! What the operations of RegWrite.lean keep. -/

namespace Sys2Proof.Machine

set_option Elab.async false

variable {s u : State}

theorem Keeps.run {f : State → Out} (h : Keeps .memory s u) (hf : ∀ t, Keeps .memory s t → Ends .memory s (f t)) : Keeps .memory s (u.run f) := by
  have ends := hf u h
  unfold State.run
  split
  next t eq => rw [eq] at ends; exact ends
  next => exact h

theorem Keeps.partWrite {f x y d} {was : State} (h : Keeps .memory s u) : Keeps .memory s (u.partWrite was f x y d) := by
  unfold State.partWrite
  dsimp only
  split
  · exact h
  · exact h
  · exact h.ite h.wrAny
  · exact h.ite h.wrAny
  · exact h.ite h.wrAny
  · exact h.wrAny.ite h

theorem Keeps.enWrite {f x d} {on : State → ℕ → State} {off : State → ℕ → State} (h : Keeps .memory s u) (hon : ∀ t x, Keeps
    .memory s t → Keeps .memory s (on t x)) (hoff : ∀ t x, Keeps .memory s t → Keeps .memory s (off t x)) : Keeps .memory s (u.enWrite f x d on off) :=
  (hon _ _ h).ite ((hoff _ _ h).ite h)

theorem Keeps.sysEffect {i r d} (h : Keeps .memory s u) : Keeps .memory s (u.sysEffect i r d) := by
  unfold State.sysEffect
  split
  · split
    · exact h
    · split
      · exact h.resetBy
      · exact h.resetOrder
      · exact h
  · exact (h.run fun _ h => h.execWdogKick).ite (h.pdWrite.ite (((h.run fun _ h => h.execBootGo).ite h).ite
      ((h.startGo.ite h).ite h)))

theorem Keeps.spanEffect {r d} (h : Keeps .memory s u) : Keeps .memory s (u.spanEffect r d) := by
  unfold State.spanEffect
  split
  · exact h.ite h.wrAny
  · split
    · split
      · exact h.spanArm
      · exact h.spanCancel
      · exact h
    · exact h

theorem Keeps.deckEffect {i r x d} (h : Keeps .memory s u) : Keeps .memory s (u.deckEffect i r x d) := by
  unfold State.deckEffect
  split
  · split
    · exact h.run fun _ h => h.execDescRead
    · exact h.run fun _ h => h.execDescWrite
    · exact h
  · split
    · split
      · exact h.run fun _ h => h.execForce
      · exact h.run fun _ h => h.execReleaseA
      · exact h.run fun _ h => h.execReleaseAll
      · exact h
    · split
      · split
        · exact h.blkStart
        · exact h.blkCancel
        · exact h.blkRelease
        · exact h
      · exact h

theorem Keeps.pierctlEffect {r x d} {was : State} (h : Keeps .memory s u) : Keeps .memory s (was.pierctlEffect u r x d) := by
  unfold State.pierctlEffect
  split
  · exact h.ite h.pickSpares
  · split
    · dsimp only
      split
      · exact h.run fun _ h => h.execLoadSched
      · exact h.run fun _ h => h.execSwapArm
      · exact h.run fun _ h => h.execSwapCancel
      · exact h.run fun _ h => h.execStopSched
      · exact h
    · exact (h.ite h.bpRestart).ite (((h.run fun _ h => h.execOvlStart).ite h).ite h)

theorem Keeps.convEffect {r x d} (h : Keeps .memory s u) : Keeps .memory s (u.convEffect r x d) := by
  unfold State.convEffect
  split
  · exact h.enWrite (fun _ _ h => h.refEnable) fun _ _ h => h.refDisable
  · split
    · exact h.enWrite (fun _ _ h => h.seqEnable) fun _ _ h => h.seqDisable
    · split
      · split
        · exact h.trigger
        · exact h.seqAbort
        · exact h
      · exact h

theorem Keeps.sensEffect {r x d} (h : Keeps .memory s u) : Keeps .memory s (u.sensEffect r x d) :=
  (h.enWrite (fun _ _ h => h.chkEnable) fun _ _ h => h.wrB).ite ((h.ite h.iexApply).ite h)

theorem Keeps.solEffect {r x d} (h : Keeps .memory s u) : Keeps .memory s (u.solEffect r x d) := by
  unfold State.solEffect
  split
  · exact h.enWrite (fun _ _ h => h.solEnable) fun _ _ h => h.solDisable
  · split
    · split
      · exact h.solPickCmd
      · exact h.solOffCmd
      · exact h.solAbortCmd
      · exact h.solClearCmd
      · exact h
    · exact h

theorem Keeps.motEffect {r x d} (h : Keeps .memory s u) : Keeps .memory s (u.motEffect r x d) := by
  unfold State.motEffect
  split
  · exact h.enWrite (fun _ _ h => h.motEnable) fun _ _ h => h.motDisable
  · split
    · split
      · exact h.motStartCmd
      · exact h.motStartCmd
      · exact h.motStopCmd
      · exact h.motAbortCmd
      · exact h.motClearCmd
      · exact h
    · exact h

theorem Keeps.fanEffect {r x d} (h : Keeps .memory s u) : Keeps .memory s (u.fanEffect r x d) := by
  unfold State.fanEffect
  split
  · exact h.enWrite (fun _ _ h => h.fanEnable) fun _ _ h => h.fanDisable
  · split
    · exact h.fanRegTarget
    · split
      · split
        · exact h.fanCmd fun _ h => h.fanAbort
        · exact h.fanCmd fun _ h => h.fanRestart
        · exact h.fanCmd fun _ h => h.fanClear
        · exact h
      · exact h

theorem Keeps.meterEffect {r x d} (h : Keeps .memory s u) : Keeps .memory s (u.meterEffect r x d) := by
  unfold State.meterEffect
  split
  · exact (h.ite h.frefWritten).enWrite (fun _ _ h => h.ite h.startRun) fun _ _ h => h.wrB
  · split
    · exact h.latchAtOnce.ite h
    · split
      · split
        · exact h.openBank
        · exact h.closeBank
        · exact h
      · exact h.writeSaveMark.ite ((h.consumeBlock.ite h).ite ((h.loadQuantity.ite h).ite (h.epulseKick.ite h)))

theorem Keeps.twinEffect {r d} (h : Keeps .memory s u) : Keeps .memory s (u.twinEffect r d) := by
  unfold State.twinEffect
  split
  · exact h.wrB.tailFromAcks.freezeUpdate
  · split
    · split
      · exact h.relArm
      · exact h.relCancel
      · exact h.realign.ite h
      · exact h
    · exact h.winBad.ite h

theorem Keeps.trestleEffect {r} {was : State} (h : Keeps .memory s u) : Keeps .memory s (was.trestleEffect u r) :=
  h.treDisable.ite h

theorem Keeps.keepEffect {i r x d} {was : State} (h : Keeps .memory s u) : Keeps .memory s (was.keepEffect u i r x d) := by
  unfold State.keepEffect
  split
  · dsimp only
    split
    · exact (h.keepValidate.ite h).keepCommit
    · exact (h.keepValidate.ite h).keepCommit
    · exact h.keepValidate.ite h
  · exact h.keepRam.ite (h.keepTrim.ite (h.wakeEnWritten.ite h))

theorem Keeps.keepInForce {f x y} {was : State} (h : Keeps .memory s u) : Keeps .memory s (was.keepInForce u f x y) :=
  h.ite h.same

theorem Keeps.evrEffect {i r x y d} {was : State} (h : Keeps .memory s u) : Keeps .memory s (was.evrEffect u i r x y d) :=
  h.evrClr.ite (h.tailFromAcks.ite (h.curPos.ite (h.curAck.ite ((h.each fun _ _ h => h.keepInForce).ite h))))

theorem Keeps.healthEffect {i r d} (h : Keeps .memory s u) : Keeps .memory s (u.healthEffect i r d) :=
  h.thrWrite.ite (h.retireWrite.ite h)

theorem Keeps.netEffect {r x d} (h : Keeps .memory s u) : Keeps .memory s (u.netEffect r x d) :=
  h.netKick.ite ((h.mdioGo.ite h).ite h)

theorem Keeps.fieldEffect {r x d} (h : Keeps .memory s u) : Keeps .memory s (u.fieldEffect r x d) :=
  (h.enWrite (fun _ _ h => h.fldEnable) fun _ _ h => h.fldDisable).ite ((h.i2cGo.ite h).ite ((h.spiGo.ite h).ite h))

theorem Keeps.regEffect {i r x y d} {was : State} (h : Keeps .memory s u) : Keeps .memory s (was.regEffect u i r x y d) := by
  unfold State.regEffect
  split
  · exact h.sysEffect
  · exact h.spanEffect
  · exact h.deckEffect
  · exact h.pierctlEffect
  · exact h.convEffect
  · exact h.sensEffect
  · exact h.solEffect
  · exact h.motEffect
  · exact h.fanEffect
  · exact h.meterEffect
  · exact h.twinEffect
  · exact h.trestleEffect
  · exact h.keepEffect
  · exact h.evrEffect
  · exact h.healthEffect
  · exact h.netEffect
  · exact h.fieldEffect
  · exact h.gpioOut.ite h
  · exact h.softFreeze.ite h
  · exact h

theorem Keeps.regWrite {i r x y d} (h : Keeps .memory s u) : Keeps .memory s (u.regWrite i r x y d) :=
  (h.each fun _ _ h => h.partWrite).regEffect

end Sys2Proof.Machine
end

section
/-! What the operations of Bus.lean keep. -/

namespace Sys2Proof.Machine

set_option Elab.async false

variable {s u : State}

-- At one address, a kernel that unfolds `ctlPut` or `ctlRead` computes `findReg`: they are unfolded as functions.
theorem Keeps.ctlPut {i a d} (h : Keeps .memory s u) : Keeps .memory s (u.ctlPut i a d) := by
  suffices all : ∀ f, f = State.ctlPut → Keeps .memory s (f u i a d) from all _ (Eq.refl _)
  intro f eq
  delta State.ctlPut at eq
  generalize findReg = find at eq
  subst eq
  beta_reduce
  cases find a with
  | none => exact h
  | some r => exact h.inCycle fun _ h => h.regWrite

theorem Keeps.postedEffect {p i} (h : Keeps .memory s u) : Keeps .memory s (u.postedEffect p i) :=
  h.ctlPut.ite h

theorem Keeps.drainPosted {i} (h : Keeps .memory s u) : Keeps .memory s (u.drainPosted i) :=
  h.same.each fun _ _ h => h.postedEffect

theorem Keeps.ctlWrite {i a d} (h : Keeps .memory s u) : Keeps .memory s (u.ctlWrite i a d).2 := by
  unfold State.ctlWrite
  split
  · split
    · dsimp only
      exact h.same
    · dsimp only
      exact h.ctlPut
  · exact h

theorem Keeps.latchHi {fs x y} (h : Keeps .memory s u) : Keeps .memory s (u.latchHi fs x y) :=
  h.each fun _ _ h => h.same

theorem Keeps.beforeRead {r x y} (h : Keeps .memory s u) : Keeps .memory s (u.beforeRead r x y) :=
  h.wr.ite (h.latchHi.ite (h.latchHi.ite (h.latchHi.ite (h.latchHi.ite (h.winLatch.ite h)))))

theorem Keeps.afterRead {r x y} (h : Keeps .memory s u) : Keeps .memory s (u.afterRead r x y) :=
  (h.each fun _ _ h => h.wrAny).also fun h => h.winAdvance

theorem Keeps.regRead {i r x y} (h : Keeps .memory s u) : Keeps .memory s (u.regRead i r x y).2 := by
  unfold State.regRead
  split
  · exact h.tkLo
  · split
    · exact h.tkFlg
    · split
      · exact h.tkHi
      · dsimp only
        exact h.beforeRead.afterRead

theorem Keeps.ctlRead {i a} (h : Keeps .memory s u) : Keeps .memory s (u.ctlRead i a).2.2 := by
  suffices all : ∀ f, f = State.ctlRead → Keeps .memory s (f u i a).2.2 from all _ (Eq.refl _)
  intro f eq
  delta State.ctlRead at eq
  generalize findReg = find at eq
  subst eq
  beta_reduce
  generalize u.ctlAccess i a = access
  have drained : Keeps .memory s (if onBearing a then u.drainPosted (initCode i) else u) := h.drainPosted.ite h
  generalize (if onBearing a then u.drainPosted (initCode i) else u) = w at *
  cases access
  case ok =>
    cases find a with
    | none => exact drained
    | some r =>
      have read : Keeps .memory s (w.regRead i r.1 r.2.1 r.2.2).2 := drained.regRead
      dsimp only
      generalize w.regRead i r.1 r.2.1 r.2.2 = answer at *
      exact read
  all_goals exact h

theorem Keeps.busRead {i a} (h : Keeps .memory s u) : Keeps .memory s ((u.busRead i a).2).2 := by
  unfold State.busRead
  split
  · exact h.ctlRead
  · split
    · split
      · dsimp only
        exact h
      · dsimp only
        exact h
    · split
      · dsimp only
        exact h
      · split
        · dsimp only
          exact h
        · dsimp only
          split
          · dsimp only
            exact h.deckRead
          · dsimp only
            exact h.deckRead

theorem Keeps.busWrite {i a d} (h : Keeps .memory s u) : Keeps .memory s (u.busWrite i a d).2 := by
  unfold State.busWrite
  split
  · exact h.ctlWrite
  · split
    · split
      · split
        · exact h
        · dsimp only
          exact h.setTcmBytes
      · exact h
    · split
      · exact h
      · split
        · exact h
        · exact h.deckWrite

theorem Keeps.execRegisterWrite {i addr data} (h : Keeps .memory s u) : Ends .memory s (execRegisterWrite i addr data u) :=
  h.act fun _ h => h.ctlWrite.answer

theorem Keeps.execBearingReadDone {i addr} (h : Keeps .memory s u) : Ends .memory s (execBearingReadDone i addr u) :=
  h.act fun _ h => h.ite h.ctlRead.answer

theorem Keeps.execBearingWriteEffect (h : Keeps .memory s u) : Ends .memory s (execBearingWriteEffect u) :=
  h.act (fun _ h => (by
    split
    · exact h
    · exact h.same.postedEffect))

theorem Keeps.keepSetBy {adjust i} (h : Keeps .memory s u) : Keeps .memory s (u.keepSetBy adjust i) :=
  h.drainPosted.keepCommit

theorem Keeps.execCommitA {i} (h : Keeps .memory s u) : Ends .memory s (execCommitA i u) :=
  h.reach fun _ h => h.keepSetBy

theorem Keeps.execAdjust {i} (h : Keeps .memory s u) : Ends .memory s (execAdjust i u) :=
  h.reach fun _ h => h.keepSetBy

theorem Keeps.tkRead {i a} (h : Keeps .memory s u) : Keeps .memory s (u.tkRead i a) :=
  h.ctlRead.answer

theorem Keeps.execTkLoRead {i} (h : Keeps .memory s u) : Ends .memory s (execTkLoRead i u) :=
  h.act fun _ h => h.tkRead

theorem Keeps.execTkFlgRead {i} (h : Keeps .memory s u) : Ends .memory s (execTkFlgRead i u) :=
  h.act fun _ h => h.tkRead

theorem Keeps.execTkHiRead {i} (h : Keeps .memory s u) : Ends .memory s (execTkHiRead i u) :=
  h.act fun _ h => h.tkRead

theorem Keeps.execClw {c gd ga imm} (h : Keeps .memory s u) : Ends .memory s (execClw c gd ga imm u) := by
  refine h.pierAct fun u h => ?_
  have read {r} (eq : u.ctlRead (u.pierInit c) (u.addrOf c ga imm) = r) : Keeps .memory s r.2.2 := eq ▸ h.ctlRead
  dsimp only
  split
  next eq => exact Keeps.put (read eq)
  next => trivial

theorem Keeps.execCsw {c gd ga imm} (h : Keeps .memory s u) : Ends .memory s (execCsw c gd ga imm u) := by
  refine h.pierAct fun u h => ?_
  have write {r} (eq : u.ctlWrite (u.pierInit c) (u.addrOf c ga imm) (u.ra c gd).toNat = r) : Keeps .memory s r.2 :=
    eq ▸ h.ctlWrite
  split
  next eq => exact write eq
  next => trivial

theorem Keeps.execFence {c} (h : Keeps .memory s u) : Ends .memory s (execFence c u) :=
  h.pierAct fun _ h => h.drainPosted

end Sys2Proof.Machine
end

section
/-! What the operations of Host.lean keep. -/

namespace Sys2Proof.Machine

set_option Elab.async false

variable {s u : State}

theorem Keeps.hostReads {i a n} (h : Keeps .memory s u) : Keeps .memory s (u.hostReads i a n).s := by
  induction n generalizing u a with
  | zero => exact h
  | succ n ih =>
    have read : Keeps .memory s (u.busRead i a).2.2 := h.busRead
    unfold State.hostReads
    generalize u.busRead i a = r at *
    exact ih read

theorem Keeps.hostWrites {i a ds} (h : Keeps .memory s u) : Keeps .memory s (u.hostWrites i a ds).s := by
  induction ds generalizing u a with
  | nil => exact h
  | cons d ds ih =>
    have written : Keeps .memory s (u.busWrite i a d.toNat).2 := h.busWrite
    unfold State.hostWrites
    generalize u.busWrite i a d.toNat = r at *
    exact ih written

theorem Keeps.onPoint {p} {f : Nat → HostAns} (h : Keeps .memory s u) (hf : ∀ n, Keeps .memory s (f n).s) : Keeps .memory s (u.onPoint p f).s
    := by
  unfold State.onPoint
  split
  · exact h
  · split
    · exact h
    · exact hf _

theorem Keeps.hostPoint {p v q} (h : Keeps .memory s u) : Keeps .memory s (u.hostPoint p v q).s := by
  have soft {r} (eq : u.softWrite p 6 0 v (Quality.ofCode q) = r) : Keeps .memory s r.2 := eq ▸ h.softWrite
  unfold State.hostPoint
  dsimp only
  split
  next eq =>
    split
    · exact h.ownRefused
    · exact soft eq
  next eq => exact Keeps.ownRefused (soft eq)
  next eq => exact soft eq
  next eq => exact soft eq

theorem Keeps.hostForced {r} {was : State} (h : Keeps .memory s r.2) : Keeps .memory s (hostForced was r).s := by
  obtain ⟨res, t⟩ := r
  cases res <;> exact h

theorem Keeps.hostBlock {n index count} (h : Keeps .memory s u) : Keeps .memory s (u.hostBlock n index count).s := by
  unfold State.hostBlock
  split
  · exact h
  · have read {i a len} : Keeps .memory s (u.deckRead i a len).2 := h.deckRead
    dsimp only
    split
    · exact read
    · exact read

theorem Keeps.iteAns {c : Prop} {_ : Decidable c} {a b : HostAns} (ha : Keeps .memory s a.s) (hb : Keeps .memory s b.s) :
    Keeps .memory s (if c then a else b).s := by
  split
  · exact ha
  · exact hb

theorem Keeps.hostRun {w c} (h : Keeps .memory s u) : Keeps .memory s (u.hostRun w c).s := by
  cases c
  case status | bad => all_goals exact h
  case rd | evrRead => all_goals exact h.hostReads
  case wr => exact h.hostWrites
  case rdBurst => exact Keeps.iteAns h h.hostReads
  case wrBurst => exact Keeps.iteAns h h.hostWrites
  case ptRead => exact h.onPoint fun _ => h.deckRead
  case ptWrite => exact h.onPoint fun _ => h.hostPoint
  case blkStart => exact Keeps.iteAns h (Keeps.iteAns h.blkStartOf (Keeps.iteAns h.blkStartOf h.blkStartOf))
  case blkRead => exact Keeps.iteAns h (Keeps.iteAns h h.hostBlock)
  case force => exact h.onPoint fun _ => Keeps.hostForced h.force
  case release => exact h.onPoint fun _ => Keeps.hostForced h.release
  case releaseAll => exact Keeps.iteAns h (Keeps.hostForced h.release)
  case evrAck => exact Keeps.iteAns h (Keeps.iteAns h.curAck h.curAck)

theorem Keeps.hostServe {c cut} (h : Keeps .memory s u) : Keeps .memory s (u.hostServe c cut) := by
  have run : Keeps .memory s (u.hostRun whoHost c).s := h.hostRun
  unfold State.hostServe
  generalize u.hostRun whoHost c = a at *
  exact ((run.wr.incSat.ite run.wr).also fun h => h.wrB.rest).both (fun h => h.incSat.unless fun h => h.wrB) fun h =>
      h.rest

theorem Keeps.putOff {q} (h : Keeps .memory s u) : Keeps .memory s (u.putOff q) :=
  h.rest

theorem Keeps.hostFrame {c cut} (h : Keeps .memory s u) : Keeps .memory s (u.hostFrame c cut) :=
  h.putOff.ite h.hostServe

theorem Keeps.hostAct {c} (h : Keeps .memory s u) : Ends .memory s (u.hostAct c) :=
  h.act fun _ h => h.hostFrame

theorem Keeps.execStatus (h : Keeps .memory s u) : Ends .memory s (execStatus u) :=
  h.hostAct

theorem Keeps.execRd {a} (h : Keeps .memory s u) : Ends .memory s (execRd a u) :=
  h.hostAct

theorem Keeps.execWr {a d} (h : Keeps .memory s u) : Ends .memory s (execWr a d u) :=
  h.hostAct

theorem Keeps.execRdBurst {a n} (h : Keeps .memory s u) : Ends .memory s (execRdBurst a n u) :=
  h.hostAct

theorem Keeps.execWrBurst {a ds} (h : Keeps .memory s u) : Ends .memory s (execWrBurst a ds u) :=
  h.hostAct

theorem Keeps.execPtRead {p} (h : Keeps .memory s u) : Ends .memory s (execPtRead p u) :=
  h.hostAct

theorem Keeps.execPtWrite {p v q} (h : Keeps .memory s u) : Ends .memory s (execPtWrite p v q u) :=
  h.hostAct

theorem Keeps.execBlkStart {first count} (h : Keeps .memory s u) : Ends .memory s (execBlkStart first count u) :=
  h.hostAct

theorem Keeps.execBlkRead {index n} (h : Keeps .memory s u) : Ends .memory s (execBlkRead index n u) :=
  h.hostAct

theorem Keeps.execHostForce {p v} (h : Keeps .memory s u) : Ends .memory s (execHostForce p v u) :=
  h.hostAct

theorem Keeps.execHostRelease {p} (h : Keeps .memory s u) : Ends .memory s (execHostRelease p u) :=
  h.hostAct

theorem Keeps.execHostReleaseAll (h : Keeps .memory s u) : Ends .memory s (execHostReleaseAll u) :=
  h.hostAct

theorem Keeps.execEvrRead (h : Keeps .memory s u) : Ends .memory s (execEvrRead u) :=
  h.hostAct

theorem Keeps.execEvrAck {v} (h : Keeps .memory s u) : Ends .memory s (execEvrAck v u) :=
  h.hostAct

theorem Keeps.execHostFrameAbort {cmd} (h : Keeps .memory s u) : Ends .memory s (execHostFrameAbort cmd u) :=
  h.act (fun _ h => (by
    split
    · exact h.hostFrame
    · exact h.hostFrame
    · exact h.wr.incSat.rest))

theorem Keeps.svcFrame {m p payload} (h : Keeps .memory s u) : Keeps .memory s (u.svcFrame m p payload).2 :=
  (h.free 83).free 84

theorem Keeps.svcSend {m p r} (h : Keeps .memory s u) : Keeps .memory s (u.svcSend m p r) := by
  have frame : Keeps .memory s (u.svcFrame m p r).2 := h.svcFrame
  unfold State.svcSend
  generalize u.svcFrame m p r = f at *
  exact frame.macSend

theorem Keeps.svcServe {p} (h : Keeps .memory s u) : Keeps .memory s (u.svcServe p) :=
  h.rest

theorem Keeps.svcAnswer {m who d} (h : Keeps .memory s u) : Keeps .memory s (u.svcAnswer m who d) := by
  have run {c} : Keeps .memory s (u.hostRun whoNet c).s := h.hostRun
  unfold State.svcAnswer
  dsimp only
  split
  · exact h.svcServe.svcSend
  · cases svcCmd (d.drop 4) with
    | none => exact h.svcServe.svcSend
    | some c => exact run.svcServe.svcSend

theorem Keeps.svcHandle {m who d} (h : Keeps .memory s u) : Keeps .memory s (u.svcHandle m who d) :=
  h.putOff.ite h.svcAnswer

theorem Keeps.portServe {x} (h : Keeps .memory s u) : Keeps .memory s (u.portServe x) := by
  unfold State.portServe
  split
  · exact h.hostServe
  · exact h.macStep.svcAnswer

theorem Keeps.serveWaiting (h : Keeps .memory s u) : Keeps .memory s u.serveWaiting :=
  h.rest.each fun _ _ h => h.portServe

theorem Keeps.execSvcRequest {m f} (h : Keeps .memory s u) : Ends .memory s (execSvcRequest m f u) :=
  h.act (fun _ h => (by
    dsimp only
    split
    · exact h.macStep
    · exact h.macStep.unless fun h => h.incSat.ite h.svcHandle))

theorem Keeps.execSvcNotify {m} (h : Keeps .memory s u) : Ends .memory s (execSvcNotify m u) :=
  h.act (fun _ h => (by
    dsimp only
    split
    · exact h.macStep
    · exact h.macStep.unless fun h => (h.free 85).svcSend))

end Sys2Proof.Machine
end

section
/-! What the operations of PierAlu.lean keep. -/

namespace Sys2Proof.Machine

set_option Elab.async false

variable {ex : Extent} {s u : State}

theorem Keeps.addOp {c gd ga gb f cin} (h : Keeps ex s u) : Fine ex s (u.addOp c gd ga gb f cin) :=
  (h.setZNCV.ite h).put

theorem Keeps.subOp {c gd ga gb f bin} (h : Keeps ex s u) : Fine ex s (u.subOp c gd ga gb f bin) :=
  (h.setZNCV.ite h).put

theorem Keeps.logicOp {c gd f r} (h : Keeps ex s u) : Fine ex s (u.logicOp c gd f r) :=
  (h.setZN.ite h).put

theorem Keeps.plainOp {c gd r} (h : Keeps ex s u) : Fine ex s (u.plainOp c gd r) :=
  h.put

theorem Keeps.pairOp {c gd lo hi} (h : Keeps ex s u) : Fine ex s (u.pairOp c gd lo hi) :=
  h.putGroup

theorem Keeps.execAdd {c gd ga gb f} (h : Keeps ex s u) : Ends ex s (execAdd c gd ga gb f u) :=
  h.pierAct fun _ h => h.addOp

theorem Keeps.execSub {c gd ga gb f} (h : Keeps ex s u) : Ends ex s (execSub c gd ga gb f u) :=
  h.pierAct fun _ h => h.subOp

theorem Keeps.execAdc {c gd ga gb f} (h : Keeps ex s u) : Ends ex s (execAdc c gd ga gb f u) :=
  h.pierAct fun _ h => h.addOp

theorem Keeps.execSbc {c gd ga gb f} (h : Keeps ex s u) : Ends ex s (execSbc c gd ga gb f u) :=
  h.pierAct fun _ h => h.subOp

theorem Keeps.execAndA {c gd ga gb f} (h : Keeps ex s u) : Ends ex s (execAndA c gd ga gb f u) :=
  h.pierAct fun _ h => h.logicOp

theorem Keeps.execOrA {c gd ga gb f} (h : Keeps ex s u) : Ends ex s (execOrA c gd ga gb f u) :=
  h.pierAct fun _ h => h.logicOp

theorem Keeps.execXorA {c gd ga gb f} (h : Keeps ex s u) : Ends ex s (execXorA c gd ga gb f u) :=
  h.pierAct fun _ h => h.logicOp

theorem Keeps.execAndn {c gd ga gb f} (h : Keeps ex s u) : Ends ex s (execAndn c gd ga gb f u) :=
  h.pierAct fun _ h => h.logicOp

theorem Keeps.execShl {c gd ga gb f} (h : Keeps ex s u) : Ends ex s (execShl c gd ga gb f u) :=
  h.pierAct fun _ h => h.logicOp

theorem Keeps.execShr {c gd ga gb f} (h : Keeps ex s u) : Ends ex s (execShr c gd ga gb f u) :=
  h.pierAct fun _ h => h.logicOp

theorem Keeps.execSar {c gd ga gb f} (h : Keeps ex s u) : Ends ex s (execSar c gd ga gb f u) :=
  h.pierAct fun _ h => h.logicOp

theorem Keeps.execRor {c gd ga gb f} (h : Keeps ex s u) : Ends ex s (execRor c gd ga gb f u) :=
  h.pierAct fun _ h => h.logicOp

theorem Keeps.execLts {c gd ga gb} (h : Keeps ex s u) : Ends ex s (execLts c gd ga gb u) :=
  h.pierAct fun _ h => h.plainOp

theorem Keeps.execLtu {c gd ga gb} (h : Keeps ex s u) : Ends ex s (execLtu c gd ga gb u) :=
  h.pierAct fun _ h => h.plainOp

theorem Keeps.execMinA {c gd ga gb} (h : Keeps ex s u) : Ends ex s (execMinA c gd ga gb u) :=
  h.pierAct fun _ h => h.plainOp

theorem Keeps.execMaxA {c gd ga gb} (h : Keeps ex s u) : Ends ex s (execMaxA c gd ga gb u) :=
  h.pierAct fun _ h => h.plainOp

theorem Keeps.execMinu {c gd ga gb} (h : Keeps ex s u) : Ends ex s (execMinu c gd ga gb u) :=
  h.pierAct fun _ h => h.plainOp

theorem Keeps.execMaxu {c gd ga gb} (h : Keeps ex s u) : Ends ex s (execMaxu c gd ga gb u) :=
  h.pierAct fun _ h => h.plainOp

theorem Keeps.execAddi {c gd ga imm} (h : Keeps ex s u) : Ends ex s (execAddi c gd ga imm u) :=
  h.pierAct fun _ h => h.plainOp

theorem Keeps.execAndi {c gd ga imm} (h : Keeps ex s u) : Ends ex s (execAndi c gd ga imm u) :=
  h.pierAct fun _ h => h.plainOp

theorem Keeps.execOri {c gd ga imm} (h : Keeps ex s u) : Ends ex s (execOri c gd ga imm u) :=
  h.pierAct fun _ h => h.plainOp

theorem Keeps.execXori {c gd ga imm} (h : Keeps ex s u) : Ends ex s (execXori c gd ga imm u) :=
  h.pierAct fun _ h => h.plainOp

theorem Keeps.execShli {c gd ga sh} (h : Keeps ex s u) : Ends ex s (execShli c gd ga sh u) :=
  h.pierAct fun _ h => h.plainOp

theorem Keeps.execShri {c gd ga sh} (h : Keeps ex s u) : Ends ex s (execShri c gd ga sh u) :=
  h.pierAct fun _ h => h.plainOp

theorem Keeps.execSari {c gd ga sh} (h : Keeps ex s u) : Ends ex s (execSari c gd ga sh u) :=
  h.pierAct fun _ h => h.plainOp

theorem Keeps.execLtsi {c gd ga imm} (h : Keeps ex s u) : Ends ex s (execLtsi c gd ga imm u) :=
  h.pierAct fun _ h => h.plainOp

theorem Keeps.execLtui {c gd ga imm} (h : Keeps ex s u) : Ends ex s (execLtui c gd ga imm u) :=
  h.pierAct fun _ h => h.plainOp

theorem Keeps.execIml {c gd imm} (h : Keeps ex s u) : Ends ex s (execIml c gd imm u) :=
  h.pierAct fun _ h => h.plainOp

theorem Keeps.execImh {c gd imm} (h : Keeps ex s u) : Ends ex s (execImh c gd imm u) :=
  h.pierAct fun _ h => h.plainOp

theorem Keeps.execMulA {c gd ga gb} (h : Keeps ex s u) : Ends ex s (execMulA c gd ga gb u) :=
  h.pierAct fun _ h => h.plainOp

theorem Keeps.execMulhs {c gd ga gb} (h : Keeps ex s u) : Ends ex s (execMulhs c gd ga gb u) :=
  h.pierAct fun _ h => h.plainOp

theorem Keeps.execMulhu {c gd ga gb} (h : Keeps ex s u) : Ends ex s (execMulhu c gd ga gb u) :=
  h.pierAct fun _ h => h.plainOp

theorem Keeps.execDivA {c gd ga gb} (h : Keeps ex s u) : Ends ex s (execDivA c gd ga gb u) :=
  h.pierAct fun _ h => h.plainOp

theorem Keeps.execDivu {c gd ga gb} (h : Keeps ex s u) : Ends ex s (execDivu c gd ga gb u) :=
  h.pierAct fun _ h => h.plainOp

theorem Keeps.execMulp {c gd ga gb} (h : Keeps ex s u) : Ends ex s (execMulp c gd ga gb u) :=
  h.pierAct fun _ h => h.pairOp

theorem Keeps.execMulpu {c gd ga gb} (h : Keeps ex s u) : Ends ex s (execMulpu c gd ga gb u) :=
  h.pierAct fun _ h => h.pairOp

theorem Keeps.execDivm {c gd ga gb} (h : Keeps ex s u) : Ends ex s (execDivm c gd ga gb u) :=
  h.pierAct fun _ h => h.pairOp

theorem Keeps.execDivmu {c gd ga gb} (h : Keeps ex s u) : Ends ex s (execDivmu c gd ga gb u) :=
  h.pierAct fun _ h => h.pairOp

theorem Keeps.qOp {c gd z} (h : Keeps ex s u) : Fine ex s (u.qOp c gd z) :=
  h.stickyQs.put

theorem Keeps.execQadd {c gd ga gb} (h : Keeps ex s u) : Ends ex s (execQadd c gd ga gb u) :=
  h.pierAct fun _ h => h.qOp

theorem Keeps.execQsub {c gd ga gb} (h : Keeps ex s u) : Ends ex s (execQsub c gd ga gb u) :=
  h.pierAct fun _ h => h.qOp

theorem Keeps.execQmul {c gd ga gb} (h : Keeps ex s u) : Ends ex s (execQmul c gd ga gb u) :=
  h.pierAct fun _ h => h.qOp

theorem Keeps.execQmac {c gd ga gb} (h : Keeps ex s u) : Ends ex s (execQmac c gd ga gb u) :=
  h.pierAct fun _ h => h.qOp

theorem Keeps.execQmsu {c gd ga gb} (h : Keeps ex s u) : Ends ex s (execQmsu c gd ga gb u) :=
  h.pierAct fun _ h => h.qOp

theorem Keeps.execQshl {c gd ga gb} (h : Keeps ex s u) : Ends ex s (execQshl c gd ga gb u) :=
  h.pierAct fun _ h => h.qOp

theorem Keeps.execQneg {c gd ga} (h : Keeps ex s u) : Ends ex s (execQneg c gd ga u) :=
  h.pierAct fun _ h => h.qOp

theorem Keeps.execQabs {c gd ga} (h : Keeps ex s u) : Ends ex s (execQabs c gd ga u) :=
  h.pierAct fun _ h => h.qOp

theorem Keeps.fOp {c gd r} (h : Keeps ex s u) : Fine ex s (u.fOp c gd r) :=
  h.stickyFx.put

theorem Keeps.fTest {c gd r} (h : Keeps ex s u) : Fine ex s (u.fTest c gd r) :=
  h.fOp

theorem Keeps.execFadd {c gd ga gb} (h : Keeps ex s u) : Ends ex s (execFadd c gd ga gb u) :=
  h.pierAct fun _ h => h.fOp

theorem Keeps.execFsub {c gd ga gb} (h : Keeps ex s u) : Ends ex s (execFsub c gd ga gb u) :=
  h.pierAct fun _ h => h.fOp

theorem Keeps.execFmul {c gd ga gb} (h : Keeps ex s u) : Ends ex s (execFmul c gd ga gb u) :=
  h.pierAct fun _ h => h.fOp

theorem Keeps.execFma {c gd ga gb} (h : Keeps ex s u) : Ends ex s (execFma c gd ga gb u) :=
  h.pierAct fun _ h => h.fOp

theorem Keeps.execFms {c gd ga gb} (h : Keeps ex s u) : Ends ex s (execFms c gd ga gb u) :=
  h.pierAct fun _ h => h.fOp

theorem Keeps.execFdiv {c gd ga gb} (h : Keeps ex s u) : Ends ex s (execFdiv c gd ga gb u) :=
  h.pierAct fun _ h => h.fOp

theorem Keeps.execFmin {c gd ga gb} (h : Keeps ex s u) : Ends ex s (execFmin c gd ga gb u) :=
  h.pierAct fun _ h => h.fOp

theorem Keeps.execFmax {c gd ga gb} (h : Keeps ex s u) : Ends ex s (execFmax c gd ga gb u) :=
  h.pierAct fun _ h => h.fOp

theorem Keeps.execFsqrt {c gd ga} (h : Keeps ex s u) : Ends ex s (execFsqrt c gd ga u) :=
  h.pierAct fun _ h => h.fOp

theorem Keeps.execFabs {c gd ga} (h : Keeps ex s u) : Ends ex s (execFabs c gd ga u) :=
  h.pierAct fun _ h => h.plainOp

theorem Keeps.execFneg {c gd ga} (h : Keeps ex s u) : Ends ex s (execFneg c gd ga u) :=
  h.pierAct fun _ h => h.plainOp

theorem Keeps.execFceq {c gd ga gb} (h : Keeps ex s u) : Ends ex s (execFceq c gd ga gb u) :=
  h.pierAct fun _ h => h.fTest

theorem Keeps.execFclt {c gd ga gb} (h : Keeps ex s u) : Ends ex s (execFclt c gd ga gb u) :=
  h.pierAct fun _ h => h.fTest

theorem Keeps.execFcle {c gd ga gb} (h : Keeps ex s u) : Ends ex s (execFcle c gd ga gb u) :=
  h.pierAct fun _ h => h.fTest

theorem Keeps.execFcun {c gd ga gb} (h : Keeps ex s u) : Ends ex s (execFcun c gd ga gb u) :=
  h.pierAct fun _ h => h.plainOp

theorem Keeps.execItof {c gd ga} (h : Keeps ex s u) : Ends ex s (execItof c gd ga u) :=
  h.pierAct fun _ h => h.plainOp

theorem Keeps.execUtof {c gd ga} (h : Keeps ex s u) : Ends ex s (execUtof c gd ga u) :=
  h.pierAct fun _ h => h.plainOp

theorem Keeps.execQtof {c gd ga} (h : Keeps ex s u) : Ends ex s (execQtof c gd ga u) :=
  h.pierAct fun _ h => h.plainOp

theorem Keeps.fIntOp {c gd r} (h : Keeps ex s u) : Fine ex s (u.fIntOp c gd r) :=
  h.fOp

theorem Keeps.execFtoi {c gd ga} (h : Keeps ex s u) : Ends ex s (execFtoi c gd ga u) :=
  h.pierAct fun _ h => h.fIntOp

theorem Keeps.execFtou {c gd ga} (h : Keeps ex s u) : Ends ex s (execFtou c gd ga u) :=
  h.pierAct fun _ h => h.fIntOp

theorem Keeps.execFtoq {c gd ga} (h : Keeps ex s u) : Ends ex s (execFtoq c gd ga u) :=
  h.pierAct fun _ h => h.stickyQs.stickyFx.put

end Sys2Proof.Machine
end

section
/-! What the operations of WindowClose.lean keep. -/

namespace Sys2Proof.Machine

set_option Elab.async false

variable {ex : Extent} {s u : State}

theorem Keeps.execHeld {i} (h : Keeps ex s u) : Ends ex s (execHeld i u) := by
  unfold Machine.execHeld
  split
  · exact h.execDlw
  · exact h.execDlq
  · exact h.execDll
  · exact h.execDsw
  · exact h.execDsq
  · exact h.execDsl
  · exact h.execDcas
  · exact h.execPld
  · exact h.execPldP
  · exact h.execPldR
  · exact h.execPldX
  · exact h.execPldN
  · exact h.execPldNp
  · exact h.execPq
  · exact h.execPst
  · exact h.execPstX
  · exact h.execPstq
  · exact h.execPids
  · exact h.execBiq
  · exact h.execCasc
  · exact h.execClampw
  · exact h.execRate
  · exact h.execIntg
  · exact h.execIntgLoad
  · exact h.execSwapkStatus
  · exact h.execSwapkArm
  · exact h.execSwapkCancel
  · exact h.execPrime
  · exact h.execPrimeFetch
  · exact h

theorem Keeps.releaseHeld {c} (h : Keeps ex s u) : Keeps ex s (u.releaseHeld c) := by
  unfold State.releaseHeld
  split
  · exact h
  next i _ =>
    have ends {f o} (eq : Machine.execHeld i (u.modCore c f) = o) : Ends ex s o := eq ▸ h.modCore.execHeld
    split
    next eq => exact ends eq
    next => exact h

theorem Keeps.serveHeld (h : Keeps ex s u) : Keeps ex s u.serveHeld :=
  (h.same.each fun _ _ h => h.busServe).each fun _ _ h => h.releaseHeld

theorem Keeps.execCommitWindowClose (h : Keeps .memory s u) : Ends .memory s (execCommitWindowClose u) :=
  h.act fun _ h => h.instant fun _ h => ((h.wrAny.also fun h => h.applyHeld.w31Present.serveHeld).also fun h =>
      h.serveWaiting).also fun h => h.dispatchAll

end Sys2Proof.Machine
end

section
/-! What the operations of Idle.lean keep. -/

namespace Sys2Proof.Machine

set_option Elab.async false

variable {ex : Extent} {s u : State}

theorem Keeps.idle (h : Keeps .memory s u) : Keeps .memory s u.idle :=
  h.rest.ite (h.toPhase.ite h)

end Sys2Proof.Machine
end

section
/-! Every command completes, leaves the queue alone and keeps the form of the memories. -/

namespace Sys2Proof.Machine

set_option Elab.async false

variable {s u : State}

theorem Keeps.exec {i} (h : Keeps .memory s u) : Ends .memory s (exec i u) := by
  unfold Machine.exec
  split
  exacts [h.execRegisterWrite, h.execJointFrame, h.execJointSilence, h.execBearingReadDone,
    h.execBearingWriteEffect, h.execDeckAccess, h.execPllLockLoss, h.execPllRelock, h.execDeviceIdLock,
    h.execTickMarkerSend, h.execTick, h.execBearTick, h.execBearMarkerMiss, h.execCommandSetSend,
    h.execApplyInstant, h.execCommitWindowClose, h.execWriteClose, h.execInputClose, h.execStatusSample,
    h.execBudgetOverrun, h.execSpanArm, h.execSpanCancel, h.execDescRead, h.execDescWrite, h.execDescLockSet,
    h.execForce, h.execReleaseA, h.execReleaseAll, h.execDeckBlkStart, h.execDeckBlkCancel, h.execDeckBlkRelease,
    h.execBlkCopyDone, h.execLoadSched, h.execAdmissionDone, h.execBankCopyDone, h.execSwapArm, h.execSwapCancel,
    h.execStopSched, h.execBpSliceExpiry, h.execBpRestart, h.execOvlStart, h.execOvlCopyDone,
    h.execMigrationCopyDone, h.execAdd, h.execSub, h.execAdc, h.execSbc, h.execAndA, h.execOrA, h.execXorA,
    h.execAndn, h.execShl, h.execShr, h.execSar, h.execRor, h.execLts, h.execLtu, h.execMinA, h.execMaxA,
    h.execMinu, h.execMaxu, h.execAddi, h.execAndi, h.execOri, h.execXori, h.execShli, h.execShri, h.execSari,
    h.execLtsi, h.execLtui, h.execIml, h.execImh, h.execMulA, h.execMulhs, h.execMulhu, h.execMulp, h.execMulpu,
    h.execDivA, h.execDivu, h.execDivm, h.execDivmu, h.execQadd, h.execQsub, h.execQmul, h.execQmac, h.execQmsu,
    h.execQneg, h.execQabs, h.execQshl, h.execFadd, h.execFsub, h.execFmul, h.execFma, h.execFms, h.execFdiv,
    h.execFsqrt, h.execFmin, h.execFmax, h.execFabs, h.execFneg, h.execFceq, h.execFclt, h.execFcle, h.execFcun,
    h.execItof, h.execUtof, h.execQtof, h.execFtoi, h.execFtou, h.execFtoq, h.execBeq, h.execBne, h.execBlt,
    h.execBge, h.execBltu, h.execBgeu, h.execCall, h.execJmpr, h.execLoopA, h.execLw, h.execLh, h.execLhu,
    h.execLb, h.execLbu, h.execSw, h.execSh, h.execSb, h.execDlw, h.execDlq, h.execDll, h.execDsw, h.execDsq,
    h.execDsl, h.execDcas, h.execClw, h.execCsw, h.execFence, h.execPld, h.execPldP, h.execPldR, h.execPldX,
    h.execPldN, h.execPldNp, h.execPq, h.execPst, h.execPstX, h.execPstq, h.execTget, h.execKget, h.execEvt,
    h.execCsrr, h.execCsrw, h.execYieldA, h.execTrapA, h.execPids, h.execBiq, h.execCasc, h.execSwapkArm,
    h.execSwapkCancel, h.execSwapkStatus, h.execClampw, h.execRate, h.execIntg, h.execIntgLoad, h.execPrime,
    h.execPrimeFetch, h.execRefEnable, h.execRefReady, h.execRefDisable, h.execSeqEnable, h.execSeqDisable,
    h.execSeqStart, h.execSeqAbort, h.execPhaseTrigger, h.execEntryStart, h.execEntryComplete,
    h.execPendingRunStart, h.execCalSlotStart, h.execCalCoeffCheck, h.execCalSlotEnd, h.execRotEnWrite,
    h.execSensChkEnable, h.execSolEnable, h.execSolDisable, h.execSolPick, h.execSolOff, h.execSolAbort,
    h.execSolClear, h.execSolPwmPeriod, h.execPickEnd, h.execSolReleaseDone, h.execGrpWaitExpiry, h.execI2tUpdate,
    h.execSolChannelFault, h.execNodecayExpiry, h.execMotEnable, h.execMotDisable, h.execMoveMot, h.execHomeMot,
    h.execMotStop, h.execMotAbort, h.execMotClear, h.execMotPeriodStart, h.execPositionEdge,
    h.execHallInvalidPersist, h.execStandstill, h.execAlignEnd, h.execSlLockTimeout, h.execBrakeTimeout,
    h.execEngageEnd, h.execHomeFound, h.execMotChannelFault, h.execFanEnable, h.execFanDisable, h.execFanAbort,
    h.execFanRestart, h.execFanClear, h.execTachEdge, h.execStartTimeout, h.execKickEnd, h.execRetryGapEnd,
    h.execFanLoopStep, h.execTachLoss, h.execTachLostTest, h.execFanPwmPeriod, h.execFanChannelFault,
    h.execDrivingChange, h.execMeterSampleReady, h.execLatchDone, h.execZeroCrossMark, h.execHalfCycleEnd,
    h.execFreqInterval, h.execZswSwitch, h.execLatchNow, h.execLatOpen, h.execLatClose, h.execMeterLoad,
    h.execSaveMark, h.execConsume, h.execMeterRun, h.execEpulseTimer, h.execPfwRaise, h.execResidueWritten,
    h.execPfwClear, h.execTwinHandshake, h.execArbTimeout, h.execContention, h.execContentionRecheck,
    h.execMirrorFrame, h.execHeartbeat, h.execHeartbeatDeadline, h.execTakeover, h.execPlannedRelease,
    h.execReleaseCancel, h.execReleaseDrop, h.execRealign, h.execAlignDone, h.execTwinLaneDown, h.execTwinLaneUp,
    h.execTwinResetOrder, h.execLaneBlockLock, h.execTrainingDone, h.execLaneLockLoss, h.execRingTrainTimeout,
    h.execAnnounceFrame, h.execElectionSettled, h.execJoinLocked, h.execTreTickMarker, h.execMasterMarkerMiss,
    h.execUpdateFrame, h.execQueueLaunch, h.execSupplySwitch, h.execLossLatch, h.execOscStopDetect, h.execValidate,
    h.execValidateEdge, h.execCommitA, h.execAdjust, h.execCommitEdge, h.execTkLoRead, h.execTkFlgRead,
    h.execTkHiRead, h.execShadowExpiry, h.execKeepRamWrite, h.execTrimWrite, h.execWakePeriodEnd,
    h.execThawCatchup, h.execRecordWrite, h.execTokenReturn, h.execWinLatch, h.execWinAdvance, h.execCurPosWrite,
    h.execCurAckWrite, h.execClrFirst, h.execClrSecond, h.execClrExpiry, h.execThermalComparator,
    h.execCaldriftTimer, h.execSelftestQueuedStart, h.execSelftestDone, h.execTrackExpiry, h.execHealthRetire,
    h.execThrWrite, h.execPorAssert, h.execPorRelease, h.execRstPin, h.execWdogEnable, h.execWdogKick,
    h.execWdogExpiry, h.execSoftReset, h.execTwinResetCmd, h.execBuildOutStart, h.execBuildPllTimeout,
    h.execBuildTestsDone, h.execXspiAnswer, h.execBootSlotLoaded, h.execBootGo, h.execPdSwitchRequest,
    h.execPdSwitchDone, h.execStartGo, h.execAdmitDone, h.execJoinTimeout, h.execOutputStep, h.execStatus,
    h.execRd, h.execWr, h.execRdBurst, h.execWrBurst, h.execPtRead, h.execPtWrite, h.execBlkStart, h.execBlkRead,
    h.execHostForce, h.execHostRelease, h.execHostReleaseAll, h.execEvrRead, h.execEvrAck, h.execHostFrameAbort,
    h.execW31Read, h.execW31ReadL, h.execW31ReadH, h.execW31Write, h.execW31WriteL, h.execW31WriteH,
    h.execW31PageWrite, h.execW31SnapshotDone, h.execNetRxFrame, h.execSvcRequest, h.execSvcNotify,
    h.execNetTxKick, h.execNetTxDone, h.execMdioGo, h.execMdioDone, h.execFldEnable, h.execFldRxFrame,
    h.execFldTxFrame, h.execMstpTimer, h.execReplyPostponed, h.execMbTransaction, h.execMbReplyTimeout,
    h.execKnxRepeat, h.execI2cGo, h.execI2cDone, h.execI2cStretchTimeout, h.execSpiGo, h.execSpiDone,
    h.execGpioEdge, h.execFreezePin, h.execFrzXInChange, h.execFreezeMarker, h.execDbgFreeze, h.execClockGate,
    h.execRoFreeze, h.execRoThaw, h.execExtest, h.execSamplePreload, h.execIdcode, h.execRoAddr, h.execRoData,
    h.execBypass, h.execCkLfEdge, h.execIllegalInstruction, h.execTwinTickMarker, h.execLaneErroredBlocks,
    h.execVgdLow, h.execNoflash, h.execEthLinkChange]

/-- A state that keeps what `s` holds is what a command comes to. -/
theorem Ends.completes {o : Out} (h : Ends .memory s o) : ∃ t, o = .next t ∧ Keeps .memory s t := by
  cases o with
  | next t => exact ⟨t, rfl, h⟩
  | fault r => cases h
  | refused r => cases h

end Sys2Proof.Machine

namespace Sys2Proof

open Machine

/-- Settles O4: each command is a chain of operations that complete and leave the queue alone. -/
theorem commandsCompleteAndKeepTheQueue : Obligations.CommandsCompleteAndKeepTheQueue := by
  unfold Obligations.CommandsCompleteAndKeepTheQueue
  intro c s
  obtain ⟨t, ends, kept⟩ := (Keeps.rfl (s := s)).exec (i := c) |>.completes
  exact ⟨t, ends, kept.pending⟩

/-- Settles O5: a step is a command on the state with the queue's rest, or a cycle that passes; either keeps the form. -/
theorem stepKeepsMemoryForm : Obligations.StepKeepsMemoryForm := by
  unfold Obligations.StepKeepsMemoryForm step
  intro s t wf next
  split at next
  · cases next
    exact (Keeps.rfl (s := s)).idle.form wf
  next c cs _ =>
    obtain ⟨u, ends, kept⟩ := (Keeps.rfl (s := { s with pending := cs })).exec (i := c) |>.completes
    cases ends.symm.trans next
    exact kept.form wf

end Sys2Proof
end

section
/-! How an effect that sets a list of register fields meets `Sets`: the writes one after another, the order of their rows, and a
command that completes where the device can act. -/

namespace Sys2Proof.Machine

set_option Elab.async false

/-- A register field set: field, index, second index and value. -/
abbrev Row := Fld × Nat × Nat × Nat

/-- The writes of `rows`, one after another. -/
def State.wrs (u : State) (rows : List Row) : State := rows.foldl (fun s r => s.wr r.1 r.2.2.2 r.2.1 r.2.2.1) u

/-- Every value fits its field. -/
def Fits (rows : List Row) : Bool := rows.all fun r => decide (r.2.2.2 < 2 ^ r.1.width)

/-- No two of the fields have an occurrence in common. -/
def Fld.allApart : List Fld → Bool
  | [] => true
  | f :: fs => fs.all (fun g => g.apart f) && allApart fs

/-- What is set after `rows`, when none of it meets a row before. -/
theorem Sets.wrs {u t : State} {rows : List Row} (h : Sets u t rows) (more : List Row)
    (fits : ∀ r ∈ more, r.2.2.2 < 2 ^ r.1.width)
    (distinct : more.Pairwise fun r q => q.1.key q.2.1 q.2.2.1 ≠ r.1.key r.2.1 r.2.2.1)
    (new : ∀ q ∈ more, ∀ r ∈ rows, q.1.key q.2.1 q.2.2.1 ≠ r.1.key r.2.1 r.2.2.1) : Sets u (t.wrs more) (rows ++ more) := by
  induction more generalizing t rows with
  | nil => simpa [State.wrs] using h
  | cons r more ih =>
    obtain ⟨rfits, fits⟩ := List.forall_mem_cons.mp fits
    obtain ⟨rnew, new⟩ := List.forall_mem_cons.mp new
    obtain ⟨rdistinct, distinct⟩ := List.pairwise_cons.mp distinct
    have one := h.wr r.1 r.2.1 r.2.2.1 rfits rnew
    have all := ih one fits distinct fun q hq p hp => by
      rcases List.mem_append.mp hp with hp | hp
      · exact new q hq p hp
      · obtain rfl := List.mem_singleton.mp hp
        exact rdistinct q hq
    rwa [List.append_assoc] at all

/-- Fields that are apart have different keys, whatever their indices. -/
theorem Fld.keys_ne_of_allApart {rows : List Row} (h : Fld.allApart (rows.map (·.1)) = true) :
    rows.Pairwise fun r q => q.1.key q.2.1 q.2.2.1 ≠ r.1.key r.2.1 r.2.2.1 := by
  induction rows with
  | nil => exact List.Pairwise.nil
  | cons r rows ih =>
    simp only [List.map_cons, Fld.allApart, Bool.and_eq_true, List.all_eq_true] at h
    obtain ⟨first, rest⟩ := h
    exact List.pairwise_cons.mpr ⟨fun q hq => Fld.key_ne_of_apart (first q.1 (List.mem_map_of_mem hq)) _ _ _ _, ih rest⟩

/-- A chain of writes of fields that are apart sets its rows. -/
theorem Sets.of_wrs {u t : State} {rows : List Row} (eq : t = u.wrs rows) (fits : Fits rows = true := by rfl)
    (apart : Fld.allApart (rows.map (·.1)) = true := by
      simp only [List.map_append, List.map_cons, List.map_nil, List.cons_append, List.nil_append]
      decide) : Sets u t rows :=
  eq ▸ (Sets.refl u).wrs rows (by simpa [Fits] using fits) (Fld.keys_ne_of_allApart apart) (by simp)

/-- Writes touch the register file alone, and what they make of it comes from the register file alone. -/
theorem State.wrs_eq (u : State) (rows : List Row) :
    u.wrs rows = { u with rf := rows.foldl (fun rf r =>
      Sparse.set rf (r.1.reset r.2.1 r.2.2.1) (r.1.key r.2.1 r.2.2.1) (r.2.2.2 % 2 ^ r.1.width)) u.rf } := by
  induction rows generalizing u with
  | nil => rfl
  | cons r rows ih => exact ih _

/-- A repetition of writes is a list of writes. -/
theorem State.each_wrs {α : Type} (u : State) (l : List α) (rows : α → List Row) :
    u.each l (fun s a => s.wrs (rows a)) = u.wrs (l.flatMap rows) := by
  simp only [State.each, State.wrs, List.foldl_flatMap]

/-- Writes of other keys leave a field alone. -/
theorem State.rd_wrs_of_ne (u : State) {ws : List Row} {f : Fld} {i j : Nat} (h : ∀ w ∈ ws, f.key i j ≠ w.1.key w.2.1 w.2.2.1) :
    (u.wrs ws).rd f i j = u.rd f i j := by
  induction ws generalizing u with
  | nil => rfl
  | cons w ws ih =>
    obtain ⟨first, rest⟩ := List.forall_mem_cons.mp h
    exact (ih _ rest).trans (u.rd_wr_ne _ _ _ _ _ _ _ first.symm)

/-- Writes, some of one field more than once or of what a field holds already, set the rows that they leave behind. -/
theorem Sets.of_writes {u t : State} (ws : List Row) {rows : List Row} (eq : t = u.wrs ws)
    (fields : ∀ r ∈ rows, t.rd r.1 r.2.1 r.2.2.1 = r.2.2.2)
    (covered : ∀ w ∈ ws, (w.1, w.2.1, w.2.2.1) ∈ rows.map fun r => (r.1, r.2.1, r.2.2.1)) : Sets u t rows where
  rest := by rw [eq, State.wrs_eq]
  fields := fields
  others f i j hr := by
    rw [eq]
    refine State.rd_wrs_of_ne u fun w hw => ?_
    obtain ⟨r, hrow, same⟩ := List.mem_map.mp (covered w hw)
    simp only [Prod.mk.injEq] at same
    obtain ⟨hf, hi, hj⟩ := same
    rw [← hf, ← hi, ← hj]
    exact hr r hrow

/-- The order of the rows says nothing. -/
theorem Sets.reorder {u t : State} {rows rows' : List Row} (h : Sets u t rows) (same : ∀ r, r ∈ rows' ↔ r ∈ rows) :
    Sets u t rows' where
  rest := h.rest
  fields r hr := h.fields r ((same r).mp hr)
  others f i j hr := h.others f i j fun r hm => hr r ((same r).mpr hm)

/-! ### Commands -/

/-- A command of the bearing die completes where an access can reach it. -/
theorem Completes.of_reach {c : Instr} {s : State} {ds : List Dom} {P : State → Prop} (f : State → State)
    (h : s.reaches ds) (run : exec c s = s.reach ds f) (post : P (f s)) : Completes c s P :=
  ⟨f s, run.trans (State.reach_eq f h), post⟩

/-- A command completes where the device can act. -/
theorem Completes.of_act {c : Instr} {s : State} {ds : List Dom} {P : State → Prop} (f : State → State)
    (h : s.serves ds) (run : exec c s = s.act ds f) (post : P (f s)) : Completes c s P :=
  ⟨f s, run.trans (State.act_eq f h), post⟩

end Sys2Proof.Machine
end

section
/-! O28 fails, for one reason: a state of the model may hold in a register field a number wider than the field, and the entry that
such a number names can lie in another register. -/

namespace Sys2Proof.Machine

set_option Elab.async false

/-- The device runs with every domain on and the joint up, and its register file holds `rows`, none of them cut to its field. -/
def liveWith (rows : List Row) : State :=
  { State.reset with
    rf := ((F.SYS_JOINT_STAT_LINK_UP, 0, 0, 1) :: rows).foldl (fun rf r => Sparse.put rf (r.1.key r.2.1 r.2.2.1) r.2.2.2) []
    power := { State.reset.power with rst := .running } }

/-- Check 0 names entry 2 of sequencer 98, whose DIFF would be bit 0 of the check's own REASON, and that bit is set. -/
def strayCheck : State :=
  liveWith [(F.SENS_CHK_CFG_SEQ, 0, 0, 98), (F.SENS_CHK_CFG_ENTRY, 0, 0, 2), (F.SENS_CHK_THR_HI, 0, 0, 1),
    (F.SENS_CHK_STAT_REASON, 0, 0, 1)]

/-- The enable clears REASON before it reads DIFF there. -/
theorem strayCheck_diff : ((strayCheck.chkEnable 0).chkSt 0).diff = false := by decide

/-- SENS_CHK_ENABLE is an access of the bearing die (R250). -/
theorem exec_sensChkEnable {s : State} (m : Fin 128) (h : s.reaches [.conv]) :
    exec (.sensChkEnable m) s = .next (s.chkEnable m) :=
  State.reach_eq (fun s => s.chkEnable m) h

/-- Refutes O28: enabling the check of `strayCheck` writes REASON and so changes the DIFF that the check takes, while the statement
takes the one from before. -/
theorem not_converterAndCalibration : ¬ Obligations.ConverterAndCalibration := by
  unfold Obligations.ConverterAndCalibration
  intro h
  have reaches : strayCheck.reaches [.conv] := by decide
  obtain ⟨-, -, -, enable, -⟩ := h.2 strayCheck [] 0 reaches
  obtain ⟨t, run, u, hu, sets⟩ := enable (by decide) (by decide)
  obtain rfl : strayCheck.chkEnable 0 = t := by simpa [exec_sensChkEnable 0 reaches] using run
  have kept : (strayCheck.chkEnable 0).chkSt 0 = u.chkSt 0 := by rw [sets.rest]; rfl
  have before : (u.chkSt 0).diff = true := by rw [hu]; decide
  rw [← kept, strayCheck_diff] at before
  cases before

end Sys2Proof.Machine
end

section
/-! O27: a span change is armed or withdrawn by a handful of writes, and the start-up order moves on; time that has already come
passes once more without effect. -/

namespace Sys2Proof.Machine

set_option Elab.async false

variable {s : State}

/-! ### Time that has come -/

/-- A repetition of steps that change nothing changes nothing. -/
theorem State.each_of_forall_eq {α : Type} {l : List α} {f : State → α → State} (h : ∀ a ∈ l, f s a = s) : s.each l f = s := by
  unfold State.each
  induction l with
  | nil => rfl
  | cons a l ih =>
    obtain ⟨first, rest⟩ := List.forall_mem_cons.mp h
    rw [List.foldl_cons, first, ih rest]

/-- A core that has come so far runs no further. -/
theorem State.coreTo_of_le {c t : Nat} (h : t ≤ (s.core c).clk) : s.coreTo c t = s := by
  have none : t - (s.core c).clk = 0 := by omega
  change s.coreRun c t (2099 + 1) = s
  rw [State.coreRun]
  exact if_pos none

theorem State.toPhase_of_reached {p : Nat} (h : s.reached p) : s.toPhase p = s := by
  obtain ⟨phase, cores⟩ := h
  unfold State.toPhase
  rw [Nat.max_eq_right phase]
  exact State.each_of_forall_eq fun c hc => State.coreTo_of_le (cores c hc)

theorem State.instant_of_reached {p : Nat} (run : s.running = true) (h : s.reached p) (f : State → State) :
    s.instant p f = f s := by
  rw [State.instant, if_pos run, State.toPhase_of_reached h]

/-! ### The change of the span length -/

@[simp] theorem State.mirror_span (m : MirrorItem) : (s.mirror m).span = s.span := by
  obtain ⟨twin, eq⟩ := s.mirror_rest m
  rw [eq]

@[simp] theorem State.mirror_rd (m : MirrorItem) (f : Fld) (i j : Nat) : (s.mirror m).rd f i j = s.rd f i j := by
  obtain ⟨twin, eq⟩ := s.mirror_rest m
  rw [eq]
  rfl

@[simp] theorem State.mirror_bit (m : MirrorItem) (f : Fld) (i j : Nat) : (s.mirror m).bit f i j = s.bit f i j := by
  simp only [State.bit, State.mirror_rd]

theorem State.spanReason_le (s : State) (sel f : Nat) : s.spanReason sel f ≤ 5 := by
  unfold State.spanReason
  split_ifs <;> decide

theorem State.spanArm_armed {sel f : Nat} (free : s.rd F.SPAN_CHG_STAT_STATE ≠ 1) (hsel : s.rd F.SPAN_CHG_CTL_NEW_SEL = sel)
    (hf : s.rd48 F.SPAN_CHG_FRAME_LO F.SPAN_CHG_FRAME_HI = f) (fine : s.spanReason sel f = 0) :
    s.spanArm.span.armed = some (f, sel) ∧ s.spanArm.rd F.SPAN_CHG_STAT_STATE = 1 ∧
      s.spanArm.rd F.SPAN_CHG_STAT_REASON = 0 ∧ s.spanArm.bit F.SPAN_CHG_STAT_ABORT_LATE = false := by
  unfold State.spanArm
  rw [if_neg free, hsel, hf]
  dsimp only
  rw [fine, if_neg (by decide)]
  have regs (tre : Option (Nat × Nat)) (u : State) (hu : u.rf = (((s.wr F.SPAN_CHG_STAT_REASON 0).wrB F.SPAN_CHG_STAT_ABORT_LATE
      false).wr F.SPAN_CHG_STAT_STATE 1).rf) : u.rd F.SPAN_CHG_STAT_STATE = 1 ∧ u.rd F.SPAN_CHG_STAT_REASON = 0 ∧
        u.bit F.SPAN_CHG_STAT_ABORT_LATE = false := by
    simp only [State.rd_congr hu, State.bit_congr hu, State.wrB]
    refine ⟨?_, ?_, ?_⟩ <;>
      simp (disch := decide) only [State.rd_wr_apart, State.rd_wr_same, State.bit_wr_apart, State.bit_wr_same] <;> rfl
  simp only [State.mirror_span, State.mirror_rd, State.mirror_bit]
  split
  · exact ⟨rfl, regs none _ rfl⟩
  · exact ⟨rfl, regs none _ rfl⟩

theorem State.spanArm_refused {sel f : Nat} (free : s.rd F.SPAN_CHG_STAT_STATE ≠ 1) (hsel : s.rd F.SPAN_CHG_CTL_NEW_SEL = sel)
    (hf : s.rd48 F.SPAN_CHG_FRAME_LO F.SPAN_CHG_FRAME_HI = f) (reason : s.spanReason sel f ≠ 0) :
    s.spanArm.span = s.span ∧ s.spanArm.rd F.SPAN_CHG_STAT_STATE = 4 ∧
      s.spanArm.rd F.SPAN_CHG_STAT_REASON = s.spanReason sel f ∧ s.spanArm.bit F.SPAN_CHG_STAT_ABORT_LATE = false := by
  have width : s.spanReason sel f < 2 ^ F.SPAN_CHG_STAT_REASON.width := (s.spanReason_le sel f).trans_lt (by decide)
  unfold State.spanArm
  rw [if_neg free, hsel, hf]
  dsimp only
  rw [if_pos reason]
  refine ⟨rfl, ?_, ?_, ?_⟩ <;> simp (disch := decide) only [State.wrB, State.rd_wr_apart, State.rd_wr_same, State.bit_wr_apart,
    State.bit_wr_same, Nat.mod_eq_of_lt width] <;> rfl

theorem State.spanCancel_withdraws {f sel : Nat} (state : s.rd F.SPAN_CHG_STAT_STATE = 1) (armed : s.span.armed = some (f, sel))
    (early : s.frame + 1 < f) :
    s.spanCancel.span = { s.span with armed := none } ∧ s.spanCancel.rd F.SPAN_CHG_STAT_STATE = 3 := by
  have withdrawn : s.spanCancel = { s.wr F.SPAN_CHG_STAT_STATE 3 with
      span := { s.span with armed := none }, tre := { s.tre with spanChange := none } }.mirror (.spanChange sel 0) := by
    unfold State.spanCancel
    rw [state, armed]
    exact if_neg (by omega)
  rw [withdrawn, State.mirror_span, State.mirror_rd]
  exact ⟨rfl, s.rd_wr_same F.SPAN_CHG_STAT_STATE 3 0 0⟩

theorem State.spanCancel_late (state : s.rd F.SPAN_CHG_STAT_STATE = 1 ∧ (∃ f sel, s.span.armed = some (f, sel) ∧ f ≤ s.frame + 1) ∨
    s.rd F.SPAN_CHG_STAT_STATE = 2) :
    s.spanCancel.span = s.span ∧ s.spanCancel.bit F.SPAN_CHG_STAT_ABORT_LATE = true := by
  have late : s.spanCancel = s.wrB F.SPAN_CHG_STAT_ABORT_LATE true := by
    unfold State.spanCancel
    rcases state with ⟨one, f, sel, armed, past⟩ | two
    · rw [one, armed]
      exact if_pos past
    · rw [two]
      cases s.span.armed <;> rfl
  rw [late]
  exact ⟨rfl, s.bit_wr_same 1 0 0⟩

/-! ### Start-up -/

theorem State.toStep_atStep (k : Step) : (s.toStep k).atStep k = true := by
  unfold State.toStep State.atStep
  rw [State.rd_wr_same]
  cases k <;> rfl

/-- A pulse output that begins a pulse keeps the lines of ownership. -/
theorem State.epulseKick_bit (k : Nat) {f : Fld} (h : F.METER_EP_STAT_BACKLOG.apart f = true) (i j : Nat) :
    (s.epulseKick k).bit f i j = s.bit f i j := by
  unfold State.epulseKick
  split
  · exact s.bit_wr_apart _ k 0 i j h
  · rfl

theorem State.each_epulseKick_bit (l : List Nat) {f : Fld} (h : F.METER_EP_STAT_BACKLOG.apart f = true) (i j : Nat) :
    (s.each l State.epulseKick).bit f i j = s.bit f i j := by
  unfold State.each
  induction l generalizing s with
  | nil => rfl
  | cons k l ih => rw [List.foldl_cons, ih, s.epulseKick_bit k h]

theorem State.gatesResume_bit (f : Fld) (i j : Nat) : s.gatesResume.bit f i j = s.bit f i j := rfl

theorem State.ownRaise_drives (alone : s.bit F.TWIN_STAT_OWN_IN = false) :
    s.ownRaise.bit F.TWIN_STAT_OWN_OUT = true ∧ s.ownRaise.bit F.TWIN_STAT_DRIVING = true := by
  have own : (s.wrB F.TWIN_STAT_OWN_OUT true).bit F.TWIN_STAT_OWN_OUT = true := s.bit_wr_same 1 0 0
  have other : (s.wrB F.TWIN_STAT_OWN_OUT true).bit F.TWIN_STAT_OWN_IN = false := by
    rw [State.wrB, State.bit_wr_apart s _ 0 0 0 0 (by decide), alone]
  unfold State.ownRaise State.drivingUpdate
  simp only [own, other, Bool.not_false, Bool.and_true]
  split
  next already => exact ⟨own, already.symm⟩
  next =>
    rw [if_pos trivial, State.each_epulseKick_bit _ (by decide), State.each_epulseKick_bit _ (by decide)]
    rw [State.gatesResume_bit, State.gatesResume_bit]
    refine ⟨?_, State.bit_wr_same _ 1 0 0⟩
    rw [State.wrB, State.bit_wr_apart _ _ 0 0 0 0 (by decide)]
    exact own

/-- Settles O27: ARM and CANCEL are read off their branches, and each step of start-up sets the fields that show it. -/
theorem spanChangeAndStart : Obligations.SpanChangeAndStart := by
  unfold Obligations.SpanChangeAndStart
  refine ⟨fun s hs => ⟨fun free fine => ?_, fun free reason => ?_, fun f sel state armed early => ?_,
    fun f sel state armed past => ?_, fun state => ?_⟩, fun s hs => ⟨fun config => ?_, fun join => ?_,
    fun coherent run role ownIn cool frozen reached => ?_⟩⟩
  · exact Completes.of_act _ hs rfl (State.spanArm_armed free rfl rfl fine)
  · exact Completes.of_act _ hs rfl (State.spanArm_refused free rfl rfl reason)
  · exact Completes.of_act _ hs rfl (State.spanCancel_withdraws state armed early)
  · exact Completes.of_act _ hs rfl (State.spanCancel_late (.inl ⟨state, f, sel, armed, past⟩))
  · exact Completes.of_act _ hs rfl (State.spanCancel_late (.inr state))
  · refine Completes.of_act _ hs rfl ?_
    rw [State.startGo, if_pos config]
    exact ⟨State.toStep_atStep _, rfl⟩
  · refine Completes.of_act _ hs rfl ?_
    rw [if_pos join]
    refine ⟨State.toStep_atStep _, ?_⟩
    exact (State.bit_wr_apart _ _ 0 0 0 0 (by decide)).trans (s.bit_wr_same 1 0 0)
  · refine ⟨_, (State.act_eq _ hs : execOutputStep s = _), ?_⟩
    have may : ((s.roleIs .off || s.roleIs .active) && !s.bit F.TWIN_STAT_OWN_IN && !s.bit F.HEALTH_THERM_STAT_HALT_HOT
        && !s.dbg.frozen) = true := by
      simp [ownIn, cool, frozen, role]
    rw [if_neg (by simp [coherent]), State.instant_of_reached run reached, if_pos may]
    exact State.ownRaise_drives ownIn

end Sys2Proof.Machine
end

section
/-! Commands whose events are those of one cycle (R429): what raises at most one event, and the summary before it, is left as it
stands. -/

namespace Sys2Proof.Machine

set_option Elab.async false

variable {s t : State}

/-- What one event adds to the queue: a summary first, then the event, each or none. -/
inductive Added (code : Nat) : List EvtEntry → Prop
  | none : Added code []
  | one (e : EvtEntry) (either : e.code = 1 ∨ e.code = code) : Added code [e]
  | two (e f : EvtEntry) (first : e.code = 1) (second : f.code = code) : Added code [e, f]

theorem State.enqueue_queue (s : State) (e : EvtEntry) :
    (s.enqueue e).evr.queue = s.evr.queue ∨ (s.enqueue e).evr.queue = s.evr.queue ++ [e] := by
  unfold State.enqueue
  split
  · exact .inl rfl
  · split
    · exact .inl rfl
    · exact .inr rfl

/-- A token that returns adds at most its code's summary, whose own code is 1. -/
theorem State.tokenReturn_queue (s : State) (c : Nat) :
    (s.tokenReturn c).evr.queue = s.evr.queue ∨ ∃ e : EvtEntry, e.code = 1 ∧ (s.tokenReturn c).evr.queue = s.evr.queue ++ [e] := by
  unfold State.tokenReturn
  extract_lets b p
  split
  · exact .inl rfl
  · unfold State.summarize
    extract_lets b'
    split
    · exact .inl rfl
    · exact (State.enqueue_queue _ _).imp_right fun h => ⟨_, rfl, h⟩

theorem State.admitEvent_queue (s : State) (e : EvtEntry) :
    ∃ add, (s.admitEvent e).evr.queue = s.evr.queue ++ add ∧ Added e.code add := by
  have entered (u : State) (code : Nat) (add : List EvtEntry) (h : u.evr.queue = s.evr.queue ++ add) :
      (u.enqueue e).evr.queue = s.evr.queue ++ add ∨ (u.enqueue e).evr.queue = s.evr.queue ++ (add ++ [e]) := by
    rw [← List.append_assoc, ← h]
    exact u.enqueue_queue e
  unfold State.admitEvent
  split
  · rcases entered s e.code [] (by simp) with h | h
    · exact ⟨_, h, .none⟩
    · exact ⟨_, h, .one e (.inr rfl)⟩
  · split
    · exact ⟨[], by simp, .none⟩
    · extract_lets u b
      rcases s.tokenReturn_queue e.code with h | ⟨x, hx, h⟩
      · split
        · rcases entered (u.setBucket e.code _) e.code [] (h.trans (List.append_nil _).symm) with h | h
          · exact ⟨_, h, .none⟩
          · exact ⟨_, h, .one e (.inr rfl)⟩
        · exact ⟨[], h.trans (List.append_nil _).symm, .none⟩
      · split
        · rcases entered (u.setBucket e.code _) e.code [x] h with h | h
          · exact ⟨_, h, .one x (.inl hx)⟩
          · exact ⟨_, h, .two x e hx rfl⟩
        · exact ⟨[x], h, .one x (.inl hx)⟩

theorem State.raise_queue_added (s : State) (code index : Nat) (words : List Nat) (pier : Option Nat) :
    ∃ add, (s.raise code index words pier).evr.queue = s.evr.queue ++ add ∧ Added code add := by
  unfold State.raise State.takeEvent
  split
  · exact State.admitEvent_queue _ _
  · split
    · exact ⟨[], by simp [State.incSat, State.addSat], .none⟩
    · exact ⟨[], by simp, .none⟩

/-- The summary and the event of one instant stand in the order of R429. -/
theorem State.sortEvents_of_added {q add : List EvtEntry} {code : Nat} (queue : s.evr.queue = q ++ add) (added : Added code add)
    (after : 1 < code) : s.sortEvents q.length = s := by
  have sorted : add.foldl (fun l e => insertEvt e l) [] = add := by
    cases added with
    | none => rfl
    | one => rfl
    | two e f first second =>
      have later : ¬ (f.code < e.code ∨ f.code = e.code ∧ f.index < e.index) := by omega
      simp [insertEvt, later]
  simp only [State.sortEvents, queue, List.take_left, List.drop_left, sorted]
  rw [← queue]

/-- One event, raised where the queue was as long as at the beginning of the cycle. -/
theorem State.sortEvents_raise {code : Nat} (index : Nat) (words : List Nat) (after : 1 < code) {n : Nat}
    (length : s.evr.queue.length = n) : (s.raise code index words).sortEvents n = s.raise code index words := by
  obtain ⟨add, queue, added⟩ := s.raise_queue_added code index words none
  rw [← length]
  exact State.sortEvents_of_added queue added after

/-- Without an event there is nothing to put in order. -/
theorem State.sortEvents_of_same (h : t.evr = s.evr) : t.sortEvents s.evr.queue.length = t :=
  t.sortEvents_of_le (by rw [h]; omega)

/-- What is put in order at the end of the cycle, after the rest of an effect. -/
theorem SetsThen.sorted {u t : State} {rows : List Row} {f : State → State} (h : SetsThen u t rows f) (m : Nat) :
    SetsThen u (t.sortEvents m) rows fun v => (f v).sortEvents m := by
  obtain ⟨v, sets, rfl⟩ := h
  exact ⟨v, sets, rfl⟩

/-- Fields alone raise no event. -/
theorem Sets.sorted {u t : State} {rows : List Row} (h : Sets u t rows) {m : Nat} (length : u.evr.queue.length = m) :
    Sets u (t.sortEvents m) rows := by
  have evr : t.evr = u.evr := by rw [h.rest]
  rwa [← length, State.sortEvents_of_same evr]

/-- One event is in order as it stands. -/
theorem SetsRaise.sorted {u t : State} {rows : List Row} {code index : Nat} {words : List Nat}
    (h : SetsRaise u t rows code index words) (after : 1 < code) {m : Nat} (length : u.evr.queue.length = m) :
    SetsRaise u (t.sortEvents m) rows code index words := by
  obtain ⟨v, sets, rfl⟩ := h
  have evr : v.evr = u.evr := by rw [sets.rest]
  exact ⟨v, sets, State.sortEvents_raise index words after (by rw [evr, length])⟩

end Sys2Proof.Machine
end

section
/-! O30: the commands of a solenoid channel, each as the fields it sets, what the channel keeps, and the group that follows. -/

namespace Sys2Proof.Machine

set_option Elab.async false

variable {s : State} {n : Nat}

theorem State.solRefusal_lt (s : State) (n : Nat) : s.solRefusal n < 2 ^ F.SOL_CH_STAT_REASON.width := by
  have bound : s.solRefusal n ≤ 4 := by
    unfold State.solRefusal
    extract_lets pick per
    split_ifs <;> decide
  exact bound.trans_lt (by decide)

@[simp] theorem State.rd_solMod (f : SolCh → SolCh) (g : Fld) (i j : Nat) : (s.solMod n f).rd g i j = s.rd g i j := rfl

theorem State.rd_of_solIs {k : SolState} (h : s.solIs n k = true) : s.rd F.SOL_CH_STAT_STATE n = k.code := by
  simpa [State.solIs] using h

/-- A channel is in one state. -/
theorem State.solIs_of_solIs {k l : SolState} (h : s.solIs n k = true) : s.solIs n l = decide (k = l) := by
  unfold State.solIs
  rw [State.rd_of_solIs h]
  cases k <;> cases l <;> rfl

/-- The place in the period comes from its length, the span's length and the time. -/
theorem State.solPosition_congr {t : State} (per : t.rd F.SOL_CH_PWM_PER n = s.rd F.SOL_CH_PWM_PER n) (sel : t.sel = s.sel)
    (span : t.span = s.span) : t.solPosition n = s.solPosition n := by
  unfold State.solPosition State.solLen State.solSpan
  rw [per, sel, span]

theorem State.solEnable_sets (off : s.bit F.SOL_CH_CFG_EN n = false) (fine : s.solRefusal n = 0) :
    SetsThen (s.solMod n fun c => { buckets := c.buckets, runSum := c.runSum, sec := c.sec
                                    idx := (s.solPosition n).1, pos := (s.solPosition n).2 }) (s.solEnable n)
      [(F.SOL_CH_STAT_REASON, n, 0, 0), (F.SOL_CH_CFG_EN, n, 0, 1), (F.SOL_CH_STAT_STATE, n, 0, 1),
        (F.SOL_CH_STAT_ARMED, n, 0, 1), (F.SOL_CH_STAT_FLT_REASON, n, 0, 0)] (·.solGroup (n / 4)) := by
  unfold State.solEnable
  rw [if_neg (by simp [off])]
  dsimp only
  rw [fine, if_neg (by decide)]
  refine ⟨_, ?_, rfl⟩
  have position : State.solPosition (((((s.wr F.SOL_CH_STAT_REASON 0 n).wrB F.SOL_CH_CFG_EN true n).solTo n .idle).wrB
      F.SOL_CH_STAT_ARMED true n).wr F.SOL_CH_STAT_FLT_REASON 0 n) n = s.solPosition n := by
    apply State.solPosition_congr
    · simp (disch := decide) only [State.wrB, State.solTo, State.rd_wr_apart]
    · simp (disch := decide) only [State.sel, State.wrB, State.solTo, State.rd_wr_apart]
    · rfl
  rw [position]
  exact Sets.of_wrs rfl


theorem State.solEnable_sets_of_refused (off : s.bit F.SOL_CH_CFG_EN n = false) (refused : s.solRefusal n ≠ 0) :
    Sets s (s.solEnable n) [(F.SOL_CH_STAT_REASON, n, 0, s.solRefusal n)] := by
  unfold State.solEnable
  rw [if_neg (by simp [off])]
  dsimp only
  rw [if_pos refused]
  exact Sets.of_wrs rfl (by simpa [Fits] using s.solRefusal_lt n)

theorem State.solDisable_sets (on : s.solIs n .off = false) :
    SetsThen ((s.solUnqueue n).solMod n fun c => { c with kept := false, deferred := none, isOn := false }) (s.solDisable n)
      ((if s.solIs n .wait || s.solIs n .pick then [(F.SOL_CH_STAT_OUTCOME, n, 0, 2)] else []) ++
        [(F.SOL_CH_CFG_EN, n, 0, 0), (F.SOL_CH_STAT_STATE, n, 0, 0), (F.SOL_CH_STAT_ARMED, n, 0, 0)]) (·.solGroup (n / 4)) := by
  unfold State.solDisable State.solEndStroke
  rw [if_neg (by simp [on])]
  refine ⟨_, ?_, rfl⟩
  split
  · exact Sets.of_wrs rfl
  · exact Sets.of_wrs rfl

/-! ### Requests -/

/-- What a stroke begins with (R272). -/
abbrev State.solStarts (s : State) (n : Nat) (c : SolCh) : SolCh :=
  { c with t := 0, peak := -2048, regulating := false, detDone := false, detLast := [], detMax := none, energy := 0
           isOn := true, sinceOn := 0, target := s.rd F.SOL_CH_PROF_PICK_I n
           onFor := (s.solLen n (s.solCh n).idx).1 * 100, regFrom := false, abortAt := none, moved := false }

theorem State.solLen_congr {t : State} (per : t.rd F.SOL_CH_PWM_PER n = s.rd F.SOL_CH_PWM_PER n) (sel : t.sel = s.sel)
    (span : t.span = s.span) (idx : Nat) : t.solLen n idx = s.solLen n idx := by
  unfold State.solLen State.solSpan
  rw [per, sel, span]

/-- Disarming a channel changes nothing of what its request is judged by. -/
theorem State.solFits_disarmed : (s.wrB F.SOL_CH_STAT_ARMED false n).solFits n = s.solFits n := by
  simp (disch := decide) only [State.solFits, State.solLoad, State.solIs, State.wrB, State.rd_wr_apart]
  rfl

theorem State.solRequest_picks (cool : ¬ (s.bit F.SOL_CH_STAT_OVER n = true ∧ s.rd F.SOL_CH_I2T_CFG_POLICY n = 0))
    (free : s.solQueue (n / 4) = [] ∧ s.solFits n = true) :
    SetsThen (s.solMod n (s.solStarts n)) (s.solRequest n)
      [(F.SOL_CH_STAT_ARMED, n, 0, 0), (F.SOL_CH_STAT_STATE, n, 0, 3), (F.SOL_CH_STAT_OUTCOME, n, 0, 0),
        (F.SOL_CH_STAT_MOTION, n, 0, 0), (F.SOL_CH_STAT_SLOWREL, n, 0, 0)] (·.solGroup (n / 4)) := by
  obtain ⟨empty, fits⟩ := free
  have cool' : ¬ ((s.wrB F.SOL_CH_STAT_ARMED false n).bit F.SOL_CH_STAT_OVER n &&
      (s.wrB F.SOL_CH_STAT_ARMED false n).rd F.SOL_CH_I2T_CFG_POLICY n == 0) = true := by
    simp (disch := decide) only [State.wrB, State.rd_wr_apart, State.bit_wr_apart]
    simpa using cool
  have empty' : (s.wrB F.SOL_CH_STAT_ARMED false n).solQueue (n / 4) = [] := empty
  unfold State.solRequest
  dsimp only
  rw [if_neg cool', if_pos (by rw [empty', State.solFits_disarmed, fits]; rfl)]
  refine ⟨_, ?_, rfl⟩
  have target : State.rd (((((s.wrB F.SOL_CH_STAT_ARMED false n).solTo n .pick).solOutcome n .none).wr F.SOL_CH_STAT_MOTION 0 n).wrB
      F.SOL_CH_STAT_SLOWREL false n) F.SOL_CH_PROF_PICK_I n = s.rd F.SOL_CH_PROF_PICK_I n := by
    simp (disch := decide) only [State.wrB, State.solTo, State.solOutcome, State.rd_wr_apart]
  have len (idx : Nat) : State.solLen (((((s.wrB F.SOL_CH_STAT_ARMED false n).solTo n .pick).solOutcome n .none).wr
      F.SOL_CH_STAT_MOTION 0 n).wrB F.SOL_CH_STAT_SLOWREL false n) n idx = s.solLen n idx := by
    apply State.solLen_congr
    · simp (disch := decide) only [State.wrB, State.solTo, State.solOutcome, State.rd_wr_apart]
    · simp (disch := decide) only [State.sel, State.wrB, State.solTo, State.solOutcome, State.rd_wr_apart]
    · rfl
  unfold State.solEnterPick
  dsimp only
  rw [target, len]
  exact Sets.of_wrs rfl

theorem State.solRequest_waits (cool : ¬ (s.bit F.SOL_CH_STAT_OVER n = true ∧ s.rd F.SOL_CH_I2T_CFG_POLICY n = 0))
    (held : ¬ (s.solQueue (n / 4) = [] ∧ s.solFits n = true)) :
    SetsThen { s with sol := { s.sol with queue := s.sol.queue ++ [n] } } (s.solRequest n)
      [(F.SOL_CH_STAT_ARMED, n, 0, 0), (F.SOL_CH_STAT_STATE, n, 0, 2)] (·.solGroup (n / 4)) := by
  have cool' : ¬ ((s.wrB F.SOL_CH_STAT_ARMED false n).bit F.SOL_CH_STAT_OVER n &&
      (s.wrB F.SOL_CH_STAT_ARMED false n).rd F.SOL_CH_I2T_CFG_POLICY n == 0) = true := by
    simp (disch := decide) only [State.wrB, State.rd_wr_apart, State.bit_wr_apart]
    simpa using cool
  have held' : ¬ (((s.wrB F.SOL_CH_STAT_ARMED false n).solQueue (n / 4)).isEmpty &&
      (s.wrB F.SOL_CH_STAT_ARMED false n).solFits n) = true := by
    rw [State.solFits_disarmed, Bool.and_eq_true, List.isEmpty_iff]
    exact held
  unfold State.solRequest
  dsimp only
  rw [if_neg cool', if_neg held']
  exact ⟨_, Sets.of_wrs rfl, rfl⟩

theorem State.solRequest_refused (hot : s.bit F.SOL_CH_STAT_OVER n = true ∧ s.rd F.SOL_CH_I2T_CFG_POLICY n = 0) :
    SetsRaise s (s.solRequest n) [(F.SOL_CH_STAT_ARMED, n, 0, 0),
      (F.SOL_CH_STAT_REFUSED, n, 0, min 255 (s.rd F.SOL_CH_STAT_REFUSED n + 1))] 0x508 n [n, s.rd F.SOL_CH_I2T_SUM n] := by
  have hot' : ((s.wrB F.SOL_CH_STAT_ARMED false n).bit F.SOL_CH_STAT_OVER n &&
      (s.wrB F.SOL_CH_STAT_ARMED false n).rd F.SOL_CH_I2T_CFG_POLICY n == 0) = true := by
    simp (disch := decide) only [State.wrB, State.rd_wr_apart, State.bit_wr_apart]
    simpa using hot
  unfold State.solRequest
  dsimp only
  rw [if_pos hot']
  simp (disch := decide) only [State.incSat, State.addSat, State.wrB, State.rd_wr_apart]
  exact ⟨_, Sets.of_wrs rfl (by simp [Fits, show F.SOL_CH_STAT_REFUSED.width = 8 from rfl]), rfl⟩

/-- PICK of an idle, armed channel is a request. -/
theorem State.solPickCmd_eq (pick : s.solReg n = true ∧ s.solIs n .idle = true ∧ s.bit F.SOL_CH_STAT_ARMED n = true ∧
    (s.solCh n).deferred = none ∧ s.throttling = false) : s.solPickCmd n = s.solRequest n := by
  obtain ⟨reg, idle, armed, undeferred, cool⟩ := pick
  simp [State.solPickCmd, State.solOn, State.solAsk, reg, idle, armed, undeferred, cool]

/-! ### OFF, ABORT and CLEAR -/

/-- The low side of a channel is off, and no sample of its release has been counted (R276). -/
abbrev solLow (c : SolCh) : SolCh := { c with isOn := false, low := 0 }

theorem State.solOffCmd_releases (reg : s.solReg n = true) (hold : s.solIs n .hold = true) :
    SetsThen (s.solMod n fun c => { c with kept := false, deferred := none }) (s.solOffCmd n)
      [(F.SOL_CH_STAT_ARMED, n, 0, 1), (F.SOL_CH_STAT_STATE, n, 0, 5)] fun v => (v.solMod n solLow).solGroup (n / 4) := by
  have armed (k : SolState) : ((s.wrB F.SOL_CH_STAT_ARMED true n).solMod n fun c =>
      { c with kept := false, deferred := none }).solIs n k = s.solIs n k := by
    simp (disch := decide) only [State.solIs, State.rd_solMod, State.wrB, State.rd_wr_apart]
  unfold State.solOffCmd State.solOff
  rw [if_pos reg, if_neg (by rw [State.solIs_of_solIs hold]; decide)]
  dsimp only
  rw [if_neg (by rw [armed, armed, State.solIs_of_solIs hold, State.solIs_of_solIs hold]; decide),
    if_pos (by rw [armed, hold])]
  exact ⟨_, Sets.of_wrs rfl, rfl⟩

theorem State.solOffCmd_arms (reg : s.solReg n = true) (idle : s.solIs n .idle = true) :
    Sets (s.solMod n fun c => { c with kept := false, deferred := none }) (s.solOffCmd n) [(F.SOL_CH_STAT_ARMED, n, 0, 1)] := by
  have armed (k : SolState) : ((s.wrB F.SOL_CH_STAT_ARMED true n).solMod n fun c =>
      { c with kept := false, deferred := none }).solIs n k = s.solIs n k := by
    simp (disch := decide) only [State.solIs, State.rd_solMod, State.wrB, State.rd_wr_apart]
  unfold State.solOffCmd State.solOff
  rw [if_pos reg, if_neg (by rw [State.solIs_of_solIs idle]; decide)]
  dsimp only
  rw [if_neg (by rw [armed, armed, State.solIs_of_solIs idle, State.solIs_of_solIs idle]; decide),
    if_neg (by rw [armed, State.solIs_of_solIs idle]; decide)]
  exact Sets.of_wrs rfl

theorem State.solAbortCmd_pick (takes : s.takesCommands = true) (pick : s.solIs n .pick = true) :
    SetsThen s (s.solAbortCmd n) [(F.SOL_CH_STAT_OUTCOME, n, 0, 2)] fun v =>
      ((((v.raise 0x506 n [n, 3]).solMod n fun c => { c with abortAt := some s.drvNow }).wr
        F.SOL_CH_STAT_STATE 5 n).solMod n solLow).solGroup (n / 4) := by
  have state : s.rd F.SOL_CH_STAT_STATE n = 3 := State.rd_of_solIs pick
  unfold State.solAbortCmd State.solAbort State.solAborted
  rw [if_pos takes, if_pos (by simp [pick])]
  dsimp only
  rw [state, if_neg (by decide)]
  exact ⟨_, Sets.of_wrs rfl, rfl⟩

theorem State.solAbortCmd_wait (takes : s.takesCommands = true) (wait : s.solIs n .wait = true) :
    SetsThen s (s.solAbortCmd n) [(F.SOL_CH_STAT_OUTCOME, n, 0, 2)] fun v =>
      ((((v.raise 0x506 n [n, 2]).solMod n fun c => { c with abortAt := some s.drvNow }).solUnqueue n).wr
        F.SOL_CH_STAT_STATE 1 n).solGroup (n / 4) := by
  have state : s.rd F.SOL_CH_STAT_STATE n = 2 := State.rd_of_solIs wait
  unfold State.solAbortCmd State.solAbort State.solAborted
  rw [if_pos takes, if_pos (by simp [wait])]
  dsimp only
  rw [state, if_pos (by decide)]
  exact ⟨_, Sets.of_wrs rfl, rfl⟩

theorem State.solAbortCmd_late (takes : s.takesCommands = true)
    (past : s.solIs n .hold = true ∨ s.solIs n .release = true ∨ s.solIs n .fault = true) :
    s.solAbortCmd n = s.wrB F.SOL_CH_STAT_ABORT_LATE true n := by
  have early : ¬ (s.solIs n .wait || s.solIs n .pick) = true := by
    rcases past with h | h | h <;> rw [State.solIs_of_solIs h, State.solIs_of_solIs h] <;> decide
  unfold State.solAbortCmd State.solAbort
  rw [if_pos takes, if_neg early, if_pos (by rcases past with h | h | h <;> simp [h])]

theorem State.solClearCmd_clears (takes : s.takesCommands = true) (fault : s.solIs n .fault = true)
    (low : (s.solCh n).last ≤ s.rd F.SOL_CH_LIM_IOFF n) (untested : s.solTested n = false) :
    SetsThen s (s.solClearCmd n) [(F.SOL_CH_STAT_STATE, n, 0, 1), (F.SOL_CH_STAT_ARMED, n, 0, 0)] (·.solGroup (n / 4)) := by
  unfold State.solClearCmd State.solClear
  rw [if_pos takes, if_pos (by simp [fault, low, untested])]
  exact ⟨_, Sets.of_wrs rfl, rfl⟩

theorem State.solClearCmd_ignored (takes : s.takesCommands = true)
    (held : s.rd F.SOL_CH_LIM_IOFF n < (s.solCh n).last ∨ s.solTested n = true) : s.solClearCmd n = s := by
  unfold State.solClearCmd State.solClear
  rw [if_pos takes, if_neg]
  rcases held with high | tested
  · simp [high]
  · simp [tested]

/-! ### The obligation -/

/-- Settles O30: the events of each command put in order, what is left is its effect. -/
theorem solenoidCommands : Obligations.SolenoidCommands := by
  unfold Obligations.SolenoidCommands
  intro s n hs
  refine ⟨fun off fine => ?_, fun off refused => ?_, fun on => ?_, fun pick cool free => ?_, fun pick cool held => ?_,
    fun pick hot => ?_, fun reg hold => ?_, fun reg idle => ?_, fun takes pick => ?_, fun takes wait => ?_,
    fun takes past => ?_, fun takes fault low untested => ?_, fun takes fault held => ?_⟩
  · refine ⟨_, (State.reach_eq _ hs : execSolEnable n s = _), ?_⟩
    exact (State.solEnable_sets off fine).sorted _
  · refine ⟨_, (State.reach_eq _ hs : execSolEnable n s = _), ?_⟩
    exact (State.solEnable_sets_of_refused off refused).sorted rfl
  · refine ⟨_, (State.reach_eq _ hs : execSolDisable n s = _), ?_⟩
    exact (State.solDisable_sets on).sorted _
  · refine ⟨_, (State.reach_eq _ hs : execSolPick n s = _), ?_⟩
    rw [State.inCycle, State.solPickCmd_eq pick]
    exact (State.solRequest_picks cool free).sorted _
  · refine ⟨_, (State.reach_eq _ hs : execSolPick n s = _), ?_⟩
    rw [State.inCycle, State.solPickCmd_eq pick]
    exact (State.solRequest_waits cool held).sorted _
  · refine ⟨_, (State.reach_eq _ hs : execSolPick n s = _), ?_⟩
    rw [State.inCycle, State.solPickCmd_eq pick]
    exact (State.solRequest_refused hot).sorted (by decide) rfl
  · refine ⟨_, (State.reach_eq _ hs : execSolOff n s = _), ?_⟩
    exact (State.solOffCmd_releases reg hold).sorted _
  · refine ⟨_, (State.reach_eq _ hs : execSolOff n s = _), ?_⟩
    exact (State.solOffCmd_arms reg idle).sorted rfl
  · refine ⟨_, (State.reach_eq _ hs : execSolAbort n s = _), ?_⟩
    exact (State.solAbortCmd_pick takes pick).sorted _
  · refine ⟨_, (State.reach_eq _ hs : execSolAbort n s = _), ?_⟩
    exact (State.solAbortCmd_wait takes wait).sorted _
  · refine ⟨_, (State.reach_eq _ hs : execSolAbort n s = _), ?_⟩
    rw [State.inCycle, State.solAbortCmd_late takes past]
    exact (Sets.of_wrs rfl : Sets s (s.wrB F.SOL_CH_STAT_ABORT_LATE true n) _).sorted rfl
  · refine ⟨_, (State.reach_eq _ hs : execSolClear n s = _), ?_⟩
    exact (State.solClearCmd_clears takes fault low untested).sorted _
  · refine ⟨_, (State.reach_eq _ hs : execSolClear n s = _), ?_⟩
    rw [State.inCycle, State.solClearCmd_ignored takes held]
    exact State.sortEvents_of_same rfl

end Sys2Proof.Machine
end

section
/-! O31 fails: a fault of a channel whose outputs are off is recorded, but the channel's group is looked at too, and a group's
status follows its channels whatever it showed before. -/

namespace Sys2Proof.Machine

set_option Elab.async false

/-- What sets other fields and raises an event keeps a field. -/
theorem SetsRaise.rd_kept {u t : State} {rows : List Row} {code index : Nat} {words : List Nat}
    (h : SetsRaise u t rows code index words) {f : Fld} (lost : f.apart F.EVR_QLOST = true)
    (other : ∀ r ∈ rows, f.apart r.1 = true) (i j : Nat) : t.rd f i j = u.rd f i j := by
  obtain ⟨v, sets, rfl⟩ := h
  dsimp only
  rw [State.raise_rd_apart v i j lost]
  exact sets.others f i j fun r hr => Fld.key_ne_of_apart (other r hr) _ _ _ _

/-- SOL_CHANNEL_FAULT is one cycle's work (R280, R429). -/
theorem exec_solChannelFault {s : State} (n : Fin 32) (reason : BitVec 4) (h : s.serves [.sol]) :
    exec (.solChannelFault n reason) s = .next (s.inCycle fun s => s.solDetect n reason.toNat) :=
  (State.act_eq _ h : execSolChannelFault n reason s = _)

/-- No output is driven, channel 0 stands in IDLE, and its group shows a load that no channel of it has. -/
def staleLoad : State := liveWith [(F.SOL_CH_STAT_STATE, 0, 0, 1), (F.SOL_GRP_STAT_LOAD, 0, 0, 5)]

/-- Refutes O31: an overcurrent of channel 0 of `staleLoad` is recorded, and the group's load becomes 0, of which the statement
says nothing. -/
theorem not_solenoidEvents : ¬ Obligations.SolenoidEvents := by
  unfold Obligations.SolenoidEvents
  intro h
  have serves : staleLoad.serves [.sol] := by decide
  obtain ⟨-, -, -, -, -, -, -, -, -, fault, -⟩ := h staleLoad 0 serves
  obtain ⟨t, run, noted⟩ := fault 1 (.inl rfl) (by decide) (by decide)
  rw [if_neg (by decide)] at noted
  obtain rfl : (staleLoad.inCycle fun s => s.solDetect 0 1) = t := by
    rw [exec_solChannelFault 0 1 serves] at run
    exact Host.Outcome.next.inj run
  have load : (staleLoad.inCycle fun s => s.solDetect 0 1).rd F.SOL_GRP_STAT_LOAD = 0 := by decide
  rw [SetsRaise.rd_kept noted (by decide) (by simpa using by decide)] at load
  revert load
  decide

end Sys2Proof.Machine
end

section
/-! O32: the commands of a fan channel, each as the fields it sets and what the channel keeps. -/

namespace Sys2Proof.Machine

set_option Elab.async false

/-! ### One key set twice -/

theorem Sparse.put_put {α : Type} (m : Sparse α) (k : Nat) (a b : α) : Sparse.put (Sparse.put m k a) k b = Sparse.put m k b := by
  induction m with
  | nil => simp [Sparse.put]
  | cons x m ih =>
    rcases lt_trichotomy k x.1 with h | h | h
    · simp [Sparse.put, h]
    · simp [Sparse.put, h]
    · simp [Sparse.put, h.not_gt, h.ne', ih]

theorem Sparse.del_put {α : Type} (m : Sparse α) (k : Nat) (a : α) : Sparse.del (Sparse.put m k a) k = Sparse.del m k := by
  induction m with
  | nil => simp [Sparse.put, Sparse.del]
  | cons x m ih =>
    rcases lt_trichotomy k x.1 with h | h | h
    · simp [Sparse.put, Sparse.del, h]
    · simp [Sparse.put, Sparse.del, h]
    · simp [Sparse.put, Sparse.del, h.not_gt, h.ne', h.ne, ih]

theorem Sparse.del_del {α : Type} (m : Sparse α) (k : Nat) : Sparse.del (Sparse.del m k) k = Sparse.del m k := by
  induction m with
  | nil => rfl
  | cons x m ih => by_cases h : x.1 = k <;> simp [Sparse.del, h, ih]

/-- Of two values set at one key the second stands, where the first is not the one that clears the key or the second is. -/
theorem Sparse.set_set {α : Type} [DecidableEq α] (m : Sparse α) {d a b : α} (k : Nat) (h : a ≠ d ∨ b = d) :
    Sparse.set (Sparse.set m d k a) d k b = Sparse.set m d k b := by
  unfold Sparse.set
  by_cases hb : b = d
  · rw [if_pos hb, if_pos hb]
    split
    · exact Sparse.del_del m k
    · exact Sparse.del_put m k a
  · rw [if_neg hb, if_neg hb, if_neg (h.resolve_right hb), Sparse.put_put]

variable {s : State} {n : Nat}

/-! ### The channel's own state -/

@[simp] theorem State.rd_fanMod (f : FanCh → FanCh) (g : Fld) (i j : Nat) : (s.fanMod n f).rd g i j = s.rd g i j := rfl

/-- What a channel keeps is no register field. -/
theorem State.wr_fanMod (f : FanCh → FanCh) (g : Fld) (v i j : Nat) :
    (s.wr g v i j).fanMod n f = (s.fanMod n f).wr g v i j := rfl

@[simp] theorem State.fanCh_fanMod (f : FanCh → FanCh) : (s.fanMod n f).fanCh n = f (s.fanCh n) := Sparse.get_set_same _ _ _ _

/-- What a channel keeps, changed twice, is changed once, unless only the first change leaves what an unlisted channel keeps. -/
theorem State.fanMod_fanMod {f g : FanCh → FanCh} (h : f (s.fanCh n) ≠ {} ∨ g (f (s.fanCh n)) = {}) :
    (s.fanMod n f).fanMod n g = s.fanMod n fun c => g (f c) := by
  have set := Sparse.set_set s.fan n h
  unfold State.fanMod
  rw [show ({ s with fan := Sparse.set s.fan {} n (f (s.fanCh n)) } : State).fanCh n = f (s.fanCh n) from
    State.fanCh_fanMod f]
  dsimp only
  rw [set]

theorem State.rd_of_fanIs {k : FanState} (h : s.fanIs n k = true) : s.rd F.FAN_CH_STAT_STATE n = k.code := by
  simpa [State.fanIs] using h

/-- A channel is in one state. -/
theorem State.fanIs_of_fanIs {k l : FanState} (h : s.fanIs n k = true) : s.fanIs n l = decide (k = l) := by
  unfold State.fanIs
  rw [State.rd_of_fanIs h]
  cases k <;> cases l <;> rfl

theorem State.fanIs_fanTo (k l : FanState) : (s.fanTo n k).fanIs n l = decide (k = l) := by
  have state : (s.fanTo n k).rd F.FAN_CH_STAT_STATE n = k.code := by
    unfold State.fanTo
    cases k <;>
      simp (disch := decide) only [reduceCtorEq, or_self, or_true, true_or, if_true, if_false, State.rd_fanMod, State.rd_wr_apart,
        State.rd_wr_same] <;> rfl
  unfold State.fanIs
  rw [state]
  cases k <;> cases l <;> rfl

/-- A stopped channel: its duty is 0 (R309). -/
abbrev fanStill (c : FanCh) : FanCh := { c with duty := 0 }

theorem State.fanRefusal_lt (s : State) (n : Nat) : s.fanRefusal n < 2 ^ F.FAN_CH_STAT_REASON.width := by
  have bound : s.fanRefusal n ≤ 2 := by
    unfold State.fanRefusal
    dsimp only
    split_ifs <;> decide
  exact bound.trans_lt (by decide)

/-! ### Enable and disable -/

theorem State.fanTo_evr (k : FanState) : (s.fanTo n k).evr = s.evr := by
  unfold State.fanTo
  dsimp only
  split_ifs <;> rfl

@[simp] theorem State.fanMod_evr (f : FanCh → FanCh) : (s.fanMod n f).evr = s.evr := rfl

theorem State.fanStart_evr : (s.fanStart n).evr = s.evr := by
  simp only [State.fanStart, State.fanNewStart, State.fanKick, State.fanMod_evr, State.fanTo_evr, State.wrB_eq, State.wr_evr]

/-- A target that an idle channel sees raises no event: it starts, or stays. -/
theorem State.fanSee_evr (idle : s.fanIs n .idle = true) (t : Nat) : (s.fanSee n t).evr = s.evr := by
  unfold State.fanSee
  extract_lets t' u
  have kept : u.evr = s.evr := rfl
  have still : u.fanStarting n = false := by
    change (s.fanIs n .kick || s.fanIs n .retry) = false
    rw [State.fanIs_of_fanIs idle, State.fanIs_of_fanIs idle]
    rfl
  simp only [still, Bool.false_eq_true, if_false]
  split_ifs
  · exact kept
  · rw [State.wrB_eq, State.wr_evr, State.fanTo_evr, kept]
  · exact kept
  · rw [State.fanStart_evr, kept]
  · exact kept

theorem State.fanRegTarget_evr (idle : s.fanIs n .idle = true) : (s.fanRegTarget n).evr = s.evr := by
  unfold State.fanRegTarget
  split
  · exact State.fanSee_evr idle _
  · rfl

theorem State.fanEnable_sets (off : s.bit F.FAN_CH_CFG_EN n = false) (fine : s.fanRefusal n = 0) :
    SetsThen (s.fanMod n fun _ => {}) (s.fanEnable n) [(F.FAN_CH_STAT_REASON, n, 0, 0), (F.FAN_CH_CFG_EN, n, 0, 1),
      (F.FAN_CH_STAT_STATE, n, 0, 1), (F.FAN_CH_MEAS_RPM, n, 0, 0), (F.FAN_CH_STAT_ARMED, n, 0, s.drives.toNat),
      (F.FAN_CH_STAT_FLT_REASON, n, 0, 0), (F.FAN_CH_STAT_VERDICT, n, 0, 0)] (·.fanRegTarget n) := by
  unfold State.fanEnable
  rw [if_neg (by simp [off])]
  dsimp only
  rw [fine, if_neg (by decide)]
  have drives : (s.wr F.FAN_CH_STAT_REASON 0 n).drives = s.drives := by
    unfold State.drives State.driving
    rw [State.bit_wr_apart s 0 n 0 0 0 (by decide)]
    rfl
  rw [drives]
  rw [show s.fanMod n (fun _ => {}) = (s.fanMod n fanStill).fanMod n (fun _ => {}) from
    (State.fanMod_fanMod (f := fanStill) (g := fun _ => {}) (.inr rfl)).symm]
  exact ⟨_, Sets.of_wrs rfl (by cases s.drives <;> rfl), rfl⟩

/-- An enabled channel raises no event: its own row makes it idle before its target is looked at. -/
theorem State.fanEnable_evr (off : s.bit F.FAN_CH_CFG_EN n = false) (fine : s.fanRefusal n = 0) :
    (s.fanEnable n).evr = s.evr := by
  obtain ⟨v, sets, eq⟩ := State.fanEnable_sets off fine
  have state : v.rd F.FAN_CH_STAT_STATE n = 1 := sets.fields (F.FAN_CH_STAT_STATE, n, 0, 1) (by simp)
  have idle : v.fanIs n .idle = true := by
    unfold State.fanIs
    rw [state]
    rfl
  rw [eq]
  dsimp only
  rw [State.fanRegTarget_evr idle, sets.rest]
  rfl

theorem State.fanEnable_sets_of_refused (off : s.bit F.FAN_CH_CFG_EN n = false) (refused : s.fanRefusal n ≠ 0) :
    Sets s (s.fanEnable n) [(F.FAN_CH_STAT_REASON, n, 0, s.fanRefusal n)] := by
  unfold State.fanEnable
  rw [if_neg (by simp [off])]
  dsimp only
  rw [if_pos refused]
  exact Sets.of_wrs rfl (by simpa [Fits] using s.fanRefusal_lt n)

theorem State.fanDisable_sets (quiet : s.fanStarting n = false) :
    Sets (s.fanMod n fanStill) (s.fanDisable n) [(F.FAN_CH_CFG_EN, n, 0, 0),
      (F.FAN_CH_STAT_STATE, n, 0, 0), (F.FAN_CH_MEAS_RPM, n, 0, 0), (F.FAN_CH_STAT_ARMED, n, 0, 0),
      (F.FAN_CH_MEAS_DUTY, n, 0, 0)] := by
  unfold State.fanDisable
  rw [if_neg (by simp [quiet])]
  exact Sets.of_wrs rfl

/-! ### ABORT, RESTART and CLEAR -/

theorem State.fanAbort_ends (starting : s.fanStarting n = true) :
    ∃ v, SetsRaise (s.fanMod n fanStill) v [(F.FAN_CH_STAT_OUTCOME, n, 0, 2),
        (F.FAN_CH_STAT_STATE, n, 0, 1), (F.FAN_CH_MEAS_RPM, n, 0, 0), (F.FAN_CH_STAT_ARMED, n, 0, 0)] 0x705 n
        [n, s.rd F.FAN_CH_STAT_STATE n] ∧
      s.fanAbort n = v.fanMod n fun c => { c with abortAt := some s.drvNow, byAbort := true } := by
  unfold State.fanAbort State.fanAborted
  rw [if_pos starting]
  exact ⟨_, ⟨_, Sets.of_wrs rfl, rfl⟩, rfl⟩

theorem State.fanAbort_late (run : s.fanIs n .run = true) (going : s.fanEndedNow n = false) :
    s.fanAbort n = s.wrB F.FAN_CH_STAT_ABORT_LATE true n := by
  have quiet : s.fanStarting n = false := by
    unfold State.fanStarting
    rw [State.fanIs_of_fanIs run, State.fanIs_of_fanIs run]
    rfl
  unfold State.fanAbort
  rw [if_neg (by simp [quiet]), if_neg (by simp [going]), if_neg]
  simp [State.fanIs_of_fanIs run]

theorem State.fanRestart_sets (locked : s.fanIs n .locked = true) :
    Sets (s.fanMod n fun c => { c with
        attempts := 1 + s.rd F.FAN_CH_START_RETRIES n, duty := 8000, edges := 0, intervals := [] }) (s.fanRestart n)
      [(F.FAN_CH_STAT_ARMED, n, 0, 0), (F.FAN_CH_STAT_VERDICT, n, 0, 0),
        (F.FAN_CH_STAT_OUTCOME, n, 0, 0), (F.FAN_CH_STAT_ATTEMPT, n, 0, 1), (F.FAN_CH_STAT_TACH_SEEN, n, 0, 0),
        (F.FAN_CH_STAT_STATE, n, 0, 2)] := by
  have retries : ((s.wrB F.FAN_CH_STAT_ARMED false n).wr F.FAN_CH_STAT_VERDICT 0 n).rd F.FAN_CH_START_RETRIES n =
      s.rd F.FAN_CH_START_RETRIES n := by
    simp (disch := decide) only [State.wrB, State.rd_wr_apart]
  have twice := State.fanMod_fanMod (s := s) (n := n) (f := fun c => { c with attempts := 1 + s.rd F.FAN_CH_START_RETRIES n })
    (g := fun c => { c with duty := 8000, edges := 0, intervals := [] })
    (.inl fun h => by have := congrArg FanCh.attempts h; simp at this)
  unfold State.fanRestart State.fanStart
  rw [if_pos locked, ← twice]
  dsimp only
  rw [retries]
  have none : ∀ k, (State.fanNewStart ((s.wrB F.FAN_CH_STAT_ARMED false n).wr F.FAN_CH_STAT_VERDICT 0 n) n k).rd
      F.FAN_CH_STAT_ATTEMPT n = 0 := fun k => by rw [State.fanNewStart, State.rd_fanMod, State.rd_wr_same]; rfl
  unfold State.fanKick
  rw [none]
  refine Sets.of_writes [(F.FAN_CH_STAT_ARMED, n, 0, 0), (F.FAN_CH_STAT_VERDICT, n, 0, 0),
        (F.FAN_CH_STAT_OUTCOME, n, 0, 0), (F.FAN_CH_STAT_ATTEMPT, n, 0, 0), (F.FAN_CH_STAT_ATTEMPT, n, 0, 1),
        (F.FAN_CH_STAT_TACH_SEEN, n, 0, 0), (F.FAN_CH_STAT_STATE, n, 0, 2)] ?_ ?_ (by simp)
  · simp only [State.fanTo, true_or, if_true, State.fanNewStart, State.wrB, State.wr_fanMod]
    rfl
  simp only [List.forall_mem_cons, List.not_mem_nil, false_implies, implies_true, and_true]
  simp (disch := decide) only [State.fanTo, State.fanNewStart, State.wrB, State.rd_fanMod, true_or, if_true, State.rd_wr_apart,
    State.rd_wr_same]
  decide

theorem State.fanClear_sets (fault : s.fanIs n .fault = true) (untested : s.gateTested (gateUnit 2 n) = false) :
    Sets (s.fanMod n fanStill) (s.fanClear n) [(F.FAN_CH_STAT_STATE, n, 0, 1),
      (F.FAN_CH_MEAS_RPM, n, 0, 0), (F.FAN_CH_STAT_ARMED, n, 0, 0), (F.FAN_CH_STAT_VERDICT, n, 0, 0)] := by
  unfold State.fanClear
  dsimp only
  rw [if_pos (by simp [fault, untested])]
  exact Sets.of_wrs rfl

/-- Settles O32: each command is what it does to its channel, of which no more than one event is raised. -/
theorem fanCommands : Obligations.FanCommands := by
  unfold Obligations.FanCommands
  intro s n hs
  refine ⟨fun off fine => ?_, fun off refused => ?_, fun quiet => ?_, fun takes starting => ?_, fun takes run going => ?_,
    fun takes locked => ?_, fun takes fault untested => ?_⟩
  · refine ⟨_, (State.reach_eq _ hs : execFanEnable n s = _), ?_⟩
    rw [State.inCycle, State.sortEvents_of_same (State.fanEnable_evr off fine)]
    exact State.fanEnable_sets off fine
  · refine ⟨_, (State.reach_eq _ hs : execFanEnable n s = _), ?_⟩
    exact (State.fanEnable_sets_of_refused off refused).sorted rfl
  · refine ⟨_, (State.reach_eq _ hs : execFanDisable n s = _), ?_⟩
    exact (State.fanDisable_sets quiet).sorted rfl
  · refine ⟨_, (State.reach_eq _ hs : execFanAbort n s = _), ?_⟩
    obtain ⟨v, raises, eq⟩ := State.fanAbort_ends starting
    refine ⟨_, raises.sorted (by decide) rfl, ?_⟩
    rw [State.inCycle, State.fanCmd, if_pos takes, eq]
    rfl
  · refine ⟨_, (State.reach_eq _ hs : execFanAbort n s = _), ?_⟩
    rw [State.inCycle, State.fanCmd, if_pos takes, State.fanAbort_late run going]
    exact (Sets.of_wrs rfl : Sets s (s.wrB F.FAN_CH_STAT_ABORT_LATE true n) _).sorted rfl
  · refine ⟨_, (State.reach_eq _ hs : execFanRestart n s = _), ?_⟩
    rw [State.inCycle, State.fanCmd, if_pos takes]
    exact (State.fanRestart_sets locked).sorted rfl
  · refine ⟨_, (State.reach_eq _ hs : execFanClear n s = _), ?_⟩
    rw [State.inCycle, State.fanCmd, if_pos takes]
    exact (State.fanClear_sets fault untested).sorted rfl

end Sys2Proof.Machine
end

section
/-! O33 fails: the gate fault of a fan channel passes its error to HEALTH, which may retire another gate in the same cycle, and
the events of that are put in order (R429), where the statement takes them as they come. -/

namespace Sys2Proof.Machine

set_option Elab.async false

/-- The codes of what one event adds. -/
theorem Added.codes {code : Nat} {add : List EvtEntry} (h : Added code add) :
    add.map (·.code) = [] ∨ add.map (·.code) = [1] ∨ add.map (·.code) = [code] ∨ add.map (·.code) = [1, code] := by
  cases h with
  | none => simp
  | one e either => rcases either with h | h <;> simp [h]
  | two e f first second => simp [first, second]

/-- Channel 0 is idle, channel 1 starts, the gate of channel 0 is under test, and the retirement of channel 1's is due. -/
def retiringFan : State :=
  { liveWith [(F.EVR_STAT_RUNNING, 0, 0, 1), (F.TWIN_STAT_DRIVING, 0, 0, 1), (F.FAN_CH_STAT_STATE, 0, 0, 1),
      (F.FAN_CH_STAT_STATE, 1, 0, 2)] with
    health := { State.reset.health with running := [(3, 128)], due := [(3, 129, 0)] } }

/-- FAN_CHANNEL_FAULT is one cycle's work (R321, R429). -/
theorem exec_fanChannelFault {s : State} (n : Fin 16) (reason : BitVec 4) (h : s.serves [.fan]) :
    exec (.fanChannelFault n reason) s = .next (s.inCycle fun s => s.fanDetect n reason.toNat) :=
  (State.act_eq _ h : execFanChannelFault n reason s = _)

/-- The fault and both events of the retirement, in order. -/
theorem retiringFan_codes :
    (retiringFan.inCycle fun s => s.fanDetect 0 2).evr.queue.map (·.code) = [0x704, 0x705, 0xC08] := by decide

/-- An error of the gate whose test runs only carries out the retirement that is due. -/
theorem State.unitError_of_pending {w : State} (health : w.health = retiringFan.health) :
    w.unitError 3 128 = { w with health := { w.health with due := [] } }.retire 3 129 0 := by
  have pending : w.testPending 3 128 = true := by
    unfold State.testPending
    rw [health]
    rfl
  have started : w.startTest 3 128 = w := by
    unfold State.startTest
    rw [pending]
    split <;> rfl
  have begun : w.testBegins 3 128 = w := by
    unfold State.testBegins
    rw [health]
    rfl
  unfold State.unitError
  rw [started, begun, State.retireDue, show w.health.due = [(3, 129, 0)] by rw [health]; rfl]
  rfl

/-- A start that is aborted adds that event. -/
theorem State.fanAborted_queue (y : State) (n : Nat) (abort : Bool) :
    ∃ add, (y.fanAborted n abort).evr.queue = y.evr.queue ++ add ∧ Added 0x705 add := by
  unfold State.fanAborted
  extract_lets was now
  obtain ⟨add, queue, added⟩ := State.raise_queue_added
    (((y.wr F.FAN_CH_STAT_OUTCOME 2 n).fanTo n .idle).wrB F.FAN_CH_STAT_ARMED false n) 0x705 n [n, was] Option.none
  refine ⟨add, ?_, added⟩
  rw [State.fanMod_evr, queue, State.wrB_eq, State.wr_evr, State.fanTo_evr, State.wr_evr]

/-- Disabling a channel that starts aborts the start. -/
theorem State.fanDisable_evr {y : State} {n : Nat} (starting : y.fanStarting n = true) :
    (y.fanDisable n).evr = (y.fanAborted n true).evr := by
  unfold State.fanDisable
  rw [if_pos starting, State.wr_evr, State.wrB_eq, State.wr_evr, State.fanTo_evr, State.wrB_eq, State.wr_evr]

/-- The gate of channel 1 is retired: its map bit, its event, and the channel disabled with a reason (R457). -/
theorem State.retire_fan_eq {x : State} (serves : x.rd F.HEALTH_RET_FAN = 0) :
    x.retire 3 129 0 =
      (((x.setMap F.HEALTH_RET_FAN 1).event 0xC08 [3, 129, 0]).fanDisable 1).wr F.FAN_CH_STAT_REASON 2 1 := by
  have unretired : x.isRetired 3 129 = false := by
    change x.mapBit F.HEALTH_RET_FAN 1 = false
    unfold State.mapBit
    rw [serves]
    rfl
  unfold State.retire
  rw [unretired]
  rfl

theorem State.fanStarting_of_kick {x : State} (kick : x.rd F.FAN_CH_STAT_STATE 1 = 2) :
    ((x.setMap F.HEALTH_RET_FAN 1).event 0xC08 [3, 129, 0]).fanStarting 1 = true := by
  unfold State.fanStarting State.fanIs
  rw [State.event_eq_raise, State.raise_rd_apart _ 1 0 (by decide), State.setMap, State.rd_wr_apart _ _ 0 0 1 0 (by decide), kick]
  rfl

/-- Retiring the gate of a channel that starts adds a retirement to the queue, then the end of the start. -/
theorem State.retire_fan_codes {x : State} (serves : x.rd F.HEALTH_RET_FAN = 0) (kick : x.rd F.FAN_CH_STAT_STATE 1 = 2) :
    ∃ first second, (x.retire 3 129 0).evr.queue = x.evr.queue ++ first ++ second ∧ Added 0xC08 first ∧ Added 0x705 second := by
  obtain ⟨first, queue, added⟩ := (x.setMap F.HEALTH_RET_FAN 1).raise_queue_added 0xC08 0xFF [3, 129, 0] none
  obtain ⟨second, queue', added'⟩ := State.fanAborted_queue ((x.setMap F.HEALTH_RET_FAN 1).event 0xC08 [3, 129, 0]) 1 true
  refine ⟨first, second, ?_, added, added'⟩
  rw [State.retire_fan_eq serves, State.wr_evr, State.fanDisable_evr (State.fanStarting_of_kick kick), queue',
    State.event_eq_raise, queue]
  rfl

/-- Refutes O33: after a gate fault of channel 0 of `retiringFan`, the queue holds 0x704, 0x705 and 0xC08 in this order, while the
statement has the end of the start, 0x705, come last. -/
theorem not_fanEvents : ¬ Obligations.FanEvents := by
  unfold Obligations.FanEvents
  intro h
  have serves : retiringFan.serves [.fan] := by decide
  obtain ⟨-, -, -, -, -, -, -, -, -, -, -, -, -, faults⟩ := h retiringFan 0 serves
  obtain ⟨-, -, t, run, v, sets, eq⟩ := faults (by decide) (by decide) (by decide)
  obtain rfl : (retiringFan.inCycle fun s => s.fanDetect 0 2) = t := by
    rw [exec_fanChannelFault 0 2 serves] at run
    exact Host.Outcome.next.inj run
  have codes := retiringFan_codes
  obtain ⟨fault, queue, added⟩ := v.raise_queue_added 0x704 0 [0, 2, wInt (retiringFan.fanCh 0).last] Option.none
  have health : (v.raise 0x704 0 [0, 2, wInt (retiringFan.fanCh 0).last]).health = retiringFan.health := by
    rw [State.raise_health, sets.rest]
    rfl
  have map : v.rd F.HEALTH_RET_FAN = 0 := (sets.others F.HEALTH_RET_FAN 0 0 (by decide)).trans (by decide)
  have kick : v.rd F.FAN_CH_STAT_STATE 1 = 2 := (sets.others F.FAN_CH_STAT_STATE 1 0 (by decide)).trans (by decide)
  have empty : v.evr.queue = [] := by
    rw [sets.rest]
    rfl
  rw [eq] at codes
  dsimp only at codes
  change ((v.raise 0x704 0 [0, 2, wInt (retiringFan.fanCh 0).last]).unitError 3 128).evr.queue.map (·.code) = _ at codes
  rw [State.unitError_of_pending health] at codes
  obtain ⟨retired, ended, queue', added', added''⟩ := State.retire_fan_codes
    (x := { v.raise 0x704 0 [0, 2, wInt (retiringFan.fanCh 0).last] with
      health := { (v.raise 0x704 0 [0, 2, wInt (retiringFan.fanCh 0).last]).health with due := [] } })
    ((State.raise_rd_apart v 0 0 (by decide)).trans map) ((State.raise_rd_apart v 1 0 (by decide)).trans kick)
  rw [queue'] at codes
  dsimp only at codes
  rw [queue, empty, List.nil_append, List.map_append, List.map_append] at codes
  rcases added.codes with h1 | h1 | h1 | h1 <;> rcases added'.codes with h2 | h2 | h2 | h2 <;>
    rcases added''.codes with h3 | h3 | h3 | h3 <;> simp [h1, h2, h3] at codes

end Sys2Proof.Machine
end

section
/-! O34: the commands of a motor channel, each as the fields it sets and what the channel keeps. -/

namespace Sys2Proof.Machine

set_option Elab.async false

variable {s : State} {n : Nat}

/-! ### The channel's own state -/

@[simp] theorem State.rd_motMod (f : MotCh → MotCh) (g : Fld) (i j : Nat) : (s.motMod n f).rd g i j = s.rd g i j := rfl

@[simp] theorem State.motMod_evr (f : MotCh → MotCh) : (s.motMod n f).evr = s.evr := rfl

theorem State.motCh_wr (g : Fld) (v i j : Nat) : (s.wr g v i j).motCh n = s.motCh n := rfl

theorem State.deckNow_wr (g : Fld) (v i j : Nat) : (s.wr g v i j).deckNow = s.deckNow := rfl

theorem State.free_wr (k : Nat) (g : Fld) (v i j : Nat) :
    (s.wr g v i j).free k = ((s.free k).1, (s.free k).2.wr g v i j) := rfl

/-- What a channel keeps is no register field. -/
theorem State.wr_motMod (f : MotCh → MotCh) (g : Fld) (v i j : Nat) :
    (s.wr g v i j).motMod n f = (s.motMod n f).wr g v i j := rfl

theorem State.rd_of_motIs {k : MotState} (h : s.motIs n k = true) : s.rd F.MOT_CH_STAT_STATE n = k.code := by
  simpa [State.motIs] using h

/-- A channel is in one state. -/
theorem State.motIs_of_motIs {k l : MotState} (h : s.motIs n k = true) : s.motIs n l = decide (k = l) := by
  unfold State.motIs
  rw [State.rd_of_motIs h]
  cases k <;> cases l <;> rfl

theorem State.motRefusal_lt (s : State) (n : Nat) : s.motRefusal n < 2 ^ F.MOT_CH_STAT_REASON.width := by
  have bound : s.motRefusal n ≤ 4 := by
    unfold State.motRefusal
    extract_lets per dt b
    split_ifs <;> decide
  exact bound.trans_lt (by decide)

theorem unsigned_lt (w : Nat) (z : Int) : unsigned w z < 2 ^ w := by
  unfold unsigned
  have pos : (0 : Int) < 2 ^ w := by positivity
  have nonneg := Int.emod_nonneg z pos.ne'
  exact (Int.toNat_lt nonneg).mpr (by exact_mod_cast Int.emod_lt_of_pos z pos)

/-! ### Enable and disable -/

/-- The lines of a channel that has not seen them yet have a free level. -/
abbrev State.motLines (s : State) (n : Nat) : BitVec 3 × State :=
  match (s.motCh n).lines with
  | some x => (x, s)
  | none => (BitVec.ofNat 3 (s.free 35).1, (s.free 35).2)

theorem State.motLines_evr : (s.motLines n).2.evr = s.evr := by
  unfold State.motLines
  split <;> rfl

theorem State.motEnable_sets (off : s.bit F.MOT_CH_CFG_EN n = false) (fine : s.motRefusal n = 0) :
    Sets ((s.motLines n).2.motMod n fun c =>
        { badTq := c.badTq, badRun := c.badRun, lines := some (s.motLines n).1, sector := hallSector (s.motLines n).1
          sectorAt := s.deckNow, posAt := s.deckNow }) (s.motEnable n)
      [(F.MOT_CH_STAT_REASON, n, 0, 0), (F.MOT_CH_CFG_EN, n, 0, 1), (F.MOT_CH_STAT_STATE, n, 0, 1),
        (F.MOT_CH_STAT_ARMED, n, 0, s.drives.toNat), (F.MOT_CH_POS, n, 0, 0), (F.MOT_CH_STAT_HOMED, n, 0, 0),
        (F.MOT_CH_STAT_ALIGNED, n, 0, 0), (F.MOT_CH_STAT_FLT_REASON, n, 0, 0)] := by
  have drives : (s.wr F.MOT_CH_STAT_REASON 0 n).drives = s.drives := by
    unfold State.drives State.driving
    simp (disch := decide) only [State.bit_wr_apart, State.wr_dbg]
  unfold State.motEnable
  rw [if_neg (by simp [off])]
  dsimp only
  rw [fine, if_neg (by decide), drives]
  unfold State.motLines
  cases lines : (s.motCh n).lines with
  | some x =>
    simp only [State.wrB, State.motCh_wr, State.deckNow_wr, State.wr_motMod, State.free_wr, lines]
    exact Sets.of_wrs rfl (by cases s.drives <;> rfl)
  | none =>
    simp only [State.wrB, State.motCh_wr, State.deckNow_wr, State.wr_motMod, State.free_wr, lines]
    exact Sets.of_wrs rfl (by cases s.drives <;> rfl)

theorem State.motEnable_sets_of_refused (off : s.bit F.MOT_CH_CFG_EN n = false) (refused : s.motRefusal n ≠ 0) :
    Sets s (s.motEnable n) [(F.MOT_CH_STAT_REASON, n, 0, s.motRefusal n)] := by
  unfold State.motEnable
  rw [if_neg (by simp [off])]
  dsimp only
  rw [if_pos refused]
  exact Sets.of_wrs rfl (by simpa [Fits] using s.motRefusal_lt n)

theorem State.motDisable_sets :
    Sets ((if s.motMoving n then (if s.motOpen n then s.wr F.MOT_CH_STAT_OUTCOME 2 n else s).motBrake n false
        else if s.motOpen n then s.wr F.MOT_CH_STAT_OUTCOME 2 n else s).motMod n fun c =>
          { c.loopReset false with next := none }) (s.motDisable n)
      [(F.MOT_CH_CFG_EN, n, 0, 0), (F.MOT_CH_STAT_STATE, n, 0, 0), (F.MOT_CH_STAT_ARMED, n, 0, 0),
        (F.MOT_CH_STAT_ALIGNED, n, 0, 0)] := by
  have moving : (if s.motOpen n then s.wr F.MOT_CH_STAT_OUTCOME 2 n else s).motMoving n = s.motMoving n := by
    split
    · simp (disch := decide) only [State.motMoving, State.motIs, State.motCh, State.rd_wr_apart, State.wr_mot]
    · rfl
  unfold State.motDisable
  dsimp only
  rw [moving]
  generalize (if s.motMoving n = true then _ else _ : State) = ended
  exact Sets.of_wrs rfl

/-! ### MOVE and HOME -/

/-- The state that a start request leads to, by its code (R294, R297, R302). -/
abbrev State.motGoal (s : State) (n : Nat) : Nat :=
  if s.bit F.MOT_CH_BRAKE_BRK_EN n then 2
  else if s.rd F.MOT_CH_CFG_KIND n = 0 ∧ s.rd F.MOT_CH_CFG_POSSRC n = 1 ∧ s.bit F.MOT_CH_STAT_ALIGNED n = false then 3 else 4

theorem State.motStart_sets {home : Bool} (idle : s.motIs n .idle = true) (free : (s.motCh n).next = none)
    (homed : home = true ∨ s.bit F.MOT_CH_STAT_HOMED n = true) :
    Sets ((s.motMod n fun c => { c with homing := home, energy := 0, stopReq := false, outAt := none }).motMod n fun c =>
        { c with next := some (s.motGoal n) }) (s.motStart n home)
      [(F.MOT_CH_STAT_ARMED, n, 0, 0), (F.MOT_CH_STAT_OUTCOME, n, 0, 0)] := by
  have goal : (if (s.wrB F.MOT_CH_STAT_ARMED false n).bit F.MOT_CH_BRAKE_BRK_EN n then MotState.brakeWait
      else (s.wrB F.MOT_CH_STAT_ARMED false n).motFirst n).code = s.motGoal n := by
    simp (disch := decide) only [State.motFirst, State.wrB, State.rd_wr_apart, State.bit_wr_apart]
    unfold State.motGoal
    split
    · rfl
    · by_cases align : s.rd F.MOT_CH_CFG_KIND n = 0 ∧ s.rd F.MOT_CH_CFG_POSSRC n = 1 ∧ s.bit F.MOT_CH_STAT_ALIGNED n = false
      · rw [if_pos align, if_pos (by simp [align])]; rfl
      · rw [if_neg align, if_neg (by simpa [and_assoc] using align)]; rfl
  have homed' : ¬ (!home && !(s.wrB F.MOT_CH_STAT_ARMED false n).bit F.MOT_CH_STAT_HOMED n) = true := by
    rw [State.wrB, s.bit_wr_apart _ n 0 n 0 (by decide)]
    rcases homed with h | h <;> simp [h]
  unfold State.motStart
  rw [if_neg (by simp [idle, free])]
  dsimp only
  rw [if_neg homed', State.motNext, goal]
  exact Sets.of_wrs rfl

theorem State.motStart_refused (idle : s.motIs n .idle = true) (free : (s.motCh n).next = none)
    (lost : s.bit F.MOT_CH_STAT_HOMED n = false) :
    SetsRaise s (s.motStart n false) [(F.MOT_CH_STAT_ARMED, n, 0, 0), (F.MOT_CH_STAT_NOHOME, n, 0, 1)] 0x605 n [n] := by
  have lost' : (!false && !(s.wrB F.MOT_CH_STAT_ARMED false n).bit F.MOT_CH_STAT_HOMED n) = true := by
    rw [State.wrB, s.bit_wr_apart _ n 0 n 0 (by decide), lost]
    rfl
  unfold State.motStart
  rw [if_neg (by simp [idle, free])]
  dsimp only
  rw [if_pos lost']
  exact ⟨_, Sets.of_wrs rfl, rfl⟩

/-! ### STOP, ABORT and CLEAR -/

/-- An event before the outcome sets it, with no other to undo (R298). -/
theorem State.motOutcome_of_open (opened : s.motOpen n = true) (out r : Nat) :
    s.motOutcome n out 0 r = ((s.wr F.MOT_CH_STAT_OUTCOME out n).motMod n fun c =>
      { c with outAt := some (s.drvNow, r), outSeen := false }).wrB F.MOT_CH_STAT_ARMED false n := by
  have takes : s.motTakes n r = true := by simp [State.motTakes, opened]
  unfold State.motOutcome
  dsimp only
  rw [if_pos rfl, if_pos takes, if_neg (by simp [opened])]

theorem State.motStop_waits (opened : s.motOpen n = true) (moving : (s.motCh n).homing = false) :
    s.motStop n = s.motMod n fun c => { c with stopReq := true } := by
  simp [State.motStop, opened, moving]

theorem State.motStop_homing (opened : s.motOpen n = true) (homing : (s.motCh n).homing = true) :
    Sets ((s.motMod n fun c => { c with outAt := some (s.drvNow, 2), outSeen := false }).motMod n fun c => { c with next := some 6 })
      (s.motStop n) [(F.MOT_CH_STAT_OUTCOME, n, 0, 2), (F.MOT_CH_STAT_ARMED, n, 0, 0)] := by
  unfold State.motStop
  rw [if_neg (by simp [opened]), if_pos homing, State.motOutcome_of_open opened]
  exact Sets.of_wrs rfl

theorem State.motAbort_sets (opened : s.motOpen n = true) :
    SetsThen (s.motMod n fun c => { c with outAt := some (s.drvNow, 1), outSeen := false }) (s.motAbort n)
      [(F.MOT_CH_STAT_OUTCOME, n, 0, 2), (F.MOT_CH_STAT_ARMED, n, 0, 0)] fun v =>
        (v.raise 0x604 n [n, s.rd F.MOT_CH_STAT_STATE n]).motMod n fun c => { c with next := some 6 } := by
  unfold State.motAbort
  rw [if_pos opened]
  dsimp only
  rw [State.motOutcome_of_open opened]
  exact ⟨_, Sets.of_wrs rfl, rfl⟩

theorem State.motAbort_late (closed : s.motOpen n = false) (past : s.motMoving n = true ∨ s.rd F.MOT_CH_STAT_OUTCOME n ≠ 0) :
    s.motAbort n = s.wrB F.MOT_CH_STAT_ABORT_LATE true n := by
  unfold State.motAbort
  rw [if_neg (by simp [closed]), if_pos (by simpa using past)]

theorem State.motEnterIdle_sets :
    Sets { s with mot := (s.motEnterIdle n).mot } (s.motEnterIdle n) [(F.MOT_CH_STAT_STATE, n, 0, 1),
      (F.MOT_CH_ENERGY, n, 0, unsigned 32 (divFreeZ (s.motCh n).energy (2 ^ 64)))] := by
  have width : unsigned 32 (divFreeZ (s.motCh n).energy (2 ^ 64)) < 2 ^ F.MOT_CH_ENERGY.width := unsigned_lt 32 _
  exact Sets.of_wrs rfl (by simpa [Fits] using ⟨by decide, width⟩)

/-- Settles O34: each command is what it does to its channel, of which no more than one event is raised but where the brake
answers. -/
theorem motorCommands : Obligations.MotorCommands := by
  unfold Obligations.MotorCommands
  intro s n home hs
  refine ⟨fun off fine => ?_, fun off refused => ?_, ?_, fun reg idle free homed => ?_, fun reg idle free move lost => ?_,
    fun reg opened moving => ?_, fun reg opened homing => ?_, fun takes opened => ?_, fun takes closed past => ?_,
    fun takes fault still untested => ?_, fun takes fault held => ?_⟩
  · refine ⟨_, (State.reach_eq _ hs : execMotEnable n s = _), ?_⟩
    exact (State.motEnable_sets off fine).sorted (congrArg (·.queue.length) (State.motLines_evr (n := n)))
  · refine ⟨_, (State.reach_eq _ hs : execMotEnable n s = _), ?_⟩
    exact (State.motEnable_sets_of_refused off refused).sorted rfl
  · refine ⟨_, (State.reach_eq _ hs : execMotDisable n s = _), ?_⟩
    exact ⟨_, State.motDisable_sets, rfl⟩
  · have ran : exec (if home then .homeMot n else .moveMot n) s = s.reach [.mot] fun s => s.inCycle fun s => s.motStartCmd n home := by
      cases home <;> rfl
    refine ⟨_, ran.trans (State.reach_eq _ hs), ?_⟩
    rw [State.inCycle, State.motStartCmd, if_pos reg]
    exact (State.motStart_sets idle free homed).sorted rfl
  · subst move
    refine ⟨_, (State.reach_eq _ hs : execMoveMot n s = _), ?_⟩
    rw [State.inCycle, State.motStartCmd, if_pos reg]
    exact (State.motStart_refused idle free lost).sorted (by decide) rfl
  · refine ⟨_, (State.reach_eq _ hs : execMotStop n s = _), ?_⟩
    rw [State.inCycle, State.motStopCmd, if_pos reg, State.motStop_waits opened moving]
    exact State.sortEvents_of_same rfl
  · refine ⟨_, (State.reach_eq _ hs : execMotStop n s = _), ?_⟩
    rw [State.inCycle, State.motStopCmd, if_pos reg]
    exact (State.motStop_homing opened homing).sorted rfl
  · refine ⟨_, (State.reach_eq _ hs : execMotAbort n s = _), ?_⟩
    rw [State.inCycle, State.motAbortCmd, if_pos takes]
    obtain ⟨v, sets, eq⟩ := State.motAbort_sets opened
    refine ⟨v, sets, ?_⟩
    have evr : v.evr = s.evr := by rw [sets.rest]; rfl
    rw [eq]
    exact congrArg (fun u : State => u.motMod n fun c => { c with next := some 6 })
      (State.sortEvents_raise n _ (by decide) (by rw [evr]))
  · refine ⟨_, (State.reach_eq _ hs : execMotAbort n s = _), ?_⟩
    rw [State.inCycle, State.motAbortCmd, if_pos takes, State.motAbort_late closed past]
    exact (Sets.of_wrs rfl : Sets s (s.wrB F.MOT_CH_STAT_ABORT_LATE true n) _).sorted rfl
  · refine ⟨_, (State.reach_eq _ hs : execMotClear n s = _), ?_⟩
    have clears : s.motClear n = s.motEnterIdle n := by simp [State.motClear, fault, still, untested]
    rw [State.inCycle, State.motClearCmd, if_pos takes, clears]
    exact State.motEnterIdle_sets.sorted rfl
  · refine ⟨_, (State.reach_eq _ hs : execMotClear n s = _), ?_⟩
    have ignored : s.motClear n = s := by
      rcases held with moving | tested
      · simp [State.motClear, moving]
      · simp [State.motClear, tested]
    rw [State.inCycle, State.motClearCmd, if_pos takes, ignored]
    exact State.sortEvents_of_same rfl

end Sys2Proof.Machine
end

section
/-! O35 fails: the gate fault of a motor channel may retire another gate in the same cycle, and the statement has that begin from
what the channels keep at its end, where the other channel's pending start is gone. -/

namespace Sys2Proof.Machine

set_option Elab.async false

/-- Channel 0 is idle, channel 1 too with a start that waits for a period start, the gate of channel 0 is under test, and the
retirement of channel 1's is due. -/
def retiringMot : State :=
  { liveWith [(F.TWIN_STAT_DRIVING, 0, 0, 1), (F.MOT_CH_STAT_STATE, 0, 0, 1), (F.MOT_CH_STAT_STATE, 1, 0, 1)] with
    mot := [(1, { next := some 4 })]
    health := { State.reset.health with running := [(3, 64)], due := [(3, 65, 0)] } }

/-- MOT_CHANNEL_FAULT is one cycle's work (R301, R429). -/
theorem exec_motChannelFault {s : State} (n : Fin 12) (reason : BitVec 4) (h : s.serves [.mot]) :
    exec (.motChannelFault n reason) s = .next (s.inCycle fun s => s.motDetect n reason.toNat) :=
  (State.act_eq _ h : execMotChannelFault n reason s = _)

/-- The move that was to start ends ABORTED, and nothing waits any more. -/
theorem retiringMot_ends :
    (retiringMot.inCycle fun s => s.motDetect 0 2).rd F.MOT_CH_STAT_OUTCOME 1 = 2 ∧
      ((retiringMot.inCycle fun s => s.motDetect 0 2).motCh 1).next = none := by decide

/-- An error of the gate whose test runs only carries out the retirement that is due. -/
theorem State.unitError_of_pending_mot {w : State} (health : w.health = retiringMot.health) :
    w.unitError 3 64 = { w with health := { w.health with due := [] } }.retire 3 65 0 := by
  have pending : w.testPending 3 64 = true := by
    unfold State.testPending
    rw [health]
    rfl
  have started : w.startTest 3 64 = w := by
    unfold State.startTest
    rw [pending]
    split <;> rfl
  have begun : w.testBegins 3 64 = w := by
    unfold State.testBegins
    rw [health]
    rfl
  unfold State.unitError
  rw [started, begun, State.retireDue, show w.health.due = [(3, 65, 0)] by rw [health]; rfl]
  rfl

/-- The gate of channel 1 is retired: its map bit, its event, and the channel disabled with a reason (R457). -/
theorem State.retire_mot_eq {x : State} (serves : x.rd F.HEALTH_RET_MOT = 0) :
    x.retire 3 65 0 =
      (((x.setMap F.HEALTH_RET_MOT 1).event 0xC08 [3, 65, 0]).motDisable 1).wr F.MOT_CH_STAT_REASON 4 1 := by
  have unretired : x.isRetired 3 65 = false := by
    change x.mapBit F.HEALTH_RET_MOT 1 = false
    unfold State.mapBit
    rw [serves]
    rfl
  unfold State.retire
  rw [unretired]
  rfl

/-- An idle channel without a start that waits keeps its outcome when it is disabled. -/
theorem State.motDisable_outcome {y : State} {n : Nat} (idle : y.rd F.MOT_CH_STAT_STATE n = 1) (free : (y.motCh n).next = none) :
    (y.motDisable n).rd F.MOT_CH_STAT_OUTCOME n = y.rd F.MOT_CH_STAT_OUTCOME n := by
  have resting : y.motMoving n = false := by simp [State.motMoving, idle, free]
  unfold State.motDisable
  rw [if_neg (by simp [State.motOpen, resting])]
  dsimp only
  rw [resting, if_neg Bool.false_ne_true]
  simp (disch := decide) only [State.rd_motMod, State.wrB, State.rd_wr_apart]

/-- Retiring the gate of such a channel keeps its outcome. -/
theorem State.retire_mot_outcome {x : State} (serves : x.rd F.HEALTH_RET_MOT = 0) (idle : x.rd F.MOT_CH_STAT_STATE 1 = 1)
    (free : (x.motCh 1).next = none) : (x.retire 3 65 0).rd F.MOT_CH_STAT_OUTCOME 1 = x.rd F.MOT_CH_STAT_OUTCOME 1 := by
  have kept {f : Fld} (map : F.HEALTH_RET_MOT.apart f = true) (lost : f.apart F.EVR_QLOST = true) :
      ((x.setMap F.HEALTH_RET_MOT 1).event 0xC08 [3, 65, 0]).rd f 1 = x.rd f 1 := by
    rw [State.event_eq_raise, State.raise_rd_apart _ 1 0 lost, State.setMap, State.rd_wr_apart _ _ 0 0 1 0 map]
  have free' : (((x.setMap F.HEALTH_RET_MOT 1).event 0xC08 [3, 65, 0]).motCh 1).next = none := by
    unfold State.motCh
    rw [State.event_eq_raise, State.raise_mot]
    exact free
  rw [State.retire_mot_eq serves, State.rd_wr_apart _ _ 1 0 1 0 (by decide),
    State.motDisable_outcome ((kept (by decide) (by decide)).trans idle) free', kept (by decide) (by decide)]

/-- The statement's effect, from a state that differs from `retiringMot` after its event in the fault's rows and in what the
channels keep, has no outcome for channel 1. -/
theorem retiringMot_stated {v : State} {words : List Nat} {mot : Sparse MotCh}
    (sets : Sets { retiringMot.raise 0x601 0 words with mot := mot } v
      [(F.MOT_CH_STAT_ARMED, 0, 0, 0), (F.MOT_CH_STAT_STATE, 0, 0, 9), (F.MOT_CH_STAT_FLT_REASON, 0, 0, 2)])
    (free : (Sparse.get mot {} 1).next = none) : ((v.motBrake 0 false).unitError 3 64).rd F.MOT_CH_STAT_OUTCOME 1 = 0 := by
  have health : v.health = retiringMot.health := by
    rw [sets.rest]
    exact State.raise_health retiringMot 0x601 0 words none
  have free' : (v.motCh 1).next = none := by
    rw [sets.rest]
    exact free
  have same {f : Fld} {i : Nat} (lost : f.apart F.EVR_QLOST = true) (others : ∀ r ∈ ([(F.MOT_CH_STAT_ARMED, 0, 0, 0),
      (F.MOT_CH_STAT_STATE, 0, 0, 9), (F.MOT_CH_STAT_FLT_REASON, 0, 0, 2)] : List Row), f.key i 0 ≠ r.1.key r.2.1 r.2.2.1) :
      v.rd f i = retiringMot.rd f i :=
    (sets.others f i 0 others).trans (State.raise_rd_apart (code := 0x601) (index := 0) (words := words) (pier := none) retiringMot i 0 lost)
  have unbraked : v.motBrake 0 false = v := by
    have off : v.bit F.MOT_CH_BRAKE_BRK_EN 0 = false :=
      congrArg (· != 0) (same (f := F.MOT_CH_BRAKE_BRK_EN) (i := 0) (by decide) (by decide))
    unfold State.motBrake
    rw [off, if_neg Bool.false_ne_true]
  have map : v.rd F.HEALTH_RET_MOT = 0 := same (f := F.HEALTH_RET_MOT) (i := 0) (by decide) (by decide)
  have idle : v.rd F.MOT_CH_STAT_STATE 1 = 1 := same (f := F.MOT_CH_STAT_STATE) (i := 1) (by decide) (by decide)
  rw [unbraked, State.unitError_of_pending_mot health]
  refine (State.retire_mot_outcome (x := { v with health := { v.health with due := [] } }) map idle free').trans ?_
  exact same (f := F.MOT_CH_STAT_OUTCOME) (i := 1) (by decide) (by decide)

/-- Refutes O35: the gate fault of channel 0 of `retiringMot` ends the start of channel 1 ABORTED; the statement's own effect, from
what the channels keep then, finds no start there. -/
theorem not_motorEvents : ¬ Obligations.MotorEvents := by
  unfold Obligations.MotorEvents
  intro h
  have serves : retiringMot.serves [.mot] := by decide
  obtain ⟨-, -, -, -, -, -, -, -, -, -, -, -, -, fault⟩ := h retiringMot 0 serves
  obtain ⟨t, run, v, sets, eq⟩ := fault (by decide) (by decide) (by decide)
  obtain rfl : (retiringMot.inCycle fun s => s.motDetect 0 2) = t := by
    rw [exec_motChannelFault 0 2 serves] at run
    exact Host.Outcome.next.inj run
  obtain ⟨aborted, free⟩ := retiringMot_ends
  rw [if_neg (by decide)] at sets
  have stated := retiringMot_stated sets free
  rw [eq] at aborted
  exact absurd (stated.symm.trans aborted) (by decide)

end Sys2Proof.Machine
end

section
/-! What a result that reaches its points changes (R73, R78, R391): the next plane, what the mirror and the ring are told, the
recorder, and the counters of refusals and losses. -/

namespace Sys2Proof.Machine

set_option Elab.async false

/-- The counters and notes that entering a record in the next plane may write. -/
def sideFlds : List Fld :=
  [F.EVR_QLOST, F.TRESTLE_QDROP, F.TRESTLE_LATE_SENT, F.SPAN_HELD_WRITES, F.DECK_OWN_REFUSED, F.DECK_OWN_LAST_WRITER,
    F.DECK_OWN_LAST_POINT]

/-- `t` is `s` but for what entering records in the next plane changes. -/
structure Beside (s t : State) : Prop where
  rest : ∃ next heldWrites lateResults outbox outboxNext bytes restored tre evr poisoned upsets freeCtr, t = { s with
    rf := t.rf, evr := evr, tre := tre, freeCtr := freeCtr
    pts := { s.pts with next := next, heldWrites := heldWrites, lateResults := lateResults }
    twin := { s.twin with outbox := outbox, outboxNext := outboxNext, bytes := bytes, restored := restored }
    health := { s.health with poisoned := poisoned, upsets := upsets } }
  rd : ∀ f i j, (∀ g ∈ sideFlds, ∀ i' j', g.key i' j' ≠ f.key i j) → t.rd f i j = s.rd f i j

namespace Beside

variable {s t u : State}

theorem refl (s : State) : Beside s s := ⟨⟨_, _, _, _, _, _, _, _, _, _, _, _, rfl⟩, fun _ _ _ _ => rfl⟩

theorem trans (h : Beside s t) (h' : Beside t u) : Beside s u := by
  refine ⟨?_, fun f i j hf => (h'.rd f i j hf).trans (h.rd f i j hf)⟩
  obtain ⟨n, w, l, o, x, y, r, t', e, p, up, fr, ht⟩ := h.rest
  obtain ⟨n', w', l', o', x', y', r', t'', e', p', up', fr', hu⟩ := h'.rest
  exact ⟨n', w', l', o', x', y', r', t'', e', p', up', fr', by rw [hu, ht]⟩

theorem of_eventOnly (h : EventOnly s t) : Beside s t := by
  refine ⟨?_, fun f i j hf => h.rd f i j (hf _ (by simp [sideFlds]) 0 0).symm⟩
  obtain ⟨e, o, ht⟩ := h.rest
  exact ⟨_, _, _, _, _, _, _, _, _, _, _, _, ht⟩

theorem event (h : Beside s t) (code : Nat) (words : List Nat) : Beside s (t.event code words) :=
  h.trans (of_eventOnly (EventOnly.event t code words))

theorem wr (h : Beside s t) {f : Fld} (hf : f ∈ sideFlds) (v i j : Nat) : Beside s (t.wr f v i j) :=
  h.trans ⟨⟨_, _, _, _, _, _, _, _, _, _, _, _, rfl⟩, fun _ _ _ hg => t.rd_wr_ne _ _ _ _ _ _ _ (hg f hf i j)⟩

theorem tre (h : Beside s t) (x : TreSt) : Beside s { t with tre := x } :=
  h.trans ⟨⟨_, _, _, _, _, _, _, _, _, _, _, _, rfl⟩, fun _ _ _ _ => rfl⟩

theorem mirror (h : Beside s t) (m : MirrorItem) : Beside s (t.mirror m) := by
  refine h.trans ?_
  unfold State.mirror
  split
  · split <;> exact ⟨⟨_, _, _, _, _, _, _, _, _, _, _, _, rfl⟩, fun _ _ _ _ => rfl⟩
  · exact refl _

theorem each {α : Type} (h : Beside s t) {l : List α} {f : State → α → State} (hf : ∀ t a, Beside s t → Beside s (f t a)) :
    Beside s (t.each l f) := by
  unfold State.each
  induction l generalizing t with
  | nil => exact h
  | cons a l ih => exact ih (hf t a h)

theorem ite {c : Prop} {_ : Decidable c} {v : State} (h : Beside s u) (hv : Beside s v) : Beside s (if c then u else v) := by
  split
  · exact h
  · exact hv

theorem treSend (h : Beside s t) (p : Nat) (x : Nat → TreOut) : Beside s (t.treSend p x) := (h.tre _).ite h

theorem sendFrames (h : Beside s t) (ps : List PubUpdate) : Beside s (t.sendFrames ps) := by
  refine h.each fun t g h => ?_
  split
  · exact h
  · exact (h.treSend 0 _).treSend 1 _

theorem launch (h : Beside s t) (f : Nat) (u : Update) : Beside s (t.launch f u) := by
  unfold State.launch
  extract_lets n c s₁ late p ring s₂ s₃
  have counted : Beside s s₂ := (h.tre _).tre _
  have sent : Beside s s₃ := counted.wr (by simp [sideFlds]) _ _ _
  exact (h.wr (by simp [sideFlds]) _ _ _).ite (counted.ite (sent.ite ((sent.tre _).event _ _)))

theorem publishAs (h : Beside s t) (o p : Nat) (r : PtRec) : Beside s (t.publishAs o p r) := by
  unfold State.publishAs
  extract_lets d u v ring s₁
  have dropped : Beside s s₁ := h.wr (by simp [sideFlds]) _ _ _
  exact h.ite (((h.launch o u).sendFrames _).ite ((h.tre _).ite (dropped.ite ((dropped.tre _).event _ _))))

theorem announce (h : Beside s t) (o p : Nat) (r : PtRec) : Beside s (t.announce o p r) := by
  unfold State.announce
  extract_lets s₁
  have mirrored : Beside s s₁ := (h.mirror _).ite h
  exact mirrored.publishAs _ _ _

theorem enterNext (h : Beside s t) (p : Nat) (r : PtRec) : Beside s (t.enterNext p r) :=
  h.trans ⟨⟨_, _, _, _, _, _, _, _, _, _, _, _, rfl⟩, fun _ _ _ _ => rfl⟩

theorem ownRefused (h : Beside s t) (p w : Nat) : Beside s (t.ownRefused p w) :=
  (((h.wr (by simp [sideFlds]) _ _ _).wr (by simp [sideFlds]) _ _ _).wr (by simp [sideFlds]) _ _ _).event _ _

theorem enterResult (h : Beside s t) (p : Nat) (r : PtRec) : Beside s (t.enterResult p r) := by
  unfold State.enterResult
  refine Beside.ite (Beside.announce (h.trans ?_) _ _ _) ((h.enterNext p r).announce _ _ _)
  exact ⟨⟨_, _, _, _, _, _, _, _, _, _, _, _, rfl⟩, fun _ _ _ _ => rfl⟩

theorem acceptWrite (h : Beside s t) (p : Nat) (r : PtRec) : Beside s (t.acceptWrite p r) := by
  have held (r : PtRec) : Beside s { t with pts := { t.pts with heldWrites := t.pts.heldWrites ++ [HeldWrite.mk p r] } } :=
    h.trans ⟨⟨_, _, _, _, _, _, _, _, _, _, _, _, rfl⟩, fun _ _ _ _ => rfl⟩
  exact (((held _).wr (by simp [sideFlds]) _ _ _).announce _ _ _).ite
    (((held r).announce _ _ _).ite ((h.enterNext p r).announce _ _ _))

theorem hwWrite (h : Beside s t) (p cls id : Nat) (v : Word) (fault cal : Bool) (stamp : Nat × Nat) :
    Beside s (t.hwWrite p cls id v fault cal stamp) :=
  h.ite ((h.ownRefused p cls).ite (h.enterResult p _))

theorem feed (h : Beside s t) (cls id : Nat) (raw : Int) (fault : Bool) (stamp : Nat × Nat) :
    Beside s (t.feed cls id raw fault stamp) := h.each fun _ _ h => h.hwWrite _ _ _ _ _ _ _

theorem feedSubst (h : Beside s t) (cls id : Nat) (raw : Int) (stamp : Nat × Nat) :
    Beside s (t.feedSubst cls id raw stamp) := h.ite (h.each fun _ _ h => h.enterResult _ _)

theorem free (h : Beside s t) (k : Nat) : Beside s (t.free k).2 :=
  h.trans ⟨⟨_, _, _, _, _, _, _, _, _, _, _, _, rfl⟩, fun _ _ _ _ => rfl⟩

theorem sortEvents (h : Beside s t) (n : Nat) : Beside s (t.sortEvents n) :=
  h.trans (of_eventOnly (EventOnly.sortEvents t n))

section

variable (h : Beside s t)
include h

theorem meter : t.meter = s.meter := by obtain ⟨_, _, _, _, _, _, _, _, _, _, _, _, ht⟩ := h.rest; rw [ht]
theorem span : t.span = s.span := by obtain ⟨_, _, _, _, _, _, _, _, _, _, _, _, ht⟩ := h.rest; rw [ht]
theorem keep : t.keep = s.keep := by obtain ⟨_, _, _, _, _, _, _, _, _, _, _, _, ht⟩ := h.rest; rw [ht]
theorem conv : t.conv = s.conv := by obtain ⟨_, _, _, _, _, _, _, _, _, _, _, _, ht⟩ := h.rest; rw [ht]
theorem sens : t.sens = s.sens := by obtain ⟨_, _, _, _, _, _, _, _, _, _, _, _, ht⟩ := h.rest; rw [ht]
theorem dbg : t.dbg = s.dbg := by obtain ⟨_, _, _, _, _, _, _, _, _, _, _, _, ht⟩ := h.rest; rw [ht]
theorem power : t.power = s.power := by obtain ⟨_, _, _, _, _, _, _, _, _, _, _, _, ht⟩ := h.rest; rw [ht]

/-- A field that has no bit in common with those counters and notes reads as before. -/
theorem rd_apart {f : Fld} (apart : (sideFlds.all fun g => g.apart f) = true) (i j : Nat) : t.rd f i j = s.rd f i j :=
  h.rd f i j fun g hg i' j' => Fld.key_ne_of_apart (List.all_eq_true.mp apart g hg) _ _ _ _

theorem bit_apart {f : Fld} (apart : (sideFlds.all fun g => g.apart f) = true) (i j : Nat) : t.bit f i j = s.bit f i j := by
  unfold State.bit; rw [h.rd_apart apart]

end

end Beside

end Sys2Proof.Machine
end

section
/-! A metering sample and the latch (R341 to R346): what the work of a sample and the end of a half cycle leave of the latch's
own state, and of the half cycle that runs. -/

namespace Sys2Proof.Machine

set_option Elab.async false

/-- The latch that a command asked for, the samples counted for the next latch, and which half of a cycle runs. -/
def State.latchView (s : State) : Bool × Nat × Bool := (s.meter.latchNow, s.meter.latSamples, s.meter.evenHalf)

/-- `t` has the latch and the half cycle of `s`. -/
structure LatchKept (s t : State) : Prop where
  view : t.latchView = s.latchView

variable {s u v : State}

theorem LatchKept.refl : LatchKept s s := ⟨rfl⟩

theorem LatchKept.same {t : State} (h : LatchKept s u) (e : t.latchView = u.latchView := by rfl) : LatchKept s t :=
  ⟨e.trans h.view⟩

theorem LatchKept.of_meter {t : State} (h : LatchKept s u) (e : t.meter = u.meter) : LatchKept s t :=
  h.same (by unfold State.latchView; rw [e])

theorem LatchKept.beside {t : State} (h : LatchKept s u) (e : Beside u t) : LatchKept s t := h.of_meter e.meter

theorem LatchKept.ite {c : Prop} {_ : Decidable c} (h : LatchKept s u) (hv : LatchKept s v) :
    LatchKept s (if c then u else v) := by
  split
  · exact h
  · exact hv

theorem LatchKept.also {c : Prop} {_ : Decidable c} (h : LatchKept s u) (hv : LatchKept s u → LatchKept s v) :
    LatchKept s (if c then v else u) := (hv h).ite h

theorem LatchKept.unless {c : Prop} {_ : Decidable c} (h : LatchKept s u) (hv : LatchKept s u → LatchKept s v) :
    LatchKept s (if c then u else v) := h.ite (hv h)

theorem LatchKept.both {c : Prop} {_ : Decidable c} {v w : State} (h : LatchKept s u) (hv : LatchKept s u → LatchKept s v)
    (hw : LatchKept s u → LatchKept s w) : LatchKept s (if c then v else w) := (hv h).ite (hw h)

theorem LatchKept.each {α : Type} {l : List α} {f : State → α → State} (h : LatchKept s u)
    (hf : ∀ t x, LatchKept s t → LatchKept s (f t x)) : LatchKept s (u.each l f) := by
  unfold State.each
  induction l generalizing u with
  | nil => exact h
  | cons x l ih => exact ih (hf u x h)

theorem LatchKept.foldlSnd {α β : Type} {l : List α} {f : β × State → α → β × State} {z : β × State} (h : LatchKept s z.2)
    (hf : ∀ b t x, LatchKept s t → LatchKept s (f (b, t) x).2) : LatchKept s (l.foldl f z).2 := by
  induction l generalizing z with
  | nil => exact h
  | cons x l ih => exact ih (hf z.1 z.2 x h)

theorem LatchKept.wr {f v i j} (h : LatchKept s u) : LatchKept s (u.wr f v i j) := h.same

theorem LatchKept.wrB {f b i j} (h : LatchKept s u) : LatchKept s (u.wrB f b i j) := h.same

theorem LatchKept.setMap {f k} (h : LatchKept s u) : LatchKept s (u.setMap f k) := h.same

theorem LatchKept.clrMap {f k} (h : LatchKept s u) : LatchKept s (u.clrMap f k) := h.wr.ite h

theorem LatchKept.raise {code index words pier} (h : LatchKept s u) : LatchKept s (u.raise code index words pier) :=
  h.of_meter (u.raise_meter code index words pier)

theorem LatchKept.event {code words} (h : LatchKept s u) : LatchKept s (u.event code words) := h.raise

theorem LatchKept.free (h : LatchKept s u) (k : Nat) : LatchKept s (u.free k).2 := h.same

theorem LatchKept.feed {cls id raw fault stamp} (h : LatchKept s u) : LatchKept s (u.feed cls id raw fault stamp) :=
  h.beside ((Beside.refl u).feed cls id raw fault stamp)

theorem LatchKept.feedSubst {cls id raw stamp} (h : LatchKept s u) : LatchKept s (u.feedSubst cls id raw stamp) :=
  h.beside ((Beside.refl u).feedSubst cls id raw stamp)

/-! ### The work of a sample and of a half cycle -/

theorem LatchKept.epulseKick {k} (h : LatchKept s u) : LatchKept s (u.epulseKick k) :=
  h.same.ite h

theorem LatchKept.epulseCount {q n} (h : LatchKept s u) : LatchKept s (u.epulseCount q n) :=
  h.ite (h.each fun _ _ h => h.ite (h.same.also fun h => h.same.raise).epulseKick)

theorem LatchKept.addTo {q n f} (h : LatchKept s u) : LatchKept s (u.addTo q n f) :=
  h.same.epulseCount

theorem LatchKept.addEnergy {qs num den} (h : LatchKept s u) : LatchKept s (u.addEnergy qs num den) :=
  h.same.each fun _ _ h => h.addTo

theorem LatchKept.integrate {c c1} (h : LatchKept s u) : LatchKept s (u.integrate c c1).2 :=
  h.same

theorem LatchKept.lineValue {c hist} (h : LatchKept s u) : LatchKept s (u.lineValue c hist).2 := by
  unfold State.lineValue
  dsimp only
  split
  · split
    · exact h.integrate
    · exact h
  · exact LatchKept.free (by
      split
      · exact h.integrate
      · exact h) 11

theorem LatchKept.lineValues {codes} (h : LatchKept s u) : LatchKept s (u.lineValues codes).2 :=
  LatchKept.foldlSnd (z := ([], u)) h fun _ _ _ h => h.lineValue

theorem LatchKept.noload {x k sum w} (h : LatchKept s u) : LatchKept s (u.noload x k sum w).2 := by
  unfold State.noload
  dsimp only
  split
  · dsimp only
    exact h.same.also fun h => h.setMap
  · dsimp only
    exact h.same.clrMap

theorem LatchKept.route {qp qm z w} (h : LatchKept s u) : LatchKept s (u.route qp qm z w) :=
  h.ite h.addEnergy

theorem LatchKept.accumulatePhase {w x} (h : LatchKept s u) : LatchKept s (u.accumulatePhase w x).2 :=
  ((h.noload.noload.noload.also fun h => h.route).also fun h => h.route).also fun h => h.route

theorem LatchKept.accumulateAll (h : LatchKept s u) : LatchKept s u.accumulateAll := by
  unfold State.accumulateAll
  have phases (l : List Nat) (w : Nat) :
      LatchKept s (l.foldl (fun ((p, q, a), s) x =>
        let ((p', q', a'), s) := s.accumulatePhase w x
        ((p + p', q + q', a + a'), s)) (((0, 0, 0) : Int × Int × Nat), u)).2 :=
    LatchKept.foldlSnd (z := ((0, 0, 0), u)) h fun _ _ _ h => h.accumulatePhase
  exact (phases _ _).ite (phases _ _).route.route.route

theorem LatchKept.noteClips {codes} (h : LatchKept s u) : LatchKept s (u.noteClips codes) :=
  h.each fun _ _ h => h.ite (h.setMap.same.also fun h => h.raise)

theorem LatchKept.udin (h : LatchKept s u) : LatchKept s (u.udin).2 := by
  unfold State.udin
  split
  · exact h
  · exact h.free 12

theorem LatchKept.voltEvents (h : LatchKept s u) : LatchKept s u.voltEvents := by
  unfold State.voltEvents
  dsimp only
  split
  · exact h
  · split
    · exact LatchKept.event (by
        split
        · exact LatchKept.event (by
            split
            · exact h.udin.same.event
            · exact h.udin.same)
        · split
          · exact h.udin.same.event
          · exact h.udin.same)
    · split
      · exact LatchKept.event (by
          split
          · exact h.udin.same.event
          · exact h.udin.same)
      · split
        · exact h.udin.same.event
        · exact h.udin.same

/-- One more cycle of line `x` is judged (R330). -/
def State.judgeLine (s : State) (u : Int) (x : Nat) : State :=
  let n := if (s.lineCycle u x).1 then min 8 (Sparse.get s.meter.goodCycles 0 x + 1) else 0
  { s with meter := { s.meter with goodCycles := Sparse.set s.meter.goodCycles 0 x n } }

/-- Line tracking once the lines are judged (R330). -/
def State.trackJudged (s : State) (u : Int) : State :=
  let fref := s.rd F.METER_CTL_FREF
  if s.bit F.METER_STAT_TRACKING then
    let x := s.rd F.METER_STAT_FREF_USED
    let (ok, per) := s.lineCycle u x
    let last := s.meter.period
    let s := { s with meter := { s.meter with period := per } }
    if ok then { s with meter := { s.meter with badHalves := 0 } }
    else if s.meter.badHalves + 1 < 2 then
      { s with meter := { s.meter with badHalves := s.meter.badHalves + 1 } }
    else
      ({ s with meter := { s.meter with badHalves := 0 } }.wrB F.METER_STAT_TRACKING false).event 0x803 [x, mHz last]
  else
    let ls := if fref = 3 then s.phases else [fref]
    match ls.find? fun x => 8 ≤ Sparse.get s.meter.goodCycles 0 x with
    | none => s
    | some x =>
      let per := (s.lineCycle u x).2
      let s := (s.wrB F.METER_STAT_TRACKING true).wr F.METER_STAT_FREF_USED x
      { s with meter := { s.meter with badHalves := 0, period := per } }.event 0x804 [x, mHz per]

theorem State.trackLine_eq (s : State) : s.trackLine =
    (if s.udin.2.meter.evenHalf then s.udin.2.each [0, 1, 2] fun s' x => s'.judgeLine s.udin.1 x else s.udin.2).trackJudged
      s.udin.1 := rfl

theorem LatchKept.trackJudged {x} (h : LatchKept s u) : LatchKept s (u.trackJudged x) := by
  unfold State.trackJudged
  dsimp only
  split
  · split
    · exact ⟨h.view⟩
    · split
      · exact ⟨h.view⟩
      · exact LatchKept.event ⟨h.view⟩
  · split
    · exact h
    · exact LatchKept.event ⟨h.view⟩

theorem LatchKept.trackLine (h : LatchKept s u) : LatchKept s u.trackLine := by
  rw [State.trackLine_eq]
  exact (h.udin.also fun h => h.each fun _ _ h => h.same).trackJudged

theorem LatchKept.putMeas {q v fault flagged} (h : LatchKept s u) : LatchKept s (u.putMeas q v fault flagged) :=
  h.same.unless fun h => h.feedSubst.ite h.feed

theorem LatchKept.windowEnd (h : LatchKept s u) : LatchKept s u.windowEnd :=
  h.same.unless fun h => ((((h.each fun _ _ h => h.putMeas).each fun _ _ h => h.putMeas).each fun _ _ h =>
      h.putMeas).each fun _ _ h => h.putMeas).each fun _ _ h => h.putMeas

theorem LatchKept.cycleEnd (h : LatchKept s u) : LatchKept s u.cycleEnd :=
  h.putMeas.same.unless fun h => h.windowEnd

theorem LatchKept.residueSnap {cause} (h : LatchKept s u) : LatchKept s (u.residueSnap cause) :=
  h.same

theorem LatchKept.raisePfw {cause} (h : LatchKept s u) : LatchKept s (u.raisePfw cause) := by
  have event : LatchKept s ((((u.wrB F.METER_PF_STAT_PFW true).wrB F.METER_STAT_PFW true).wrB F.METER_PF_STAT_BLK_DONE
      false).event 0x805 [cause, u.rd F.HEALTH_SUP 0]) := LatchKept.event h.same
  exact h.ite (event.same.also fun h => h.residueSnap)

/-- At the end of a half cycle the other half begins, with no sample counted, and the latch stands as it was (R335). -/
theorem State.halfCycle_latch (s : State) : s.halfCycle.meter.latchNow = s.meter.latchNow ∧
    s.halfCycle.meter.latSamples = s.meter.latSamples ∧ s.halfCycle.meter.evenHalf = !s.meter.evenHalf ∧
    s.halfCycle.meter.halfSamples = 0 := by
  unfold State.halfCycle
  extract_lets a b _m c d e
  have before : LatchKept s b := by
    have start : LatchKept s a := LatchKept.refl.voltEvents
    exact start.also fun h => h.raisePfw
  have after : LatchKept c e := by
    have start : LatchKept c d := LatchKept.refl.trackLine
    exact start.also fun h => h.cycleEnd
  have hb := before.view
  have he := after.view
  simp only [State.latchView, Prod.mk.injEq] at hb he
  obtain ⟨now, samples, half⟩ := hb
  obtain ⟨now', samples', half'⟩ := he
  exact ⟨now'.trans now, samples'.trans samples, half'.trans (congrArg (!·) half), rfl⟩

/-- The samples that time the line cycle leave the latch alone (R332). -/
theorem State.nominalCount_latch (s : State) : s.nominalCount.meter.latchNow = s.meter.latchNow ∧
    s.nominalCount.meter.latSamples = s.meter.latSamples := by
  have half (t : State) (h : t.meter.latchNow = s.meter.latchNow ∧ t.meter.latSamples = s.meter.latSamples) :
      t.halfCycle.meter.latchNow = s.meter.latchNow ∧ t.halfCycle.meter.latSamples = s.meter.latSamples := by
    obtain ⟨now, samples, -, -⟩ := t.halfCycle_latch
    exact ⟨now.trans h.1, samples.trans h.2⟩
  unfold State.nominalCount
  extract_lets _m n t
  split
  · exact ⟨rfl, rfl⟩
  · split
    · split
      · exact half t ⟨rfl, rfl⟩
      · exact ⟨rfl, rfl⟩
    · exact half { s with meter := { s.meter with cycleSamples := 0 } } ⟨rfl, rfl⟩

/-- The end of a sample's work: what the next latch counts of it, the line cycle that the samples time, and the latch (R345). -/
def State.finishSample (s : State) : State :=
  let s := { s with meter := { s.meter with
    sampleNo := s.meter.sampleNo + 1
    latSamples := s.meter.latSamples + 1
    latNoload := s.meter.latNoload ||| s.rd F.METER_STAT_NOLOAD
    latNotrack := s.meter.latNotrack || !s.bit F.METER_STAT_TRACKING } }
  let s := s.nominalCount
  if s.meter.latchNow || s.meter.latchDue.any (· ≤ s.sampleInput) then s.takeLatch else s

/-- The codes of a sample, with its clips noted, and what the channels make of them (R327, R328). -/
def State.sampleValues (s : State) (raw : List Int) : List Int × State :=
  let s := s.noteClips raw
  let codes := (((List.range 8).map fun c => endCode (raw.getD c 0)) :: s.meter.codes).take 64
  { s with meter := { s.meter with codes := codes } }.lineValues codes

/-- The line values of a sample join the sums that they are counted in (R335, R337). -/
def State.sumValues (s : State) (xs : List Int) : State :=
  let lines := (xs :: s.meter.lines).take 1024
  let pw := (List.range 3).map fun x => if s.phases.contains x then phasePower lines x else ⟨0, 0, 0, 0⟩
  let sq := (List.range 8).map fun c => s.meter.winSq.getD c 0 + (xs.getD c 0 * xs.getD c 0).toNat
  let wp := (List.range 3).map fun x => (s.meter.winPow.getD x ⟨0, 0, 0, 0⟩).add (pw.getD x ⟨0, 0, 0, 0⟩)
  { s with meter := { s.meter with
    lines := lines, powers := (pw :: s.meter.powers).take 1024, winSq := sq, winPow := wp
    winSamples := s.meter.winSamples + 1, halfSamples := s.meter.halfSamples + 1 } }

theorem State.meterSample_eq (s : State) (raw : List Int) :
    s.meterSample raw = ((s.sampleValues raw).2.sumValues (s.sampleValues raw).1).accumulateAll.finishSample := by
  unfold State.meterSample State.sampleValues State.sumValues State.finishSample
  with_reducible rfl

theorem LatchKept.sampleValues {raw} (h : LatchKept s u) : LatchKept s (u.sampleValues raw).2 :=
  LatchKept.lineValues ⟨h.noteClips.view⟩

theorem LatchKept.sumValues {xs} (h : LatchKept s u) : LatchKept s (u.sumValues xs) := ⟨h.view⟩

/-- A latch that a command asked for is taken with the sample, which it counts (R345). -/
theorem State.meterSample_latch {s : State} (raw : List Int) (now : s.meter.latchNow = true) :
    ∃ c, (s.meterSample raw).meter.capture = some c ∧ c.cmd = true ∧ c.samples = s.meter.latSamples + 1 ∧
      (s.meterSample raw).meter.latSamples = 0 ∧ (s.meterSample raw).meter.latchNow = false ∧
      (s.meterSample raw).meter.latchDue = none := by
  rw [State.meterSample_eq]
  have kept : LatchKept s ((s.sampleValues raw).2.sumValues (s.sampleValues raw).1).accumulateAll :=
    LatchKept.refl.sampleValues.sumValues.accumulateAll
  revert kept
  generalize ((s.sampleValues raw).2.sumValues (s.sampleValues raw).1).accumulateAll = w
  intro kept
  have view := kept.view
  simp only [State.latchView, Prod.mk.injEq] at view
  obtain ⟨now', samples', -⟩ := view
  unfold State.finishSample
  extract_lets _m t u
  obtain ⟨asked, samples⟩ := t.nominalCount_latch
  have asked : u.meter.latchNow = true := asked.trans (now'.trans now)
  rw [asked, Bool.true_or, if_pos rfl]
  exact ⟨_, rfl, asked, samples.trans (congrArg (· + 1) samples'), rfl, rfl, rfl⟩

end Sys2Proof.Machine
end

section
/-! Latching and the commands of metering (R341, R342, R345, R346, R353, R354). -/

namespace Sys2Proof.Machine

set_option Elab.async false

variable {s : State}

theorem State.inCycle_meter (s : State) (f : State → State) : (s.inCycle f).meter = (f s).meter := rfl

/-- Writing a latched quantity changes nothing of the metering block but its registers. -/
theorem State.latchQuantity_meter (s : State) (b : Nat) (c : LatchSet) (q : Nat) : (s.latchQuantity b c q).meter = s.meter := by
  unfold State.latchQuantity
  dsimp only
  split
  · exact ((Beside.refl _).feed _ _ _ _ _).meter
  · rfl

theorem State.each_meter {α : Type} {l : List α} {f : State → α → State} (h : ∀ s a, (f s a).meter = s.meter) (s : State) :
    (s.each l f).meter = s.meter := by
  unfold State.each
  induction l generalizing s with
  | nil => rfl
  | cons a l ih => exact (ih _).trans (h s a)

/-- A latch that completes takes the next sequence number, and its bank is the newest (R345, R346). -/
theorem State.latchComplete_bank {c : LatchSet} (captured : s.meter.capture = some c) :
    s.latchComplete.meter.capture = none ∧ s.latchComplete.rd F.METER_LAT_SEQ = (s.rd F.METER_LAT_SEQ + 1) % 2 ^ 32 ∧
      s.latchComplete.rd F.METER_LAT_STAT_NEWEST = s.latchBank ∧
      s.latchComplete.rd F.METER_BANK_SEQ s.latchBank = (s.rd F.METER_LAT_SEQ + 1) % 2 ^ 32 ∧
      s.latchComplete.rd F.METER_BANK_FRAME_LO s.latchBank = c.frame % 2 ^ 32 ∧
      s.latchComplete.rd F.METER_BANK_CYCLES s.latchBank = c.cycles % 2 ^ 32 ∧
      s.latchComplete.rd F.METER_BANK_SAMPLES s.latchBank = c.samples % 2 ^ 32 := by
  have low : s.latchBank < 2 ^ 1 := by
    unfold State.latchBank
    split <;> omega
  have unfolded : s.latchComplete.meter.capture = none := by
    unfold State.latchComplete
    rw [captured]
    have kept := State.each_meter (l := energyQuantities) (fun t q => t.latchQuantity_meter s.latchBank c q)
      { s with meter := { s.meter with capture := none } }
    dsimp only [State.wr, State.wrB]
    rw [kept]
  refine ⟨unfolded, ?_⟩
  unfold State.latchComplete
  rw [captured]
  dsimp only
  simp (disch := decide) only [State.wrB, State.rd_wr_apart, State.rd_wr_same]
  refine ⟨Nat.mod_mod _ _, Nat.mod_eq_of_lt low, Nat.mod_mod _ _, Nat.mod_mod _ _, rfl, rfl⟩

/-- Byte 2 of keystone RAM is the state that was set (R351, R354). -/
theorem State.residue_setResidueState (s : State) {b : Nat} (hb : b < 256) :
    (s.setResidueState b).residue.getD 2 0 = BitVec.ofNat 8 b := by
  have byte (w : Nat) : (w - w / 2 ^ 16 % 256 * 2 ^ 16 + b * 2 ^ 16) % 2 ^ 32 / 2 ^ 16 % 256 = b := by omega
  have read : (s.setResidueState b).residue.getD 2 0 =
      (toBytes ((s.setResidueState b).rd F.KEEP_RAM 0) 4).getD 2 0 := rfl
  rw [read, State.setResidueState, State.rd_wr_same]
  apply BitVec.eq_of_toNat_eq
  have third (w : Nat) : (toBytes w 4).getD 2 0 = BitVec.ofNat 8 (w / 256 / 256) := rfl
  rw [third, BitVec.toNat_ofNat, BitVec.toNat_ofNat, Nat.div_div_eq_div_mul]
  have := byte (s.rd F.KEEP_RAM 0)
  change _ % 2 ^ 32 / 2 ^ 16 % 256 = b % 256
  omega

/-- Starting the sums sets RUN, and starts the save marks (R353, R355). -/
theorem State.startRun_run (s : State) : s.startRun.rd F.METER_CTL_RUN = 1 ∧
    s.startRun.meter = { s.meter with saved := s.meter.acc.map (fun kv => (kv.1, kv.2.1)), nosave := true } := by
  unfold State.startRun
  extract_lets _u _m t scales gains
  have field (l : List Nat) (f : State → Nat → State) (h : ∀ u k, (f u k).rd F.METER_CTL_RUN = u.rd F.METER_CTL_RUN) (u : State) :
      (u.each l f).rd F.METER_CTL_RUN = u.rd F.METER_CTL_RUN := by
    unfold State.each
    induction l generalizing u with
    | nil => rfl
    | cons k l ih => exact (ih _).trans (h u k)
  refine ⟨(field _ _ (fun u k => ?_) t).trans (State.rd_wr_same s F.METER_CTL_RUN 1 0 0), State.each_meter (fun u k => ?_) t⟩
  · dsimp only
    have other : F.METER_PF_FSR.key k 0 ≠ F.METER_CTL_RUN.key 0 0 := by
      simp only [Fld.key, F.METER_PF_FSR, F.METER_CTL_RUN]
      omega
    split <;> exact u.rd_wr_ne _ _ _ _ _ _ _ other
  · dsimp only
    split <;> rfl

/-- Settles O36: each command by the equation of its effect, the sample and the latch by their lemmas. -/
theorem meterLatches : Obligations.MeterLatches := by
  unfold Obligations.MeterLatches
  intro s codes v reaches b seq q loaded locked sel saved
  have serves : s.serves [.meter] := reaches.1
  refine ⟨?_, fun now => ?_, fun c captured => ?_, fun held => ?_, fun held => ?_, fun held small => ?_, ?_,
    fun idle energy => ?_, fun run => ?_, fun idle => ?_, fun held same => ?_, fun free => ?_, fun block => ?_⟩
  · exact Completes.of_reach _ reaches rfl rfl
  · refine ⟨_, (State.act_eq _ serves : execMeterSampleReady codes s = _), ?_⟩
    dsimp only
    rw [State.inCycle_meter]
    exact State.meterSample_latch codes now
  · exact ⟨_, (State.act_eq _ serves : execLatchDone s = _), State.latchComplete_bank captured⟩
  · exact if_pos held
  · exact if_neg (by rw [held]; exact Bool.false_ne_true)
  · refine Completes.of_reach _ reaches rfl ?_
    unfold State.openBank
    rw [held, if_neg Bool.false_ne_true]
    exact Sets.of_wrs rfl (by simpa [Fits] using ⟨by decide, small⟩)
  · exact Completes.of_reach _ reaches rfl (Sets.of_wrs rfl)
  · refine Completes.of_reach _ reaches rfl ?_
    unfold State.loadQuantity
    dsimp only
    rw [idle, Bool.false_or, if_neg (by simp [show isEnergy (s.rd F.METER_LOAD_Q) = true from energy])]
  · refine Completes.of_reach _ reaches rfl ?_
    unfold State.loadQuantity
    dsimp only
    rw [run, Bool.true_or, if_pos rfl]
  · refine ⟨_, (State.reach_eq _ reaches : execMeterRun s = _), ?_⟩
    dsimp only
    rw [idle, if_neg Bool.false_ne_true]
    exact s.startRun_run
  · refine ⟨_, (State.reach_eq _ reaches : execSaveMark v s = _), ?_⟩
    unfold State.writeSaveMark
    dsimp only
    rw [held, show s.rd F.METER_BANK_SEQ (s.rd F.METER_LAT_STAT_LOCK_BANK) = v.toNat from same, Bool.true_and, beq_self_eq_true,
      if_pos rfl]
    have fits : Fits [(F.METER_SAVE_MARK, 0, 0, v.toNat)] = true := by
      simp only [Fits, List.all_cons, List.all_nil, Bool.and_true, decide_eq_true_eq]
      exact v.isLt
    refine Sets.of_wrs ?_ fits
    dsimp only [State.wrs, List.foldl, State.wr]
  · refine ⟨_, (State.reach_eq _ reaches : execSaveMark v s = _), ?_⟩
    unfold State.writeSaveMark
    dsimp only
    rw [free, Bool.false_and, if_neg Bool.false_ne_true]
    exact Sets.of_wrs rfl
  · refine Completes.of_reach _ reaches rfl ?_
    unfold State.consumeBlock
    rw [block, if_pos rfl]
    refine ⟨?_, s.residue_setResidueState (by decide)⟩
    refine Sets.of_writes [(F.KEEP_RAM, 0, 0, _)] rfl (by simp) (by simp)

end Sys2Proof.Machine
end

section
/-! What the mains and power failure do (R328 to R335, R343 to R352). -/

namespace Sys2Proof.Machine

set_option Elab.async false

variable {s : State}

/-! ### The residue block -/

theorem toBytes_leBytes (f : Nat → Byte) (a n : Nat) : toBytes (leBytes f a n) n = (List.range n).map fun k => f (a + k) := by
  induction n generalizing a with
  | zero => rfl
  | succ n ih =>
    have low : BitVec.ofNat 8 (leBytes f a (n + 1)) = f a := by
      apply BitVec.eq_of_toNat_eq
      rw [leBytes, BitVec.toNat_ofNat]
      have := (f a).isLt
      omega
    have high : leBytes f a (n + 1) / 256 = leBytes f (a + 1) n := by
      rw [leBytes]
      have := (f a).isLt
      omega
    rw [toBytes, low, high, ih, List.range_succ_eq_map, List.map_cons, List.map_map]
    congr 1
    exact List.map_congr_left fun k _ => by
      rw [Function.comp_apply, Nat.succ_eq_add_one]
      congr 1
      omega

/-- Registers of an array are written one by one, each where its index is in the list. -/
theorem State.rd_each_wr {f : Fld} (step : f.s1 ≠ 0) {g : Nat → Nat} (l : List Nat) (nodup : l.Nodup) (u : State) {w : Nat} (hw : w ∈ l) :
    (u.each l fun s w => s.wr f (g w) w).rd f w = g w % 2 ^ f.width := by
  have other {i k : Nat} (h : i ≠ k) : f.key k 0 ≠ f.key i 0 := by
    intro same
    have := Nat.eq_of_mul_eq_mul_right (Nat.pos_of_ne_zero step) (show k * f.s1 = i * f.s1 by
      simp only [Fld.key] at same
      omega)
    exact h this.symm
  have kept (l : List Nat) (out : w ∉ l) (u : State) : (u.each l fun s w => s.wr f (g w) w).rd f w = u.rd f w := by
    unfold State.each
    induction l generalizing u with
    | nil => rfl
    | cons k l ih =>
      obtain ⟨first, rest⟩ := not_or.mp fun h => out (List.mem_cons.mpr h)
      exact (ih rest _).trans (u.rd_wr_ne _ _ _ _ _ _ _ (other first))
  unfold State.each
  induction l generalizing u with
  | nil => cases hw
  | cons k l ih =>
    obtain ⟨fresh, nodup⟩ := List.nodup_cons.mp nodup
    rcases List.mem_cons.mp hw with rfl | hw
    · exact (kept l fresh _).trans (u.rd_wr_same _ _ _ _)
    · exact ih nodup _ hw

/-- Keystone RAM gives back the 48 bytes that were written (R351). -/
theorem State.residue_setResidue (s : State) {bs : List Byte} (len : bs.length = 48) : (s.setResidue bs).residue = bs := by
  have word {w : Nat} (hw : w < 12) : toBytes ((s.setResidue bs).rd F.KEEP_RAM w) 4 =
      (List.range 4).map fun k => bs.getD (4 * w + k) 0 := by
    have read : (s.setResidue bs).rd F.KEEP_RAM w = leBytes (fun k => bs.getD k 0) (4 * w) 4 % 2 ^ F.KEEP_RAM.width :=
      State.rd_each_wr (by decide) _ List.nodup_range s (List.mem_range.mpr hw)
    rw [read, Nat.mod_eq_of_lt (show _ < 2 ^ F.KEEP_RAM.width from leBytes_lt _ _ 4), toBytes_leBytes]
  have all : (s.setResidue bs).residue = (List.range 12).flatMap fun w => (List.range 4).map fun k => bs.getD (4 * w + k) 0 := by
    unfold State.residue
    exact List.flatMap_congr fun w hw => word (List.mem_range.mp hw)
  rw [all]
  refine List.ext_getElem (by simp [len]) fun i h h' => ?_
  have flat : ((List.range 12).flatMap fun w => (List.range 4).map fun k => bs.getD (4 * w + k) 0) =
      (List.range 48).map fun i => bs.getD i 0 := rfl
  simp only [flat, List.getElem_map, List.getElem_range, List.getD_eq_getElem _ _ h']

theorem toBytes_length (v n : Nat) : (toBytes v n).length = n := by
  induction n generalizing v with
  | zero => rfl
  | succ n ih => rw [toBytes, List.length_cons, ih]

theorem State.residueBytes_length (s : State) (cause frame : Nat) (es : List (Nat × Nat)) :
    (s.residueBytes cause frame es).length = 48 := by
  simp [State.residueBytes, toBytes_length, List.length_flatMap]

/-! ### Zero-cross marks -/

theorem State.setDBytes_meter (s : State) (a : Nat) (bs : List Byte) : (s.setDBytes a bs).meter = s.meter := by
  obtain ⟨d, eq⟩ := State.setDBytes_rest bs s a
  rw [eq]

theorem State.ite_meter {c : Prop} {_ : Decidable c} {u v : State} {m : MeterSt} (h : u.meter = m) (hv : v.meter = m) :
    (if c then u else v).meter = m := by
  split
  · exact h
  · exact hv

theorem State.ringPut_meter (s : State) (n : Nat) (r : ConvResult) : (s.ringPut n r).meter = s.meter := by
  have lost (c : Prop) [Decidable c] : (if c then
      let s := s.incSat F.CONV_SEQ_RING_LOSS n
      if s.conv.lossSeen.contains n then s
      else { s with conv := { s.conv with lossSeen := n :: s.conv.lossSeen } }.raise 0x305 n [n, s.rd F.CONV_SEQ_RING_LOSS n]
      else s).meter = s.meter :=
    State.ite_meter (State.ite_meter rfl (State.raise_meter _ _ _ _ _)) rfl
  exact State.ite_meter (lost _) (State.ite_meter ((State.setDBytes_meter _ _ _).trans (State.ite_meter (lost _) (lost _)))
    (State.ite_meter (lost _) (lost _)))

/-- A trigger of the sequencers is nothing to the metering block. -/
theorem State.trigger_meter (s : State) (k : TrigSrc) (n : Nat) : (s.trigger k n).meter = s.meter := by
  have run (u : State) (t : Nat) : (u.runStart n t).meter = u.meter := by
    unfold State.runStart
    dsimp only
    split
    · exact State.ringPut_meter _ _ _
    · rfl
  unfold State.trigger
  extract_lets t st one _conv u v
  have noted : u.meter = s.meter := by
    unfold u
    split <;> rfl
  have counted : v.meter = s.meter := noted
  split
  · exact noted
  · split
    · exact (run u t).trans noted
    · split
      · exact noted
      · split
        · exact noted
        · exact State.ite_meter counted ((State.raise_meter _ _ _ _ _).trans counted)

theorem State.zcTriggers_meter (s : State) (line : Nat) (rising : Bool) : (s.zcTriggers line rising).meter = s.meter :=
  State.each_meter (fun s n => s.trigger_meter .zc n) s

/-- Slot `k` waits for a rising mark of this line (R334). -/
def State.zswWaits (s : State) (line k : Nat) : Bool :=
  s.bit F.METER_ZSW_CFG_EN k && s.bit F.METER_ZSW_STAT_PENDING k && s.rd F.METER_ZSW_CFG_LINE k == line &&
    (s.rd F.METER_ZSW_CFG_EDGE k).testBit 0

/-- A rising mark as slot `k` takes it. -/
def State.zswStart (s : State) (line k : Nat) : State :=
  if s.zswWaits line k && !s.meter.zswTimed.contains k then
    { s with meter := { s.meter with zswTimed := k :: s.meter.zswTimed } }
  else s

theorem State.zswMark_eq (s : State) (line : Nat) : s.zswMark line true = s.each [0, 1, 2, 3] fun s k => s.zswStart line k := rfl

theorem State.zswStart_rf (s : State) (line k : Nat) : (s.zswStart line k).rf = s.rf := by
  unfold State.zswStart
  split <;> rfl

theorem State.zswStart_timed (u : State) (line a : Nat) (same : u.rf = s.rf) :
    (u.zswStart line a).meter.latCycles = u.meter.latCycles ∧
      (∀ k ∈ u.meter.zswTimed, k ∈ (u.zswStart line a).meter.zswTimed) ∧
      (s.zswWaits line a = true → a ∈ (u.zswStart line a).meter.zswTimed) := by
  have waits : u.zswWaits line a = s.zswWaits line a := by
    simp only [State.zswWaits, State.bit, State.rd, same]
  unfold State.zswStart
  rw [waits]
  split
  next => exact ⟨rfl, fun k h => List.mem_cons_of_mem _ h, fun _ => List.mem_cons_self⟩
  next h => exact ⟨rfl, fun k h => h, fun w => by simpa [w] using h⟩

/-- The delays that a mark starts are those of the slots that wait for it, besides those that run (R334). -/
theorem State.zswMark_timed (s : State) (line : Nat) : (s.zswMark line true).meter.latCycles = s.meter.latCycles ∧
    ∀ k < 4, s.bit F.METER_ZSW_CFG_EN k = true → s.bit F.METER_ZSW_STAT_PENDING k = true →
      s.rd F.METER_ZSW_CFG_LINE k = line → (s.rd F.METER_ZSW_CFG_EDGE k).testBit 0 = true →
      k ∈ (s.zswMark line true).meter.zswTimed := by
  have step (l : List Nat) (u : State) (same : u.rf = s.rf) :
      let t := l.foldl (fun s k => s.zswStart line k) u
      t.meter.latCycles = u.meter.latCycles ∧ (∀ k ∈ u.meter.zswTimed, k ∈ t.meter.zswTimed) ∧
      ∀ k ∈ l, s.zswWaits line k = true → k ∈ t.meter.zswTimed := by
    induction l generalizing u with
    | nil => exact ⟨rfl, fun k h => h, fun k h => nomatch h⟩
    | cons a l ih =>
      obtain ⟨first, kept, new⟩ := State.zswStart_timed u line a same
      obtain ⟨cycles, more, rest⟩ := ih (u.zswStart line a) ((u.zswStart_rf line a).trans same)
      refine ⟨cycles.trans first, fun k h => more k (kept k h), fun k h waits => ?_⟩
      rcases List.mem_cons.mp h with rfl | h
      · exact more k (new waits)
      · exact rest k h waits
  obtain ⟨cycles, -, new⟩ := step [0, 1, 2, 3] s rfl
  refine ⟨cycles, fun k small enabled pending own edge => new k (by simp; omega) ?_⟩
  simp [State.zswWaits, enabled, pending, own, edge]

theorem State.setResidue_meter (s : State) (bs : List Byte) : (s.setResidue bs).meter = s.meter := by
  unfold State.setResidue
  exact State.each_meter (fun _ _ => by rw [State.wr_meter]) s

/-- Writing the block and what shows it (R351). -/
theorem State.block_written (u : State) {bs : List Byte} (len : bs.length = 48) (cause : Nat) :
    let t := ((u.setResidue bs).wrB F.METER_PF_STAT_BLK_DONE true).wr F.METER_PF_STAT_CAUSE cause
    t.meter = u.meter ∧ t.residue = bs ∧ t.rd F.METER_PF_STAT_BLK_DONE = 1 ∧ t.rd F.METER_PF_STAT_CAUSE = cause % 4 := by
  have kept (u : State) : ((u.wrB F.METER_PF_STAT_BLK_DONE true).wr F.METER_PF_STAT_CAUSE cause).residue = u.residue := by
    unfold State.residue
    refine List.flatMap_congr fun w hw => ?_
    rw [State.rd_wr_apart _ _ _ _ _ _ (by decide), State.wrB, State.rd_wr_apart _ _ _ _ _ _ (by decide)]
  refine ⟨?_, (kept _).trans (State.residue_setResidue u len), ?_, State.rd_wr_same _ _ _ _ _⟩
  · rw [State.wr_meter, State.wrB, State.wr_meter, State.setResidue_meter]
  · rw [State.rd_wr_apart _ _ _ _ _ _ (by decide), State.wrB, State.rd_wr_same]
    rfl

/-- The block of a snapshot is formed and written (R351). -/
theorem State.writeResidue_block {cause frame : Nat} {es : List (Nat × Nat)} (snap : s.meter.snap = some (cause, frame, es))
    (block : s.bit F.METER_PF_CTL_BLK_EN = true) : s.writeResidue.meter.snap = none ∧
      s.writeResidue.residue = s.residueBytes cause frame es ∧ s.writeResidue.rd F.METER_PF_STAT_BLK_DONE = 1 ∧
      s.writeResidue.rd F.METER_PF_STAT_CAUSE = cause % 4 := by
  let u : State := { s with meter := { s.meter with snap := none } }
  have written : s.writeResidue = ((u.setResidue (u.residueBytes cause frame es)).wrB F.METER_PF_STAT_BLK_DONE true).wr
      F.METER_PF_STAT_CAUSE cause := by
    unfold State.writeResidue
    rw [snap]
    exact if_pos block
  obtain ⟨meter, residue, done, why⟩ := u.block_written (u.residueBytes_length cause frame es) cause
  rw [written]
  exact ⟨congrArg MeterSt.snap meter, residue, done, why⟩

/-- A measured quantity of the whole line goes to its register and to its points (R340, R348). -/
theorem State.putMeas_sets (s : State) {q : Nat} (v : Int) (fault : Bool) (live : ∀ u : State, u.quantityLive q = true) :
    SetsThen s (s.putMeas q v fault false) [(F.METER_MEAS, q - 0xC0, 0, unsigned 32 v)]
      fun u => u.feed 3 q v fault u.sampleStamp := by
  refine ⟨s.wr F.METER_MEAS (unsigned 32 v) (q - 0xC0), Sets.of_wrs rfl ?_, ?_⟩
  · simp only [Fits, List.all_cons, List.all_nil, Bool.and_true, decide_eq_true_eq]
    exact unsigned_lt 32 v
  · unfold State.putMeas
    dsimp only
    rw [live]
    rfl

/-- A pulse that is due begins, and is taken from the backlog (R343). -/
theorem State.epulseKick_sets {k : Nat} (enabled : s.bit F.METER_EP_CFG_EN k = true) (driving : s.driving = true)
    (idle : s.meter.pulsing.contains k = false) (free : s.meter.gaps.contains k = false) (due : 0 < s.rd F.METER_EP_STAT_BACKLOG k)
    (width : s.rd F.METER_EP_STAT_BACKLOG k < 65536) :
    Sets { s with meter := { s.meter with pulsing := k :: s.meter.pulsing } } (s.epulseKick k)
      [(F.METER_EP_STAT_BACKLOG, k, 0, s.rd F.METER_EP_STAT_BACKLOG k - 1)] := by
  unfold State.epulseKick
  rw [enabled, driving, idle, free, if_pos (by simp; omega)]
  refine Sets.of_wrs rfl ?_
  simp only [Fits, List.all_cons, List.all_nil, Bool.and_true, decide_eq_true_eq]
  exact Nat.lt_of_le_of_lt (Nat.sub_le _ _) width

/-- A register that shows no domain's state leaves the domains as they are. -/
theorem State.domOn_wr_apart (s : State) {f : Fld} (v i j : Nat) (d : Dom) (h : f.apart F.SYS_PD_STAT_IS_ON = true)
    (hl : f.apart F.SYS_PLL_STAT_PLL_L_LOCK = true) (hn : f.apart F.SYS_PLL_STAT_PLL_N_LOCK = true) :
    (s.wr f v i j).domOn d = s.domOn d := by
  unfold State.domOn State.mapBit
  simp only [State.rd_wr_apart _ _ _ _ _ _ h, State.bit_wr_apart _ _ _ _ _ _ hl, State.bit_wr_apart _ _ _ _ _ _ hn]

theorem State.mainsLow_wr_apart (s : State) {f : Fld} (v i j : Nat) (h : f.apart F.METER_PF_CTL_MAINS_K = true) :
    (s.wr f v i j).mainsLow = s.mainsLow := by
  unfold State.mainsLow
  rw [State.rd_wr_apart _ _ _ _ _ _ h]
  rfl

/-- Power-fail warning is raised with its event, and with the block enabled a snapshot is taken (R350, R351). -/
theorem State.raisePfw_sets {u : State} {cause : Nat} {rows : List Row} (clear : u.bit F.METER_PF_STAT_PFW = false)
    (block : u.bit F.METER_PF_CTL_BLK_EN = true) (span : u.span = s.span) (meter : u.meter = s.meter)
    (sets : Sets s (((u.wrB F.METER_PF_STAT_PFW true).wrB F.METER_STAT_PFW true).wrB F.METER_PF_STAT_BLK_DONE false) rows) :
    ∃ v, SetsRaise s v rows 0x805 0xFF [cause, u.rd F.HEALTH_SUP 0] ∧ u.raisePfw cause = { v with meter := { v.meter with
      pfwSince := s.nowUs / 1000
      snap := some (cause, s.frame, s.meter.selInForce.map fun q => if q = 0xFF then (0, 0) else s.accOf q) } } := by
  refine ⟨_, ⟨_, sets, rfl⟩, ?_⟩
  have enabled : ((((u.wrB F.METER_PF_STAT_PFW true).wrB F.METER_STAT_PFW true).wrB F.METER_PF_STAT_BLK_DONE false).raise 0x805
      0xFF [cause, u.rd F.HEALTH_SUP 0]).bit F.METER_PF_CTL_BLK_EN = true := by
    rw [State.raise_bit_apart _ _ _ (by decide)]
    simp (disch := decide) only [State.wrB, State.bit_wr_apart]
    exact block
  have span' := State.raise_span (((u.wrB F.METER_PF_STAT_PFW true).wrB F.METER_STAT_PFW true).wrB F.METER_PF_STAT_BLK_DONE false)
    0x805 0xFF [cause, u.rd F.HEALTH_SUP 0] none
  have meter' := State.raise_meter (((u.wrB F.METER_PF_STAT_PFW true).wrB F.METER_STAT_PFW true).wrB F.METER_PF_STAT_BLK_DONE false)
    0x805 0xFF [cause, u.rd F.HEALTH_SUP 0] none
  unfold State.raisePfw
  rw [clear, if_neg Bool.false_ne_true]
  simp only [State.event_eq_raise]
  refine (if_pos enabled).trans ?_
  revert span' meter'
  generalize State.raise _ _ _ _ _ = e
  intro span' meter'
  have span' : e.span = s.span := span'.trans span
  have meter' : e.meter = s.meter := meter'.trans meter
  simp only [State.residueSnap, State.nowUs, State.frame, State.accOf, span', meter']

/-- VIN below its level raises the warning (R350). -/
theorem execPfwRaise_vin (act : s.serves []) (on : s.domOn .meter = true) :
    execPfwRaise 0 s = .next ((s.wr F.SYS_PWR_STAT_GOOD 0x1E).raisePfw 0) := by
  have on' : (s.wr F.SYS_PWR_STAT_GOOD 0x1E).domOn .meter = true :=
    (s.domOn_wr_apart _ _ _ _ (by decide) (by decide) (by decide)).trans on
  refine (State.act_eq _ act).trans (congrArg Host.Outcome.next ?_)
  simp [on']

/-- The mains condition raises the warning (R350). -/
theorem execPfwRaise_mains (act : s.serves []) (on : s.domOn .meter = true) (low : s.mainsLow = true) :
    execPfwRaise 1 s = .next (s.raisePfw 1) := by
  refine (State.act_eq _ act).trans (congrArg Host.Outcome.next ?_)
  simp [on, low]

/-- Power-fail warning clears with its event (R350). -/
theorem State.clearPfw_eq (high : s.mainsLow = false) (raised : s.bit F.METER_PF_STAT_PFW = true) :
    let e := ((s.wrB F.METER_PF_STAT_PFW false).wrB F.METER_STAT_PFW false).raise 0x806 0xFF [s.nowUs / 1000 - s.meter.pfwSince]
    s.clearPfw = if s.bit F.METER_PF_CTL_BLK_EN then e.setResidueState 0 else e := by
  intro e
  have same : e.bit F.METER_PF_CTL_BLK_EN = s.bit F.METER_PF_CTL_BLK_EN := by
    unfold e
    rw [State.raise_bit_apart _ _ _ (by decide)]
    simp (disch := decide) only [State.wrB, State.bit_wr_apart]
  rw [← same]
  unfold State.clearPfw
  rw [raised, high, if_neg (by decide)]
  rfl

/-- Settles O37: what the mains do is read off each effect, and power-fail warning raises and clears with its event. -/
theorem meterEvents : Obligations.MeterEvents := by
  unfold Obligations.MeterEvents
  intro s serves
  have meterOn : s.domOn .meter = true := by simpa using serves.2
  have act : s.serves [] := ⟨serves.1, rfl⟩
  refine ⟨fun line tracking active fref => ?_, fun line rising idle => ?_, fun k b target timed drives => ?_, fun tracking => ?_,
    fun idle => ?_, fun counted => ?_, fun k pulsing => ?_, fun k free enabled driving some16 width => ?_, fun cause why clear block => ?_,
    fun cause why => ?_, fun cause frame es snap block => ?_, fun raised high block => ?_, fun raised low => ?_,
    fun raised high block => ?_⟩
  · refine ⟨_, (State.act_eq _ serves : execZeroCrossMark line true s = _), ?_⟩
    dsimp only
    rw [tracking, active, if_neg (by decide), fref, beq_self_eq_true, Bool.true_and, if_pos rfl]
    obtain ⟨cycles, timed⟩ := (s.countCycle s.convAbs).zswMark_timed line.val
    have meter : (if ((s.countCycle s.convAbs).zswMark line.val true).domOn .conv then
        ((s.countCycle s.convAbs).zswMark line.val true).zcTriggers line.val true else
        (s.countCycle s.convAbs).zswMark line.val true).meter = ((s.countCycle s.convAbs).zswMark line.val true).meter :=
      State.ite_meter (State.zcTriggers_meter _ _ _) rfl
    rw [meter]
    exact ⟨cycles, timed⟩
  · refine ⟨_, (State.act_eq _ serves : execZeroCrossMark line rising s = _), ?_⟩
    dsimp only
    rw [if_pos (by rcases idle with h | h <;> simp only [h, Bool.false_and, Bool.and_false, Bool.not_false])]
  · refine ⟨_, (State.act_eq _ serves : execZswSwitch k s = _), ?_⟩
    dsimp only
    rw [target]
    dsimp only
    rw [timed, drives, Bool.true_and, if_pos rfl]
    refine Sets.of_wrs rfl ?_
    cases b <;> rfl
  · refine ⟨_, (State.act_eq _ serves : execHalfCycleEnd s = _), ?_⟩
    dsimp only
    rw [if_pos tracking, State.inCycle_meter]
    obtain ⟨-, -, half, samples⟩ := s.halfCycle_latch
    exact ⟨samples, half⟩
  · refine ⟨_, (State.act_eq _ serves : execHalfCycleEnd s = _), ?_⟩
    dsimp only
    rw [idle, if_neg Bool.false_ne_true]
  · refine ⟨_, (State.act_eq _ serves : execFreqInterval s = _), ?_⟩
    dsimp only
    rw [if_neg counted]
    exact State.putMeas_sets _ _ _ fun _ => rfl
  · refine ⟨_, (State.act_eq _ serves : execEpulseTimer k s = _), ?_⟩
    dsimp only
    rw [if_pos pulsing]
  · refine ⟨_, (State.act_eq _ serves : execEpulseTimer k s = _), ?_⟩
    dsimp only
    rw [free, if_neg Bool.false_ne_true]
    exact State.epulseKick_sets (s := { s with meter := { s.meter with gaps := s.meter.gaps.filter (· ≠ k.val) } })
      enabled driving free (by simp) some16 width
  · have rows (x : Nat) (ws : List Row) (u : State) (eq : (((u.wrB F.METER_PF_STAT_PFW true).wrB F.METER_STAT_PFW true).wrB
        F.METER_PF_STAT_BLK_DONE false) = s.wrs ws) (good : u.rd F.SYS_PWR_STAT_GOOD = x)
        (fields : ∀ w ∈ ws, w = (F.SYS_PWR_STAT_GOOD, 0, 0, 0x1E) ∨ w ∈ [(F.METER_PF_STAT_PFW, 0, 0, 1), (F.METER_STAT_PFW, 0, 0, 1),
          (F.METER_PF_STAT_BLK_DONE, 0, 0, 0)]) :
        Sets s (((u.wrB F.METER_PF_STAT_PFW true).wrB F.METER_STAT_PFW true).wrB F.METER_PF_STAT_BLK_DONE false)
          [(F.METER_PF_STAT_PFW, 0, 0, 1), (F.METER_STAT_PFW, 0, 0, 1), (F.METER_PF_STAT_BLK_DONE, 0, 0, 0),
            (F.SYS_PWR_STAT_GOOD, 0, 0, x)] := by
      refine Sets.of_writes ws eq ?_ fun w hw => ?_
      · simp (disch := decide) [State.wrB, State.rd_wr_apart, good]
      · have := fields w hw
        simp only [List.mem_cons, List.not_mem_nil, or_false] at this
        rcases this with rfl | rfl | rfl | rfl <;> simp
    rcases why with rfl | ⟨rfl, low⟩
    · have raise := State.raisePfw_sets (s := s) (u := s.wr F.SYS_PWR_STAT_GOOD 0x1E) (cause := 0)
        (by rw [State.bit_wr_apart _ _ _ _ _ _ (by decide), clear]) (by rw [State.bit_wr_apart _ _ _ _ _ _ (by decide), block])
        rfl rfl (rows 0x1E [(F.SYS_PWR_STAT_GOOD, 0, 0, 0x1E), (F.METER_PF_STAT_PFW, 0, 0, 1), (F.METER_STAT_PFW, 0, 0, 1),
          (F.METER_PF_STAT_BLK_DONE, 0, 0, 0)] _ rfl (State.rd_wr_same _ _ _ _ _) (by simp))
      rw [State.rd_wr_ne _ _ _ _ _ _ _ _ (show F.SYS_PWR_STAT_GOOD.key 0 0 ≠ F.HEALTH_SUP.key 0 0 by decide)] at raise
      exact ⟨_, execPfwRaise_vin act meterOn, raise⟩
    · exact ⟨_, execPfwRaise_mains act meterOn low, State.raisePfw_sets (s := s) (u := s) (cause := 1) clear block rfl rfl
        (rows _ [(F.METER_PF_STAT_PFW, 0, 0, 1), (F.METER_STAT_PFW, 0, 0, 1), (F.METER_PF_STAT_BLK_DONE, 0, 0, 0)] _ rfl rfl
          (by simp))⟩
  · refine ⟨_, (State.act_eq _ act : execPfwRaise cause s = _), ?_⟩
    dsimp only
    rcases why with ⟨rfl, low⟩ | rfl | rfl
    · simp [low]
    · simp
    · simp
  · refine ⟨_, (State.act_eq _ serves : execResidueWritten s = _), ?_⟩
    exact State.writeResidue_block snap block
  · refine ⟨_, (State.act_eq _ act : execPfwClear s = _), ?_⟩
    dsimp only
    rw [meterOn, Bool.not_true, if_neg Bool.false_ne_true, if_neg (by simp [high])]
    have eq := State.clearPfw_eq (s := s.wr F.SYS_PWR_STAT_GOOD 0x1F) 
      ((s.mainsLow_wr_apart _ _ _ (by decide)).trans high) (by rw [State.bit_wr_apart _ _ _ _ _ _ (by decide), raised])
    rw [State.bit_wr_apart _ _ _ _ _ _ (by decide), block] at eq
    rw [eq, if_neg Bool.false_ne_true]
    refine ⟨_, Sets.reorder (rows := [(F.SYS_PWR_STAT_GOOD, 0, 0, 0x1F), (F.METER_PF_STAT_PFW, 0, 0, 0), (F.METER_STAT_PFW, 0, 0, 0)])
      (Sets.of_wrs rfl) fun r => ?_, rfl⟩
    simp only [List.mem_cons, List.not_mem_nil, or_false]
    tauto
  · refine ⟨_, (State.act_eq _ act : execPfwClear s = _), ?_⟩
    dsimp only
    rw [meterOn, Bool.not_true, if_neg Bool.false_ne_true, if_pos low]
  · refine ⟨_, (State.act_eq _ act : execPfwClear s = _), ?_⟩
    dsimp only
    rw [meterOn, Bool.not_true, if_neg Bool.false_ne_true, if_neg (by simp [high])]
    have eq := State.clearPfw_eq (s := s.wr F.SYS_PWR_STAT_GOOD 0x1F) 
      ((s.mainsLow_wr_apart _ _ _ (by decide)).trans high) (by rw [State.bit_wr_apart _ _ _ _ _ _ (by decide), raised])
    rw [State.bit_wr_apart _ _ _ _ _ _ (by decide), block] at eq
    rw [eq, if_pos rfl]
    refine ⟨?_, ?_, State.residue_setResidueState _ (by decide)⟩
    · rw [State.setResidueState, State.rd_wr_ne _ _ _ _ _ _ _ _ (show F.KEEP_RAM.key 0 0 ≠ F.METER_PF_STAT_PFW.key 0 0 by decide), State.raise_rd_apart _ _ _ (by decide)]
      simp (disch := decide) only [State.wrB, State.rd_wr_apart, State.rd_wr_same]
      rfl
    · rw [State.setResidueState, State.rd_wr_ne _ _ _ _ _ _ _ _ (show F.KEEP_RAM.key 0 0 ≠ F.SYS_PWR_STAT_GOOD.key 0 0 by decide), State.raise_rd_apart _ _ _ (by decide)]
      simp (disch := decide) only [State.wrB, State.rd_wr_apart, State.rd_wr_same]
      rfl

end Sys2Proof.Machine
end

section
/-! What forcing the drive channels to IDLE and following the ownership lines leave alone (R269, R304, R320, R334, R362): the state
of the drive channels and of the switching slots changes, and nothing that the twin goes by. -/

namespace Sys2Proof.Machine

set_option Elab.async false

/-- The fields that a channel forced to IDLE, its group or a switching slot may write, with the recorder's count of lost events. -/
def driveFlds : List Fld :=
  [F.SOL_CH_STAT_STATE, F.SOL_CH_STAT_OUTCOME, F.SOL_CH_STAT_MOTION, F.SOL_CH_STAT_SLOWREL, F.SOL_GRP_STAT_LOAD,
    F.SOL_GRP_STAT_QUEUED, F.SOL_GRP_STAT_HS_ON, F.MOT_CH_STAT_STATE, F.MOT_CH_STAT_OUTCOME, F.MOT_CH_STAT_ARMED, F.MOT_CH_ENERGY,
    F.FAN_CH_STAT_STATE, F.FAN_CH_STAT_OUTCOME, F.FAN_CH_STAT_ARMED, F.FAN_CH_MEAS_RPM, F.FAN_CH_MEAS_DUTY, F.METER_ZSW_STAT_LEVEL,
    F.METER_ZSW_STAT_PENDING, F.METER_EP_STAT_BACKLOG, F.EVR_QLOST]

/-- `t` is `s` but for what the drive channels and the switching slots show and hold, and for events. -/
structure DriveOnly (s t : State) : Prop where
  rest : ∃ sol mot fan meter health evr outbox, t = { s with
    rf := t.rf, sol := sol, mot := mot, fan := fan, meter := meter, health := health, evr := evr
    twin := { s.twin with outbox := outbox } }
  rd : ∀ f i j, (driveFlds.all fun g => g.apart f) = true → t.rd f i j = s.rd f i j

namespace DriveOnly

variable {s t u : State}

theorem refl (s : State) : DriveOnly s s := ⟨⟨_, _, _, _, _, _, _, rfl⟩, fun _ _ _ _ => rfl⟩

theorem trans (h : DriveOnly s t) (h' : DriveOnly t u) : DriveOnly s u := by
  refine ⟨?_, fun f i j hf => (h'.rd f i j hf).trans (h.rd f i j hf)⟩
  obtain ⟨a, b, c, d, e, f, g, ht⟩ := h.rest
  obtain ⟨a', b', c', d', e', f', g', hu⟩ := h'.rest
  exact ⟨a', b', c', d', e', f', g', by rw [hu, ht]⟩

theorem wr {f : Fld} {v i j : Nat} (h : DriveOnly s t) (hf : f ∈ driveFlds := by simp [driveFlds]) : DriveOnly s (t.wr f v i j) :=
  h.trans ⟨⟨_, _, _, _, _, _, _, rfl⟩, fun _ _ _ hg => t.rd_wr_apart _ _ _ _ _ (List.all_eq_true.mp hg f hf)⟩

theorem wrB {f : Fld} {b : Bool} {i j : Nat} (h : DriveOnly s t) (hf : f ∈ driveFlds := by simp [driveFlds]) :
    DriveOnly s (t.wrB f b i j) := h.wr hf

/-- A change of the parts that hold the channels and the slots. -/
theorem parts (h : DriveOnly s t) {sol mot fan meter health} :
    DriveOnly s { t with sol := sol, mot := mot, fan := fan, meter := meter, health := health } :=
  h.trans ⟨⟨_, _, _, _, _, _, _, rfl⟩, fun _ _ _ _ => rfl⟩

theorem of_eventOnly (h : EventOnly s t) : DriveOnly s t := by
  refine ⟨?_, fun f i j hf => h.rd f i j (Fld.key_ne_of_apart (List.all_eq_true.mp hf F.EVR_QLOST (by simp [driveFlds])) _ _ _ _).symm⟩
  obtain ⟨e, o, ht⟩ := h.rest
  exact ⟨_, _, _, _, _, _, _, ht⟩

theorem raise {code index words pier} (h : DriveOnly s t) : DriveOnly s (t.raise code index words pier) :=
  h.trans (of_eventOnly (EventOnly.raise t code index words pier))

theorem sortEvents {n} (h : DriveOnly s t) : DriveOnly s (t.sortEvents n) := h.trans (of_eventOnly (EventOnly.sortEvents t n))

theorem ite {c : Prop} {_ : Decidable c} (h : DriveOnly s t) (hv : DriveOnly s u) : DriveOnly s (if c then t else u) := by
  split
  · exact h
  · exact hv

theorem each {α : Type} {l : List α} {f : State → α → State} (h : DriveOnly s t) (hf : ∀ t x, DriveOnly s t → DriveOnly s (f t x)) :
    DriveOnly s (t.each l f) := by
  unfold State.each
  induction l generalizing t with
  | nil => exact h
  | cons x l ih => exact ih (hf t x h)

theorem solMod {n f} (h : DriveOnly s t) : DriveOnly s (t.solMod n f) := h.parts

theorem motMod {n f} (h : DriveOnly s t) : DriveOnly s (t.motMod n f) := h.parts

theorem fanMod {n f} (h : DriveOnly s t) : DriveOnly s (t.fanMod n f) := h.parts

theorem solTo {n k} (h : DriveOnly s t) : DriveOnly s (t.solTo n k) := h.wr

theorem solOutcome {n k} (h : DriveOnly s t) : DriveOnly s (t.solOutcome n k) := h.wr

theorem solUnqueue {n} (h : DriveOnly s t) : DriveOnly s (t.solUnqueue n) := h.parts

theorem solEnterPick {n} (h : DriveOnly s t) : DriveOnly s (t.solEnterPick n) := by
  unfold State.solEnterPick
  exact h.solTo.solOutcome.wr.wrB.solMod

theorem solServe {k fuel} (h : DriveOnly s t) : DriveOnly s (t.solServe k fuel) := by
  induction fuel generalizing t with
  | zero => exact h
  | succ fuel ih =>
    unfold State.solServe
    split
    · exact h
    · exact (ih h.solUnqueue.solEnterPick).ite h

theorem solSlowCheck {k} (h : DriveOnly s t) : DriveOnly s (t.solSlowCheck k) :=
  h.each fun _ _ h => by
    split
    · split
      · exact h.wrB.raise
      · exact h
    · exact h

theorem solGroup {k} (h : DriveOnly s t) : DriveOnly s (t.solGroup k) := h.solServe.solSlowCheck.wr.wr.wrB

theorem solEndStroke {n} (h : DriveOnly s t) : DriveOnly s (t.solEndStroke n) := h.solOutcome.ite h

theorem solForceIdle {n} (h : DriveOnly s t) : DriveOnly s (t.solForceIdle n) := h.ite h.solEndStroke.solUnqueue.solTo.solMod

theorem motEnterIdle {n} (h : DriveOnly s t) : DriveOnly s (t.motEnterIdle n) := by
  unfold State.motEnterIdle
  exact (DriveOnly.wr (DriveOnly.wr h)).motMod

theorem motForceIdle {n} (h : DriveOnly s t) : DriveOnly s (t.motForceIdle n) := by
  have ended : DriveOnly s (if t.motOpen n then t.wr F.MOT_CH_STAT_OUTCOME 2 n else t) := h.wr.ite h
  exact h.ite (ended.motMod.ite ended.motEnterIdle).wrB

theorem fanTo {n k} (h : DriveOnly s t) : DriveOnly s (t.fanTo n k) := by
  have stopped : DriveOnly s (if k = .kick ∨ k = .run then t.wr F.FAN_CH_STAT_STATE k.code n else
      (t.wr F.FAN_CH_STAT_STATE k.code n).wr F.FAN_CH_MEAS_RPM 0 n) := h.wr.ite h.wr.wr
  exact stopped.ite stopped.fanMod

theorem fanForceIdle {n} (h : DriveOnly s t) : DriveOnly s (t.fanForceIdle n) := h.ite (h.wr.ite h).fanTo.wrB.wr

theorem zswCancel {k} (h : DriveOnly s t) : DriveOnly s (t.zswCancel k) := h.wrB.wrB.parts

theorem outputsOff (h : DriveOnly s t) : DriveOnly s t.outputsOff :=
  ((((h.each fun _ _ h => h.solForceIdle).each fun _ _ h => h.solGroup).each fun _ _ h => h.motForceIdle).each fun _ _ h =>
    h.fanForceIdle).each fun _ _ h => h.zswCancel

theorem gatesAbandon (h : DriveOnly s t) : DriveOnly s t.gatesAbandon := h.parts

theorem gatesResume (h : DriveOnly s t) : DriveOnly s t.gatesResume := h.parts

theorem epulseKick {k} (h : DriveOnly s t) : DriveOnly s (t.epulseKick k) := (h.wr (f := F.METER_EP_STAT_BACKLOG)).parts.ite h

section

variable (h : DriveOnly s t)
include h

theorem bit (f : Fld) (i j : Nat) (apart : (driveFlds.all fun g => g.apart f) = true) : t.bit f i j = s.bit f i j := by
  unfold State.bit
  rw [h.rd f i j apart]

theorem span : t.span = s.span := by
  obtain ⟨_, _, _, _, _, _, _, ht⟩ := h.rest
  rw [ht]

theorem twin : ∃ outbox, t.twin = { s.twin with outbox := outbox } := by
  obtain ⟨_, _, _, _, _, _, _, ht⟩ := h.rest
  rw [ht]
  exact ⟨_, rfl⟩

end

end DriveOnly

/-- DRIVING follows the two lines: where it changes it is set first, and the drive channels follow (R362). -/
theorem State.drivingUpdate_cases (s : State) : let d := s.bit F.TWIN_STAT_OWN_OUT && !s.bit F.TWIN_STAT_OWN_IN
    d = s.driving ∧ s.drivingUpdate = s ∨ d ≠ s.driving ∧ DriveOnly (s.wrB F.TWIN_STAT_DRIVING d) s.drivingUpdate := by
  intro d
  unfold State.drivingUpdate
  by_cases same : d = s.driving
  · exact .inl ⟨same, if_pos same⟩
  · refine .inr ⟨same, ?_⟩
    dsimp only
    rw [if_neg same]
    cases hd : d
    · rw [if_neg (by rw [show (s.bit F.TWIN_STAT_OWN_OUT && !s.bit F.TWIN_STAT_OWN_IN) = false from hd]; decide)]
      exact (DriveOnly.refl _).outputsOff.gatesAbandon.sortEvents
    · rw [if_pos hd]
      exact (DriveOnly.refl _).gatesResume.each fun _ _ h => h.epulseKick

end Sys2Proof.Machine
end

section
/-! The registers that an operation may write, and the roles of a twin (R362 to R376). -/

namespace Sys2Proof.Machine

set_option Elab.async false

/-! ### The registers that an operation may write -/

/-- From `s` to `t` only fields of `fs` are written: one that has no bit in common with them reads as before. -/
structure Foot (fs : List Fld) (s t : State) : Prop where
  rd : ∀ f i j, (fs.all fun g => g.apart f) = true → t.rd f i j = s.rd f i j

namespace Foot

variable {fs gs : List Fld} {s t u : State}

theorem refl (s : State) : Foot fs s s := ⟨fun _ _ _ _ => rfl⟩

theorem trans (h : Foot fs s t) (h' : Foot fs t u) : Foot fs s u := ⟨fun f i j hf => (h'.rd f i j hf).trans (h.rd f i j hf)⟩

/-- What writes fewer fields. -/
theorem mono (h : Foot gs s t) (sub : (gs.all fun g => decide (g ∈ fs)) = true) : Foot fs s t := by
  refine ⟨fun f i j hf => h.rd f i j (List.all_eq_true.mpr fun g hg => List.all_eq_true.mp hf g ?_)⟩
  exact of_decide_eq_true (List.all_eq_true.mp sub g hg)

theorem wr {f : Fld} {v i j : Nat} (h : Foot fs s t) (hf : f ∈ fs := by decide) : Foot fs s (t.wr f v i j) :=
  ⟨fun g i' j' hg => (t.rd_wr_apart _ _ _ _ _ (List.all_eq_true.mp hg f hf)).trans (h.rd g i' j' hg)⟩

theorem wrB {f : Fld} {b : Bool} {i j : Nat} (h : Foot fs s t) (hf : f ∈ fs := by decide) : Foot fs s (t.wrB f b i j) := h.wr hf

/-- A change that leaves the register file alone. -/
theorem same {pending deck span pts pier conv sens sol mot fan meter twin tre keep evr health power port posted resp busHeld dbg
    freeCtr} (h : Foot fs s t) : Foot fs s ⟨pending, t.rf, deck, span, pts, pier, conv, sens, sol, mot, fan, meter, twin, tre, keep,
      evr, health, power, port, posted, resp, busHeld, dbg, freeCtr⟩ :=
  ⟨h.rd⟩

theorem raise {code index words pier} (h : Foot fs s t) (hf : F.EVR_QLOST ∈ fs := by decide) :
    Foot fs s (t.raise code index words pier) :=
  ⟨fun f i j hg => (t.raise_rd f i j (Fld.key_ne_of_apart (List.all_eq_true.mp hg _ hf) _ _ _ _).symm).trans (h.rd f i j hg)⟩

theorem ite {c : Prop} {_ : Decidable c} (h : Foot fs s t) (hv : Foot fs s u) : Foot fs s (if c then t else u) := by
  split
  · exact h
  · exact hv

theorem each {α : Type} {l : List α} {f : State → α → State} (h : Foot fs s t) (hf : ∀ t x, Foot fs s t → Foot fs s (f t x)) :
    Foot fs s (t.each l f) := by
  unfold State.each
  induction l generalizing t with
  | nil => exact h
  | cons x l ih => exact ih (hf t x h)

theorem of_driveOnly (h : DriveOnly s t) : Foot driveFlds s t := ⟨h.rd⟩

theorem bit (h : Foot fs s t) (f : Fld) (i j : Nat) (apart : (fs.all fun g => g.apart f) = true) : t.bit f i j = s.bit f i j := by
  unfold State.bit
  rw [h.rd f i j apart]

end Foot

/-! ### A role -/

/-- What setting a role writes. -/
def roleFlds : List Fld := [F.TWIN_STAT_ROLE, F.SPAN_STAT_SOURCE]

/-- What losing the pair's agreement and an alignment write. -/
def alignFlds : List Fld := [F.TWIN_STAT_UNSYNC_REASON, F.TWIN_ALIGN_DONE, F.TWIN_ALIGN_PERCENT, F.EVR_QLOST]

/-- What joining as a standby writes. -/
def standbyFlds : List Fld := [F.TWIN_STAT_ROLE, F.SPAN_STAT_SOURCE, F.TWIN_STAT_SYNC, F.TWIN_STAT_UNSYNC_REASON, F.TWIN_ALIGN_DONE,
  F.TWIN_ALIGN_PERCENT, F.EVR_QLOST]

/-- What a step of start-up that goes on writes. -/
def stepFlds : List Fld := [F.SYS_START_STAT_STEP, F.TRESTLE_STAT_STATE, F.TRESTLE_STAT_REASON]

variable {s : State}

theorem State.setRole_foot (s : State) (r : Role) : Foot roleFlds s (s.setRole r) := by
  have set : Foot roleFlds s (s.wr F.TWIN_STAT_ROLE r.code) := (Foot.refl s).wr
  exact set.ite (set.wr.ite set)

@[simp] theorem State.setRole_role (s : State) (r : Role) : (s.setRole r).rd F.TWIN_STAT_ROLE = r.code := by
  have set : (s.wr F.TWIN_STAT_ROLE r.code).rd F.TWIN_STAT_ROLE = r.code := by
    rw [State.rd_wr_same]
    cases r <;> rfl
  unfold State.setRole
  dsimp only
  split
  · exact set
  · unfold State.localTick
    split
    · exact (State.rd_wr_apart _ _ _ _ _ _ (by decide)).trans set
    · exact set

theorem State.setRole_twin (s : State) (r : Role) : (s.setRole r).twin = s.twin := by
  unfold State.setRole State.localTick
  dsimp only
  split
  · rfl
  · split <;> rfl

theorem State.syncLost_foot (s : State) (r : Unsync) : Foot (F.TWIN_STAT_SYNC :: alignFlds) s (s.syncLost r) :=
  (Foot.refl s).ite ((Foot.refl s).wrB.wr.raise)

theorem State.startAlign_foot (s : State) : Foot alignFlds s s.startAlign := by
  unfold State.startAlign
  dsimp only
  split
  · exact (Foot.refl s).wrB.wr.same.wr.raise
  · exact (Foot.refl s).wrB.wr.same.wr.same

/-- What a standby that joins keeps of the twin link: the partner's images and a planned release. -/
def TwinSt.kept (t : TwinSt) : List (Nat × Nat) × Option Nat := (t.partnerCrcs, t.releaseAt)

theorem State.raise_kept (s : State) (code index : Nat) (words : List Nat) (pier : Option Nat) :
    (s.raise code index words pier).twin.kept = s.twin.kept := by
  obtain ⟨e, o, eq⟩ := (EventOnly.raise s code index words pier).rest
  rw [eq]
  rfl

theorem State.startAlign_kept (s : State) : s.startAlign.twin.kept = s.twin.kept := by
  unfold State.startAlign
  dsimp only
  split
  · exact State.raise_kept _ _ _ _ _
  · rfl

theorem State.syncLost_kept (s : State) (r : Unsync) : (s.syncLost r).twin.kept = s.twin.kept := by
  unfold State.syncLost
  split
  · rfl
  · exact State.raise_kept _ _ _ _ _

/-- What joining as a standby leaves behind (R378). -/
structure StandbyJoined (s t : State) : Prop where
  foot : Foot standbyFlds s t
  role : t.rd F.TWIN_STAT_ROLE = 3
  sync : t.rd F.TWIN_STAT_SYNC = 0
  partner : t.twin.kept = s.twin.kept

theorem State.enterStandby_joined (s : State) : StandbyJoined s s.enterStandby := by
  have lost (reason : Unsync) : Foot standbyFlds s ((s.setRole .standby).syncLost reason) :=
    ((s.setRole_foot .standby).mono (by decide)).trans ((State.syncLost_foot _ _).mono (by decide))
  have partner (reason : Unsync) : ((s.setRole .standby).syncLost reason).twin.kept = s.twin.kept :=
    (State.syncLost_kept _ _).trans (congrArg TwinSt.kept (s.setRole_twin .standby))
  have sync (reason : Unsync) : (((s.setRole .standby).syncLost reason).wrB F.TWIN_STAT_SYNC false).rd F.TWIN_STAT_SYNC = 0 :=
    State.rd_wr_same _ _ _ _ _
  have role (reason : Unsync) : (((s.setRole .standby).syncLost reason).wrB F.TWIN_STAT_SYNC false).rd F.TWIN_STAT_ROLE = 3 :=
    (State.rd_wr_apart _ _ _ _ _ _ (by decide)).trans
      (((State.syncLost_foot _ _).rd _ 0 0 (by decide)).trans (s.setRole_role .standby))
  have joined (reason : Unsync) : StandbyJoined s (if (((s.setRole .standby).syncLost reason).wrB F.TWIN_STAT_SYNC false).twinAlive
      then (((s.setRole .standby).syncLost reason).wrB F.TWIN_STAT_SYNC false).startAlign
      else (((s.setRole .standby).syncLost reason).wrB F.TWIN_STAT_SYNC false).wr F.TWIN_STAT_UNSYNC_REASON Unsync.link.code) := by
    split
    · have align := State.startAlign_foot (((s.setRole .standby).syncLost reason).wrB F.TWIN_STAT_SYNC false)
      exact ⟨(lost reason).wrB.trans (align.mono (by decide)), (align.rd _ 0 0 (by decide)).trans (role reason),
        (align.rd _ 0 0 (by decide)).trans (sync reason), (State.startAlign_kept _).trans (partner reason)⟩
    · exact ⟨(lost reason).wrB.wr, (State.rd_wr_apart _ _ _ _ _ _ (by decide)).trans (role reason),
        (State.rd_wr_apart _ _ _ _ _ _ (by decide)).trans (sync reason), partner reason⟩
  exact joined _

/-- The next step of start-up, after the role is settled, leaves the twin as it is (R387, R475). -/
theorem State.roleDone_foot (s : State) : Foot stepFlds s s.roleDone ∧ s.roleDone.twin = s.twin := by
  have enters (u : State) (k : TreState) : Foot stepFlds u (u.treTo k) ∧ (u.treTo k).twin = u.twin := by
    unfold State.treTo
    dsimp only
    split
    · split
      · exact ⟨(Foot.refl u).same.wr.wr, rfl⟩
      · exact ⟨(Foot.refl u).same.wr, rfl⟩
    · split
      · split
        · exact ⟨(Foot.refl u).same.wr.wr, rfl⟩
        · exact ⟨(Foot.refl u).same.wr, rfl⟩
      · split
        · exact ⟨(Foot.refl u).wr.wr, rfl⟩
        · exact ⟨(Foot.refl u).wr, rfl⟩
  unfold State.roleDone
  split
  · obtain ⟨foot, twin⟩ := enters (s.toStep .join) .training
    exact ⟨((Foot.refl s).wr : Foot stepFlds s (s.toStep .join)).trans foot, twin⟩
  · split
    · exact ⟨(Foot.refl s).wr.wr, rfl⟩
    · exact ⟨(Foot.refl s).wr, rfl⟩

end Sys2Proof.Machine
end

section
/-! Roles of a twin and its outputs (R362 to R376). -/

namespace Sys2Proof.Machine

set_option Elab.async false

variable {s : State}

/-! ### The handshake (R365) -/

/-- What settling the role writes: the role, the standby's alignment, and the next step of start-up. -/
def settleFlds : List Fld := standbyFlds ++ stepFlds

/-- The role is settled: in start-up the next step follows (R366, R475). -/
structure RoleTaken (s t : State) (r : Nat) : Prop where
  foot : Foot settleFlds s t
  role : t.rd F.TWIN_STAT_ROLE = r
  sync : r = 3 → t.rd F.TWIN_STAT_SYNC = 0
  partner : t.twin.kept = s.twin.kept

theorem RoleTaken.done {t : State} {r : Nat} (h : RoleTaken s t r) : RoleTaken s t.roleDone r := by
  obtain ⟨foot, twin⟩ := t.roleDone_foot
  exact ⟨h.foot.trans (foot.mono (by decide)), (foot.rd _ 0 0 (by decide)).trans h.role,
    fun hr => (foot.rd _ 0 0 (by decide)).trans (h.sync hr), (congrArg TwinSt.kept twin).trans h.partner⟩

theorem RoleTaken.ite {c : Prop} {_ : Decidable c} {t u : State} {r : Nat} (h : RoleTaken s t r) (hu : RoleTaken s u r) :
    RoleTaken s (if c then t else u) r := by
  split
  · exact h
  · exact hu

theorem RoleTaken.event {t : State} {r code : Nat} {words : List Nat} (h : RoleTaken (s.event code words) t r) : RoleTaken s t r :=
  ⟨((Foot.refl s).raise.mono (gs := [F.EVR_QLOST]) (by decide)).trans h.foot, h.role, h.sync,
    h.partner.trans (State.raise_kept _ _ _ _ _)⟩

theorem State.enterStandby_taken (s : State) : RoleTaken s s.enterStandby 3 :=
  have joined := s.enterStandby_joined
  ⟨joined.foot.mono (by decide), joined.role, fun _ => joined.sync, joined.partner⟩

/-- An active role is taken, with OWN_OUT due in service (R365, R366). -/
theorem State.setRole_taken (s : State) {r : Role} (other : r ≠ .standby) (c : Prop) [Decidable c] :
    RoleTaken s (if c then { s.setRole r with twin := { (s.setRole r).twin with raiseDue := true } } else s.setRole r) r.code := by
  have taken : RoleTaken s (s.setRole r) r.code :=
    ⟨(s.setRole_foot r).mono (by decide), s.setRole_role r, fun h => absurd h (by revert other; cases r <;> decide),
      congrArg TwinSt.kept (s.setRole_twin r)⟩
  exact RoleTaken.ite ⟨taken.foot.same, taken.role, taken.sync, taken.partner⟩ taken

theorem State.roleIs_of {r k : Role} (h : s.roleIs r = true) (other : r ≠ k) : s.roleIs k = false := by
  unfold State.roleIs at h ⊢
  rw [beq_iff_eq] at h
  rw [h]
  revert other
  cases r <;> cases k <;> decide

/-- The partner as its handshake shows it (R365). -/
def State.metPartner (s : State) (id : BitVec 16) (role : BitVec 3) (crcs : List (Nat × Nat)) : State :=
  let s := ((s.wrB F.TWIN_STAT_PARTNER true).wr F.TWIN_PARTNER_ID id.toNat).wr F.TWIN_PARTNER_ROLE role.toNat
  { s with twin := { s.twin with partnerCrcs := crcs } }

/-- The role that the handshake gives, and what follows it (R365). -/
def State.settleRole (s : State) (id : Nat) (pref : Bool) (role : Nat) : State :=
  let (r, rule) := s.arbitrate id pref role
  let s := s.event 0x900 [r.code, rule, id]
  let service := !s.atStep .role
  let s := if r = .active then
      let s := s.setRole .active
      if service then { s with twin := { s.twin with raiseDue := true } } else s
    else s.enterStandby
  if service then s else s.roleDone

theorem execTwinHandshake_eq (id : BitVec 16) (pref : Bool) (role : BitVec 3) (crcs : List (Nat × Nat)) (s : State) :
    execTwinHandshake id pref role crcs s = s.act [.deck, .link] fun s =>
      if !s.paired then s
      else if (s.metPartner id role crcs).roleIs .active then
        (s.metPartner id role crcs).event 0x900 [Role.active.code, 1, id.toNat]
      else if !(s.metPartner id role crcs).roleIs .arbitrate then s.metPartner id role crcs
      else (s.metPartner id role crcs).settleRole id.toNat pref role.toNat := rfl

theorem State.settleRole_taken (u : State) (id : Nat) (pref : Bool) (role : Nat) :
    RoleTaken u (u.settleRole id pref role) (u.arbitrate id pref role).1.code := by
  have standby_or_active : (u.arbitrate id pref role).1 = .active ∨ (u.arbitrate id pref role).1 = .standby := by
    unfold State.arbitrate
    split_ifs <;> simp
  unfold State.settleRole
  generalize u.arbitrate id pref role = choice at standby_or_active ⊢
  obtain ⟨r, rule⟩ := choice
  dsimp only at standby_or_active ⊢
  have settled : RoleTaken u (if r = .active then
      (if !(u.event 0x900 [r.code, rule, id]).atStep .role then { (u.event 0x900 [r.code, rule, id]).setRole .active with
        twin := { ((u.event 0x900 [r.code, rule, id]).setRole .active).twin with raiseDue := true } }
      else (u.event 0x900 [r.code, rule, id]).setRole .active)
      else (u.event 0x900 [r.code, rule, id]).enterStandby) r.code := by
    rcases standby_or_active with rfl | rfl
    · rw [if_pos rfl]
      exact ((u.event _ _).setRole_taken (by decide) _).event
    · rw [if_neg (by decide)]
      exact (u.event _ _).enterStandby_taken.event
  exact settled.ite settled.done

/-- The partner that was met shows in its registers, and nothing else changed (R365). -/
theorem State.metPartner_foot (s : State) (id : BitVec 16) (role : BitVec 3) (crcs : List (Nat × Nat)) :
    Foot [F.TWIN_STAT_PARTNER, F.TWIN_PARTNER_ID, F.TWIN_PARTNER_ROLE] s (s.metPartner id role crcs) :=
  (Foot.refl s).wrB.wr.wr.same

/-- The handshake of a device that arbitrates settles its role (R365). -/
theorem execTwinHandshake_settles {id : BitVec 16} {pref : Bool} {role : BitVec 3} {crcs : List (Nat × Nat)}
    (serves : s.serves [.deck, .link]) (paired : s.paired = true) (arbitrates : s.roleIs .arbitrate = true) :
    execTwinHandshake id pref role crcs s = .next ((s.metPartner id role crcs).settleRole id.toNat pref role.toNat) := by
  have kept (k : Role) : (s.metPartner id role crcs).roleIs k = s.roleIs k := by
    unfold State.roleIs
    rw [(s.metPartner_foot id role crcs).rd _ 0 0 (by decide)]
  rw [execTwinHandshake_eq, State.act_eq _ serves, paired, kept, kept, State.roleIs_of arbitrates (by decide), arbitrates]
  rfl

/-- The deciding rules of the handshake (R365). -/
theorem State.arbitrate_active (s : State) (id : Nat) (pref : Bool) (role : Nat) :
    (s.arbitrate id pref role).1 = if role ≠ 2 ∧ (s.bit F.TWIN_STAT_ROLE_PREF = true ∧ pref = false ∨
      s.bit F.TWIN_STAT_ROLE_PREF = pref ∧ s.devId < id) then .active else .standby := by
  unfold State.arbitrate
  have code : Role.active.code = 2 := rfl
  rw [code]
  cases s.bit F.TWIN_STAT_ROLE_PREF <;> cases pref <;> split_ifs <;> simp_all <;> omega

/-! ### The lines of ownership (R362, R363) -/

/-- What an ownership line that changes may write. -/
def ownFlds : List Fld := F.TWIN_STAT_OWN_OUT :: F.TWIN_STAT_DRIVING :: driveFlds

/-- Where the lines led: OWN_OUT at its level and DRIVING as both lines have it (R362). -/
structure OwnSet (s t : State) (out : Bool) : Prop where
  foot : Foot ownFlds s t
  level : t.rd F.TWIN_STAT_OWN_OUT = out.toNat
  driving : t.driving = (out && !s.bit F.TWIN_STAT_OWN_IN)
  twin : ∃ outbox, t.twin = { s.twin with outbox := outbox }

theorem State.ownSet_of_drivingUpdate (s : State) (out : Bool) :
    OwnSet s (s.wrB F.TWIN_STAT_OWN_OUT out).drivingUpdate out := by
  have line : (s.wrB F.TWIN_STAT_OWN_OUT out).bit F.TWIN_STAT_OWN_OUT = out := by
    rw [State.wrB, State.bit_wr_same]
    cases out <;> rfl
  have other : (s.wrB F.TWIN_STAT_OWN_OUT out).bit F.TWIN_STAT_OWN_IN = s.bit F.TWIN_STAT_OWN_IN :=
    State.bit_wr_apart _ _ _ _ _ _ (by decide)
  have level : (s.wrB F.TWIN_STAT_OWN_OUT out).rd F.TWIN_STAT_OWN_OUT = out.toNat := by
    rw [State.wrB, State.rd_wr_same]
    cases out <;> rfl
  have cases := (s.wrB F.TWIN_STAT_OWN_OUT out).drivingUpdate_cases
  rw [line, other] at cases
  rcases cases with ⟨same, eq⟩ | ⟨-, drive⟩
  · rw [eq]
    exact ⟨(Foot.refl s).wrB, level, same.symm, _, rfl⟩
  · refine ⟨?_, (drive.rd _ 0 0 (by decide)).trans ((State.rd_wr_apart _ _ _ _ _ _ (by decide)).trans level), ?_, drive.twin⟩
    · have set : Foot ownFlds s ((s.wrB F.TWIN_STAT_OWN_OUT out).wrB F.TWIN_STAT_DRIVING (out && !s.bit F.TWIN_STAT_OWN_IN)) :=
        (Foot.refl s).wrB.wrB
      exact set.trans ((Foot.of_driveOnly drive).mono (by decide))
    · refine (drive.bit F.TWIN_STAT_DRIVING 0 0 (by decide)).trans ?_
      rw [State.wrB, State.bit_wr_same]
      cases out <;> cases s.bit F.TWIN_STAT_OWN_IN <;> rfl

theorem State.ownRaise_set (s : State) : OwnSet s s.ownRaise true := s.ownSet_of_drivingUpdate true

theorem OwnSet.event {t : State} {out : Bool} (h : OwnSet s t out) (code : Nat) (words : List Nat) :
    OwnSet s (t.event code words) out := by
  refine ⟨h.foot.raise, ((Foot.refl t).raise.rd (fs := [F.EVR_QLOST]) _ 0 0 (by decide)).trans h.level,
    ((Foot.refl t).raise.bit (fs := [F.EVR_QLOST]) _ 0 0 (by decide)).trans h.driving, ?_⟩
  obtain ⟨outbox, eq⟩ := h.twin
  obtain ⟨e, o, rest⟩ := (EventOnly.event t code words).rest
  exact ⟨o, by rw [rest, eq]⟩

theorem State.ownDrop_set (raised : s.bit F.TWIN_STAT_OWN_OUT = true) : OwnSet s s.ownDrop false := by
  unfold State.ownDrop
  rw [raised, Bool.not_true, if_neg Bool.false_ne_true]
  obtain ⟨foot, out, driving, twin⟩ := s.ownSet_of_drivingUpdate false
  have free : OwnSet s ((s.wrB F.TWIN_STAT_OWN_OUT false).drivingUpdate.free 70).2 false := ⟨foot.same, out, driving, twin⟩
  exact free.event _ _

/-! ### The heartbeat (R372, R373) -/

theorem State.spanMissed_foot (s : State) : Foot [F.TWIN_COUNT_MISSED, F.TWIN_STAT_SYNC, F.TWIN_STAT_UNSYNC_REASON, F.EVR_QLOST] s
    s.spanMissed := by
  have counted : Foot [F.TWIN_COUNT_MISSED, F.TWIN_STAT_SYNC, F.TWIN_STAT_UNSYNC_REASON, F.EVR_QLOST] s
    (s.incSat F.TWIN_COUNT_MISSED) := (Foot.refl s).wr
  exact counted.ite (counted.wrB.wr.raise)

theorem State.syncLost_sync (s : State) (r : Unsync) : (s.syncLost r).rd F.TWIN_STAT_SYNC = 0 := by
  unfold State.syncLost
  split
  next off => simpa [State.bit] using off
  next =>
    refine (State.raise_rd_apart _ _ _ (by decide)).trans ?_
    rw [State.rd_wr_apart _ _ _ _ _ _ (by decide), State.wrB, State.rd_wr_same]
    rfl

theorem State.syncLost_twin (s : State) (r : Unsync) : ∃ outbox, (s.syncLost r).twin = { s.twin with outbox := outbox } ∧
    (s.syncLost r).span = s.span ∧ (s.syncLost r).dbg = s.dbg := by
  unfold State.syncLost
  split
  · exact ⟨_, rfl, rfl, rfl⟩
  · obtain ⟨e, o, rest⟩ := (EventOnly.event ((s.wrB F.TWIN_STAT_SYNC false).wr F.TWIN_STAT_UNSYNC_REASON r.code) 0x903
      ([r.code] ++ w48 s.frame ++ [s.twin.bytes])).rest
    rw [rest]
    exact ⟨o, rfl, rfl, rfl⟩

/-- A role other than STANDBY, which runs on the device's own tick (R367). -/
theorem State.setRole_sets (s : State) {r : Role} (other : r ≠ .standby) : Sets s (s.setRole r)
    [(F.TWIN_STAT_ROLE, 0, 0, r.code), (F.SPAN_STAT_SOURCE, 0, 0, if s.rd F.SPAN_STAT_SOURCE = 2 then 0 else s.rd F.SPAN_STAT_SOURCE)] := by
  have source : (s.wr F.TWIN_STAT_ROLE r.code).rd F.SPAN_STAT_SOURCE = s.rd F.SPAN_STAT_SOURCE :=
    State.rd_wr_apart _ _ _ _ _ _ (by decide)
  have small : r.code < 2 ^ F.TWIN_STAT_ROLE.width := by cases r <;> decide
  unfold State.setRole State.localTick
  dsimp only
  rw [if_neg other, source]
  split
  next two =>
    refine Sets.of_wrs rfl ?_
    simp only [Fits, List.all_cons, List.all_nil, Bool.and_true, Bool.and_eq_true, decide_eq_true_eq]
    exact ⟨small, by decide⟩
  next =>
    refine Sets.of_writes [(F.TWIN_STAT_ROLE, 0, 0, r.code)] rfl ?_ (by simp)
    simp only [List.mem_cons, List.not_mem_nil, or_false, forall_eq_or_imp, forall_eq]
    exact ⟨(State.rd_wr_same _ _ _ _ _).trans (Nat.mod_eq_of_lt small), source⟩

/-- Before a tick that the device has come to, an instant of it acts at once (R372, R373, R376). -/
theorem State.beforeTick_of_reached {d : Nat} (run : s.running = true) (reached : s.reached (s.spanCyc - d)) (f : State → State) :
    s.beforeTick d f = f s := by
  unfold State.beforeTick
  rw [if_pos run, State.toPhase_of_reached reached]

/-- The standby's judgement before a tick (R372). -/
theorem State.judge_eq (paired : s.paired = true) (standby : s.roleIs .standby = true) (thawed : s.dbg.thawed = false) :
    s.judge = if s.bit F.TWIN_STAT_OWN_IN then
        (if !(if s.spanComplete then s else s.spanMissed).heartbeatSeen && !(if s.spanComplete then s else s.spanMissed).twinAlive &&
            !(if s.spanComplete then s else s.spanMissed).dbg.relink && (if s.spanComplete then s else s.spanMissed).roleIs .standby then
          ((if s.spanComplete then s else s.spanMissed).setRole .linkfault).event 0x902 [0, 1]
        else if s.spanComplete then s else s.spanMissed)
      else { (if s.spanComplete then s else s.spanMissed) with twin := { (if s.spanComplete then s else s.spanMissed).twin with
        takeoverAt := some ((if s.spanComplete then s else s.spanMissed).frame + 1)
        heldTakeover := !s.bit F.TWIN_STAT_SYNC || !s.spanComplete } } := by
  unfold State.judge
  rw [paired, standby, thawed]
  cases s.spanComplete <;> cases s.bit F.TWIN_STAT_OWN_IN <;> rfl

/-- The contention is looked at again (R366). -/
def State.recheck (s : State) : State := { s with twin := { s.twin with contending := false } }

theorem execContentionRecheck_eq (act : s.serves []) (cont : s.twin.contending = true) : execContentionRecheck s =
    .next (if !s.bit F.TWIN_STAT_OWN_IN then s.recheck.ownRaise
      else if s.twinAlive then s.recheck.enterStandby else s.recheck.setRole .linkfault) := by
  refine (State.act_eq _ act).trans (congrArg Host.Outcome.next ?_)
  rw [cont]
  rfl

theorem State.heartbeatSeen_of_complete (complete : s.spanComplete = true) : s.heartbeatSeen = true := by
  unfold State.spanComplete at complete
  rw [Bool.and_eq_true] at complete
  exact complete.1

/-- A mirror that is missed changes neither the span nor what the twin link holds besides the mirror (R371). -/
theorem State.spanMissed_rest (s : State) : ∃ outbox, s.spanMissed.twin = { s.twin with outbox := outbox } ∧
    s.spanMissed.span = s.span ∧ s.spanMissed.dbg = s.dbg := State.syncLost_twin (s.incSat F.TWIN_COUNT_MISSED) _

/-- A standby that lost its link, and hears nothing, is in LINKFAULT (R364, R372). -/
theorem State.judge_linkfault (paired : s.paired = true) (standby : s.roleIs .standby = true) (thawed : s.dbg.thawed = false)
    (high : s.bit F.TWIN_STAT_OWN_IN = true) (unseen : s.heartbeatSeen = false) (dead : s.twinAlive = false)
    (stays : s.dbg.relink = false) : s.judge = (s.spanMissed.setRole .linkfault).event 0x902 [0, 1] := by
  have missed : s.spanComplete = false := by
    unfold State.spanComplete
    rw [unseen, Bool.false_and]
  have foot := s.spanMissed_foot
  obtain ⟨outbox, twin, span, dbg⟩ := s.spanMissed_rest
  have unseen' : s.spanMissed.heartbeatSeen = false := by
    unfold State.heartbeatSeen State.frame at unseen ⊢
    rw [twin, span]
    exact unseen
  have dead' : s.spanMissed.twinAlive = false := by
    unfold State.twinAlive at dead ⊢
    rw [foot.bit _ 0 0 (by decide), foot.bit _ 0 0 (by decide)]
    exact dead
  have standby' : s.spanMissed.roleIs .standby = true := by
    unfold State.roleIs at standby ⊢
    rw [foot.rd _ 0 0 (by decide)]
    exact standby
  have stays' : s.spanMissed.dbg.relink = false := by rw [dbg, stays]
  rw [State.judge_eq paired standby thawed, high, missed, if_pos rfl, if_neg Bool.false_ne_true, unseen', dead', stays', standby']
  rfl

/-- What a takeover writes besides the role and the lines (R373). -/
def takeFlds : List Fld :=
  [F.TWIN_COUNT_TAKEOVERS, F.TWIN_COUNT_HELD, F.TWIN_TAKE_FRAME_LO, F.TWIN_TAKE_FRAME_HI, F.EVR_QLOST]

/-- A takeover makes the standby ACTIVE and raises its line (R373). -/
theorem State.takeover_takes (due : s.twin.takeoverAt = some (s.frame + 1)) (standby : s.roleIs .standby = true)
    (few : s.rd F.TWIN_COUNT_TAKEOVERS < 255) : s.takeover.rd F.TWIN_STAT_ROLE = 2 ∧ s.takeover.rd F.TWIN_STAT_OWN_OUT = 1 ∧
      s.takeover.driving = !s.bit F.TWIN_STAT_OWN_IN ∧
      s.takeover.rd F.TWIN_COUNT_TAKEOVERS = s.rd F.TWIN_COUNT_TAKEOVERS + 1 ∧
      s.takeover.rd F.TWIN_TAKE_FRAME_LO = (s.frame + 1) % 2 ^ 32 ∧ s.takeover.rd F.SPAN_STAT_SOURCE ≠ 2 := by
  have role := (s.setRole_foot .active)
  have sets := s.setRole_sets (r := .active) (by decide)
  obtain ⟨foot, level, driving, -⟩ := (s.setRole .active).ownRaise_set
  have active : (s.setRole .active).ownRaise.rd F.TWIN_STAT_ROLE = 2 :=
    (foot.rd _ 0 0 (by decide)).trans (s.setRole_role .active)
  have source : (s.setRole .active).ownRaise.rd F.SPAN_STAT_SOURCE ≠ 2 := by
    rw [foot.rd _ 0 0 (by decide), sets.fields (F.SPAN_STAT_SOURCE, 0, 0, if s.rd F.SPAN_STAT_SOURCE = 2 then 0 else
      s.rd F.SPAN_STAT_SOURCE) (by simp)]
    dsimp only
    split
    · decide
    · assumption
  have count : (s.setRole .active).ownRaise.rd F.TWIN_COUNT_TAKEOVERS = s.rd F.TWIN_COUNT_TAKEOVERS :=
    (foot.rd _ 0 0 (by decide)).trans (role.rd _ 0 0 (by decide))
  have drives : (s.setRole .active).ownRaise.driving = !s.bit F.TWIN_STAT_OWN_IN :=
    driving.trans (by rw [role.bit _ 0 0 (by decide), Bool.true_and])
  unfold State.takeover
  rw [due, State.roleIs_of standby (by decide), if_neg (by simp)]
  dsimp only
  generalize (s.setRole .active).ownRaise = u at level active source count drives
  generalize s.twin.heldTakeover = held
  have counted : Foot takeFlds u (if held then (u.incSat F.TWIN_COUNT_TAKEOVERS).incSat F.TWIN_COUNT_HELD else
      u.incSat F.TWIN_COUNT_TAKEOVERS) := Foot.ite (Foot.wr (Foot.wr (Foot.refl u))) (Foot.wr (Foot.refl u))
  have taken : (if held then (u.incSat F.TWIN_COUNT_TAKEOVERS).incSat F.TWIN_COUNT_HELD else u.incSat F.TWIN_COUNT_TAKEOVERS).rd
      F.TWIN_COUNT_TAKEOVERS = s.rd F.TWIN_COUNT_TAKEOVERS + 1 := by
    have one : (u.incSat F.TWIN_COUNT_TAKEOVERS).rd F.TWIN_COUNT_TAKEOVERS = s.rd F.TWIN_COUNT_TAKEOVERS + 1 := by
      rw [State.rd_incSat_same, count]
      exact Nat.min_eq_right (by rw [show F.TWIN_COUNT_TAKEOVERS.width = 8 from rfl]; omega)
    split
    · exact (State.rd_incSat_apart _ _ _ _ _ (by decide)).trans one
    · exact one
  generalize (if held then (u.incSat F.TWIN_COUNT_TAKEOVERS).incSat F.TWIN_COUNT_HELD else u.incSat F.TWIN_COUNT_TAKEOVERS) = v
    at counted taken
  have all : Foot takeFlds u ((v.wr48 F.TWIN_TAKE_FRAME_LO F.TWIN_TAKE_FRAME_HI (s.frame + 1)).event 0x901
      (w48 (s.frame + 1) ++ [s.heartbeatSeen.toNat, (s.bit F.TWIN_STAT_OWN_IN).toNat, held.toNat])) := counted.wr.wr.raise
  refine ⟨(all.rd _ 0 0 (by decide)).trans active, (all.rd _ 0 0 (by decide)).trans level, (all.bit _ 0 0 (by decide)).trans drives,
    ?_, ?_, fun two => source ((all.rd _ 0 0 (by decide)).symm.trans two)⟩
  · rw [State.event_eq_raise, State.raise_rd_apart _ _ _ (by decide), State.wr48, State.rd_wr_apart _ _ _ _ _ _ (by decide),
      State.rd_wr_apart _ _ _ _ _ _ (by decide), taken]
  · rw [State.event_eq_raise, State.raise_rd_apart _ _ _ (by decide), State.wr48, State.rd_wr_apart _ _ _ _ _ _ (by decide),
      State.rd_wr_same]
    exact Nat.mod_mod _ _

/-- A planned release comes due: the line drops, and the device joins as STANDBY (R376). -/
theorem State.relDrop_drops (paired : s.paired = true) (due : s.twin.releaseAt = some (s.frame + 1)) (active : s.roleIs .active = true)
    (alive : s.twinAlive = true) (out : s.bit F.TWIN_STAT_OWN_OUT = true) : s.relDrop.rd F.TWIN_STAT_ROLE = 3 ∧
      s.relDrop.rd F.TWIN_STAT_OWN_OUT = 0 ∧ s.relDrop.rd F.TWIN_STAT_REL_STATE = 2 ∧ s.relDrop.twin.releaseAt = none := by
  obtain ⟨foot, level, -, outbox, twin⟩ := State.ownDrop_set (s := { s with twin := { s.twin with releaseAt := none } }) out
  unfold State.relDrop
  rw [due, if_neg (by simp)]
  dsimp only
  generalize State.ownDrop { s with twin := { s.twin with releaseAt := none } } = u at foot level twin
  have set : Foot (F.TWIN_STAT_REL_STATE :: ownFlds) { s with twin := { s.twin with releaseAt := none } }
      (u.wr F.TWIN_STAT_REL_STATE RelState.done.code) := (foot.mono (by decide)).wr
  have paired' : (u.wr F.TWIN_STAT_REL_STATE RelState.done.code).paired = true := by
    unfold State.paired State.joinable State.devId at paired ⊢
    rw [set.bit _ 0 0 (by decide), set.bit _ 0 0 (by decide), set.rd _ 0 0 (by decide)]
    exact paired
  have active' : (u.wr F.TWIN_STAT_REL_STATE RelState.done.code).roleIs .active = true := by
    unfold State.roleIs at active ⊢
    rw [set.rd _ 0 0 (by decide)]
    exact active
  have alive' : (u.wr F.TWIN_STAT_REL_STATE RelState.done.code).twinAlive = true := by
    unfold State.twinAlive at alive ⊢
    rw [set.bit _ 0 0 (by decide), set.bit _ 0 0 (by decide)]
    exact alive
  obtain ⟨joinedFoot, role, -, kept⟩ := (u.wr F.TWIN_STAT_REL_STATE RelState.done.code).enterStandby_joined
  unfold State.dropRole
  rw [paired', active', alive', if_neg (by decide), if_pos rfl]
  refine ⟨role, (joinedFoot.rd _ 0 0 (by decide)).trans ((State.rd_wr_apart _ _ _ _ _ _ (by decide)).trans level),
    (joinedFoot.rd _ 0 0 (by decide)).trans (State.rd_wr_same _ _ _ _ _), ?_⟩
  have release := congrArg Prod.snd kept
  exact release.trans (show u.twin.releaseAt = none by rw [twin])

/-- The level of OWN_IN is taken, whatever follows (R362). -/
theorem execDrivingChange_eq (alive : s.alive = true) (ownIn : Bool) :
    execDrivingChange ownIn s = .next (s.wrB F.TWIN_STAT_OWN_IN ownIn).drivingUpdate := by
  unfold execDrivingChange
  dsimp only
  rw [if_pos (show (s.wrB F.TWIN_STAT_OWN_IN ownIn).alive = true from alive)]

/-- Settles O38: the handshake settles a role, and each other effect writes its fields one after another. -/
theorem twinRoles : Obligations.TwinRoles := by
  unfold Obligations.TwinRoles
  intro s id pref role crcs ownIn serves paired own wins driven waiting
  have act : s.serves [] := ⟨serves.1, rfl⟩
  have deck : s.serves [.deck] := by
    refine ⟨serves.1, ?_⟩
    have := serves.2
    simp only [List.all_cons, List.all_nil, Bool.and_true, Bool.and_eq_true] at this ⊢
    exact this.1
  have out : (s.wrB F.TWIN_STAT_OWN_IN ownIn).bit F.TWIN_STAT_OWN_OUT = s.bit F.TWIN_STAT_OWN_OUT :=
    State.bit_wr_apart _ _ _ _ _ _ (by decide)
  have keeps : (s.wrB F.TWIN_STAT_OWN_IN ownIn).driving = s.driving := State.bit_wr_apart _ _ _ _ _ _ (by decide)
  have inn : (s.wrB F.TWIN_STAT_OWN_IN ownIn).bit F.TWIN_STAT_OWN_IN = ownIn := by
    rw [State.wrB, State.bit_wr_same]
    cases ownIn <;> rfl
  have fits : Fits [(F.TWIN_STAT_OWN_IN, 0, 0, ownIn.toNat)] = true := by cases ownIn <;> rfl
  refine ⟨fun arb => ?_, fun arb => ?_, fun raised partner off => ?_, fun cont low => ?_, fun cont high dead => ?_, fun cont high alive => ?_,
    fun wait low => ?_, fun wait high complete => ?_, fun wait high unseen dead stays => ?_,
    fun take standby run reached off few => ?_, fun rel active run reached alive raised => ?_, fun same => ?_, fun on off => ?_,
    fun off on => ?_⟩
  · refine ⟨_, execTwinHandshake_settles serves paired arb, ?_⟩
    have met := s.metPartner_foot id role crcs
    have pref' : (s.metPartner id role crcs).bit F.TWIN_STAT_ROLE_PREF = s.bit F.TWIN_STAT_ROLE_PREF := met.bit _ 0 0 (by decide)
    have dev : (s.metPartner id role crcs).devId = s.devId := by
      unfold State.devId
      rw [met.bit _ 0 0 (by decide), met.rd _ 0 0 (by decide)]
    have taken := (s.metPartner id role crcs).settleRole_taken id.toNat pref role.toNat
    have decides : (role.toNat ≠ 2 ∧ (s.bit F.TWIN_STAT_ROLE_PREF = true ∧ pref = false ∨
        s.bit F.TWIN_STAT_ROLE_PREF = pref ∧ s.devId < id.toNat)) ↔ wins := by
      have code : role.toNat ≠ 2 ↔ role ≠ 2 := not_congr ⟨fun h => BitVec.eq_of_toNat_eq h, fun h => by rw [h]; rfl⟩
      rw [code]
    rw [State.arbitrate_active, pref', dev] at taken
    obtain ⟨foot, role', sync, partner⟩ := taken
    have idFits := id.isLt
    have roleFits := role.isLt
    refine ⟨(foot.rd _ 0 0 (by decide)).trans ?_, (foot.rd _ 0 0 (by decide)).trans ?_, (foot.rd _ 0 0 (by decide)).trans ?_,
      congrArg Prod.fst partner, fun w => ?_, fun w => ?_⟩
    · change (((s.wrB F.TWIN_STAT_PARTNER true).wr F.TWIN_PARTNER_ID id.toNat).wr F.TWIN_PARTNER_ROLE role.toNat).rd _ = _
      simp (disch := decide) only [State.wrB, State.rd_wr_apart, State.rd_wr_same]
      rfl
    · change (((s.wrB F.TWIN_STAT_PARTNER true).wr F.TWIN_PARTNER_ID id.toNat).wr F.TWIN_PARTNER_ROLE role.toNat).rd _ = _
      rw [State.rd_wr_apart _ _ _ _ _ _ (by decide), State.rd_wr_same]
      exact Nat.mod_eq_of_lt idFits
    · exact (State.rd_wr_same _ _ _ _ _).trans (Nat.mod_eq_of_lt roleFits)
    · rw [role', if_pos (decides.mpr w)]
      rfl
    · rw [if_neg (fun h => w (decides.mp h))] at role' sync
      exact ⟨role', sync rfl⟩
  · refine ⟨_, (State.act_eq _ act : execArbTimeout s = _), ?_⟩
    dsimp only
    rw [arb, Bool.not_true, if_neg Bool.false_ne_true]
    have settled {t : State} {r : Nat} (h : RoleTaken s t r) :
        (if !s.atStep .role then t else t.roleDone).rd F.TWIN_STAT_ROLE = r := (h.ite h.done).role
    by_cases high : s.bit F.TWIN_STAT_OWN_IN
    · rw [if_pos high, if_pos high]
      by_cases alive : s.twinAlive
      · rw [if_pos alive, if_pos alive]
        exact settled s.enterStandby_taken
      · rw [if_neg alive, if_neg alive]
        have taken := s.setRole_taken (r := .linkfault) (by decide) False
        rw [if_neg not_false] at taken
        exact settled taken
    · rw [if_neg high, if_neg high]
      exact settled (s.setRole_taken (r := .active) (by decide) _)
  · refine ⟨_, (State.act_eq _ act : execContention s = _), ?_⟩
    dsimp only
    rw [paired, raised, partner, if_neg (by decide)]
    obtain ⟨foot, level, driving, twin⟩ := (State.ownDrop_set raised).event 0x906 [s.rd F.TWIN_PARTNER_ID]
    exact ⟨level, driving, rfl⟩
  · refine ⟨_, execContentionRecheck_eq act cont, ?_⟩
    rw [low, Bool.not_false, if_pos rfl]
    obtain ⟨foot, level, driving, outbox, twin⟩ := s.recheck.ownRaise_set
    exact ⟨level, driving.trans (congrArg (true && !·) low), by rw [twin]; rfl⟩
  · refine ⟨_, execContentionRecheck_eq act cont, ?_⟩
    rw [high, dead]
    exact s.recheck.setRole_sets (r := .linkfault) (by decide)
  · refine ⟨_, execContentionRecheck_eq act cont, ?_⟩
    rw [high, alive]
    obtain ⟨-, role, sync, -⟩ := s.recheck.enterStandby_joined
    exact ⟨role, sync⟩
  · obtain ⟨standby, run, reached, thawed⟩ := wait
    refine ⟨_, (State.act_eq _ deck : execHeartbeatDeadline s = _), ?_⟩
    dsimp only
    rw [State.beforeTick_of_reached run reached, State.judge_eq paired standby thawed, low, if_neg Bool.false_ne_true]
    refine ⟨congrArg (fun f => some (f + 1)) ?_, rfl⟩
    obtain ⟨-, -, span, -⟩ := s.spanMissed_rest
    cases s.spanComplete
    · exact congrArg SpanSt.frame span
    · rfl
  · obtain ⟨standby, run, reached, thawed⟩ := wait
    refine ⟨_, (State.act_eq _ deck : execHeartbeatDeadline s = _), ?_⟩
    dsimp only
    rw [State.beforeTick_of_reached run reached, State.judge_eq paired standby thawed, high, complete, if_pos rfl, if_pos rfl,
      State.heartbeatSeen_of_complete complete]
    rfl
  · obtain ⟨standby, run, reached, thawed⟩ := wait
    refine ⟨_, (State.act_eq _ deck : execHeartbeatDeadline s = _), ?_⟩
    dsimp only
    rw [State.beforeTick_of_reached run reached, State.judge_linkfault paired standby thawed high unseen dead stays]
    refine ⟨((Foot.refl _).raise.rd (fs := [F.EVR_QLOST]) _ 0 0 (by decide)).trans (State.setRole_role _ _),
      ((Foot.refl _).raise.rd (fs := [F.EVR_QLOST]) _ 0 0 (by decide)).trans
        (((State.setRole_foot _ _).rd _ 0 0 (by decide)).trans (State.syncLost_sync _ _))⟩
  · refine ⟨_, (State.act_eq _ deck : execTakeover s = _), ?_⟩
    dsimp only
    rw [State.beforeTick_of_reached run reached]
    exact State.takeover_takes take standby few
  · refine ⟨_, (State.act_eq _ deck : execReleaseDrop s = _), ?_⟩
    dsimp only
    rw [State.beforeTick_of_reached run reached]
    exact State.relDrop_drops paired rel active alive raised
  · refine ⟨_, execDrivingChange_eq serves.1 ownIn, ?_⟩
    rw [State.drivingUpdate, out, inn, if_pos (same.trans keeps.symm)]
    exact Sets.of_wrs rfl fits
  · obtain rfl : ownIn = false := by
      cases ownIn
      · rfl
      · simp [driven] at on
    refine ⟨_, execDrivingChange_eq serves.1 false, _, Sets.of_wrs rfl, ?_⟩
    have line : (s.bit F.TWIN_STAT_OWN_OUT && !false) = true := on
    rw [State.drivingUpdate, out, inn, line, keeps, off]
    rfl
  · refine ⟨_, execDrivingChange_eq serves.1 ownIn, (s.wrB F.TWIN_STAT_OWN_IN ownIn).wrB F.TWIN_STAT_DRIVING false,
      Sets.of_wrs rfl (by cases ownIn <;> rfl), ?_⟩
    have line : (s.bit F.TWIN_STAT_OWN_OUT && !ownIn) = false := off
    rw [State.drivingUpdate, out, inn, line, keeps, on]
    rfl

end Sys2Proof.Machine
end

section
/-! The mirror, planned release, alignment and lanes of a twin (R364 to R380). -/

namespace Sys2Proof.Machine

set_option Elab.async false

variable {s : State}

/-- What serves several domains serves one of them. -/
theorem State.serves_of_mem {ds : List Dom} {d : Dom} (h : s.serves ds) (mem : d ∈ ds) : s.serves [d] :=
  ⟨h.1, by simpa using List.all_eq_true.mp h.2 d mem⟩

/-! ### Planned release (R376) -/

theorem State.relArm_arms (paired : s.paired = true) (active : s.roleIs .active = true) (sync : s.bit F.TWIN_STAT_SYNC = true)
    (late : s.frame + 4 ≤ s.rd48 F.TWIN_REL_FRAME_LO F.TWIN_REL_FRAME_HI) :
    Sets { s with twin := { s.twin with releaseAt := some (s.rd48 F.TWIN_REL_FRAME_LO F.TWIN_REL_FRAME_HI) } } s.relArm
      [(F.TWIN_STAT_REL_STATE, 0, 0, 1)] := by
  unfold State.relArm
  dsimp only
  rw [paired, active, sync, if_neg (by decide), if_neg (by simp; omega)]
  exact Sets.of_wrs rfl

theorem State.relArm_refuses (paired : s.paired = true) (active : s.roleIs .active = true)
    (refused : s.bit F.TWIN_STAT_SYNC = false ∨ s.rd48 F.TWIN_REL_FRAME_LO F.TWIN_REL_FRAME_HI < s.frame + 4) :
    Sets s s.relArm [(F.TWIN_STAT_REL_STATE, 0, 0, 4)] := by
  unfold State.relArm
  dsimp only
  rw [paired, active, if_neg (by decide), if_pos (by
    rcases refused with h | h
    · rw [h]; rfl
    · rw [decide_eq_true h, Bool.or_true])]
  exact Sets.of_wrs rfl

/-! ### Alignment (R378, R380) -/

/-- The alignment that begins where the images agree. -/
theorem State.startAlign_of_agree (agree : ∀ n < 24, s.activeCrc n = s.partnerCrc n) :
    s.startAlign = { ((s.wrB F.TWIN_ALIGN_DONE false).wr F.TWIN_ALIGN_PERCENT 0).wr F.TWIN_STAT_UNSYNC_REASON Unsync.aligning.code with
      twin := { s.twin with aligning := true, alignFrom := s.nowUs, alignDone := false, alignItems := [] } } := by
  have none : ((List.range 24).find? fun n => s.activeCrc n != s.partnerCrc n) = none := by
    rw [List.find?_eq_none]
    intro n hn
    simp [agree n (List.mem_range.mp hn)]
  unfold State.startAlign
  dsimp only
  split
  next n found => exact absurd (none.symm.trans found) (by simp)
  next => rfl

/-! ### Lanes (R364, R372) -/

theorem State.twinAlive_eq (s : State) (l : Fin 2) : s.twinAlive = (s.bit (laneFld l.val) || s.bit (laneFld (1 - l.val))) := by
  match l with
  | 0 => rfl
  | 1 => exact Bool.or_comm _ _

/-- A lane's own bit, and the other lane's. -/
theorem State.twinAlive_wrB (s : State) (l : Fin 2) (b : Bool) :
    (s.wrB (laneFld l.val) b).twinAlive = (b || s.bit (laneFld (1 - l.val))) := by
  have other : (laneFld l.val).apart (laneFld (1 - l.val)) = true := by
    match l with
    | 0 => decide
    | 1 => decide
  have width : (laneFld l.val).width = 1 := by
    match l with
    | 0 => rfl
    | 1 => rfl
  rw [State.twinAlive_eq _ l, State.wrB, State.bit_wr_apart _ _ _ _ _ _ other, State.bit_wr_same, width]
  cases b <;> rfl

/-- What is read beside the lanes. -/
theorem laneFld_apart (l : Fin 2) {f : Fld} (ha : F.TWIN_STAT_LANE_A_UP.apart f = true) (hb : F.TWIN_STAT_LANE_B_UP.apart f = true) :
    (laneFld l.val).apart f = true := by
  match l with
  | 0 => exact ha
  | 1 => exact hb

theorem State.sets_lane (s : State) (l : Fin 2) (b : Bool) : Sets s (s.wrB (laneFld l.val) b) [(laneFld l.val, 0, 0, b.toNat)] := by
  match l with
  | 0 => exact Sets.of_wrs rfl (by cases b <;> rfl)
  | 1 => exact Sets.of_wrs rfl (by cases b <;> rfl)

/-- A lane that comes up again, whatever waited for it after a thaw (R509). -/
def State.laneUp (s : State) (l : Nat) : State := { s.wrB (laneFld l) true with dbg := { s.dbg with relink := false } }

theorem execTwinLaneUp_eq (link : s.serves [.link]) (l : Fin 2) (kept : s.isRetired 4 (2 + l.val) = false)
    (untested : s.laneTested (2 + l.val) = false) : execTwinLaneUp l s = .next (
      if s.paired && s.roleIs .linkfault then (s.laneUp l).enterStandby
      else if s.paired && s.roleIs .standby && !s.twinAlive && !s.bit F.TWIN_STAT_SYNC && !s.twin.aligning then (s.laneUp l).startAlign
      else s.laneUp l) := by
  have field (f : Fld) (ha : F.TWIN_STAT_LANE_A_UP.apart f = true) (hb : F.TWIN_STAT_LANE_B_UP.apart f = true) :
      (s.laneUp l).rd f = s.rd f := State.rd_wr_apart s _ _ _ _ _ (laneFld_apart l ha hb)
  have paired : (s.laneUp l).paired = s.paired := by
    unfold State.paired State.joinable State.devId State.bit
    rw [field _ (by decide) (by decide), field _ (by decide) (by decide), field _ (by decide) (by decide)]
  have role (k : Role) : (s.laneUp l).roleIs k = s.roleIs k := by
    unfold State.roleIs
    rw [field _ (by decide) (by decide)]
  have sync : (s.laneUp l).bit F.TWIN_STAT_SYNC = s.bit F.TWIN_STAT_SYNC := by
    unfold State.bit
    rw [field _ (by decide) (by decide)]
  refine (State.act_eq _ link).trans (congrArg Host.Outcome.next ?_)
  dsimp only
  rw [kept, untested, if_neg (by decide), ← paired, ← role .linkfault, ← role .standby, ← sync]
  rfl

theorem State.sets_laneUp (s : State) (l : Fin 2) :
    Sets { s with dbg := { s.dbg with relink := false } } (s.laneUp l) [(laneFld l.val, 0, 0, 1)] :=
  State.sets_lane { s with dbg := { s.dbg with relink := false } } l true

/-- The last lane of an ACTIVE device in sync goes down (R371, R372). -/
theorem State.twinLaneDown_last (l : Fin 2) (paired : s.paired = true) (up : s.bit (laneFld l.val) = true)
    (other : s.bit (laneFld (1 - l.val)) = false) (active : s.roleIs .active = true) (sync : s.bit F.TWIN_STAT_SYNC = true) :
    (s.twinLaneDown l.val).twinAlive = false ∧ (s.twinLaneDown l.val).rd F.TWIN_STAT_SYNC = 0 ∧
      (s.twinLaneDown l.val).rd F.TWIN_STAT_UNSYNC_REASON = 1 ∧ (s.twinLaneDown l.val).twin.aligning = false := by
  have was : s.twinAlive = true := by rw [State.twinAlive_eq _ l, up, Bool.true_or]
  have dead : (s.wrB (laneFld l.val) false).twinAlive = false := by rw [State.twinAlive_wrB, other, Bool.or_false]
  have field (f : Fld) (ha : F.TWIN_STAT_LANE_A_UP.apart f = true) (hb : F.TWIN_STAT_LANE_B_UP.apart f = true) :
      (s.wrB (laneFld l.val) false).rd f = s.rd f := State.rd_wr_apart s _ _ _ _ _ (laneFld_apart l ha hb)
  have paired' : (s.wrB (laneFld l.val) false).paired = true := by
    unfold State.paired State.joinable State.devId State.bit at paired ⊢
    rw [field _ (by decide) (by decide), field _ (by decide) (by decide), field _ (by decide) (by decide)]
    exact paired
  have active' : (s.wrB (laneFld l.val) false).roleIs .active = true := by
    unfold State.roleIs at active ⊢
    rw [field _ (by decide) (by decide)]
    exact active
  have sync' : (s.wrB (laneFld l.val) false).bit F.TWIN_STAT_SYNC = true := by
    unfold State.bit at sync ⊢
    rw [field _ (by decide) (by decide)]
    exact sync
  have lost : s.twinLaneDown l.val = State.syncLost { s.wrB (laneFld l.val) false with
      twin := { s.twin with aligning := false, alignDone := false } } .link := by
    unfold State.twinLaneDown
    dsimp only
    rw [was, dead, paired', if_neg (by decide)]
    exact if_pos active'
  rw [lost]
  refine ⟨?_, State.syncLost_sync _ _, ?_, ?_⟩
  · have foot := State.syncLost_foot { s.wrB (laneFld l.val) false with twin := { s.twin with aligning := false, alignDone := false } } .link
    unfold State.twinAlive at dead ⊢
    rw [foot.bit _ 0 0 (by decide), foot.bit _ 0 0 (by decide)]
    exact dead
  · unfold State.syncLost
    rw [if_neg (by rw [Bool.not_eq_true', Bool.not_eq_false]; exact sync')]
    exact (State.raise_rd_apart _ _ _ (by decide)).trans (State.rd_wr_same _ _ _ _ _)
  · obtain ⟨outbox, twin, -, -⟩ := State.syncLost_twin { s.wrB (laneFld l.val) false with
      twin := { s.twin with aligning := false, alignDone := false } } .link
    rw [twin]

/-- Settles O39: each command by the equation of its effect. -/
theorem twinLink : Obligations.TwinLink := by
  unfold Obligations.TwinLink
  intro s items l serves paired r usable linked
  have deck : s.serves [.deck] := State.serves_of_mem serves (by simp)
  have link : s.serves [.link] := State.serves_of_mem serves (by simp)
  refine ⟨fun alive standby => ?_, fun frame count crcOk alive standby early => ?_, fun active sync late => ?_, fun active refused => ?_,
    fun r' armed early => ?_, fun r' armed late => ?_, fun alive role agree => ?_, fun aligning => ?_, fun other => ?_,
    fun up other active sync => ?_, fun use noFault steady => ?_, fun use standby dead sync idle => ?_, fun unusable => ?_,
    fun use fault => ?_, fun frame standby alive off => ?_⟩
  · refine ⟨_, (State.act_eq _ serves : execMirrorFrame items s = _), ?_⟩
    dsimp only
    rw [paired, alive, if_neg (by decide), if_pos standby]
    split <;> rfl
  · refine ⟨_, (State.act_eq _ serves : execHeartbeat frame count crcOk s = _), ?_⟩
    have before : s.beforeDeadline = true := decide_eq_true early
    dsimp only
    rw [paired, standby, alive, before, Bool.true_or, if_neg (by decide), Bool.true_and]
  · exact Completes.of_act _ deck rfl (State.relArm_arms paired active sync late)
  · exact Completes.of_act _ deck rfl (State.relArm_refuses paired active refused)
  · refine Completes.of_act _ deck rfl ?_
    unfold State.relCancel
    rw [armed]
    dsimp only
    rw [if_pos early]
    exact Sets.of_wrs rfl
  · refine Completes.of_act _ deck rfl ?_
    unfold State.relCancel
    rw [armed]
    dsimp only
    rw [if_neg (by omega)]
    exact Sets.of_wrs rfl
  · refine Completes.of_act _ serves rfl ?_
    unfold State.realign
    rw [paired, alive, if_pos (by rcases role with h | h <;> simp [h])]
    rw [State.startAlign_of_agree (s := s.wrB F.TWIN_STAT_SYNC false) agree]
    exact Sets.of_wrs rfl
  · refine ⟨_, (State.act_eq _ serves : execAlignDone items s = _), ?_⟩
    dsimp only
    rw [aligning, Bool.not_true, if_neg Bool.false_ne_true]
    exact Sets.of_wrs rfl
  · refine ⟨_, (State.act_eq _ link : execTwinLaneDown l s = _), ?_⟩
    unfold State.twinLaneDown
    dsimp only
    rw [State.twinAlive_wrB, other, if_pos (by simp)]
    exact s.sets_lane l false
  · exact ⟨_, (State.act_eq _ link : execTwinLaneDown l s = _), State.twinLaneDown_last l paired up other active sync⟩
  · refine ⟨_, execTwinLaneUp_eq link l use.1 use.2, ?_⟩
    rw [noFault, Bool.and_false, if_neg Bool.false_ne_true, if_neg (by rcases steady with h | h <;> simp [h])]
    exact s.sets_laneUp l
  · have noFault : s.roleIs .linkfault = false := State.roleIs_of standby (by decide)
    refine ⟨_, execTwinLaneUp_eq link l use.1 use.2, _, s.sets_laneUp l, ?_⟩
    rw [noFault, Bool.and_false, if_neg Bool.false_ne_true, paired, standby, dead, sync, idle, if_pos (by decide)]
  · refine ⟨_, (State.act_eq _ link : execTwinLaneUp l s = _), ?_⟩
    dsimp only
    rw [if_pos (by
      by_contra h
      simp only [Bool.or_eq_true, not_or, Bool.not_eq_true] at h
      exact unusable h)]
  · refine ⟨_, execTwinLaneUp_eq link l use.1 use.2, ?_⟩
    rw [paired, fault, if_pos (by decide)]
    obtain ⟨foot, role, sync, -⟩ := (s.laneUp l).enterStandby_joined
    refine ⟨?_, role, sync⟩
    have alive : (s.laneUp l).twinAlive = true := (s.twinAlive_wrB l true).trans (Bool.true_or _)
    unfold State.twinAlive at alive ⊢
    rw [foot.bit _ 0 0 (by decide), foot.bit _ 0 0 (by decide)]
    exact alive
  · refine ⟨_, (State.act_eq _ serves : execTwinTickMarker frame s = _), ?_⟩
    dsimp only
    rw [paired, standby, alive, off, Bool.true_or, if_pos (by decide)]
    exact Sets.of_wrs rfl

end Sys2Proof.Machine
end

section
/-! The trestle ring (R385 to R398): what each of its operations writes, and what it keeps of the ring as this device knows it. -/

namespace Sys2Proof.Machine

set_option Elab.async false

variable {s : State}

/-! ### What the operations of the ring write -/

/-- What the election of a ring has come to: the members, the candidate and the spans it has been the same, and the spans locked. -/
def TreSt.ring (t : TreSt) : List Member × Option Nat × Nat × Nat := (t.members, t.candidate, t.sameSpans, t.lockedSpans)

/-- What the master sets (R393, R394). -/
def masterFlds : List Fld := [F.TRESTLE_W, F.TRESTLE_MASTER_P, F.TRESTLE_D_FRAME_LO, F.TRESTLE_D_FRAME_HI_A_HI,
  F.TRESTLE_D_FRAME_HI_D_NEW, F.TRESTLE_STAT_D_PENDING]

/-- From `s` to `t` only fields of `fs` are written, and the election stands as it did. -/
structure RingKept (fs : List Fld) (s t : State) : Prop where
  foot : Foot fs s t
  ring : t.tre.ring = s.tre.ring

namespace RingKept

variable {fs gs : List Fld} {t u : State}

theorem refl (s : State) : RingKept fs s s := ⟨Foot.refl s, rfl⟩

theorem trans (h : RingKept fs s t) (h' : RingKept fs t u) : RingKept fs s u := ⟨h.foot.trans h'.foot, h'.ring.trans h.ring⟩

theorem mono (h : RingKept gs s t) (sub : (gs.all fun g => decide (g ∈ fs)) = true) : RingKept fs s t := ⟨h.foot.mono sub, h.ring⟩

theorem wr {f : Fld} {v i j : Nat} (h : RingKept fs s t) (hf : f ∈ fs := by decide) : RingKept fs s (t.wr f v i j) :=
  ⟨h.foot.wr hf, h.ring⟩

theorem wrB {f : Fld} {b : Bool} {i j : Nat} (h : RingKept fs s t) (hf : f ∈ fs := by decide) : RingKept fs s (t.wrB f b i j) :=
  h.wr hf

theorem ite {c : Prop} {_ : Decidable c} (h : RingKept fs s t) (hu : RingKept fs s u) : RingKept fs s (if c then t else u) := by
  split
  · exact h
  · exact hu

theorem raise {code index : Nat} {words : List Nat} {pier : Option Nat} (h : RingKept fs s t)
    (hf : F.EVR_QLOST ∈ fs := by decide) : RingKept fs s (t.raise code index words pier) := by
  obtain ⟨e, o, eq⟩ := (EventOnly.raise t code index words pier).rest
  exact ⟨h.foot.raise hf, (congrArg (fun u : State => u.tre.ring) eq).trans h.ring⟩

end RingKept

theorem State.announceD_kept (s : State) (a d : Nat) : RingKept masterFlds s (s.announceD a d) :=
  have announced : RingKept masterFlds s { s with tre := { s.tre with dChange := some (a, d) } } := ⟨(Foot.refl s).same, rfl⟩
  announced.wr.wr.wr.wrB

theorem State.masterUpdate_kept (s : State) : RingKept masterFlds s s.masterUpdate := by
  unfold State.masterUpdate
  extract_lets m d
  have path : RingKept masterFlds s m := (RingKept.refl s).wr.wr
  have drawn (u : State) : RingKept masterFlds u u.masterFrame.2 := ⟨(Foot.refl u).same, rfl⟩
  refine (RingKept.refl s).ite ?_
  have delay : RingKept masterFlds s (if (m.tre.dChange.map (·.2)).getD (m.rd F.TRESTLE_STAT_D + 1) = d then m else
      m.masterFrame.2.announceD (match m.masterFrame.2.tre.spanChange with | some (f, _) => f | none => m.masterFrame.1) d) :=
    path.ite ((path.trans (drawn m)).trans (State.announceD_kept _ _ _))
  refine RingKept.ite delay ?_
  have granted := delay.trans (drawn _)
  exact ⟨granted.foot.same, granted.ring⟩

/-- What a change of the ring's state writes (R387, R475). -/
def stateFlds : List Fld := [F.TRESTLE_STAT_STATE, F.SYS_START_STAT_STEP]

theorem State.treTo_kept (s : State) (k : TreState) : RingKept stateFlds s (s.treTo k) := by
  have set (runFrom : Nat) : RingKept stateFlds s { s with tre := { s.tre with runFrom := runFrom } } := ⟨(Foot.refl s).same, rfl⟩
  have next : RingKept stateFlds s (if k = .joining then { s with tre := { s.tre with runFrom := 2 ^ 48 } }
      else if k = .run && !(s.treIs .holdover && decide (s.tre.runFrom < 2 ^ 48)) then
        { s with tre := { s.tre with runFrom := s.frame + 1 } } else s) :=
    (set _).ite ((set _).ite (RingKept.refl s))
  exact next.wr.wr.ite next.wr

theorem State.treTo_state (s : State) (k : TreState) : (s.treTo k).rd F.TRESTLE_STAT_STATE = k.code := by
  unfold State.treTo
  dsimp only
  generalize written : State.wr _ F.TRESTLE_STAT_STATE k.code = v
  have set : v.rd F.TRESTLE_STAT_STATE = k.code := by
    rw [← written, State.rd_wr_same]
    cases k <;> rfl
  split
  · exact (State.rd_wr_apart _ _ _ _ _ _ (by decide)).trans set
  · exact set

theorem State.localTick_kept (s : State) (src : Nat) : RingKept [F.SPAN_STAT_SOURCE] s (s.localTick src) :=
  (RingKept.refl s).wr.ite (RingKept.refl s)

theorem State.localTick_source (s : State) (src : Nat) (set : src ≠ 0) : (s.localTick src).rd F.SPAN_STAT_SOURCE ≠ src := by
  unfold State.localTick
  split
  · rw [State.rd_wr_same]
    simpa using set.symm
  case isFalse other => exact other

theorem State.treSend_eq (s : State) (p : Nat) (x : Nat → TreOut) :
    s.treSend p x = { s with tre := { s.tre with sent := s.tre.sent ++ if s.portUp p then [x p] else [] } } := by
  have up : s.portUp p = (s.rd F.TRESTLE_PORT_STAT_LINK p == 2) := rfl
  unfold State.treSend
  rw [up]
  split
  · rfl
  · rw [List.append_nil]

theorem State.treSendBoth_eq (s : State) (x : Nat → TreOut) :
    ∃ sent, s.treSendBoth x = { s with tre := { s.tre with sent := sent } } := by
  unfold State.treSendBoth
  rw [State.treSend_eq, State.treSend_eq]
  exact ⟨_, rfl⟩

theorem State.reportHops_idle (quiet : s.treIs .joining = false) (idle : s.treIs .run = false) : s.reportHops = s := by
  unfold State.reportHops
  rw [quiet, idle]
  rfl

theorem State.reportHops_rd (s : State) (f : Fld) (i j : Nat) : s.reportHops.rd f i j = s.rd f i j := by
  unfold State.reportHops
  obtain ⟨sent, eq⟩ := s.treSendBoth_eq fun q => .announce q s.ownMember none
  rw [eq]
  split <;> rfl

theorem State.treIs_of {k k' : TreState} (h : s.treIs k = true) (other : k ≠ k') : s.treIs k' = false := by
  unfold State.treIs at h ⊢
  rw [beq_iff_eq] at h
  rw [h]
  revert other
  cases k <;> cases k' <;> decide

theorem Foot.treIs {fs : List Fld} {t : State} (h : Foot fs s t) (k : TreState)
    (apart : (fs.all fun g => g.apart F.TRESTLE_STAT_STATE) = true := by decide) : t.treIs k = s.treIs k := by
  unfold State.treIs
  rw [h.rd _ 0 0 apart]

/-! ### Ports (R385 to R387) -/

/-- A port that comes up shows its hop delay and its neighbour (R385, R386). -/
def State.portTrained (s : State) (p : Fin 2) (hop nbr : Nat) : State :=
  ((s.wr F.TRESTLE_PORT_STAT_LINK 2 p).wr F.TRESTLE_PORT_HOP hop p).wr F.TRESTLE_PORT_STAT_NEIGHBOUR nbr p

theorem State.portTrained_sets (s : State) (p : Fin 2) (rt : BitVec 20) (nbr : BitVec 16) :
    Sets s (s.portTrained p (hopPs rt.toNat) nbr.toNat) [(F.TRESTLE_PORT_STAT_LINK, p.val, 0, 2),
      (F.TRESTLE_PORT_HOP, p.val, 0, hopPs rt.toNat), (F.TRESTLE_PORT_STAT_NEIGHBOUR, p.val, 0, nbr.toNat)] := by
  refine Sets.of_wrs rfl ?_
  have hop : hopPs rt.toNat < 2 ^ F.TRESTLE_PORT_HOP.width := lt_of_le_of_lt (Nat.min_le_left _ _) (by decide)
  have neighbour : nbr.toNat < 2 ^ F.TRESTLE_PORT_STAT_NEIGHBOUR.width := nbr.isLt
  simp only [Fits, List.all_cons, List.all_nil, Bool.and_true, Bool.and_eq_true, decide_eq_true_eq]
  exact ⟨by decide, hop, neighbour⟩

theorem State.portTrained_foot (s : State) (p : Fin 2) (hop nbr : Nat) :
    Foot [F.TRESTLE_PORT_STAT_LINK, F.TRESTLE_PORT_HOP, F.TRESTLE_PORT_STAT_NEIGHBOUR, F.EVR_QLOST] s
      ((s.portTrained p hop nbr).raise 0xA01 p [p, hop, nbr]) :=
  Foot.raise (Foot.wr (Foot.wr (Foot.wr (Foot.refl s))))

/-- ELECT begins with this device as the candidate where it is eligible (R387, R388). -/
def State.electionBegun (s : State) : State :=
  { s with tre := { s.tre with candidate := if s.eligible then some s.devId else none, sameSpans := 0, members := [] } }

theorem execTrainingDone_eq (p : Fin 2) (rt : BitVec 20) (nbr : BitVec 16) (s : State) :
    execTrainingDone p rt nbr s = s.act [.deck, .link] fun s =>
      if s.rd F.TRESTLE_PORT_STAT_LINK p != 1 then s
      else
        let v := ((s.portTrained p (hopPs rt.toNat) nbr.toNat).raise 0xA01 p [p, hopPs rt.toNat, nbr.toNat]).reportHops
        if v.treIs .training then v.electionBegun.treTo .elect else v := rfl

theorem trainingDone_up (p : Fin 2) (rt : BitVec 20) (nbr : BitVec 16) (serves : s.serves [.deck, .link])
    (trains : s.rd F.TRESTLE_PORT_STAT_LINK p = 1) (later : s.treIs .training = false) :
    Completes (.trainingDone p rt nbr) s fun t =>
      SetsThen s t [(F.TRESTLE_PORT_STAT_LINK, p.val, 0, 2), (F.TRESTLE_PORT_HOP, p.val, 0, hopPs rt.toNat),
        (F.TRESTLE_PORT_STAT_NEIGHBOUR, p.val, 0, nbr.toNat)]
        fun v => (v.raise 0xA01 p [p, hopPs rt.toNat, nbr.toNat]).reportHops := by
  refine Completes.of_act _ serves (execTrainingDone_eq p rt nbr s) ?_
  have state : ((s.portTrained p (hopPs rt.toNat) nbr.toNat).raise 0xA01 p [p, hopPs rt.toNat, nbr.toNat]).reportHops.treIs
      .training = false := by
    unfold State.treIs
    rw [State.reportHops_rd]
    exact ((s.portTrained_foot p _ _).treIs .training).trans later
  simp only [trains, bne_self_eq_false, Bool.false_eq_true, if_false, state]
  exact ⟨_, s.portTrained_sets p rt nbr, rfl⟩

theorem trainingDone_elects (p : Fin 2) (rt : BitVec 20) (nbr : BitVec 16) (serves : s.serves [.deck, .link])
    (trains : s.rd F.TRESTLE_PORT_STAT_LINK p = 1) (first : s.treIs .training = true) :
    Completes (.trainingDone p rt nbr) s fun t => ∃ v,
      SetsRaise s v [(F.TRESTLE_PORT_STAT_LINK, p.val, 0, 2), (F.TRESTLE_PORT_HOP, p.val, 0, hopPs rt.toNat),
        (F.TRESTLE_PORT_STAT_NEIGHBOUR, p.val, 0, nbr.toNat)] 0xA01 p [p, hopPs rt.toNat, nbr.toNat] ∧
      Sets { v with tre := { v.tre with
          candidate := if s.eligible then some s.devId else none, sameSpans := 0, members := [] } } t
        [(F.TRESTLE_STAT_STATE, 0, 0, 2)] := by
  refine Completes.of_act _ serves (execTrainingDone_eq p rt nbr s) ?_
  have foot := s.portTrained_foot p (hopPs rt.toNat) nbr.toNat
  generalize up : (s.portTrained p (hopPs rt.toNat) nbr.toNat).raise 0xA01 p [p, hopPs rt.toNat, nbr.toNat] = v at foot
  have training : v.treIs .training = true := (foot.treIs .training).trans first
  have quiet : v.reportHops = v :=
    State.reportHops_idle (State.treIs_of training (by decide)) (State.treIs_of training (by decide))
  have device : v.devId = s.devId := by
    unfold State.devId
    rw [foot.bit _ _ _ (by decide), foot.rd _ _ _ (by decide)]
  have eligible : v.eligible = s.eligible := by
    unfold State.eligible State.joinable
    rw [foot.bit _ _ _ (by decide), foot.bit _ _ _ (by decide), device]
  have begun : v.electionBegun.treTo .elect = v.electionBegun.wr F.TRESTLE_STAT_STATE 2 := by
    unfold State.treTo
    simp only [reduceCtorEq, if_false, beq_iff_eq, Bool.or_false, Bool.and_false, decide_false, Bool.false_and, Bool.false_eq_true,
      show ((TreState.elect == TreState.run) || (TreState.elect == TreState.off) || (TreState.elect == TreState.refused)) = false
        from rfl]
    rfl
  simp only [trains, bne_self_eq_false, Bool.false_eq_true, if_false, up, quiet, training, if_true, begun]
  refine ⟨v, ⟨_, s.portTrained_sets p rt nbr, up.symm⟩, ?_⟩
  rw [← device, ← eligible]
  exact Sets.of_wrs rfl

end Sys2Proof.Machine
end

section
/-! The trestle ring (R385 to R398): its ports, its election and its traffic. -/

namespace Sys2Proof.Machine

set_option Elab.async false

variable {s : State}

/-! ### Ports that train, go down or never come up (R385, R387) -/

theorem laneBlockLock_trains (p : Fin 2) (serves : s.serves [.deck, .link]) (ring : s.inRing = true)
    (down : s.rd F.TRESTLE_PORT_STAT_LINK p = 0) (whole : s.isRetired 4 p = false) (free : s.laneTested p = false) :
    Completes (.laneBlockLock p) s fun t => Sets s t [(F.TRESTLE_PORT_STAT_LINK, p, 0, 1)] := by
  refine Completes.of_act _ serves rfl ?_
  simp only [ring, down, whole, free, beq_self_eq_true, Bool.not_false, Bool.and_true, if_true]
  exact Sets.of_wrs rfl

theorem laneLockLoss_drops (p : Fin 2) (cause : Byte) (serves : s.serves [.deck, .link])
    (open_ : s.rd F.TRESTLE_PORT_STAT_LINK p ≠ 0) :
    Completes (.laneLockLoss p cause) s fun t =>
      SetsThen s t [(F.TRESTLE_PORT_STAT_LINK, p, 0, 0),
          (F.TRESTLE_PORT_ERR_DROPS, p, 0, min 65535 (s.rd F.TRESTLE_PORT_ERR_DROPS p + 1)), (F.TRESTLE_STAT_CLOSED, 0, 0, 0)]
        fun v => (v.raise 0xA00 p [p, cause.toNat]).reportHops.masterUpdate := by
  refine Completes.of_act (fun s => s.portDown p cause.toNat) (State.serves_of_mem serves (by simp)) rfl ?_
  unfold State.portDown
  rw [if_neg open_]
  refine ⟨_, Sets.of_wrs ?_ ?_, rfl⟩
  · have kept : (s.wr F.TRESTLE_PORT_STAT_LINK 0 p).rd F.TRESTLE_PORT_ERR_DROPS p = s.rd F.TRESTLE_PORT_ERR_DROPS p :=
      State.rd_wr_apart _ _ _ _ _ _ (by decide)
    unfold State.incSat State.addSat
    rw [kept]
    rfl
  · have count : min 65535 (s.rd F.TRESTLE_PORT_ERR_DROPS p + 1) < 2 ^ F.TRESTLE_PORT_ERR_DROPS.width :=
      lt_of_le_of_lt (Nat.min_le_left _ _) (by decide)
    simp only [Fits, List.all_cons, List.all_nil, Bool.and_true, Bool.and_eq_true, decide_eq_true_eq]
    exact ⟨by decide, count, by decide⟩

/-- What leaving the ring writes, with the ring's state and start-up's next step (R387, R475). -/
def State.leaveRows (s : State) (k : TreState) (r : TreReason) : List Row :=
  [(F.TRESTLE_STAT_REASON, 0, 0, r.code), (F.TRESTLE_PORT_STAT_LINK, 0, 0, 0), (F.TRESTLE_PORT_STAT_LINK, 1, 0, 0),
    (F.TRESTLE_STAT_MASTER, 0, 0, 0), (F.TRESTLE_STAT_CLOSED, 0, 0, 0),
    (F.SPAN_STAT_SOURCE, 0, 0, if s.rd F.SPAN_STAT_SOURCE = 1 then 0 else s.rd F.SPAN_STAT_SOURCE),
    (F.TRESTLE_STAT_STATE, 0, 0, k.code)] ++ if s.atStep .join then [(F.SYS_START_STAT_STEP, 0, 0, 6)] else []

theorem State.atStep_wr {f : Fld} {v i j : Nat} {k : Step} (s : State)
    (h : f.apart F.SYS_START_STAT_STEP = true := by decide) : (s.wr f v i j).atStep k = s.atStep k := by
  unfold State.atStep
  rw [State.rd_wr_apart _ _ _ _ _ _ h]

/-- Rows of other fields leave a field alone. -/
theorem Row.new_of_apart {rows : List Row} {f : Fld} {i j : Nat} (h : (rows.all fun r => r.1.apart f) = true := by rfl) :
    ∀ r ∈ rows, f.key i j ≠ r.1.key r.2.1 r.2.2.1 :=
  fun r hr => (Fld.key_ne_of_apart (List.all_eq_true.mp h r hr) _ _ _ _).symm

/-- A chain of writes of fields whose keys differ sets its rows. -/
theorem Sets.of_keys {u t : State} {rows : List Row} (eq : t = u.wrs rows) (fits : Fits rows = true)
    (keys : (rows.map fun r => r.1.key r.2.1 r.2.2.1).Nodup) : Sets u t rows :=
  eq ▸ (Sets.refl u).wrs rows (by simpa [Fits] using fits)
    ((List.pairwise_map.mp keys).imp fun h => h.symm) (by simp)

/-- A field that keeps its value may stand among the rows. -/
theorem Sets.keep {u t : State} {rows : List Row} (h : Sets u t rows) (f : Fld) (i j : Nat)
    (new : ∀ r ∈ rows, f.key i j ≠ r.1.key r.2.1 r.2.2.1) : Sets u t (rows ++ [(f, i, j, u.rd f i j)]) where
  rest := h.rest
  fields r hr := by
    rcases List.mem_append.mp hr with hr | hr
    · exact h.fields r hr
    · obtain rfl := List.mem_singleton.mp hr
      exact h.others f i j new
  others g i' j' hr := h.others g i' j' fun r hm => hr r (List.mem_append_left _ hm)

/-- The first writes of a device that leaves the ring (R387). -/
def State.leftRing (s : State) (r : TreReason) : State :=
  (((s.wr F.TRESTLE_STAT_REASON r.code).portsDown).wrB F.TRESTLE_STAT_MASTER false).wrB F.TRESTLE_STAT_CLOSED false

theorem State.leftRing_sets (s : State) (r : TreReason) : Sets s (s.leftRing r)
    [(F.TRESTLE_STAT_REASON, 0, 0, r.code), (F.TRESTLE_PORT_STAT_LINK, 0, 0, 0), (F.TRESTLE_PORT_STAT_LINK, 1, 0, 0),
      (F.TRESTLE_STAT_MASTER, 0, 0, 0), (F.TRESTLE_STAT_CLOSED, 0, 0, 0)] := by
  have reason : r.code < 2 ^ F.TRESTLE_STAT_REASON.width := by cases r <;> decide
  refine Sets.of_keys rfl ?_ (by simp only [List.map_cons, List.map_nil]; decide)
  simp only [Fits, List.all_cons, List.all_nil, Bool.and_true, Bool.and_eq_true, decide_eq_true_eq]
  exact ⟨reason, by decide⟩

/-- A ring that is left lets start-up go on (R475). -/
theorem State.treTo_out {u : State} {k : TreState} {b : Bool} (out : k = .off ∨ k = .refused)
    (step : (u.wr F.TRESTLE_STAT_STATE k.code).atStep .join = b) :
    u.treTo k = if b then (u.wr F.TRESTLE_STAT_STATE k.code).wr F.SYS_START_STAT_STEP 6 else u.wr F.TRESTLE_STAT_STATE k.code := by
  subst step
  have ends : ((k == .run) || (k == .off) || (k == .refused)) = true := by rcases out with rfl | rfl <;> rfl
  have other : k ≠ .joining ∧ k ≠ .run := by rcases out with rfl | rfl <;> decide
  unfold State.treTo
  simp only [ends, other.1, other.2, if_false, decide_false, Bool.false_and, Bool.false_eq_true, Bool.and_true]
  rfl

/-- What a device writes that leaves the ring (R387). -/
theorem State.leaveRing_sets (s : State) {k : TreState} (r : TreReason) (out : k = .off ∨ k = .refused) :
    Sets s (s.leaveRing k r) (s.leaveRows k r) := by
  have left := s.leftRing_sets r
  have kept : (s.leftRing r).rd F.SPAN_STAT_SOURCE = s.rd F.SPAN_STAT_SOURCE :=
    left.others _ 0 0 (Row.new_of_apart)
  have step : (s.leftRing r).atStep .join = s.atStep .join := by
    unfold State.atStep
    rw [left.others _ 0 0 (Row.new_of_apart)]
  have ticked : Sets s ((s.leftRing r).localTick 1) ([(F.TRESTLE_STAT_REASON, 0, 0, r.code), (F.TRESTLE_PORT_STAT_LINK, 0, 0, 0),
      (F.TRESTLE_PORT_STAT_LINK, 1, 0, 0), (F.TRESTLE_STAT_MASTER, 0, 0, 0), (F.TRESTLE_STAT_CLOSED, 0, 0, 0)] ++
      [(F.SPAN_STAT_SOURCE, 0, 0, if s.rd F.SPAN_STAT_SOURCE = 1 then 0 else s.rd F.SPAN_STAT_SOURCE)]) := by
    unfold State.localTick
    rw [kept]
    split
    · exact left.wr _ 0 0 (by decide) (Row.new_of_apart)
    · exact left.keep _ 0 0 (Row.new_of_apart)
  have stays : ((s.leftRing r).localTick 1).atStep .join = s.atStep .join := by
    unfold State.atStep at step ⊢
    rw [((s.leftRing r).localTick_kept 1).foot.rd _ 0 0 (by decide), step]
  have set := ticked.wr F.TRESTLE_STAT_STATE 0 0 (v := k.code) (by rcases out with rfl | rfl <;> decide) (Row.new_of_apart)
  have steps : s.leaveRing k r = _ := State.treTo_out out (((State.atStep_wr _).trans stays))
  unfold State.leaveRows
  rw [steps]
  split
  · exact set.wr F.SYS_START_STAT_STEP 0 0 (v := 6) (by decide) (Row.new_of_apart (by
      simp only [List.cons_append, List.nil_append, List.all_cons, List.all_nil]
      rfl))
  · exact (List.append_nil _).symm ▸ set

theorem ringTrainTimeout_leaves (serves : s.serves [.deck, .link]) (trains : s.treIs .training = true)
    (first : s.portUp 0 = false) (second : s.portUp 1 = false) :
    Completes .ringTrainTimeout s fun t => Sets s t (s.leaveRows .off .link) := by
  refine Completes.of_act _ serves rfl ?_
  simp only [trains, first, second, Bool.not_false, Bool.and_true, if_true]
  exact s.leaveRing_sets .link (.inl rfl)

/-! ### Announcements (R387, R388) -/

/-- A member's announcement goes on, and the member is known (R387). -/
def State.memberHeard (s : State) (m : Member) (low : Nat) : State :=
  let v := s.treSendBoth fun q => .announce q m (s.lowestSeen low)
  let v := { v with tre := { v.tre with members := (v.tre.members.filter fun x => x.id != m.id) ++ [m] } }
  if m.hopE = 0 then v.wrB F.TRESTLE_STAT_CLOSED false else v

/-- The candidate is the lowest ID seen; another one starts the count of its spans (R388). -/
def State.candidateSeen (s : State) (c : Option Nat) : State :=
  if c = s.tre.candidate then s else { s with tre := { s.tre with candidate := c, sameSpans := 0 } }

theorem execAnnounceFrame_eq (m : Member) (low : BitVec 16) (s : State) :
    execAnnounceFrame m low s = s.act [.deck, .link] fun s =>
      if !(s.inRing && (s.portUp 0 || s.portUp 1)) then s
      else if m.id == s.devId then
        if m.uid != Config.uid then
          (s.leaveRing .refused .dupId).event 0xA08 ([m.id] ++ w64 Config.uid ++ w64 m.uid)
        else (s.wrB F.TRESTLE_STAT_CLOSED (s.portUp 0 && s.portUp 1)).masterUpdate
      else if ((s.memberHeard m low.toNat).treIs .elect || (s.memberHeard m low.toNat).treIs .joining) &&
          nMax (s.memberHeard m low.toNat).sel < (s.memberHeard m low.toNat).ringSize then
        ((s.memberHeard m low.toNat).leaveRing .refused .size).event 0xA06
          [TreReason.size.code, (s.memberHeard m low.toNat).ringSize]
      else ((s.memberHeard m low.toNat).candidateSeen ((s.memberHeard m low.toNat).lowestSeen low.toNat)).masterUpdate := by
  unfold execAnnounceFrame
  congr 1
  funext s
  cases own : m.id == s.devId
  · have device : (s.treSendBoth fun q => .announce q m (s.lowestSeen low.toNat)).devId = s.devId := by
      obtain ⟨sent, eq⟩ := s.treSendBoth_eq fun q => .announce q m (s.lowestSeen low.toNat)
      rw [eq]
      rfl
    simp only [Bool.false_eq_true, if_false, device, own]
    rfl
  · simp only [own, if_true]

/-- Another device with the same ID (R387). -/
theorem announceFrame_refuses {m : Member} (low : BitVec 16) (serves : s.serves [.deck, .link]) (ring : s.inRing = true)
    (up : s.portUp 0 = true ∨ s.portUp 1 = true) (own : m.id = s.devId) (other : m.uid ≠ Config.uid) :
    Completes (.announceFrame m low) s fun t => t.rd F.TRESTLE_STAT_STATE = 6 ∧ t.rd F.TRESTLE_STAT_REASON = 2 ∧
      t.rd F.TRESTLE_PORT_STAT_LINK 0 = 0 ∧ t.rd F.TRESTLE_PORT_STAT_LINK 1 = 0 := by
  refine Completes.of_act _ serves (execAnnounceFrame_eq m low s) ?_
  have ports : (s.portUp 0 || s.portUp 1) = true := by simpa using up
  simp only [ring, ports, Bool.and_true, Bool.not_true, Bool.false_eq_true, if_false, own, beq_self_eq_true, if_true,
    bne_iff_ne.mpr other, State.event_eq_raise]
  have left := s.leaveRing_sets (k := .refused) .dupId (.inr rfl)
  have row (r : Row) (hr : r ∈ s.leaveRows .refused .dupId) (apart : r.1.apart F.EVR_QLOST = true) (words : List Nat) :
      ((s.leaveRing .refused .dupId).raise 0xA08 0xFF words).rd r.1 r.2.1 r.2.2.1 = r.2.2.2 :=
    (State.raise_rd_apart _ _ _ apart).trans (left.fields r hr)
  exact ⟨row (F.TRESTLE_STAT_STATE, 0, 0, 6) (by simp [State.leaveRows, TreState.code]) (by decide) _,
    row (F.TRESTLE_STAT_REASON, 0, 0, 2) (by simp [State.leaveRows, TreReason.code]) (by decide) _,
    row (F.TRESTLE_PORT_STAT_LINK, 0, 0, 0) (by simp [State.leaveRows]) (by decide) _,
    row (F.TRESTLE_PORT_STAT_LINK, 1, 0, 0) (by simp [State.leaveRows]) (by decide) _⟩

/-- The announcement that came round the ring (R393). -/
theorem announceFrame_closes {m : Member} (low : BitVec 16) (serves : s.serves [.deck, .link]) (ring : s.inRing = true)
    (up : s.portUp 0 = true ∨ s.portUp 1 = true) (own : m.id = s.devId) (same : m.uid = Config.uid) :
    Completes (.announceFrame m low) s fun t =>
      SetsThen s t [(F.TRESTLE_STAT_CLOSED, 0, 0, (s.portUp 0 && s.portUp 1).toNat)] State.masterUpdate := by
  refine Completes.of_act _ serves (execAnnounceFrame_eq m low s) ?_
  have ports : (s.portUp 0 || s.portUp 1) = true := by simpa using up
  simp only [ring, ports, Bool.and_true, Bool.not_true, Bool.false_eq_true, if_false, own, beq_self_eq_true, if_true, same,
    bne_self_eq_false]
  refine ⟨_, Sets.of_wrs rfl ?_, rfl⟩
  simp only [Fits, List.all_cons, List.all_nil, Bool.and_true, decide_eq_true_eq]
  exact (Bool.toNat_lt _)

theorem State.memberHeard_spec (s : State) (m : Member) (low : Nat) :
    Foot [F.TRESTLE_STAT_CLOSED] s (s.memberHeard m low) ∧
      (s.memberHeard m low).tre.members = (s.tre.members.filter fun x => x.id != m.id) ++ [m] := by
  obtain ⟨sent, eq⟩ := s.treSendBoth_eq fun q => .announce q m (s.lowestSeen low)
  unfold State.memberHeard
  rw [eq]
  dsimp only
  split
  · exact ⟨(Foot.refl s).same.wrB, rfl⟩
  · exact ⟨(Foot.refl s).same, rfl⟩

theorem State.candidateSeen_spec (s : State) (c : Option Nat) : (s.candidateSeen c).tre.candidate = c ∧
    (s.candidateSeen c).tre.members = s.tre.members := by
  unfold State.candidateSeen
  split
  case isTrue same => exact ⟨same.symm, rfl⟩
  case isFalse => exact ⟨rfl, rfl⟩

/-- Another member is kept, and the lowest eligible ID seen (R388). -/
theorem announceFrame_keeps {m : Member} (low : BitVec 16) (serves : s.serves [.deck, .link]) (ring : s.inRing = true)
    (up : s.portUp 0 = true ∨ s.portUp 1 = true) (other : m.id ≠ s.devId) (runs : s.treIs .run = true) :
    Completes (.announceFrame m low) s fun t =>
      t.tre.members = (s.tre.members.filter fun x => x.id != m.id) ++ [m] ∧
      t.tre.candidate = { s with tre := { s.tre with members := t.tre.members } }.lowestSeen low.toNat := by
  refine Completes.of_act _ serves (execAnnounceFrame_eq m low s) ?_
  have ports : (s.portUp 0 || s.portUp 1) = true := by simpa using up
  obtain ⟨foot, members⟩ := s.memberHeard_spec m low.toNat
  generalize s.memberHeard m low.toNat = v at foot members
  have running : v.treIs .run = true := (foot.treIs .run).trans runs
  simp only [ring, ports, Bool.and_true, Bool.not_true, Bool.false_eq_true, if_false, beq_eq_false_iff_ne.mpr other,
    State.treIs_of running (show TreState.run ≠ .elect by decide), State.treIs_of running (show TreState.run ≠ .joining by decide),
    Bool.or_self, Bool.false_and]
  obtain ⟨seen, stays⟩ := v.candidateSeen_spec (v.lowestSeen low.toNat)
  have kept := (v.candidateSeen (v.lowestSeen low.toNat)).masterUpdate_kept.ring
  simp only [TreSt.ring, Prod.mk.injEq] at kept
  obtain ⟨same, candidate, -, -⟩ := kept
  have all := (same.trans stays).trans members
  refine ⟨all, (candidate.trans seen).trans ?_⟩
  rw [all, ← members]
  have lock := foot.bit F.SYS_DEVICE_ID_LOCK 0 0 (by decide)
  have id := foot.rd F.SYS_DEVICE_ID_ID 0 0 (by decide)
  have candidacy := foot.bit F.TRESTLE_CTL_ELIG 0 0 (by decide)
  unfold State.lowestSeen State.eligible State.joinable State.devId
  rw [lock, id, candidacy]
  rfl

end Sys2Proof.Machine
end

section
/-! O40: the trestle ring's election, its markers and its frames. -/

namespace Sys2Proof.Machine

set_option Elab.async false

variable {s : State}

/-! ### The election (R387, R388) -/

/-- What a settled election writes of the master (R388). -/
def electFlds : List Fld := [F.TRESTLE_MASTER_ID, F.TRESTLE_STAT_MASTER, F.SPAN_STAT_SOURCE, F.TRESTLE_MASTER_P, F.EVR_QLOST]

/-- The master is known from now on, and its markers are counted anew (R388). -/
def State.masterKnown (s : State) (c : Nat) : State :=
  let changed := s.rd F.TRESTLE_MASTER_ID != c
  let s := (s.wr F.TRESTLE_MASTER_ID c).wrB F.TRESTLE_STAT_MASTER (c == s.devId)
  let s := if c = s.devId then s.localTick 1 else s
  let s := s.wr F.TRESTLE_MASTER_P s.ringSize
  let s := { s with tre := { s.tre with lockedSpans := 0, markerMisses := 0, grants := [] } }
  if changed then s.event 0xA02 [c, s.ringSize] else s

/-- Where the ring's state goes on when the election settles (R387). -/
def State.electedState (s : State) : State :=
  if s.treIs .elect then s.treTo .joining else if s.treIs .holdover then s.treTo .run else s

/-- A settled election shows the master, and its count of locked spans begins. -/
structure MasterSet (s t : State) (c : Nat) : Prop where
  id : t.rd F.TRESTLE_MASTER_ID = c
  flag : t.bit F.TRESTLE_STAT_MASTER = (c == s.devId)
  locked : t.tre.lockedSpans = 0

theorem MasterSet.kept {fs : List Fld} {t u : State} {c : Nat} (h : MasterSet s t c) (k : RingKept fs t u)
    (id : (fs.all fun g => g.apart F.TRESTLE_MASTER_ID) = true := by decide)
    (flag : (fs.all fun g => g.apart F.TRESTLE_STAT_MASTER) = true := by decide) : MasterSet s u c := by
  have ring := k.ring
  simp only [TreSt.ring, Prod.mk.injEq] at ring
  obtain ⟨-, -, -, locked⟩ := ring
  exact ⟨(k.foot.rd _ 0 0 id).trans h.id, (k.foot.bit _ 0 0 flag).trans h.flag, locked.trans h.locked⟩

theorem State.masterKnown_set (s : State) {c : Nat} (fits : c < 65536) :
    MasterSet s (s.masterKnown c) c ∧ Foot electFlds s (s.masterKnown c) := by
  generalize named : (s.wr F.TRESTLE_MASTER_ID c).wrB F.TRESTLE_STAT_MASTER (c == s.devId) = u
  have id : u.rd F.TRESTLE_MASTER_ID = c := by
    rw [← named]
    refine (State.rd_wr_apart _ _ _ _ _ _ (by decide)).trans ?_
    rw [State.rd_wr_same]
    exact Nat.mod_eq_of_lt fits
  have flag : u.bit F.TRESTLE_STAT_MASTER = (c == s.devId) := by
    rw [← named, State.wrB, State.bit_wr_same]
    cases c == s.devId <;> rfl
  have first : Foot electFlds s u := by
    rw [← named]
    exact (Foot.refl s).wr.wrB
  generalize ticked : (if c = u.devId then u.localTick 1 else u) = w
  generalize counted : ({ w.wr F.TRESTLE_MASTER_P w.ringSize with
    tre := { w.tre with lockedSpans := 0, markerMisses := 0, grants := [] } } : State) = v
  have known : s.masterKnown c = if s.rd F.TRESTLE_MASTER_ID != c then v.event 0xA02 [c, v.ringSize] else v := by
    rw [← counted, ← ticked, ← named]
    rfl
  have later : Foot [F.SPAN_STAT_SOURCE, F.TRESTLE_MASTER_P] u v := by
    rw [← counted, ← ticked]
    exact (((u.localTick_kept 1).foot.mono (by decide)).ite (Foot.refl u)).wr.same
  have locked : v.tre.lockedSpans = 0 := by
    rw [← counted]
  have base : MasterSet s v c :=
    ⟨(later.rd _ 0 0 (by decide)).trans id, (later.bit _ 0 0 (by decide)).trans flag, locked⟩
  have foot : Foot electFlds s v := first.trans (later.mono (by decide))
  rw [known]
  split
  · exact ⟨base.kept (fs := [F.EVR_QLOST]) (RingKept.refl v).raise, foot.raise⟩
  · exact ⟨base, foot⟩

theorem State.electedState_kept (s : State) : RingKept stateFlds s s.electedState :=
  (s.treTo_kept _).ite ((s.treTo_kept _).ite (RingKept.refl s))

theorem execElectionSettled_eq {c : Nat} (s : State) (serves : s.serves [.deck, .link]) (candidate : s.tre.candidate = some c)
    (spans : 4 ≤ s.tre.sameSpans) (open_ : s.treIs .elect = true ∨ s.treIs .holdover = true ∨
      s.rd F.TRESTLE_MASTER_ID ≠ c ∧ (s.treIs .joining = true ∨ s.treIs .run = true)) :
    execElectionSettled s = .next (s.masterKnown c).electedState.masterUpdate := by
  have settles : (s.treIs .elect || s.treIs .holdover || ((s.treIs .joining || s.treIs .run) && s.rd F.TRESTLE_MASTER_ID != c))
      = true := by
    rcases open_ with h | h | ⟨h, h' | h'⟩ <;> simp [*]
  refine (State.act_eq _ serves).trans ?_
  simp only [candidate, settles, spans, decide_true, Bool.and_true, Bool.not_true, Bool.false_eq_true, if_false]
  rfl

/-- The state of the ring that a settled election leaves (R387). -/
theorem State.settled_spec {c : Nat} (fits : c < 65536) :
    MasterSet s (s.masterKnown c).electedState.masterUpdate c ∧
      (s.masterKnown c).electedState.masterUpdate.rd F.TRESTLE_STAT_STATE =
        if s.treIs .elect then 3 else if s.treIs .holdover then 4 else s.rd F.TRESTLE_STAT_STATE := by
  obtain ⟨set, foot⟩ := s.masterKnown_set fits
  have elect := foot.treIs .elect
  have holdover := foot.treIs .holdover
  have state := foot.rd F.TRESTLE_STAT_STATE 0 0 (by decide)
  generalize s.masterKnown c = v at set elect holdover state
  refine ⟨(set.kept v.electedState_kept).kept (State.masterUpdate_kept _), ?_⟩
  rw [(State.masterUpdate_kept _).foot.rd _ 0 0 (by decide)]
  unfold State.electedState
  rw [elect, holdover]
  split
  · exact v.treTo_state .joining
  · split
    · exact v.treTo_state .run
    · exact state

theorem electionSettled_opens {c : Nat} (serves : s.serves [.deck, .link]) (candidate : s.tre.candidate = some c) (fits : c < 65536)
    (spans : 4 ≤ s.tre.sameSpans) (open_ : s.treIs .elect = true ∨ s.treIs .holdover = true) :
    Completes .electionSettled s fun t => t.rd F.TRESTLE_MASTER_ID = c ∧ t.bit F.TRESTLE_STAT_MASTER = (c == s.devId) ∧
      t.rd F.TRESTLE_STAT_STATE = (if s.treIs .elect then 3 else 4) ∧ t.tre.lockedSpans = 0 := by
  obtain ⟨set, state⟩ := s.settled_spec fits
  refine ⟨_, execElectionSettled_eq s serves candidate spans (open_.imp_right .inl), set.id, set.flag, ?_, set.locked⟩
  rw [state]
  rcases open_ with h | h <;> simp [h]

theorem electionSettled_changes {c : Nat} (serves : s.serves [.deck, .link]) (candidate : s.tre.candidate = some c)
    (fits : c < 65536) (spans : 4 ≤ s.tre.sameSpans) (other : s.rd F.TRESTLE_MASTER_ID ≠ c)
    (joined : s.treIs .joining = true ∨ s.treIs .run = true) :
    Completes .electionSettled s fun t => t.rd F.TRESTLE_MASTER_ID = c ∧ t.bit F.TRESTLE_STAT_MASTER = (c == s.devId) ∧
      t.rd F.TRESTLE_STAT_STATE = s.rd F.TRESTLE_STAT_STATE := by
  obtain ⟨set, state⟩ := s.settled_spec fits
  refine ⟨_, execElectionSettled_eq s serves candidate spans (.inr (.inr ⟨other, joined⟩)), set.id, set.flag, ?_⟩
  have elect : s.treIs .elect = false := by rcases joined with h | h <;> exact State.treIs_of h (by decide)
  have holdover : s.treIs .holdover = false := by rcases joined with h | h <;> exact State.treIs_of h (by decide)
  rw [state, elect, holdover]
  rfl

/-- A member that joined publishes from the next frame on (R387). -/
theorem State.treTo_run (joining : s.treIs .joining = true) :
    s.treTo .run = if s.atStep .join then
      ({ s with tre := { s.tre with runFrom := s.frame + 1 } }.wr F.TRESTLE_STAT_STATE 4).wr F.SYS_START_STAT_STEP 6
      else { s with tre := { s.tre with runFrom := s.frame + 1 } }.wr F.TRESTLE_STAT_STATE 4 := by
  have holdover := State.treIs_of joining (show TreState.joining ≠ .holdover by decide)
  have step : ({ s with tre := { s.tre with runFrom := s.frame + 1 } }.wr F.TRESTLE_STAT_STATE 4).atStep .join
      = s.atStep .join := State.atStep_wr _
  have ends : (TreState.run == .run || TreState.run == .off || TreState.run == .refused) = true := rfl
  unfold State.treTo
  simp only [holdover, ends, reduceCtorEq, if_false, decide_true, Bool.false_and, Bool.not_false, Bool.and_true, if_true,
    TreState.code, step]
  rfl

theorem joinLocked_runs (serves : s.serves [.deck, .link]) (joining : s.treIs .joining = true)
    (locked : s.bit F.TRESTLE_STAT_MASTER = true ∨ 8 ≤ s.tre.lockedSpans) :
    Completes .joinLocked s fun t => Sets { s with tre := { s.tre with runFrom := s.frame + 1 } } t
      ([(F.TRESTLE_STAT_STATE, 0, 0, 4)] ++ if s.atStep .join then [(F.SYS_START_STAT_STEP, 0, 0, 6)] else []) := by
  refine Completes.of_act _ serves rfl ?_
  have joins : (s.bit F.TRESTLE_STAT_MASTER || decide (8 ≤ s.tre.lockedSpans)) = true := by simpa using locked
  simp only [joining, joins, Bool.and_true, if_true, State.treTo_run joining]
  split
  · exact Sets.of_wrs rfl
  · exact Sets.of_wrs rfl

/-! ### Tick markers (R389, R390) -/

/-- What a marker's measure left of the pace of this device: its tick counter's corrections, and what it counts of the master. -/
def State.pace (s : State) : Int × Int × Bool × Nat × Nat × List TreOut :=
  (s.span.extra, s.span.rate, s.tre.markerSeen, s.tre.markerMisses, s.tre.lockedSpans, s.tre.sent)

/-- What a marker's announcements write (R389). -/
def newsFlds : List Fld := F.TRESTLE_STAT_CLOSED :: F.TRESTLE_STAT_D :: masterFlds

/-- From `s` to `t` only fields of `fs` are written, in the same frame and at the same pace. -/
structure PaceKept (fs : List Fld) (s t : State) : Prop where
  foot : Foot fs s t
  frame : t.frame = s.frame
  pace : t.pace = s.pace

namespace PaceKept

variable {fs : List Fld} {t u : State}

theorem refl (s : State) : PaceKept fs s s := ⟨Foot.refl s, rfl, rfl⟩

theorem wr {f : Fld} {v i j : Nat} (h : PaceKept fs s t) (hf : f ∈ fs := by decide) : PaceKept fs s (t.wr f v i j) :=
  ⟨h.foot.wr hf, h.frame, h.pace⟩

theorem wrB {f : Fld} {b : Bool} {i j : Nat} (h : PaceKept fs s t) (hf : f ∈ fs := by decide) : PaceKept fs s (t.wrB f b i j) :=
  h.wr hf

theorem ite {c : Prop} {_ : Decidable c} (h : PaceKept fs s t) (hu : PaceKept fs s u) : PaceKept fs s (if c then t else u) := by
  split
  · exact h
  · exact hu

theorem announceD {a d : Nat} (h : PaceKept newsFlds s t) : PaceKept newsFlds s (t.announceD a d) :=
  have announced : PaceKept newsFlds s { t with tre := { t.tre with dChange := some (a, d) } } := ⟨h.foot.same, h.frame, h.pace⟩
  announced.wr.wr.wr.wrB

end PaceKept

theorem State.takeAnnouncements_kept (s : State) (k : Marker) : PaceKept newsFlds s (s.takeAnnouncements k) := by
  unfold State.takeAnnouncements
  extract_lets ring delay _m grant
  have first : PaceKept newsFlds s ring := (PaceKept.refl s).wr.wr.wrB
  have second : PaceKept newsFlds s delay := by
    unfold delay
    split
    · exact first.announceD.ite first
    · exact first.ite first.wr
  have third : PaceKept newsFlds s grant := by
    unfold grant
    split
    · exact ⟨second.foot.same, second.frame, second.pace⟩
    · exact second
  clear_value grant
  split
  · exact PaceKept.ite ⟨third.foot.same, third.frame, third.pace⟩ third
  · exact PaceKept.ite ⟨third.foot.same, third.frame, third.pace⟩ third

theorem State.adoptFrame_spec (s : State) (f : Nat) : (s.adoptFrame f).frame = f ∧ (s.adoptFrame f).pace = s.pace := by
  unfold State.adoptFrame
  split
  case isTrue same => exact ⟨same, rfl⟩
  case isFalse =>
    refine ⟨congrArg SpanSt.frame (State.raise_span _ _ _ _ _), ?_⟩
    unfold State.pace
    rw [State.event_eq_raise, State.raise_span, State.raise_tre]
    rfl

/-- The marker of the master as this device takes it: first the master where it knows none, then the frame, the tick's error
and what was announced (R389, R508). -/
def State.markerTaken (s : State) (k : Marker) (adopts : Bool) : State :=
  let s := if adopts then (s.wr F.TRESTLE_MASTER_ID k.master).event 0xA02 [k.master, s.ringSize] else s
  let s := s.adoptFrame k.frame
  let s := ((s.wrS F.TRESTLE_TICK_ERR k.errPs).wr F.SPAN_STAT_SOURCE 1).discipline k.errPs
  let locked := if k.errPs.natAbs ≤ 1000 then s.tre.lockedSpans + 1 else 0
  let s := { s with tre := { s.tre with markerSeen := true, markerMisses := 0, lockedSpans := locked } }
  s.takeAnnouncements k

theorem unsigned_fits (z : Int) : unsigned 32 z < 2 ^ F.TRESTLE_TICK_ERR.width := unsigned_lt 32 z

theorem State.markerTaken_spec (s : State) (k : Marker) (adopts : Bool) :
    (s.markerTaken k adopts).frame = k.frame ∧ (s.markerTaken k adopts).rd F.SPAN_STAT_SOURCE = 1 ∧
      (s.markerTaken k adopts).rd F.TRESTLE_TICK_ERR = unsigned 32 k.errPs ∧
      (s.markerTaken k adopts).pace = (s.span.extra - k.errPs, s.span.rate - k.errPs, true, 0,
        if k.errPs.natAbs ≤ 1000 then s.tre.lockedSpans + 1 else 0, s.tre.sent) := by
  have same : (if adopts then (s.wr F.TRESTLE_MASTER_ID k.master).event 0xA02 [k.master,
      (s.wr F.TRESTLE_MASTER_ID k.master).ringSize] else s).pace = s.pace := by
    split
    · unfold State.pace
      rw [State.event_eq_raise, State.raise_span, State.raise_tre]
      rfl
    · rfl
  unfold State.markerTaken
  generalize named : (if adopts then (s.wr F.TRESTLE_MASTER_ID k.master).event 0xA02 [k.master, s.ringSize] else s) = w
  have pace : w.pace = s.pace := named ▸ same
  dsimp only
  obtain ⟨frame, adopted⟩ := w.adoptFrame_spec k.frame
  generalize w.adoptFrame k.frame = x at frame adopted
  have before := adopted.trans pace
  simp only [State.pace, Prod.mk.injEq] at before
  obtain ⟨extra, rate, -, -, locked, sent⟩ := before
  generalize measured : (x.wrS F.TRESTLE_TICK_ERR k.errPs).wr F.SPAN_STAT_SOURCE 1 = y
  have source : y.rd F.SPAN_STAT_SOURCE = 1 := by
    rw [← measured, State.rd_wr_same]
    rfl
  have err : y.rd F.TRESTLE_TICK_ERR = unsigned 32 k.errPs := by
    rw [← measured, State.rd_wr_apart _ _ _ _ _ _ (by decide), State.wrS, State.rd_wr_same]
    exact Nat.mod_eq_of_lt (unsigned_fits _)
  have span : y.span = x.span := by rw [← measured]; rfl
  have tre : y.tre = x.tre := by rw [← measured]; rfl
  have news := State.takeAnnouncements_kept { y.discipline k.errPs with tre := { (y.discipline k.errPs).tre with
    markerSeen := true, markerMisses := 0
    lockedSpans := if k.errPs.natAbs ≤ 1000 then (y.discipline k.errPs).tre.lockedSpans + 1 else 0 } } k
  refine ⟨news.frame.trans ((congrArg SpanSt.frame span).trans frame), (news.foot.rd _ 0 0 (by decide)).trans source,
    (news.foot.rd _ 0 0 (by decide)).trans err, news.pace.trans ?_⟩
  unfold State.pace State.discipline
  dsimp only
  rw [span, tre, extra, rate, locked, sent]

theorem execTreTickMarker_eq (p : Fin 2) (k : Marker) (s : State) :
    execTreTickMarker p k s = s.act [.deck, .link] fun s =>
      let v := if s.portUp p && s.inRing && !s.bit F.TRESTLE_STAT_MASTER then
          s.treSend (1 - p.val) fun q => .marker q { k with accPs := k.accPs + s.rd F.TRESTLE_PORT_HOP p, errPs := 0 }
        else s
      let follows := v.treIs .joining || v.treIs .run || v.treIs .holdover
      let adopts := v.treIs .joining && v.rd F.TRESTLE_MASTER_ID == 0xFFFF
      if !(v.portUp p && follows && !v.bit F.TRESTLE_STAT_MASTER && (adopts || k.master == v.rd F.TRESTLE_MASTER_ID)
        && !v.tre.markerSeen) then v
      else v.markerTaken k adopts := rfl

theorem State.inRing_of {k : TreState} (h : s.treIs k = true) (entered : k ≠ .off ∧ k ≠ .refused) : s.inRing = true := by
  unfold State.inRing
  rw [State.treIs_of h entered.1, State.treIs_of h entered.2]
  rfl

theorem treTickMarker_measures (p : Fin 2) (k : Marker) (serves : s.serves [.deck, .link]) (up : s.portUp p = true)
    (follows : s.treIs .joining = true ∨ s.treIs .run = true ∨ s.treIs .holdover = true)
    (slave : s.bit F.TRESTLE_STAT_MASTER = false) (master : k.master = s.rd F.TRESTLE_MASTER_ID)
    (first : s.tre.markerSeen = false) :
    Completes (.treTickMarker p k) s fun t => t.frame = k.frame ∧ t.rd F.SPAN_STAT_SOURCE = 1 ∧
        t.rd F.TRESTLE_TICK_ERR = unsigned 32 k.errPs ∧ t.tre.markerSeen = true ∧ t.tre.markerMisses = 0 ∧
        t.tre.lockedSpans = (if k.errPs.natAbs ≤ 1000 then s.tre.lockedSpans + 1 else 0) ∧
        t.span.extra = s.span.extra - k.errPs ∧ t.span.rate = s.span.rate - k.errPs ∧
        t.tre.sent = s.tre.sent ++ if s.portUp (1 - p.val) then
          [.marker (1 - p.val) { k with accPs := k.accPs + s.rd F.TRESTLE_PORT_HOP p, errPs := 0 }] else [] := by
  refine Completes.of_act _ serves (execTreTickMarker_eq p k s) ?_
  have ring : s.inRing = true := by
    rcases follows with h | h | h <;> exact State.inRing_of h (by decide)
  have follow : (s.treIs .joining || s.treIs .run || s.treIs .holdover) = true := by
    rcases follows with h | h | h <;> simp [h]
  have forwards : (s.portUp p && s.inRing && !s.bit F.TRESTLE_STAT_MASTER) = true := by rw [up, ring, slave]; rfl
  simp only [forwards, if_true]
  have eq := s.treSend_eq (1 - p.val) fun q => .marker q { k with accPs := k.accPs + s.rd F.TRESTLE_PORT_HOP p, errPs := 0 }
  generalize (s.treSend (1 - p.val) fun q => .marker q { k with accPs := k.accPs + s.rd F.TRESTLE_PORT_HOP p, errPs := 0 }) = v
    at eq
  have taken (adopts : Bool) : (v.portUp p && (v.treIs .joining || v.treIs .run || v.treIs .holdover) &&
      !v.bit F.TRESTLE_STAT_MASTER && (adopts || k.master == v.rd F.TRESTLE_MASTER_ID) && !v.tre.markerSeen) = true := by
    have same (k' : TreState) : v.treIs k' = s.treIs k' := by rw [eq]; rfl
    have port : v.portUp p = s.portUp p := by rw [eq]; rfl
    have role : v.bit F.TRESTLE_STAT_MASTER = s.bit F.TRESTLE_STAT_MASTER := by rw [eq]; rfl
    have id : v.rd F.TRESTLE_MASTER_ID = s.rd F.TRESTLE_MASTER_ID := by rw [eq]; rfl
    have seen : v.tre.markerSeen = s.tre.markerSeen := by rw [eq]
    rw [same, same, same, port, role, id, seen, follow, up, slave, first, master]
    simp
  rw [taken]
  obtain ⟨frame, source, err, pace⟩ := v.markerTaken_spec k (v.treIs .joining && v.rd F.TRESTLE_MASTER_ID == 0xFFFF)
  simp only [State.pace, Prod.mk.injEq] at pace
  obtain ⟨extra, rate, seen, misses, locked, sent⟩ := pace
  have span : v.span = s.span := by rw [eq]
  have spans : v.tre.lockedSpans = s.tre.lockedSpans := by rw [eq]
  rw [span] at extra rate
  rw [spans] at locked
  refine ⟨frame, source, err, seen, misses, locked, extra, rate, sent.trans ?_⟩
  rw [eq]

/-- The master is lost: the device holds over, and the election restarts (R390). -/
def State.heldOver (s : State) : State :=
  let m := s.rd F.TRESTLE_MASTER_ID
  let s := ((s.localTick 1).treTo .holdover).event 0xA09 ([m] ++ w48 s.frame)
  let s := { s with tre := { s.tre with members := [], sameSpans := 0 } }
  { s with tre := { s.tre with candidate := s.lowestSeen 0xFFFF } }

theorem execMasterMarkerMiss_eq (s : State) : execMasterMarkerMiss s = s.act [.deck, .link] fun s =>
    if !((s.treIs .joining || s.treIs .run) && !s.bit F.TRESTLE_STAT_MASTER && 3 ≤ s.tre.markerMisses) then s
    else s.heldOver := rfl

theorem State.heldOver_spec (s : State) : s.heldOver.rd F.TRESTLE_STAT_STATE = 5 ∧ s.heldOver.rd F.SPAN_STAT_SOURCE ≠ 1 ∧
    s.heldOver.tre.sameSpans = 0 ∧ s.heldOver.tre.members = [] := by
  have state : ((s.localTick 1).treTo .holdover).rd F.TRESTLE_STAT_STATE = 5 := State.treTo_state _ .holdover
  have source : ((s.localTick 1).treTo .holdover).rd F.SPAN_STAT_SOURCE ≠ 1 := by
    rw [((s.localTick 1).treTo_kept .holdover).foot.rd _ 0 0 (by decide)]
    exact s.localTick_source 1 (by decide)
  generalize held : (s.localTick 1).treTo .holdover = v at state source
  obtain ⟨tre, shown, spans, members⟩ : ∃ tre : TreSt, s.heldOver =
      { v.raise 0xA09 0xFF ([s.rd F.TRESTLE_MASTER_ID] ++ w48 s.frame) with tre := tre } ∧ tre.sameSpans = 0 ∧ tre.members = [] := by
    subst held
    exact ⟨_, rfl, rfl, rfl⟩
  have foot : Foot [F.EVR_QLOST] v s.heldOver := shown ▸ (Foot.refl v).raise.same
  refine ⟨(foot.rd _ 0 0 (by decide)).trans state, fun h => source ((foot.rd _ 0 0 (by decide)).symm.trans h), ?_, ?_⟩
  · rw [shown]
    exact spans
  · rw [shown]
    exact members

/-- Three markers missed (R390). -/
theorem masterMarkerMiss_holds (serves : s.serves [.deck, .link]) (member : s.treIs .joining = true ∨ s.treIs .run = true)
    (slave : s.bit F.TRESTLE_STAT_MASTER = false) (missed : 3 ≤ s.tre.markerMisses) :
    Completes .masterMarkerMiss s fun t => t.rd F.TRESTLE_STAT_STATE = 5 ∧ t.rd F.SPAN_STAT_SOURCE ≠ 1 ∧
      t.tre.sameSpans = 0 ∧ t.tre.members = [] := by
  refine Completes.of_act _ serves (execMasterMarkerMiss_eq s) ?_
  have misses : ((s.treIs .joining || s.treIs .run) && !s.bit F.TRESTLE_STAT_MASTER && decide (3 ≤ s.tre.markerMisses)) = true := by
    rcases member with h | h <;> simp [h, slave, missed]
  rw [misses]
  exact s.heldOver_spec

end Sys2Proof.Machine
end

section
/-! O40: publication frames of the trestle ring, and the whole. -/

namespace Sys2Proof.Machine

set_option Elab.async false

variable {s : State}

/-! ### Publication frames (R391, R392) -/

/-- A frame goes on by the other port, one hop further (R391). -/
def nextHop (f : PubFrame) : PubFrame := { f with port := 1 - f.port, hops := (f.hops + 1) % 2 ^ 12 }

/-- A frame that is forwarded (R391). -/
def State.forwarded (s : State) (f : PubFrame) : State :=
  { s with tre := { s.tre with sent := s.tre.sent ++ if s.portUp (1 - f.port) then [.pub (1 - f.port) (nextHop f)] else [] } }

theorem execUpdateFrame_eq (f : PubFrame) (s : State) :
    execUpdateFrame f s = s.act [.deck, .link] fun s =>
      if !(s.portUp f.port && s.inRing) then s
      else if !f.crcOk then s.incSat F.TRESTLE_PORT_ERR_CRC f.port
      else if f.launcher == s.devId then s
      else if s.treIs .joining || s.treIs .run || s.treIs .holdover then
        (s.forwarded f).each (frameUpdates f) fun s u => s.takeUpdate f u
      else s.forwarded f := by
  unfold execUpdateFrame
  simp only [State.treSend_eq]
  rfl

/-- A frame is forwarded with what it carries taken, on a device that runs (R391). -/
theorem updateFrame_takes {f : PubFrame} {u : Update} (serves : s.serves [.deck, .link]) (up : s.portUp f.port = true)
    (ring : s.inRing = true) (crc : f.crcOk = true) (other : f.launcher ≠ s.devId) (runs : s.treIs .run = true)
    (one : frameUpdates f = [u]) : exec (.updateFrame f) s = .next ((s.forwarded f).takeUpdate f u) := by
  refine ((execUpdateFrame_eq f s).trans (State.act_eq _ serves)).trans ?_
  simp only [up, ring, crc, runs, one, beq_eq_false_iff_ne.mpr other, Bool.and_true, Bool.not_true, Bool.false_eq_true, if_false,
    Bool.or_true, Bool.true_or, if_true]
  rfl

theorem State.takeUpdate_new {f : PubFrame} {u : Update} (new : s.tre.known.contains (f.launcher, u.origin, u.seq) = false)
    (early : s.frame + 1 < f.commit) : s.takeUpdate f u = { s with tre := { s.tre with
      known := s.tre.known ++ [(f.launcher, u.origin, u.seq)], inbox := s.tre.inbox ++ [⟨f.pub, f.commit, f.late, u⟩] } } := by
  unfold State.takeUpdate
  have early' : { s with tre := { s.tre with known := s.tre.known ++ [(f.launcher, u.origin, u.seq)] } }.frame + 1 < f.commit :=
    early
  simp only [new, Bool.false_eq_true, if_false, early', decide_true, Bool.true_or, if_true]

theorem State.takeUpdate_known {f : PubFrame} {u : Update} (known : s.tre.known.contains (f.launcher, u.origin, u.seq) = true) :
    s.takeUpdate f u = s := by
  unfold State.takeUpdate
  dsimp only
  rw [if_pos known]

theorem updateFrame_crc {f : PubFrame} (serves : s.serves [.deck, .link]) (up : s.portUp f.port = true)
    (ring : s.inRing = true) (crc : f.crcOk = false) :
    Completes (.updateFrame f) s fun t =>
      Sets s t [(F.TRESTLE_PORT_ERR_CRC, f.port, 0, min 65535 (s.rd F.TRESTLE_PORT_ERR_CRC f.port + 1))] := by
  refine Completes.of_act _ serves (execUpdateFrame_eq f s) ?_
  simp only [up, ring, crc, Bool.and_true, Bool.not_true, Bool.not_false, Bool.false_eq_true, if_false, if_true]
  exact Sets.incSat s F.TRESTLE_PORT_ERR_CRC f.port 0

theorem updateFrame_own {f : PubFrame} (serves : s.serves [.deck, .link]) (up : s.portUp f.port = true)
    (ring : s.inRing = true) (crc : f.crcOk = true) (own : f.launcher = s.devId) :
    Completes (.updateFrame f) s fun t => t = s := by
  refine Completes.of_act _ serves (execUpdateFrame_eq f s) ?_
  simp only [up, ring, crc, own, Bool.and_true, Bool.not_true, Bool.false_eq_true, if_false, beq_self_eq_true, if_true]

/-! ### Quotas (R398) -/

theorem execQueueLaunch_eq (s : State) : execQueueLaunch s = s.act [.deck, .link] fun s =>
    if s.running && s.publishes then
      (s.launchWaiting s.tre.waiting).sendFrames ((s.launchWaiting s.tre.waiting).tre.launched.drop s.tre.launched.length)
    else s := rfl

theorem queueLaunch_silent (serves : s.serves [.deck, .link]) (silent : s.publishes = false) :
    Completes .queueLaunch s fun t => t = s := by
  refine Completes.of_act _ serves (execQueueLaunch_eq s) ?_
  simp only [silent, Bool.and_false, Bool.false_eq_true, if_false]

theorem queueLaunch_waits {u : Update} {us : List Update} (serves : s.serves [.deck, .link]) (waiting : s.tre.waiting = u :: us)
    (spent : s.rd F.TRESTLE_QUOTA_GRANT ≤ s.quotaUsed s.frame) : Completes .queueLaunch s fun t => t = s := by
  refine Completes.of_act _ serves (execQueueLaunch_eq s) ?_
  have same : s.launchWaiting s.tre.waiting = s := by
    rw [waiting]
    unfold State.launchWaiting
    rw [if_neg (Nat.not_lt.mpr spent), ← waiting]
  rw [same, List.drop_length]
  split <;> rfl

theorem queueLaunch_launches {u : Update} {us : List Update} (serves : s.serves [.deck, .link]) (running : s.running = true)
    (publishes : s.publishes = true) (waiting : s.tre.waiting = u :: us)
    (left : s.quotaUsed s.frame < s.rd F.TRESTLE_QUOTA_GRANT) :
    Completes .queueLaunch s fun t =>
      t = ((s.launch s.frame u).launchWaiting us).sendFrames
        (((s.launch s.frame u).launchWaiting us).tre.launched.drop s.tre.launched.length) := by
  refine Completes.of_act _ serves (execQueueLaunch_eq s) ?_
  have next : s.launchWaiting s.tre.waiting = (s.launch s.frame u).launchWaiting us := by
    rw [waiting, State.launchWaiting, if_pos left]
  simp only [running, publishes, Bool.and_true, if_true, next]

/-- Settles O40: each clause by the lemma about its command; what a state's change, a master's update and a marker's
announcements write is said once. -/
theorem trestleRing : Obligations.TrestleRing := by
  unfold Obligations.TrestleRing
  intro s p serves ends up source sentBy
  refine ⟨fun ring down whole free => laneBlockLock_trains p serves ring down whole free, ?_,
    fun cause live => laneLockLoss_drops p cause serves live, ?_, ?_,
    fun c candidate fits spans live => electionSettled_opens serves candidate fits spans live,
    fun c candidate fits spans other joined => electionSettled_changes serves candidate fits spans other joined, ?_, ?_,
    fun member slave missed => masterMarkerMiss_holds serves member slave missed, ?_,
    fun silent => queueLaunch_silent serves silent, ?_⟩
  · exact fun rt nbr trains => ⟨trainingDone_up p rt nbr serves trains, trainingDone_elects p rt nbr serves trains⟩
  · intro trains first second
    have left := ringTrainTimeout_leaves serves trains first second
    simpa [State.leaveRows, ends, source, TreReason.code, TreState.code] using left
  · exact fun m low ring live => ⟨announceFrame_refuses low serves ring live, announceFrame_closes low serves ring live,
      announceFrame_keeps low serves ring live⟩
  · intro joining locked
    have joined := joinLocked_runs serves joining locked
    simpa [ends] using joined
  · intro k live follows slave master first
    obtain rfl | rfl : p = 0 ∨ p = 1 := by omega
    · exact treTickMarker_measures 0 k serves live follows slave master first
    · exact treTickMarker_measures 1 k serves live follows slave master first
  · intro f live ring
    refine ⟨updateFrame_crc serves live ring, ?_, ?_, updateFrame_own serves live ring⟩
    · intro u crc other runs one new early
      refine ⟨_, updateFrame_takes serves live ring crc other runs one, ?_⟩
      exact State.takeUpdate_new new early
    · intro u crc other runs one known
      refine ⟨_, updateFrame_takes serves live ring crc other runs one, ?_⟩
      exact State.takeUpdate_known known
  · exact fun u us running publishes waiting => ⟨queueLaunch_waits serves waiting,
      queueLaunch_launches serves running publishes waiting⟩

end Sys2Proof.Machine
end

section
/-! The keystone (R400 to R420): what an edge of CK_LF makes of its count, its commands and its flags. -/

namespace Sys2Proof.Machine

set_option Elab.async false

variable {s : State}

/-! ### The edge (R410, R414, R420) -/

/-- The keystone but for its wake timer (R418). -/
def KeepSt.clock (k : KeepSt) : KeepSt := { k with wakePin := false, wakeLeft := none, wakeStart := false }

/-- The edge's place in the trim window, and the trim that the window uses (R417). -/
def State.timed (s : State) : State :=
  { s with keep := { s.keep with
    edge := (s.keep.edge + 1) % 2 ^ 20, trim := if s.keep.edge = 0 then s.rd F.KEEP_TRIM else s.keep.trim } }

/-- The wake timer touches nothing but its own state and WAKE (R418, R419). -/
theorem State.wakeEdge_spec (s : State) (n : Nat) :
    (s.wakeEdge n).keep.clock = s.keep.clock ∧ Foot [F.KEEP_STAT_WAKE] s (s.wakeEdge n) := by
  unfold State.wakeEdge
  extract_lets _m u
  have pin : u.keep.clock = s.keep.clock ∧ Foot [F.KEEP_STAT_WAKE] s u := by
    unfold u
    split
    · exact ⟨rfl, Foot.refl s⟩
    · exact ⟨rfl, (Foot.refl s).same⟩
  obtain ⟨clock, foot⟩ := pin
  split
  · exact ⟨clock, foot.same⟩
  · split
    · exact ⟨clock, foot⟩
    · split
      · exact ⟨clock, Foot.same (Foot.same foot.wrB)⟩
      · exact ⟨clock, foot.same⟩

/-- The trimmed ticks of the edge (R417). -/
def State.edgeTicks (s : State) : Nat := trimTicks s.timed.keep.trim s.keep.edge

/-- The ticks of an edge that the count does not show (R420). -/
def State.hide (s : State) (n : Nat) : State := { s with keep := { s.keep with hidden := s.keep.hidden + n } }

/-- The end of an edge: the wake timer goes on in a freeze (R420), and LOSS counts as latched before (R416). -/
def State.edgeDone (s : State) (n : Nat) : State :=
  let s := if s.keep.frozen then s.wakeEdge n else s
  { s with keep := { s.keep with lossCycle := false } }

theorem State.keepEdge_eq (s : State) : s.keepEdge = ((if s.timed.keep.frozen then s.timed.hide s.edgeTicks
    else (s.timed.countEdge s.edgeTicks).validateEdge.wakeEdge
      (if s.timed.keep.cmd.isSome || s.timed.keep.catchUp then 1 else s.edgeTicks)) : State).edgeDone s.edgeTicks := rfl

theorem State.edgeDone_spec (s : State) (n : Nat) :
    (s.edgeDone n).keep.clock = { s.keep.clock with lossCycle := false } ∧ Foot [F.KEEP_STAT_WAKE] s (s.edgeDone n) := by
  obtain ⟨clock, foot⟩ := s.wakeEdge_spec n
  unfold State.edgeDone
  dsimp only
  split
  · exact ⟨congrArg (fun k : KeepSt => { k with lossCycle := false }) clock, foot.same⟩
  · exact ⟨rfl, (Foot.refl s).same⟩

/-- An edge that is seen (R410). -/
theorem State.keepEdge_visible (running : s.keep.frozen = false) :
    s.keepEdge.keep.clock = { ((s.timed.countEdge s.edgeTicks).validateEdge).keep.clock with lossCycle := false } ∧
      Foot [F.KEEP_STAT_WAKE] (s.timed.countEdge s.edgeTicks).validateEdge s.keepEdge := by
  have visible : ¬ s.timed.keep.frozen = true := by simpa [State.timed] using running
  rw [State.keepEdge_eq, if_neg visible]
  obtain ⟨clock, foot⟩ := State.wakeEdge_spec (s.timed.countEdge s.edgeTicks).validateEdge
    (if s.timed.keep.cmd.isSome || s.timed.keep.catchUp then 1 else s.edgeTicks)
  obtain ⟨clock', foot'⟩ := State.edgeDone_spec ((s.timed.countEdge s.edgeTicks).validateEdge.wakeEdge
    (if s.timed.keep.cmd.isSome || s.timed.keep.catchUp then 1 else s.edgeTicks)) s.edgeTicks
  exact ⟨clock'.trans (congrArg (fun k : KeepSt => { k with lossCycle := false }) clock), foot.trans foot'⟩

/-- An edge that passes while the device is frozen (R420). -/
theorem State.keepEdge_hidden (frozen : s.keep.frozen = true) :
    s.keepEdge.keep.clock = { s.timed.keep.clock with hidden := s.keep.hidden + s.edgeTicks, lossCycle := false } ∧
      Foot [F.KEEP_STAT_WAKE] s s.keepEdge := by
  have hidden : s.timed.keep.frozen = true := frozen
  rw [State.keepEdge_eq, if_pos hidden]
  obtain ⟨clock, foot⟩ := (s.timed.hide s.edgeTicks).edgeDone_spec s.edgeTicks
  exact ⟨clock, ((Foot.refl s).same : Foot _ s (s.timed.hide s.edgeTicks)).trans foot⟩

/-! ### A set that acts at its edge (R413 to R416) -/

/-- What the edge of a set writes (R414 to R416). -/
def commitFlds : List Fld := [F.KEEP_STAT_PENDING, F.KEEP_STAT_TIME_OK, F.KEEP_STAT_OSC_STOP, F.EVR_QLOST]

/-- The count and the epoch that a set gives (R413, R415), on both dies (R163). -/
def KeepSt.set (k : KeepSt) (c : KeepCmd) (base : Nat) : KeepSt :=
  let new := if c.adjust then (base + c.s) % 2 ^ 48 else c.s
  { k with count := new, epoch := (k.epoch + 1) % 2 ^ 16, cmd := none, copyCount := new, copyEpoch := (k.epoch + 1) % 2 ^ 16 }

/-- The flags that a set leaves (R414, R416). -/
def State.setShown (s : State) (c : KeepCmd) : State :=
  let v := s.wrB F.KEEP_STAT_PENDING false
  if c.adjust then v else (v.wrB F.KEEP_STAT_TIME_OK (!s.keep.lossCycle)).wrB F.KEEP_STAT_OSC_STOP false

theorem State.commitEdge_eq (s : State) (c : KeepCmd) (base old : Nat) : ∃ words,
    s.commitEdge c base old = { s.setShown c with keep := s.keep.set c base }.raise 0xB00 0xFF words := by
  unfold State.commitEdge State.setShown KeepSt.set
  cases c.adjust <;> exact ⟨_, rfl⟩

theorem State.setShown_spec (s : State) (c : KeepCmd) : Foot commitFlds s (s.setShown c) ∧
    (s.setShown c).rd F.KEEP_STAT_PENDING = 0 ∧
    (c.adjust = false → (s.setShown c).bit F.KEEP_STAT_TIME_OK = !s.keep.lossCycle ∧ (s.setShown c).rd F.KEEP_STAT_OSC_STOP = 0) := by
  have pending : (s.wrB F.KEEP_STAT_PENDING false).rd F.KEEP_STAT_PENDING = 0 := State.rd_wr_same _ _ _ _ _
  unfold State.setShown
  cases c.adjust
  · refine ⟨(Foot.refl s).wrB.wrB.wrB, ?_, fun _ => ⟨?_, State.rd_wr_same _ _ _ _ _⟩⟩
    · simp (disch := decide) only [Bool.false_eq_true, if_false, State.wrB, State.rd_wr_apart]
      exact pending
    · simp (disch := decide) only [Bool.false_eq_true, if_false, State.wrB, State.bit_wr_apart, State.bit_wr_same]
      cases s.keep.lossCycle <;> rfl
  · exact ⟨(Foot.refl s).wrB, pending, fun h => absurd h (by decide)⟩

theorem State.commitEdge_spec (s : State) (c : KeepCmd) (base old : Nat) :
    (s.commitEdge c base old).keep = s.keep.set c base ∧ Foot commitFlds s (s.commitEdge c base old) ∧
      (s.commitEdge c base old).rd F.KEEP_STAT_PENDING = 0 ∧
      (c.adjust = false → (s.commitEdge c base old).bit F.KEEP_STAT_TIME_OK = !s.keep.lossCycle ∧
        (s.commitEdge c base old).rd F.KEEP_STAT_OSC_STOP = 0) := by
  obtain ⟨words, eq⟩ := s.commitEdge_eq c base old
  obtain ⟨foot, pending, flags⟩ := s.setShown_spec c
  have noted : Foot [F.EVR_QLOST] (s.setShown c) (s.commitEdge c base old) := eq ▸ (Foot.refl _).same.raise
  refine ⟨?_, foot.trans (noted.mono (by decide)), (noted.rd _ 0 0 (by decide)).trans pending, fun set => ?_⟩
  · rw [eq]
    exact State.event_keep _ _ _
  · exact ⟨(noted.bit _ 0 0 (by decide)).trans (flags set).1, (noted.rd _ 0 0 (by decide)).trans (flags set).2⟩

/-! ### VALIDATE (R406) -/

/-- The residue block as VALIDATE leaves it: MARK, and its other words empty (R406). -/
def State.residueEmptied (s : State) : State :=
  (((s.wr F.KEEP_RAM 0x4D45 0).each (List.range 11) fun s w => s.wr F.KEEP_RAM 0 (w + 1)).wrB F.KEEP_STAT_LOSS false).wrB
    F.KEEP_STAT_VALID true

/-- What an accepted VALIDATE writes (R406). -/
def validFlds : List Fld := [F.KEEP_RAM, F.KEEP_STAT_LOSS, F.KEEP_STAT_VALID, F.EVR_QLOST]

theorem State.validateEdge_eq (s : State) : ∃ words, s.validateEdge = if s.keep.validate then
    ({ s with keep := { s.keep with validate := false } }.residueEmptied).raise 0xB03 0xFF words else s := by
  unfold State.validateEdge
  cases s.keep.validate
  · exact ⟨[], rfl⟩
  · exact ⟨_, rfl⟩

theorem State.residueEmptied_keep (s : State) : s.residueEmptied.keep = s.keep := by
  have words (u : State) := u.each_keep (List.range 11) fun u w => u.wr_keep F.KEEP_RAM 0 (w + 1) 0
  simp [State.residueEmptied, words]

theorem State.residueEmptied_foot (s : State) : Foot validFlds s s.residueEmptied :=
  Foot.wrB (Foot.wrB (Foot.each (Foot.refl s).wr fun _ _ h => h.wr))

theorem State.residueEmptied_flags (s : State) : s.residueEmptied.rd F.KEEP_STAT_LOSS = 0 ∧
    s.residueEmptied.rd F.KEEP_STAT_VALID = 1 :=
  ⟨(State.rd_wr_apart _ _ _ _ _ _ (by decide)).trans (State.rd_wr_same _ _ _ _ _), State.rd_wr_same _ _ _ _ _⟩

/-- The words of the block, word by word (R406). -/
theorem State.residueEmptied_ram (s : State) {w : Nat} (block : w < 12) :
    s.residueEmptied.rd F.KEEP_RAM w = if w = 0 then 0x4D45 else 0 := by
  have valid : ∀ w < 12, F.KEEP_STAT_VALID.key 0 0 ≠ F.KEEP_RAM.key w 0 := by decide
  have loss : ∀ w < 12, F.KEEP_STAT_LOSS.key 0 0 ≠ F.KEEP_RAM.key w 0 := by decide
  have words : (s.wr F.KEEP_RAM 0x4D45 0).each (List.range 11) (fun s w => s.wr F.KEEP_RAM 0 (w + 1)) =
      s.each (List.range 12) fun s w => s.wr F.KEEP_RAM (if w = 0 then 0x4D45 else 0) w := rfl
  unfold State.residueEmptied
  rw [State.wrB, State.rd_wr_ne _ _ _ _ _ _ _ _ (valid w block), State.wrB, State.rd_wr_ne _ _ _ _ _ _ _ _ (loss w block), words,
    State.rd_each_wr (by decide) _ List.nodup_range _ (List.mem_range.mpr block)]
  split <;> rfl

theorem State.validateEdge_spec (s : State) : s.validateEdge.keep = { s.keep with validate := false } ∧
    Foot validFlds s s.validateEdge ∧ (s.keep.validate = true → s.validateEdge.rd F.KEEP_STAT_LOSS = 0 ∧
      s.validateEdge.rd F.KEEP_STAT_VALID = 1 ∧ ∀ w < 12, s.validateEdge.rd F.KEEP_RAM w = if w = 0 then 0x4D45 else 0) := by
  obtain ⟨words, eq⟩ := s.validateEdge_eq
  rw [eq]
  split
  case isTrue _ =>
    have noted : ∀ w < 12, F.EVR_QLOST.key 0 0 ≠ F.KEEP_RAM.key w 0 := by decide
    obtain ⟨loss, valid⟩ := State.residueEmptied_flags { s with keep := { s.keep with validate := false } }
    have foot : Foot validFlds s { s with keep := { s.keep with validate := false } }.residueEmptied :=
      Foot.trans (Foot.refl s).same (State.residueEmptied_foot _)
    exact ⟨(State.event_keep _ _ _).trans (State.residueEmptied_keep _), foot.raise, fun _ =>
      ⟨(State.raise_rd_apart _ _ _ (by decide)).trans loss, (State.raise_rd_apart _ _ _ (by decide)).trans valid,
        fun w block => (State.raise_rd _ _ _ _ (noted w block).symm).trans (State.residueEmptied_ram _ block)⟩⟩
  case isFalse off =>
    refine ⟨?_, Foot.refl s, fun on => absurd on off⟩
    rw [Bool.not_eq_true] at off
    rw [← off]

end Sys2Proof.Machine
end

section
/-! O41: the keystone's commands, its shadows and its edges. -/

namespace Sys2Proof.Machine

set_option Elab.async false

variable {s : State}

/-! ### Edges (R410, R414 to R417, R420) -/

theorem State.keepEdge_counts (running : s.keep.frozen = false) (idle : s.keep.cmd = none) (level : s.keep.catchUp = false) :
    s.keepEdge.keep.count = (s.keep.count + s.edgeTicks) % 2 ^ 48 ∧ s.keepEdge.keep.copyCount = s.keepEdge.keep.count ∧
      s.keepEdge.keep.epoch = s.keep.epoch ∧ s.keepEdge.keep.edge = (s.keep.edge + 1) % 2 ^ 20 := by
  obtain ⟨clock, -⟩ := State.keepEdge_visible running
  obtain ⟨valid, -, -⟩ := (s.timed.countEdge s.edgeTicks).validateEdge_spec
  have counted : (s.timed.countEdge s.edgeTicks).keep = { s.timed.keep with
      count := (s.keep.count + s.edgeTicks) % 2 ^ 48, copyCount := (s.keep.count + s.edgeTicks) % 2 ^ 48
      copyEpoch := s.keep.epoch } := by
    have level' : s.timed.keep.catchUp = false := level
    have idle' : s.timed.keep.cmd = none := idle
    unfold State.countEdge
    simp only [level', idle', Bool.false_eq_true, if_false]
    rfl
  rw [valid, counted] at clock
  have count := congrArg KeepSt.count clock
  exact ⟨count, (congrArg KeepSt.copyCount clock).trans count.symm, (congrArg KeepSt.epoch clock).trans rfl,
    congrArg KeepSt.edge clock⟩

/-- What an edge leaves at which a set acts (R414 to R416, R420). -/
structure SetActed (s t : State) (c : KeepCmd) (base : Nat) : Prop where
  count : t.keep.count = if c.adjust then (base + c.s) % 2 ^ 48 else c.s
  copy : t.keep.copyCount = t.keep.count
  epoch : t.keep.epoch = (s.keep.epoch + 1) % 2 ^ 16
  taken : t.keep.cmd = none
  pending : t.rd F.KEEP_STAT_PENDING = 0
  level : t.keep.catchUp = false
  hidden : s.keep.catchUp = true → t.keep.hidden = 0
  flags : c.adjust = false → t.bit F.KEEP_STAT_TIME_OK = !s.keep.lossCycle ∧ t.rd F.KEEP_STAT_OSC_STOP = 0

theorem State.keepEdge_sets {c : KeepCmd} (running : s.keep.frozen = false) (waiting : s.keep.cmd = some c) :
    SetActed s s.keepEdge c
      (if s.keep.catchUp then (s.keep.count + s.keep.hidden + 1) % 2 ^ 48 else (s.keep.count + 1) % 2 ^ 48) := by
  obtain ⟨clock, woken⟩ := State.keepEdge_visible running
  obtain ⟨valid, marked, -⟩ := (s.timed.countEdge s.edgeTicks).validateEdge_spec
  have waiting' : s.timed.keep.cmd = some c := waiting
  obtain ⟨u, old, counted, epoch, loss, level, hidden⟩ : ∃ (u : State) (old : Nat), s.timed.countEdge s.edgeTicks = u.commitEdge c
      (if s.keep.catchUp then (s.keep.count + s.keep.hidden + 1) % 2 ^ 48 else (s.keep.count + 1) % 2 ^ 48) old ∧
      u.keep.epoch = s.keep.epoch ∧ u.keep.lossCycle = s.keep.lossCycle ∧ u.keep.catchUp = false ∧
      (s.keep.catchUp = true → u.keep.hidden = 0) := by
    have same : s.timed.keep.catchUp = s.keep.catchUp := rfl
    unfold State.countEdge
    simp only [waiting', same]
    cases due : s.keep.catchUp
    · exact ⟨s.timed, s.keep.count, rfl, rfl, rfl, due, fun h => absurd h (by decide)⟩
    · exact ⟨_, _, rfl, rfl, rfl, rfl, fun _ => rfl⟩
  obtain ⟨set, shown, pending, flags⟩ := u.commitEdge_spec c
    (if s.keep.catchUp then (s.keep.count + s.keep.hidden + 1) % 2 ^ 48 else (s.keep.count + 1) % 2 ^ 48) old
  rw [valid, counted, set] at clock
  rw [counted] at marked woken
  have foot : Foot (F.KEEP_STAT_WAKE :: validFlds) _ s.keepEdge := (marked.mono (by decide)).trans (woken.mono (by decide))
  have count := congrArg KeepSt.count clock
  exact {
    count := count
    copy := (congrArg KeepSt.copyCount clock).trans count.symm
    epoch := (congrArg KeepSt.epoch clock).trans (by rw [← epoch]; rfl)
    taken := congrArg KeepSt.cmd clock
    pending := (foot.rd _ 0 0 (by decide)).trans pending
    level := (congrArg KeepSt.catchUp clock).trans level
    hidden := fun due => (congrArg KeepSt.hidden clock).trans (hidden due)
    flags := fun h => ⟨((foot.bit _ 0 0 (by decide)).trans (flags h).1).trans (by rw [loss]),
      (foot.rd _ 0 0 (by decide)).trans (flags h).2⟩ }

theorem State.keepEdge_catches (running : s.keep.frozen = false) (due : s.keep.catchUp = true) (idle : s.keep.cmd = none) :
    s.keepEdge.keep.count = (s.keep.count + s.keep.hidden + 1) % 2 ^ 48 ∧ s.keepEdge.keep.hidden = 0 ∧
      s.keepEdge.keep.catchUp = false := by
  obtain ⟨clock, -⟩ := State.keepEdge_visible running
  obtain ⟨valid, -, -⟩ := (s.timed.countEdge s.edgeTicks).validateEdge_spec
  obtain ⟨k, counted, count, hidden, level⟩ : ∃ k : KeepSt, (s.timed.countEdge s.edgeTicks).keep = k ∧
      k.count = (s.keep.count + s.keep.hidden + 1) % 2 ^ 48 ∧ k.hidden = 0 ∧ k.catchUp = false := by
    have due' : s.timed.keep.catchUp = true := due
    have idle' : s.timed.keep.cmd = none := idle
    unfold State.countEdge
    simp only [due', idle', if_true]
    exact ⟨_, rfl, rfl, rfl, rfl⟩
  rw [valid, counted] at clock
  exact ⟨(congrArg KeepSt.count clock).trans count, (congrArg KeepSt.hidden clock).trans hidden,
    (congrArg KeepSt.catchUp clock).trans level⟩

theorem State.keepEdge_validates (running : s.keep.frozen = false) (due : s.keep.validate = true) :
    s.keepEdge.rd F.KEEP_STAT_LOSS = 0 ∧ s.keepEdge.rd F.KEEP_STAT_VALID = 1 ∧ s.keepEdge.keep.validate = false ∧
      s.keepEdge.rd F.KEEP_RAM 0 = 0x4D45 ∧ ∀ w < 11, s.keepEdge.rd F.KEEP_RAM (w + 1) = 0 := by
  obtain ⟨clock, woken⟩ := State.keepEdge_visible running
  have kept : (s.timed.countEdge s.edgeTicks).keep.validate = true := by
    have same : s.timed.keep.validate = true := due
    unfold State.countEdge
    dsimp only
    split
    · split
      · rw [(State.commitEdge_spec _ _ _ _).1]
        exact same
      · exact same
    · split
      · rw [(State.commitEdge_spec _ _ _ _).1]
        exact same
      · exact same
  obtain ⟨valid, -, block⟩ := (s.timed.countEdge s.edgeTicks).validateEdge_spec
  obtain ⟨loss, mark, ram⟩ := block kept
  have word (w : Nat) (h : w < 12) : s.keepEdge.rd F.KEEP_RAM w = if w = 0 then 0x4D45 else 0 :=
    (woken.rd _ w 0 (by decide)).trans (ram w h)
  rw [valid] at clock
  exact ⟨(woken.rd _ 0 0 (by decide)).trans loss, (woken.rd _ 0 0 (by decide)).trans mark, congrArg KeepSt.validate clock,
    word 0 (by decide), fun w h => word (w + 1) (by omega)⟩

theorem State.keepEdge_hides (frozen : s.keep.frozen = true) : s.keepEdge.keep.count = s.keep.count ∧
    s.keepEdge.keep.hidden = s.keep.hidden + s.edgeTicks ∧ s.keepEdge.keep.copyCount = s.keep.copyCount ∧
    s.keepEdge.keep.cmd = s.keep.cmd ∧ s.keepEdge.rd F.KEEP_STAT_PENDING = s.rd F.KEEP_STAT_PENDING := by
  obtain ⟨clock, woken⟩ := State.keepEdge_hidden frozen
  exact ⟨(congrArg KeepSt.count clock).trans rfl, congrArg KeepSt.hidden clock, (congrArg KeepSt.copyCount clock).trans rfl,
    (congrArg KeepSt.cmd clock).trans rfl,
    woken.rd _ 0 0 (by decide)⟩

/-! ### Supply, LOSS and the oscillator (R400, R402, R405) -/

theorem supplySwitch_switches (b : Bool) (other : s.bit F.KEEP_STAT_ON_VBAT ≠ b) :
    Completes (.supplySwitch b) s fun t => Sets s t ([(F.KEEP_STAT_ON_VBAT, 0, 0, b.toNat)] ++
      if b then [(F.KEEP_BAT, 0, 0, min 65535 (s.rd F.KEEP_BAT + 1))] else []) := by
  refine ⟨_, (if_neg other : execSupplySwitch b s = _), ?_⟩
  cases b
  · exact (Sets.of_wrs rfl : Sets s _ [(F.KEEP_STAT_ON_VBAT, 0, 0, 0)])
  · change Sets s _ [(F.KEEP_STAT_ON_VBAT, 0, 0, 1), (F.KEEP_BAT, 0, 0, min 65535 (s.rd F.KEEP_BAT + 1))]
    refine Sets.of_wrs ?_ ?_
    · have kept : (s.wr F.KEEP_STAT_ON_VBAT 1).rd F.KEEP_BAT = s.rd F.KEEP_BAT := State.rd_wr_apart _ _ _ _ _ _ (by decide)
      simp only [if_true, State.incSat, State.addSat, State.wrB, Bool.toNat_true, kept]
      rfl
    · have fits : min 65535 (s.rd F.KEEP_BAT + 1) < 2 ^ F.KEEP_BAT.width := lt_of_le_of_lt (Nat.min_le_left _ _) (by decide)
      simp only [Fits, List.all_cons, List.all_nil, Bool.and_true, Bool.and_eq_true,
        decide_eq_true_eq]
      exact ⟨by decide, fits⟩

theorem lossLatch_latches : Completes .lossLatch s fun t =>
    Sets { s with keep := t.keep } t [(F.KEEP_STAT_LOSS, 0, 0, 1), (F.KEEP_STAT_VALID, 0, 0, 0), (F.KEEP_STAT_TIME_OK, 0, 0, 0),
      (F.KEEP_TRIM, 0, 0, 0), (F.KEEP_WAKE_EN, 0, 0, 0)] ∧
    t.keep.count = s.keep.count ∧ t.keep.wakeLeft = none ∧ t.keep.lossCycle = true :=
  ⟨_, rfl, Sets.of_wrs rfl, rfl, rfl, rfl⟩

/-! ### Commands (R406, R413, R414) -/

theorem State.keepCommit_takes (adjust : Bool) (i : Nat) (free : s.bit F.KEEP_STAT_PENDING = false) :
    Sets { s with keep := { s.keep with cmd := some ⟨adjust, s.keepSet, i⟩ } } (s.keepCommit adjust i)
      [(F.KEEP_STAT_PENDING, 0, 0, 1)] := by
  unfold State.keepCommit
  rw [free]
  exact Sets.of_wrs rfl

theorem State.keepCommit_busy (adjust : Bool) (i : Nat) (busy : s.bit F.KEEP_STAT_PENDING = true) :
    Sets s (s.keepCommit adjust i) [(F.KEEP_STAT_SET_BUSY, 0, 0, 1)] := by
  unfold State.keepCommit
  rw [busy]
  exact Sets.of_wrs rfl

/-- With none of an initiator's writes posted there is nothing to drain. -/
theorem State.drainPosted_of_none {i : Nat} (none : ∀ p ∈ s.posted, p.initiator ≠ i) : s.drainPosted i = s := by
  rw [State.drainPosted_of_empty fun p hp own => absurd own (none p hp), List.filter_eq_self.mpr]
  exact fun p hp => by simpa using none p hp

/-! ### Shadows (R411, R412) -/

theorem shadowExpiry_expires (i : Initiator) (held : Sparse.find? s.keep.shadows (initCode i) ≠ none)
    (first : s.keep.expired.contains (initCode i) = false) :
    Completes (.shadowExpiry i) s fun t =>
      let v := { s with keep := { s.keep with
        shadows := Sparse.del s.keep.shadows (initCode i), expired := s.keep.expired ++ [initCode i] } }
      t = if s.dbg.gated then s else if s.alive then v.event 0xB04 [initCode i] else v := by
  refine ⟨_, rfl, ?_⟩
  have some : (Sparse.find? s.keep.shadows (initCode i)).isNone = false := by
    cases h : Sparse.find? s.keep.shadows (initCode i)
    · exact absurd h held
    · rfl
  simp only [some, first, Bool.false_or, Bool.false_eq_true, if_false]
  rfl

/-- A register of the keystone that an access reaches while the joint is trained (R12, R22). -/
structure KeepReg (a : Nat) (f : Fld) : Prop where
  control : (a % 4 == 0 && inControl a && onBearing a && (blockDom a).isNone && (cursorOf a).isNone) = true
  reg : ((findReg a).any fun x => x.1.has f && x.2 == (0, 0)) = true

theorem keepReg_tkLo : KeepReg F.KEEP_TK_LO.base F.KEEP_TK_LO := ⟨by decide, by decide +kernel⟩

theorem keepReg_tkFlg : KeepReg F.KEEP_TK_FLG_VALID.base F.KEEP_TK_FLG_VALID := ⟨by decide, by decide +kernel⟩

theorem keepReg_tkHi : KeepReg F.KEEP_TK_HI_EPOCH.base F.KEEP_TK_HI_EPOCH := ⟨by decide, by decide +kernel⟩

/-- An access reaches a register of a block that is on, on the bearing die while the joint is trained (R12, R22). -/
theorem State.ctlAccess_of_reg {i : Initiator} {a : Nat} {x : Reg × Nat × Nat} (aligned : a % 4 = 0) (control : inControl a = true)
    (reg : findReg a = some x) (on : s.blockOn a = true) (joint : onBearing a = true → s.joint = true)
    (cursor : ((cursorOf a).any fun n => !ownsCursor i n) = false) : s.ctlAccess i a = .ok := by
  generalize named : s.ctlAccess i = access
  delta State.ctlAccess at named
  subst named
  dsimp only
  rw [if_neg (by simp [aligned, control]), if_neg (by simp [reg]), if_neg (by simp [on]), if_neg (by simpa using joint),
    if_neg (by simp [cursor])]

/-- A read of a register of the bearing die lets the initiator's posted writes take effect first (R13). -/
theorem State.ctlRead_of_reg {i : Initiator} {a x y w : Nat} {r : Reg} {u : State} (access : s.ctlAccess i a = .ok)
    (reg : findReg a = some (r, x, y)) (bearing : onBearing a = true)
    (read : (s.drainPosted (initCode i)).regRead i r x y = (w, u)) : s.ctlRead i a = (.ok, w, u) := by
  generalize named : s.ctlRead i = reads
  delta State.ctlRead at named
  subst named
  beta_reduce
  rw [access, reg, bearing]
  -- No `dsimp` here: it would turn the pair of `regRead` into projections, and the kernel would then compute `regRead`.
  change (match (if true = true then s.drainPosted (initCode i) else s).regRead i r x y with | (w, s) => (Access.ok, w, s)) = _
  rw [if_pos rfl, read]

/-- A read of such a register is answered with its word (R13, R411). -/
theorem tkRead_answers {i : Initiator} {a w : Nat} {f : Fld} {u : State} (at_ : KeepReg a f) (joint : s.joint = true)
    (empty : s.posted = []) (read : ∀ r : Reg, r.has f = true → s.regRead i r 0 0 = (w, u)) :
    s.tkRead i a = u.answer i a (toBytes w 4) false := by
  obtain ⟨control, found⟩ := at_
  simp only [Bool.and_eq_true, beq_iff_eq, Option.isNone_iff_eq_none] at control
  obtain ⟨⟨⟨⟨aligned, control⟩, bearing⟩, power⟩, cursor⟩ := control
  generalize reg : findReg a = x at found
  obtain _ | ⟨r, ij⟩ := x
  · exact absurd found Bool.false_ne_true
  simp only [Option.any_some, Bool.and_eq_true, beq_iff_eq] at found
  obtain ⟨has, rfl⟩ := found
  have on : s.blockOn a = true := by
    generalize named : s.blockOn = on
    delta State.blockOn at named
    subst named
    dsimp only
    rw [power]
  have word := State.ctlRead_of_reg (State.ctlAccess_of_reg (i := i) aligned control reg on (fun _ => joint)
    (by simp [cursor])) reg bearing (by rw [State.drainPosted_of_posted_nil _ empty, read r has])
  generalize named : s.tkRead i = answer
  delta State.tkRead at named
  subst named
  dsimp only
  rw [word]
  rfl

theorem Reg.has_unique {r : Reg} {f g : Fld} (h : r.has f = true) (other : f.base ≠ g.base) : r.has g = false := by
  simp only [Reg.has, beq_iff_eq] at h
  simp only [Reg.has, beq_eq_false_iff_ne, h]
  exact other

theorem State.answer_find (s : State) (i : Initiator) (a : Nat) (data : List Byte) (refused : Bool) :
    Sparse.find? (s.answer i a data refused).resp (initCode i) = some ⟨a, data, refused⟩ := by
  simp [State.answer, Sparse.find?_put]

theorem tkLoRead_captures (i : Initiator) (serves : s.serves []) (joint : s.joint = true) (empty : s.posted = [])
    (has : hasShadow (initCode i) = true) :
    Completes (.tkLoRead i) s fun t =>
      Sparse.find? t.resp (initCode i) = some ⟨F.KEEP_TK_LO.base, toBytes (s.keep.count % 2 ^ 32) 4, false⟩ ∧
      Sparse.find? t.keep.shadows (initCode i) = some ⟨s.keep.count, s.keep.epoch,
        s.keepFlags + 16 * (s.keep.expired.contains (initCode i)).toNat⟩ := by
  refine Completes.of_act (fun s => s.tkRead i F.KEEP_TK_LO.base) serves rfl ?_
  obtain ⟨u, read, shadows⟩ : ∃ u, s.tkLo (initCode i) = (s.keep.count % 2 ^ 32, u) ∧
      Sparse.find? u.keep.shadows (initCode i) = some ⟨s.keep.count, s.keep.epoch,
        s.keepFlags + 16 * (s.keep.expired.contains (initCode i)).toNat⟩ := by
    unfold State.tkLo
    simp only [has, Bool.not_true, Bool.false_eq_true, if_false]
    exact ⟨_, rfl, by simp [Sparse.find?_put]⟩
  rw [tkRead_answers keepReg_tkLo joint empty fun r h => by unfold State.regRead; rw [if_pos h, read]]
  exact ⟨State.answer_find _ _ _ _ _, shadows⟩

theorem tkFlgRead_shows (i : Initiator) (serves : s.serves []) (joint : s.joint = true) (empty : s.posted = []) {sh : Shadow}
    (held : Sparse.find? s.keep.shadows (initCode i) = some sh) :
    Completes (.tkFlgRead i) s fun t =>
      Sparse.find? t.resp (initCode i) = some ⟨F.KEEP_TK_FLG_VALID.base, toBytes sh.flags 4, false⟩ ∧ t.keep = s.keep := by
  refine Completes.of_act (fun s => s.tkRead i F.KEEP_TK_FLG_VALID.base) serves rfl ?_
  have read : s.tkFlg (initCode i) = (sh.flags, s) := by
    unfold State.tkFlg
    rw [held]
  rw [tkRead_answers keepReg_tkFlg joint empty fun r h => by
    unfold State.regRead
    rw [if_neg (by rw [Reg.has_unique h (by decide)]; decide), if_pos h, read]]
  exact ⟨State.answer_find _ _ _ _ _, rfl⟩

theorem tkHiRead_releases (i : Initiator) (serves : s.serves []) (joint : s.joint = true) (empty : s.posted = []) {sh : Shadow}
    (held : Sparse.find? s.keep.shadows (initCode i) = some sh) :
    Completes (.tkHiRead i) s fun t =>
      Sparse.find? t.resp (initCode i) =
        some ⟨F.KEEP_TK_HI_EPOCH.base, toBytes (sh.count / 2 ^ 32 % 2 ^ 16 + 2 ^ 16 * sh.epoch) 4, false⟩ ∧
      t.keep = { s.keep with shadows := Sparse.del s.keep.shadows (initCode i) } := by
  refine Completes.of_act (fun s => s.tkRead i F.KEEP_TK_HI_EPOCH.base) serves rfl ?_
  have read : s.tkHi (initCode i) = (sh.count / 2 ^ 32 % 2 ^ 16 + 2 ^ 16 * sh.epoch,
      { s with keep := { s.keep with shadows := Sparse.del s.keep.shadows (initCode i) } }) := by
    unfold State.tkHi
    rw [held]
  rw [tkRead_answers keepReg_tkHi joint empty fun r h => by
    unfold State.regRead
    rw [if_neg (by rw [Reg.has_unique h (by decide)]; decide), if_neg (by rw [Reg.has_unique h (by decide)]; decide), if_pos h,
      read]]
  exact ⟨State.answer_find _ _ _ _ _, rfl⟩

/-! ### Keystone RAM and trim (R408, R417) -/

theorem keepRamWrite_writes {w : Fin 32} {d : Word} (reach : s.reaches [])
    (open_ : 16 ≤ w.val ∨ w.val < 12 ∧ s.domOn .meter = true ∧ s.bit F.METER_PF_CTL_BLK_EN = false) :
    Completes (.keepRamWrite w d) s fun t => Sets s t [(F.KEEP_RAM, w, 0, d.toNat)] := by
  refine Completes.of_reach (fun s => s.keepRam w d.toNat) reach rfl (Sets.of_wr ?_ d.isLt)
  unfold State.keepRam
  rcases open_ with h | ⟨h, on, off⟩
  · rw [if_neg (by omega), if_neg (by omega)]
  · simp only [h, on, off, if_true, Bool.not_false, Bool.and_true]

theorem keepRamWrite_ignored {w : Fin 32} {d : Word} (reach : s.reaches [])
    (closed : 12 ≤ w.val ∧ w.val < 16 ∨ w.val < 12 ∧ (s.domOn .meter = false ∨ s.bit F.METER_PF_CTL_BLK_EN = true)) :
    Completes (.keepRamWrite w d) s fun t => t = s := by
  refine Completes.of_reach (fun s => s.keepRam w d.toNat) reach rfl ?_
  unfold State.keepRam
  rcases closed with ⟨h, h'⟩ | ⟨h, off | on⟩
  · rw [if_neg (by omega), if_pos h']
  · simp only [h, off, if_true, Bool.false_and, Bool.false_eq_true, if_false]
  · simp only [h, on, if_true, Bool.not_true, Bool.and_false, Bool.false_eq_true, if_false]

theorem trimWrite_spec {trim : BitVec 10} (reach : s.reaches []) :
    Completes (.trimWrite trim) s fun t => if trim = 0x200 then t = s else Sets s t [(F.KEEP_TRIM, 0, 0, trim.toNat)] := by
  refine Completes.of_reach (fun s => s.keepTrim trim.toNat) reach rfl ?_
  have code : trim.toNat % 2 ^ 10 = 0x200 ↔ trim = 0x200 := by
    rw [Nat.mod_eq_of_lt trim.isLt]
    exact ⟨fun h => BitVec.eq_of_toNat_eq h, fun h => h ▸ rfl⟩
  unfold State.keepTrim
  split
  case isTrue reserved => rw [if_pos (code.mpr reserved)]
  case isFalse free =>
    rw [if_neg fun h => free (code.mp h)]
    exact Sets.of_wr rfl trim.isLt

/-- Settles O41: each command by the lemma about it, and each edge by what it makes of the count, the waiting set and the
block. -/
theorem keystoneTime : Obligations.KeystoneTime := by
  unfold Obligations.KeystoneTime
  refine ⟨?_, ?_⟩
  · intro s i b w d trim reach set flags shown
    refine ⟨supplySwitch_switches b, lossLatch_latches, ⟨_, rfl, Sets.of_wrs rfl⟩, ?_, shadowExpiry_expires i, ?_⟩
    · intro runs
      have some : s.keep.wakeLeft.isSome = true := Option.isSome_iff_ne_none.mpr runs
      refine ⟨_, rfl, ?_⟩
      rw [if_pos some]
      exact Sets.of_wrs rfl
    · rintro ⟨alive, joint⟩
      have serves : s.serves [] := ⟨alive, rfl⟩
      have reaches : s.reaches [] := ⟨serves, joint⟩
      have sets (adj : Bool) (cmd : Instr)
          (run : exec cmd s = .next ((s.drainPosted (initCode i)).keepCommit adj (initCode i))) : set adj cmd := by
        intro none
        rw [State.drainPosted_of_none none] at run
        exact ⟨fun free => ⟨_, run, State.keepCommit_takes adj _ free⟩, fun busy => ⟨_, run, State.keepCommit_busy adj _ busy⟩⟩
      have trims := trimWrite_spec (trim := trim) reaches
      refine ⟨fun loss time => ?_, fun lacks => ?_, sets _ _ (exec_commitA i reaches), sets _ _ (exec_adjust i reaches),
        fun h => keepRamWrite_writes reaches (.inl h), fun h h' => keepRamWrite_ignored reaches (.inl ⟨h, h'⟩),
        fun h on off => keepRamWrite_writes reaches (.inr ⟨h, on, off⟩), fun h off => keepRamWrite_ignored reaches (.inr ⟨h, off⟩),
        fun free => ?_, fun reserved => ?_, fun empty has => tkLoRead_captures i serves joint empty has,
        fun sh empty held => ⟨tkFlgRead_shows i serves joint empty held, tkHiRead_releases i serves joint empty held⟩⟩
      · refine Completes.of_reach State.keepValidate reaches rfl ?_
        unfold State.keepValidate
        simp only [loss, time, Bool.and_true, if_true]
      · refine Completes.of_reach State.keepValidate reaches rfl ?_
        have refused : (s.bit F.KEEP_STAT_LOSS && s.bit F.KEEP_STAT_TIME_OK) = false := Bool.and_eq_false_iff.mpr lacks
        unfold State.keepValidate
        rw [refused]
        exact Sets.of_wrs rfl
      · simpa only [if_neg free] using trims
      · simpa only [if_pos reserved] using trims
  · intro s n
    refine ⟨fun running idle level => ⟨_, rfl, State.keepEdge_counts running idle level⟩,
      fun frozen => ⟨_, rfl, State.keepEdge_hides frozen⟩, ?_, ?_, ?_, ?_⟩
    · rintro c cmd which running due waiting pending caught
      have acted := State.keepEdge_sets running waiting
      rw [due, if_pos rfl] at acted
      have run : exec cmd s = .next s.keepEdge := by
        rcases which with rfl | rfl | rfl
        · exact exec_commitEdge_of_pending s pending running
        · change execThawCatchup s = _
          simp [execThawCatchup, due, running]
        · rfl
      exact ⟨_, run, acted.count, acted.copy, acted.epoch, acted.taken, acted.pending, acted.hidden due, acted.level⟩
    · intro c running level waiting pending
      have acted := State.keepEdge_sets running waiting
      rw [level, if_neg (by decide)] at acted
      refine ⟨_, exec_commitEdge_of_pending s pending running, ?_, acted.copy, acted.epoch, acted.taken, acted.pending, acted.flags⟩
      rw [acted.count, Nat.mod_add_mod]
    · intro running due idle
      refine ⟨s.keepEdge, ?_, State.keepEdge_catches running due idle⟩
      change execThawCatchup s = _
      simp [execThawCatchup, due, running]
    · intro running due
      refine ⟨s.keepEdge, ?_, State.keepEdge_validates running due⟩
      change execValidateEdge s = _
      simp [execValidateEdge, due, running]

end Sys2Proof.Machine
end

section
/-! O42 fails: the first word of a clear, written by an initiator that may not clear the recorder, abandons a sequence that another
one began (R439), so it does not leave every state alone. -/

namespace Sys2Proof.Machine

set_option Elab.async false

/-- The host port has written the first word of a clear. -/
def clearBegun : State :=
  { liveWith [] with evr := { State.reset.evr with clr := some 0x100 } }

/-- CLR_FIRST is a write of the first word of the sequence (R439). -/
theorem exec_clrFirst {s : State} (i : Initiator) (h : s.serves [.deck]) :
    exec (.clrFirst i) s = .next (s.evrClr (initCode i) 0x0C1E) :=
  (State.act_eq _ h : execClrFirst i s = _)

/-- Written by the debug port it abandons the sequence of the host port. -/
theorem clearBegun_abandoned : (clearBegun.evrClr (initCode .dbg) 0x0C1E).evr.clr = none := by decide

/-- Refutes O42: CLR_FIRST of the debug port in `clearBegun` abandons the host port's sequence, and the statement has it change
nothing. -/
theorem not_recorderCommands : ¬ Obligations.RecorderCommands := by
  unfold Obligations.RecorderCommands
  intro h
  have serves : clearBegun.serves [.deck] := by decide
  obtain ⟨-, -, -, -, -, -, -, -, -, -, -, other, -⟩ := h clearBegun 0 0 .dbg serves
  obtain ⟨t, run, kept⟩ := other (by decide) (by decide)
  obtain rfl : clearBegun.evrClr (initCode .dbg) 0x0C1E = t := by
    rw [exec_clrFirst .dbg serves] at run
    exact Host.Outcome.next.inj run
  have abandoned := clearBegun_abandoned
  rw [kept] at abandoned
  exact absurd abandoned (by decide)

end Sys2Proof.Machine
end

section
/-! O43: HEALTH's levels, verdicts and retirements (R446 to R458). -/

namespace Sys2Proof.Machine

set_option Elab.async false

variable {s : State}

/-! ### SHUTDOWN (R447, R450) -/

/-- Every solenoid channel is disarmed (R450). -/
theorem State.solDisarm_armed (s : State) {n : Nat} (channel : n < 32) : s.solDisarm.rd F.SOL_CH_STAT_ARMED n = 0 :=
  (State.rd_each_wr (f := F.SOL_CH_STAT_ARMED) (by decide) (g := fun _ => 0) _ List.nodup_range s (List.mem_range.mpr channel)).trans
    rfl

theorem State.solDisarm_foot (s : State) : Foot [F.SOL_CH_STAT_ARMED] s s.solDisarm :=
  (Foot.refl s).each fun _ _ h => h.wrB

/-- Dropping the outputs leaves OWN_OUT low, whether it was high or not (R450). -/
theorem State.ownDrop_low (s : State) : Foot ownFlds s s.ownDrop ∧ s.ownDrop.rd F.TWIN_STAT_OWN_OUT = 0 := by
  cases raised : s.bit F.TWIN_STAT_OWN_OUT
  · have kept : s.ownDrop = s := by
      unfold State.ownDrop
      rw [raised]
      rfl
    rw [kept]
    exact ⟨Foot.refl s, by simpa [State.bit] using raised⟩
  · obtain ⟨foot, level, -, -⟩ := State.ownDrop_set raised
    exact ⟨foot, level⟩

/-- What the entry to SHUTDOWN writes (R450). -/
def shutFlds : List Fld := [F.SOL_CH_STAT_ARMED, F.HEALTH_THERM_STAT_HALT_HOT] ++ ownFlds ++ roleFlds

/-- The outputs are dropped, the channels disarmed, and HALT_HOT set (R450). -/
def State.halted (s : State) : State :=
  let u := s.ownDrop.solDisarm.wrB F.HEALTH_THERM_STAT_HALT_HOT true
  { u with health := { u.health with runOn := s.dispatches, resumeStep := 0 } }

theorem State.shutdown_eq (s : State) : s.shutdown = if s.halted.paired then s.halted.setRole .halted else s.halted := rfl

/-- Whether a device is one of a pair is read from registers that a shutdown leaves alone (R37). -/
theorem Foot.paired {fs : List Fld} {t : State} (h : Foot fs s t)
    (enabled : (fs.all fun g => g.apart F.TWIN_CTL_EN) = true := by decide)
    (lock : (fs.all fun g => g.apart F.SYS_DEVICE_ID_LOCK) = true := by decide)
    (id : (fs.all fun g => g.apart F.SYS_DEVICE_ID_ID) = true := by decide) : t.paired = s.paired := by
  unfold State.paired State.joinable State.devId
  rw [h.bit _ 0 0 enabled, h.bit _ 0 0 lock, h.rd _ 0 0 id]

theorem State.halted_spec (s : State) : Foot shutFlds s s.halted ∧
    s.halted.rd F.HEALTH_THERM_STAT_HALT_HOT = 1 ∧ s.halted.rd F.TWIN_STAT_OWN_OUT = 0 ∧
    ∀ n < 32, s.halted.rd F.SOL_CH_STAT_ARMED n = 0 := by
  obtain ⟨foot, low⟩ := s.ownDrop_low
  have disarmed := State.solDisarm_foot s.ownDrop
  have armed (n : Nat) (channel : n < 32) := State.solDisarm_armed s.ownDrop channel
  obtain ⟨health, shown⟩ : ∃ health, s.halted = { s.ownDrop.solDisarm.wrB F.HEALTH_THERM_STAT_HALT_HOT true with health := health } :=
    ⟨_, rfl⟩
  rw [shown]
  generalize s.ownDrop.solDisarm = u at disarmed armed
  have hot : Foot [F.HEALTH_THERM_STAT_HALT_HOT] u { u.wrB F.HEALTH_THERM_STAT_HALT_HOT true with health := health } :=
    (Foot.refl u).wrB.same
  have halt : (u.wrB F.HEALTH_THERM_STAT_HALT_HOT true).rd F.HEALTH_THERM_STAT_HALT_HOT = 1 := State.rd_wr_same _ _ _ _ _
  exact ⟨(foot.mono (by decide)).trans ((disarmed.mono (by decide)).trans (hot.mono (by decide))), halt,
    (hot.rd _ 0 0 (by decide)).trans ((disarmed.rd _ 0 0 (by decide)).trans low),
    fun n h => (hot.rd _ n 0 (by decide)).trans (armed n h)⟩

theorem State.shutdown_spec (s : State) : s.shutdown.rd F.HEALTH_THERM_STAT_LEVEL = s.rd F.HEALTH_THERM_STAT_LEVEL ∧
    s.shutdown.rd F.HEALTH_THERM_STAT_HALT_HOT = 1 ∧ s.shutdown.rd F.TWIN_STAT_OWN_OUT = 0 ∧
    (s.paired = true → s.shutdown.rd F.TWIN_STAT_ROLE = 5) ∧ ∀ n < 32, s.shutdown.rd F.SOL_CH_STAT_ARMED n = 0 := by
  obtain ⟨foot, halt, out, armed⟩ := s.halted_spec
  rw [State.shutdown_eq, foot.paired]
  have level : s.halted.rd F.HEALTH_THERM_STAT_LEVEL = s.rd F.HEALTH_THERM_STAT_LEVEL := foot.rd _ 0 0 (by decide)
  split
  case isTrue paired =>
    have role := s.halted.setRole_foot .halted
    exact ⟨(role.rd _ 0 0 (by decide)).trans level, (role.rd _ 0 0 (by decide)).trans halt, (role.rd _ 0 0 (by decide)).trans out,
      fun _ => s.halted.setRole_role .halted, fun n h => (role.rd _ n 0 (by decide)).trans (armed n h)⟩
  case isFalse alone => exact ⟨level, halt, out, fun h => absurd h alone, armed⟩

theorem thermalComparator_shuts (k : Fin 8) (serves : s.serves []) (below : s.rd F.HEALTH_THERM_STAT_LEVEL ≠ 3) :
    Completes (.thermalComparator k) s fun t => t.rd F.HEALTH_THERM_STAT_LEVEL = 3 ∧ t.rd F.HEALTH_THERM_STAT_HALT_HOT = 1 ∧
      t.rd F.TWIN_STAT_OWN_OUT = 0 ∧ (s.paired = true → t.rd F.TWIN_STAT_ROLE = 5) ∧
      ∀ n < 32, t.rd F.SOL_CH_STAT_ARMED n = 0 := by
  refine Completes.of_act (fun s => s.thermTo 3 k.val) serves rfl ?_
  obtain ⟨v, shut, foot, level⟩ : ∃ v : State, s.thermTo 3 k.val = v.shutdown ∧
      Foot [F.HEALTH_THERM_STAT_LEVEL, F.EVR_QLOST] s v ∧ v.rd F.HEALTH_THERM_STAT_LEVEL = 3 := by
    unfold State.thermTo
    simp only [if_neg below.symm, if_true, State.event_eq_raise]
    refine ⟨_, rfl, Foot.raise (Foot.wr (Foot.refl s)), (State.raise_rd_apart _ _ _ (by decide)).trans ?_⟩
    exact State.rd_wr_same _ _ _ _ _
  obtain ⟨stays, halt, out, role, armed⟩ := v.shutdown_spec
  rw [shut]
  exact ⟨stays.trans level, halt, out, fun h => role (foot.paired.trans h), armed⟩

theorem thermalComparator_again (k : Fin 8) (serves : s.serves []) (shut : s.rd F.HEALTH_THERM_STAT_LEVEL = 3) :
    Completes (.thermalComparator k) s fun t => t = s := by
  refine Completes.of_act (fun s => s.thermTo 3 k.val) serves rfl ?_
  unfold State.thermTo
  dsimp only
  rw [if_pos shut.symm]

/-! ### A slice that is retired (R211, R244, R457) -/

/-- What retiring a slice writes of the rotation and of its group's source (R211, R244, R248). -/
def sliceFlds : List Fld := [F.CONV_CAL_STAT_PAUSED, F.CONV_CAL_STAT_PERM, F.CONV_CAL_STAT_SS_GROUP, F.SENS_IEX_STAT_LEVEL_NOW]

/-- From `s` to `t` a field reads as before that is none of `fs` and not the compliance flag of source `k`. -/
def SliceKept (k : Nat) (s t : State) : Prop :=
  t.health = s.health ∧ ∀ f i j, (sliceFlds.all fun g => g.apart f) = true → F.SENS_IEX_STAT_COMPL.key k 0 ≠ f.key i j →
    t.rd f i j = s.rd f i j

namespace SliceKept

variable {k : Nat} {t u : State}

theorem refl (s : State) : SliceKept k s s := ⟨rfl, fun _ _ _ _ _ => rfl⟩

theorem trans (h : SliceKept k s t) (h' : SliceKept k t u) : SliceKept k s u :=
  ⟨h'.1.trans h.1, fun f i j hf hk => (h'.2 f i j hf hk).trans (h.2 f i j hf hk)⟩

theorem ite {c : Prop} {_ : Decidable c} (h : SliceKept k s t) (hu : SliceKept k s u) : SliceKept k s (if c then t else u) := by
  split
  · exact h
  · exact hu

theorem wr {f : Fld} {v i j : Nat} (h : SliceKept k s t) (hf : f ∈ sliceFlds := by decide) : SliceKept k s (t.wr f v i j) :=
  h.trans ⟨rfl, fun _ _ _ hg _ => t.rd_wr_apart _ _ _ _ _ (List.all_eq_true.mp hg f hf)⟩

/-- A change of the converters or of the sensors. -/
theorem parts (h : SliceKept k s t) {conv : ConvSt} {sens : SensSt} : SliceKept k s { t with conv := conv, sens := sens } := h

theorem iexApply (h : SliceKept k s t) : SliceKept k s (t.iexApply k) := by
  have compl : SliceKept k t (t.wrB F.SENS_IEX_STAT_COMPL false k) :=
    ⟨rfl, fun f i j _ hk => t.rd_wr_ne _ _ _ _ _ _ _ hk⟩
  unfold State.iexApply
  extract_lets l u v _m
  have first : SliceKept k s u := h.trans (compl.ite (refl t))
  have second : SliceKept k s v := wr first
  exact h.ite (parts second)

theorem boundary (h : SliceKept k s t) : SliceKept k s (t.boundary k) := by
  unfold State.boundary
  extract_lets u
  have first : SliceKept k s u := h.iexApply
  split
  · exact first
  · exact first.ite (wr (wr (parts first)))

theorem sliceRetired (h : SliceKept k s t) : SliceKept k s (t.sliceRetired k) := by
  unfold State.sliceRetired
  extract_lets _m u _m1 v
  have first : SliceKept k s u := wr (f := F.CONV_CAL_STAT_PAUSED) (parts h)
  have second : SliceKept k s v := by
    unfold v
    exact ite (wr (f := F.CONV_CAL_STAT_PERM) (parts first)) (first.ite (parts first))
  exact second.ite second.boundary

end SliceKept

/-- A slice that is retired is out, and what HEALTH holds and shows of verdicts stays (R457). -/
theorem State.retireSlice_spec (s : State) {k : Nat} (slice : k < 17) (source : Nat) :
    (s.retireSlice k source).isRetired 2 k = true ∧ (s.retireSlice k source).health = s.health ∧
      ∀ f ∈ [F.HEALTH_LAST_CLASS, F.HEALTH_LAST_UNIT, F.HEALTH_LAST_VERDICT], (s.retireSlice k source).rd f = s.rd f := by
  generalize noted : (s.setMap F.HEALTH_RET_SLICE k).event 0xC08 [2, k, source] = v
  have kept : SliceKept k v (s.retireSlice k source) := by
    rw [← noted]
    exact (SliceKept.refl _).sliceRetired
  have foot : Foot [F.HEALTH_RET_SLICE, F.EVR_QLOST] s v := by
    rw [← noted]
    exact Foot.raise (Foot.wr (Foot.refl s))
  have health : v.health = s.health := by rw [← noted]; exact State.raise_health _ _ _ _ _
  have map : v.rd F.HEALTH_RET_SLICE = (s.rd F.HEALTH_RET_SLICE ||| 2 ^ k) % 2 ^ 32 := by
    rw [← noted]
    exact (State.raise_rd_apart _ _ _ (by decide)).trans (State.rd_wr_same _ _ _ _ _)
  have apart : ∀ k < 17, ∀ f ∈ [F.HEALTH_RET_SLICE, F.HEALTH_LAST_CLASS, F.HEALTH_LAST_UNIT, F.HEALTH_LAST_VERDICT],
      F.SENS_IEX_STAT_COMPL.key k 0 ≠ f.key 0 0 := by decide
  refine ⟨?_, kept.1.trans health, fun f hf => ?_⟩
  · change ((s.retireSlice k source).rd F.HEALTH_RET_SLICE).testBit k = true
    rw [kept.2 F.HEALTH_RET_SLICE 0 0 (by decide) (apart k slice _ (by simp)), map, Nat.testBit_mod_two_pow, Nat.testBit_or,
      Nat.testBit_two_pow_self]
    simp
    omega
  · have others : ∀ f ∈ [F.HEALTH_LAST_CLASS, F.HEALTH_LAST_UNIT, F.HEALTH_LAST_VERDICT],
        (sliceFlds.all fun g => g.apart f) = true ∧ ([F.HEALTH_RET_SLICE, F.EVR_QLOST].all fun g => g.apart f) = true := by decide
    exact (kept.2 f 0 0 (others f hf).1 (apart k slice f (List.mem_cons_of_mem _ hf))).trans (foot.rd f 0 0 (others f hf).2)

theorem State.retire_slice (s : State) {k : Nat} (slice : k < 17) (unretired : s.isRetired 2 k = false) (source : Nat) :
    s.retire 2 k source = s.retireSlice k source := by
  unfold State.retire
  rw [unretired, show unitExists 2 k = true from decide_eq_true slice]
  rfl

end Sys2Proof.Machine
end

section
/-! O43: HEALTH's tests (R453 to R458), and the whole. -/

namespace Sys2Proof.Machine

set_option Elab.async false

variable {s : State}

/-! ### Verdicts on a slice (R456) -/

/-- What a verdict shows of its unit (R456). -/
def State.verdictShown (s : State) (cls unit count : Nat) (lasting : Bool) : State :=
  let v := (((s.wr F.HEALTH_LAST_CLASS cls).wr F.HEALTH_LAST_UNIT unit).wr F.HEALTH_LAST_COUNT (min 127 count)).wrB
    F.HEALTH_LAST_VERDICT lasting
  let v := if lasting then v.incSat F.HEALTH_CLASS_STAT_LASTING cls else v.incSat F.HEALTH_CLASS_STAT_TRANSIENTS cls
  v.event 0xC07 [cls, unit, lasting.toNat, count]

/-- What a verdict writes (R456). -/
def verdictFlds : List Fld := [F.HEALTH_LAST_CLASS, F.HEALTH_LAST_UNIT, F.HEALTH_LAST_COUNT, F.HEALTH_LAST_VERDICT,
  F.HEALTH_CLASS_STAT_LASTING, F.HEALTH_CLASS_STAT_TRANSIENTS, F.EVR_QLOST]

theorem State.verdictShown_spec (s : State) {unit count : Nat} (lasting : Bool) (fits : unit < 17) :
    (s.verdictShown 2 unit count lasting).health = s.health ∧ Foot verdictFlds s (s.verdictShown 2 unit count lasting) ∧
      (s.verdictShown 2 unit count lasting).rd F.HEALTH_LAST_CLASS = 2 ∧
      (s.verdictShown 2 unit count lasting).rd F.HEALTH_LAST_UNIT = unit ∧
      (s.verdictShown 2 unit count lasting).rd F.HEALTH_LAST_VERDICT = lasting.toNat ∧
      (s.verdictShown 2 unit count lasting).rd F.HEALTH_LAST_COUNT = min 127 count := by
  generalize shown : (((s.wr F.HEALTH_LAST_CLASS 2).wr F.HEALTH_LAST_UNIT unit).wr F.HEALTH_LAST_COUNT (min 127 count)).wrB
    F.HEALTH_LAST_VERDICT lasting = v
  have foot : Foot verdictFlds s v := shown ▸ (Foot.refl s).wr.wr.wr.wrB
  have sets : Sets s v [(F.HEALTH_LAST_CLASS, 0, 0, 2), (F.HEALTH_LAST_UNIT, 0, 0, unit), (F.HEALTH_LAST_COUNT, 0, 0, min 127 count),
      (F.HEALTH_LAST_VERDICT, 0, 0, lasting.toNat)] := by
    refine Sets.of_wrs shown.symm ?_
    have unit' : unit < 2 ^ F.HEALTH_LAST_UNIT.width := lt_trans fits (by decide)
    have count' : min 127 count < 2 ^ F.HEALTH_LAST_COUNT.width := lt_of_le_of_lt (Nat.min_le_left _ _) (by decide)
    have flag : lasting.toNat < 2 ^ F.HEALTH_LAST_VERDICT.width := Bool.toNat_lt _
    simp only [Fits, List.all_cons, List.all_nil, Bool.and_true, Bool.and_eq_true, decide_eq_true_eq]
    exact ⟨by decide, unit', count', flag⟩
  generalize counted : (if lasting then v.incSat F.HEALTH_CLASS_STAT_LASTING 2 else v.incSat F.HEALTH_CLASS_STAT_TRANSIENTS 2) = w
  have result : s.verdictShown 2 unit count lasting = w.event 0xC07 [2, unit, lasting.toNat, count] := by
    rw [← counted, ← shown]
    rfl
  have more : Foot verdictFlds v w := counted ▸ Foot.ite (Foot.wr (Foot.refl v)) (Foot.wr (Foot.refl v))
  have kept (f : Fld) (lastings : F.HEALTH_CLASS_STAT_LASTING.key 2 0 ≠ f.key 0 0)
      (transients : F.HEALTH_CLASS_STAT_TRANSIENTS.key 2 0 ≠ f.key 0 0) (events : f.apart F.EVR_QLOST = true) :
      (s.verdictShown 2 unit count lasting).rd f = v.rd f := by
    rw [result, State.event_eq_raise]
    refine (State.raise_rd_apart _ _ _ events).trans ?_
    rw [← counted]
    split
    · exact v.rd_wr_ne _ _ _ _ _ _ _ lastings
    · exact v.rd_wr_ne _ _ _ _ _ _ _ transients
  have row (r : Row) (hr : r ∈ [(F.HEALTH_LAST_CLASS, 0, 0, 2), (F.HEALTH_LAST_UNIT, 0, 0, unit), (F.HEALTH_LAST_COUNT, 0, 0, min 127 count),
      (F.HEALTH_LAST_VERDICT, 0, 0, lasting.toNat)]) := sets.fields r hr
  refine ⟨?_, ?_, ?_, ?_, ?_, ?_⟩
  · rw [result, ← counted, ← shown, State.event_eq_raise, State.raise_health]
    cases lasting <;> rfl
  · rw [result]
    exact (foot.trans more).raise
  · exact (kept _ (by decide) (by decide) (by decide)).trans (row (F.HEALTH_LAST_CLASS, 0, 0, 2) (by simp))
  · exact (kept _ (by decide) (by decide) (by decide)).trans (row (F.HEALTH_LAST_UNIT, 0, 0, unit) (by simp))
  · exact (kept _ (by decide) (by decide) (by decide)).trans (row (F.HEALTH_LAST_VERDICT, 0, 0, lasting.toNat) (by simp))
  · exact (kept _ (by decide) (by decide) (by decide)).trans (row (F.HEALTH_LAST_COUNT, 0, 0, min 127 count) (by simp))

theorem Foot.isRetired {fs : List Fld} {t : State} (h : Foot fs s t) (k : Nat)
    (apart : (fs.all fun g => g.apart F.HEALTH_RET_SLICE) = true := by decide) : t.isRetired 2 k = s.isRetired 2 k := by
  change (t.rd F.HEALTH_RET_SLICE).testBit k = (s.rd F.HEALTH_RET_SLICE).testBit k
  rw [h.rd _ 0 0 apart]

/-- The state in which the test of a unit has ended (R456). -/
def State.testEnded (s : State) (cls unit : Nat) : State :=
  { s with health := { s.health with running := s.health.running.filter (· != (cls, unit)) } }

theorem execSelftestDone_slice {pass : Bool} {u : Nat} {rest : List (Nat × Nat)} (serves : s.serves [])
    (runs : testsOf s.health.running 2 = (2, u) :: rest) :
    execSelftestDone 2 pass s = .next (
      if ((s.testEnded 2 u).verdict 2 u pass).health.due.contains (2, u, 0) ||
        ((s.testEnded 2 u).verdict 2 u pass).retireDue.isRetired 2 u then ((s.testEnded 2 u).verdict 2 u pass).retireDue
      else ((s.testEnded 2 u).verdict 2 u pass).retireDue.unitReturns 2 u) := by
  refine (State.act_eq _ serves).trans ?_
  have head : (testsOf s.health.running 2).head? = some (2, u) := by rw [runs]; rfl
  have head' : (testsOf s.health.running ((2 : Fin 5) : Nat)).head? = some (2, u) := head
  simp only [head']
  rfl

theorem selftestDone_fails {u : Nat} {rest : List (Nat × Nat)} (serves : s.serves [])
    (runs : testsOf s.health.running 2 = (2, u) :: rest) (slice : u < 17) (unretired : s.isRetired 2 u = false)
    (due : s.health.due = []) :
    Completes (.selftestDone 2 false) s fun t => t.rd F.HEALTH_LAST_CLASS = 2 ∧ t.rd F.HEALTH_LAST_UNIT = u ∧
        t.rd F.HEALTH_LAST_VERDICT = 1 ∧ t.isRetired 2 u = true ∧ (2, u) ∉ t.health.running := by
  refine ⟨_, execSelftestDone_slice serves runs, ?_⟩
  obtain ⟨count, judged⟩ : ∃ count, (s.testEnded 2 u).verdict 2 u false =
      { (s.testEnded 2 u).verdictShown 2 u count true with health :=
        { ((s.testEnded 2 u).verdictShown 2 u count true).health with
          due := ((s.testEnded 2 u).verdictShown 2 u count true).health.due ++ [(2, u, 0)] } } := ⟨_, rfl⟩
  obtain ⟨health, foot, cls, unit, lasting, -⟩ := (s.testEnded 2 u).verdictShown_spec (count := count) true slice
  generalize (s.testEnded 2 u).verdictShown 2 u count true = v at judged health foot cls unit lasting
  have whole : v.isRetired 2 u = false := (foot.isRetired u).trans unretired
  have carried : ((s.testEnded 2 u).verdict 2 u false).retireDue =
      ({ v with health := { v.health with due := [] } } : State).retireSlice u 0 := by
    rw [judged]
    unfold State.retireDue
    have one : v.health.due ++ [(2, u, 0)] = [(2, u, 0)] := by rw [health, State.testEnded, due]; rfl
    rw [one]
    exact State.retire_slice { v with health := { v.health with due := [] } } slice whole 0
  obtain ⟨out, stays, last⟩ := ({ v with health := { v.health with due := [] } } : State).retireSlice_spec slice 0
  rw [carried, out, Bool.or_true, if_pos rfl]
  refine ⟨(last _ (by simp)).trans cls, (last _ (by simp)).trans unit, (last _ (by simp)).trans lasting, out, ?_⟩
  rw [stays]
  dsimp only
  rw [health]
  simp [State.testEnded]

/-- Without a retirement due there is nothing to carry out. -/
theorem State.retireDue_none (none : s.health.due = []) : s.retireDue = s := by
  unfold State.retireDue
  rw [none]
  change ({ s with health := { s.health with due := [] } } : State) = s
  rw [← none]

theorem selftestDone_passes {u : Nat} {rest : List (Nat × Nat)} (serves : s.serves [])
    (runs : testsOf s.health.running 2 = (2, u) :: rest) (slice : u < 17) (unretired : s.isRetired 2 u = false)
    (due : s.health.due = []) (new : s.trackOf 2 u = none) (room : s.health.track.length < 64)
    (limit : 1 ≤ s.rd F.HEALTH_CLASS_CFG_LIMIT 2) :
    Completes (.selftestDone 2 true) s fun t => t.rd F.HEALTH_LAST_CLASS = 2 ∧ t.rd F.HEALTH_LAST_UNIT = u ∧
        t.rd F.HEALTH_LAST_VERDICT = 0 ∧ t.rd F.HEALTH_LAST_COUNT = 1 ∧ t.isRetired 2 u = false ∧
        t.health.track = s.health.track ++ [⟨2, u, 1, s.nowUs⟩] := by
  refine ⟨_, execSelftestDone_slice serves runs, ?_⟩
  generalize counted : ({ s.testEnded 2 u with health := { (s.testEnded 2 u).health with
    track := s.health.track ++ [⟨2, u, 1, s.nowUs⟩] } } : State) = w
  have entered : (s.testEnded 2 u).countTransient 2 u = w := by
    have absent : (s.testEnded 2 u).trackOf 2 u = none := new
    have space : (s.testEnded 2 u).health.track.length < 64 := room
    unfold State.countTransient
    rw [absent]
    dsimp only
    rw [if_pos space, ← counted]
    rfl
  have one : ((w.trackOf 2 u).map (·.count)).getD 0 = 1 := by
    have found : w.trackOf 2 u = some ⟨2, u, 1, s.nowUs⟩ := by
      have absent : s.health.track.find? (fun e => e.cls == 2 && e.unit == u) = none := new
      rw [← counted]
      unfold State.trackOf
      rw [List.find?_append, absent]
      simp
    rw [found]
    rfl
  have passed : ¬ w.rd F.HEALTH_CLASS_CFG_LIMIT 2 < 1 := by
    rw [← counted]
    exact Nat.not_lt.mpr limit
  have judged : (s.testEnded 2 u).verdict 2 u true = w.verdictShown 2 u 1 false := by
    unfold State.verdict
    simp only [if_true, entered, one, Bool.not_true, Bool.false_or, decide_eq_false passed]
    rfl
  obtain ⟨health, foot, cls, unit, transient, count⟩ := w.verdictShown_spec (count := 1) false slice
  rw [judged]
  generalize w.verdictShown 2 u 1 false = v at health foot cls unit transient count
  have none : v.health.due = [] := by rw [health, ← counted]; exact due
  have track : v.health.track = s.health.track ++ [⟨2, u, 1, s.nowUs⟩] := by rw [health, ← counted]
  have carried : v.retireDue = v := State.retireDue_none none
  have whole : v.isRetired 2 u = false := by
    rw [foot.isRetired, ← counted]
    exact unretired
  rw [carried, none, whole, if_neg (by simp)]
  have back : Foot [F.CONV_CAL_STAT_PAUSED] v (v.unitReturns 2 u) ∧ (v.unitReturns 2 u).health = v.health := by
    change Foot _ v (v.sliceCleared u) ∧ (v.sliceCleared u).health = v.health
    unfold State.sliceCleared
    split
    · exact ⟨(Foot.refl v).wrB, rfl⟩
    · exact ⟨Foot.refl v, rfl⟩
  obtain ⟨paused, stays⟩ := back
  exact ⟨(paused.rd _ 0 0 (by decide)).trans cls, (paused.rd _ 0 0 (by decide)).trans unit,
    (paused.rd _ 0 0 (by decide)).trans transient, (paused.rd _ 0 0 (by decide)).trans count, (paused.isRetired u).trans whole,
    (congrArg HealthSt.track stays).trans track⟩

/-! ### Retirements by command, tests of lanes (R453, R458) -/

theorem healthRetire_retires {i : Initiator} {unit : BitVec 15} (serves : s.serves []) (slice : unit.toNat < 17)
    (unretired : s.isRetired 2 unit.toNat = false) (may : i = .host ∨ i = .net) :
    Completes (.healthRetire i 2 unit) s fun t => t.isRetired 2 unit.toNat = true := by
  refine Completes.of_act (fun s => s.retireWrite i true 2 unit.toNat) serves rfl ?_
  have permitted : mayRetire i = true := by rcases may with rfl | rfl <;> rfl
  have foot : Foot [F.HEALTH_RETIRE_CLASS, F.HEALTH_RETIRE_UNIT, F.HEALTH_RETIRE_CMD] s
    (((s.wr F.HEALTH_RETIRE_CLASS 2).wr F.HEALTH_RETIRE_UNIT unit.toNat).wrB F.HEALTH_RETIRE_CMD true) := (Foot.refl s).wr.wr.wrB
  have written : s.retireWrite i true 2 unit.toNat =
      (((s.wr F.HEALTH_RETIRE_CLASS 2).wr F.HEALTH_RETIRE_UNIT unit.toNat).wrB F.HEALTH_RETIRE_CMD true).retireSlice unit.toNat 1 := by
    rw [← State.retire_slice _ slice ((foot.isRetired _).trans unretired)]
    unfold State.retireWrite
    simp only [permitted, unretired, show (2 ≤ 4) = True by simp, if_true, Bool.and_false, Bool.not_true, Bool.or_false,
      Bool.false_eq_true, if_false]
  rw [written]
  exact (State.retireSlice_spec _ slice 1).1

theorem healthRetire_ignored {i : Initiator} {unit : BitVec 15} (serves : s.serves []) (host : i ≠ .host) (net : i ≠ .net) :
    Completes (.healthRetire i 2 unit) s fun t => t = s := by
  refine Completes.of_act (fun s => s.retireWrite i true 2 unit.toNat) serves rfl ?_
  have refused : mayRetire i = false := by
    cases i <;> simp_all [mayRetire]
  unfold State.retireWrite
  simp only [refused, Bool.not_false, Bool.true_or, if_true]

theorem State.masterUpdate_health (s : State) : s.masterUpdate.health = s.health := by
  have choice (c : Prop) [Decidable c] {a b u : State} (ha : a.health = u.health) (hb : b.health = u.health) :
      (if c then a else b).health = u.health := by
    split
    · exact ha
    · exact hb
  unfold State.masterUpdate
  extract_lets m d
  have path : m.health = s.health := rfl
  refine choice _ rfl ?_
  have delay : (if (m.tre.dChange.map (·.2)).getD (m.rd F.TRESTLE_STAT_D + 1) = d then m else
      m.masterFrame.2.announceD (match m.masterFrame.2.tre.spanChange with | some (f, _) => f | none => m.masterFrame.1) d).health
      = s.health := choice _ path path
  exact choice _ delay delay

theorem State.reportHops_health (s : State) : s.reportHops.health = s.health := by
  obtain ⟨sent, eq⟩ := s.treSendBoth_eq fun q => .announce q s.ownMember none
  unfold State.reportHops
  rw [eq]
  split <;> rfl

/-- A port that goes down leaves HEALTH alone (R385). -/
theorem State.portDown_spec (s : State) (p cause : Nat) : (s.portDown p cause).health = s.health ∧
    (p < 2 → (s.portDown p cause).rd F.TRESTLE_PORT_STAT_LINK p = 0) := by
  unfold State.portDown
  split
  case isTrue down => exact ⟨rfl, fun _ => down⟩
  case isFalse =>
    dsimp only
    generalize dropped : (((s.wr F.TRESTLE_PORT_STAT_LINK 0 p).incSat F.TRESTLE_PORT_ERR_DROPS p).wrB F.TRESTLE_STAT_CLOSED false)
      = v
    have link : v.rd F.TRESTLE_PORT_STAT_LINK p = 0 := by
      rw [← dropped]
      refine (State.rd_wr_apart _ _ _ _ _ _ (by decide)).trans ((State.rd_wr_apart _ _ _ _ _ _ (by decide)).trans ?_)
      exact State.rd_wr_same _ _ _ _ _
    have health : v.health = s.health := by rw [← dropped]; rfl
    refine ⟨?_, fun _ => ?_⟩
    · rw [State.masterUpdate_health, State.reportHops_health, State.raise_health, health]
    · rw [(State.masterUpdate_kept _).foot.rd _ _ _ (by decide), State.reportHops_rd, State.raise_rd_apart _ _ _ (by decide), link]

theorem State.twinLaneDown_spec (s : State) (l : Nat) : (s.twinLaneDown l).health = s.health ∧
    (s.twinLaneDown l).rd (laneFld l) = 0 := by
  have lost (u : State) : (u.syncLost .link).health = u.health := by
    unfold State.syncLost
    split
    · rfl
    · exact State.raise_health _ _ _ _ _
  have flag : (s.wrB (laneFld l) false).rd (laneFld l) = 0 := by
    unfold laneFld
    split <;> exact State.rd_wr_same _ _ _ _ _
  have kept (u : State) : (u.syncLost .link).rd (laneFld l) = u.rd (laneFld l) := by
    unfold laneFld
    split <;> exact (u.syncLost_foot .link).rd _ 0 0 (by decide)
  unfold State.twinLaneDown
  dsimp only
  split
  · exact ⟨rfl, flag⟩
  · split
    · exact ⟨lost _, (kept _).trans flag⟩
    · exact ⟨rfl, flag⟩

/-- A lane that goes down for its test (R453). -/
theorem State.laneDown_spec (s : State) (l : Fin 4) : (s.laneDown l).health = s.health ∧
    (l.val < 2 → (s.laneDown l).rd F.TRESTLE_PORT_STAT_LINK l = 0) ∧
    (2 ≤ l.val → (s.laneDown l).rd (laneFld (l.val - 2)) = 0) := by
  unfold State.laneDown
  split
  case isTrue twin =>
    obtain ⟨health, flag⟩ := s.twinLaneDown_spec (l.val - 2)
    exact ⟨health, fun ring => absurd twin (Nat.not_le.mpr ring), fun _ => flag⟩
  case isFalse ring =>
    obtain ⟨health, link⟩ := State.portDown_spec (s.free 93).2 l.val ((s.free 93).1 % 256)
    exact ⟨health, link, fun twin => absurd twin ring⟩

theorem laneErroredBlocks_tests (l : Fin 4) (serves : s.serves []) (on : s.domOn .link = true) (whole : s.isRetired 4 l = false)
    (free : s.testsBusy 4 = false) (first : testsOf s.health.queued 4 = []) (due : s.health.due = []) :
    Completes (.laneErroredBlocks l) s fun t => (4, l.val) ∈ t.health.running ∧
      (l.val < 2 → t.rd F.TRESTLE_PORT_STAT_LINK l = 0) ∧ (2 ≤ l.val → t.rd (laneFld (l.val - 2)) = 0) := by
  have link : s.serves [.link] := ⟨serves.1, by simp [on]⟩
  refine Completes.of_act (fun s => s.unitError 4 l) link rfl ?_
  have absent (tests : List (Nat × Nat)) (h : testsOf tests 4 = []) : (4, l.val) ∉ tests := fun mem => by
    have : (4, l.val) ∈ testsOf tests 4 := List.mem_filter.mpr ⟨mem, rfl⟩
    rw [h] at this
    exact absurd this List.not_mem_nil
  have idle : testsOf s.health.running 4 = [] ∧ testsOf s.health.again 4 = [] := by
    unfold State.testsBusy at free
    simpa using free
  have new : s.testPending 4 l = false := by
    unfold State.testPending
    simp [absent _ idle.1, absent _ idle.2, absent _ first]
  have started : s.startTest 4 l = { s with health := { s.health with running := s.health.running ++ [(4, l.val)] } } := by
    unfold State.startTest
    simp only [whole, new, free, first, Bool.false_eq_true, if_false, Bool.not_false, List.isEmpty_nil, Bool.and_true, if_true]
  generalize begun : ({ s with health := { s.health with running := s.health.running ++ [(4, l.val)] } } : State) = v at started
  have runs : (4, l.val) ∈ v.health.running := by rw [← begun]; simp
  obtain ⟨health, ring, twin⟩ := v.laneDown_spec l
  have down : (s.startTest 4 l).testBegins 4 l = v.laneDown l := by
    rw [started]
    unfold State.testBegins
    rw [if_neg (by simpa using runs), if_pos rfl]
  have none : (v.laneDown l).health.due = [] := by rw [health, ← begun]; exact due
  have whole' : s.unitError 4 l = v.laneDown l := by
    unfold State.unitError
    rw [down, State.retireDue_none none]
  rw [whole', health]
  exact ⟨runs, ring, twin⟩

/-- Settles O43: each clause by the lemma about its command. -/
theorem healthCommands : Obligations.HealthCommands := by
  unfold Obligations.HealthCommands
  intro s d low serves warn thr shut fresh good
  refine ⟨fun k below => thermalComparator_shuts k serves below, fun k shut => thermalComparator_again k serves shut, ?_, ?_, ?_, ?_,
    fun u rest runs slice whole due => ⟨selftestDone_fails serves runs slice whole due,
      fun new room limit => selftestDone_passes serves runs slice whole due new room limit⟩, ?_, ?_,
    fun i unit slice whole => ⟨healthRetire_retires serves slice whole, healthRetire_ignored serves⟩,
    fun l on whole free first due => laneErroredBlocks_tests l serves on whole free first due, ⟨_, rfl, rfl⟩⟩
  · intro taken
    refine Completes.of_act (fun s => s.thrWrite d.toNat) serves rfl ?_
    unfold State.thrWrite
    dsimp only
    rw [if_pos taken]
    refine Sets.of_wrs rfl ?_
    simp only [Fits, List.all_cons, List.all_nil, Bool.and_true, Bool.and_eq_true, decide_eq_true_eq]
    exact ⟨Nat.mod_lt _ (by decide), Nat.mod_lt _ (by decide), Nat.mod_lt _ (by decide)⟩
  · intro ignored
    refine Completes.of_act (fun s => s.thrWrite d.toNat) serves rfl ?_
    unfold State.thrWrite
    dsimp only
    rw [if_neg ignored]
  · intro permanent first
    refine Completes.of_act _ serves rfl ?_
    rw [permanent, first]
    exact ⟨_, Sets.of_wrs rfl, rfl⟩
  · intro cls u us free first few left
    refine ⟨_, (State.act_eq _ serves : execSelftestQueuedStart cls s = _), ?_⟩
    have head : (testsOf s.health.queued cls).head? = some u := by rw [first]; rfl
    simp only [free, head]
    refine ⟨_, Sets.of_wr ?_ (lt_trans few (by decide)), rfl⟩
    unfold State.showQueue
    rw [left]
  · intro slot
    refine ⟨_, (State.act_eq _ serves : execTrackExpiry s = _), ?_⟩
    have due : expirySlot s.frame = true := decide_eq_true slot
    simp only [due, Bool.not_true, Bool.false_eq_true, if_false]
    rfl
  · intro slot
    refine ⟨_, (State.act_eq _ serves : execTrackExpiry s = _), ?_⟩
    have early : expirySlot s.frame = false := decide_eq_false (Nat.not_le.mpr slot)
    simp only [early, Bool.not_false, if_true]

end Sys2Proof.Machine
end

section
/-! O44, O45: resets, and what does not reset the device (R461 to R469). -/

namespace Sys2Proof.Machine

set_option Elab.async false

variable {s : State}

/-! ### What a reset leaves (R463 to R465) -/

theorem Sparse.find?_filter_out {α : Type} (m : Sparse α) {p : Nat × α → Bool} {k : Nat} (out : ∀ v, p (k, v) = false) :
    Sparse.find? (m.filter p) k = none := by
  induction m with
  | nil => rfl
  | cons kv m ih =>
    obtain ⟨k', v⟩ := kv
    rw [List.filter_cons]
    split
    case isTrue kept =>
      have other : k' ≠ k := fun h => by
        rw [h, out v] at kept
        exact absurd kept Bool.false_ne_true
      rw [Sparse.find?, if_neg other, ih]
    case isFalse => exact ih

/-- A register outside the keystone's block takes its reset value (R464). -/
theorem State.wiped_rd (s : State) (r : RstPhase) (f : Fld) {i j : Nat} (out : keyInBlock 12 (f.key i j) = false) :
    (s.wiped r).rd f i j = f.reset i j := by
  change Sparse.get (Sparse.del (s.rf.filter fun (kv : Nat × Nat) => keyInBlock 12 kv.1) (F.KEEP_STAT_FROZEN.key 0 0)) (f.reset i j)
    (f.key i j) = f.reset i j
  rw [Sparse.get_del]
  split
  · rfl
  · rw [Sparse.get, Sparse.find?_filter_out _ fun _ => out]
    rfl

/-- What a reset writes after it cleared the registers (R463, R465, R471). -/
def resetFlds : List Fld := [F.SYS_RST_CAUSE_CAUSE, F.SYS_RST_CAUSE_HIST, F.SYS_BOOT_STAT_PINS, F.TWIN_STAT_ROLE_PREF,
  F.TWIN_STAT_OWN_IN, F.SYS_PLL_STAT_PLL_D_LOST, F.SYS_PLL_STAT_PLL_L_LOST, F.SYS_PLL_STAT_PLL_N_LOST, F.SYS_PLL_STAT_PLL_B_LOST,
  F.SYS_PLL_STAT_LF_LOST]

/-- What a reset of a cause leaves (R463 to R465, R471). -/
structure ResetDone (s t : State) (c : Cause) (r : RstPhase) : Prop where
  cause : t.rd F.SYS_RST_CAUSE_CAUSE = c.code
  hist : (t.rd F.SYS_RST_CAUSE_HIST).testBit c.code = true
  rst : t.power.rst = r
  deck : t.deck = []
  pts : t.pts = {}
  pier : t.pier = {}
  span : t.span = {}
  stopped : t.running = false
  count : t.keep.count = s.keep.count
  epoch : t.keep.epoch = s.keep.epoch
  pins : r = .cleared → t.rd F.SYS_BOOT_STAT_PINS = t.power.bootPins.toNat

theorem ResetDone.raise {t : State} {c : Cause} {r : RstPhase} (h : ResetDone s t c r) (code index : Nat) (words : List Nat)
    (pier : Option Nat) : ResetDone s (t.raise code index words pier) c r where
  cause := (State.raise_rd_apart _ _ _ (by decide)).trans h.cause
  hist := by
    rw [State.raise_rd_apart _ _ _ (by decide)]
    exact h.hist
  rst := (congrArg PowerSt.rst (State.raise_power _ _ _ _ _)).trans h.rst
  deck := (State.raise_deck _ _ _ _ _).trans h.deck
  pts := (State.raise_pts _ _ _ _ _).trans h.pts
  pier := (State.raise_pier _ _ _ _ _).trans h.pier
  span := (State.raise_span _ _ _ _ _).trans h.span
  stopped := (State.raise_bit_apart _ _ _ (by decide)).trans h.stopped
  count := (congrArg KeepSt.count (State.raise_keep _ _ _ _ _)).trans h.count
  epoch := (congrArg KeepSt.epoch (State.raise_keep _ _ _ _ _)).trans h.epoch
  pins cleared := by
    rw [State.raise_rd_apart _ _ _ (by decide), State.raise_power]
    exact h.pins cleared

theorem ResetDone.of_keep {u t : State} {c : Cause} {r : RstPhase} (h : ResetDone u t c r) (keep : u.keep = s.keep) :
    ResetDone s t c r :=
  { h with count := h.count.trans (congrArg KeepSt.count keep), epoch := h.epoch.trans (congrArg KeepSt.epoch keep) }

/-- Writing the residue block leaves what the keystone counts alone (R351). -/
theorem State.resetResidue_keep (s : State) (c : Cause) : (s.resetResidue c).keep = s.keep := by
  have block (u : State) (bs : List Byte) : (u.setResidue bs).keep = u.keep := by
    unfold State.setResidue
    exact State.each_keep _ _ fun _ _ => State.wr_keep _ _ _ _ _
  unfold State.resetResidue State.writeResidue
  split
  · split
    · rfl
    · dsimp only
      split
      · simp [State.wrB, block, State.residueSnap]
      · rfl
  · rfl

/-- The registers as a reset leaves them (R463, R465): its cause, the history and the clocks that were lost. -/
def State.resetNoted (s : State) (c hist : Nat) (lost : List Fld) : State :=
  (((s.wr F.SYS_RST_CAUSE_CAUSE c).wr F.SYS_RST_CAUSE_HIST hist).each lost fun w f => w.wrB f true)

theorem State.resetNoted_spec (s : State) {c hist : Nat} {lost : List Fld} (small : c ≤ 6) (known : ∀ f ∈ lost, f ∈ lostFields) :
    Foot resetFlds s (s.resetNoted c hist lost) ∧ (∃ rf, s.resetNoted c hist lost = { s with rf := rf }) ∧
      (s.resetNoted c hist lost).rd F.SYS_RST_CAUSE_CAUSE = c ∧ (s.resetNoted c hist lost).rd F.SYS_RST_CAUSE_HIST = hist % 2 ^ 7 := by
  have step (l : List Fld) (hl : ∀ f ∈ l, f ∈ lostFields) (u : State) : Foot lostFields u (u.each l fun w f => w.wrB f true) ∧
      ∃ rf, (u.each l fun w f => w.wrB f true) = { u with rf := rf } := by
    unfold State.each
    induction l generalizing u with
    | nil => exact ⟨Foot.refl u, _, rfl⟩
    | cons f l ih =>
      obtain ⟨first, rest⟩ := List.forall_mem_cons.mp hl
      obtain ⟨foot, rf, eq⟩ := ih rest (u.wrB f true)
      exact ⟨((Foot.refl u).wrB first).trans foot, rf, eq⟩
  obtain ⟨foot, rf, eq⟩ := step lost known ((s.wr F.SYS_RST_CAUSE_CAUSE c).wr F.SYS_RST_CAUSE_HIST hist)
  refine ⟨Foot.trans (Foot.refl s).wr.wr (foot.mono (by decide)), ⟨rf, eq⟩, ?_, ?_⟩
  · refine (foot.rd _ 0 0 (by decide)).trans ((State.rd_wr_apart _ _ _ _ _ _ (by decide)).trans ?_)
    rw [State.rd_wr_same]
    exact Nat.mod_eq_of_lt (lt_of_le_of_lt small (by decide))
  · exact (foot.rd _ 0 0 (by decide)).trans (State.rd_wr_same _ _ _ _ _)

theorem State.samplePins_spec (s : State) : Foot resetFlds s s.samplePins ∧ (∃ rf, s.samplePins = { s with rf := rf }) ∧
    s.samplePins.rd F.SYS_BOOT_STAT_PINS = s.power.bootPins.toNat := by
  refine ⟨(Foot.refl s).wr.wrB, ⟨_, rfl⟩, (State.rd_wr_apart _ _ _ _ _ _ (by decide)).trans ?_⟩
  rw [State.rd_wr_same]
  exact Nat.mod_eq_of_lt s.power.bootPins.isLt

/-- The levels of the pins are sampled again where the reset was released by them (R463). -/
theorem ResetDone.samplePins {t : State} {c : Cause} {r : RstPhase} (h : ResetDone s t c r) : ResetDone s t.samplePins c r := by
  obtain ⟨-, ⟨rf, eq⟩, pins⟩ := t.samplePins_spec
  have foot : Foot [F.SYS_BOOT_STAT_PINS, F.TWIN_STAT_ROLE_PREF] t t.samplePins := (Foot.refl t).wr.wrB
  exact {
    cause := (foot.rd _ 0 0 (by decide)).trans h.cause
    hist := by
      rw [foot.rd _ 0 0 (by decide)]
      exact h.hist
    rst := h.rst
    deck := h.deck
    pts := h.pts
    pier := h.pier
    span := h.span
    stopped := (foot.bit _ 0 0 (by decide)).trans h.stopped
    count := h.count
    epoch := h.epoch
    pins := fun _ => pins }

theorem State.resetBy_done {c : Cause} {r : RstPhase} (running : s.power.rst = .running) : ResetDone s (s.resetBy c r) c r := by
  have small : c.code ≤ 6 := by cases c <;> decide
  generalize snapped : s.resetResidue c = u
  have keep : u.keep = s.keep := snapped ▸ s.resetResidue_keep c
  have bit (h : Nat) : ((if c = Cause.por then 1 else h ||| 2 ^ c.code) % 2 ^ 7).testBit c.code = true := by
    rw [Nat.testBit_mod_two_pow]
    have low : c.code < 7 := Nat.lt_succ_of_le small
    split
    case isTrue por => subst por; decide
    case isFalse => simp [low]
  have known : ∀ f ∈ (if c = .por then [] else lostFields.filter fun f => u.bit f), f ∈ lostFields := by
    split
    · simp
    · exact fun f hf => (List.mem_filter.mp hf).1
  obtain ⟨foot, ⟨rf, rest⟩, cause, hist⟩ := (u.wiped r).resetNoted_spec
    (hist := if c = .por then 1 else u.rd F.SYS_RST_CAUSE_HIST ||| 2 ^ c.code) small known
  generalize noted : (u.wiped r).resetNoted c.code (if c = .por then 1 else u.rd F.SYS_RST_CAUSE_HIST ||| 2 ^ c.code)
    (if c = .por then [] else lostFields.filter fun f => u.bit f) = v at foot rest cause hist
  have result : s.resetBy c r = (if r = .asserted then v else v.samplePins).wrB F.TWIN_STAT_OWN_IN (u.bit F.TWIN_STAT_OWN_IN) := by
    unfold State.resetBy
    rw [if_neg (by simp [running]), snapped, ← noted]
    rfl
  have stopped : v.running = false := by
    unfold State.running State.bit
    rw [foot.rd _ 0 0 (by decide), State.wiped_rd _ _ _ (by decide)]
    rfl
  have sampled : ∃ w, s.resetBy c r = w.wrB F.TWIN_STAT_OWN_IN (u.bit F.TWIN_STAT_OWN_IN) ∧ (∃ rf, w = { u.wiped r with rf := rf }) ∧
      Foot [F.SYS_BOOT_STAT_PINS, F.TWIN_STAT_ROLE_PREF] v w ∧ (r = .cleared → w.rd F.SYS_BOOT_STAT_PINS = w.power.bootPins.toNat) := by
    refine ⟨_, result, ?_⟩
    split
    case isTrue held => exact ⟨⟨rf, rest⟩, Foot.refl v, fun h => by rw [held] at h; cases h⟩
    case isFalse =>
      obtain ⟨-, ⟨rf', rest'⟩, pins⟩ := v.samplePins_spec
      exact ⟨⟨rf', by rw [rest', rest]⟩, (Foot.refl v).wr.wrB, fun _ => pins⟩
  obtain ⟨w, eq, ⟨rf', same⟩, pinned, pins⟩ := sampled
  have read (f : Fld) (apart : ([F.SYS_BOOT_STAT_PINS, F.TWIN_STAT_ROLE_PREF].all fun g => g.apart f) = true)
      (own : F.TWIN_STAT_OWN_IN.apart f = true) : (s.resetBy c r).rd f = v.rd f := by
    rw [eq]
    exact (State.rd_wr_apart _ _ _ _ _ _ own).trans (pinned.rd f 0 0 apart)
  refine ResetDone.of_keep (u := u) ?_ keep
  exact {
    cause := (read _ (by decide) (by decide)).trans cause
    hist := by
      rw [read _ (by decide) (by decide), hist]
      exact bit _
    rst := by rw [eq, same]; rfl
    deck := by rw [eq, same]; rfl
    pts := by rw [eq, same]; rfl
    pier := by rw [eq, same]; rfl
    span := by rw [eq, same]; rfl
    stopped := by
      unfold State.running State.bit at stopped ⊢
      rw [read _ (by decide) (by decide)]
      exact stopped
    count := by rw [eq, same]; rfl
    epoch := by rw [eq, same]; rfl
    pins := fun cleared => by
      rw [eq]
      exact (State.rd_wr_apart _ _ _ _ _ _ (by decide)).trans (pins cleared) }

/-- The reset of a lost joint or clock, with the events that are held over it (R15, R32, R441). -/
theorem State.resetReleased_done {c : Cause} (running : s.power.rst = .running) (first : List (Nat × List Nat)) :
    ResetDone s (s.resetReleased c first) c .cleared := by
  have held (l : List (Nat × List Nat)) {t : State} (h : ResetDone s t c .cleared) :
      ResetDone s (t.each l fun s e => s.event e.1 e.2) c .cleared := by
    unfold State.each
    induction l generalizing t with
    | nil => exact h
    | cons e l ih => exact ih (h.raise _ _ _ _)
  have done := held first (State.resetBy_done (c := c) (r := .cleared) running)
  unfold State.resetReleased
  dsimp only
  split
  · unfold State.releaseEvent State.free
    exact ResetDone.raise (t := { State.each (s.resetBy c .cleared) first fun s e => s.event e.1 e.2 with
      freeCtr := (State.each (s.resetBy c .cleared) first fun s e => s.event e.1 e.2).freeCtr + 1 }) { done with } _ _ _ _
  · exact done

/-! ### The causes of a reset (R463) -/

/-- The loss of a PLL that the device cannot do without (R32). -/
theorem execPllLockLoss_reset {k : Clk} (vital : k = .pllD ∨ k = .pllB) (running : s.power.rst = .running) :
    ∃ t, execPllLockLoss k s = .next t ∧ ResetDone s t .clock .cleared := by
  have held : s.power.rst ≠ .asserted := by simp [running]
  unfold execPllLockLoss
  rw [if_neg held]
  refine ⟨_, rfl, ?_⟩
  rcases vital with rfl | rfl
  · exact ResetDone.of_keep (State.resetReleased_done
      (s := (s.wrB F.SYS_PLL_STAT_PLL_D_LOST true).wrB F.SYS_PLL_STAT_PLL_D_LOCK false) running _) rfl
  · exact ResetDone.of_keep (State.resetReleased_done
      (s := (s.wrB F.SYS_PLL_STAT_PLL_B_LOST true).wrB F.SYS_PLL_STAT_PLL_B_LOCK false) running _) rfl

/-- The second marker in a row was missed on the bearing die (R57). -/
def State.missedAgain (s : State) : State :=
  (State.incSat { s with span := { s.span with marker := none, due := none, misses := 2 } } F.SPAN_BEAR_STAT_MISS_COUNT).event 0x102 []

theorem resetCauses_row {row : Instr × Nat × RstPhase × Bool} {a b : Fin 64} {ls : List (Fin 64)} {key : Word} {boot : BitVec 2}
    {pref : Bool} (listed : row ∈ [
      (Instr.porAssert, 0, RstPhase.asserted, true), (.rstPin boot pref, 1, .cleared, true),
      (.wdogExpiry, 2, .cleared, s.alive && s.bit F.SYS_WDOG_CTL_EN && !s.dbg.frozen),
      (.wdogKick key, 2, .cleared, s.alive && s.bit F.SYS_WDOG_CTL_EN && key != 0x5AFE),
      (.twinResetOrder, 3, .cleared, s.alive && s.domOn .deck && s.domOn .link && s.bit F.SYS_RST_CTL && !s.driving),
      (.softReset, 4, .cleared, s.alive), (.jointFrame (a :: b :: ls), 5, .cleared, s.alive && s.joint),
      (.jointSilence, 5, .cleared, s.alive && s.joint),
      (.bearMarkerMiss, 5, .cleared, s.alive && s.joint && s.running && s.span.misses == 1),
      (.pllLockLoss .pllD, 6, .cleared, true), (.pllLockLoss .pllB, 6, .cleared, true)])
    (held : row.2.2.2 = true) (running : s.power.rst = .running) :
    Completes row.1 s fun t => ∃ c : Cause, c.code = row.2.1 ∧ ResetDone s t c row.2.2.1 := by
  simp only [List.mem_cons, List.not_mem_nil, or_false] at listed
  rcases listed with rfl | rfl | rfl | rfl | rfl | rfl | rfl | rfl | rfl | rfl | rfl
  case _ => exact ⟨_, rfl, .por, rfl, State.resetBy_done running⟩
  case _ =>
    exact ⟨_, rfl, .pin, rfl, ResetDone.samplePins (s := s) ((State.resetBy_done (s := s.setPins boot pref) running).of_keep rfl)⟩
  case _ =>
    obtain ⟨⟨alive, enabled⟩, thawed⟩ := by simpa only [Bool.and_eq_true] using held
    refine ⟨_, (State.act_eq _ ⟨alive, rfl⟩ : execWdogExpiry s = _), .wdog, rfl, ?_⟩
    rw [enabled, thawed]
    exact State.resetBy_done running
  case _ =>
    obtain ⟨⟨alive, enabled⟩, wrong⟩ := by simpa only [Bool.and_eq_true] using held
    refine ⟨_, (State.act_eq _ ⟨alive, rfl⟩ : execWdogKick key s = _), .wdog, rfl, ?_⟩
    dsimp only
    rw [show State.bit (s.wr F.SYS_WDOG_KICK key.toNat) F.SYS_WDOG_CTL_EN = true from
      (State.bit_wr_apart _ _ _ _ _ _ (by decide)).trans enabled, wrong]
    exact ResetDone.of_keep (u := s.wr F.SYS_WDOG_KICK key.toNat) (State.resetBy_done (by exact running)) rfl
  case _ =>
    obtain ⟨⟨⟨⟨alive, deck⟩, link⟩, obeys⟩, quiet⟩ := by simpa only [Bool.and_eq_true] using held
    refine ⟨_, (State.act_eq _ ⟨alive, by simp [deck, link]⟩ : execTwinResetOrder s = _), .twin, rfl, ?_⟩
    rw [obeys, quiet]
    exact State.resetBy_done running
  case _ => exact ⟨_, (State.act_eq _ ⟨held, rfl⟩ : execSoftReset s = _), .soft, rfl, State.resetBy_done running⟩
  case _ =>
    obtain ⟨alive, joint⟩ := by simpa only [Bool.and_eq_true] using held
    refine ⟨_, (State.act_eq _ ⟨alive, rfl⟩ : execJointFrame (a :: b :: ls) s = _), .joint, rfl, ?_⟩
    rw [joint]
    exact State.resetReleased_done running _
  case _ =>
    obtain ⟨alive, joint⟩ := by simpa only [Bool.and_eq_true] using held
    refine ⟨_, (State.act_eq _ ⟨alive, rfl⟩ : execJointSilence s = _), .joint, rfl, ?_⟩
    rw [joint]
    exact State.resetReleased_done running _
  case _ =>
    obtain ⟨⟨⟨alive, joint⟩, inService⟩, second⟩ := by simpa only [Bool.and_eq_true] using held
    have misses : s.span.misses = 1 := by simpa using second
    refine ⟨_, (State.act_eq _ ⟨alive, rfl⟩ : execBearMarkerMiss s = _), .joint, rfl, ?_⟩
    rw [inService, joint, misses]
    refine ResetDone.of_keep (u := s.missedAgain) ?_ ((State.raise_keep _ _ _ _ _).trans rfl)
    exact State.resetReleased_done (s := s.missedAgain) (((congrArg PowerSt.rst (State.raise_power _ _ _ _ _)).trans rfl).trans running) _
  case _ =>
    obtain ⟨t, run, done⟩ := execPllLockLoss_reset (k := .pllD) (.inl rfl) running
    exact ⟨t, run, .clock, rfl, done⟩
  case _ =>
    obtain ⟨t, run, done⟩ := execPllLockLoss_reset (k := .pllB) (.inr rfl) running
    exact ⟨t, run, .clock, rfl, done⟩

/-- Settles O44: every cause goes through the one reset, which clears all but what `State.resetBy_done` names. -/
theorem resetCauses : Obligations.ResetCauses := by
  unfold Obligations.ResetCauses
  intro s row a b ls key boot pref listed held running
  obtain ⟨t, run, c, code, done⟩ := resetCauses_row listed held running
  obtain ⟨cause, hist, rst, deck, pts, pier, span, stopped, count, epoch, pins⟩ := done
  rw [code] at cause hist
  exact ⟨t, run, cause, hist, rst, deck, pts, pier, span, stopped, count, epoch, pins⟩

/-! ### What does not reset the device (R467, R468) -/

theorem State.buildJoint_of_later (later : s.atStep .build = false) : s.buildJoint = s := by
  unfold State.buildJoint
  rw [later]
  rfl

/-- The pins are sampled at the release of a power-on reset (R461, R471). -/
theorem porRelease_sets (boot : BitVec 2) (pref : Bool) (held : s.power.rst = .asserted) : Completes (.porRelease boot pref) s fun t =>
    Sets { s with power := { s.power with rst := .cleared, bootPins := boot, rolePin := pref } } t
      [(F.SYS_BOOT_STAT_PINS, 0, 0, boot.toNat), (F.TWIN_STAT_ROLE_PREF, 0, 0, pref.toNat)] := by
  refine ⟨_, rfl, ?_⟩
  rw [if_pos held]
  exact Sets.of_wrs rfl (by simp [Fits, Fld.width, F.SYS_BOOT_STAT_PINS, F.TWIN_STAT_ROLE_PREF, boot.isLt, pref.toNat_lt])

/-- The loss of PLL_N stops its domain and is recorded (R32). -/
theorem pllLockLoss_net (alive : s.alive = true) : Completes (.pllLockLoss .pllN) s fun t =>
    SetsThen s t [(F.SYS_PLL_STAT_PLL_N_LOST, 0, 0, 1), (F.SYS_PLL_STAT_PLL_N_LOCK, 0, 0, 0)] (fun v => v.event 0x008 [v.pllWord]) ∧
      t.domOn .net = false := by
  obtain ⟨released, -⟩ : s.power.rst ≠ .asserted ∧ _ := by simpa [State.alive] using alive
  refine ⟨s.clockLost .pllN, congrArg Host.Outcome.next (if_neg released), ⟨(s.wrB _ true).wrB _ false, Sets.of_wrs rfl, rfl⟩, ?_⟩
  unfold State.domOn
  rw [Bool.and_eq_false_iff]
  exact .inr ((State.raise_bit_apart _ _ _ (by decide)).trans (State.bit_wr_same ..))

theorem pllLockLoss_lf (alive : s.alive = true) : Completes (.pllLockLoss .lf) s fun t =>
    SetsThen { s with power := { s.power with lfDead := true } } t [(F.SYS_PLL_STAT_LF_LOST, 0, 0, 1), (F.SYS_PLL_STAT_LF_RUN, 0, 0, 0)]
      fun v => v.event 0x008 [v.pllWord] := by
  obtain ⟨released, -⟩ : s.power.rst ≠ .asserted ∧ _ := by simpa [State.alive] using alive
  exact ⟨s.clockLost .lf, congrArg Host.Outcome.next (if_neg released),
    (State.wrB { s with power := { s.power with lfDead := true } } _ true).wrB _ false, Sets.of_wrs rfl, rfl⟩

/-- CMD TWIN sends its order over a link that is alive (R468). -/
theorem twinResetCmd_sets (serves : s.serves []) : Completes .twinResetCmd s fun t =>
    Sets (if s.domOn .link && s.twinAlive then { s with twin := { s.twin with ordersOut := s.twin.ordersOut + 1 } } else s) t
      [(F.SYS_RST_CMD_KEY, 0, 0, 0xC3A5), (F.SYS_RST_CMD_CMD, 0, 0, 2)] := by
  have link : ((s.wr F.SYS_RST_CMD_KEY 0xC3A5).wr F.SYS_RST_CMD_CMD 2).domOn .link = s.domOn .link :=
    ((State.domOn_wr_apart _ _ _ _ _ (by decide) (by decide) (by decide)).trans
      (State.domOn_wr_apart _ _ _ _ _ (by decide) (by decide) (by decide)))
  have lanes : ((s.wr F.SYS_RST_CMD_KEY 0xC3A5).wr F.SYS_RST_CMD_CMD 2).twinAlive = s.twinAlive := by
    have foot : Foot [F.SYS_RST_CMD_KEY, F.SYS_RST_CMD_CMD] s ((s.wr F.SYS_RST_CMD_KEY 0xC3A5).wr F.SYS_RST_CMD_CMD 2) :=
      (Foot.refl s).wr.wr
    unfold State.twinAlive
    rw [foot.bit _ 0 0 (by decide), foot.bit _ 0 0 (by decide)]
  refine ⟨_, (State.act_eq _ serves : execTwinResetCmd s = _), ?_⟩
  unfold State.resetOrder
  rw [link, lanes]
  split
  · exact Sets.of_wrs rfl
  · exact Sets.of_wrs rfl

/-- Settles O45: each command is one chain of writes, or leaves the state as it is. -/
theorem resetControl : Obligations.ResetControl := by
  unfold Obligations.ResetControl
  intro s boot pref
  refine ⟨porRelease_sets boot pref, fun released => ⟨_, rfl, if_neg released⟩, fun serves => ?_, fun serves unobeyed => ?_⟩
  · refine ⟨?_, ?_, twinResetCmd_sets serves, fun joint => ?_, pllLockLoss_net serves.1, pllLockLoss_lf serves.1, fun later => ?_, ?_, ?_⟩
    · exact ⟨_, (State.act_eq _ serves : execWdogEnable s = _), Sets.of_wrs rfl⟩
    · refine ⟨_, (State.act_eq _ serves : execWdogKick 0x5AFE s = _), ?_⟩
      dsimp only
      rw [show ((0x5AFE : Word) != 0x5AFE) = false from rfl, Bool.and_false]
      exact Sets.of_wrs rfl
    · refine ⟨_, (State.act_eq _ serves : execJointFrame [] s = _), ?_⟩
      rw [joint]
      rfl
    · refine ⟨_, (State.act_eq _ serves : execPllRelock .pllL s = _), ?_⟩
      have stays : (s.wrB F.SYS_PLL_STAT_PLL_L_LOCK true).atStep .build = false := (State.atStep_wr s).trans later
      exact Sets.of_wrs (State.buildJoint_of_later stays)
    · exact ⟨_, (State.act_eq _ serves : execPllRelock .lf s = _), Sets.of_wrs rfl⟩
    · exact ⟨_, (State.act_eq _ serves : execDeviceIdLock s = _), Sets.of_wrs rfl⟩
  · refine ⟨_, (State.act_eq _ serves : execTwinResetOrder s = _), ?_⟩
    rw [unobeyed]
    rfl

end Sys2Proof.Machine
end

section
/-! O46: the build-out and boot (R471 to R473). -/

namespace Sys2Proof.Machine

set_option Elab.async false

variable {s : State}

/-! ### The build-out (R473) -/

theorem State.refEnable_spec (s : State) : Foot [F.CONV_REF_CTL] s s.refEnable ∧ s.refEnable.power = s.power ∧
    s.refEnable.bit F.CONV_REF_CTL = true := by
  unfold State.refEnable
  split
  case isTrue on => exact ⟨Foot.refl s, rfl, on⟩
  case isFalse => exact ⟨(Foot.refl s).wrB.same, rfl, (s.bit_wr_same (f := F.CONV_REF_CTL) 1 0 0 :)⟩

/-- What the first command of the build-out makes of the state before the joint trains (R473). -/
def State.clocked (s : State) (joint : Bool) : State :=
  let s := s.event 0x004 [s.rd F.SYS_RST_CAUSE_CAUSE, s.rd F.SYS_RST_CAUSE_HIST, s.pllWord]
  let s := { s with power := { s.power with rst := .running, jointOk := joint } }
  let s := (((s.wrB F.SYS_PLL_STAT_PLL_D_LOCK true).wrB F.SYS_PLL_STAT_PLL_L_LOCK true).wrB F.SYS_PLL_STAT_PLL_N_LOCK true).wrB
    F.SYS_PLL_STAT_PLL_B_LOCK true
  s.wrB F.SYS_PLL_STAT_LF_RUN (!s.power.lfDead)

theorem execBuildOutStart_locked (joint : Bool) (cleared : s.power.rst = .cleared) :
    execBuildOutStart 15 joint s = .next (s.clocked joint).buildJoint := by
  unfold execBuildOutStart
  rw [if_neg (by simp [cleared])]
  rfl

theorem State.clocked_foot (s : State) (joint : Bool) : Foot [F.EVR_QLOST, F.SYS_PLL_STAT_PLL_D_LOCK, F.SYS_PLL_STAT_PLL_L_LOCK,
    F.SYS_PLL_STAT_PLL_N_LOCK, F.SYS_PLL_STAT_PLL_B_LOCK, F.SYS_PLL_STAT_LF_RUN] s (s.clocked joint) :=
  (Foot.refl s).raise.same.wrB.wrB.wrB.wrB.wrB

theorem State.clocked_locked (s : State) (joint : Bool) : (s.clocked joint).pllsLocked = true := by
  unfold State.pllsLocked State.clocked State.wrB
  dsimp only
  have kept (u : State) {f g : Fld} {v : Nat} (h : g.apart f = true) (on : u.bit f = true) : (u.wr g v).bit f = true :=
    (State.bit_wr_apart _ _ _ _ _ _ h).trans on
  simp only [Bool.and_eq_true]
  refine ⟨⟨⟨?_, ?_⟩, ?_⟩, ?_⟩
  · exact kept _ (by decide) (kept _ (by decide) (kept _ (by decide) (kept _ (by decide) (State.bit_wr_same ..))))
  · exact kept _ (by decide) (kept _ (by decide) (kept _ (by decide) (State.bit_wr_same ..)))
  · exact kept _ (by decide) (kept _ (by decide) (State.bit_wr_same ..))
  · exact kept _ (by decide) (State.bit_wr_same ..)

/-- The joint trains where the clocks run, and without it the build-out ends (R473). -/
theorem State.buildJoint_of_locked (built : s.atStep .build = true) (locked : s.pllsLocked = true) (apart : s.joint = false) :
    s.buildJoint = if s.power.jointOk then (s.wrB F.SYS_JOINT_STAT_LINK_UP true).refEnable else s.toStep .dead := by
  unfold State.buildJoint
  rw [built, locked, apart]
  rfl

theorem buildOutStart_links (cleared : s.power.rst = .cleared) (built : s.atStep .build = true) (apart : s.joint = false) :
    (Completes (.buildOutStart 15 true) s fun t => t.joint = true ∧ t.pllsLocked = true ∧ t.power.rst = .running ∧
      t.bit F.CONV_REF_CTL = true) ∧
    Completes (.buildOutStart 15 false) s fun t => t.joint = false ∧ t.atStep .dead = true := by
  have locks (joint : Bool) : (s.clocked joint).buildJoint = if (s.clocked joint).power.jointOk then
      ((s.clocked joint).wrB F.SYS_JOINT_STAT_LINK_UP true).refEnable else (s.clocked joint).toStep .dead := by
    refine State.buildJoint_of_locked ?_ (s.clocked_locked joint) (((s.clocked_foot joint).bit _ 0 0 (by decide)).trans apart)
    unfold State.atStep at built ⊢
    rw [(s.clocked_foot joint).rd _ 0 0 (by decide), built]
  refine ⟨⟨_, execBuildOutStart_locked true cleared, ?_⟩, ⟨_, execBuildOutStart_locked false cleared, ?_⟩⟩
  · rw [locks true, show (s.clocked true).power.jointOk = true from rfl, if_pos rfl]
    obtain ⟨foot, power, on⟩ := ((s.clocked true).wrB F.SYS_JOINT_STAT_LINK_UP true).refEnable_spec
    have foot' : Foot [F.SYS_JOINT_STAT_LINK_UP, F.CONV_REF_CTL] (s.clocked true)
        ((s.clocked true).wrB F.SYS_JOINT_STAT_LINK_UP true).refEnable := (Foot.refl _).wrB.trans (foot.mono (by decide))
    refine ⟨(foot.bit _ 0 0 (by decide)).trans (State.bit_wr_same ..), ?_, (congrArg PowerSt.rst power).trans rfl, on⟩
    have locked := s.clocked_locked true
    unfold State.pllsLocked at locked ⊢
    rw [foot'.bit _ 0 0 (by decide), foot'.bit _ 0 0 (by decide), foot'.bit _ 0 0 (by decide), foot'.bit _ 0 0 (by decide), locked]
  · rw [locks false, show (s.clocked false).power.jointOk = false from rfl, if_neg Bool.false_ne_true]
    refine ⟨(State.bit_wr_apart _ _ _ _ _ _ (by decide)).trans (((s.clocked_foot false).bit _ 0 0 (by decide)).trans apart), ?_⟩
    exact State.toStep_atStep _

/-! ### The boot step begins (R471, R473) -/

theorem State.pickSpares_foot (s : State) : Foot [F.PIERCTL_STAT_SPARES_LEFT, F.PIERCTL_PIER_STAT_STATE] s s.pickSpares := by
  unfold State.pickSpares State.showSpares
  exact (Foot.refl s).same.wr.each fun t n kept => (kept.wr).ite kept

theorem State.keepCheck_foot (s : State) : Foot [F.EVR_QLOST] s s.keepCheck := by
  unfold State.keepCheck
  dsimp only
  have first : Foot [F.EVR_QLOST] s (if s.bit F.KEEP_STAT_LOSS then s.event 0xB01 [s.rd F.KEEP_BAT, s.rd F.KEEP_STAT_ON_VBAT] else s) :=
    (Foot.refl s).raise.ite (Foot.refl s)
  exact first.raise.ite first

theorem State.evrStart_spec (s : State) : Foot [F.EVR_STAT_RUNNING] s s.evrStart ∧ s.evrStart.bit F.EVR_STAT_RUNNING = true := by
  unfold State.evrStart
  split
  case isTrue on => exact ⟨Foot.refl s, on⟩
  case isFalse => exact ⟨(Foot.refl s).wrB.same, (s.bit_wr_same (f := F.EVR_STAT_RUNNING) 1 0 0 :)⟩

theorem State.checkBlock_foot (s : State) : Foot [F.METER_PF_STAT_BLK, F.EVR_QLOST] s s.checkBlock := by
  unfold State.checkBlock
  exact (Foot.refl s).wr.raise

theorem State.bootBegin_spec (s : State) : s.bootBegin.atStep .boot = true ∧
    s.bootBegin.rd F.SYS_BOOT_STAT_STATE = (if s.rd F.SYS_BOOT_STAT_PINS = 1 ∨ s.rd F.SYS_BOOT_STAT_PINS = 2 then 2 else 1) ∧
    s.bootBegin.rd F.SYS_BOOT_STAT_SOURCE =
      (if s.rd F.SYS_BOOT_STAT_PINS = 1 then 1 else if s.rd F.SYS_BOOT_STAT_PINS = 2 then 2 else 0) ∧
    Foot [F.SYS_START_STAT_STEP, F.SYS_BOOT_STAT_SOURCE, F.SYS_BOOT_STAT_STATE] s s.bootBegin := by
  have sets (source state : Nat) (hs : source < 4) (hb : state < 8) :
      let t := ((s.toStep .boot).wr F.SYS_BOOT_STAT_SOURCE source).wr F.SYS_BOOT_STAT_STATE state
      t.atStep .boot = true ∧ t.rd F.SYS_BOOT_STAT_STATE = state ∧ t.rd F.SYS_BOOT_STAT_SOURCE = source ∧
        Foot [F.SYS_START_STAT_STEP, F.SYS_BOOT_STAT_SOURCE, F.SYS_BOOT_STAT_STATE] s t := by
    refine ⟨(State.atStep_wr _).trans ((State.atStep_wr _).trans (State.toStep_atStep _)), ?_, ?_, (Foot.refl s).wr.wr.wr⟩
    · rw [State.rd_wr_same]
      exact Nat.mod_eq_of_lt hb
    · rw [State.rd_wr_apart _ _ _ _ _ _ (by decide), State.rd_wr_same]
      exact Nat.mod_eq_of_lt hs
  have pins : (s.toStep .boot).rd F.SYS_BOOT_STAT_PINS = s.rd F.SYS_BOOT_STAT_PINS := State.rd_wr_apart _ _ _ _ _ _ (by decide)
  unfold State.bootBegin
  dsimp only
  rw [pins]
  split
  case _ pin =>
    simp only [pin]
    exact sets 1 2 (by decide) (by decide)
  case _ pin =>
    simp only [pin]
    exact sets 2 2 (by decide) (by decide)
  case _ not1 not2 =>
    rw [if_neg (not_or.mpr ⟨not1, not2⟩), if_neg not1, if_neg not2]
    exact sets 0 1 (by decide) (by decide)

/-- What the tests of the build-out leave where no unit failed (R473). -/
def State.tested (s : State) (ms : BitVec 16) : State :=
  let s := (s.pickSpares.keepCheck.evrStart).wr F.SYS_START_STAT_BUILD_MS ms.toNat
  s.checkBlock.event 0x005 [ms.toNat, s.retiredOf []]

theorem State.tested_spec (s : State) (ms : BitVec 16) : Foot [F.PIERCTL_STAT_SPARES_LEFT, F.PIERCTL_PIER_STAT_STATE, F.EVR_QLOST,
      F.EVR_STAT_RUNNING, F.SYS_START_STAT_BUILD_MS, F.METER_PF_STAT_BLK] s (s.tested ms) ∧
    (s.tested ms).rd F.SYS_START_STAT_BUILD_MS = ms.toNat ∧ (s.tested ms).bit F.EVR_STAT_RUNNING = true := by
  obtain ⟨started, running⟩ := s.pickSpares.keepCheck.evrStart_spec
  have before := ((s.pickSpares_foot.mono (by decide)).trans (s.pickSpares.keepCheck_foot.mono (by decide))).trans
    (started.mono (fs := [F.PIERCTL_STAT_SPARES_LEFT, F.PIERCTL_PIER_STAT_STATE, F.EVR_QLOST, F.EVR_STAT_RUNNING,
      F.SYS_START_STAT_BUILD_MS, F.METER_PF_STAT_BLK]) (by decide))
  generalize timed : s.pickSpares.keepCheck.evrStart.wr F.SYS_START_STAT_BUILD_MS ms.toNat = u
  have after : Foot [F.METER_PF_STAT_BLK, F.EVR_QLOST] u (s.tested ms) := by
    rw [← timed]
    exact (State.checkBlock_foot _).raise
  refine ⟨(timed ▸ before.wr : Foot _ s u).trans (after.mono (by decide)), ?_, ?_⟩
  · rw [after.rd _ 0 0 (by decide), ← timed, State.rd_wr_same]
    exact Nat.mod_eq_of_lt ms.isLt
  · rw [after.bit _ 0 0 (by decide), ← timed]
    exact (State.bit_wr_apart _ _ _ _ _ _ (by decide)).trans running

theorem execBuildTestsDone_eq (ms : BitVec 16) (serves : s.serves []) (running : s.power.rst = .running)
    (built : s.atStep .build = true) (joint : s.joint = true) : execBuildTestsDone ms [] s =
      .next (if (s.tested ms).goodCores.isEmpty || bankFull [] then (s.tested ms).toStep .dead else (s.tested ms).bootBegin) := by
  refine (State.act_eq _ serves).trans (congrArg Host.Outcome.next ?_)
  rw [running, built, joint]
  rfl

theorem State.goodCores_of_foot {fs : List Fld} {t : State} (h : Foot fs s t)
    (apart : (fs.all fun g => g.apart F.HEALTH_RET_PIER) = true) : t.goodCores = s.goodCores := by
  unfold State.goodCores State.isRetired State.mapBit
  simp only [h.rd _ 0 0 apart]

theorem buildTestsDone_boots (ms : BitVec 16) (serves : s.serves []) (running : s.power.rst = .running)
    (built : s.atStep .build = true) (joint : s.joint = true) (good : s.goodCores ≠ []) :
    Completes (.buildTestsDone ms []) s fun t => t.atStep .boot = true ∧ t.rd F.SYS_START_STAT_BUILD_MS = ms.toNat ∧
      t.bit F.EVR_STAT_RUNNING = true ∧
      t.rd F.SYS_BOOT_STAT_STATE = (if s.rd F.SYS_BOOT_STAT_PINS = 1 ∨ s.rd F.SYS_BOOT_STAT_PINS = 2 then 2 else 1) ∧
      t.rd F.SYS_BOOT_STAT_SOURCE =
        (if s.rd F.SYS_BOOT_STAT_PINS = 1 then 1 else if s.rd F.SYS_BOOT_STAT_PINS = 2 then 2 else 0) := by
  refine ⟨_, execBuildTestsDone_eq ms serves running built joint, ?_⟩
  obtain ⟨foot, timed, started⟩ := s.tested_spec ms
  obtain ⟨step, state, source, begun⟩ := (s.tested ms).bootBegin_spec
  have pins : (s.tested ms).rd F.SYS_BOOT_STAT_PINS = s.rd F.SYS_BOOT_STAT_PINS := foot.rd _ 0 0 (by decide)
  rw [State.goodCores_of_foot foot (by decide), if_neg (by simp [good, bankFull])]
  rw [pins] at state source
  exact ⟨step, (begun.rd _ 0 0 (by decide)).trans timed, (begun.bit _ 0 0 (by decide)).trans started, state, source⟩

end Sys2Proof.Machine
end

section
/-! O46: boot from a slot or from the host (R471 to R473). -/

namespace Sys2Proof.Machine

set_option Elab.async false

variable {s : State}

/-! ### The image is checked (R472) -/

/-- What an admitted image makes of the state (R472). -/
def BootRan (m : List Byte) (u t : State) : Prop :=
  sha256 (u.dBytes bootImage (manWord m 8)) = (m.drop 12).take 32 ∧
  ∃ i x, u.bootPrepare.examine 0 bootImage false true = .ok (i, x) ∧
    t = (u.bootPrepare.bootRun i).bootDone (manWord m 4) ((m.drop 12).take 32)

theorem State.bootCheck_ran {m : List Byte} (passed : (s.bootCheck m).2 = none) : BootRan m s (s.bootCheck m).1 := by
  unfold State.bootCheck at passed ⊢
  dsimp only at passed ⊢
  split at passed
  · cases passed
  · next len =>
    rw [if_neg len]
    split at passed
    · cases passed
    · next digest =>
      rw [if_neg digest]
      split at passed
      · cases passed
      · next i x admitted =>
        dsimp only
        exact ⟨not_not.mp digest, i, x, admitted, rfl⟩

/-! ### A slot of the xSPI device (R472) -/

theorem State.waitHost_spec (s : State) {source : Nat} (small : source < 4) : (s.waitHost source).bootIs .waitHost = true ∧
    (s.waitHost source).rd F.SYS_BOOT_STAT_SOURCE = source ∧
    Foot [F.SYS_BOOT_STAT_SOURCE, F.SYS_BOOT_STAT_STATE] s (s.waitHost source) := by
  unfold State.waitHost State.bootTo State.bootIs
  refine ⟨?_, ?_, (Foot.refl s).wr.wr⟩
  · rw [State.rd_wr_same]
    rfl
  · rw [State.rd_wr_apart _ _ _ _ _ _ (by decide), State.rd_wr_same]
    exact Nat.mod_eq_of_lt small

theorem State.bootFault_spec (s : State) (r : Nat) : (s.bootFault r).rd F.SYS_BOOT_STAT_REASON = r % 16 ∧
    Foot [F.SYS_BOOT_STAT_REASON] s (s.bootFault r) :=
  ⟨State.rd_wr_same .., (Foot.refl s).wr.same⟩

theorem State.xspiOut_host (pins : s.rd F.SYS_BOOT_STAT_PINS = 3) : s.xspiOut = s.waitHost 1 := if_pos pins

/-- Without the host a device that has no slot left is DEAD (R473). -/
theorem State.xspiOut_dead (pins : s.rd F.SYS_BOOT_STAT_PINS ≠ 3) : s.xspiOut.bootIs .failed = true ∧ s.xspiOut.atStep .dead = true ∧
    Foot [F.EVR_QLOST, F.SYS_BOOT_STAT_STATE, F.SYS_START_STAT_STEP] s s.xspiOut := by
  unfold State.xspiOut
  rw [if_neg pins]
  refine ⟨?_, State.toStep_atStep _, (Foot.refl s).raise.wr.wr⟩
  unfold State.bootIs
  rw [show (State.rd (State.toStep _ .dead) F.SYS_BOOT_STAT_STATE) = State.rd (State.bootTo _ .failed) F.SYS_BOOT_STAT_STATE from
    State.rd_wr_apart _ _ _ _ _ _ (by decide), State.bootTo, State.rd_wr_same]
  rfl

/-- The manifests of both slots have been read (R472). -/
def State.manifested (s : State) (a b : List Byte) : State := { s with power := { s.power with manifests := [a.take 64, b.take 64] } }

theorem execXspiAnswer_eq (ma mb : List Byte) (serves : s.serves [.deck]) (booting : s.xspiBooting = true)
    (fresh : s.power.manifests = []) : execXspiAnswer ma mb s =
      .next (match [manifestFault (ma.take 64), manifestFault (mb.take 64)] with
        | [some _, some b] => (s.manifested ma mb).bootFault b
        | _ => s.manifested ma mb).trySlot := by
  refine (State.act_eq _ serves).trans (congrArg Host.Outcome.next ?_)
  rw [booting, fresh]
  rfl

theorem xspiAnswer_waits {ma mb : List Byte} {a b : Nat} (serves : s.serves [.deck]) (booting : s.xspiBooting = true)
    (fresh : s.power.manifests = []) (fa : manifestFault (ma.take 64) = some a) (fb : manifestFault (mb.take 64) = some b)
    (pins : s.rd F.SYS_BOOT_STAT_PINS = 3) : Completes (.xspiAnswer ma mb) s fun t => t.bootIs .waitHost = true ∧
      t.rd F.SYS_BOOT_STAT_REASON = b % 16 ∧ t.rd F.SYS_BOOT_STAT_SOURCE = 1 := by
  refine ⟨_, execXspiAnswer_eq ma mb serves booting fresh, ?_⟩
  rw [fa, fb]
  dsimp only
  obtain ⟨reason, faulted⟩ := (s.manifested ma mb).bootFault_spec b
  have none : ((s.manifested ma mb).bootFault b).nextSlot = none := by
    simp [State.nextSlot, State.bootFault, State.manifested, fa, fb]
  have pins' : ((s.manifested ma mb).bootFault b).rd F.SYS_BOOT_STAT_PINS = 3 := (faulted.rd _ 0 0 (by decide)).trans pins
  unfold State.trySlot
  rw [none]
  dsimp only
  rw [State.xspiOut_host pins']
  obtain ⟨waits, source, foot⟩ := ((s.manifested ma mb).bootFault b).waitHost_spec (source := 1) (by decide)
  exact ⟨waits, (foot.rd _ 0 0 (by decide)).trans reason, source⟩

theorem xspiAnswer_tries {ma mb : List Byte} (serves : s.serves [.deck]) (booting : s.xspiBooting = true)
    (fresh : s.power.manifests = []) (untried : s.power.tried = []) (fa : manifestFault (ma.take 64) = none)
    (fb : (manifestFault (mb.take 64)).isSome = true) : Completes (.xspiAnswer ma mb) s fun t =>
      Sets { s with power := { s.power with manifests := [ma.take 64, mb.take 64], tried := [0] } } t
        [(F.SYS_BOOT_STAT_SLOT, 0, 0, 0)] := by
  refine ⟨_, execXspiAnswer_eq ma mb serves booting fresh, ?_⟩
  have first : (s.manifested ma mb).nextSlot = some 0 := by
    obtain ⟨b, fb⟩ := Option.isSome_iff_exists.mp fb
    simp [State.nextSlot, State.manifested, fa, fb, untried]
  rw [fa]
  dsimp only
  unfold State.trySlot
  rw [first]
  exact Sets.of_wrs (by
    dsimp only [State.manifested]
    rw [untried]
    rfl)

theorem bootSlotLoaded_ran {k : Nat} {image : List Byte} (serves : s.serves [.deck]) (booting : s.xspiBooting = true)
    (last : s.power.tried.getLast? = some k) {m : List Byte} (hm : m = s.power.manifests.getD k [])
    {copied : State} (hc : copied = s.setDBytes bootImage
      ((image ++ List.replicate (manWord m 8 - image.length) 0).take (manWord m 8)))
    (passed : (copied.bootCheck m).2 = none) : Completes (.bootSlotLoaded image) s fun t => BootRan m copied t := by
  refine ⟨_, (State.act_eq _ serves : execBootSlotLoaded image s = _), ?_⟩
  dsimp only
  rw [last, booting]
  dsimp only
  rw [← hm, ← hc, Bool.not_true, if_neg Bool.false_ne_true]
  have ran := State.bootCheck_ran passed
  generalize copied.bootCheck m = x at passed ran
  obtain ⟨t, reason⟩ := x
  cases passed
  exact ran

theorem noflash_ends (serves : s.serves []) (booting : s.xspiBooting = true) (fresh : s.power.manifests = []) :
    Completes .noflash s fun t => t.rd F.SYS_BOOT_STAT_REASON = 5 ∧
      (s.rd F.SYS_BOOT_STAT_PINS = 3 → t.bootIs .waitHost = true) ∧
      (s.rd F.SYS_BOOT_STAT_PINS ≠ 3 → t.bootIs .failed = true ∧ t.atStep .dead = true) := by
  refine ⟨_, (State.act_eq _ serves : execNoflash s = _), ?_⟩
  rw [booting, fresh]
  change State.rd (s.bootFault 5).xspiOut F.SYS_BOOT_STAT_REASON = 5 ∧ _
  obtain ⟨reason, faulted⟩ := s.bootFault_spec 5
  have pins : (s.bootFault 5).rd F.SYS_BOOT_STAT_PINS = s.rd F.SYS_BOOT_STAT_PINS := faulted.rd _ 0 0 (by decide)
  by_cases host : s.rd F.SYS_BOOT_STAT_PINS = 3
  · obtain ⟨waits, -, foot⟩ := (s.bootFault 5).waitHost_spec (source := 1) (by decide)
    have out := State.xspiOut_host (pins.trans host)
    refine ⟨?_, fun _ => (congrArg (State.bootIs · .waitHost) out).trans waits, fun not => absurd host not⟩
    rw [out, foot.rd _ 0 0 (by decide), reason]
  · obtain ⟨failed, dead, foot⟩ := State.xspiOut_dead (pins.trans_ne host)
    exact ⟨(foot.rd _ 0 0 (by decide)).trans reason, fun is => absurd is host, fun _ => ⟨failed, dead⟩⟩

/-! ### The host's image, and the end of boot (R472, R473) -/

theorem bootGo_checks (serves : s.serves [.deck]) (step : s.atStep .boot = true) (waits : s.bootIs .waitHost = true) {m : List Byte}
    (hm : m = s.dBytes bootManifest 64) :
    (∀ r, manifestFault m = some r → r < 16 → Completes .bootGo s fun t =>
      Sets { s with power := { s.power with failReason := r } } t [(F.SYS_BOOT_STAT_REASON, 0, 0, r)]) ∧
    (manifestFault m = none → (s.bootCheck m).2 = none → Completes .bootGo s fun t => BootRan m s t) := by
  refine ⟨fun r fault small => ?_, fun good passed => ?_⟩
  · refine ⟨_, (State.act_eq _ serves : execBootGo s = _), ?_⟩
    dsimp only
    rw [step, waits, ← hm, fault]
    exact Sets.of_wrs rfl (by
      rw [Fits, List.all_cons, List.all_nil, Bool.and_true]
      exact decide_eq_true small)
  · refine ⟨_, (State.act_eq _ serves : execBootGo s = _), ?_⟩
    dsimp only
    rw [step, waits, ← hm, good]
    rw [Bool.and_self, Bool.not_true, if_neg Bool.false_ne_true]
    have ran := State.bootCheck_ran passed
    generalize s.bootCheck m = x at passed ran
    obtain ⟨t, reason⟩ := x
    cases passed
    exact ran

theorem State.freezeUpdate_of_free (free : s.sources = 0) (thawed : s.dbg.frozen = false) : s.freezeUpdate.rf = s.rf := by
  unfold State.freezeUpdate
  split
  · rfl
  · rw [free, thawed]
    rfl

/-- The sequence number and the digest of the image that boot ran are shown (R472). -/
def State.bootShown (s : State) (seq : Nat) (digest : List Byte) : State :=
  (s.wr F.SYS_BOOT_SEQ seq).each (List.range 8) fun s k => s.wr F.SYS_BOOT_DIGEST (leBytes (fun b => digest.getD b 0) (4 * k) 4) k

theorem State.bootShown_spec (s : State) (seq : Nat) (digest : List Byte) : (s.bootShown seq digest).dbg = s.dbg ∧
    ∀ f, (∀ k < 8, f.key 0 0 ≠ F.SYS_BOOT_DIGEST.key k 0) → (s.bootShown seq digest).rd f = (s.wr F.SYS_BOOT_SEQ seq).rd f := by
  have words : s.bootShown seq digest = (s.wr F.SYS_BOOT_SEQ seq).wrs ((List.range 8).flatMap fun k =>
      [(F.SYS_BOOT_DIGEST, k, 0, leBytes (fun b => digest.getD b 0) (4 * k) 4)]) :=
    State.each_wrs (s.wr F.SYS_BOOT_SEQ seq) (List.range 8) fun k =>
      [(F.SYS_BOOT_DIGEST, k, 0, leBytes (fun b => digest.getD b 0) (4 * k) 4)]
  refine ⟨?_, fun f other => ?_⟩
  · rw [words, State.wrs_eq]
    rfl
  · rw [words]
    refine State.rd_wrs_of_ne _ fun w hw => ?_
    simp only [List.mem_flatMap, List.mem_range, List.mem_singleton] at hw
    obtain ⟨k, small, rfl⟩ := hw
    exact other k small

/-- The last of boot, before the start goes on in CONFIG (R472). -/
def State.bootNoted (s : State) (seq : Nat) (digest : List Byte) : State :=
  let s := s.bootShown seq digest
  (s.bootTo .done).event 0x006 [s.rd F.SYS_BOOT_STAT_SOURCE, s.rd F.SYS_BOOT_STAT_SLOT, seq, s.power.failReason]

theorem State.bootDone_eq (s : State) (seq : Nat) (digest : List Byte) :
    s.bootDone seq digest = ((s.bootNoted seq digest).toStep .config).freezeUpdate := rfl

theorem State.bootNoted_spec (s : State) (seq : Nat) (digest : List Byte) :
    (s.bootNoted seq digest).dbg = s.dbg ∧ (s.bootNoted seq digest).bit F.TWIN_CTL_EN = s.bit F.TWIN_CTL_EN ∧
      (s.bootNoted seq digest).rd F.SYS_BOOT_STAT_STATE = 3 ∧ (s.bootNoted seq digest).rd F.SYS_BOOT_SEQ = seq % 2 ^ 32 := by
  obtain ⟨dbg, read⟩ := s.bootShown_spec seq digest
  have seqd : (s.bootShown seq digest).rd F.SYS_BOOT_SEQ = seq % 2 ^ 32 := (read _ (by decide)).trans (State.rd_wr_same ..)
  have enable : (s.bootShown seq digest).rd F.TWIN_CTL_EN = s.rd F.TWIN_CTL_EN :=
    (read _ (by decide)).trans (State.rd_wr_apart _ _ _ _ _ _ (by decide))
  have after : Foot [F.SYS_BOOT_STAT_STATE, F.EVR_QLOST] (s.bootShown seq digest) (s.bootNoted seq digest) := by
    unfold State.bootNoted
    generalize s.bootShown seq digest = u
    exact (Foot.refl u).wr.raise
  have kept : (s.bootNoted seq digest).dbg = s.dbg := by
    unfold State.bootNoted
    generalize s.bootShown seq digest = u at dbg
    exact (State.raise_dbg ..).trans dbg
  have done : (s.bootNoted seq digest).rd F.SYS_BOOT_STAT_STATE = 3 := by
    unfold State.bootNoted
    generalize s.bootShown seq digest = u
    refine (State.raise_rd_apart _ _ _ (by decide)).trans ?_
    rw [State.bootTo, State.rd_wr_same]
    rfl
  refine ⟨kept, ?_, done, (after.rd _ 0 0 (by decide)).trans seqd⟩
  unfold State.bit
  rw [after.rd _ 0 0 (by decide), enable]

theorem State.bootDone_spec (seq : Nat) (digest : List Byte) (free : s.sources = 0) (thawed : s.dbg.frozen = false) :
    (s.bootDone seq digest).rd F.SYS_BOOT_STAT_STATE = 3 ∧ (s.bootDone seq digest).rd F.SYS_BOOT_SEQ = seq % 2 ^ 32 ∧
      (s.bootDone seq digest).atStep .config = true := by
  obtain ⟨dbg, enabled, done, seqd⟩ := s.bootNoted_spec seq digest
  rw [s.bootDone_eq]
  generalize s.bootNoted seq digest = u at dbg enabled done seqd
  have enable : (u.toStep .config).bit F.TWIN_CTL_EN = s.bit F.TWIN_CTL_EN :=
    (State.bit_wr_apart _ _ _ _ _ _ (by decide)).trans enabled
  have same : (u.toStep .config).dbg = s.dbg := dbg
  have rf : (u.toStep .config).freezeUpdate.rf = (u.toStep .config).rf := by
    refine State.freezeUpdate_of_free ?_ (by rw [same, thawed])
    unfold State.sources at free ⊢
    rw [same, enable, free]
  have read (f : Fld) : (u.toStep .config).freezeUpdate.rd f = (u.toStep .config).rd f := State.rd_congr rf f 0 0
  refine ⟨?_, ?_, ?_⟩
  · exact (read _).trans ((State.rd_wr_apart _ _ _ _ _ _ (by decide)).trans done)
  · exact (read _).trans ((State.rd_wr_apart _ _ _ _ _ _ (by decide)).trans seqd)
  · unfold State.atStep
    rw [read]
    exact State.toStep_atStep _

/-- Settles O46, by what each command of the build-out and of boot makes of the state. -/
theorem buildAndBoot : Obligations.BuildAndBoot := by
  unfold Obligations.BuildAndBoot
  intro s ms ma mb image
  refine ⟨buildOutStart_links, ?_, buildTestsDone_boots ms, fun serves booting => ⟨?_, ?_, ?_⟩, noflash_ends, ?_,
    fun seq digest => State.bootDone_spec seq digest⟩
  · exact fun serves running built unlocked => ⟨_, (State.act_eq _ serves : execBuildPllTimeout s = _), by
      rw [running, built, unlocked]
      exact Sets.of_wrs rfl⟩
  · exact fun a b fresh fa fb pins => xspiAnswer_waits serves booting fresh fa fb pins
  · exact fun fresh untried fa fb => xspiAnswer_tries serves booting fresh untried fa fb
  · exact fun k last passed => bootSlotLoaded_ran serves booting last rfl rfl passed
  · exact fun serves step waits => bootGo_checks serves step waits rfl

end Sys2Proof.Machine
end

section
/-! O47: power domains in service (R470). -/

namespace Sys2Proof.Machine

set_option Elab.async false

variable {s : State}

/-! ### Bit maps -/

/-- A bit that is taken from a map leaves the other bits. -/
theorem Nat.testBit_sub_two_pow {n k : Nat} (on : n.testBit k = true) (j : Nat) :
    (n - 2 ^ k).testBit j = (n.testBit j && decide (j ≠ k)) := by
  obtain ⟨x, rfl⟩ : ∃ x, n = 2 ^ k + x := Nat.exists_eq_add_of_le (Nat.ge_two_pow_of_testBit on)
  rw [Nat.add_sub_cancel_left]
  have off : x.testBit k = false := by
    rw [Nat.testBit_two_pow_add_eq] at on
    simpa using on
  rcases lt_trichotomy j k with below | rfl | above
  · simp [Nat.testBit_two_pow_add_gt below, below.ne]
  · simp [off]
  · obtain ⟨m, rfl⟩ : ∃ m, j = (m + 1) + k := ⟨j - k - 1, by omega⟩
    have even : x / 2 ^ k % 2 = 0 := by
      have bit := off
      rw [← Nat.zero_add k, Nat.testBit_add, Nat.testBit_zero] at bit
      simpa using bit
    have halves : (2 ^ k + x) / 2 ^ k / 2 = x / 2 ^ k / 2 := by
      rw [Nat.add_div_left _ (Nat.two_pow_pos k)]
      omega
    rw [Nat.testBit_add x (m + 1) k, Nat.testBit_add (2 ^ k + x) (m + 1) k, Nat.testBit_add_one, Nat.testBit_add_one, halves]
    simp

theorem State.mapBit_setMap (s : State) {f : Fld} {k j : Nat} (inside : j < f.width) :
    (s.setMap f k).mapBit f j = (s.mapBit f j || decide (k = j)) := by
  unfold State.mapBit State.setMap
  rw [State.rd_wr_same, Nat.testBit_mod_two_pow, Nat.testBit_or, Nat.testBit_two_pow]
  simp [inside]

theorem State.mapBit_clrMap (s : State) {f : Fld} {k j : Nat} (inside : j < f.width) :
    (s.clrMap f k).mapBit f j = (s.mapBit f j && decide (j ≠ k)) := by
  unfold State.clrMap
  split
  case isTrue on =>
    unfold State.mapBit at on ⊢
    rw [State.rd_wr_same, Nat.testBit_mod_two_pow, Nat.testBit_sub_two_pow on]
    simp [inside]
  case isFalse off =>
    by_cases same : j = k
    · subst same
      simp [off]
    · simp [same]

theorem State.setMap_foot (s : State) (f : Fld) (k : Nat) : Foot [f] s (s.setMap f k) := (Foot.refl s).wr (by simp)

theorem State.clrMap_foot (s : State) (f : Fld) (k : Nat) : Foot [f] s (s.clrMap f k) :=
  ((Foot.refl s).wr (by simp)).ite (Foot.refl s)

theorem State.clrMap_rest (s : State) (f : Fld) (k : Nat) : ∃ rf, s.clrMap f k = { s with rf := rf } := by
  unfold State.clrMap
  split
  · exact ⟨_, rfl⟩
  · exact ⟨_, rfl⟩

theorem State.mapBit_of_foot {fs : List Fld} {t : State} (h : Foot fs s t) {f : Fld} (apart : (fs.all fun g => g.apart f) = true)
    (k : Nat) : t.mapBit f k = s.mapBit f k := by
  unfold State.mapBit
  rw [h.rd _ 0 0 apart]

/-! ### A request (R470) -/

theorem domOf_bit (d : Fin 10) : (domOf d).bit = d.val := by
  revert d
  decide

/-- The request of a domain leaves what the other domains ask for. -/
theorem State.pdRequest_other (s : State) (d : Fin 10) (on : Bool) {k : Nat} (small : k < 10) (other : k ≠ d.val) :
    (s.pdRequest (domOf d) on).mapBit F.SYS_PD_CTL_ON k = s.mapBit F.SYS_PD_CTL_ON k := by
  unfold State.pdRequest
  rw [domOf_bit]
  split
  · rfl
  · dsimp only
    generalize (if s.mapBit F.SYS_PD_STAT_BUSY d.val then 6 else if on then 0 else s.offRefusal (domOf d)) = r
    split
    · exact State.mapBit_of_foot (fs := [F.SYS_PD_STAT_REFUSED, F.SYS_PD_STAT_DOMAIN, F.SYS_PD_STAT_REASON])
        (Foot.refl s).wrB.wr.wr (by decide) k
    · have asked : (if on then s.setMap F.SYS_PD_CTL_ON d.val else s.clrMap F.SYS_PD_CTL_ON d.val).mapBit F.SYS_PD_CTL_ON k =
          s.mapBit F.SYS_PD_CTL_ON k := by
        split
        · rw [State.mapBit_setMap _ small]
          simp [Ne.symm other]
        · rw [State.mapBit_clrMap _ small]
          simp [other]
      generalize (if on then s.setMap F.SYS_PD_CTL_ON d.val else s.clrMap F.SYS_PD_CTL_ON d.val) = u at asked ⊢
      have begun : (u.setMap F.SYS_PD_STAT_BUSY d.val).mapBit F.SYS_PD_CTL_ON k = u.mapBit F.SYS_PD_CTL_ON k :=
        State.mapBit_of_foot (u.setMap_foot _ _) (by decide) k
      split
      · exact begun.trans asked
      · exact begun.trans asked

/-- A request that changes one domain is the request of that domain alone (R470). -/
theorem State.pdWrite_alone {d : Fin 10} {on : Bool} {map : Nat}
    (alone : ∀ k < 10, map.testBit k = if k = d.val then on else s.mapBit F.SYS_PD_CTL_ON k) :
    s.pdWrite true map = s.pdRequest (domOf d) on := by
  have rest (u : State) (l : List Nat) (small : ∀ k ∈ l, k < 10) (nodup : l.Nodup)
      (asks : ∀ k ∈ l, k ≠ d.val → u.mapBit F.SYS_PD_CTL_ON k = map.testBit k) :
      (u.each l fun s b => if b = 4 ∧ !true ∧ !s.isOn .net ∧ map.testBit 4 then s else s.pdRequest (domOf b) (map.testBit b)) =
        if d.val ∈ l then u.pdRequest (domOf d) on else u := by
    unfold State.each
    induction l generalizing u with
    | nil => rfl
    | cons b l ih =>
      obtain ⟨first, small'⟩ := List.forall_mem_cons.mp small
      obtain ⟨new, nodup'⟩ := List.nodup_cons.mp nodup
      obtain ⟨asked, asks'⟩ := List.forall_mem_cons.mp asks
      rw [List.foldl_cons, if_neg (by simp)]
      by_cases own : b = d.val
      · subst own
        have kept : ∀ k ∈ l, k ≠ d.val → (u.pdRequest (domOf d) on).mapBit F.SYS_PD_CTL_ON k = map.testBit k :=
          fun k hk other => (u.pdRequest_other d on (small' k hk) other).trans (asks' k hk other)
        rw [alone _ first, if_pos rfl, ih _ small' nodup' kept, if_neg new, if_pos List.mem_cons_self]
      · have same : u.pdRequest (domOf b) (map.testBit b) = u := by
          unfold State.pdRequest
          exact if_pos (by rw [show (domOf b).bit = b from domOf_bit ⟨b, first⟩, asked own])
        rw [same, ih _ small' nodup' asks']
        simp [List.mem_cons, Ne.symm own]
  unfold State.pdWrite
  rw [rest s (List.range 10) (by simp) List.nodup_range, if_pos (by simp)]
  exact fun k hk other => by rw [alone k (List.mem_range.mp hk), if_neg other]

theorem State.pdRequest_begins {d : Fin 10} {on : Bool} (changes : s.mapBit F.SYS_PD_CTL_ON d = !on)
    (idle : s.mapBit F.SYS_PD_STAT_BUSY d = false) (free : on = true ∨ s.offRefusal (domOf d) = 0) :
    (s.pdRequest (domOf d) on).mapBit F.SYS_PD_CTL_ON d = on ∧ (s.pdRequest (domOf d) on).mapBit F.SYS_PD_STAT_BUSY d = true ∧
      (s.pdRequest (domOf d) on).power.switching = s.power.switching ++ [(d.val, on)] := by
  have reason : (if on then 0 else s.offRefusal (domOf d)) = 0 := by
    rcases free with rfl | free
    · rfl
    · rw [free, ite_self]
  generalize asked : (if on then s.setMap F.SYS_PD_CTL_ON d.val else s.clrMap F.SYS_PD_CTL_ON d.val) = u
  have mine : u.mapBit F.SYS_PD_CTL_ON d = on := by
    rw [← asked]
    split
    case isTrue on => simp [State.mapBit_setMap _ (show d.val < F.SYS_PD_CTL_ON.width from d.isLt), on]
    case isFalse off => simp [State.mapBit_clrMap _ (show d.val < F.SYS_PD_CTL_ON.width from d.isLt), off]
  have switching : u.power.switching = s.power.switching := by
    rw [← asked]
    split
    · rfl
    · obtain ⟨rf, eq⟩ := s.clrMap_rest F.SYS_PD_CTL_ON d.val
      rw [eq]
  have begun : s.pdRequest (domOf d) on = (let v := { u.setMap F.SYS_PD_STAT_BUSY d.val with
      power := { u.power with switching := u.power.switching ++ [(d.val, on)] } }
      if domOf d = .meter && !on && v.bit F.METER_PF_CTL_BLK_EN then v.residueSnap 3 else v) := by
    unfold State.pdRequest
    rw [domOf_bit, if_neg (by simp [changes]), idle, if_neg Bool.false_ne_true, reason]
    dsimp only
    rw [asked, if_neg (not_not.mpr rfl)]
    rfl
  have busy : (u.setMap F.SYS_PD_STAT_BUSY d.val).mapBit F.SYS_PD_STAT_BUSY d = true := by
    rw [State.mapBit_setMap _ (show d.val < F.SYS_PD_STAT_BUSY.width from d.isLt)]
    simp
  have kept := (State.mapBit_of_foot (u.setMap_foot F.SYS_PD_STAT_BUSY d.val) (f := F.SYS_PD_CTL_ON) (by decide) d).trans mine
  rw [begun, ← switching]
  dsimp only
  split
  · exact ⟨kept, busy, rfl⟩
  · exact ⟨kept, busy, rfl⟩

theorem State.pdRequest_refuses {d : Fin 10} {on : Bool} (changes : s.mapBit F.SYS_PD_CTL_ON d = !on)
    (barred : s.mapBit F.SYS_PD_STAT_BUSY d = true ∨ on = false ∧ s.offRefusal (domOf d) ≠ 0) :
    Sets s (s.pdRequest (domOf d) on) [(F.SYS_PD_STAT_REFUSED, 0, 0, 1), (F.SYS_PD_STAT_DOMAIN, 0, 0, d.val),
      (F.SYS_PD_STAT_REASON, 0, 0, if s.mapBit F.SYS_PD_STAT_BUSY d then 6 else s.offRefusal (domOf d))] := by
  have small : s.offRefusal (domOf d) < 16 := by
    unfold State.offRefusal
    split <;> (repeat' split) <;> decide
  generalize why : (if s.mapBit F.SYS_PD_STAT_BUSY d then 6 else s.offRefusal (domOf d)) = r
  have given : (if s.mapBit F.SYS_PD_STAT_BUSY d then 6 else if on then 0 else s.offRefusal (domOf d)) = r ∧ r ≠ 0 ∧ r < 16 := by
    rw [← why]
    rcases barred with busy | ⟨off, refused⟩
    · simp [busy]
    · subst off
      split
      · decide
      · exact ⟨rfl, refused, small⟩
  obtain ⟨reason, some, fits⟩ := given
  unfold State.pdRequest
  rw [domOf_bit, if_neg (by simp [changes])]
  dsimp only
  rw [reason, if_pos some]
  refine Sets.of_wrs rfl ?_
  have fd : d.val < 16 := by omega
  rw [Fits, List.all_cons, List.all_cons, List.all_cons, List.all_nil, Bool.and_true, Bool.and_eq_true, Bool.and_eq_true]
  exact ⟨rfl, decide_eq_true fd, decide_eq_true fits⟩

end Sys2Proof.Machine
end

section
/-! O47: a switch of a domain completes (R470). -/

namespace Sys2Proof.Machine

set_option Elab.async false

variable {s : State}

/-! ### What a change leaves of the switches -/

/-- From `s` to `t` no switch of a domain moves, is requested or completes. -/
def DomKept (s t : State) : Prop :=
  t.power.switching = s.power.switching ∧ t.rd F.SYS_PD_STAT_IS_ON = s.rd F.SYS_PD_STAT_IS_ON ∧
    t.rd F.SYS_PD_STAT_BUSY = s.rd F.SYS_PD_STAT_BUSY

namespace DomKept

variable {t u : State}

theorem refl (s : State) : DomKept s s := ⟨rfl, rfl, rfl⟩

theorem trans (h : DomKept s t) (h' : DomKept t u) : DomKept s u :=
  ⟨h'.1.trans h.1, h'.2.1.trans h.2.1, h'.2.2.trans h.2.2⟩

theorem ite {c : Prop} {_ : Decidable c} (h : DomKept s t) (hu : DomKept s u) : DomKept s (if c then t else u) := by
  split
  · exact h
  · exact hu

/-- What writes other registers. -/
theorem of_foot {fs : List Fld} (h : DomKept s t) (foot : Foot fs t u) (switching : u.power.switching = t.power.switching)
    (on : (fs.all fun g => g.apart F.SYS_PD_STAT_IS_ON) = true) (busy : (fs.all fun g => g.apart F.SYS_PD_STAT_BUSY) = true) :
    DomKept s u :=
  h.trans ⟨switching, foot.rd _ 0 0 on, foot.rd _ 0 0 busy⟩

theorem wr {f : Fld} {v i j : Nat} (h : DomKept s t) (on : f.apart F.SYS_PD_STAT_IS_ON = true := by decide)
    (busy : f.apart F.SYS_PD_STAT_BUSY = true := by decide) : DomKept s (t.wr f v i j) :=
  h.trans ⟨rfl, State.rd_wr_apart _ _ _ _ _ _ on, State.rd_wr_apart _ _ _ _ _ _ busy⟩

theorem wrB {f : Fld} {b : Bool} {i j : Nat} (h : DomKept s t) (on : f.apart F.SYS_PD_STAT_IS_ON = true := by decide)
    (busy : f.apart F.SYS_PD_STAT_BUSY = true := by decide) : DomKept s (t.wrB f b i j) :=
  wr h on busy

theorem raise {code index : Nat} {words : List Nat} {pier : Option Nat} (h : DomKept s t) :
    DomKept s (t.raise code index words pier) :=
  h.of_foot (Foot.refl t).raise (congrArg PowerSt.switching (State.raise_power _ _ _ _ _)) (fs := [F.EVR_QLOST]) (by decide)
    (by decide)

theorem each {α : Type} {l : List α} {f : State → α → State} (h : DomKept s t) (hf : ∀ t x, DomKept s t → DomKept s (f t x)) :
    DomKept s (t.each l f) := by
  unfold State.each
  induction l generalizing t with
  | nil => exact h
  | cons x l ih => exact ih (hf t x h)

/-- A change of what is not power, and not a register. -/
theorem parts (h : DomKept s t) {deck span pts pier conv sens sol mot fan meter twin tre keep evr health port posted resp busHeld dbg
    freeCtr} : DomKept s ⟨t.pending, t.rf, deck, span, pts, pier, conv, sens, sol, mot, fan, meter, twin, tre, keep, evr, health,
      t.power, port, posted, resp, busHeld, dbg, freeCtr⟩ :=
  ⟨h.1, h.2.1, h.2.2⟩

end DomKept

theorem Sparse.find?_filter_in {α : Type} (m : Sparse α) {p : Nat × α → Bool} {k : Nat} (kept : ∀ v, p (k, v) = true) :
    Sparse.find? (m.filter p) k = Sparse.find? m k := by
  induction m with
  | nil => rfl
  | cons kv m ih =>
    obtain ⟨k', v⟩ := kv
    rw [List.filter_cons]
    split
    case isTrue => simp only [Sparse.find?, ih]
    case isFalse out =>
      have other : k' ≠ k := fun h => out (h ▸ kept v)
      rw [ih, Sparse.find?, if_neg other]

/-- The registers of the other blocks stay (R28). -/
theorem State.clearBlock_rd (s : State) {b : Nat} (f : Fld) {i j : Nat} (out : keyInBlock b (f.key i j) = false) :
    (s.clearBlock b).rd f i j = s.rd f i j := by
  unfold State.rd State.clearBlock Sparse.get
  rw [Sparse.find?_filter_in _ fun _ => by simp [out]]

theorem DomKept.clearBlock {t : State} {b : Nat} (h : DomKept s t)
    (on : keyInBlock b (F.SYS_PD_STAT_IS_ON.key 0 0) = false := by decide)
    (busy : keyInBlock b (F.SYS_PD_STAT_BUSY.key 0 0) = false := by decide) : DomKept s (t.clearBlock b) :=
  h.trans ⟨rfl, State.clearBlock_rd _ _ on, State.clearBlock_rd _ _ busy⟩

/-! ### The lanes and the slices -/

theorem DomKept.syncLost {t : State} (h : DomKept s t) (r : Unsync) : DomKept s (t.syncLost r) :=
  h.ite (h.wrB.wr).raise

theorem DomKept.twinLaneDown {t : State} (h : DomKept s t) (l : Nat) : DomKept s (t.twinLaneDown l) := by
  have down : DomKept s (t.wrB (laneFld l) false) := by
    unfold laneFld
    split <;> exact h.wrB
  unfold State.twinLaneDown
  exact down.ite (down.parts.syncLost _ |>.ite down.parts)

theorem State.reportHops_power (s : State) : s.reportHops.power = s.power := by
  obtain ⟨sent, eq⟩ := s.treSendBoth_eq fun q => .announce q s.ownMember none
  unfold State.reportHops
  rw [eq]
  split <;> rfl

theorem State.masterUpdate_power (s : State) : s.masterUpdate.power = s.power := by
  have choice (c : Prop) [Decidable c] {a b u : State} (ha : a.power = u.power) (hb : b.power = u.power) :
      (if c then a else b).power = u.power := by
    split
    · exact ha
    · exact hb
  unfold State.masterUpdate
  extract_lets m d
  have path : m.power = s.power := rfl
  refine choice _ rfl ?_
  have delay : (if (m.tre.dChange.map (·.2)).getD (m.rd F.TRESTLE_STAT_D + 1) = d then m else
      m.masterFrame.2.announceD (match m.masterFrame.2.tre.spanChange with | some (f, _) => f | none => m.masterFrame.1) d).power
      = s.power := choice _ path path
  exact choice _ delay delay

theorem DomKept.portDown {t : State} (h : DomKept s t) (p cause : Nat) : DomKept s (t.portDown p cause) := by
  unfold State.portDown
  refine h.ite ?_
  dsimp only
  generalize noted : (((t.wr F.TRESTLE_PORT_STAT_LINK 0 p).incSat F.TRESTLE_PORT_ERR_DROPS p).wrB F.TRESTLE_STAT_CLOSED false).raise
    0xA00 p [p, cause] = v
  have first : DomKept s v := noted ▸ ((h.wr).wr.wrB).raise
  have told : DomKept s v.reportHops :=
    first.trans ⟨congrArg PowerSt.switching (State.reportHops_power _), State.reportHops_rd _ _ _ _, State.reportHops_rd _ _ _ _⟩
  exact told.of_foot (State.masterUpdate_kept _).foot (congrArg PowerSt.switching (State.masterUpdate_power _)) (by decide) (by decide)

theorem DomKept.lanesDown {t : State} (h : DomKept s t) : DomKept s t.lanesDown := by
  have lane {u : State} (hu : DomKept s u) (l : Nat) : DomKept s (u.laneDown l) := by
    unfold State.laneDown
    exact (hu.twinLaneDown _).ite (DomKept.portDown hu.parts _ _)
  exact lane (lane ((h.twinLaneDown 0).twinLaneDown 1) 0) 1

theorem DomKept.boundary {t : State} (h : DomKept s t) (k : Nat) : DomKept s (t.boundary k) := by
  have applied : DomKept s (t.iexApply k) := by
    unfold State.iexApply
    exact h.ite ((h.wrB.ite h).wr).parts
  unfold State.boundary
  dsimp only
  split
  · exact applied
  · exact applied.ite (applied.parts.wr).wrB

theorem DomKept.sliceRetired {t : State} (h : DomKept s t) (k : Nat) : DomKept s (t.sliceRetired k) := by
  unfold State.sliceRetired
  extract_lets _m u _m1 v
  have first : DomKept s u := DomKept.wrB (f := F.CONV_CAL_STAT_PAUSED) h.parts
  have second : DomKept s v :=
    (DomKept.wrB (f := F.CONV_CAL_STAT_PERM) first.parts).ite (first.ite first.parts)
  exact second.ite (second.boundary k)

/-! ### What a domain loses, and its return (R470) -/

theorem DomKept.showSpares {t : State} (h : DomKept s t) : DomKept s t.showSpares :=
  h.wr.each fun _ _ kept => kept.wr.ite kept

theorem DomKept.checkBlock {t : State} (h : DomKept s t) : DomKept s t.checkBlock := by
  unfold State.checkBlock
  exact h.wr.raise

theorem DomKept.setResidue {t : State} (h : DomKept s t) (bs : List Byte) : DomKept s (t.setResidue bs) := by
  have other (f : Fld) (below : f.key 0 0 < F.KEEP_RAM.key 0 0) (w : Nat) : F.KEEP_RAM.key w 0 ≠ f.key 0 0 := by
    have above : F.KEEP_RAM.key 0 0 ≤ F.KEEP_RAM.key w 0 := by
      unfold Fld.key
      gcongr
      exact Nat.zero_le w
    exact (lt_of_lt_of_le below above).ne'
  exact h.each fun u w kept => kept.trans
    ⟨rfl, u.rd_wr_ne F.KEEP_RAM F.SYS_PD_STAT_IS_ON _ _ _ _ _ (other _ (by decide) w),
      u.rd_wr_ne F.KEEP_RAM F.SYS_PD_STAT_BUSY _ _ _ _ _ (other _ (by decide) w)⟩

theorem DomKept.writeResidue {t : State} (h : DomKept s t) : DomKept s t.writeResidue := by
  unfold State.writeResidue
  split
  · exact h
  · exact (h.parts.setResidue _).wrB.wr.ite h.parts

theorem DomKept.sensForget {t : State} (h : DomKept s t) : DomKept s t.sensForget :=
  h.each fun _ _ kept => kept.parts

theorem DomKept.lose (s : State) (d : Dom) : DomKept s (s.lose d) := by
  have own := DomKept.refl s
  cases d with
  | pierA | pierB =>
    unfold State.lose State.loseHalf
    exact DomKept.showSpares own.parts
  | deck =>
    unfold State.lose State.loseDeck
    refine DomKept.wrB ?_
    refine DomKept.clearBlock (DomKept.clearBlock (DomKept.sensForget ?_))
    exact (own.parts.ite own.parts).parts
  | link => exact own.lanesDown
  | net => exact own.parts.clearBlock.clearBlock.clearBlock.clearBlock
  | conv => exact own.parts.clearBlock.clearBlock.wr
  | meter => exact own.writeResidue.parts.clearBlock
  | sol => exact own.parts.clearBlock
  | mot => exact own.parts.clearBlock
  | fan => exact own.parts.clearBlock.wr.parts

theorem DomKept.evrStart {t : State} (h : DomKept s t) : DomKept s t.evrStart := h.ite h.wrB.parts

theorem DomKept.refEnable {t : State} (h : DomKept s t) : DomKept s t.refEnable := h.ite h.wrB.parts

theorem DomKept.regain (s : State) (d : Dom) : DomKept s (s.regain d) := by
  have own := DomKept.refl s
  have retired {t : State} {l : List Nat} {f : Fld} {v : Nat} (h : DomKept s t)
      (on : f.apart F.SYS_PD_STAT_IS_ON = true := by decide) (busy : f.apart F.SYS_PD_STAT_BUSY = true := by decide) :
      DomKept s (t.each l fun s k => s.wr f v k) := h.each fun _ _ kept => kept.wr on busy
  cases d with
  | pierA | pierB =>
    unfold State.regain State.spareHalf
    exact DomKept.showSpares own.parts
  | deck =>
    have back : DomKept s { s with power := { s.power with deckBack := true } } := ⟨rfl, rfl, rfl⟩
    exact back.wrB.wrB.evrStart
  | link => exact own
  | net => exact own
  | conv => exact own.refEnable.each fun _ k kept => kept.sliceRetired k
  | meter => exact own.checkBlock
  | sol => exact retired (f := F.SOL_CH_STAT_REASON) (retired (f := F.SOL_CH_STAT_REASON) own)
  | mot => exact retired (f := F.MOT_CH_STAT_REASON) own
  | fan => exact retired (f := F.FAN_CH_STAT_REASON) own

/-! ### A switch completes (R470) -/

/-- The switch of domain `d` is no longer on its way. -/
def State.switched (s : State) (d : Nat) : State :=
  { s with power := { s.power with switching := s.power.switching.filter fun x => x.1 != d } }.clrMap F.SYS_PD_STAT_BUSY d

theorem State.switched_spec (s : State) {d : Nat} (small : d < 10) : (s.switched d).mapBit F.SYS_PD_STAT_BUSY d = false ∧
    ∃ rf, s.switched d = { s with rf := rf, power := { s.power with switching := s.power.switching.filter fun x => x.1 != d } } := by
  refine ⟨?_, State.clrMap_rest _ _ _⟩
  unfold State.switched
  rw [State.mapBit_clrMap _ small]
  simp

theorem State.pdDone_off (s : State) (d : Fin 10) : s.pdDone (domOf d) false [] =
    (((s.switched d).lose (domOf d)).clrMap F.SYS_PD_STAT_IS_ON d).event 0x007
      [d, 0, (((s.switched d).lose (domOf d)).clrMap F.SYS_PD_STAT_IS_ON d).rd F.SYS_PD_STAT_RETAINED] := by
  unfold State.pdDone
  rw [domOf_bit]
  rfl

theorem State.pdDone_on (s : State) (d : Fin 10) : s.pdDone (domOf d) true [] =
    (((s.switched d).setMap F.SYS_PD_STAT_IS_ON d).regain (domOf d)).event 0x007
      [d, 1, (((s.switched d).setMap F.SYS_PD_STAT_IS_ON d).regain (domOf d)).rd F.SYS_PD_STAT_RETAINED] := by
  unfold State.pdDone
  rw [domOf_bit]
  rfl

theorem execPdSwitchDone_due {d : Fin 10} {on : Bool} (serves : s.serves [])
    (due : (s.power.switching.find? fun x => x.1 == d.val) = some (d.val, on)) :
    execPdSwitchDone d [] s = .next (s.pdDone (domOf d) on []) := by
  refine (State.act_eq _ serves).trans (congrArg Host.Outcome.next ?_)
  rw [due]

/-- What a domain held is gone when it is off (R470). -/
structure DomLost (s t : State) (d : Dom) : Prop where
  sol : d = .sol → t.sol = {}
  mot : d = .mot → t.mot = []
  fan : d = .fan → t.fan = []
  conv : d = .conv → t.conv = {}
  meter : d = .meter → t.meter = {}
  deck : d = .deck → s.bit F.SYS_PD_CTL_DECK_RET = false → t.deck = []

theorem State.lose_lost (s : State) (d : Dom) : DomLost s (s.lose d) d where
  sol h := by subst h; rfl
  mot h := by subst h; rfl
  fan h := by subst h; rfl
  conv h := by subst h; rfl
  meter h := by subst h; rfl
  deck h gone := by
    subst h
    have forgot (u : State) : u.sensForget.deck = u.deck := by
      unfold State.sensForget State.each
      generalize Sparse.keys u.sens.chk = l
      induction l generalizing u with
      | nil => rfl
      | cons m l ih => exact ih _
    unfold State.lose State.loseDeck
    dsimp only
    rw [gone]
    exact forgot _

theorem pdSwitchDone_off (d : Fin 10) (serves : s.serves [])
    (due : (s.power.switching.find? fun x => x.1 == d.val) = some (d.val, false)) :
    Completes (.pdSwitchDone d []) s fun t => t.mapBit F.SYS_PD_STAT_IS_ON d = false ∧ t.mapBit F.SYS_PD_STAT_BUSY d = false ∧
      t.power.switching = (s.power.switching.filter fun x => x.1 != d.val) ∧ DomLost s t (domOf d) := by
  refine ⟨_, execPdSwitchDone_due serves due, ?_⟩
  rw [State.pdDone_off]
  obtain ⟨idle, rf, eq⟩ := s.switched_spec d.isLt
  obtain ⟨switching, -, busy⟩ := DomKept.lose (s.switched d) (domOf d)
  have lost := (s.switched d).lose_lost (domOf d)
  have retains : (s.switched d).bit F.SYS_PD_CTL_DECK_RET = s.bit F.SYS_PD_CTL_DECK_RET :=
    (State.clrMap_foot { s with power := { s.power with switching := s.power.switching.filter fun x => x.1 != d.val } } _ _).bit _ 0 0
      (by decide)
  generalize (s.switched d).lose (domOf d) = u at switching busy lost
  obtain ⟨rf', off⟩ := u.clrMap_rest F.SYS_PD_STAT_IS_ON d.val
  have isOff : (u.clrMap F.SYS_PD_STAT_IS_ON d.val).mapBit F.SYS_PD_STAT_IS_ON d = false := by
    rw [State.mapBit_clrMap _ d.isLt]
    simp
  have isIdle : (u.clrMap F.SYS_PD_STAT_IS_ON d.val).mapBit F.SYS_PD_STAT_BUSY d = false := by
    rw [State.mapBit_of_foot (u.clrMap_foot _ _) (by decide)]
    unfold State.mapBit at idle ⊢
    rw [busy, idle]
  generalize u.clrMap F.SYS_PD_STAT_IS_ON d.val = v at off isOff isIdle
  refine ⟨?_, ?_, ?_, ?_⟩
  · exact (State.mapBit_of_foot (fs := [F.EVR_QLOST]) (Foot.refl v).raise (by decide) _).trans isOff
  · exact (State.mapBit_of_foot (fs := [F.EVR_QLOST]) (Foot.refl v).raise (by decide) _).trans isIdle
  · refine (congrArg PowerSt.switching (State.raise_power _ _ _ _ _)).trans ?_
    rw [off]
    exact switching.trans (by rw [eq])
  · subst off
    exact {
      sol := fun h => (State.raise_sol _ _ _ _ _).trans (lost.sol h)
      mot := fun h => (State.raise_mot _ _ _ _ _).trans (lost.mot h)
      fan := fun h => (State.raise_fan _ _ _ _ _).trans (lost.fan h)
      conv := fun h => (State.raise_conv _ _ _ _ _).trans (lost.conv h)
      meter := fun h => (State.raise_meter _ _ _ _ _).trans (lost.meter h)
      deck := fun h gone => (State.raise_deck _ _ _ _ _).trans (lost.deck h (retains.trans gone)) }

theorem pdSwitchDone_on (d : Fin 10) (serves : s.serves [])
    (due : (s.power.switching.find? fun x => x.1 == d.val) = some (d.val, true)) :
    Completes (.pdSwitchDone d []) s fun t => t.mapBit F.SYS_PD_STAT_IS_ON d = true ∧ t.mapBit F.SYS_PD_STAT_BUSY d = false := by
  refine ⟨_, execPdSwitchDone_due serves due, ?_⟩
  rw [State.pdDone_on]
  obtain ⟨idle, -⟩ := s.switched_spec d.isLt
  generalize s.switched d = u at idle
  obtain ⟨-, on, busy⟩ := DomKept.regain (u.setMap F.SYS_PD_STAT_IS_ON d) (domOf d)
  have isOn : (u.setMap F.SYS_PD_STAT_IS_ON d).mapBit F.SYS_PD_STAT_IS_ON d = true := by
    rw [State.mapBit_setMap _ d.isLt]
    simp
  have isIdle : (u.setMap F.SYS_PD_STAT_IS_ON d).mapBit F.SYS_PD_STAT_BUSY d = false :=
    (State.mapBit_of_foot (u.setMap_foot _ _) (by decide) _).trans idle
  generalize (u.setMap F.SYS_PD_STAT_IS_ON d).regain (domOf d) = v at on busy
  have keeps (f : Fld) (apart : ([F.EVR_QLOST].all fun g => g.apart f) = true) (ws : List Nat) :
      (v.event 0x007 ws).mapBit f d = v.mapBit f d := State.mapBit_of_foot (Foot.refl v).raise apart _
  unfold State.mapBit at isOn isIdle
  rw [keeps _ (by decide), keeps _ (by decide)]
  unfold State.mapBit
  rw [on, busy]
  exact ⟨isOn, isIdle⟩

/-- Settles O47: a request touches its own domain alone, and what a domain loses or gains leaves the switches alone. -/
theorem powerDomains : Obligations.PowerDomains := by
  unfold Obligations.PowerDomains
  intro s d on map serves dom alone
  refine ⟨fun only changes idle free => ?_, fun only changes barred => ?_, fun due => ?_, pdSwitchDone_on d serves⟩
  · refine ⟨_, (State.act_eq _ serves : execPdSwitchRequest map s = _), ?_⟩
    rw [State.pdWrite_alone only]
    exact State.pdRequest_begins changes idle free
  · refine ⟨_, (State.act_eq _ serves : execPdSwitchRequest map s = _), ?_⟩
    rw [State.pdWrite_alone only]
    exact State.pdRequest_refuses changes barred
  · obtain ⟨t, run, off, idle, switching, lost⟩ := pdSwitchDone_off d serves due
    exact ⟨t, run, off, idle, switching, lost.sol, lost.mot, lost.fan, lost.conv, lost.meter, lost.deck⟩

end Sys2Proof.Machine
end

section
/-! O48: register and deck accesses from outside the piers (R4, R5, R13, R17 to R22, R26). -/

namespace Sys2Proof.Machine

set_option Elab.async false

variable {s : State}

/-! ### Two plain registers -/

/-- A write that takes effect at a register (R5). -/
theorem State.ctlPut_of_reg {i : Initiator} {a x y : Nat} {r : Reg} (d : Nat) (reg : findReg a = some (r, x, y)) :
    s.ctlPut i a d = s.inCycle fun s => s.regWrite i r x y d := by
  generalize put : s.ctlPut i = w
  delta State.ctlPut at put
  subst put
  dsimp only
  rw [reg]

/-- A field that software may write holds what it wrote (R5). -/
theorem State.partWrite_rw {u : State} {f : Fld} {x y d : Nat} (acc : f.acc = .rw) (legal : f.isLegal (f.part d) = true)
    (formed : s.formLegal f x d (f.part d) = true) (free : s.locked f x = false) (mask : writeMask f (f.part d) = f.part d) :
    u.partWrite s f x y d = u.wr f (f.part d) x y := by
  unfold State.partWrite
  dsimp only
  rw [acc]
  dsimp only
  rw [legal, formed, free, mask]
  rfl

theorem findReg_forceVal : findReg F.DECK_FORCE_VAL.base = some (R.DECK_FORCE_VAL, 0, 0) := by decide +kernel

theorem findReg_loadLo : findReg F.METER_LOAD_LO.base = some (R.METER_LOAD_LO, 0, 0) := by decide +kernel

/-- A write of the value that a force will take does nothing else (R85). -/
theorem State.regWrite_forceVal (s : State) (i : Initiator) (d : Nat) :
    s.regWrite i R.DECK_FORCE_VAL 0 0 d = s.wr F.DECK_FORCE_VAL (F.DECK_FORCE_VAL.part d) := by
  have field : s.partWrite s F.DECK_FORCE_VAL 0 0 d = s.wr F.DECK_FORCE_VAL (F.DECK_FORCE_VAL.part d) :=
    State.partWrite_rw rfl rfl rfl rfl rfl
  have effect (u : State) : State.regEffect s u i R.DECK_FORCE_VAL 0 0 d = u := by
    have block : (R.DECK_FORCE_VAL.base - 0x40000000) / 0x10000 = 2 := by decide
    unfold State.regEffect
    rw [block]
    unfold State.deckEffect
    rw [if_neg (by decide), if_neg (by decide), if_neg (by decide)]
    rfl
  exact (effect _).trans field

/-- A write of the low word of a count to load does nothing else (R346). -/
theorem State.regWrite_loadLo (s : State) (i : Initiator) (d : Nat) :
    s.regWrite i R.METER_LOAD_LO 0 0 d = s.wr F.METER_LOAD_LO (F.METER_LOAD_LO.part d) := by
  have field : s.partWrite s F.METER_LOAD_LO 0 0 d = s.wr F.METER_LOAD_LO (F.METER_LOAD_LO.part d) :=
    State.partWrite_rw rfl rfl rfl rfl rfl
  have effect (u : State) : State.regEffect s u i R.METER_LOAD_LO 0 0 d = u := by
    have block : (R.METER_LOAD_LO.base - 0x40000000) / 0x10000 = 9 := by decide
    unfold State.regEffect
    rw [block]
    unfold State.meterEffect
    rw [if_neg (by decide), if_neg (by decide), if_neg (by decide), if_neg (by decide), if_neg (by decide), if_neg (by decide),
      if_neg (by decide)]
    rfl
  exact (effect _).trans field

/-- A command that is one write raises no event, so that its cycle puts none in order (R429). -/
theorem State.inCycle_wr {g : State → State} {f : Fld} {v : Nat} (plain : g s = s.wr f v) : s.inCycle g = s.wr f v :=
  (s.inCycle_eq g (by rw [plain]; exact Nat.le_succ _)).trans plain

theorem State.ctlPut_wr {i : Initiator} {a d : Nat} {r : Reg} {f : Fld} (reg : findReg a = some (r, 0, 0))
    (plain : s.regWrite i r 0 0 d = s.wr f (f.part d)) : s.ctlPut i a d = s.wr f (f.part d) :=
  (State.ctlPut_of_reg d reg).trans (State.inCycle_wr (g := fun s => s.regWrite i r 0 0 d) plain)

theorem part_of_word {f : Fld} (d : Word) (lo : f.lo = 0) (width : f.width = 32) : f.part d.toNat = d.toNat := by
  unfold Fld.part
  rw [lo, width, Nat.pow_zero, Nat.div_one]
  exact Nat.mod_eq_of_lt d.isLt

theorem toBytes_mod (x : Nat) : toBytes (x % 2 ^ 32) 4 = toBytes x 4 := by
  have byte (k : Nat) (hk : k < 4) : BitVec.ofNat 8 (x % 2 ^ 32 / 256 ^ k) = BitVec.ofNat 8 (x / 256 ^ k) := by
    apply BitVec.eq_of_toNat_eq
    rw [BitVec.toNat_ofNat, BitVec.toNat_ofNat]
    interval_cases k <;> omega
  have b0 := byte 0 (by decide)
  have b1 := byte 1 (by decide)
  have b2 := byte 2 (by decide)
  have b3 := byte 3 (by decide)
  simp only [toBytes, Nat.div_div_eq_div_mul]
  norm_num at b0 b1 b2 b3 ⊢
  exact ⟨b0, b1, b2, b3⟩

/-- A read of the low word of a count to load shows it (R6). -/
theorem State.regRead_loadLo (s : State) (i : Initiator) :
    s.regRead i R.METER_LOAD_LO 0 0 = (s.rd F.METER_LOAD_LO % 2 ^ 32, s) := by
  have before : s.beforeRead R.METER_LOAD_LO 0 0 = s := by
    unfold State.beforeRead
    rw [if_neg (by decide), if_neg (by decide), if_neg (by decide), if_neg (by decide), if_neg (by decide), if_neg (by decide)]
  have after : s.afterRead R.METER_LOAD_LO 0 0 = s := by
    unfold State.afterRead
    exact if_neg (by decide)
  have shown : s.view F.METER_LOAD_LO 0 0 = s.rd F.METER_LOAD_LO % 2 ^ 32 := rfl
  have word : s.peekReg R.METER_LOAD_LO 0 0 = s.rd F.METER_LOAD_LO % 2 ^ 32 := by
    change 0 + 2 ^ 0 * s.view F.METER_LOAD_LO 0 0 = _
    rw [shown, Nat.pow_zero, Nat.one_mul, Nat.zero_add]
  unfold State.regRead
  rw [if_neg (by decide), if_neg (by decide), if_neg (by decide)]
  dsimp only
  rw [before, word, after]

/-! ### Accesses to the control blocks (R4, R5, R13) -/

theorem registerWrite_answers (i : Initiator) (addr data : Word) (serves : s.serves []) :
    (onBearing addr.toNat = true → s.ctlAccess i addr.toNat = .ok → Completes (.registerWrite i addr data) s fun t =>
      t = { s with posted := s.posted ++ [(⟨initCode i, addr.toNat, data⟩ : Posted)] }.answer i addr.toNat [] false) ∧
    (onBearing addr.toNat = false → s.ctlAccess i addr.toNat = .ok → Completes (.registerWrite i addr data) s fun t =>
      t = (s.ctlPut i addr.toNat data.toNat).answer i addr.toNat [] false) ∧
    (s.ctlAccess i addr.toNat ≠ .ok → Completes (.registerWrite i addr data) s fun t => t = s.answer i addr.toNat [] true) := by
  refine ⟨fun bearing access => ?_, fun deck access => ?_, fun barred => ?_⟩
  · refine ⟨_, exec_registerWrite i addr data serves, ?_⟩
    rw [State.ctlWrite_bearing _ access bearing, BitVec.ofNat_toNat, BitVec.setWidth_eq]
    rfl
  · refine ⟨_, exec_registerWrite i addr data serves, ?_⟩
    rw [State.ctlWrite_deck _ access deck]
    rfl
  · refine ⟨_, exec_registerWrite i addr data serves, ?_⟩
    have refused : s.ctlWrite i addr.toNat data.toNat = (s.ctlAccess i addr.toNat, s) := by
      generalize put : s.ctlPut i = w
      delta State.ctlWrite
      rw [put]
      split
      · exact absurd ‹_› barred
      · rfl
    rw [refused, bne_iff_ne.mpr barred]

theorem blockOn_of {a : Nat} {d : Dom} (block : blockDom a = some d) (on : s.domOn d = true) : s.blockOn a = true := by
  generalize named : s.blockOn = power
  delta State.blockOn at named
  subst named
  dsimp only
  rw [block]
  exact on

theorem State.ctlAccess_forceVal (i : Initiator) (on : s.domOn .deck = true) : s.ctlAccess i F.DECK_FORCE_VAL.base = .ok :=
  State.ctlAccess_of_reg (by decide) (by decide) findReg_forceVal (blockOn_of (d := .deck) (by decide) on)
    (fun bearing => absurd bearing (by decide)) (by rw [show cursorOf F.DECK_FORCE_VAL.base = none by decide]; rfl)

theorem State.ctlAccess_loadLo (i : Initiator) (on : s.domOn .meter = true) (joint : s.joint = true) :
    s.ctlAccess i F.METER_LOAD_LO.base = .ok :=
  State.ctlAccess_of_reg (by decide) (by decide) findReg_loadLo (blockOn_of (d := .meter) (by decide) on)
    (fun _ => joint) (by rw [show cursorOf F.METER_LOAD_LO.base = none by decide]; rfl)

theorem registerWrite_forceVal {i : Initiator} {addr data : Word} (serves : s.serves []) (at_ : addr.toNat = F.DECK_FORCE_VAL.base)
    (on : s.domOn .deck = true) : Completes (.registerWrite i addr data) s fun t =>
      Sets (s.answer i addr.toNat [] false) t [(F.DECK_FORCE_VAL, 0, 0, data.toNat)] := by
  have access := State.ctlAccess_forceVal i on
  rw [← at_] at access
  obtain ⟨t, run, rfl⟩ := (registerWrite_answers i addr data serves).2.1 (by rw [at_]; decide) access
  refine ⟨_, run, ?_⟩
  rw [State.ctlPut_wr (f := F.DECK_FORCE_VAL) (at_ ▸ findReg_forceVal) (s.regWrite_forceVal i _), part_of_word data rfl rfl]
  exact Sets.of_wr rfl data.isLt

theorem bearingWriteEffect_takes {p : Posted} {rest : List Posted} (serves : s.serves []) (first : s.posted = p :: rest) :
    (s.ctlAccess (initOf p.initiator) p.addr = .ok → Completes .bearingWriteEffect s fun t =>
      t = { s with posted := rest }.ctlPut (initOf p.initiator) p.addr p.data.toNat) ∧
    (s.ctlAccess (initOf p.initiator) p.addr ≠ .ok → Completes .bearingWriteEffect s fun t => t = { s with posted := rest }) := by
  have access (i : Initiator) (a : Nat) : ({ s with posted := rest } : State).ctlAccess i a = s.ctlAccess i a :=
    congrFun (State.ctlAccess_congr (s := s) (t := { s with posted := rest }) rfl i) a
  refine ⟨fun ok => ⟨_, exec_bearingWriteEffect_cons serves first, ?_⟩, fun barred => ⟨_, exec_bearingWriteEffect_cons serves first, ?_⟩⟩
  · unfold State.postedEffect
    rw [access, if_pos ok]
  · unfold State.postedEffect
    rw [access, if_neg barred]

theorem bearingWriteEffect_loadLo {p : Posted} {rest : List Posted} (serves : s.serves []) (first : s.posted = p :: rest)
    (at_ : p.addr = F.METER_LOAD_LO.base) (on : s.domOn .meter = true) (joint : s.joint = true) :
    Completes .bearingWriteEffect s fun t => Sets { s with posted := rest } t [(F.METER_LOAD_LO, 0, 0, p.data.toNat)] := by
  have access := State.ctlAccess_loadLo (initOf p.initiator) on joint
  rw [← at_] at access
  obtain ⟨t, run, rfl⟩ := (bearingWriteEffect_takes serves first).1 access
  refine ⟨_, run, ?_⟩
  rw [State.ctlPut_wr (f := F.METER_LOAD_LO) (at_ ▸ findReg_loadLo) (State.regWrite_loadLo _ _ _), part_of_word p.data rfl rfl]
  exact Sets.of_wr rfl p.data.isLt

/-- A read of a register of the bearing die is answered, after the initiator's posted writes took effect (R13). -/
theorem bearingReadDone_reg {i : Initiator} {addr : Word} (serves : s.serves []) {r : Reg} {x y : Nat}
    (bearing : onBearing addr.toNat = true) (access : s.ctlAccess i addr.toNat = .ok) (reg : findReg addr.toNat = some (r, x, y)) :
    Completes (.bearingReadDone i addr) s fun t => t = ((s.drainPosted (initCode i)).regRead i r x y).2.answer i addr.toNat
      (toBytes ((s.drainPosted (initCode i)).regRead i r x y).1 4) false :=
  ⟨_, exec_bearingReadDone_ok i addr serves bearing (State.ctlRead_of_reg access reg bearing Prod.mk.eta.symm), rfl⟩

theorem bearingReadDone_empty {i : Initiator} {addr : Word} (serves : s.serves []) (bearing : onBearing addr.toNat = true)
    (access : s.ctlAccess i addr.toNat = .ok) (empty : findReg addr.toNat = none) : Completes (.bearingReadDone i addr) s fun t =>
      t = (s.drainPosted (initCode i)).answer i addr.toNat (toBytes 0 4) false := by
  have read : s.ctlRead i addr.toNat = (.ok, 0, s.drainPosted (initCode i)) := by
    generalize named : s.ctlRead i = reads
    delta State.ctlRead at named
    subst named
    beta_reduce
    rw [access, empty, bearing]
    dsimp only
    rw [if_pos rfl]
  exact ⟨_, exec_bearingReadDone_ok i addr serves bearing read, rfl⟩

theorem State.ctlRead_barred {i : Initiator} {a : Nat} (barred : s.ctlAccess i a ≠ .ok) :
    s.ctlRead i a = (s.ctlAccess i a, 0, s) := by
  generalize named : s.ctlRead i = reads
  delta State.ctlRead at named
  subst named
  beta_reduce
  generalize s.ctlAccess i a = access at barred
  cases access with
  | ok => exact absurd rfl barred
  | refused => rfl
  | down => rfl

theorem bearingReadDone_barred {i : Initiator} {addr : Word} (serves : s.serves []) (bearing : onBearing addr.toNat = true)
    (barred : s.ctlAccess i addr.toNat ≠ .ok) : Completes (.bearingReadDone i addr) s fun t => t = s.answer i addr.toNat [] true := by
  refine ⟨s.answer i addr.toNat [] true, ?_, rfl⟩
  change execBearingReadDone i addr s = _
  refine (State.act_eq _ serves).trans ?_
  rw [bearing, State.ctlRead_barred barred]
  dsimp only
  rw [if_neg barred, bne_iff_ne.mpr barred]
  rfl

theorem bearingReadDone_deck {i : Initiator} {addr : Word} (serves : s.serves []) (deck : onBearing addr.toNat = false) :
    Completes (.bearingReadDone i addr) s fun t => t = s := by
  refine ⟨s, ?_, rfl⟩
  change execBearingReadDone i addr s = _
  refine (State.act_eq _ serves).trans ?_
  rw [deck]
  rfl

theorem bearingReadDone_loadLo {i : Initiator} {addr : Word} (serves : s.serves []) (at_ : addr.toNat = F.METER_LOAD_LO.base)
    (on : s.domOn .meter = true) (joint : s.joint = true) (empty : s.posted = []) : Completes (.bearingReadDone i addr) s fun t =>
      t = s.answer i addr.toNat (toBytes (s.rd F.METER_LOAD_LO) 4) false := by
  have access := State.ctlAccess_loadLo i on joint
  rw [← at_] at access
  obtain ⟨t, run, rfl⟩ := bearingReadDone_reg serves (by rw [at_]; decide) access (at_ ▸ findReg_loadLo)
  refine ⟨_, run, ?_⟩
  rw [State.drainPosted_of_posted_nil _ empty, State.regRead_loadLo, toBytes_mod]

/-! ### Accesses to the deck (R17 to R21, R89) -/

theorem execDeckAccess_eq (i : Initiator) (req : DeckReq) (ecc : Ecc) (serves : s.serves []) (outside : notPier i = true)
    (open_ : s.busWaits i req = false) : execDeckAccess i req ecc s = .next (s.busServe ⟨i, req, ecc⟩) := by
  refine (State.act_eq _ serves).trans (congrArg Host.Outcome.next ?_)
  rw [outside, open_]
  rfl

theorem deckAccess_waits {i : Initiator} {req : DeckReq} {ecc : Ecc} (serves : s.serves []) (outside : notPier i = true)
    (closed : s.busWaits i req = true) : Completes (.deckAccess i req ecc) s fun t =>
      t = { s with busHeld := s.busHeld ++ [⟨i, req, ecc⟩] } := by
  refine ⟨_, (State.act_eq _ serves : execDeckAccess i req ecc s = _), ?_⟩
  rw [outside, closed]
  rfl

theorem deckAccess_pier {i : Initiator} {req : DeckReq} {ecc : Ecc} (serves : s.serves []) (inside : notPier i = false) :
    Completes (.deckAccess i req ecc) s fun t => t = s := by
  refine ⟨_, (State.act_eq _ serves : execDeckAccess i req ecc s = _), ?_⟩
  rw [inside]
  rfl

theorem deckAccess_reads {i : Initiator} {addr : Word} {len : Nat} {ecc : Ecc} (serves : s.serves []) (outside : notPier i = true)
    (open_ : s.busWaits i (.read addr len) = false) :
    (s.deckReadOk i addr.toNat len = true → s.eccClean addr.toNat len = true →
      Completes (.deckAccess i (.read addr len) .ok) s fun t => t = s.answer i addr.toNat (s.deckBytes addr.toNat len) false) ∧
    (s.deckReadOk i addr.toNat len = true → Completes (.deckAccess i (.read addr len) ecc) s fun t =>
      t = (s.eccFound addr.toNat len ecc).answer i addr.toNat
        (if s.eccBad addr.toNat len ecc then [] else s.deckBytes addr.toNat len) (s.eccBad addr.toNat len ecc)) ∧
    (s.deckReadOk i addr.toNat len = false →
      Completes (.deckAccess i (.read addr len) ecc) s fun t => t = s.answer i addr.toNat [] true) := by
  have read (ecc : Ecc) (may : s.deckReadOk i addr.toNat len = true) : s.busServe ⟨i, .read addr len, ecc⟩ =
      (s.eccFound addr.toNat len ecc).answer i addr.toNat
        (if s.eccBad addr.toNat len ecc then [] else s.deckBytes addr.toNat len) (s.eccBad addr.toNat len ecc) := by
    unfold State.busServe State.deckRead
    dsimp only
    rw [may]
    cases s.eccBad addr.toNat len ecc <;> rfl
  refine ⟨fun may clean => ⟨_, execDeckAccess_eq i _ _ serves outside open_, ?_⟩,
    fun may => ⟨_, execDeckAccess_eq i _ _ serves outside open_, read ecc may⟩,
    fun barred => ⟨_, execDeckAccess_eq i _ _ serves outside open_, ?_⟩⟩
  · rw [read .ok may, s.eccBad_of_clean clean, s.eccFound_of_clean clean]
    rfl
  · unfold State.busServe State.deckRead
    dsimp only
    rw [barred]
    rfl

theorem State.busServe_write {i : Initiator} {addr : Word} {bs : List Byte} (ecc : Ecc)
    (may : s.deckWriteOk i addr.toNat bs.length = true) : s.busServe ⟨i, .write addr bs, ecc⟩ =
      (if (s.partRead addr.toNat bs.length ecc).1 then (s.partRead addr.toNat bs.length ecc).2
        else (s.partRead addr.toNat bs.length ecc).2.deckPut addr.toNat bs).answer i addr.toNat []
          (s.partRead addr.toNat bs.length ecc).1 := by
  unfold State.busServe State.deckWrite
  dsimp only
  rw [may]
  generalize s.partRead addr.toNat bs.length ecc = x
  obtain ⟨bad, u⟩ := x
  cases bad <;> rfl

theorem deckAccess_writes {i : Initiator} {addr : Word} {ecc : Ecc} (serves : s.serves []) (bs : List Byte) (outside : notPier i = true)
    (open_ : s.busWaits i (.write addr bs) = false) :
    (s.deckWriteOk i addr.toNat bs.length = true → (∀ q ∈ partQuarters addr.toNat bs.length, s.eccClean q 8 = true) →
      deckRamBase ≤ addr.toNat → Completes (.deckAccess i (.write addr bs) .ok) s fun t =>
        t.resp = (s.answer i addr.toNat [] false).resp ∧ (∀ f j k, t.rd f j k = s.rd f j k) ∧
        ∀ b, t.dByte b = if addr.toNat ≤ b ∧ b < addr.toNat + bs.length then bs.getD (b - addr.toNat) 0 else s.dByte b) ∧
    (s.deckWriteOk i addr.toNat bs.length = true → (∀ q ∈ partQuarters addr.toNat bs.length, s.eccClean q 8 = true) →
      addr.toNat < deckRamBase → Completes (.deckAccess i (.write addr bs) .ok) s fun t =>
        t = ((s.enginePut addr.toNat bs).eccClear addr.toNat bs.length).answer i addr.toNat [] false) ∧
    (s.deckWriteOk i addr.toNat bs.length = true → Completes (.deckAccess i (.write addr bs) ecc) s fun t =>
      t = (if (s.partRead addr.toNat bs.length ecc).1 then (s.partRead addr.toNat bs.length ecc).2
        else (s.partRead addr.toNat bs.length ecc).2.deckPut addr.toNat bs).answer i addr.toNat []
          (s.partRead addr.toNat bs.length ecc).1) ∧
    (s.deckWriteOk i addr.toNat bs.length = false →
      Completes (.deckAccess i (.write addr bs) ecc) s fun t => t = s.answer i addr.toNat [] true) := by
  have stored (may : s.deckWriteOk i addr.toNat bs.length = true)
      (clean : ∀ q ∈ partQuarters addr.toNat bs.length, s.eccClean q 8 = true) :
      execDeckAccess i (.write addr bs) .ok s = .next ((s.deckPut addr.toNat bs).answer i addr.toNat [] false) := by
    rw [execDeckAccess_eq i _ _ serves outside open_, State.busServe_write _ may, s.partRead_of_clean clean]
    rfl
  refine ⟨fun may clean ram => ⟨_, stored may clean, ?_⟩, fun may clean engine => ⟨_, stored may clean, ?_⟩,
    fun may => ⟨_, execDeckAccess_eq i _ _ serves outside open_, State.busServe_write ecc may⟩,
    fun barred => ⟨_, execDeckAccess_eq i _ _ serves outside open_, ?_⟩⟩
  · obtain ⟨d, e, tw, eq, -, byte⟩ := State.deckPut_ram (s := s) (bs := bs) ram
    refine ⟨?_, fun f j k => ?_, byte⟩
    · rw [eq]
      rfl
    · rw [eq]
      rfl
  · unfold State.deckPut
    rw [if_pos engine]
  · unfold State.busServe State.deckWrite
    dsimp only
    rw [barred]
    rfl

/-- Settles O48: each access is one case of the bus, of a control block or of the deck. -/
theorem busAndDeck : Obligations.BusAndDeck := by
  unfold Obligations.BusAndDeck
  intro s i addr data ecc serves a d
  obtain ⟨posted, stored, refused⟩ := registerWrite_answers i addr data serves
  refine ⟨posted, stored, refused, registerWrite_forceVal serves, fun p rest first => ?_, fun none => ?_,
    fun r x y => bearingReadDone_reg serves, bearingReadDone_empty serves, bearingReadDone_loadLo serves, bearingReadDone_barred serves,
    bearingReadDone_deck serves, fun req => deckAccess_waits serves, fun len => deckAccess_reads serves, ?_,
    fun req => deckAccess_pier serves⟩
  · obtain ⟨effect, dropped⟩ := bearingWriteEffect_takes serves first
    exact ⟨effect, dropped, bearingWriteEffect_loadLo serves first⟩
  · refine ⟨_, (State.act_eq _ serves : execBearingWriteEffect s = _), ?_⟩
    rw [none]
  · exact deckAccess_writes serves

end Sys2Proof.Machine
end

section
/-! O49: the commands of the point engine (R70, R74, R85, R86, R92 to R94, R119, R369). -/

namespace Sys2Proof.Machine

set_option Elab.async false

variable {s : State}

/-! ### Descriptors (R70, R74, R119) -/

theorem descRead_shows (serves : s.serves [.deck]) : Completes .descRead s fun t =>
    Sets s t ((List.range 8).map fun k => (F.DECK_DESC_DATA, k, 0, (s.desc (s.rd F.DECK_DESC_PT)).word k % 2 ^ 32)) := by
  refine ⟨_, (State.act_eq _ serves : execDescRead s = _), ?_⟩
  generalize s.desc (s.rd F.DECK_DESC_PT) = d
  have words : s.each (List.range 8) (fun s k => s.wr F.DECK_DESC_DATA (d.word k) k) =
      s.wrs ((List.range 8).map fun k => (F.DECK_DESC_DATA, k, 0, d.word k % 2 ^ 32)) := by
    have cut (u : State) (k : Nat) : u.wr F.DECK_DESC_DATA (d.word k) k = u.wr F.DECK_DESC_DATA (d.word k % 2 ^ 32) k := by
      unfold State.wr
      rw [show F.DECK_DESC_DATA.width = 32 from rfl, Nat.mod_mod]
    simp only [cut, State.each, State.wrs, List.foldl_map]
  refine Sets.of_keys words ?_ ?_
  · simp only [Fits, List.all_map, List.all_eq_true, Function.comp, decide_eq_true_eq]
    exact fun k _ => Nat.mod_lt _ (by decide)
  · rw [List.map_map]
    exact List.Nodup.map_on (fun k hk l hl same => by
      simp only [Function.comp, Fld.key, F.DECK_DESC_DATA] at same
      omega) List.nodup_range

theorem State.stageDesc_spec (s : State) (p : Nat) (d : Desc) :
    (s.stageDesc p d).pts = { s.pts with staged := Sparse.put s.pts.staged p d } ∧ (s.stageDesc p d).rf = s.rf := by
  obtain ⟨tw, h⟩ := ({ s with pts := { s.pts with staged := Sparse.put s.pts.staged p d } } : State).mirror_rest (.desc p d)
  unfold State.stageDesc
  rw [h]
  exact ⟨rfl, rfl⟩

theorem descWrite_stages (serves : s.serves [.deck]) {p : Nat} {d : Desc} (hp : p = s.rd F.DECK_DESC_PT)
    (hd : d = Desc.ofWords fun k => s.rd F.DECK_DESC_DATA k) :
    (s.descRefused p d = true → Completes .descWrite s fun t => Sets s t [(F.DECK_DESC_STAT_REFUSED, 0, 0, 1)]) ∧
    (s.descRefused p d = false → Completes .descWrite s fun t =>
      t.pts = { s.pts with staged := Sparse.put s.pts.staged p d } ∧ t.rf = s.rf) := by
  subst hp hd
  refine ⟨fun refused => ⟨_, (State.act_eq _ serves : execDescWrite s = _), ?_⟩,
    fun taken => ⟨_, (State.act_eq _ serves : execDescWrite s = _), ?_⟩⟩
  · dsimp only
    rw [if_pos refused]
    exact Sets.of_wrs rfl
  · dsimp only
    rw [taken, if_neg Bool.false_ne_true]
    exact s.stageDesc_spec _ _

/-! ### Forces (R85, R86, R369) -/

/-- HELD of DECK_FORCE_STAT shows whether a command waits for the tick after the next (R86). -/
def State.heldShown (s : State) : State := s.wrB F.DECK_FORCE_STAT_HELD s.writeClosed

theorem State.heldShown_foot (s : State) : Foot [F.DECK_FORCE_STAT_HELD] s s.heldShown := (Foot.refl s).wrB

theorem State.heldShown_rd (s : State) : s.heldShown.rd F.DECK_FORCE_STAT_HELD = s.writeClosed.toNat := by
  unfold State.heldShown State.wrB
  rw [State.rd_wr_same]
  cases s.writeClosed <;> rfl

theorem State.heldShown_sets (s : State) : Sets s s.heldShown [(F.DECK_FORCE_STAT_HELD, 0, 0, s.writeClosed.toNat)] :=
  Sets.of_wr rfl (Bool.toNat_lt _)

/-- A command that a standby ignores is counted, in the state that shows HELD (R369). -/
theorem State.heldShown_ignored (s : State) : Sets s (s.heldShown.incSat F.TWIN_STBY_REFUSED)
    [(F.DECK_FORCE_STAT_HELD, 0, 0, s.writeClosed.toNat),
      (F.TWIN_STBY_REFUSED, 0, 0, min (2 ^ 32 - 1) (s.rd F.TWIN_STBY_REFUSED + 1))] := by
  have count : s.heldShown.rd F.TWIN_STBY_REFUSED = s.rd F.TWIN_STBY_REFUSED := s.heldShown_foot.rd _ 0 0 (by decide)
  have counted : s.heldShown.incSat F.TWIN_STBY_REFUSED =
      s.heldShown.wr F.TWIN_STBY_REFUSED (min (2 ^ 32 - 1) (s.rd F.TWIN_STBY_REFUSED + 1)) := by
    rw [← count]
    rfl
  rw [counted]
  exact s.heldShown_sets.wr _ 0 0 (lt_of_le_of_lt (Nat.min_le_left _ _) (by decide)) (by
    rw [List.forall_mem_singleton]
    exact (by decide : F.TWIN_STBY_REFUSED.key 0 0 ≠ F.DECK_FORCE_STAT_HELD.key 0 0))

theorem State.heldShown_writeClosed (s : State) : s.heldShown.writeClosed = s.writeClosed := by
  unfold State.writeClosed State.running State.inWin
  rw [s.heldShown_foot.bit _ 0 0 (by decide), s.heldShown_foot.rd _ 0 0 (by decide)]

theorem State.heldShown_due (s : State) : s.heldShown.forceDue = s.forceDue := by
  unfold State.forceDue
  rw [s.heldShown_writeClosed]
  rfl

theorem State.heldShown_offset (s : State) : s.heldShown.offset = s.offset := by
  unfold State.offset State.sel
  rw [s.heldShown_foot.rd _ 0 0 (by decide)]
  rfl

theorem State.heldShown_devId (s : State) : s.heldShown.devId = s.devId := by
  unfold State.devId
  rw [s.heldShown_foot.bit _ 0 0 (by decide), s.heldShown_foot.rd _ 0 0 (by decide)]

theorem State.heldShown_coherent (s : State) : s.heldShown.coherent = s.coherent := by
  unfold State.coherent State.running State.atStep
  rw [s.heldShown_foot.bit _ 0 0 (by decide), s.heldShown_foot.rd _ 0 0 (by decide)]

theorem State.heldShown_standingBy (s : State) : s.heldShown.standingBy = s.standingBy := by
  have enable := s.heldShown_foot.bit F.TWIN_CTL_EN 0 0 (by decide)
  have lock := s.heldShown_foot.bit F.SYS_DEVICE_ID_LOCK 0 0 (by decide)
  have role := s.heldShown_foot.rd F.TWIN_STAT_ROLE 0 0 (by decide)
  unfold State.standingBy State.paired State.joinable State.roleIs
  rw [enable, lock, s.heldShown_devId, role]

theorem State.heldShown_ignores (s : State) (p : Nat) : s.heldShown.standbyIgnores p = s.standbyIgnores p := by
  unfold State.standbyIgnores
  rw [s.heldShown_standingBy]
  rfl

/-- A release that is queued changes the list of commands and what the mirror is told (R86). -/
theorem State.queueForce_release (s : State) (p : Option Nat) : ∃ twin, s.queueForce p none =
    { s with twin := twin, pts := { s.pts with forceCmds := s.pts.forceCmds ++ [{ pt := p, due := s.forceDue, val := none }] } } := by
  obtain ⟨tw, h⟩ := ({ s with pts := { s.pts with forceCmds := s.pts.forceCmds ++ [{ pt := p, due := s.forceDue, val := none }] } } :
    State).mirror_rest (.force { pt := p, due := s.forceDue, val := none })
  refine ⟨tw, ?_⟩
  have plain : s.queueForce p none = State.mirror { s with pts := { s.pts with
      forceCmds := s.pts.forceCmds ++ [{ pt := p, due := s.forceDue, val := none }] } } (.force { pt := p, due := s.forceDue, val := none }) := by
    unfold State.queueForce
    cases p <;> rfl
  rw [plain, h]

/-- A force that is queued is the last of the commands; what the ring is told of it stays in its own parts (R85, R87). -/
theorem State.queueForce_force (s : State) (q : Nat) (v : Word) :
    (s.queueForce (some q) (some v)).pts = { s.pts with forceCmds := s.pts.forceCmds ++
      [{ pt := some q, due := s.forceDue, val := some ⟨v, s.frame, s.offset, s.devId⟩ }] } ∧
    (s.queueForce (some q) (some v)).rd F.DECK_FORCE_STAT_HELD = s.rd F.DECK_FORCE_STAT_HELD := by
  generalize named : ({ pt := some q, due := s.forceDue, val := some ⟨v, s.frame, s.offset, s.devId⟩ } : ForceCmd) = c
  generalize told : ({ s with pts := { s.pts with forceCmds := s.pts.forceCmds ++ [c] } } : State) = u
  obtain ⟨tw, h⟩ := u.mirror_rest (.force c)
  have published : s.queueForce (some q) (some v) = (u.mirror (.force c)).publishAs (c.due - 1) q
      (forcedRecord ⟨v, s.frame, s.offset, s.devId⟩) := by
    subst told named
    rfl
  obtain ⟨rf, tre, twin, evr, eq⟩ := LinksOnly.publishAs (u.mirror (.force c)) (c.due - 1) q (forcedRecord ⟨v, s.frame, s.offset, s.devId⟩)
  have kept := (Beside.publishAs (Beside.refl (u.mirror (.force c))) (c.due - 1) q (forcedRecord ⟨v, s.frame, s.offset, s.devId⟩)).rd
    F.DECK_FORCE_STAT_HELD 0 0 fun g hg i j =>
      Fld.key_ne_of_apart (List.all_eq_true.mp (show (sideFlds.all fun g => g.apart F.DECK_FORCE_STAT_HELD) = true by decide) g hg) _ _ _ _
  constructor
  · rw [published, eq, h, ← told]
  · rw [published, kept, h, ← told]
    rfl

/-- The initiators of forces are the host and the network (R85). -/
theorem mayForce_iff (i : Initiator) : mayForce i = true ↔ i = .host ∨ i = .net := by
  cases i <;> simp [mayForce]

/-- The registers count one command that a standby ignored (R369). -/
def State.ignoredRow (s : State) : Row := (F.TWIN_STBY_REFUSED, 0, 0, min (2 ^ 32 - 1) (s.rd F.TWIN_STBY_REFUSED + 1))

theorem force_spec {i : Initiator} (serves : s.serves [.deck]) (may : i = .host ∨ i = .net) {q : Nat} {v : Word}
    (hq : q = s.rd F.DECK_FORCE_PT) (hv : v = BitVec.ofNat 32 (s.rd F.DECK_FORCE_VAL)) :
    (s.forceReason q = 0 → s.standbyIgnores q = false → Completes (.force i) s fun t =>
      t.pts = { s.pts with forceCmds := s.pts.forceCmds ++
        [{ pt := some q, due := s.forceDue, val := some ⟨v, s.frame, s.offset, s.devId⟩ }] } ∧ t.rd F.DECK_FORCE_STAT_HELD = s.writeClosed.toNat) ∧
    (s.standbyIgnores q = true → Completes (.force i) s fun t => Sets s t [s.ignoredRow]) ∧
    (s.forceReason q ≠ 0 → s.standbyIgnores q = false → Completes (.force i) s fun t =>
      SetsRaise s t [(F.DECK_FORCE_STAT_REASON, 0, 0, s.forceReason q), (F.DECK_FORCE_STAT_REFUSED, 0, 0, 1)]
        0x224 0xFF [s.forceReason q]) := by
  have run : execForce i s = .next (s.force q v).2 := by
    subst hq hv
    refine (State.act_eq _ serves).trans (congrArg Host.Outcome.next ?_)
    rw [(mayForce_iff i).mpr may]
    rfl
  refine ⟨fun good mine => ⟨_, run, ?_⟩, fun ignored => ⟨_, run, ?_⟩, fun bad mine => ⟨_, run, ?_⟩⟩
  · have taken : (s.force q v).2 = s.heldShown.queueForce (some q) (some v) := by
      unfold State.force
      rw [mine, good]
      rfl
    obtain ⟨pts, held⟩ := s.heldShown.queueForce_force q v
    rw [s.heldShown_due, s.heldShown_offset, s.heldShown_devId] at pts
    rw [taken]
    exact ⟨pts, held.trans s.heldShown_rd⟩
  · unfold State.force
    rw [ignored]
    exact Sets.incSat s F.TWIN_STBY_REFUSED 0 0
  · have small : s.forceReason q < 8 := by
      unfold State.forceReason
      repeat' split
      all_goals decide
    unfold State.force
    rw [mine]
    dsimp only
    rw [if_neg Bool.false_ne_true, if_pos bad]
    refine ⟨(s.wr F.DECK_FORCE_STAT_REASON (s.forceReason q)).wrB F.DECK_FORCE_STAT_REFUSED true, Sets.of_wrs rfl ?_, rfl⟩
    rw [Fits, List.all_cons, List.all_cons, List.all_nil, Bool.and_true, Bool.and_eq_true]
    exact ⟨decide_eq_true small, rfl⟩

/-- RELEASE and RELEASE_ALL go through one rule, in the state that shows HELD (R86). -/
theorem State.release_early (p : Option Nat) (early : s.coherent = false) : (s.release p).2 = s.heldShown := by
  have early' := s.heldShown_coherent.trans early
  unfold State.release
  change (if (!s.heldShown.coherent) = true then (PtRes.ok, s.heldShown) else _).2 = s.heldShown
  rw [early']
  rfl

theorem State.release_one (q : Nat) (now : s.coherent = true) : (s.release (some q)).2 =
    if s.standbyIgnores q then s.heldShown.incSat F.TWIN_STBY_REFUSED else s.heldShown.queueForce (some q) none := by
  have now' := s.heldShown_coherent.trans now
  have ignores := s.heldShown_ignores q
  unfold State.release
  change (if (!s.heldShown.coherent) = true then (PtRes.ok, s.heldShown) else if s.heldShown.standbyIgnores q then
    (PtRes.standby, s.heldShown.incSat F.TWIN_STBY_REFUSED) else (PtRes.ok, s.heldShown.queueForce (some q) none)).2 = _
  rw [now', ignores]
  cases s.standbyIgnores q <;> rfl

theorem State.release_all (now : s.coherent = true) : (s.release none).2 = s.heldShown.releaseAll := by
  have now' := s.heldShown_coherent.trans now
  unfold State.release
  change (if (!s.heldShown.coherent) = true then (PtRes.ok, s.heldShown) else (PtRes.ok, s.heldShown.releaseAll)).2 = _
  rw [now']
  rfl

/-- Releases that are queued one after the other (R86, R369). -/
theorem State.each_release (l : List Nat) (s : State) : ∃ twin, (s.each l fun s p => s.queueForce (some p) none) =
    { s with twin := twin, pts := { s.pts with
      forceCmds := s.pts.forceCmds ++ l.map (fun p => { pt := some p, due := s.forceDue, val := none }) } } := by
  unfold State.each
  induction l generalizing s with
  | nil => exact ⟨s.twin, by simp⟩
  | cons p l ih =>
    obtain ⟨tw, first⟩ := s.queueForce_release (some p)
    obtain ⟨tw', rest⟩ := ih (s.queueForce (some p) none)
    refine ⟨tw', rest.trans ?_⟩
    rw [first]
    simp only [List.map_cons, List.append_assoc, List.singleton_append]
    rfl

theorem releaseAll_standby (now : s.coherent = true) (standing : s.standingBy = true) :
    (s.release none).2.pts = { s.pts with
      forceCmds := s.pts.forceCmds ++ (s.forceHolders.filter fun p => !s.standbyIgnores p).map
        (fun p => { pt := some p, due := s.forceDue, val := none }) } ∧
    (s.release none).2.rd F.TWIN_STBY_REFUSED = if s.forceHolders.any s.standbyIgnores
      then min (2 ^ 32 - 1) (s.rd F.TWIN_STBY_REFUSED + 1) else s.rd F.TWIN_STBY_REFUSED := by
  have ignores : s.heldShown.standbyIgnores = s.standbyIgnores := funext s.heldShown_ignores
  obtain ⟨tw, eq⟩ := State.each_release (s.forceHolders.filter fun p => !s.standbyIgnores p) s.heldShown
  rw [s.heldShown_due] at eq
  have all : (s.release none).2 = if s.forceHolders.any s.standbyIgnores then
      (s.heldShown.each (s.forceHolders.filter fun p => !s.standbyIgnores p) fun s p => s.queueForce (some p) none).incSat
        F.TWIN_STBY_REFUSED
      else s.heldShown.each (s.forceHolders.filter fun p => !s.standbyIgnores p) fun s p => s.queueForce (some p) none := by
    rw [State.release_all now]
    unfold State.releaseAll
    rw [s.heldShown_standingBy, standing, ignores]
    rfl
  rw [all, eq]
  have count : s.heldShown.rd F.TWIN_STBY_REFUSED = s.rd F.TWIN_STBY_REFUSED := s.heldShown_foot.rd _ 0 0 (by decide)
  split
  · refine ⟨rfl, (State.rd_incSat_same ..).trans ?_⟩
    exact congrArg (fun n => min (2 ^ 32 - 1) (n + 1)) count
  · exact ⟨rfl, count⟩

theorem releases_spec {i : Initiator} (serves : s.serves [.deck]) (may : i = .host ∨ i = .net) {q : Nat}
    (hq : q = s.rd F.DECK_FORCE_PT) :
    execReleaseA i s = .next (s.release (some q)).2 ∧ execReleaseAll i s = .next (s.release none).2 := by
  subst hq
  have allowed := (mayForce_iff i).mpr may
  constructor
  · refine (State.act_eq _ serves).trans (congrArg Host.Outcome.next ?_)
    rw [allowed]
    rfl
  · refine (State.act_eq _ serves).trans (congrArg Host.Outcome.next ?_)
    rw [allowed]
    rfl

/-- What is queued as a release, in the state that shows HELD (R86). -/
theorem State.heldShown_releases (s : State) (p : Option Nat) :
    (s.heldShown.queueForce p none).pts = { s.pts with
      forceCmds := s.pts.forceCmds ++ [{ pt := p, due := s.forceDue, val := none }] } ∧
    (s.heldShown.queueForce p none).rd F.DECK_FORCE_STAT_HELD = s.writeClosed.toNat := by
  obtain ⟨tw, eq⟩ := s.heldShown.queueForce_release p
  rw [s.heldShown_due] at eq
  rw [eq]
  exact ⟨rfl, s.heldShown_rd⟩

theorem forces_ignored {i : Initiator} (serves : s.serves [.deck]) (host : i ≠ .host) (net : i ≠ .net) :
    Completes (.force i) s (· = s) ∧ Completes (.releaseA i) s (· = s) ∧ Completes (.releaseAll i) s (· = s) := by
  have barred : mayForce i = false := by
    rw [← Bool.not_eq_true, mayForce_iff]
    exact not_or.mpr ⟨host, net⟩
  refine ⟨⟨_, (State.act_eq _ serves : execForce i s = _), ?_⟩, ⟨_, (State.act_eq _ serves : execReleaseA i s = _), ?_⟩,
    ⟨_, (State.act_eq _ serves : execReleaseAll i s = _), ?_⟩⟩
  all_goals
    rw [barred]
    rfl

/-! ### Block reads (R92 to R94) -/

theorem blkStart_spec (n : Fin 3) (serves : s.serves [.deck]) {why first count : Nat} (hf : first = s.rd F.DECK_BLK_FIRST n)
    (hc : count = s.rd F.DECK_BLK_SEL n) (hw : why = s.blkReason n first count) :
    (why = 0 → Completes (.deckBlkStart n) s fun t =>
      Sets { s with pts := { s.pts with blk := Sparse.put s.pts.blk n ⟨first, count, s.rd F.DECK_BLK_BUF n * 65536, none⟩ } } t
        [(F.DECK_BLK_STAT_REASON, n, 0, 0), (F.DECK_BLK_STAT_ABORT_LATE, n, 0, 0), (F.DECK_BLK_STAT_STATE, n, 0, 1)]) ∧
    (why ≠ 0 → why ≠ 4 → Completes (.deckBlkStart n) s fun t =>
      Sets s t [(F.DECK_BLK_STAT_REASON, n, 0, why), (F.DECK_BLK_STAT_STATE, n, 0, 4)]) ∧
    (why = 4 → Completes (.deckBlkStart n) s fun t => Sets s t [(F.DECK_BLK_STAT_REASON, n, 0, 4)]) := by
  have run : execDeckBlkStart n s = .next (s.blkStartOf n first count) := by
    subst hf hc
    exact State.act_eq _ serves
  have small : why < 16 := by
    rw [hw]
    unfold State.blkReason
    repeat' split
    all_goals decide
  have buffer : (s.wr F.DECK_BLK_STAT_REASON why n).rd F.DECK_BLK_BUF n = s.rd F.DECK_BLK_BUF n :=
    State.rd_wr_apart _ _ _ _ _ _ (by decide)
  unfold State.blkStartOf at run
  rw [← hw] at run
  dsimp only at run
  rw [buffer] at run
  refine ⟨fun none => ⟨_, run, ?_⟩, fun some other => ⟨_, run, ?_⟩, fun busy => ⟨_, run, ?_⟩⟩
  · subst none
    exact Sets.of_wrs rfl
  · rw [if_neg other, if_pos some]
    refine Sets.of_wrs rfl ?_
    rw [Fits, List.all_cons, List.all_cons, List.all_nil, Bool.and_true, Bool.and_eq_true]
    exact ⟨decide_eq_true small, rfl⟩
  · subst busy
    exact Sets.of_wrs rfl

theorem blkCancel_spec (n : Fin 3) (serves : s.serves [.deck]) :
    (s.rd F.DECK_BLK_STAT_STATE n = 1 → (Sparse.find? s.pts.blk n).bind (·.tick) = none →
      Completes (.deckBlkCancel n) s fun t =>
        Sets { s with pts := { s.pts with blk := Sparse.del s.pts.blk n } } t [(F.DECK_BLK_STAT_STATE, n, 0, 3)]) ∧
    (s.rd F.DECK_BLK_STAT_STATE n = 1 → (Sparse.find? s.pts.blk n).bind (·.tick) ≠ none →
      Completes (.deckBlkCancel n) s fun t => Sets s t [(F.DECK_BLK_STAT_ABORT_LATE, n, 0, 1)]) ∧
    (s.rd F.DECK_BLK_STAT_STATE n = 2 →
      Completes (.deckBlkCancel n) s fun t => Sets s t [(F.DECK_BLK_STAT_ABORT_LATE, n, 0, 1)]) ∧
    (s.rd F.DECK_BLK_STAT_STATE n ≠ 1 → s.rd F.DECK_BLK_STAT_STATE n ≠ 2 → Completes (.deckBlkCancel n) s fun t => t = s) := by
  have run : execDeckBlkCancel n s = .next (s.blkCancel n) := State.act_eq _ serves
  unfold State.blkCancel at run
  refine ⟨fun pending early => ⟨_, run, ?_⟩, fun pending late => ⟨_, run, ?_⟩, fun ready => ⟨_, run, ?_⟩,
    fun not1 not2 => ⟨_, run, ?_⟩⟩
  · rw [pending, early]
    exact Sets.of_wrs rfl
  · obtain ⟨f, tick⟩ := Option.ne_none_iff_exists'.mp late
    rw [pending, tick]
    exact Sets.of_wrs rfl
  · rw [ready]
    exact Sets.of_wrs rfl
  · split
    · exact absurd ‹_› not1
    · exact absurd ‹_› not1
    · exact absurd ‹_› not2
    · rfl

theorem blkRelease_spec (n : Fin 3) (serves : s.serves [.deck]) :
    (s.rd F.DECK_BLK_STAT_STATE n ≠ 1 → Completes (.deckBlkRelease n) s fun t => Sets s t [(F.DECK_BLK_STAT_STATE, n, 0, 0)]) ∧
    (s.rd F.DECK_BLK_STAT_STATE n = 1 → Completes (.deckBlkRelease n) s fun t => t = s) := by
  have run : execDeckBlkRelease n s = .next (s.blkRelease n) := State.act_eq _ serves
  unfold State.blkRelease State.blkIs at run
  refine ⟨fun other => ⟨_, run, ?_⟩, fun pending => ⟨_, run, ?_⟩⟩
  · rw [if_neg (by simpa [BlkState.code] using other)]
    exact Sets.of_wrs rfl
  · rw [if_pos (by simpa [BlkState.code] using pending)]

/-- The copy of a block stands in its buffer, under the frame of its tick (R92, R93). -/
theorem State.blkFinish_spec {n : Nat} {j : BlkJob} {f : Nat} (job : Sparse.find? s.pts.blk n = some j) (tick : j.tick = some f)
    (ram : deckRamBase ≤ j.base) : (s.blkFinish n).rd F.DECK_BLK_STAT_STATE n = 2 ∧
      (s.blkFinish n).rd F.DECK_BLK_FRAME_LO n = f % 2 ^ 32 ∧ (s.blkFinish n).rd F.DECK_BLK_FRAME_HI n = f / 2 ^ 32 % 2 ^ 16 ∧
      (s.blkFinish n).pts = { s.pts with blk := Sparse.del s.pts.blk n } ∧
      ∀ k < j.count * 16, (s.blkFinish n).dByte (j.base + k) = s.deckByte (j.first * 16 + k) := by
  generalize taken : ({ s with pts := { s.pts with blk := Sparse.del s.pts.blk n } } : State) = u
  have bytes : u.deckBytes (j.first * 16) (j.count * 16) = s.deckBytes (j.first * 16) (j.count * 16) := by
    subst taken
    rfl
  obtain ⟨d, e, tw, eq, -, byte⟩ := State.deckPut_ram (s := u) (bs := s.deckBytes (j.first * 16) (j.count * 16)) ram
  have done : s.blkFinish n = ((u.deckPut j.base (s.deckBytes (j.first * 16) (j.count * 16))).wr F.DECK_BLK_STAT_STATE
      BlkState.ready.code n).wr48 F.DECK_BLK_FRAME_LO F.DECK_BLK_FRAME_HI f n := by
    unfold State.blkFinish
    rw [job]
    dsimp only
    rw [tick]
    dsimp only
    rw [taken, bytes]
  have length : (s.deckBytes (j.first * 16) (j.count * 16)).length = j.count * 16 := by simp [State.deckBytes]
  rw [done]
  generalize u.deckPut j.base (s.deckBytes (j.first * 16) (j.count * 16)) = v at eq byte
  unfold State.wr48
  refine ⟨?_, ?_, ?_, ?_, fun k hk => ?_⟩
  · rw [State.rd_wr_apart _ _ _ _ _ _ (by decide), State.rd_wr_apart _ _ _ _ _ _ (by decide), State.rd_wr_same]
    rfl
  · rw [State.rd_wr_apart _ _ _ _ _ _ (by decide), State.rd_wr_same]
    exact Nat.mod_mod _ _
  · rw [State.rd_wr_same]
    exact Nat.mod_mod _ _
  · rw [eq, ← taken]
    rfl
  · refine (byte (j.base + k)).trans ?_
    rw [length, if_pos ⟨Nat.le_add_right _ _, Nat.add_lt_add_left hk _⟩, Nat.add_sub_cancel_left, State.deckBytes]
    simp [hk]

theorem blkCopyDone_spec (n : Fin 3) (serves : s.serves [.deck]) :
    (∀ j f, Sparse.find? s.pts.blk n = some j → j.tick = some f → s.running = false ∨ s.inWin .commit = false →
      deckRamBase ≤ j.base → Completes (.blkCopyDone n) s fun t => t.rd F.DECK_BLK_STAT_STATE n = 2 ∧
        t.rd F.DECK_BLK_FRAME_LO n = f % 2 ^ 32 ∧ t.rd F.DECK_BLK_FRAME_HI n = f / 2 ^ 32 % 2 ^ 16 ∧
        t.pts = { s.pts with blk := Sparse.del s.pts.blk n } ∧
        ∀ k < j.count * 16, t.dByte (j.base + k) = s.deckByte (j.first * 16 + k)) ∧
    ((Sparse.find? s.pts.blk n).bind (·.tick) = none ∨ s.running = true ∧ s.inWin .commit = true →
      Completes (.blkCopyDone n) s fun t => t = s) := by
  have run : execBlkCopyDone n s = .next (if s.running && s.inWin .commit then s else s.blkFinish n) := State.act_eq _ serves
  refine ⟨fun j f job tick closed ram => ⟨_, run, ?_⟩, fun idle => ⟨_, run, ?_⟩⟩
  · rw [if_neg (by rcases closed with h | h <;> simp [h])]
    exact State.blkFinish_spec job tick ram
  · split
    · rfl
    · next closed =>
      have none : (Sparse.find? s.pts.blk n).bind (·.tick) = none := idle.resolve_right (by simpa using closed)
      unfold State.blkFinish
      cases job : Sparse.find? s.pts.blk n with
      | none => rfl
      | some j =>
        rw [job] at none
        dsimp only
        rw [show j.tick = Option.none from none]

/-- Settles O49, command by command. -/
theorem deckCommands : Obligations.DeckCommands := by
  unfold Obligations.DeckCommands
  intro s i n serves p d q v due queued counted held first count why job late
  obtain ⟨refuses, stages⟩ := descWrite_stages serves (p := p) (d := d) rfl rfl
  obtain ⟨starts, refused, busy⟩ := blkStart_spec n serves (why := why) (first := first) (count := count) rfl rfl rfl
  obtain ⟨cancels, lates, readies, nothing⟩ := blkCancel_spec n serves
  obtain ⟨releases, pends⟩ := blkRelease_spec n serves
  obtain ⟨copies, waits⟩ := blkCopyDone_spec n serves
  refine ⟨descRead_shows serves, refuses, stages, ⟨_, (State.act_eq _ serves : execDescLockSet s = _), Sets.of_wrs rfl⟩,
    fun may => ?_, forces_ignored serves, starts, refused, busy, cancels, lates, readies, nothing, releases, pends, copies, waits⟩
  obtain ⟨taken, ignored, faulted⟩ := force_spec serves may (q := q) (v := v) rfl rfl
  obtain ⟨one, all⟩ := releases_spec serves may (q := q) rfl
  refine ⟨taken, ignored, faulted, fun now mine => ⟨_, one, ?_⟩, fun now other => ⟨_, one, ?_⟩, fun now acting => ⟨_, all, ?_⟩,
    fun now standing => ⟨_, all, releaseAll_standby now standing⟩, fun early => ⟨⟨_, one, ?_⟩, ⟨_, all, ?_⟩⟩⟩
  · rw [State.release_one q now, mine, if_neg Bool.false_ne_true]
    exact s.heldShown_releases (some q)
  · rw [State.release_one q now, other, if_pos rfl]
    exact s.heldShown_ignored
  · have acts := s.heldShown_standingBy.trans acting
    rw [State.release_all now]
    unfold State.releaseAll
    rw [acts, if_pos (by rfl)]
    exact s.heldShown_releases none
  · rw [State.release_early _ early]
    exact s.heldShown_sets
  · rw [State.release_early _ early]
    exact s.heldShown_sets

end Sys2Proof.Machine
end

section
/-! O50 fails, for one reason: a state of the model may hold in the span's length code a number wider than its field; the budget limit
that such a code gives lets the loader's worst case outgrow the field that shows it (R110, R112). -/

namespace Sys2Proof.Machine

set_option Elab.async false

/-- The words of an image whose one task passes a body of two instructions 2²⁰ times: header, code, task table. -/
def longWords : List Nat :=
  [0x51594B31, 0x74200002, 108, 20, 0, 0x00010001, 0, 0, 0, 0, 2098178, 2098178, 0, 0, 0, 4090432928,
    0x60000003, 0x60000002, 0, 0, 0xDC000000,
    7, 0, 2098178, 2098178, 0, 0]

/-- The loader examines that image for schedule 0, which runs banked, while the length code reads 5. -/
def longLoop : State :=
  { liveWith [(F.SPAN_STAT_CUR_SEL, 0, 0, 5)] with
    deck := (longWords.flatMap fun w => toBytes w 4).zipIdx.map fun b => (0x01100000 + b.2, b.1)
    pier := { State.reset.pier with
      loader := some (.admitting 0 0x01100000 true)
      sched := [(0, { active := some ⟨0, 0, 0, true, 0, 0, 0, 0, [], [], [], 0, 0, false⟩ })] } }

/-- The image is admitted with a figure that the 21 bits of LOAD_WCET do not hold. -/
theorem longLoop_admitted : ∃ i w, longLoop.examine 0 0x01100000 true false = .ok (i, some w) ∧ 2 ^ 21 ≤ w ∧ w < 2 ^ 32 := by
  have figure : (match longLoop.examine 0 0x01100000 true false with
      | .ok (_, some w) => decide (2 ^ 21 ≤ w ∧ w < 2 ^ 32)
      | _ => false) = true := by decide +kernel
  generalize longLoop.examine 0 0x01100000 true false = examined at figure
  match examined, figure with
  | .ok (i, some w), figure => exact ⟨i, w, rfl, of_decide_eq_true figure⟩

/-- Whether a LOAD installs its image does not depend on what admission shows of it (R116). -/
theorem State.installs_shown (s : State) (n w : Nat) (banked : Bool) :
    ((s.wr F.PIERCTL_LOAD_WCET w).raise 0x210 n []).installs n banked = s.installs n banked := by
  unfold State.installs State.sch State.schIs
  rw [State.raise_pier, State.raise_rd_apart _ _ _ (by decide), State.rd_wr_apart _ _ _ _ _ _ (by decide)]
  rfl

/-- An admitted image that waits for its swap shows its figure, cut to the field, and is announced (R110). -/
theorem execAdmissionDone_staged {s : State} {n src w : Nat} {banked : Bool} {i : Image} (serves : s.serves [.deck])
    (loader : s.pier.loader = some (.admitting n src banked)) (free : s.loadBarred n banked = false)
    (admitted : s.examine n src banked false = .ok (i, some w)) (waits : s.installs n banked = false) :
    execAdmissionDone s = .next { (s.wr F.PIERCTL_LOAD_WCET w).raise 0x210 n [] with
      pier := { ((s.wr F.PIERCTL_LOAD_WCET w).raise 0x210 n []).pier with loader := some (.copying n i false) } } := by
  refine (State.act_eq _ serves).trans (congrArg Host.Outcome.next ?_)
  rw [loader]
  dsimp only
  rw [free, admitted]
  dsimp only
  rw [State.installs_shown, waits]
  rfl

/-- Refutes O50: the figure that `longLoop` shows is cut to its 21 bits, while the statement shows it cut to 32. -/
theorem not_loadAndSwap : ¬ Obligations.LoadAndSwap := by
  unfold Obligations.LoadAndSwap
  intro h
  have serves : longLoop.serves [.deck] := by decide
  have free : longLoop.loadBarred 0 true = false := by decide
  have waits : longLoop.installs 0 true = false := by decide
  obtain ⟨i, w, admitted, wide, word⟩ := longLoop_admitted
  obtain ⟨-, -, -, -, -, -, ok, -⟩ := h longLoop 0 serves
  obtain ⟨t, run, v, ⟨u, sets, rfl⟩, eq⟩ := (ok _ _ i (some w) rfl free admitted).1 waits
  have shown : u.rd F.PIERCTL_LOAD_WCET = w := (sets.fields _ List.mem_cons_self).trans (Nat.mod_eq_of_lt word)
  obtain rfl : _ = t := Host.Outcome.next.inj ((execAdmissionDone_staged serves rfl free admitted waits).symm.trans run)
  have cut : w % 2 ^ 21 = w := by
    have left : ((longLoop.wr F.PIERCTL_LOAD_WCET w).raise 0x210 0 []).rd F.PIERCTL_LOAD_WCET = w % 2 ^ 21 :=
      (State.raise_rd_apart _ _ _ (by decide)).trans (State.rd_wr_same _ _ _ _ _)
    have right : (u.raise 0x210 0 []).rd F.PIERCTL_LOAD_WCET = w := (State.raise_rd_apart _ _ _ (by decide)).trans shown
    exact left.symm.trans ((congrArg (fun x : State => x.rd F.PIERCTL_LOAD_WCET) eq).trans right)
  have small := Nat.mod_lt w (show 0 < 2 ^ 21 by decide)
  rw [cut] at small
  exact absurd wide (Nat.not_le.mpr small)

end Sys2Proof.Machine
end

section
/-! O51: slices, overlays and migration (R104, R120, R123, R127, R128). -/

namespace Sys2Proof.Machine

set_option Elab.async false

variable {s : State}

/-! ### What losing a schedule leaves of the piers (R128, R129) -/

theorem State.setRole_pier (s : State) (r : Role) : (s.setRole r).pier = s.pier := by
  unfold State.setRole State.localTick
  dsimp only
  split
  · rfl
  · split <;> rfl

theorem State.syncLost_pier (s : State) (r : Unsync) : (s.syncLost r).pier = s.pier := by
  unfold State.syncLost
  split
  · rfl
  · exact (State.raise_pier _ _ _ _ _).trans rfl

theorem State.startAlign_pier (s : State) : s.startAlign.pier = s.pier := by
  unfold State.startAlign
  dsimp only
  split
  · exact (State.raise_pier _ _ _ _ _).trans rfl
  · rfl

theorem State.enterStandby_pier (s : State) : s.enterStandby.pier = s.pier := by
  have joined (r : Unsync) : (((s.setRole .standby).syncLost r).wrB F.TWIN_STAT_SYNC false).pier = s.pier :=
    (State.syncLost_pier _ _).trans (s.setRole_pier .standby)
  unfold State.enterStandby
  dsimp only
  generalize (if s.twinAlive then Unsync.aligning else Unsync.link) = r
  have kept := joined r
  generalize ((s.setRole .standby).syncLost r).wrB F.TWIN_STAT_SYNC false = u at kept
  split
  · exact u.startAlign_pier.trans kept
  · exact kept

theorem State.dropRole_pier (s : State) : s.dropRole.pier = s.pier := by
  unfold State.dropRole
  split
  · rfl
  · split
    · exact s.enterStandby_pier
    · exact s.setRole_pier _

theorem State.dropRole_foot (s : State) : Foot standbyFlds s s.dropRole := by
  unfold State.dropRole
  exact (Foot.refl s).ite (s.enterStandby_joined.foot.ite ((s.setRole_foot .halted).mono (by decide)))

theorem State.ownDrop_pier (s : State) : s.ownDrop.pier = s.pier := by
  unfold State.ownDrop
  split
  · rfl
  · have moved : (s.wrB F.TWIN_STAT_OWN_OUT false).drivingUpdate.pier = s.pier := by
      rcases (s.wrB F.TWIN_STAT_OWN_OUT false).drivingUpdate_cases with ⟨-, same⟩ | ⟨-, moved⟩
      · exact (congrArg State.pier same).trans rfl
      · obtain ⟨sol, mot, fan, meter, health, evr, outbox, eq⟩ := moved.rest
        exact (congrArg State.pier eq).trans rfl
    generalize (s.wrB F.TWIN_STAT_OWN_OUT false).drivingUpdate = u at moved
    exact (State.raise_pier _ _ _ _ _).trans moved

/-- A schedule that is lost is RETIRED, and what PIERCTL holds of it stays (R128, R129). -/
theorem State.loseSched_spec (s : State) (n code : Nat) (words : List Nat) : (s.loseSched n code words).pier = s.pier ∧
    (s.loseSched n code words).rd F.PIERCTL_PIER_STAT_STATE n = 5 := by
  have shown : ((s.schTo n .retired).raise code n words).rd F.PIERCTL_PIER_STAT_STATE n = 5 :=
    (State.raise_rd_apart _ _ _ (by decide)).trans (State.rd_wr_same _ _ _ _ _)
  have kept : ((s.schTo n .retired).raise code n words).pier = s.pier := (State.raise_pier _ _ _ _ _).trans rfl
  unfold State.loseSched
  dsimp only
  generalize (s.schTo n .retired).raise code n words = u at shown kept
  split
  · refine ⟨u.ownDrop.dropRole_pier.trans (u.ownDrop_pier.trans kept), ?_⟩
    rw [u.ownDrop.dropRole_foot.rd _ _ _ (by decide), u.ownDrop_low.1.rd _ _ _ (by decide), shown]
  · exact ⟨kept, shown⟩

/-! ### Slices and stopped tasks (R104, R123) -/

theorem bpSliceExpiry_spec (c : CoreId) (alive : s.alive = true) (on : s.domOn (coreDom c) = true) :
    (s.inBackground c = true → Completes (.bpSliceExpiry c) s fun t =>
      t = (s.setCore c { (s.core c).spend (s.core c).slice with pair := none }).bpLeave c) ∧
    (s.inBackground c = false → Completes (.bpSliceExpiry c) s fun t => t = s) := by
  have run : execBpSliceExpiry c s = _ := State.act_eq (ds := [coreDom c]) _ ⟨alive, by simp [on]⟩
  refine ⟨fun inside => ⟨_, run, ?_⟩, fun outside => ⟨_, run, ?_⟩⟩
  · dsimp only
    rw [if_pos inside]
  · dsimp only
    rw [outside, if_neg Bool.false_ne_true]

/-- Bits that are set one after the other all stand, with those that stood before (R123). -/
theorem State.each_restart (n : Nat) (l : List Nat) (s : State) {o : Nat} (small : o < 4)
    (on : o ∈ l ∨ s.mapBit F.PIERCTL_PIER_BP_CTL_RUNNING o n = true) :
    (s.each l fun s o => ({ s with pier := { s.pier with shadow := Sparse.del s.pier.shadow (n * 4 + o) } }).setMap
      F.PIERCTL_PIER_BP_CTL_RUNNING o n).mapBit F.PIERCTL_PIER_BP_CTL_RUNNING o n = true := by
  unfold State.each
  induction l generalizing s with
  | nil => exact on.resolve_left (by simp)
  | cons x l ih =>
    refine ih _ (Or.elim on (fun listed => ?_) fun stood => .inr ?_)
    · rcases List.mem_cons.mp listed with rfl | later
      · refine .inr ?_
        unfold State.mapBit State.setMap
        rw [State.rd_wr_same, Nat.testBit_mod_two_pow, Nat.testBit_or, Nat.testBit_two_pow_self, Bool.or_true, Bool.and_true]
        exact decide_eq_true small
      · exact .inl later
    · unfold State.mapBit State.setMap at *
      rw [State.rd_wr_same, Nat.testBit_mod_two_pow, Nat.testBit_or]
      rw [show State.rd ({ s with pier := { s.pier with shadow := Sparse.del s.pier.shadow (n * 4 + x) } } : State)
        F.PIERCTL_PIER_BP_CTL_RUNNING n = s.rd F.PIERCTL_PIER_BP_CTL_RUNNING n from rfl, stood, Bool.true_or, Bool.and_true]
      exact decide_eq_true small

theorem bpRestart_runs (n : Fin 24) (mask : BitVec 4) (serves : s.serves [.deck]) {i : Image} (active : (s.sch n).active = some i) :
    Completes (.bpRestart n mask) s fun t => ∀ e ∈ i.tasks, e.background = true → e.order < 4 →
      mask.toNat.testBit e.order = true → t.mapBit F.PIERCTL_PIER_BP_CTL_RUNNING e.order n = true := by
  refine ⟨_, (State.act_eq _ serves : execBpRestart n mask s = _), fun e he background small asked => ?_⟩
  unfold State.bpRestart
  dsimp only
  unfold State.mapBit
  rw [State.rd_congr (State.bpTurn_coresOnly _ _).rf]
  refine State.each_restart n.val _ s small ?_
  by_cases stood : s.mapBit F.PIERCTL_PIER_BP_CTL_RUNNING e.order n = true
  · exact .inr stood
  · have idle : (s.rd F.PIERCTL_PIER_BP_CTL_RUNNING n).testBit e.order = false := Bool.eq_false_iff.mpr stood
    refine .inl (List.mem_filter.mpr ⟨?_, by rw [asked, idle]; rfl⟩)
    rw [active]
    exact List.mem_map.mpr ⟨e, List.mem_filter.mpr ⟨he, by simp [background]⟩, rfl⟩

theorem bpRestart_none (n : Fin 24) (mask : BitVec 4) (serves : s.serves [.deck]) (none : (s.sch n).active = none) :
    Completes (.bpRestart n mask) s fun t => t = s.bpTurn (s.physOf n) := by
  refine ⟨_, (State.act_eq _ serves : execBpRestart n mask s = _), ?_⟩
  unfold State.bpRestart
  rw [none]
  rfl

/-! ### Overlays (R120) -/

theorem ovlStart_spec (n : Fin 24) (serves : s.serves [.deck]) {src off words : Nat} (hs : src = s.rd F.PIERCTL_PIER_OVL_SRC n * 4)
    (ho : off = s.rd F.PIERCTL_PIER_OVL_DST n * 4) (hw : words = s.rd F.PIERCTL_PIER_OVL_CTL_WORDS n) {fits : Prop}
    (hf : fits ↔ ∃ i : Image, (s.sch n).active = some i ∧ i.ovlOff ≤ off ∧ off + 4 * words ≤ i.ovlOff + i.ovlLen ∧
      inOverlay src (4 * words) = true) :
    (s.bit F.PIERCTL_PIER_OVL_CTL_BUSY n = false → fits → Completes (.ovlStart n) s fun t =>
      Sets { s with pier := { s.pier with overlay := s.pier.overlay ++ [(n.val, src, off, words)] } } t
        [(F.PIERCTL_PIER_OVL_CTL_BUSY, n, 0, 1)]) ∧
    (s.bit F.PIERCTL_PIER_OVL_CTL_BUSY n = false → ¬ fits →
      Completes (.ovlStart n) s fun t => Sets s t [(F.PIERCTL_PIER_OVL_CTL_REFUSED, n, 0, 1)]) ∧
    (s.bit F.PIERCTL_PIER_OVL_CTL_BUSY n = true → Completes (.ovlStart n) s fun t => t = s) := by
  subst hs ho hw
  have run : execOvlStart n s = _ := State.act_eq _ serves
  dsimp only at run
  generalize asked : (((s.sch n).active.map fun i => decide (i.ovlOff ≤ s.rd F.PIERCTL_PIER_OVL_DST n * 4) &&
      decide (s.rd F.PIERCTL_PIER_OVL_DST n * 4 + 4 * s.rd F.PIERCTL_PIER_OVL_CTL_WORDS n ≤ i.ovlOff + i.ovlLen)).getD false &&
    inOverlay (s.rd F.PIERCTL_PIER_OVL_SRC n * 4) (4 * s.rd F.PIERCTL_PIER_OVL_CTL_WORDS n)) = b at run
  have same : fits ↔ b = true := by
    rw [hf, ← asked]
    cases (s.sch n).active with
    | none => simp
    | some i => simp [and_assoc]
  refine ⟨fun idle inside => ⟨_, run, ?_⟩, fun idle outside => ⟨_, run, ?_⟩, fun busy => ⟨_, run, ?_⟩⟩
  · rw [idle, same.mp inside]
    exact Sets.of_wrs rfl
  · rw [idle, Bool.eq_false_iff.mpr (mt same.mpr outside)]
    exact Sets.of_wrs rfl
  · rw [busy]
    rfl

/-- What the copy of an overlay leaves, its bytes being at `base` (R120). -/
def State.overlaid (s : State) (n base a w : Nat) : State :=
  let s := s.setTcmBytes base (s.dBytes a (4 * w))
  ({ s with pier := { s.pier with overlay := s.pier.overlay.filter fun x => x.1 != n } }).wrB F.PIERCTL_PIER_OVL_CTL_BUSY false n

theorem State.overlaid_spec (s : State) (n base a w : Nat) :
    (s.overlaid n base a w).rd F.PIERCTL_PIER_OVL_CTL_BUSY n = 0 ∧
    (s.overlaid n base a w).pier.overlay = (s.pier.overlay.filter fun x => x.1 != n) ∧
    ∀ b, (s.overlaid n base a w).tcmByte b = if base ≤ b ∧ b < base + 4 * w then s.dByte (a + (b - base)) else s.tcmByte b := by
  unfold State.overlaid
  dsimp only
  obtain ⟨m, eq⟩ := s.setTcmBytes_rest base (s.dBytes a (4 * w))
  have bytes (b : Nat) := s.tcmByte_setTcmBytes base (s.dBytes a (4 * w)) b
  have length : (s.dBytes a (4 * w)).length = 4 * w := by simp [State.dBytes]
  have overlays : (s.setTcmBytes base (s.dBytes a (4 * w))).pier.overlay = s.pier.overlay := by rw [eq]
  generalize s.setTcmBytes base (s.dBytes a (4 * w)) = u at bytes overlays
  refine ⟨State.rd_wr_same _ _ _ _ _, congrArg (List.filter fun x : Nat × Nat × Nat × Nat => x.1 != n) overlays, fun b => ?_⟩
  refine .trans rfl ((bytes b).trans ?_)
  rw [length]
  split
  · next inside =>
    have low : b - base < 4 * w := by omega
    simp [State.dBytes, low]
  · rfl

theorem ovlCopyDone_spec (n : Fin 24) (serves : s.serves [.deck]) :
    (∀ a o w, (s.pier.overlay.find? fun x => x.1 == n.val) = some (n.val, a, o, w) →
      Completes (.ovlCopyDone n) s fun t => 
        t = s.overlaid n (s.physOf n * 0x40000 + (if s.bankB (s.physOf n) then 0x10000 else 0) + o) a w) ∧
    ((s.pier.overlay.find? fun x => x.1 == n.val) = none → Completes (.ovlCopyDone n) s fun t => t = s) := by
  have run : execOvlCopyDone n s = _ := State.act_eq _ serves
  refine ⟨fun a o w copy => ⟨_, run, ?_⟩, fun none => ⟨_, run, ?_⟩⟩
  · dsimp only
    rw [copy]
    rfl
  · dsimp only
    rw [none]

/-! ### Migration (R127, R128) -/

theorem State.loaderNext_spec (s : State) : Foot [F.PIERCTL_STAT_LOADER_BUSY] s s.loaderNext ∧
    s.loaderNext.pier.sched = s.pier.sched ∧ s.loaderNext.pier.spares = s.pier.spares := by
  unfold State.loaderNext
  dsimp only
  split
  · exact ⟨(Foot.refl s).same, rfl, rfl⟩
  · split
    · exact ⟨(Foot.refl s).same, rfl, rfl⟩
    · exact ⟨(Foot.refl s).same.wrB, rfl, rfl⟩

/-- Copies of images leave the schedules alone, and the registers. -/
theorem State.each_copyImage (c : Nat) (b : Bool) (l : List Image) (s : State) :
    (s.each l fun s i => s.copyImage c i b).pier.sched = s.pier.sched ∧ (s.each l fun s i => s.copyImage c i b).rf = s.rf := by
  unfold State.each
  induction l generalizing s with
  | nil => exact ⟨rfl, rfl⟩
  | cons i l ih => exact ih (s.copyImage c i b)

theorem State.loadSlots_spec (s : State) (n : Nat) : (s.loadSlots n).pier.sched = s.pier.sched ∧ (s.loadSlots n).rf = s.rf := by
  unfold State.loadSlots State.each
  generalize List.filter _ (List.range 4) = l
  have each (l : List Nat) (u : State) (f : State → Nat → BpShadow) (k : Nat → Nat) :
      (l.foldl (fun s o => { s with pier := { s.pier with shadow := Sparse.put s.pier.shadow (k o) (f s o) } }) u).pier.sched =
        u.pier.sched ∧
      (l.foldl (fun s o => { s with pier := { s.pier with shadow := Sparse.put s.pier.shadow (k o) (f s o) } }) u).rf = u.rf := by
    induction l generalizing u with
    | nil => exact ⟨rfl, rfl⟩
    | cons o l ih => exact ih _
  exact each l s _ _

/-- The images of a schedule that migrates are whole where the first check that fails is none. -/
theorem migrates_find (s : State) (l : List Image) : (l.find? fun i => s.imgCrc i.src i.len != i.crc) = none ↔
    ∀ i ∈ l, s.imgCrc i.src i.len = i.crc := by
  simp

/-- A schedule goes on on its spare (R127). -/
theorem migrationCopyDone_moves (n : Fin 24) (serves : s.serves [.deck]) {old new : Nat}
    (loader : s.pier.loader = some (.migrating n old new)) (real : new < 24)
    (whole : ∀ i ∈ (s.sch n).images, s.imgCrc i.src i.len = i.crc) : Completes .migrationCopyDone s fun t =>
      t.physOf n = new ∧ (t.sch n).resumeDue = true ∧ (t.sch n).active = (s.sch n).active ∧ (t.sch n).staged = (s.sch n).staged := by
  refine ⟨_, (State.act_eq _ serves : execMigrationCopyDone s = _), ?_⟩
  rw [loader]
  dsimp only
  rw [(migrates_find s _).mpr whole]
  dsimp only
  generalize s.bit F.PIERCTL_PIER_STAT_ACTIVE_BANK n = bankB
  generalize first : (s.each (s.sch n).active.toList fun s i => s.copyImage new i bankB) = u
  generalize second : (u.each (s.sch n).staged.toList fun s i => s.copyImage new i !bankB) = v
  have sched : v.pier.sched = s.pier.sched := by
    rw [← second, (State.each_copyImage _ _ _ _).1, ← first, (State.each_copyImage _ _ _ _).1]
  obtain ⟨slots, rf⟩ := (v.wr F.PIERCTL_PIER_STAT_PHYS new n).loadSlots_spec n
  have phys : ((v.wr F.PIERCTL_PIER_STAT_PHYS new n).loadSlots n).rd F.PIERCTL_PIER_STAT_PHYS n = new := by
    rw [State.rd_congr rf, State.rd_wr_same]
    exact Nat.mod_eq_of_lt (lt_trans real (by decide))
  generalize (v.wr F.PIERCTL_PIER_STAT_PHYS new n).loadSlots n = w at slots phys
  generalize resumed : ((w.setCore new {}).modSch n fun k => { k with resumeDue := true }).raise 0x213 n [n, old, new] = x
  obtain ⟨foot, same, -⟩ := x.loaderNext_spec
  have sch : x.loaderNext.sch n = { s.sch n with resumeDue := true } := by
    have held : x.pier.sched = Sparse.set w.pier.sched {} n.val { w.sch n with resumeDue := true } := by
      rw [← resumed, State.raise_pier]
      rfl
    have before : w.sch n = s.sch n := by
      unfold State.sch
      rw [slots]
      exact congrArg (fun m => Sparse.get m {} n.val) sched
    unfold State.sch at before ⊢
    rw [same, held, Sparse.get_set_same]
    unfold State.sch
    rw [before]
  refine ⟨?_, by rw [sch], by rw [sch], by rw [sch]⟩
  unfold State.physOf
  rw [foot.rd _ _ _ (by decide), ← resumed, State.raise_rd_apart _ _ _ (by decide)]
  exact phys

/-- A schedule whose image is no longer whole is lost (R128). -/
theorem migrationCopyDone_loses (n : Fin 24) (serves : s.serves [.deck]) {old new : Nat}
    (loader : s.pier.loader = some (.migrating n old new)) (broken : ∃ i ∈ (s.sch n).images, s.imgCrc i.src i.len ≠ i.crc) :
    Completes .migrationCopyDone s fun t =>
      t.schIs n .retired = true ∧ new ∈ t.pier.spares ∧ (t.sch n).active = (s.sch n).active := by
  refine ⟨_, (State.act_eq _ serves : execMigrationCopyDone s = _), ?_⟩
  rw [loader]
  dsimp only
  cases found : (s.sch n).images.find? fun i => s.imgCrc i.src i.len != i.crc with
  | none =>
    obtain ⟨i, hi, wrong⟩ := broken
    exact absurd ((migrates_find s _).mp found i hi) wrong
  | some i =>
    dsimp only
    have shown (u : State) : u.showSpares.pier = u.pier := by
      unfold State.showSpares State.each
      generalize List.range 24 = l
      dsimp only
      generalize counted : u.wr F.PIERCTL_STAT_SPARES_LEFT u.pier.spares.length = v
      have kept : v.pier = u.pier := counted ▸ rfl
      generalize u.pier = p at kept
      clear counted
      induction l generalizing v with
      | nil => exact kept
      | cons m l ih =>
        refine ih _ ?_
        dsimp only
        split
        · exact kept
        · exact kept
    generalize spared : State.showSpares { s with pier := { s.pier with spares := s.pier.spares ++ [new] } } = u
    have pier : u.pier = { s.pier with spares := s.pier.spares ++ [new] } := by rw [← spared, shown]
    obtain ⟨kept, state⟩ := u.loseSched_spec n 0x215 [n, i.src]
    generalize u.loseSched n 0x215 [n, i.src] = v at kept state
    obtain ⟨foot, sched, spares⟩ := v.loaderNext_spec
    refine ⟨?_, ?_, ?_⟩
    · unfold State.schIs
      rw [foot.rd _ _ _ (by decide), state]
      rfl
    · rw [spares, kept, pier]
      simp
    · unfold State.sch
      rw [sched, kept, pier]

/-- Settles O51, command by command. -/
theorem overlayAndMigration : Obligations.OverlayAndMigration := by
  unfold Obligations.OverlayAndMigration
  intro s n mask c serves src off words busy fits base copy
  obtain ⟨starts, refuses, waits⟩ := ovlStart_spec n serves (src := src) (off := off) (words := words) rfl rfl rfl
    (fits := fits) Iff.rfl
  obtain ⟨copies, nothing⟩ := ovlCopyDone_spec n serves
  refine ⟨fun on => (bpSliceExpiry_spec c serves.1 on).1, fun on => (bpSliceExpiry_spec c serves.1 on).2,
    fun i active => bpRestart_runs n mask serves active, bpRestart_none n mask serves, starts, refuses, waits,
    fun a o w found => ?_, nothing,
    fun old new loader real => ⟨migrationCopyDone_moves n serves loader real, migrationCopyDone_loses n serves loader⟩⟩
  obtain ⟨t, ran, rfl⟩ := copies a o w found
  exact ⟨_, ran, s.overlaid_spec n.val _ a w⟩

end Sys2Proof.Machine
end

section
/-! O52: host commands on memory and registers (R477, R478, R480, R18). -/

namespace Sys2Proof.Machine

set_option Elab.async false

variable {s : State}

/-! ### Frames on the host port and their answers (R479, R480) -/

theorem serves_net (serves : s.serves [.net, .deck]) : s.serves [.net] := ⟨serves.1, by
  have on := serves.2
  rw [List.all_cons, Bool.and_eq_true] at on
  rw [List.all_cons, on.1]
  rfl⟩

theorem serves_deck (serves : s.serves [.net, .deck]) : s.domOn .deck = true := by
  have on := serves.2
  rw [List.all_cons, List.all_cons, Bool.and_eq_true, Bool.and_eq_true] at on
  exact on.2.1

/-- A frame on the host port that does not wait is served (R477, R479). -/
theorem State.hostAct_served {c : HostCmd} (serves : s.serves [.net]) (free : s.hostWaits c = false) (first : s.port.waiting = []) :
    s.hostAct c = .next (s.hostServe c false) :=
  (State.act_eq _ serves).trans (congrArg Host.Outcome.next (State.hostFrame_eq_hostServe false free first))

/-- A frame that needs a region the point engine has for itself waits (R18). -/
theorem State.hostAct_waits {c : HostCmd} (serves : s.serves [.net, .deck]) (closed : s.hostWaits c = true) (first : s.port.waiting = []) :
    s.hostAct c = .next { s with port := { s.port with waiting := [.frame c false] } } := by
  refine (State.act_eq _ (serves_net serves)).trans (congrArg Host.Outcome.next ?_)
  unfold State.hostFrame
  rw [serves_deck serves, closed, Bool.and_self, Bool.true_or, if_pos rfl]
  unfold State.putOff
  rw [first]
  rfl

/-- A command other than STATUS ended with `r` in state `u`: its result is kept and shown (R480). -/
def State.answered (u : State) (r : HostRes) (held : Bool) (data : List Byte) : State :=
  let t := u.wr F.HOSTP_STAT_LAST r.code
  let t := if r = .badCmd ∨ r = .length then t.incSat F.HOSTP_STAT_BADCMD else t
  { t with port := { t.port with status := t.statusByte (u.bit F.HOSTP_STAT_PREV_FAIL) r held, data := data } }

theorem State.hostServe_eq {u : State} {c : HostCmd} {r : HostRes} {held : Bool} {data : List Byte} (hc : c ≠ .status)
    (run : s.hostRun whoHost c = ⟨r, held, data, u⟩) : s.hostServe c false = u.answered r held data := by
  unfold State.hostServe
  rw [run]
  simp only [hc]
  rfl

theorem State.answered_answers (u : State) (r : HostRes) (held : Bool) (data : List Byte) :
    Answered u (u.answered r held data) [] r held data := by
  have fits : r.code < 2 ^ F.HOSTP_STAT_LAST.width := by cases r <;> decide
  unfold Answered State.answered
  by_cases bad : r = .badCmd ∨ r = .length
  · dsimp only
    rw [if_pos bad, if_pos bad]
    unfold State.incSat State.addSat
    rw [State.rd_wr_apart (h := by decide)]
    refine Sets.of_wrs rfl ?_
    have small : min (2 ^ F.HOSTP_STAT_BADCMD.width - 1) (u.rd F.HOSTP_STAT_BADCMD + 1) < 2 ^ F.HOSTP_STAT_BADCMD.width :=
      lt_of_le_of_lt (Nat.min_le_left _ _) (by decide)
    rw [Fits, List.nil_append, List.all_cons, List.all_cons, List.all_nil, Bool.and_true, Bool.and_eq_true]
    exact ⟨decide_eq_true fits, decide_eq_true small⟩
  · dsimp only
    rw [if_neg bad, if_neg bad]
    exact Sets.of_wr rfl fits

/-- A command other than STATUS is answered with its result, which BAD_CMD and LENGTH count (R480). -/
theorem State.hostServe_answers {u : State} {c : HostCmd} {r : HostRes} {held : Bool} {data : List Byte} (hc : c ≠ .status)
    (run : s.hostRun whoHost c = ⟨r, held, data, u⟩) : Answered u (s.hostServe c false) [] r held data :=
  State.hostServe_eq hc run ▸ u.answered_answers r held data

/-- A frame that does not wait is answered with what its command found. -/
theorem hostAct_answers {i : Instr} {c : HostCmd} {u : State} {r : HostRes} {held : Bool} {data : List Byte}
    (act : exec i s = s.hostAct c) (serves : s.serves [.net]) (free : s.hostWaits c = false) (first : s.port.waiting = [])
    (hc : c ≠ .status) (run : s.hostRun whoHost c = ⟨r, held, data, u⟩) :
    Completes i s fun t => Answered u t [] r held data :=
  ⟨_, act.trans (State.hostAct_served serves free first), State.hostServe_answers hc run⟩

/-- What STATUS clears of the port while no LENGTH is owed is clear (R480). -/
theorem State.lengthOwed_cleared (s : State) {b : Bool} (same : s.port.lengthOwed = b) (v : Nat) :
    ({ s with port := { s.port with lengthOwed := b, status := v, data := [] } } : State) =
    { s with port := { s.port with status := v, data := [] } } := by
  subst same
  rfl

theorem status_answers (serves : s.serves [.net]) (first : s.port.waiting = []) (owed : s.port.lengthOwed = false) :
    Completes .status s fun t => Answered s t [(F.HOSTP_STAT_PREV_FAIL, 0, 0, 0)] .ok false [] := by
  refine ⟨_, (State.hostAct_served serves rfl first : execStatus s = _), ?_⟩
  have run : s.hostRun whoHost .status = ⟨.ok, false, [], s⟩ := rfl
  have sets : Sets { s with port := { s.port with
      lengthOwed := false
      status := (s.hostServe .status false).statusByte (s.bit F.HOSTP_STAT_PREV_FAIL) .ok false
      data := [] } } (s.hostServe .status false) [(F.HOSTP_STAT_LAST, 0, 0, 0), (F.HOSTP_STAT_PREV_FAIL, 0, 0, 0)] := by
    refine Sets.of_wrs ?_
    unfold State.hostServe
    rw [run]
    simp only [owed, and_false, if_false, Bool.false_eq_true, reduceCtorEq, or_self, if_true]
    rfl
  rw [s.lengthOwed_cleared owed] at sets
  refine sets.reorder fun r => ?_
  simp [HostRes.code, or_comm]

/-! ### Words of the deck and posted writes (R13, R478) -/

theorem not_inControl_of_deck {a : Nat} (low : a < deckEnd) : inControl a = false := by
  have : a < 0x02000000 := low
  simp [inControl]
  omega

theorem tcmAt_of_deck {a : Nat} (low : a < deckEnd) : tcmAt a = none := by
  have : a < 0x02000000 := low
  unfold tcmAt
  rw [if_neg]
  simp
  omega

theorem State.deckReadOk_lt {i : Initiator} {a len : Nat} (may : s.deckReadOk i a len = true) : a + len ≤ deckEnd := by
  unfold State.deckReadOk inDeck at may
  simp only [Bool.and_eq_true, decide_eq_true_eq] at may
  exact may.1.1

theorem State.deckRead_clean {i : Initiator} {a len : Nat} (may : s.deckReadOk i a len = true) (clean : s.eccClean a len = true) :
    s.deckRead i a len = (some (s.deckBytes a len), s) := by
  unfold State.deckRead
  rw [may, s.eccBad_of_clean clean, s.eccFound_of_clean clean]
  rfl

theorem State.busRead_deck {i : Initiator} {a : Nat} (aligned : a % 4 = 0) (may : s.deckReadOk i a 4 = true) (on : s.domOn .deck = true)
    (clean : s.eccClean a 4 = true) : s.busRead i a = (.ok, leBytes s.deckByte a 4, s) := by
  have low : a < deckEnd := by have := State.deckReadOk_lt may; omega
  have out : (a % 4 ≠ 0 || deckEnd ≤ a) = false := by simp [aligned, low]
  have bytes : leBytes (fun k => (s.deckBytes a 4).getD k 0) 0 4 = leBytes s.deckByte a 4 := rfl
  unfold State.busRead
  rw [not_inControl_of_deck low, tcmAt_of_deck low, out, on, State.deckRead_clean may clean]
  dsimp only
  rw [bytes]
  rfl

theorem State.busRead_barred {i : Initiator} {a : Nat} (aligned : a % 4 = 0) (low : a < deckEnd) (may : s.deckReadOk i a 4 = false)
    (on : s.domOn .deck = true) : s.busRead i a = (.refused, 0, s) := by
  have out : (a % 4 ≠ 0 || deckEnd ≤ a) = false := by simp [aligned, low]
  have none : s.deckRead i a 4 = (none, s) := by
    unfold State.deckRead
    rw [may]
    rfl
  unfold State.busRead
  rw [not_inControl_of_deck low, tcmAt_of_deck low, out, on, none]
  rfl

/-- Words that may be read and hold no ECC error are read one after another (R478). -/
theorem State.hostReads_deck {i : Initiator} (on : s.domOn .deck = true) {a n : Nat} (aligned : a % 4 = 0)
    (readable : ∀ k < n, s.deckReadOk i (a + 4 * k) 4 = true ∧ s.eccClean (a + 4 * k) 4 = true) :
    s.hostReads i a n = ⟨.ok, false, (List.range n).flatMap fun k => toBytes (leBytes s.deckByte (a + 4 * k) 4) 4, s⟩ := by
  induction n generalizing a with
  | zero => rfl
  | succ n ih =>
    obtain ⟨may, clean⟩ := readable 0 (Nat.succ_pos n)
    have inside : a + 4 ≤ deckEnd := State.deckReadOk_lt may
    have next : (a + 4) % 2 ^ 32 = a + 4 := Nat.mod_eq_of_lt (lt_of_le_of_lt inside (by decide))
    have rest := ih (a := a + 4) (by omega) fun k hk => by
      have := readable (k + 1) (Nat.succ_lt_succ hk)
      rwa [show a + 4 * (k + 1) = a + 4 + 4 * k by ring] at this
    unfold State.hostReads
    rw [State.busRead_deck aligned may on clean]
    dsimp only
    rw [next, rest, List.range_succ_eq_map, List.flatMap_cons, List.flatMap_map]
    simp only [Nat.succ_eq_add_one, Nat.mul_zero, Nat.add_zero, show ∀ k, a + 4 * (k + 1) = a + 4 + 4 * k by intro k; ring]
    rfl

theorem State.busWrite_posted {i : Initiator} {a : Nat} (d : Word) (bearing : onBearing a = true) (access : s.ctlAccess i a = .ok) :
    s.busWrite i a d.toNat = (.ok, { s with posted := s.posted ++ [⟨initCode i, a, d⟩] }) := by
  have ctl : inControl a = true := by
    simp only [onBearing, Bool.or_eq_true, Bool.and_eq_true, decide_eq_true_eq] at bearing
    simp only [inControl, Bool.and_eq_true, decide_eq_true_eq]
    omega
  unfold State.busWrite
  rw [if_pos ctl, State.ctlWrite_bearing _ access bearing, BitVec.ofNat_toNat, BitVec.setWidth_eq]

/-- Writes to the bearing die are posted one after another (R13). -/
theorem State.hostWrites_posted {i : Initiator} {a : Nat} {ds : List Word} (inside : a + 4 * ds.length ≤ 2 ^ 32)
    (writable : ∀ k < ds.length, onBearing (a + 4 * k) = true ∧ s.ctlAccess i (a + 4 * k) = .ok) :
    s.hostWrites i a ds = ⟨.ok, false, [], { s with posted := s.posted ++ (List.range ds.length).map fun k =>
      (⟨initCode i, a + 4 * k, ds.getD k 0⟩ : Posted) }⟩ := by
  induction ds generalizing a s with
  | nil =>
    simp [State.hostWrites, HostRes.ans]
  | cons d ds ih =>
    have here := writable 0 (Nat.succ_pos _)
    rw [Nat.mul_zero, Nat.add_zero] at here
    obtain ⟨bearing, access⟩ := here
    rw [List.length_cons] at inside writable
    unfold State.hostWrites
    rw [State.busWrite_posted d bearing access]
    dsimp only
    have low : a < 0x400D0000 := by
      simp only [onBearing, Bool.or_eq_true, Bool.and_eq_true, decide_eq_true_eq] at bearing
      omega
    rw [Nat.mod_eq_of_lt (by omega : a + 4 < 2 ^ 32)]
    have shift (k : Nat) : a + 4 * (k + 1) = a + 4 + 4 * k := by ring
    have later (u : State) (rf : u.rf = s.rf) : ∀ k < ds.length, onBearing (a + 4 + 4 * k) = true ∧ u.ctlAccess i (a + 4 + 4 * k) = .ok := by
      intro k hk
      obtain ⟨bearing, access⟩ := writable (k + 1) (Nat.succ_lt_succ hk)
      rw [shift] at bearing access
      rw [State.ctlAccess_congr rf]
      exact ⟨bearing, access⟩
    rw [ih (s := { s with posted := s.posted ++ [⟨initCode i, a, d⟩] }) (a := a + 4) (by omega) (later _ rfl)]
    simp [List.range_succ_eq_map, shift, Function.comp_def, Access.res, HostRes.first]

theorem State.windowWait_bearing {a : Nat} (n : Nat) (bearing : onBearing a = true) : s.windowWait a n = false :=
  s.windowWait_of_inControl n (by
    simp only [onBearing, Bool.or_eq_true, Bool.and_eq_true, decide_eq_true_eq] at bearing
    simp only [inControl, Bool.and_eq_true, decide_eq_true_eq]
    omega)

/-- A burst of no word, or of too many, waits for nothing (R480). -/
theorem burst_free {len : Nat} (bad : len = 0 ∨ 256 < len) (b : Bool) : (decide (1 ≤ len ∧ len ≤ 256) && b) = false := by
  have out : ¬ (1 ≤ len ∧ len ≤ 256) := by omega
  rw [decide_eq_false out, Bool.false_and]

theorem State.burstWaits_bearing {a n : Nat} (bearing : onBearing a = true) (inside : a + 4 * n ≤ 2 ^ 32) :
    s.burstWaits a n = false := by
  unfold State.burstWaits
  rw [State.windowWait_bearing _ bearing, decide_eq_false (Nat.not_lt.mpr inside)]
  rfl

/-! ### Commands on memory and registers (R477, R478) -/

section Commands

variable (serves : s.serves [.net, .deck]) (first : s.port.waiting = []) {addr : Word} {n : BitVec 16} {ds : List Word}
include serves first

theorem rd_answers (aligned : addr.toNat % 4 = 0) (may : s.deckReadOk .host addr.toNat 4 = true)
    (clean : s.eccClean addr.toNat 4 = true) (free : s.hostWaits (.rd addr) = false) :
    Completes (.rd addr) s fun t => Answered s t [] .ok false (toBytes (leBytes s.deckByte addr.toNat 4) 4) := by
  refine hostAct_answers rfl (serves_net serves) free first (by simp) ?_
  refine (State.hostReads_deck (serves_deck serves) (n := 1) aligned fun k hk => ?_).trans ?_
  · obtain rfl : k = 0 := Nat.lt_one_iff.mp hk
    exact ⟨may, clean⟩
  · rfl

theorem rd_refused (aligned : addr.toNat % 4 = 0) (low : addr.toNat < deckEnd) (barred : s.deckReadOk .host addr.toNat 4 = false)
    (free : s.hostWaits (.rd addr) = false) : Completes (.rd addr) s fun t => Answered s t [] .refused false [0, 0, 0, 0] := by
  refine hostAct_answers rfl (serves_net serves) free first (by simp) ?_
  have read := State.busRead_barred (i := .host) aligned low barred (serves_deck serves)
  simp only [State.hostRun, State.hostReads, whoHost, read]
  rfl

theorem wr_posted {data : Word} (bearing : onBearing addr.toNat = true) (access : s.ctlAccess .host addr.toNat = .ok) :
    Completes (.wr addr data) s fun t =>
      Answered { s with posted := s.posted ++ [(⟨initCode .host, addr.toNat, data⟩ : Posted)] } t [] .ok false [] := by
  refine hostAct_answers rfl (serves_net serves) (State.windowWait_bearing 4 bearing) first (by simp) ?_
  have written := State.busWrite_posted data bearing access
  simp only [State.hostRun, State.hostWrites, whoHost, written]
  rfl

theorem wr_ram {data : Word} (may : s.deckWriteOk .host addr.toNat 4 = true) (ram : deckRamBase ≤ addr.toNat)
    (aligned : addr.toNat % 4 = 0) (clean : ∀ q ∈ partQuarters addr.toNat 4, s.eccClean q 8 = true)
    (free : s.hostWaits (.wr addr data) = false) :
    Completes (.wr addr data) s fun t =>
      (t.port.status = t.statusByte (s.bit F.HOSTP_STAT_PREV_FAIL) .ok false ∧ t.port.data = []) ∧
      ∀ b, t.dByte b = if addr.toNat ≤ b ∧ b < addr.toNat + 4 then (toBytes data.toNat 4).getD (b - addr.toNat) 0 else s.dByte b := by
  obtain ⟨d, e, tw, eq, -, byte⟩ := State.deckPut_ram (s := s) (bs := toBytes data.toNat 4) ram
  rw [length_toBytes] at byte
  have low : addr.toNat < deckEnd := by
    unfold State.deckWriteOk inDeck at may
    simp only [Bool.and_eq_true, decide_eq_true_eq] at may
    omega
  have out : (addr.toNat % 4 ≠ 0 || deckEnd ≤ addr.toNat) = false := by simp [aligned, low]
  have stored : s.deckWrite .host addr.toNat (toBytes data.toNat 4) = (true, s.deckPut addr.toNat (toBytes data.toNat 4)) := by
    unfold State.deckWrite
    rw [length_toBytes, may, s.partRead_of_clean clean]
    rfl
  have written : s.busWrite .host addr.toNat data.toNat = (.ok, s.deckPut addr.toNat (toBytes data.toNat 4)) := by
    unfold State.busWrite
    rw [not_inControl_of_deck low, tcmAt_of_deck low, out, serves_deck serves, stored]
    rfl
  have run : s.hostRun whoHost (.wr addr data) = ⟨.ok, false, [], s.deckPut addr.toNat (toBytes data.toNat 4)⟩ := by
    simp only [State.hostRun, State.hostWrites, whoHost, written]
    rfl
  refine ⟨_, (State.hostAct_served (serves_net serves) free first : execWr addr data s = _), ?_⟩
  rw [State.hostServe_eq (by simp) run]
  refine ⟨⟨?_, rfl⟩, byte⟩
  rw [eq]
  rfl

theorem rdBurst_answers (aligned : addr.toNat % 4 = 0) (some : 1 ≤ n.toNat) (few : n.toNat ≤ 256)
    (readable : ∀ k < n.toNat, s.deckReadOk .host (addr.toNat + 4 * k) 4 = true ∧ s.eccClean (addr.toNat + 4 * k) 4 = true)
    (free : s.hostWaits (.rdBurst addr n) = false) : Completes (.rdBurst addr n) s fun t => Answered s t [] .ok false
      ((List.range n.toNat).flatMap fun k => toBytes (leBytes s.deckByte (addr.toNat + 4 * k) 4) 4) := by
  refine hostAct_answers rfl (serves_net serves) free first (by simp) ?_
  have inside : ¬ (n.toNat = 0 ∨ 256 < n.toNat) := by omega
  exact (if_neg inside).trans (State.hostReads_deck (serves_deck serves) aligned readable)

theorem rdBurst_length (bad : n.toNat = 0 ∨ 256 < n.toNat) :
    Completes (.rdBurst addr n) s fun t => Answered s t [] .length false [] := by
  have free : s.hostWaits (.rdBurst addr n) = false := burst_free bad _
  refine hostAct_answers rfl (serves_net serves) free first (by simp) ?_
  exact if_pos bad

theorem wrBurst_length (bad : ds.length = 0 ∨ 256 < ds.length) :
    Completes (.wrBurst addr ds) s fun t => Answered s t [] .length false [] := by
  have free : s.hostWaits (.wrBurst addr ds) = false := burst_free bad _
  refine hostAct_answers rfl (serves_net serves) free first (by simp) ?_
  exact if_pos bad

theorem wrBurst_posted (some : 1 ≤ ds.length) (few : ds.length ≤ 256) (inside : addr.toNat + 4 * ds.length ≤ 2 ^ 32)
    (writable : ∀ k < ds.length, onBearing (addr.toNat + 4 * k) = true ∧ s.ctlAccess .host (addr.toNat + 4 * k) = .ok) :
    Completes (.wrBurst addr ds) s fun t => Answered { s with posted := s.posted ++ (List.range ds.length).map fun k =>
      (⟨initCode .host, addr.toNat + 4 * k, ds.getD k 0⟩ : Posted) } t [] .ok false [] := by
  have bearing : onBearing addr.toNat = true := (writable 0 (by omega)).1
  have free : s.hostWaits (.wrBurst addr ds) = false :=
    (congrArg _ (State.burstWaits_bearing bearing inside)).trans (Bool.and_false _)
  refine hostAct_answers rfl (serves_net serves) free first (by simp) ?_
  have fits : ¬ (ds.length = 0 ∨ 256 < ds.length) := by omega
  exact (if_neg fits).trans (State.hostWrites_posted inside writable)

end Commands

/-- Settles O52, command by command. -/
theorem hostAccesses : Obligations.HostAccesses := by
  unfold Obligations.HostAccesses
  intro s addr data n ds serves first a word readable waits putOff
  have put {c : HostCmd} {i : Instr} (act : exec i s = s.hostAct c) (closed : waits c = true) : putOff i c :=
    ⟨_, act.trans (State.hostAct_waits serves closed first), rfl⟩
  refine ⟨status_answers (serves_net serves) first, put rfl, put rfl, put rfl, put rfl,
    fun aligned ok free => rd_answers serves first aligned ok.1 ok.2 free, rd_refused serves first, wr_posted serves first,
    fun may ram aligned clean free => wr_ram serves first may ram aligned clean free, rdBurst_answers serves first,
    rdBurst_length serves first, wrBurst_length serves first, fun some few _ inside => wrBurst_posted serves first some few inside⟩

end Sys2Proof.Machine
end

section
/-! O53 fails: an acknowledgement by the host whose own cursor is not enabled moves TAIL to the lowest ACK of the enabled cursors, and
with it the host's ACK, so ACK need not hold the value that was written (R436). -/

namespace Sys2Proof.Machine

set_option Elab.async false

/-- Five records stand in the recorder; the NET cursor alone is enabled, and has acknowledged all of them. -/
def netAcknowledged : State :=
  liveWith [(F.SYS_PLL_STAT_PLL_N_LOCK, 0, 0, 1), (F.EVR_HEAD, 0, 0, 5), (F.EVR_CUR_ACK, 1, 0, 5), (F.EVR_CUR_CFG_EN, 1, 0, 1)]

/-- EVR_ACK of record 1 by the host leaves its ACK at TAIL, which is 5. -/
theorem netAcknowledged_ack : (netAcknowledged.hostServe (.evrAck 1) false).rd F.EVR_CUR_ACK 0 = 5 := by decide +kernel

/-- Refutes O53: after EVR_ACK of 1 in `netAcknowledged` the statement has ACK of the host's cursor hold 1. -/
theorem not_hostCommands : ¬ Obligations.HostCommands := by
  unfold Obligations.HostCommands
  intro h
  have serves : netAcknowledged.serves [.net, .deck] := by decide +kernel
  obtain ⟨-, -, -, -, -, -, -, -, -, -, -, -, -, -, -, acknowledges, -⟩ := h netAcknowledged 0 1 0 0 0 serves rfl
  obtain ⟨t, run, -, holds⟩ := acknowledges (by decide +kernel)
  obtain rfl : netAcknowledged.hostServe (.evrAck 1) false = t :=
    Host.Outcome.next.inj ((State.hostAct_served (serves_net serves) rfl rfl).symm.trans run)
  rw [netAcknowledged_ack] at holds
  exact absurd holds (by decide)

end Sys2Proof.Machine
end

section
/-! O54: the SPJ-3100 window (R482 to R487). -/

namespace Sys2Proof.Machine

set_option Elab.async false

variable {s : State} {a d : Byte}

/-! ### Frames of the window (R482) -/

theorem State.w31Get_off (serves : s.serves [.net]) (off : ¬ s.bit F.HOSTP_W31_CTL = true) :
    s.w31Get a = .next { s with port := { s.port with w31Byte := 0 } } := by
  refine (State.act_eq _ serves).trans (congrArg Host.Outcome.next ?_)
  rw [if_neg off]

theorem State.w31Get_on {b : Nat} {t : State} (serves : s.serves [.net]) (on : s.bit F.HOSTP_W31_CTL = true)
    (read : s.w31Read a.toNat = (b, t)) : s.w31Get a = .next { t with port := { t.port with w31Byte := b } } := by
  refine (State.act_eq _ serves).trans (congrArg Host.Outcome.next ?_)
  rw [if_pos on, read]

theorem State.w31Act_off {f : State → State} (serves : s.serves [.net]) (off : ¬ s.bit F.HOSTP_W31_CTL = true) :
    s.w31Act f = .next s := by
  refine (State.act_eq _ serves).trans (congrArg Host.Outcome.next ?_)
  rw [if_neg off]

theorem State.w31Act_on {f : State → State} (serves : s.serves [.net]) (on : s.bit F.HOSTP_W31_CTL = true) :
    s.w31Act f = .next (f s) := by
  refine (State.act_eq _ serves).trans (congrArg Host.Outcome.next ?_)
  rw [if_pos on]

/-- While the window is disabled reads shift out 0 and writes do nothing (R482). -/
theorem window_off (serves : s.serves [.net]) (off : ¬ s.bit F.HOSTP_W31_CTL = true) (c : Instr) (read : exec c s = s.w31Get a) :
    Completes c s fun t => t = { s with port := { s.port with w31Byte := 0 } } :=
  ⟨_, read.trans (State.w31Get_off serves off), rfl⟩

theorem window_ignores (serves : s.serves [.net]) (off : ¬ s.bit F.HOSTP_W31_CTL = true) (c : Instr) (f : State → State)
    (write : exec c s = s.w31Act f) : Completes c s (· = s) :=
  ⟨_, write.trans (State.w31Act_off serves off), rfl⟩

/-! ### Reads (R483, R486) -/

theorem w31Read_shows {b : Nat} (serves : s.serves [.net]) (on : s.bit F.HOSTP_W31_CTL = true)
    (read : s.w31Read a.toNat = (b, s)) (c : Instr) (get : exec c s = s.w31Get a) :
    Completes c s fun t => t = { s with port := { s.port with w31Byte := b } } :=
  ⟨_, get.trans (State.w31Get_on serves on read), rfl⟩

theorem State.w31Read_byte (low : 2 ≤ a.toNat) (high : a.toNat ≤ 5) : s.w31Read a.toNat = (s.w31Value (a.toNat - 2), s) := by
  generalize a.toNat = x at low high
  interval_cases x <;> rfl

theorem State.w31Read_wide {x : Nat} (low : x = 6 ∨ x = 8) : s.w31Read x = (s.w31Value ((x + 2) / 2) % 256,
    { s with port := { s.port with latch := some ((x + 2) / 2, s.w31Value ((x + 2) / 2) / 256) } }) := by
  rcases low with rfl | rfl <;> rfl

theorem State.w31Read_latched {x b : Nat} (high : x = 7 ∨ x = 9) (latch : s.port.latch = some ((x + 1) / 2, b)) :
    s.w31Read x = (b, s) := by
  rcases high with rfl | rfl
  all_goals
    unfold State.w31Read w31Wide
    dsimp only
    rw [latch]
    rfl

/-! ### Writes (R484, R486, R487) -/

/-- A commit that clamps nothing stands last among those of its span (R487). -/
theorem State.w31Commit_spec {f x : Nat} (bound : s.w31Bound s.port.page f = true) (whole : (w31Out f x).2 = false) :
    (s.w31Commit f x).rf = s.rf ∧ (s.w31Commit f x).port = { s.port with
      commits := (s.port.commits.filter fun y => y.field != s.port.page * 8 + f) ++
        [(⟨s.port.page * 8 + f, s.rd F.HOSTP_W31_Z_F_POINT s.port.page f, (w31Out f x).1⟩ : W31Commit)] } := by
  unfold State.w31Commit
  dsimp only
  rw [bound, whole]
  exact ⟨rfl, rfl⟩

theorem w31_commits {u : State} {f x : Nat} {write : State → State} (serves : s.serves [.net]) (on : s.bit F.HOSTP_W31_CTL = true)
    (c : Instr) (act : exec c s = s.w31Act write) (takes : write s = u.w31Commit f x)
    (same : u = { s with port := { s.port with held := none } }) (whole : (w31Out f x).2 = false)
    (bound : s.w31Bound s.port.page f = true) : Completes c s fun t =>
      t.rf = s.rf ∧ t.port.held = none ∧ t.port.commits = (s.port.commits.filter fun y => y.field != s.port.page * 8 + f) ++
        [(⟨s.port.page * 8 + f, s.rd F.HOSTP_W31_Z_F_POINT s.port.page f, (w31Out f x).1⟩ : W31Commit)] := by
  subst same
  obtain ⟨rf, port⟩ := State.w31Commit_spec (s := { s with port := { s.port with held := none } }) bound whole
  refine ⟨_, act.trans (State.w31Act_on serves on), ?_⟩
  rw [takes]
  exact ⟨rf, by rw [port], by rw [port]; rfl⟩

theorem State.held_none (none : s.port.held = none) : s = { s with port := { s.port with held := Option.none } } := by
  rw [← none]

/-- The low byte of OVR is held for its high byte (R486). -/
theorem State.w31Write_low (none : s.port.held = none) (x : Nat) :
    s.w31Write 6 x = { s with port := { s.port with held := some (4, x) } } := by
  unfold State.w31Write
  rw [none]
  rfl

theorem State.w31Write_high {b : Nat} (held : s.port.held = some (4, b)) (x : Nat) :
    s.w31Write 7 x = { s with port := { s.port with held := none } }.w31Commit 4 (b + 256 * x) := by
  unfold State.w31Write
  rw [held]
  rfl

theorem State.w31Write_orphan (none : s.port.held = none) (x : Nat) : s.w31Write 7 x = s.incSat F.HOSTP_W31_STAT_ORPHAN := by
  unfold State.w31Write
  rw [none]
  rfl

/-- A write of PAGE abandons a held byte (R486). -/
theorem State.w31Page_none (none : s.port.held = none) (x : Nat) :
    s.w31Page x = { s with port := { s.port with page := x % 8, latch := Option.none } } := by
  unfold State.w31Page State.w31Abandon
  rw [none]
  rfl

theorem State.w31Page_held {y : Nat × Nat} (held : s.port.held = some y) (x : Nat) :
    Sets { s with port := { s.port with held := none, page := x % 8, latch := none } } (s.w31Page x)
      [(F.HOSTP_W31_STAT_ABANDONED, 0, 0, min 255 (s.rd F.HOSTP_W31_STAT_ABANDONED + 1))] := by
  have counted := Sets.incSat { s with port := { s.port with held := none, page := x % 8, latch := none } } F.HOSTP_W31_STAT_ABANDONED 0 0
  refine cast (congrArg (fun t => Sets _ t _) ?_) counted
  unfold State.w31Page State.w31Abandon
  rw [held]
  rfl

/-! ### The snapshot (R485) -/

theorem State.w31Show_done (s : State) : s.w31Show.port.snapNext = none := by
  unfold State.w31Show
  split
  · assumption
  · rfl

theorem w31SnapshotDone_shows (serves : s.serves [.net]) (closed : s.running = false ∨ s.inWin .commit = false) :
    Completes .w31SnapshotDone s fun t => t = s.w31Show ∧ t.port.snapNext = none := by
  refine ⟨_, (State.act_eq _ serves : execW31SnapshotDone s = _), ?_⟩
  rw [if_neg (by rcases closed with h | h <;> simp [h])]
  exact ⟨rfl, s.w31Show_done⟩

/-- Settles O54, command by command. -/
theorem window : Obligations.Window := by
  unfold Obligations.Window
  intro s a d serves z on reads commits hold orphan
  have shows {b : Nat} {c : Instr} (enabled : on) (get : exec c s = s.w31Get a) (read : s.w31Read a.toNat = (b, s)) : reads c b :=
    w31Read_shows serves enabled read c get
  refine ⟨fun off => ⟨window_off serves off _ rfl, window_off serves off _ rfl, window_off serves off _ rfl,
      window_ignores serves off _ (·.w31Write a.toNat d.toNat) rfl, window_ignores serves off _ (·.w31Write a.toNat d.toNat) rfl,
      window_ignores serves off _ (·.w31Write a.toNat d.toNat) rfl, window_ignores serves off _ (·.w31Page d.toNat) rfl⟩,
    fun enabled low high => shows enabled rfl (State.w31Read_byte low high),
    fun enabled offset => shows enabled rfl (by rw [offset]; rfl), fun enabled offset => shows enabled rfl (by rw [offset]; rfl),
    fun enabled wide => ?_, fun b enabled wide latch => shows enabled rfl (State.w31Read_latched wide latch),
    fun enabled offset none bound => ?_, fun enabled offset none small bound => ?_, fun enabled offset none => ?_,
    fun b enabled offset held bound => ?_, fun enabled offset none => ?_, fun enabled none => ?_, fun x enabled held => ?_,
    w31SnapshotDone_shows serves⟩
  · exact ⟨_, State.w31Get_on serves enabled (State.w31Read_wide wide), _, rfl, rfl⟩
  · exact w31_commits (write := (·.w31Write a.toNat d.toNat)) serves enabled _ rfl (congrArg (s.w31Write · d.toNat) offset) (State.held_none none) rfl bound
  · refine w31_commits (write := (·.w31Write a.toNat d.toNat)) serves enabled _ rfl (congrArg (s.w31Write · d.toNat) offset) (State.held_none none) ?_ bound
    exact decide_eq_false (Nat.not_lt.mpr small)
  · refine ⟨_, State.w31Act_on (f := (·.w31Write a.toNat d.toNat)) serves enabled, ?_⟩
    dsimp only
    rw [offset]
    exact State.w31Write_low none _
  · exact w31_commits (write := (·.w31Write a.toNat d.toNat)) serves enabled _ rfl ((congrArg (s.w31Write · d.toNat) offset).trans (State.w31Write_high held _)) rfl rfl bound
  · refine ⟨_, State.w31Act_on (f := (·.w31Write a.toNat d.toNat)) serves enabled, ?_⟩
    dsimp only
    rw [offset, State.w31Write_orphan none]
    exact Sets.incSat s F.HOSTP_W31_STAT_ORPHAN 0 0
  · exact ⟨_, State.w31Act_on (f := (·.w31Page d.toNat)) serves enabled, State.w31Page_none none _⟩
  · exact ⟨_, State.w31Act_on (f := (·.w31Page d.toNat)) serves enabled, State.w31Page_held held _⟩

end Sys2Proof.Machine
end

section
/-! O55 fails, for one reason: the size of a ring is read from a register that may hold one of its reserved codes, and a ring of such a
size has more descriptors than the index of the next one can count (R489). -/

namespace Sys2Proof.Machine

set_option Elab.async false

/-- MAC 0 sends the frame of descriptor 4,095 of a transmit ring whose size code is the reserved 13. -/
def lastDescriptor : State :=
  { liveWith [(F.SYS_PLL_STAT_PLL_N_LOCK, 0, 0, 1), (F.NET_MAC_TXRING_SIZE, 0, 0, 13), (F.NET_MAC_TXIDX_DEV, 0, 0, 4095)] with
    port := { State.reset.port with mac := [(0, { sending := true })] } }

/-- The end of that frame brings DEV back to 0, since it has 12 bits. -/
theorem lastDescriptor_wraps : (lastDescriptor.netSent (0 : Fin 2)).rd F.NET_MAC_TXIDX_DEV (0 : Fin 2) = 0 := by decide +kernel

/-- Refutes O55: after NET_TX_DONE in `lastDescriptor` the statement has DEV at 4,096. -/
theorem not_macFrames : ¬ Obligations.MacFrames := by
  unfold Obligations.MacFrames
  intro h
  have serves : lastDescriptor.serves [.net, .deck] := by decide +kernel
  obtain ⟨-, -, -, -, -, ends, -⟩ := h lastDescriptor 0 [] serves
  obtain ⟨t, run, advanced, -⟩ := ends (by decide +kernel)
  obtain rfl : lastDescriptor.netSent (0 : Fin 2) = t :=
    Host.Outcome.next.inj ((State.act_eq _ (serves_net serves) : execNetTxDone 0 lastDescriptor = _).symm.trans run)
  exact absurd (lastDescriptor_wraps.symm.trans advanced) (by decide +kernel)

end Sys2Proof.Machine
end

section
/-! O56: MDIO, the link and service access (R488, R492). -/

namespace Sys2Proof.Machine

set_option Elab.async false

variable {s : State}

/-! ### What a MAC keeps (R488) -/

@[simp] theorem State.mac_macMod (s : State) (m : Nat) (f : MacSt → MacSt) : (s.macMod m f).mac m = f (s.mac m) :=
  Sparse.get_set_same _ _ _ _

theorem State.macPaused_macMod {m : Nat} {f : MacSt → MacSt} (same : (f (s.mac m)).pausedTo = (s.mac m).pausedTo) :
    (s.macMod m f).macPaused m = s.macPaused m := by
  unfold State.macPaused
  rw [State.mac_macMod, same]
  rfl

/-- A step of a MAC changes what that MAC keeps alone. -/
theorem State.macStep_rest (s : State) (m : Nat) : ∃ f, s.macStep m = s.macMod m f := by
  unfold State.macStep
  split
  · exact ⟨_, rfl⟩
  · exact ⟨_, rfl⟩

theorem State.macStep_rf (s : State) (m : Nat) : (s.macStep m).rf = s.rf := by
  obtain ⟨f, eq⟩ := s.macStep_rest m
  rw [eq]
  rfl

theorem State.macStep_paused {m : Nat} (paused : s.macPaused m = true) :
    (s.macStep m).mac m = { s.mac m with sent := [] } ∧ (s.macStep m).macPaused m = true := by
  unfold State.macStep
  rw [if_pos paused]
  exact ⟨State.mac_macMod .., (State.macPaused_macMod rfl).trans paused⟩

theorem State.macStep_free {m : Nat} (free : s.macPaused m = false) :
    (s.macStep m).mac m = { s.mac m with sent := (s.mac m).held, held := [] } ∧ (s.macStep m).macPaused m = false := by
  unfold State.macStep
  rw [if_neg (by rw [free]; decide)]
  exact ⟨State.mac_macMod .., (State.macPaused_macMod rfl).trans free⟩

/-- What a MAC sends of its own waits while a pause frame holds it (R488). -/
theorem State.macSend_spec (s : State) (m : Nat) (f : List Byte) : (s.macSend m f).rf = s.rf ∧ (s.macSend m f).deck = s.deck ∧
    (s.macSend m f).port.peers = s.port.peers ∧ (s.macSend m f).mac m = if s.macPaused m
      then { s.mac m with held := (s.mac m).held ++ [f] } else { s.mac m with sent := (s.mac m).sent ++ [f] } := by
  unfold State.macSend
  split
  · exact ⟨rfl, rfl, rfl, State.mac_macMod ..⟩
  · exact ⟨rfl, rfl, rfl, State.mac_macMod ..⟩

/-! ### Datagrams to a peer (R492) -/

theorem State.svcView_rf {s t : State} (rf : t.rf = s.rf) (m : Nat) : (t.svcView m).rf = (s.svcView m).rf := by
  have boot : t.bootNet = s.bootNet := by
    unfold State.bootNet
    rw [State.rd_congr rf, State.rd_congr rf]
  unfold State.svcView
  rw [boot]
  split
  · exact congrArg (List.filter _) rf
  · exact rf

theorem State.svcOn_congr {s t : State} (rf : t.rf = s.rf) (m : Nat) : t.svcOn m = s.svcOn m := by
  unfold State.svcOn State.bootNet
  rw [State.bit_congr rf, State.bit_congr rf, State.rd_congr rf, State.rd_congr rf]

theorem State.macAddr_congr {s t : State} (rf : t.rf = s.rf) (m : Nat) : t.macAddr m = s.macAddr m := by
  unfold State.macAddr
  rw [State.rd_congr rf, State.rd_congr rf]

theorem State.svcUdp_congr {s t : State} (rf : t.rf = s.rf) (m : Nat) (f : List Byte) : t.svcUdp m f = s.svcUdp m f := by
  have view := State.svcView_rf rf m
  have address : (t.svcView m).linkLocal m = (s.svcView m).linkLocal m := by
    unfold State.linkLocal
    rw [State.macAddr_congr view]
  unfold State.svcUdp
  dsimp only
  rw [State.svcOn_congr view, State.rd_congr view, State.rd_congr view, State.ip4, State.rd_congr view, address]
  rfl

theorem State.peerAddr_congr {s t : State} (rf : t.rf = s.rf) (m : Nat) : t.peerAddr m = s.peerAddr m := by
  unfold State.peerAddr
  simp only [State.rd_congr rf]

/-- A datagram goes out as one frame from the MAC's own address to the peer's. -/
theorem State.svcSend_frame (s : State) (m : Nat) (p : SvcPeer) (payload : List Byte) : ∃ g,
    s.svcSend m p payload = ({ s with freeCtr := s.freeCtr + 2 } : State).macSend m (p.mac ++ (s.svcView m).macAddr m ++ g) := by
  have addr := State.macAddr_congr (State.svcView_rf (s := s) (t := { s with freeCtr := s.freeCtr + 2 }) rfl m) m
  rw [← addr]
  unfold State.svcSend State.svcFrame
  dsimp only
  rw [List.append_assoc (_ ++ _)]
  exact ⟨_, rfl⟩

/-- A peer that is served stands last (R492). -/
theorem State.svcServe_last (s : State) (p : SvcPeer) : (s.svcServe p).port.peers.getLast? = some p := by
  simp [State.svcServe]

/-- An answer to a peer, on a MAC that nothing holds. -/
theorem State.svcServe_send (s : State) (m : Nat) (p : SvcPeer) (r : List Byte) (free : s.macPaused m = false) :
    ((s.svcServe p).svcSend m p r).rf = s.rf ∧ ((s.svcServe p).svcSend m p r).deck = s.deck ∧
      ((s.svcServe p).svcSend m p r).port.peers.getLast? = some p ∧
      ∃ g, (((s.svcServe p).svcSend m p r).mac m).sent = (s.mac m).sent ++ [g] := by
  obtain ⟨g, eq⟩ := (s.svcServe p).svcSend_frame m p r
  have last := s.svcServe_last p
  have free' : ({ s.svcServe p with freeCtr := (s.svcServe p).freeCtr + 2 } : State).macPaused m = false := free
  obtain ⟨rf, deck, peers, mac⟩ := ({ s.svcServe p with freeCtr := (s.svcServe p).freeCtr + 2 } : State).macSend_spec m
    (p.mac ++ ((s.svcServe p).svcView m).macAddr m ++ g)
  rw [free', if_neg Bool.false_ne_true] at mac
  rw [eq]
  exact ⟨rf, deck, (congrArg List.getLast? peers).trans last, _, congrArg MacSt.sent mac⟩

/-! ### MDIO and the link (R488) -/

theorem mdio_spec (m : Fin 2) (data : BitVec 16) (serves : s.serves [.net]) :
    (s.bit F.NET_MAC_MDIO_BUSY m = true → s.rd F.NET_MAC_MDIO_OP m = 2 → Completes (.mdioDone m data) s fun t =>
      Sets s t [(F.NET_MAC_MDIO_BUSY, m, 0, 0), (F.NET_MAC_MDIO_DATA, m, 0, data.toNat)]) ∧
    (s.bit F.NET_MAC_MDIO_BUSY m = true → s.rd F.NET_MAC_MDIO_OP m ≠ 2 → Completes (.mdioDone m data) s fun t =>
      Sets s t [(F.NET_MAC_MDIO_BUSY, m, 0, 0)]) ∧
    (s.bit F.NET_MAC_MDIO_BUSY m = false → Completes (.mdioDone m data) s (· = s)) := by
  have run : execMdioDone m data s = .next (s.mdioDone m data.toNat) := State.act_eq _ serves
  have op : (s.wrB F.NET_MAC_MDIO_BUSY false m).rd F.NET_MAC_MDIO_OP m = s.rd F.NET_MAC_MDIO_OP m :=
    State.rd_wr_apart _ _ _ _ _ _ (by decide)
  unfold State.mdioDone at run
  refine ⟨fun busy read => ⟨_, run, ?_⟩, fun busy other => ⟨_, run, ?_⟩, fun idle => ⟨_, run, ?_⟩⟩
  · dsimp only
    rw [busy, op, if_pos read]
    refine Sets.of_wrs rfl ?_
    rw [Fits, List.all_cons, List.all_cons, List.all_nil, Bool.and_true, Bool.and_eq_true]
    exact ⟨rfl, decide_eq_true data.isLt⟩
  · dsimp only
    rw [busy, op, if_neg other]
    exact Sets.of_wrs rfl
  · rw [idle]
    rfl

theorem ethLinkChange_shows (m : Fin 2) (up : Bool) (speed : BitVec 2) (serves : s.serves [.net]) :
    Completes (.ethLinkChange m up speed) s fun t =>
      Sets s t [(F.NET_MAC_CTL_LINK, m, 0, up.toNat), (F.NET_MAC_CTL_SPEED, m, 0, speed.toNat)] := by
  refine ⟨_, (State.act_eq _ serves : execEthLinkChange m up speed s = _), Sets.of_wrs rfl ?_⟩
  rw [Fits, List.all_cons, List.all_cons, List.all_nil, Bool.and_true, Bool.and_eq_true]
  exact ⟨decide_eq_true (Bool.toNat_lt up), decide_eq_true speed.isLt⟩

/-! ### Service requests (R492) -/

section Requests

variable {m : Fin 2} {f : List Byte} {u : Udp} (serves : s.serves [.net])
include serves

theorem svcRequest_none (none : s.svcUdp m f = none) : Completes (.svcRequest m f) s (· = s.macStep m) := by
  refine ⟨_, (State.act_eq _ serves : execSvcRequest m f s = _), ?_⟩
  dsimp only
  rw [State.svcUdp_congr (s.macStep_rf m), none]

variable {d : List Byte} (request : s.svcUdp m f = some u) (payload : d = (f.drop (u.start + 8)).take (u.len - 8))
  (long : 4 ≤ d.length) (magic : leAt d 0 2 = 0x5356)
include request payload long magic

theorem execSvcRequest_eq : execSvcRequest m f s = .next
    (if (s.svcView m).bit F.NET_MAC_CTL_PEER_EN m && u.src != s.peerAddr m then (s.macStep m).incSat F.NET_MAC_CNT_SVC_REFUSED m
      else (s.macStep m).svcHandle m ⟨u.src, wordAt f u.start, (f.drop 6).take 6, 0, [], 0, m⟩ d) := by
  subst payload
  have rf := s.macStep_rf m
  refine (State.act_eq _ serves).trans (congrArg Host.Outcome.next ?_)
  dsimp only
  rw [State.svcUdp_congr rf, request]
  dsimp only
  rw [if_neg (by omega), State.bit_congr (State.svcView_rf rf m), State.peerAddr_congr rf]

theorem svcRequest_refused (peers : (s.svcView m).bit F.NET_MAC_CTL_PEER_EN m = true) (other : u.src ≠ s.peerAddr m) :
    Completes (.svcRequest m f) s fun t => Sets (s.macStep m) t
      [(F.NET_MAC_CNT_SVC_REFUSED, m, 0, min 255 (s.rd F.NET_MAC_CNT_SVC_REFUSED m + 1))] := by
  refine ⟨_, execSvcRequest_eq serves request payload long magic, ?_⟩
  dsimp only
  rw [peers, bne_iff_ne.mpr other, Bool.and_self, if_pos rfl, ← State.rd_congr (s.macStep_rf m)]
  exact Sets.incSat _ _ _ _

/-- A request that does not wait is answered. -/
theorem svcRequest_answered (open_ : (s.svcView m).bit F.NET_MAC_CTL_PEER_EN m = false) (first : s.port.waiting = [])
    (free : ((s.macStep m).svcOld ⟨u.src, wordAt f u.start, (f.drop 6).take 6, 0, [], 0, m⟩ d).isNone = false ∨
      (svcCmd (d.drop 4)).any (s.macStep m).hostWaits = false) :
    exec (.svcRequest m f) s = .next ((s.macStep m).svcAnswer m ⟨u.src, wordAt f u.start, (f.drop 6).take 6, 0, [], 0, m⟩ d) := by
  refine (execSvcRequest_eq serves request payload long magic).trans (congrArg Host.Outcome.next ?_)
  have waiting : (s.macStep m).port.waiting = [] := by
    obtain ⟨g, eq⟩ := s.macStep_rest m
    rw [eq]
    exact first
  rw [open_, Bool.false_and, if_neg Bool.false_ne_true]
  unfold State.svcHandle
  dsimp only
  rw [waiting, List.any_nil, Bool.or_false]
  rcases free with h | h <;> rw [h] <;> simp

/-- A request that a peer repeats is answered again from the stored response. -/
theorem svcRequest_repeats (open_ : (s.svcView m).bit F.NET_MAC_CTL_PEER_EN m = false) (first : s.port.waiting = [])
    (free : s.macPaused m = false) (empty : (s.mac m).held = []) {q : SvcPeer}
    (old : (s.port.peers.find? fun q => q.addr == u.src && q.seq == leAt d 2 2 && decide (s.nowUs ≤ q.atUs + 1000000)) = some q) :
    Completes (.svcRequest m f) s fun t => t.rf = s.rf ∧ t.deck = s.deck ∧
      (t.port.peers.getLast?.map (·.response)) = some q.response ∧ (t.mac m).sent.length = 1 := by
  obtain ⟨g, eq⟩ := s.macStep_rest m
  have stored : (s.macStep m).svcOld ⟨u.src, wordAt f u.start, (f.drop 6).take 6, 0, [], 0, m⟩ d = some q := by
    rw [eq]
    exact old
  refine ⟨_, svcRequest_answered serves request payload long magic open_ first (.inl (by rw [stored]; rfl)), ?_⟩
  obtain ⟨mac, free'⟩ := State.macStep_free free
  unfold State.svcAnswer
  rw [stored]
  obtain ⟨rf, deck, last, frame, sent⟩ := (s.macStep m).svcServe_send m
    { addr := u.src, port := wordAt f u.start, mac := (f.drop 6).take 6, seq := leAt d 2 2, response := q.response, atUs := q.atUs, via := m }
    q.response free'
  refine ⟨rf.trans (s.macStep_rf m), deck.trans (by rw [eq]; rfl), ?_, ?_⟩
  · exact congrArg (Option.map SvcPeer.response) last
  · refine (congrArg List.length sent).trans ?_
    rw [mac, empty]
    rfl

/-- STATUS of a peer is answered OK. -/
theorem svcRequest_status (open_ : (s.svcView m).bit F.NET_MAC_CTL_PEER_EN m = false) (first : s.port.waiting = [])
    (free : s.macPaused m = false) (empty : (s.mac m).held = [])
    (new : (s.port.peers.find? fun q => q.addr == u.src && q.seq == leAt d 2 2 && decide (s.nowUs ≤ q.atUs + 1000000)) = none)
    (status : d.drop 4 = [0]) :
    Completes (.svcRequest m f) s fun t => t.rf = s.rf ∧ t.deck = s.deck ∧
      (t.port.peers.getLast?.map (·.response)) = some (d.take 4 ++ [BitVec.ofNat 8 (s.statusByte false .ok false)]) ∧
      (t.mac m).sent.length = 1 := by
  obtain ⟨g, eq⟩ := s.macStep_rest m
  have stored : (s.macStep m).svcOld ⟨u.src, wordAt f u.start, (f.drop 6).take 6, 0, [], 0, m⟩ d = none := by
    rw [eq]
    exact new
  have shown : (s.macStep m).statusByte false .ok false = s.statusByte false .ok false := by
    rw [eq]
    rfl
  refine ⟨_, svcRequest_answered serves request payload long magic open_ first (.inr (by rw [status]; rfl)), ?_⟩
  obtain ⟨mac, free'⟩ := State.macStep_free free
  unfold State.svcAnswer
  rw [stored, status]
  obtain ⟨rf, deck, last, frame, sent⟩ := (s.macStep m).svcServe_send m
    { addr := u.src, port := wordAt f u.start, mac := (f.drop 6).take 6, seq := leAt d 2 2,
      response := d.take 4 ++ [BitVec.ofNat 8 ((s.macStep m).statusByte false .ok false)] ++ [], atUs := (s.macStep m).nowUs, via := m }
    (d.take 4 ++ [BitVec.ofNat 8 ((s.macStep m).statusByte false .ok false)] ++ []) free'
  refine ⟨rf.trans (s.macStep_rf m), deck.trans (by rw [eq]; rfl), ?_, ?_⟩
  · refine (congrArg (Option.map SvcPeer.response) last).trans ?_
    dsimp only [Option.map_some]
    rw [List.append_nil, shown]
  · refine (congrArg List.length sent).trans ?_
    rw [mac, empty]
    rfl

end Requests

/-! ### Notifications (R492) -/

theorem svcNotify_sends {m : Fin 2} (serves : s.serves [.net]) {p : SvcPeer} (last : s.port.peers.getLast? = some p)
    (via : p.via = m) (on : s.svcOn m = true) (pending : s.bit F.EVR_CUR_STAT_PEND 1 = true) :
    Completes (.svcNotify m) s fun t => t.rf = s.rf ∧ ∃ g,
      if s.macPaused m then (t.mac m).sent = [] ∧ (t.mac m).held = (s.mac m).held ++ [p.mac ++ (s.svcView m).macAddr m ++ g]
      else (t.mac m).sent = (s.mac m).held ++ [p.mac ++ (s.svcView m).macAddr m ++ g] ∧ (t.mac m).held = [] := by
  refine ⟨_, (State.act_eq _ serves : execSvcNotify m s = _), ?_⟩
  have rf := s.macStep_rf m
  have last' : (s.macStep m).port.peers.getLast? = some p := by
    obtain ⟨g, eq⟩ := s.macStep_rest m
    rw [eq]
    exact last
  have paused : (s.macStep m).macPaused m = s.macPaused m := by
    cases h : s.macPaused m with
    | true => exact (State.macStep_paused h).2
    | false => exact (State.macStep_free h).2
  dsimp only
  rw [last']
  dsimp only
  rw [State.svcOn_congr rf, on, via, State.bit_congr rf, pending, bne_self_eq_false, if_neg (by decide)]
  unfold State.free
  dsimp only
  generalize toBytes 0x5356 2 ++ _ ++ [0xF0] = payload
  generalize counted : ({ s.macStep m with freeCtr := (s.macStep m).freeCtr + 1 } : State) = w
  have wrf : w.rf = s.rf := counted ▸ rf
  have wmac : w.mac m = (s.macStep m).mac m := counted ▸ rfl
  have wpaused : w.macPaused m = s.macPaused m := (show w.macPaused m = (s.macStep m).macPaused m from counted ▸ rfl).trans paused
  obtain ⟨g, eq⟩ := w.svcSend_frame m p payload
  rw [State.macAddr_congr (State.svcView_rf wrf m)] at eq
  obtain ⟨sendRf, -, -, mac⟩ := ({ w with freeCtr := w.freeCtr + 2 } : State).macSend_spec m (p.mac ++ (s.svcView m).macAddr m ++ g)
  have mac' : (w.svcSend m p payload).mac m = if s.macPaused m
      then { (s.macStep m).mac m with held := ((s.macStep m).mac m).held ++ [p.mac ++ (s.svcView m).macAddr m ++ g] }
      else { (s.macStep m).mac m with sent := ((s.macStep m).mac m).sent ++ [p.mac ++ (s.svcView m).macAddr m ++ g] } := by
    rw [eq, ← wpaused, ← wmac]
    exact mac
  refine ⟨by rw [eq]; exact sendRf.trans wrf, g, ?_⟩
  cases h : s.macPaused m with
  | true =>
    rw [if_pos rfl, mac', h, if_pos rfl, (State.macStep_paused h).1]
    exact ⟨rfl, rfl⟩
  | false =>
    rw [if_neg Bool.false_ne_true, mac', h, if_neg Bool.false_ne_true, (State.macStep_free h).1]
    exact ⟨rfl, rfl⟩

theorem svcNotify_none {m : Fin 2} (serves : s.serves [.net]) (idle : s.bit F.EVR_CUR_STAT_PEND 1 = false) :
    Completes (.svcNotify m) s (· = s.macStep m) := by
  refine ⟨_, (State.act_eq _ serves : execSvcNotify m s = _), ?_⟩
  dsimp only
  split
  · rfl
  · rw [State.bit_congr (s.macStep_rf m), idle, if_pos (by simp)]

/-- Settles O56, command by command. -/
theorem serviceAccess : Obligations.ServiceAccess := by
  unfold Obligations.ServiceAccess
  intro s m f data up speed serves
  obtain ⟨reads, writes, idle⟩ := mdio_spec m data serves
  refine ⟨⟨_, (State.act_eq _ serves : execMdioGo m s = _), Sets.of_wrs rfl⟩, reads, writes, idle,
    ethLinkChange_shows m up speed serves, svcRequest_none serves, fun u request => ?_,
    fun p last via on pending => svcNotify_sends serves last via on pending, svcNotify_none serves⟩
  intro d asked at_once old
  exact ⟨fun ask peers other => svcRequest_refused serves request rfl ask.1 ask.2 peers other,
    fun q ask ready open_ again => svcRequest_repeats serves request rfl ask.1 ask.2 open_ ready.1 ready.2.1 ready.2.2 again,
    fun ask ready open_ new status => svcRequest_status serves request rfl ask.1 ask.2 open_ ready.1 ready.2.1 ready.2.2 new status⟩

end Sys2Proof.Machine
end

section
/-! O57 fails: the count of frames with errors has 8 bits and stays at 255 (R495, R499), while the statement lets it count to 65,535. -/

namespace Sys2Proof.Machine

set_option Elab.async false

/-- Engine 0 is an MS/TP master that drives its line, and has counted 255 frames with errors. -/
def errorsCounted : State :=
  liveWith [(F.SYS_PLL_STAT_PLL_N_LOCK, 0, 0, 1), (F.TWIN_STAT_OWN_OUT, 0, 0, 1), (F.TWIN_STAT_DRIVING, 0, 0, 1),
    (F.FIELD_ENG_CTL_EN, 0, 0, 1), (F.FIELD_ENG_CTL_MODE, 0, 0, 1), (F.FIELD_ENG_STAT_FRAME_ERR, 0, 0, 255)]

/-- A preamble with no header behind it is one more frame with errors. -/
theorem errorsCounted_stays :
    (errorsCounted.fldReceive (0 : Fin 12) [0x55, 0xFF] true).rd F.FIELD_ENG_STAT_FRAME_ERR (0 : Fin 12) = 255 := by decide +kernel

/-- Refutes O57: after that frame the statement has the count of `errorsCounted` at 256. -/
theorem not_fieldEngines : ¬ Obligations.FieldEngines := by
  unfold Obligations.FieldEngines
  intro h
  have serves : errorsCounted.serves [.net, .deck] := by decide +kernel
  obtain ⟨-, -, -, -, -, -, broken, -⟩ := h errorsCounted 0 [0x55, 0xFF] serves (by decide +kernel)
  obtain ⟨t, run, c, v, sets, raised⟩ := broken (by decide +kernel) rfl (by decide +kernel) (by decide +kernel)
  obtain rfl : errorsCounted.fldReceive (0 : Fin 12) [0x55, 0xFF] true = t :=
    Host.Outcome.next.inj ((State.act_eq _ (serves_net serves) : execFldRxFrame 0 [0x55, 0xFF] true errorsCounted = _).symm.trans run)
  have counted : v.rd F.FIELD_ENG_STAT_FRAME_ERR (0 : Fin 12) = 256 :=
    (sets.fields _ (List.mem_singleton_self _)).trans (by decide +kernel)
  have stays := errorsCounted_stays
  rw [raised, State.raise_rd_apart _ _ _ (by decide), counted] at stays
  cases stays

end Sys2Proof.Machine
end

section
/-! O58 fails: what an I²C or SPI transfer reads into a mirror window is mirrored to the partner (R368), while the statement has the
end of a transfer change the deck and the transfer's STATE alone. -/

namespace Sys2Proof.Machine

set_option Elab.async false

/-- The ACTIVE device of a pair mirrors the line at the start of the general-use region, which an I²C transfer of one byte fills. -/
def mirroredTransfer : State :=
  liveWith [(F.SYS_PLL_STAT_PLL_N_LOCK, 0, 0, 1), (F.SYS_DEVICE_ID_LOCK, 0, 0, 1), (F.SYS_DEVICE_ID_ID, 0, 0, 1),
    (F.TWIN_CTL_EN, 0, 0, 1), (F.TWIN_STAT_ROLE, 0, 0, 2), (F.TWIN_WIN_BASE_EN, 0, 0, 1), (F.TWIN_WIN_BASE_BASE, 0, 0, 0xC8000),
    (F.TWIN_WIN_LEN, 0, 0, 1), (F.FIELD_I2C_BUF, 0, 0, 0x01900000), (F.FIELD_I2C_CTL_RLEN, 0, 0, 1), (F.FIELD_I2C_CMD_STATE, 0, 0, 1)]

/-- The byte that was read puts its line into the mirror. -/
theorem mirroredTransfer_sends : (mirroredTransfer.i2cDone (0 : Fin 4) (0 : BitVec 2).toNat [1]).twin.outbox.length = 1 := by
  decide +kernel

/-- Refutes O58: the end of that transfer in `mirroredTransfer` adds to the mirror's outbox. -/
theorem not_transfersAndPins : ¬ Obligations.TransfersAndPins := by
  unfold Obligations.TransfersAndPins
  intro h
  have net : mirroredTransfer.serves [.net] := by decide +kernel
  obtain ⟨-, -, -, -, ends, -⟩ := h mirroredTransfer 0 0 0 [1] true (by decide +kernel)
  obtain ⟨t, run, sets, -⟩ := ends (by decide +kernel) (by decide +kernel) (by decide +kernel) (by decide +kernel)
  obtain rfl : mirroredTransfer.i2cDone (0 : Fin 4) (0 : BitVec 2).toNat [1] = t :=
    Host.Outcome.next.inj ((State.act_eq _ net : execI2cDone 0 0 [1] mirroredTransfer = _).symm.trans run)
  have sends := mirroredTransfer_sends
  rw [sets.rest] at sends
  exact absurd sends (by decide +kernel)

end Sys2Proof.Machine
end

section
/-! O59: dropping the outputs leaves the instant of a freeze as it was captured (R504): the groups that are driven are 8 of them, whose
registers lie below the debug block. -/

namespace Sys2Proof.Machine

set_option Elab.async false

/-- From `s` to `t` the sources and the offset of the last freeze read as before. -/
structure InstantKept (s t : State) : Prop where
  sources : t.rd F.DBG_FRZ_STAT_SOURCES = s.rd F.DBG_FRZ_STAT_SOURCES
  offset : t.rd F.DBG_FRZ_STAT_OFFSET = s.rd F.DBG_FRZ_STAT_OFFSET

namespace InstantKept

variable {s t u : State}

theorem refl (s : State) : InstantKept s s := ⟨rfl, rfl⟩

theorem trans (h : InstantKept s t) (h' : InstantKept t u) : InstantKept s u :=
  ⟨h'.sources.trans h.sources, h'.offset.trans h.offset⟩

theorem of_foot {fs : List Fld} (h : InstantKept s t) (foot : Foot fs t u)
    (sources : (fs.all fun g => g.apart F.DBG_FRZ_STAT_SOURCES) = true := by decide)
    (offset : (fs.all fun g => g.apart F.DBG_FRZ_STAT_OFFSET) = true := by decide) : InstantKept s u :=
  h.trans ⟨foot.rd _ 0 0 sources, foot.rd _ 0 0 offset⟩

theorem wr {f : Fld} {v i j : Nat} (h : InstantKept s t) (sources : f.apart F.DBG_FRZ_STAT_SOURCES = true := by decide)
    (offset : f.apart F.DBG_FRZ_STAT_OFFSET = true := by decide) : InstantKept s (t.wr f v i j) :=
  h.trans ⟨State.rd_wr_apart _ _ _ _ _ _ sources, State.rd_wr_apart _ _ _ _ _ _ offset⟩

theorem wrB {f : Fld} {b : Bool} {i j : Nat} (h : InstantKept s t) (sources : f.apart F.DBG_FRZ_STAT_SOURCES = true := by decide)
    (offset : f.apart F.DBG_FRZ_STAT_OFFSET = true := by decide) : InstantKept s (t.wrB f b i j) :=
  wr h sources offset

/-- A write of one of the registers of a block that, counted on, would reach the debug block. -/
theorem wr_ne {f : Fld} {v i : Nat} (h : InstantKept s t) (sources : f.key i 0 ≠ F.DBG_FRZ_STAT_SOURCES.key 0 0)
    (offset : f.key i 0 ≠ F.DBG_FRZ_STAT_OFFSET.key 0 0) : InstantKept s (t.wr f v i) :=
  h.trans ⟨t.rd_wr_ne _ _ _ _ _ _ _ sources, t.rd_wr_ne _ _ _ _ _ _ _ offset⟩

/-- A change of what is not a register. -/
theorem parts (h : InstantKept s t) {pending deck span pts pier conv sens sol mot fan meter twin tre keep evr health power port posted
    resp busHeld dbg freeCtr} : InstantKept s ⟨pending, t.rf, deck, span, pts, pier, conv, sens, sol, mot, fan, meter, twin, tre, keep,
      evr, health, power, port, posted, resp, busHeld, dbg, freeCtr⟩ :=
  ⟨h.sources, h.offset⟩

theorem of_eventOnly (h : InstantKept s t) (event : EventOnly t u) : InstantKept s u :=
  h.trans ⟨event.rd _ 0 0 (by decide), event.rd _ 0 0 (by decide)⟩

theorem raise {code index : Nat} {words : List Nat} {pier : Option Nat} (h : InstantKept s t) :
    InstantKept s (t.raise code index words pier) :=
  h.of_eventOnly (EventOnly.raise ..)

theorem ite {c : Prop} {_ : Decidable c} (h : InstantKept s t) (hu : InstantKept s u) : InstantKept s (if c then t else u) := by
  split
  · exact h
  · exact hu

theorem each {α : Type} {l : List α} {f : State → α → State} (h : InstantKept s t)
    (hf : ∀ t, ∀ x ∈ l, InstantKept s t → InstantKept s (f t x)) : InstantKept s (t.each l f) := by
  unfold State.each
  induction l generalizing t with
  | nil => exact h
  | cons x l ih => exact ih (hf t x List.mem_cons_self h) fun t y hy => hf t y (List.mem_cons_of_mem x hy)

/-! ### Channels forced to IDLE (R269, R304, R320, R334) -/

theorem solEnterPick (h : InstantKept s t) (n : Nat) : InstantKept s (t.solEnterPick n) := by
  unfold State.solEnterPick
  exact parts (wrB (wr (wr (wr h))))

theorem solServe (h : InstantKept s t) (k fuel : Nat) : InstantKept s (t.solServe k fuel) := by
  induction fuel generalizing t with
  | zero => exact h
  | succ fuel ih =>
    unfold State.solServe
    split
    · exact h
    · exact (ih (solEnterPick (parts h) _)).ite h

theorem solSlowCheck (h : InstantKept s t) (k : Nat) : InstantKept s (t.solSlowCheck k) :=
  h.each fun _ _ _ h => by
    split
    · split
      · exact h.wrB.raise
      · exact h
    · exact h

theorem solGroup (h : InstantKept s t) {k : Nat} (group : k < 8) : InstantKept s (t.solGroup k) := by
  have load : ∀ k < 8, F.SOL_GRP_STAT_LOAD.key k 0 ≠ F.DBG_FRZ_STAT_SOURCES.key 0 0 ∧
      F.SOL_GRP_STAT_LOAD.key k 0 ≠ F.DBG_FRZ_STAT_OFFSET.key 0 0 := by decide
  have queued : ∀ k < 8, F.SOL_GRP_STAT_QUEUED.key k 0 ≠ F.DBG_FRZ_STAT_SOURCES.key 0 0 ∧
      F.SOL_GRP_STAT_QUEUED.key k 0 ≠ F.DBG_FRZ_STAT_OFFSET.key 0 0 := by decide
  have served := (h.solServe k 4).solSlowCheck k
  exact ((served.wr_ne (load k group).1 (load k group).2).wr_ne (queued k group).1 (queued k group).2).wrB

theorem solForceIdle (h : InstantKept s t) (n : Nat) : InstantKept s (t.solForceIdle n) :=
  h.ite (parts (wr (parts (ite (wr h) h))))

theorem motForceIdle (h : InstantKept s t) (n : Nat) : InstantKept s (t.motForceIdle n) := by
  have idle {u : State} (hu : InstantKept s u) : InstantKept s (u.motEnterIdle n) := by
    unfold State.motEnterIdle
    exact parts (wr (wr hu))
  have ended : InstantKept s (if t.motOpen n then t.wr F.MOT_CH_STAT_OUTCOME 2 n else t) := h.wr.ite h
  exact h.ite ((parts ended).ite (idle ended)).wrB

theorem fanForceIdle (h : InstantKept s t) (n : Nat) : InstantKept s (t.fanForceIdle n) := by
  have idle {u : State} (hu : InstantKept s u) (k : FanState) : InstantKept s (u.fanTo n k) := by
    have stopped : InstantKept s (if k = .kick ∨ k = .run then u.wr F.FAN_CH_STAT_STATE k.code n else
        (u.wr F.FAN_CH_STAT_STATE k.code n).wr F.FAN_CH_MEAS_RPM 0 n) := hu.wr.ite hu.wr.wr
    exact stopped.ite (parts stopped)
  exact h.ite (wr (wrB (idle (h.wr.ite h) _)))

theorem outputsOff (h : InstantKept s t) : InstantKept s t.outputsOff :=
  ((((h.each fun _ _ _ h => h.solForceIdle _).each fun _ _ hk h => h.solGroup (List.mem_range.mp hk)).each fun _ _ _ h =>
    h.motForceIdle _).each fun _ _ _ h => h.fanForceIdle _).each fun _ _ _ h => parts (wrB (wrB h))

/-- With OWN_OUT low DRIVING falls, if it moves at all (R362). -/
theorem drivingUpdate (h : InstantKept s t) (low : t.bit F.TWIN_STAT_OWN_OUT = false) : InstantKept s t.drivingUpdate := by
  unfold State.drivingUpdate
  dsimp only
  rw [low, Bool.false_and, if_neg Bool.false_ne_true (c := false = true)]
  exact h.ite (of_eventOnly (parts (outputsOff h.wrB)) (EventOnly.sortEvents _ _))

theorem ownDrop (h : InstantKept s t) : InstantKept s t.ownDrop := by
  have low : (t.wrB F.TWIN_STAT_OWN_OUT false).bit F.TWIN_STAT_OWN_OUT = false := by
    unfold State.bit State.wrB
    rw [State.rd_wr_same]
    rfl
  unfold State.ownDrop
  split
  · exact h
  · exact raise (parts (drivingUpdate h.wrB low))

end InstantKept

end Sys2Proof.Machine
end

section
/-! O59: freezing and thawing (R502 to R504, R508, R420). -/

namespace Sys2Proof.Machine

set_option Elab.async false

variable {s : State}

/-! ### What leaves the debug block and KEEP_STAT.FROZEN alone -/

/-- From `s` to `t` the debug block stays, and KEEP_STAT.FROZEN with it. -/
structure FrzKept (s t : State) : Prop where
  dbg : t.dbg = s.dbg
  frozen : t.rd F.KEEP_STAT_FROZEN = s.rd F.KEEP_STAT_FROZEN

namespace FrzKept

variable {t u : State}

theorem refl (s : State) : FrzKept s s := ⟨rfl, rfl⟩

theorem trans (h : FrzKept s t) (h' : FrzKept t u) : FrzKept s u := ⟨h'.dbg.trans h.dbg, h'.frozen.trans h.frozen⟩

theorem ite {c : Prop} {_ : Decidable c} (h : FrzKept s t) (hu : FrzKept s u) : FrzKept s (if c then t else u) := by
  split
  · exact h
  · exact hu

/-- What is done or not. -/
theorem also {c : Prop} {_ : Decidable c} (h : FrzKept s t) (hu : FrzKept s t → FrzKept s u) : FrzKept s (if c then u else t) :=
  (hu h).ite h

theorem of_foot {fs : List Fld} (h : FrzKept s t) (foot : Foot fs t u) (dbg : u.dbg = t.dbg)
    (apart : (fs.all fun g => g.apart F.KEEP_STAT_FROZEN) = true := by decide) : FrzKept s u :=
  h.trans ⟨dbg, foot.rd _ 0 0 apart⟩

theorem wr {f : Fld} {v i j : Nat} (h : FrzKept s t) (apart : f.apart F.KEEP_STAT_FROZEN = true := by decide) :
    FrzKept s (t.wr f v i j) :=
  h.trans ⟨rfl, State.rd_wr_apart _ _ _ _ _ _ apart⟩

theorem wrB {f : Fld} {b : Bool} {i j : Nat} (h : FrzKept s t) (apart : f.apart F.KEEP_STAT_FROZEN = true := by decide) :
    FrzKept s (t.wrB f b i j) :=
  wr h apart

theorem of_eventOnly (h : FrzKept s t) (event : EventOnly t u) : FrzKept s u :=
  h.trans ⟨event.dbg, event.rd _ 0 0 (by decide)⟩

theorem raise {code index : Nat} {words : List Nat} {pier : Option Nat} (h : FrzKept s t) :
    FrzKept s (t.raise code index words pier) :=
  h.of_eventOnly (EventOnly.raise ..)

theorem each {α : Type} {l : List α} {f : State → α → State} (h : FrzKept s t) (hf : ∀ t x, FrzKept s t → FrzKept s (f t x)) :
    FrzKept s (t.each l f) := by
  unfold State.each
  induction l generalizing t with
  | nil => exact h
  | cons x l ih => exact ih (hf t x h)

/-- A change of what is neither the debug block nor a register. -/
theorem parts (h : FrzKept s t) {pending deck span pts pier conv sens sol mot fan meter twin tre keep evr health power port posted resp
    busHeld freeCtr} : FrzKept s ⟨pending, t.rf, deck, span, pts, pier, conv, sens, sol, mot, fan, meter, twin, tre, keep, evr, health,
      power, port, posted, resp, busHeld, t.dbg, freeCtr⟩ :=
  ⟨h.dbg, h.frozen⟩

/-! ### The span that a freeze abandons (R508) -/

theorem setDBytes (h : FrzKept s t) (a : Nat) (bs : List Byte) : FrzKept s (t.setDBytes a bs) := by
  obtain ⟨deck, eq⟩ := State.setDBytes_rest bs t a
  rw [eq]
  exact h.parts

theorem ringPut (h : FrzKept s t) (n : Nat) (r : ConvResult) : FrzKept s (t.ringPut n r) := by
  have counted : FrzKept s (t.incSat F.CONV_SEQ_RING_LOSS n) := h.wr
  have noted {c d : Prop} {_ : Decidable c} {_ : Decidable d} {conv words} : FrzKept s (if c then (if d then
      t.incSat F.CONV_SEQ_RING_LOSS n else ({ t.incSat F.CONV_SEQ_RING_LOSS n with conv := conv } : State).raise 0x305 n words) else t) :=
    (counted.ite counted.parts.raise).ite h
  unfold State.ringPut
  exact noted.ite (wr (f := F.CONV_SEQ_RING_WR) ((ite (wr (f := F.CONV_SEQ_RING_RD) noted) noted).also fun h => h.setDBytes _ _))

theorem ringFlush (h : FrzKept s t) (n : Nat) (all : Bool) (k : Nat) : FrzKept s (t.ringFlush n all k) := by
  induction k generalizing t with
  | zero => exact h
  | succ k ih =>
    unfold State.ringFlush
    split
    · exact h
    · split
      · exact h
      · exact ih (FrzKept.ite (FrzKept.parts h) (FrzKept.ringPut (FrzKept.parts h) _ _))

theorem seqAbort (h : FrzKept s t) (n : Nat) : FrzKept s (t.seqAbort n) := by
  have aborted : FrzKept s (t.runAbort n) := by
    unfold State.runAbort
    split
    · exact h
    · exact (h.ringFlush n true 64).parts.wr.wr.wrB.wr.raise
  exact aborted.ite h.wrB

theorem sensDrop (h : FrzKept s t) : FrzKept s t.sensDrop := h.each fun _ _ kept => kept.parts

theorem dropTasks (h : FrzKept s t) : FrzKept s t.dropTasks :=
  h.each fun u c kept => by
    split
    · exact kept.ite kept.parts
    · exact kept.parts

theorem syncLost (h : FrzKept s t) (r : Unsync) : FrzKept s (t.syncLost r) := h.ite h.wrB.wr.raise

theorem twinLaneDown (h : FrzKept s t) (l : Nat) : FrzKept s (t.twinLaneDown l) := by
  have down : FrzKept s (t.wrB (laneFld l) false) := by
    unfold laneFld
    split
    · exact h.wrB
    · exact h.wrB
  unfold State.twinLaneDown
  exact down.ite ((down.parts.syncLost _).ite down.parts)

end FrzKept

theorem State.reportHops_dbg (s : State) : s.reportHops.dbg = s.dbg := by
  obtain ⟨sent, eq⟩ := s.treSendBoth_eq fun q => .announce q s.ownMember none
  unfold State.reportHops
  rw [eq]
  split
  · rfl
  · rfl

theorem State.masterUpdate_dbg (s : State) : s.masterUpdate.dbg = s.dbg := by
  have choice (c : Prop) [Decidable c] {a b u : State} (ha : a.dbg = u.dbg) (hb : b.dbg = u.dbg) :
      (if c then a else b).dbg = u.dbg := by
    split
    · exact ha
    · exact hb
  unfold State.masterUpdate
  extract_lets m d
  have path : m.dbg = s.dbg := rfl
  refine choice _ rfl ?_
  have delay : (if (m.tre.dChange.map (·.2)).getD (m.rd F.TRESTLE_STAT_D + 1) = d then m else
      m.masterFrame.2.announceD (match m.masterFrame.2.tre.spanChange with | some (f, _) => f | none => m.masterFrame.1) d).dbg
      = s.dbg := choice _ path path
  exact choice _ delay delay

namespace FrzKept

variable {t : State}

theorem portDown (h : FrzKept s t) (p cause : Nat) : FrzKept s (t.portDown p cause) := by
  unfold State.portDown
  refine h.ite ?_
  dsimp only
  generalize noted : (((t.wr F.TRESTLE_PORT_STAT_LINK 0 p).incSat F.TRESTLE_PORT_ERR_DROPS p).wrB F.TRESTLE_STAT_CLOSED false).raise
    0xA00 p [p, cause] = v
  have first : FrzKept s v := noted ▸ ((h.wr).wr.wrB).raise
  have told : FrzKept s v.reportHops := first.trans ⟨State.reportHops_dbg _, State.reportHops_rd _ _ _ _⟩
  exact told.of_foot (State.masterUpdate_kept _).foot (State.masterUpdate_dbg _)

theorem lanesDown (h : FrzKept s t) : FrzKept s t.lanesDown := by
  have lane {u : State} (hu : FrzKept s u) (l : Nat) : FrzKept s (u.laneDown l) := by
    unfold State.laneDown
    exact (hu.twinLaneDown _).ite (FrzKept.portDown hu.parts _ _)
  exact lane (lane ((h.twinLaneDown 0).twinLaneDown 1) 0) 1

/-- A device that rejoins its ring enters JOINING, which ends no step of start-up (R387). -/
theorem rejoin (h : FrzKept s t) : FrzKept s t.rejoin := by
  have joining {u : State} (hu : FrzKept s u) : FrzKept s (u.treTo .joining) := by
    have stays (c : Bool) : (c && (TreState.joining == .run || TreState.joining == .off || TreState.joining == .refused)) = false := by
      cases c
      · rfl
      · rfl
    unfold State.treTo
    dsimp only
    rw [stays, if_neg Bool.false_ne_true, if_pos rfl]
    exact FrzKept.wr hu.parts
  exact joining ((h.wrB.wr).ite h)

theorem abandonSpan (h : FrzKept s t) : FrzKept s t.abandonSpan := by
  unfold State.abandonSpan
  exact ((((FrzKept.each (parts h) fun _ n kept => kept.seqAbort n).sensDrop.dropTasks.lanesDown).also fun kept =>
    kept.syncLost _).also fun kept => kept.rejoin).also fun kept => wr (f := F.SPAN_STAT_WINDOW) (parts kept)

end FrzKept

/-! ### The freeze (R504) -/

theorem State.ownDrop_dbg (s : State) : s.ownDrop.dbg = s.dbg := by
  unfold State.ownDrop
  split
  · rfl
  · have moved : (s.wrB F.TWIN_STAT_OWN_OUT false).drivingUpdate.dbg = s.dbg := by
      rcases (s.wrB F.TWIN_STAT_OWN_OUT false).drivingUpdate_cases with ⟨-, same⟩ | ⟨-, moved⟩
      · exact (congrArg State.dbg same).trans rfl
      · obtain ⟨sol, mot, fan, meter, health, evr, outbox, eq⟩ := moved.rest
        exact (congrArg State.dbg eq).trans rfl
    generalize (s.wrB F.TWIN_STAT_OWN_OUT false).drivingUpdate = u at moved
    exact (State.raise_dbg ..).trans moved

theorem State.solDisarm_dbg (s : State) : s.solDisarm.dbg = s.dbg :=
  (FrzKept.each (l := List.range 32) (FrzKept.refl s) fun _ _ kept => kept.wrB (f := F.SOL_CH_STAT_ARMED) (b := false)).dbg

/-- What a freeze records and captures of the device (R504). -/
def State.frozenShown (s : State) : State :=
  let u := (s.wr F.DBG_FRZ_STAT_SOURCES s.sources).wr F.DBG_FRZ_STAT_OFFSET s.offset
  let u := u.wr48 F.DBG_FRZ_FRAME_LO F.DBG_FRZ_FRAME_HI u.frame
  let launch := u.bit F.DBG_FRZ_CTL_RING_OUT && (u.dbg.pin || u.dbg.soft)
  { u with dbg := { u.dbg with
    frozen := true, drove := u.driving, wasActive := u.roleIs .active, hadOut := u.bit F.TWIN_STAT_OWN_OUT
    markerOut := if launch then 3 else u.dbg.markerOut } }

theorem State.freezeNow_eq (s : State) : s.freezeNow = s.frozenShown.ownDrop.solDisarm := rfl

theorem State.sources_lt (s : State) : s.sources < 16 := by
  have pin := Bool.toNat_le s.dbg.pin
  have twin := Bool.toNat_le (s.dbg.xIn && s.bit F.TWIN_CTL_EN)
  have ring := Bool.toNat_le s.dbg.ring
  have soft := Bool.toNat_le s.dbg.soft
  unfold State.sources
  omega

theorem State.frozenShown_spec (s : State) : s.frozenShown.dbg.frozen = true ∧ s.frozenShown.dbg.gated = s.dbg.gated ∧
    s.frozenShown.dbg.ir = s.dbg.ir ∧ s.frozenShown.dbg.dr = s.dbg.dr ∧
    s.frozenShown.rd F.DBG_FRZ_STAT_SOURCES = s.sources ∧ s.frozenShown.rd F.DBG_FRZ_STAT_OFFSET = s.offset % 65536 := by
  unfold State.frozenShown State.wr48
  refine ⟨rfl, rfl, rfl, rfl, ?_, ?_⟩
  · refine (State.rd_wr_apart _ _ _ _ _ _ (by decide)).trans ((State.rd_wr_apart _ _ _ _ _ _ (by decide)).trans
      ((State.rd_wr_apart _ _ _ _ _ _ (by decide)).trans ((State.rd_wr_same ..).trans ?_)))
    exact Nat.mod_eq_of_lt s.sources_lt
  · exact (State.rd_wr_apart _ _ _ _ _ _ (by decide)).trans ((State.rd_wr_apart _ _ _ _ _ _ (by decide)).trans (State.rd_wr_same ..))

/-- A freeze records its sources and its instant, and drops OWN_OUT (R504). -/
theorem State.freezeNow_spec (s : State) : s.freezeNow.dbg = s.frozenShown.dbg ∧ s.freezeNow.rd F.DBG_FRZ_STAT_SOURCES = s.sources ∧
    s.freezeNow.rd F.DBG_FRZ_STAT_OFFSET = s.offset % 65536 ∧ s.freezeNow.rd F.TWIN_STAT_OWN_OUT = 0 := by
  obtain ⟨-, -, -, -, sources, offset⟩ := s.frozenShown_spec
  rw [State.freezeNow_eq]
  generalize s.frozenShown = u at sources offset
  have low := u.ownDrop_low.2
  have kept := (InstantKept.refl u).ownDrop
  have dbg := u.ownDrop_dbg
  generalize u.ownDrop = v at kept low dbg
  have disarmed := v.solDisarm_foot
  have instant := kept.of_foot disarmed
  exact ⟨v.solDisarm_dbg.trans dbg, instant.sources.trans sources, instant.offset.trans offset,
    (disarmed.rd _ 0 0 (by decide)).trans low⟩

/-! ### The thaw (R508) -/

/-- The device is released, and the keystone's ticks are shown (R508). -/
def State.thawBegun (s : State) : State :=
  { s.wrB F.KEEP_STAT_FROZEN false with
    dbg := { s.dbg with
      frozen := false, gated := false, thawed := true, relink := s.paired
      ticks := s.keep.hidden - s.keep.hiddenOld }
    keep := { s.keep with frozen := false, catchUp := s.keep.catchUp || s.keep.frozen } }

theorem State.thawNow_eq (s : State) : s.thawNow =
    ((s.thawBegun.eventAt 0xE00
      ([s.thawBegun.rd F.DBG_FRZ_STAT_SOURCES] ++ w48 (s.thawBegun.rd48 F.DBG_FRZ_FRAME_LO F.DBG_FRZ_FRAME_HI))
      (s.thawBegun.rd48 F.DBG_FRZ_FRAME_LO F.DBG_FRZ_FRAME_HI, s.thawBegun.rd F.DBG_FRZ_STAT_OFFSET)).event 0xE01
      [s.keep.hidden - s.keep.hiddenOld]).abandonSpan := rfl

theorem State.thawNow_kept (s : State) : FrzKept s.thawBegun s.thawNow := by
  rw [State.thawNow_eq]
  generalize s.thawBegun = u
  exact (((FrzKept.refl u).of_eventOnly (EventOnly.eventAt ..)).raise).abandonSpan

theorem State.thawNow_spec (s : State) : s.thawNow.dbg = { s.dbg with
      frozen := false, gated := false, thawed := true, relink := s.paired, ticks := s.keep.hidden - s.keep.hiddenOld } ∧
    s.thawNow.rd F.KEEP_STAT_FROZEN = 0 := by
  have kept := s.thawNow_kept
  have cleared : (s.wrB F.KEEP_STAT_FROZEN false).rd F.KEEP_STAT_FROZEN = 0 := State.rd_wr_same ..
  exact ⟨kept.dbg.trans rfl, kept.frozen.trans cleared⟩

/-! ### The sources (R502) -/

theorem State.freezeUpdate_freezes (accepts : s.acceptsFreeze = true) (source : s.sources ≠ 0) (running : s.dbg.frozen = false) :
    s.freezeUpdate = s.freezeNow.showXOut := by
  unfold State.freezeUpdate
  rw [accepts, running]
  simp [source]

theorem State.freezeUpdate_thaws (accepts : s.acceptsFreeze = true) (none : s.sources = 0) (frozen : s.dbg.frozen = true) :
    s.freezeUpdate = s.thawNow.showXOut := by
  unfold State.freezeUpdate
  rw [accepts, frozen]
  simp [none]

theorem State.freezeUpdate_refused (refuses : s.acceptsFreeze = false) : s.freezeUpdate = s := by
  unfold State.freezeUpdate
  rw [refuses]
  rfl

/-- What the test access port shifts is not the freeze's (R506). -/
theorem State.freezeUpdate_tap (s : State) : s.freezeUpdate.dbg.ir = s.dbg.ir ∧ s.freezeUpdate.dbg.dr = s.dbg.dr := by
  have froze : s.freezeNow.dbg.ir = s.dbg.ir ∧ s.freezeNow.dbg.dr = s.dbg.dr := by
    obtain ⟨-, -, ir, dr, -, -⟩ := s.frozenShown_spec
    rw [s.freezeNow_spec.1]
    exact ⟨ir, dr⟩
  have thawed : s.thawNow.dbg.ir = s.dbg.ir ∧ s.thawNow.dbg.dr = s.dbg.dr := by
    rw [s.thawNow_spec.1]
    exact ⟨rfl, rfl⟩
  unfold State.freezeUpdate
  split
  · exact ⟨rfl, rfl⟩
  · dsimp only [State.showXOut]
    split
    · split
      · exact ⟨rfl, rfl⟩
      · exact froze
    · split
      · exact thawed
      · exact ⟨rfl, rfl⟩

/-- What a freeze shows, of its sources and its instant in `u` (R504). -/
def FrozenFrom (u t : State) : Prop := t.dbg.frozen = true ∧ t.dbg.gated = u.dbg.gated ∧
  t.rd F.DBG_FRZ_STAT_SOURCES = u.sources ∧ t.rd F.DBG_FRZ_STAT_OFFSET = u.offset % 65536 ∧ t.rd F.TWIN_STAT_OWN_OUT = 0

theorem State.freezes (accepts : s.acceptsFreeze = true) (source : s.sources ≠ 0) (running : s.dbg.frozen = false) :
    FrozenFrom s s.freezeUpdate := by
  obtain ⟨frozen, gated, -, -, -, -⟩ := s.frozenShown_spec
  obtain ⟨dbg, sources, offset, low⟩ := s.freezeNow_spec
  rw [State.freezeUpdate_freezes accepts source running]
  generalize s.freezeNow = t at dbg sources offset low
  refine ⟨?_, ?_, sources, offset, low⟩
  · exact (congrArg DbgSt.frozen dbg).trans frozen
  · exact (congrArg DbgSt.gated dbg).trans gated

theorem State.thaws (accepts : s.acceptsFreeze = true) (none : s.sources = 0) (frozen : s.dbg.frozen = true) :
    s.freezeUpdate.dbg.frozen = false ∧ s.freezeUpdate.dbg.gated = false ∧ s.freezeUpdate.dbg.thawed = true ∧
      s.freezeUpdate.dbg.relink = s.paired ∧ s.freezeUpdate.dbg.soft = s.dbg.soft ∧ s.freezeUpdate.dbg.ring = s.dbg.ring ∧
      s.freezeUpdate.rd F.KEEP_STAT_FROZEN = 0 := by
  obtain ⟨dbg, cleared⟩ := s.thawNow_spec
  rw [State.freezeUpdate_thaws accepts none frozen]
  generalize s.thawNow = t at dbg cleared
  dsimp only [State.showXOut]
  rw [dbg]
  exact ⟨rfl, rfl, rfl, rfl, rfl, rfl, cleared⟩

/-- Some source is active where one of them is. -/
theorem State.sources_ne_zero (active : s.dbg.pin = true ∨ (s.dbg.xIn && s.bit F.TWIN_CTL_EN) = true ∨ s.dbg.ring = true ∨
    s.dbg.soft = true) : s.sources ≠ 0 := by
  unfold State.sources
  rcases active with h | h | h | h
  all_goals
    rw [h, Bool.toNat_true]
    omega

/-! ### The commands -/

/-- The soft source freezes (R502). -/
theorem State.softFreeze_freezes (accepts : s.acceptsFreeze = true) (running : s.dbg.frozen = false) :
    FrozenFrom { s with dbg := { s.dbg with soft := true } } s.softFreeze := by
  have run : (s.power.rst != .running) = false := by
    unfold State.acceptsFreeze at accepts
    simp only [Bool.and_eq_true] at accepts
    rw [bne, accepts.1.1.1]
    rfl
  have foot : Foot [F.DBG_FRZ_CTL_FREEZE] s (s.wrB F.DBG_FRZ_CTL_FREEZE true) := (Foot.refl s).wrB
  unfold State.softFreeze
  rw [run, if_neg Bool.false_ne_true]
  generalize marked : ({ s.wrB F.DBG_FRZ_CTL_FREEZE true with dbg := { s.dbg with soft := true } } : State) = u
  have rd (f : Fld) (apart : ([F.DBG_FRZ_CTL_FREEZE].all fun g => g.apart f) = true) : u.rd f = s.rd f :=
    marked ▸ foot.rd f 0 0 apart
  have accepts' : u.acceptsFreeze = true := by
    unfold State.acceptsFreeze State.atStep at accepts ⊢
    rw [rd _ (by decide), ← marked]
    exact accepts
  have froze := State.freezes accepts' (State.sources_ne_zero (.inr (.inr (.inr (marked ▸ rfl))))) (marked ▸ running)
  have sources : u.sources = ({ s with dbg := { s.dbg with soft := true } } : State).sources := by
    have enable : u.bit F.TWIN_CTL_EN = s.bit F.TWIN_CTL_EN := by
      unfold State.bit
      rw [rd _ (by decide)]
    unfold State.sources
    rw [enable, ← marked]
    rfl
  have offset : u.offset = ({ s with dbg := { s.dbg with soft := true } } : State).offset := by
    unfold State.offset State.sel
    rw [rd _ (by decide), ← marked]
    rfl
  obtain ⟨frozen, gated, src, off, low⟩ := froze
  exact ⟨frozen, gated.trans (marked ▸ rfl), src.trans sources, off.trans (congrArg (· % 65536) offset), low⟩

theorem clockGate_stops (frozen : s.dbg.frozen = true) (running : s.dbg.gated = false) {due : Nat}
    (hd : due = if s.keep.catchUp then s.keep.hidden else 0) : Completes .clockGate s fun t => Sets { s with
      dbg := { s.dbg with gated := true }, keep := { s.keep with frozen := true, hidden := due, hiddenOld := due } } t
        [(F.KEEP_STAT_FROZEN, 0, 0, 1)] := by
  subst hd
  refine ⟨_, congrArg Host.Outcome.next (if_pos (by rw [frozen, running]; rfl)), ?_⟩
  exact Sets.of_wrs rfl

/-- Settles O59, command by command. -/
theorem freezeAndThaw : Obligations.FreezeAndThaw := by
  unfold Obligations.FreezeAndThaw
  intro s p frozenNow pin xIn soft lone
  have froze {c : Instr} {u t : State} (run : exec c s = .next t) (shown : s.acceptsFreeze = true → s.dbg.frozen = false →
      FrozenFrom u t) (gated : u.dbg.gated = s.dbg.gated) (offset : u.offset = s.offset) : frozenNow c u := by
    intro accepts running
    obtain ⟨frozen, kept, sources, off, low⟩ := shown accepts running
    exact ⟨t, run, frozen, kept.trans gated, sources, off.trans (congrArg (· % 65536) offset), low⟩
  refine ⟨froze rfl (fun accepts running => State.freezes (s := pin true) accepts (State.sources_ne_zero (.inl rfl)) running) rfl rfl,
    fun pair => froze rfl (fun accepts running => State.freezes (s := xIn true) accepts (State.sources_ne_zero (.inr (.inl ?_))) running)
      rfl rfl,
    fun alive => froze (State.act_eq (ds := []) State.softFreeze ⟨alive, rfl⟩) State.softFreeze_freezes rfl rfl,
    froze rfl (fun accepts running => State.softFreeze_freezes (s := s.tapCtl) accepts running) rfl rfl,
    fun refuses => ⟨⟨_, rfl, State.freezeUpdate_refused (s := pin true) refuses⟩,
      ⟨_, rfl, State.freezeUpdate_refused (s := xIn true) refuses⟩⟩,
    fun accepts frozen alone => ?_, fun accepts frozen noPin noX => ?_, fun serves off => ?_, fun serves on => ?_,
    fun frozen running => clockGate_stops frozen running rfl, fun idle => ⟨_, rfl, ?_⟩⟩
  · obtain ⟨enabled, -⟩ : s.bit F.TWIN_CTL_EN = true ∧ s.joinable = true := by
      simpa [State.paired] using pair
    exact enabled
  · obtain ⟨noX, noRing, noSoft⟩ := alone
    have none : (pin false).sources = 0 := by
      unfold State.sources
      dsimp only [pin]
      rw [noX, noRing, noSoft]
      rfl
    obtain ⟨thawed, ungated, shown, relink, -, -, cleared⟩ := State.thaws (s := pin false) accepts none frozen
    exact ⟨_, rfl, thawed, ungated, shown, relink, cleared⟩
  · generalize cleared : ({ s.tapCtl.wrB F.DBG_FRZ_CTL_FREEZE false with
      dbg := { s.tapCtl.dbg with ring := false, soft := false } } : State) = u
    have foot : Foot [F.DBG_FRZ_CTL_FREEZE] s u := cleared ▸ ((Foot.refl s).same.wrB).same
    have accepts' : u.acceptsFreeze = true := by
      unfold State.acceptsFreeze State.atStep at accepts ⊢
      rw [foot.rd _ 0 0 (by decide), ← cleared]
      exact accepts
    have none : u.sources = 0 := by
      unfold State.sources
      rw [← cleared]
      change s.dbg.pin.toNat + 2 * (s.dbg.xIn && _).toNat + 4 * false.toNat + 8 * false.toNat = 0
      rw [noPin, noX]
      rfl
    obtain ⟨thawed, ungated, -, -, noSoft, noRing, -⟩ := State.thaws accepts' none (cleared ▸ frozen)
    refine ⟨u.freezeUpdate, cleared ▸ rfl, thawed, ungated, noSoft.trans (cleared ▸ rfl), noRing.trans (cleared ▸ rfl)⟩
  · refine ⟨_, (State.act_eq _ serves : execFreezeMarker p s = _), ?_⟩
    exact if_neg fun on => absurd (show s.bit F.DBG_FRZ_CTL_RING_IN = true from on) (by rw [off]; decide)
  · refine froze (u := { s with dbg := { s.dbg with ring := true } }) ((State.act_eq _ serves : execFreezeMarker p s = _).trans
      (congrArg Host.Outcome.next (if_pos on))) (fun accepts running => ?_) rfl rfl
    exact State.freezes (s := { s with dbg := { s.dbg with ring := true, markerOut := if p.val = 0 then 2 else 1 } }) accepts
      (State.sources_ne_zero (.inr (.inr (.inl rfl)))) running
  · refine if_neg ?_
    rcases idle with h | h
    · rw [h, Bool.false_and]
      decide
    · rw [h]
      simp

end Sys2Proof.Machine
end

section
/-! PROOF. The test access port (R506, R507): what each instruction selects and captures. -/

namespace Sys2Proof.Machine
set_option Elab.async false

variable (s : State)

theorem Config.idcode_low : Config.fused 7 0 0 % 2 ^ 11 * 2 + 1 < 2 ^ 12 := by
  have short := Nat.mod_lt (Config.fused 7 0 0) (show 0 < 2 ^ 11 by decide)
  omega

/-- The fields of the identity: its 1, the part number, the stepping (R506). -/
theorem State.idcode_fields : s.idcode % 2 = 1 ∧ s.idcode / 2 ^ 12 % 2 ^ 16 = 0x7420 ∧
    s.idcode / 2 ^ 28 = s.rd F.SYS_REVISION_DECK_STEP % 16 := by
  have low := Config.idcode_low
  unfold State.idcode
  generalize Config.fused 7 0 0 % 2 ^ 11 = maker at low
  generalize s.rd F.SYS_REVISION_DECK_STEP % 16 = stepping
  omega

/-- RO_FREEZE selects and captures RO_CTL, whatever the freeze does (R506). -/
theorem State.softFreeze_tap : s.softFreeze.dbg.ir = s.dbg.ir ∧ s.softFreeze.dbg.dr = s.dbg.dr := by
  unfold State.softFreeze
  split
  · exact ⟨rfl, rfl⟩
  · exact State.freezeUpdate_tap _

theorem State.tapCtl_spec : s.tapCtl.dbg.ir = .roCtl ∧ s.tapCtl.dbg.dr = 4 * s.dbg.roBad.toNat + 8 * s.dbg.frozen.toNat :=
  ⟨rfl, rfl⟩

/-- A bearing-die word is not there before 32 cycles of waiting (R507). -/
theorem State.roCapture_early {idle : Nat} (bearing : onBearing (s.dbg.roAddr / 4 * 4) = true) (early : idle < 32) :
    s.roCapture idle = { s with dbg := { s.dbg with dr := 0, drValid := false } } := by
  exact if_pos (by rw [bearing, Bool.true_and, decide_eq_true early])

/-- Every other address of the map is captured at once, and counts on (R507). -/
theorem State.roCapture_word {idle : Nat} (elsewhere : onBearing (s.dbg.roAddr / 4 * 4) = false) :
    s.roCapture idle = { s with dbg := { s.dbg with
      dr := (s.roWord (s.dbg.roAddr / 4 * 4)).getD 0, drValid := s.dbg.frozen
      roBad := s.dbg.roBad || (s.roWord (s.dbg.roAddr / 4 * 4)).isNone
      roAddr := (s.dbg.roAddr + 4) % 2 ^ 32 } } := by
  exact if_neg (by rw [elsewhere, Bool.false_and]; exact Bool.false_ne_true)

/-- The control blocks of the bearing die lie above the deck and the piers' memories (R28). -/
theorem not_onBearing {a : Nat} (low : a < 0x10000000) : onBearing a = false := by
  have below : ¬ 0x40040000 ≤ a := by omega
  have below' : ¬ 0x400C0000 ≤ a := by omega
  simp [onBearing, below, below']

theorem State.roWord_deck {a : Nat} (deck : a < deckEnd) : s.roWord a = some (s.deckWord a) := if_pos deck

/-- Between the deck and the piers' memories the map holds nothing (R507). -/
theorem State.roWord_none {a : Nat} (above : 0x02000000 ≤ a) (below : a < 0x10000000) : s.roWord a = none := by
  have control : inControl a = false := by
    have : ¬ 0x40000000 ≤ a := by omega
    simp [inControl, this]
  unfold State.roWord
  rw [if_neg (by unfold deckEnd; omega), if_neg (by omega), if_neg (by omega), if_neg (by omega), control]
  exact if_neg Bool.false_ne_true

/-- Settles O60, instruction by instruction. -/
theorem testAccessPort : Obligations.TestAccessPort := by
  unfold Obligations.TestAccessPort
  intro s cells addr idle bypassed captured a
  refine ⟨fun frozen => ⟨_, congrArg Host.Outcome.next (if_pos frozen), _, rfl⟩,
    fun running => ⟨_, congrArg Host.Outcome.next (if_neg (by rw [running]; decide)), rfl⟩, ⟨_, rfl, rfl⟩, fun c ctl => ?_,
    ⟨_, rfl, _, rfl⟩, ⟨_, rfl, rfl, s.idcode_fields⟩, ⟨_, rfl, rfl⟩,
    fun bearing early => ⟨_, rfl, (s.tap .roData).roCapture_early bearing early⟩, fun deck => ?_, fun above below => ?_⟩
  · simp only [List.mem_cons, List.not_mem_nil, or_false] at ctl
    rcases ctl with rfl | rfl
    · exact ⟨_, rfl, s.tapCtl.softFreeze_tap⟩
    · exact ⟨_, rfl, State.freezeUpdate_tap _⟩
  · refine ⟨_, rfl, ((s.tap .roData).roCapture_word (not_onBearing ?_)).trans ?_⟩
    · exact deck.trans (by decide)
    · rw [show (s.tap .roData).dbg.roAddr / 4 * 4 = a from rfl, (s.tap .roData).roWord_deck deck]
      exact congrArg (fun bad => { s with dbg := { s.dbg with
        ir := .roData, dr := s.deckWord a, drValid := s.dbg.frozen, roBad := bad
        roAddr := (s.dbg.roAddr + 4) % 2 ^ 32 } }) (Bool.or_false _)
  · refine ⟨_, rfl, ((s.tap .roData).roCapture_word (not_onBearing below)).trans ?_⟩
    rw [show (s.tap .roData).dbg.roAddr / 4 * 4 = a from rfl, (s.tap .roData).roWord_none above below]
    exact congrArg (fun bad => { s with dbg := { s.dbg with
      ir := .roData, dr := 0, drValid := s.dbg.frozen, roBad := bad
      roAddr := (s.dbg.roAddr + 4) % 2 ^ 32 } }) (Bool.or_true _)

end Sys2Proof.Machine
end

section
/-! PROOF. The machine as a whole: a step takes the front command, and what a reset leaves (R9, R464, R465). -/

namespace Sys2Proof.Machine
set_option Elab.async false

/-- Settles O1. -/
theorem stepRunsTheFront : Obligations.StepRunsTheFront := by
  unfold Obligations.StepRunsTheFront
  intro s c cs waiting
  unfold step
  rw [waiting]

/-- Settles O3: an empty register file reads every reset value, and every memory of the reset state is empty. -/
theorem resetState : Obligations.ResetState := by
  unfold Obligations.ResetState
  refine ⟨fun f i j => rfl, fun a => ⟨rfl, rfl⟩, fun c _ g _ => ite_self _, fun c _ => rfl, fun p => ⟨rfl, rfl⟩, ?_, ?_, ?_, rfl⟩
  all_goals decide +kernel

end Sys2Proof.Machine
end

section
/-! O29 fails, for one reason: a state of the model may hold in a register field a number wider than the field, and the ring of a
size wider than SIZE can name outruns the 15 bits of RING_WR. -/

namespace Sys2Proof.Machine
set_option Elab.async false

/-- Sequencer 0 is idle, with one entry, whose results go to its ring; the ring's SIZE, of 4 bits, holds 16, and its next record
is the last that RING_WR can name. -/
def wideRing : State :=
  liveWith [(F.CONV_SEQ_STAT_STATE, 0, 0, 1), (F.CONV_SEQ_CTL_ENTRIES, 0, 0, 1), (F.CONV_SEQ_RING_CFG_SIZE, 0, 0, 16),
    (F.CONV_SEQ_RING_WR, 0, 0, 32767)]

/-- The record of the trigger is written, and RING_WR goes back to 0. -/
theorem wideRing_started : (wideRing.trigger .start 0).rd F.CONV_SEQ_RING_WR = 0 := by decide +kernel

/-- SEQ_START is an access of the bearing die (R219). -/
theorem exec_seqStart {s : State} (n : Fin 32) (h : s.reaches [.conv]) : exec (.seqStart n) s = .next (s.trigger .start n) :=
  State.reach_eq (fun s => s.trigger .start n) h

/-- Refutes O29: the START of `wideRing` takes RING_WR from 32,767 to 0, where the statement has 32,768. -/
theorem not_sequencersConvert : ¬ Obligations.SequencersConvert := by
  unfold Obligations.SequencersConvert
  intro h
  have reaches : wideRing.reaches [.conv] := by decide
  obtain ⟨-, starts, -⟩ := h.1 wideRing 0 (.seqStart 0, wideRing, 2) reaches (List.mem_cons_self ..) (fun h => nomatch h)
  obtain ⟨t, run, -, next, -⟩ := starts (by decide +kernel) (by decide +kernel) (by decide +kernel) (by decide +kernel)
    (by decide +kernel)
  obtain rfl : wideRing.trigger .start 0 = t := Host.Outcome.next.inj ((exec_seqStart 0 reaches).symm.trans run)
  have outruns : (wideRing.rd F.CONV_SEQ_RING_WR % 2 ^ wideRing.rd F.CONV_SEQ_RING_CFG_SIZE + 1) %
      2 ^ wideRing.rd F.CONV_SEQ_RING_CFG_SIZE = 32768 := by decide +kernel
  exact absurd (wideRing_started.symm.trans (next.trans outruns)) (by decide)

end Sys2Proof.Machine
end

section
/-! PROOF. A cycle with no command (R41), and the instants of a span (R42 to R46): the tick and the windows. -/

namespace Sys2Proof.Machine
set_option Elab.async false

variable {s : State}

/-! ### A cycle with no command -/

theorem State.atPhase_forward {p : Nat} (forward : s.span.phase ≤ p) :
    s.atPhase p = { s with span := { s.span with phase := p } } := by
  unfold State.atPhase
  rw [Nat.max_eq_left forward]

/-- With no core running, only the span counter moves. -/
theorem State.toPhase_quiet {p : Nat} (quiet : s.busyCores = []) : s.toPhase p = s.atPhase p := by
  have still : (s.atPhase p).busyCores = [] := quiet
  change (s.atPhase p).each (s.atPhase p).busyCores _ = _
  rw [still]
  rfl

theorem step_idle (empty : s.pending = []) : step s = .next s.idle := by
  unfold step
  rw [empty]

/-- Settles O2: the span counter goes up where there is a span, the time from reset before there is one. -/
theorem emptyQueue : Obligations.EmptyQueue := by
  unfold Obligations.EmptyQueue
  intro s empty
  rw [step_idle empty]
  refine ⟨fun alive running within => ?_, fun alive before => ?_, fun still => ?_⟩
  · have idle : s.idle = s.toPhase (s.span.phase + 1) := by
      unfold State.idle
      rw [alive, running, decide_eq_true within]
      rfl
    have kept := s.toPhase_keeps (ex := .clock) (s.span.phase + 1)
    have next := State.atPhase_forward (Nat.le_succ s.span.phase)
    obtain ⟨frame, phase, -, -⟩ := kept.clock nofun
    rw [next] at frame phase kept
    refine ⟨_, rfl, ?_, ?_, ?_, fun quiet => ?_⟩
    · rw [idle, phase]
    · rw [idle, kept.pending]
      exact empty
    · rw [idle]
      exact frame
    · rw [idle, State.toPhase_quiet quiet, next]
  · exact congrArg _ (if_pos (by rw [alive, before]; rfl))
  · refine congrArg _ ?_
    unfold State.idle
    rcases still with dead | ⟨running, ended⟩
    · rw [dead]
      rfl
    · rw [running, decide_eq_false (by omega)]
      simp

end Sys2Proof.Machine
end

section
/-! PROOF. The tick and the windows of a span (R41 to R46): after the instant that opens a window, nothing of the instant's work
moves the clock. -/

namespace Sys2Proof.Machine
set_option Elab.async false

variable {s t : State}

/-! ### The clock -/

theorem SameClock.inWin (h : SameClock s t) (w : Win) : t.inWin w = s.inWin w := by
  unfold State.inWin
  rw [h.rd F.SPAN_STAT_WINDOW (by decide)]

theorem SameClock.running (h : SameClock s t) : t.running = s.running := by
  unfold State.running State.bit
  rw [h.rd F.SPAN_CTL_RUN (by decide)]

theorem Keeps.timing (h : Keeps .clock s t) : SameClock s t := h.clock nofun

/-- A window begins. -/
theorem State.inWin_wr (s : State) (w : Win) : (s.wr F.SPAN_STAT_WINDOW w.code).inWin w = true := by
  unfold State.inWin
  rw [State.rd_wr_same]
  cases w <;> decide

theorem State.running_wr_window (s : State) (v : Nat) : (s.wr F.SPAN_STAT_WINDOW v).running = s.running :=
  State.bit_wr_apart s v 0 0 0 0 (by decide)

/-! ### The tick -/

/-- The next frame begins at once, in its commit window (R41, R43). -/
theorem State.nextFrame_spec (s : State) (first : Bool) :
    (s.nextFrame first).frame = (if first then s.frame else (s.frame + 1) % 2 ^ 48) ∧ (s.nextFrame first).span.phase = 0 ∧
      (s.nextFrame first).inWin .commit = true ∧ (s.nextFrame first).running = s.running := by
  unfold State.nextFrame
  cases first
  · exact ⟨rfl, rfl, State.inWin_wr _ _, State.running_wr_window _ _⟩
  · exact ⟨rfl, rfl, State.inWin_wr _ _, State.running_wr_window _ _⟩

/-- The work of a tick takes the frame number on, and opens the commit window of a new span. -/
theorem State.tickWork_spec (s : State) (meas : Option Nat) :
    (s.tickWork meas).frame = (if meas.isNone then s.frame else (s.frame + 1) % 2 ^ 48) ∧
      (s.tickWork meas).span.phase = 0 ∧ (s.tickWork meas).inWin .commit = true ∧ (s.tickWork meas).running = s.running := by
  have ends : SameClock s s.spanEnds := (Keeps.rfl (ex := .clock)).spanEnds.timing
  rw [State.tickWork_eq]
  generalize s.spanEnds = u at ends
  obtain ⟨frame, phase, window, running⟩ := u.nextFrame_spec meas.isNone
  have begins : SameClock (u.nextFrame meas.isNone) ((u.nextFrame meas.isNone).spanBegins s.evr.queue.length s.frame meas) :=
    (Keeps.rfl (ex := .clock)).spanBegins.timing
  refine ⟨begins.frame.trans (frame.trans ?_), begins.phase.trans phase, (begins.inWin _).trans window,
    begins.running.trans (running.trans ends.running)⟩
  rw [show u.frame = s.frame from ends.frame]

theorem tick_opens (m : BitVec 32) (serves : s.serves []) (running : s.running = true) : Completes (.tick m) s fun t =>
    t.frame = (s.frame + 1) % 2 ^ 48 ∧ t.span.phase = 0 ∧ t.inWin .commit = true := by
  obtain ⟨frame, phase, window, -⟩ := (s.toPhase s.spanCyc).tickWork_spec (some m.toNat)
  have passed := (s.toPhase_keeps (ex := .clock) s.spanCyc).timing
  refine ⟨_, (State.act_eq _ serves).trans (congrArg _ (if_pos running)), frame.trans ?_, phase, window⟩
  rw [show (s.toPhase s.spanCyc).frame = s.frame from passed.frame]
  rfl

/-- RUN is set, before the first tick (R475). -/
def State.runs (s : State) : State :=
  (((s.wrB F.SPAN_CTL_RUN true).wrB F.SPAN_STAT_RUNNING true).wr F.SPAN_STAT_CUR_SEL
    (((s.wrB F.SPAN_CTL_RUN true).wrB F.SPAN_STAT_RUNNING true).rd F.SPAN_CTL_SEL)).admitOver

theorem State.runs_keeps (s : State) : Keeps .clock (s.wrB F.SPAN_CTL_RUN true) s.runs :=
  Keeps.rfl.wrB.wrSel.admitOver

theorem State.runs_running (s : State) : s.runs.running = true := by
  have set : (s.wrB F.SPAN_CTL_RUN true).running = true := by
    unfold State.running
    exact (State.bit_wr_same s true.toNat 0 0).trans (by decide)
  exact s.runs_keeps.timing.running.trans set

theorem admitDone_opens (serves : s.serves []) (admission : s.atStep .admission = true)
    (loaded : s.bit F.PIERCTL_STAT_LOADER_BUSY = false) : Completes .admitDone s fun t =>
      t.running = true ∧ t.frame = s.frame ∧ t.span.phase = 0 ∧ t.inWin .commit = true := by
  obtain ⟨frame, phase, window, running⟩ := s.runs.tickWork_spec none
  have off : ¬ (!s.atStep .admission || s.bit F.PIERCTL_STAT_LOADER_BUSY) = true := by
    rw [admission, loaded]
    decide
  refine ⟨s.runs.tickWork none, (State.act_eq _ serves : execAdmitDone s = _).trans (congrArg _ (if_neg off)), running.trans s.runs_running,
    frame.trans ?_, phase, window⟩
  exact s.runs_keeps.timing.frame

/-! ### The instants of a span -/

/-- What an instant at `p` shows: its window, the span counter at or past it, the frame number as it was. -/
def Shows (s : State) (w : Win) (p : Nat) (t : State) : Prop :=
  t.inWin w = true ∧ t.span.phase = max p s.span.phase ∧ t.frame = s.frame

/-- What follows the instant at which a window begins keeps what the instant shows. -/
theorem Shows.of_begun {w : Win} {p : Nat} {u t : State} (passed : SameClock (s.atPhase p) u)
    (kept : SameClock (u.wr F.SPAN_STAT_WINDOW w.code) t) : Shows s w p t :=
  ⟨(kept.inWin w).trans (u.inWin_wr w), kept.phase.trans passed.phase, kept.frame.trans passed.frame⟩

theorem State.toPhase_timing (s : State) (p : Nat) : SameClock (s.atPhase p) (s.toPhase p) :=
  (s.toPhase_keeps (ex := .clock) p).timing

/-- With no request waiting, none is served. -/
theorem Keeps.serveNone {ex : Extent} {s u : State} (h : Keeps ex s u) (none : u.port.waiting = []) : Keeps ex s u.serveWaiting := by
  unfold State.serveWaiting
  rw [none]
  exact h.ports none.symm

/-- What follows the end of the commit window: the accesses that waited, and the piers (R18, R42). -/
def State.windowOver (s : State) : State :=
  let s := if s.domOn .deck then s.applyHeld.w31Present.serveHeld else s
  let s := if s.domOn .net then s.serveWaiting else s
  if s.domOn .deck then s.dispatchAll else s

theorem Keeps.windowOver {s u : State} (h : Keeps .clock s u) (none : s.port.waiting = []) : Keeps .clock s u.windowOver := by
  have held : Keeps .clock s (if u.domOn .deck then u.applyHeld.w31Present.serveHeld else u) :=
    h.also fun h => h.applyHeld.w31Present.serveHeld
  exact (held.also fun served => served.serveNone (held.timing.waiting.trans none)).also fun h => h.dispatchAll

/-- What follows input-close: the pins are sampled (R501), and the schedules that swap get their writes (R46). -/
def State.inputOver (s : State) : State :=
  let s := if s.domOn .net then s.gpioSample else s
  if s.domOn .deck then s.swapWrites else s

theorem Keeps.inputOver {s u : State} (h : Keeps .clock s u) : Keeps .clock s u.inputOver :=
  (h.gpioSample.ite h).also fun h => h.swapWrites

theorem windowCloses (serves : s.serves []) (running : s.running = true) (none : s.port.waiting = []) :
    Completes .commitWindowClose s (Shows s .opened 1600) := by
  have passed := s.toPhase_timing 1600
  have idle : ((s.toPhase 1600).wr F.SPAN_STAT_WINDOW Win.opened.code).port.waiting = [] := passed.waiting.trans none
  exact ⟨((s.toPhase 1600).wr F.SPAN_STAT_WINDOW Win.opened.code).windowOver,
    (State.act_eq _ serves).trans (congrArg _ (if_pos running)), Shows.of_begun passed (Keeps.rfl.windowOver idle).timing⟩

theorem writeCloses (serves : s.serves []) (running : s.running = true) :
    Completes .writeClose s (Shows s .writeClosed (s.spanCyc - 8000)) := by
  have passed := s.toPhase_keeps (ex := .clock) (s.spanCyc - 8000)
  refine ⟨_, (State.act_eq _ serves).trans (congrArg _ (if_pos running)), Shows.of_begun (Keeps.timing ?_) .rfl⟩
  exact passed.mirrorClose.ite passed

theorem inputCloses (serves : s.serves []) (running : s.running = true) :
    Completes .inputClose s (Shows s .inputClosed (s.spanCyc - 4000)) :=
  ⟨((s.toPhase (s.spanCyc - 4000)).wr F.SPAN_STAT_WINDOW Win.inputClosed.code).inputOver,
    (State.act_eq _ serves).trans (congrArg _ (if_pos running)),
    Shows.of_begun (s.toPhase_timing _) Keeps.rfl.inputOver.timing⟩

/-- Settles O25. -/
theorem tickAndWindows : Obligations.TickAndWindows := by
  unfold Obligations.TickAndWindows
  refine ⟨fun s serves => ⟨fun m => tick_opens m serves, admitDone_opens serves⟩, fun s row rows serves running none => ?_⟩
  simp only [List.mem_cons, List.not_mem_nil, or_false] at rows
  rcases rows with rfl | rfl | rfl
  · exact windowCloses serves running none
  · exact writeCloses serves running
  · exact inputCloses serves running

end Sys2Proof.Machine
end

section
/-! PROOF. Command sets, tick markers and the status sample (R43, R54 to R57, R349). -/

namespace Sys2Proof.Machine
set_option Elab.async false

variable {s : State}

/-! ### Command sets and markers -/

theorem commandSet_sent (serves : s.serves [.deck]) (joint : s.joint = true) (output : s.atStep .output = true)
    (running : s.running = true) (reached : s.reached 800) : Completes .commandSetSend s fun t =>
      t = { s with span := { s.span with sent := some s.commandSet } } := by
  have sends : ¬ (!(s.joint && s.atStep .output)) = true := by
    rw [joint, output]
    decide
  exact ⟨_, (State.act_eq _ serves : execCommandSetSend s = _).trans
    (congrArg _ ((if_neg sends).trans (State.instant_of_reached running reached _))), rfl⟩

theorem marker_sent (len : Nat) (serves : s.serves []) (joint : s.joint = true)
    (ticks : s.running = true ∨ s.atStep .admission = true) (reached : s.running = true → s.reached (s.spanCyc - 48)) :
    Completes (.tickMarkerSend len) s fun t => t = { s with span := { s.span with marker := some s.nextSpanCyc } } := by
  have sends : ¬ (!(s.joint && (s.running || s.atStep .admission))) = true := by
    rw [joint, (Bool.or_eq_true _ _).mpr ticks]
    decide
  have still : s.instant (s.spanCyc - 48) id = s := by
    cases run : s.running
    · exact if_neg (by rw [run]; decide)
    · exact State.instant_of_reached run (reached run) id
  refine ⟨_, (State.act_eq _ serves : execTickMarkerSend len s = _).trans (congrArg _ (if_neg sends)), ?_⟩
  dsimp only
  rw [still]

/-! ### The apply instant (R43) -/

/-- The command set in the joint comes into force (R57). -/
def State.inForce (s : State) : State :=
  { s with span := { s.span with inForce := s.span.sent.getD s.span.inForce, sent := none } }

/-- The apply instant notes the length of its span. -/
def State.takesSel (s : State) : State := { s with span := { s.span with applySel := some s.sel } }

/-- What the channels do with the commands in force. -/
def State.applies (s : State) : State :=
  let s := if s.takesCommands then s.applyChannels else s
  if s.domOn .net then s.gpioApply else s

theorem Keeps.applies {ex : Extent} {u : State} (h : Keeps ex s u) : Keeps ex s u.applies :=
  (h.applyChannels.ite h).also fun h => h.gpioApply

/-- The solenoid periods begin again, in the same span. -/
def State.restarts (s : State) : State := if s.domOn .sol then s.solRestart else s

theorem State.restarts_keeps (s : State) : Keeps .span s s.restarts := Keeps.rfl.also fun h => h.solRestart

theorem applies_span (serves : s.serves []) (joint : s.joint = true) (running : s.running = true)
    (reached : s.reached (s.bearPhase 384)) : Completes .applyInstant s fun t =>
      t.span = { s.span with inForce := s.span.sent.getD s.span.inForce, sent := none, applySel := some s.sel } := by
  have joined : ¬ (!s.joint) = true := by
    rw [joint]
    decide
  refine ⟨(s.inForce.restarts.takesSel.applies).sortEvents s.evr.queue.length,
    (State.act_eq _ serves : execApplyInstant s = _).trans
      (congrArg _ ((if_neg joined).trans (State.instant_of_reached running reached _))), ?_⟩
  have kept : Keeps .span s.inForce.restarts.takesSel _ := (Keeps.rfl.applies).sortEvents (n := s.evr.queue.length)
  obtain ⟨span, sel⟩ := s.inForce.restarts_keeps.span rfl
  refine (kept.span rfl).1.trans ?_
  unfold State.takesSel
  dsimp only
  rw [span, sel]
  rfl

/-! ### The bearing die's tick (R54 to R57) -/

/-- The marker starts the newest span, `err` cycles from its prediction, and the next is predicted with its length. -/
def State.realigned (s : State) (err : BitVec 8) (len : Nat) : State :=
  ({ s with span := { s.span with
    due := none, bearLen := len, misses := 0, bear := Machine.realign err.toInt s.span.bear } }).wr
    F.SPAN_BEAR_STAT_ALIGN_ERR err.toNat

/-- What the bearing die does at its tick; a slip is recorded (R56). -/
def State.bearWork (s : State) (err : BitVec 8) : State :=
  (if 1 < err.toInt.natAbs then (s.incSat F.SPAN_BEAR_STAT_SLIP_COUNT).event 0x101 [] else s).bearSpan

theorem Keeps.bearWork {ex : Extent} {u : State} {err : BitVec 8} (h : Keeps ex s u) : Keeps ex s (u.bearWork err) :=
  (h.incSat.event.ite h).bearSpan

theorem bearTick_aligns (err : BitVec 8) {len : Nat} (serves : s.serves []) (due : s.span.due = some len) :
    Completes (.bearTick err) s fun t =>
      t.span = { s.span with due := none, bearLen := len, misses := 0, bear := realign err.toInt s.span.bear } ∧
      t.rd F.SPAN_BEAR_STAT_ALIGN_ERR = err.toNat := by
  refine ⟨(((s.realigned err len).bearWork err)).sortEvents (s.realigned err len).evr.queue.length,
    (State.act_eq _ serves : execBearTick err s = _).trans (congrArg _ ?_), ?_⟩
  · rw [due]
    rfl
  · have kept : Keeps .span (s.realigned err len) _ :=
      (Keeps.rfl.bearWork (err := err)).sortEvents (n := (s.realigned err len).evr.queue.length)
    refine ⟨(kept.span rfl).1, ((kept.clock nofun).rd _ (by decide)).trans ?_⟩
    exact (State.rd_wr_same _ F.SPAN_BEAR_STAT_ALIGN_ERR err.toNat 0 0).trans (Nat.mod_eq_of_lt err.isLt)

/-- A marker is missed: no span starts with it, and the miss is counted and recorded (R57). -/
def State.missesMarker (s : State) : State :=
  { s with span := { s.span with marker := none, due := none, misses := s.span.misses + 1 } }

theorem marker_missed (serves : s.serves []) (running : s.running = true) (joint : s.joint = true) (first : s.span.misses = 0) :
    Completes .bearMarkerMiss s fun t => t.span = { s.span with marker := none, due := none, misses := 1 } := by
  have misses : ¬ (!(s.running && s.joint)) = true := by
    rw [running, joint]
    decide
  have one : ¬ 2 ≤ s.span.misses + 1 := by omega
  have kept : Keeps .span s.missesMarker ((s.missesMarker.incSat F.SPAN_BEAR_STAT_MISS_COUNT).event 0x102 []).bearSpan :=
    Keeps.rfl.incSat.event.bearSpan
  refine ⟨_, (State.act_eq _ serves : execBearMarkerMiss s = _).trans (congrArg _ ((if_neg misses).trans (if_neg one))),
    (kept.span rfl).1.trans ?_⟩
  unfold State.missesMarker
  rw [first]

/-! ### The status sample (R349) -/

theorem LinksOnly.pts {s t : State} (h : LinksOnly s t) : t.pts = s.pts := by
  obtain ⟨_, _, _, _, rfl⟩ := h
  rfl

/-- A good result of a point's owner enters the next plane, before input-close (R46, R78). -/
theorem State.hwRaw_enters {p cls id : Nat} {raw : Int} {stamp : Nat × Nat} (takes : s.takesResults = true)
    (owner : (s.desc p).cls = cls ∧ (s.desc p).ownerId = id) (early : s.inputClosed = false) :
    (s.hwRaw p cls id raw false false stamp).pts.next = Sparse.put s.pts.next p
      { s.record (s.desc p) ((s.desc p).scaleRaw raw) .good stamp with cal := false } := by
  have taken : ¬ (!s.takesResults) = true := by
    rw [takes]
    decide
  unfold State.hwRaw State.hwWrite
  rw [if_neg taken]
  refine (congrArg (fun t : State => t.pts.next) (if_neg (not_not_intro owner))).trans ?_
  unfold State.enterResult
  rw [early]
  exact congrArg PointSt.next (LinksOnly.announce _ _ _ _).pts

theorem State.feed_one {cls id p : Nat} {raw : Int} {fault : Bool} {stamp : Nat × Nat} (one : s.pointsOf cls id = [p]) :
    s.feed cls id raw fault stamp = s.hwRaw p cls id raw fault false stamp := by
  unfold State.feed
  rw [one]
  rfl

/-- The register of the status word is none of those that say what the device takes. -/
theorem State.rd_measured {v : Nat} (f : Fld) (apart : F.METER_MEAS.key (0xDA - 0xC0) 0 ≠ f.key 0 0) :
    (s.wr F.METER_MEAS v (0xDA - 0xC0)).rd f = s.rd f :=
  State.rd_wr_ne _ _ _ _ _ _ _ _ apart

theorem State.measured_early {v : Nat} (early : s.inputClosed = false) :
    (s.wr F.METER_MEAS v (0xDA - 0xC0)).inputClosed = false := by
  unfold State.inputClosed State.running State.inWin State.bit at early ⊢
  rw [State.rd_measured _ (by decide), State.rd_measured _ (by decide)]
  exact early

theorem State.measured_takes {v : Nat} (coherent : s.coherent = true) (on : s.domOn .deck = true) :
    (s.wr F.METER_MEAS v (0xDA - 0xC0)).takesResults = true := by
  unfold State.takesResults State.coherent State.running State.atStep State.bit State.domOn State.mapBit at *
  rw [State.rd_measured _ (by decide), State.rd_measured _ (by decide), State.rd_measured _ (by decide), coherent, on]
  rfl

theorem status_sampled {p : Nat} (serves : s.serves [.deck]) (joint : s.joint = true) (running : s.running = true)
    (coherent : s.coherent = true) (early : s.inputClosed = false) (reached : s.reached (s.spanCyc - 4800))
    (sol : s.domOn .sol = false) (mot : s.domOn .mot = false) (fan : s.domOn .fan = false) (meter : s.domOn .meter = true)
    (one : s.pointsOf 3 0xDA = [p]) (cls : (s.desc p).cls = 3) (owner : (s.desc p).ownerId = 0xDA) :
    Completes .statusSample s fun t =>
      ∃ r, Sparse.find? t.pts.next p = some r ∧ r.qual = .good ∧
        r.value = ((s.desc p).clampVal ((s.desc p).scaleRaw s.meterStatus)).1 ∧
      ∀ p', p' ≠ p → Sparse.find? t.pts.next p' = Sparse.find? s.pts.next p' := by
  have joined : ¬ (!s.joint) = true := by
    rw [joint]
    decide
  have samples : exec .statusSample s = .next s.meterStatusSample := by
    refine (State.act_eq _ serves : execStatusSample s = _).trans (congrArg _ ((if_neg joined).trans
      ((State.instant_of_reached running reached _).trans ?_)))
    dsimp only
    rw [sol, if_neg Bool.false_ne_true, mot, if_neg Bool.false_ne_true, fan, if_neg Bool.false_ne_true, meter, if_pos rfl]
  have on : s.domOn .deck = true := by simpa using serves.2
  refine ⟨_, samples, ?_⟩
  unfold State.meterStatusSample
  rw [State.feed_one (s := s.wr F.METER_MEAS s.meterStatus (0xDA - 0xC0)) one]
  have next := State.hwRaw_enters (s := s.wr F.METER_MEAS s.meterStatus (0xDA - 0xC0)) (raw := s.meterStatus)
    (stamp := s.stamp) (p := p) (State.measured_takes coherent on) ⟨cls, owner⟩ (State.measured_early early)
  generalize (s.wr F.METER_MEAS s.meterStatus (0xDA - 0xC0)).hwRaw p 3 0xDA s.meterStatus false false s.stamp = t at next
  dsimp only
  rw [next]
  refine ⟨_, (Sparse.find?_put ..).trans (if_pos rfl), rfl, rfl, fun p' other => ?_⟩
  exact (Sparse.find?_put ..).trans (if_neg other.symm)

/-- Settles O26. -/
theorem jointAndStatus : Obligations.JointAndStatus := by
  unfold Obligations.JointAndStatus
  refine ⟨fun s => ⟨commandSet_sent, applies_span, marker_sent, fun err len serves due => bearTick_aligns err serves due,
    marker_missed⟩, fun s p => status_sampled⟩

end Sys2Proof.Machine
end
